-- ==== Sys2Proof/Word.lean ====
section
/-! DEFINITION. The word types of the block: octets, and the whole-number quantities of Table 0.4. -/

namespace Sys2Proof

/-- An octet of a transfer, a frame or an image. -/
abbrev Octet := BitVec 8

/-- Octets of a transfer, in transfer order. -/
abbrev Octets := List Octet

end Sys2Proof
end

