-- ==== Sys2Proof/Frames.lean ====
section
/-! DEFINITION. What commands carry: requests of the two transports, frames, edges, readings and events. Layouts that
the spec leaves to an outside standard (CiA 1301, IEEE 1588, NTP, PRP) are abstract records of the fields the rules name. -/

namespace Sys2Proof

/-- The two management transports (R72, R74). -/
inductive Transport where
  | can
  | spi
deriving DecidableEq, Repr

/-- A USDO request as CiA 1301 spells it (R81, R470); the octet layout is CiA 1301's and not in the spec. -/
inductive UsdoRequest where
  /-- Expedited download of up to 56 data octets. -/
  | expedited (index sub : Nat) (data : Octets)
  /-- Initiation of a segmented download, with the size if one is indicated. -/
  | initiate (index sub : Nat) (size : Option Nat)
  /-- A download segment: its place in the sequence, whether it ends the transfer, the octets its command octet
  declares and the octets the frame carries. -/
  | segment (seq : Nat) (last : Bool) (declared : Nat) (data : Octets)
  | uploadInitiate (index sub : Nat)
  | uploadSegment (seq : Nat)
  /-- The client's own abort of its transfer (CiA 1301). -/
  | clientAbort
  /-- Any other command octet. -/
  | unknown
deriving DecidableEq, Repr

/-- A USDO request frame as it completes on CAN (R73, R81): the node it is addressed to, its data length code and
whether the frame is shorter than its protocol requires. -/
structure CanRequest where
  node : Nat
  length : Nat
  short : Bool
  request : UsdoRequest
deriving DecidableEq, Repr

/-- One host transaction of the SPI tunnel (Table 3.2): header fields and frame octets as received, the USDO
request the octets spell and whether its frame is shorter than its protocol requires, and what the straps NODEID6 to NODEID0 read at
that time (R77). -/
structure SpiTransaction where
  kind : Nat
  length : Nat
  check : Nat
  octets : Octets
  request : UsdoRequest
  short : Bool
  straps : Nat
deriving DecidableEq, Repr

/-- Monitor readings of one exposure (R361, R403, R405, R406): 24 temperatures in 1/16 °C, 16 voltages in mV, 32
process frequencies in kHz, and the plate at which both copies of a plate-to-plate word failed. -/
structure Readings where
  temps : List Int
  volts : List Nat
  procs : List Nat
  exchangeFailed : Option Nat
deriving DecidableEq, Repr

/-- One spectral line of a GNSS band (R213): its place in Hz from the band centre and its height in dB over the median. -/
structure SpectralLine where
  port : Nat
  lower : Bool
  offsetHz : Int
  heightDb : Nat
deriving DecidableEq, Repr

/-- What a reel boundary brings from outside: whether the darkroom transfer carried a rail error (R389), the spectra
(R213), the measured phase error of each clock channel per plate in ps (R200), the darkroom count (R176). -/
structure ReelInputs where
  darkroomRailError : Bool
  lines : List SpectralLine
  channelErrors : List (Nat × Int × Int)
  darkroomCount : Nat
deriving DecidableEq, Repr

/-- Annex P authentication TLV of a PTP message (R302). -/
structure AuthTlv where
  isLast : Bool
  secParam : Nat
  spp : Nat
  keyId : Nat
  icv : Nat
deriving DecidableEq, Repr

/-- One TLV of a Signaling message (R304, R309). The message type is 0 Sync, 1 Announce, 2 Delay_Resp. -/
inductive SignalingTlv where
  | requestUnicast (msgType : Nat) (logInterval : Int) (duration : Nat)
  | cancelUnicast (msgType : Nat)
  | l1Sync (requirementsMet : Bool)
deriving DecidableEq, Repr

/-- PTP messages a port receives (R303). -/
inductive PtpBody where
  | delayReq
  | pdelayReq
  | signaling (tlvs : List SignalingTlv)
  /-- An Announce: its clockIdentity, whether the data-set comparison of IEEE 1588-2019 ranks it better (R301), its
  clockClass, and whether it is valid for an upstream instance. -/
  | announce (clockIdentity : Nat) (better : Bool) (clockClass : Nat)
  /-- Sync: its origin timestamp, 2⁻³² ns of TAI; none for a two-step Sync, whose Follow_Up brings it. -/
  | sync (origin : Option Int)
  | followUp (origin : Int)
  /-- Delay_Resp: its receive timestamp, 2⁻³² ns of TAI, and *B* and *u* of the bound record it carried. -/
  | delayResp (receive : Int) (bound : Option (Nat × Nat))
  /-- Pdelay_Resp: its request receipt timestamp, and its origin where no follow-up brings it, 2⁻³² ns; Pdelay_Resp_Follow_Up (R310). -/
  | pdelayResp (receipt : Int) (origin : Option Int)
  | pdelayFollowUp (origin : Int)
  | other
deriving DecidableEq, Repr

/-- A received PTP message. -/
structure PtpMessage where
  version : Nat
  majorSdoId : Nat
  lengthOk : Bool
  domain : Nat
  portIdentity : Nat
  sequenceId : Nat
  correction : Int
  logInterval : Int
  body : PtpBody
  auth : Option AuthTlv
  octets : Octets
deriving DecidableEq, Repr

/-- One NTP extension field (R314). -/
inductive NtpField where
  | uniqueId (body : Octets)
  | cookie (octets : Octets)
  | placeholder (length : Nat)
  | authenticator (nonce ciphertext : Octets)
  | other (kind length : Nat)
deriving DecidableEq, Repr

/-- A received NTP message (R314); for a reply of an upstream server its receive timestamp in the 64-bit NTP format, its stratum,
*B* and *u* of the record it carried and the cookies returned (R148). -/
structure NtpMessage where
  payload : Nat
  version : Nat
  mode : Nat
  poll : Nat
  transmit : Nat
  fields : List NtpField
  header : Octets
  stratum : Nat
  receive : Nat
  bound : Option (Nat × Nat)
  cookies : List Octets
deriving DecidableEq, Repr

/-- What a received frame carries, as far as the rules distinguish it (R272). -/
inductive Payload where
  | pause (quanta : Nat)
  | pfc (quanta : List (Option Nat))
  /-- An LLDPDU: Transmit Tw and Receive Tw of its EEE TLV in µs, where it has one (R259, R260). -/
  | lldp (eee : Option (Nat × Nat))
  | esmc (essm ssm : Nat)
  | ptp (layer2 : Bool) (upstream : Option Nat) (m : PtpMessage)
  | ntp (upstream : Option Nat) (m : NtpMessage)
  | plain
deriving DecidableEq, Repr

/-- The redundancy control trailer of a PRP frame (R366). -/
structure PrpTrailer where
  lan : Nat
  sequence : Nat
deriving DecidableEq, Repr

/-- A received frame (R254, R255, R272): octets on the wire from the destination address to the FCS, its tags, its
addresses, its checks and its payload. `head` holds its octets from the destination address on, tags and FCS included (R261,
R284). `ipOptions` is the
size of its IPv4 options (R267). `udp` says whether a UDP frame is IPv6, and its source port; `udpChecksum` is the checksum it
carries, and `udpChecksumOk` whether that verifies (R253). -/
structure RxFrame where
  codeError : Bool
  octets : Nat
  tags : Nat
  pcp : Option Nat
  vlan : Option Nat
  fcsOk : Bool
  dst : Nat
  src : Nat
  address : Nat
  service : Nat
  udp : Option (Bool × Nat)
  udpChecksum : Nat
  udpChecksumOk : Bool
  trailer : Option PrpTrailer
  head : Octets
  ipOptions : Nat
  arrival : Int
  payload : Payload
deriving DecidableEq, Repr

/-- One sample instant of a GNSS sample port as the pairs carry it (R210): 12-bit I and Q of the upper and the lower band. -/
structure GnssSample where
  upperI : Nat
  upperQ : Nat
  lowerI : Nat
  lowerQ : Nat
deriving DecidableEq, Repr

/-- A broadcast subframe, page or message of a satellite (R219): its kind, 0 ephemeris, 1 almanac, 2 ionosphere, 3 UTC parameters,
4 leap announcement; its octets in the on-air form, which the systems' own standards fix. -/
structure NavRecord where
  signal : Nat
  satellite : Nat
  kind : Nat
  octets : Octets
deriving DecidableEq, Repr

/-- What the navigation data held say of a satellite at an instant (R221, R227): range over *c*, tropospheric and broadcast ionospheric
delay of the upper band, satellite clock and relativistic terms in fs, elevation and azimuth in 0.1°, issue of data, and metres from
ephemeris to almanac position. -/
structure SatModel where
  range : Int
  tropo : Int
  iono : Int
  clock : Int
  rel : Int
  elevation : Nat
  azimuth : Nat
  issue : Nat
  almanac : Nat
deriving DecidableEq, Repr

/-- One satellite's observation for the least squares (R221): the reduced pseudo time of flight in fs. -/
structure SatObs where
  signal : Nat
  satellite : Nat
  rho : Int
  ionoFree : Bool
  cn0 : Nat
  elevation : Nat
deriving DecidableEq, Repr

/-- What the weighted least squares give (R221): receiver offset in fs, offsets of the systems estimated in ps, normalised residuals in
ps in the order of the observations, RMS residual and time deviation in ps, TDOP in 0.01, the position in mm. -/
structure Fit where
  bias : Int
  offsets : List (Nat × Int)
  residuals : List Nat
  rms : Nat
  sigma : Nat
  tdop : Nat
  position : Int × Int × Int
deriving DecidableEq, Repr

/-- What the FFT engine finds for one code in a capture (R216): peak over second peak in tenths, C/N0 in 0.01 dB-Hz, code phase in
2⁻³² chip and Doppler in mHz. -/
structure CodeFound where
  ratioTenths : Nat
  cn0 : Nat
  codePhase : Nat
  doppler : Int
deriving DecidableEq, Repr

/-- One event on an error line (R387): plate, line, class (1 corrected, 2 contained, 3 fatal) and detail word. -/
structure LineEvent where
  plate : Nat
  line : Nat
  cls : Nat
  detail : Nat
deriving DecidableEq, Repr

/-- Analogue outcome of a band selection on one plate (R192, Table 7.5). -/
structure BandResult where
  band : Nat
  tuningMv : Nat
deriving DecidableEq, Repr


/-- What auto-negotiation and training resolve on a lane (R242, R258, R259): whether RS-FEC is used, the pause
resolution, whether EEE resolves active and the negotiated wake time in ns. -/
structure NegotiationResult where
  rsFec : Bool
  pause : Nat
  eee : Bool
  wakeNs : Nat
deriving DecidableEq, Repr

/-- Inputs at the release of RESET_N (R417, R421, R443, R444): the test-enable and boot-select pins, and what the darkroom
line and the store's own checks say of each section (one bit a section as in 0x2F01.09); bit 4 or 5 of `older` where the newer copy of
section D or E fails its check and the earlier one is taken. -/
structure BootPins where
  testEnable : Bool
  sectionChecks : Nat
  badRecords : List Nat
  older : Nat
deriving DecidableEq, Repr

end Sys2Proof
end

