-- ==== Sys2Proof/Syntax.lean ====
section
/-! DEFINITION. The commands and events of the block: one constructor for each row of spec/opcode_table.json, in the order
of the table, with the operands that the sender gives. -/

namespace Sys2Proof

inductive Instr where
  /-- ENGINE_CYCLE (R99): Every time base adds its increment, with carry from the fraction into the nanoseconds and at 10^9 ns into the seconds. -/
  | engineCycle
  /-- EXPOSURE_BOUNDARY (R103): At cycle 0 of each exposure, pending sets, steps, committed increments and other exposure-boundary changes take effect on both plates. -/
  | exposureBoundary (readings : Readings)
  /-- REEL_BOUNDARY (R40): At cycle 0 of each reel every plan row returns to offset 0 and the per-reel updates run. -/
  | reelBoundary (inputs : ReelInputs)
  /-- MANAGEMENT_POINT (R83): At cycle 999,936 of each exposure the queued management requests are applied to both plates, and their responses are sent. -/
  | managementPoint
  /-- HEARTBEAT (R72): The heartbeat timer expires and a heartbeat frame is sent on CAN and queued for SPI. -/
  | heartbeat
  /-- CAN_FRAME_RECEIVED (R81): A USDO request frame completes on CAN and is queued in order for the management unit. -/
  | canFrameReceived (frame : CanRequest)
  /-- SPI_NMT_COMMAND (R74): An SPI transaction of type 0x01 carries an NMT command. -/
  | spiNmtCommand (x : SpiTransaction)
  /-- SPI_USDO_REQUEST (R74): An SPI transaction of type 0x02 carries a USDO request. -/
  | spiUsdoRequest (x : SpiTransaction)
  /-- SPI_READ_HEAD_FRAME (R76): An SPI transaction of type 0x03 returns the head frame of the output queue, or a type 0x80 header if the queue is empty. -/
  | spiReadHeadFrame (x : SpiTransaction)
  /-- SPI_REMOVE_HEAD_FRAME (R76): An SPI transaction of type 0x04 removes the head frame of the output queue. -/
  | spiRemoveHeadFrame (x : SpiTransaction)
  /-- START_REMOTE_NODE (R79): NMT command 0x01 enters Operational. -/
  | startRemoteNode (node : Nat)
  /-- STOP_REMOTE_NODE (R79): NMT command 0x02 enters Stopped. -/
  | stopRemoteNode (node : Nat)
  /-- ENTER_PRE_OPERATIONAL (R79): NMT command 0x80 enters Pre-operational. -/
  | enterPreOperational (node : Nat)
  /-- RESET_COMMUNICATION (R79): NMT command 0x82 resets the CAN and SPI controllers, the USDO server and the output queue, re-reads the node ID and sends the boot-up message. -/
  | resetCommunication (node straps : Nat)
  /-- RESET_NODE (R79): NMT command 0x81 has exactly the effect of Reset Communication. -/
  | resetNode (node straps : Nat)
  /-- USDO_EXPEDITED_DOWNLOAD (R81): An expedited download carries up to 56 data octets to an object. -/
  | usdoExpeditedDownload (t : Transport) (index sub : Nat) (data : Octets)
  /-- USDO_DOWNLOAD_INITIATE (R470): A segmented download is initiated and its data-independent checks are made. -/
  | usdoDownloadInitiate (t : Transport) (index sub : Nat) (size : Option Nat)
  /-- USDO_DOWNLOAD_SEGMENT (R470): A download segment is received and checked against its sequence and the announced size. -/
  | usdoDownloadSegment (t : Transport) (seq : Nat) (last : Bool) (declared : Nat) (data : Octets)
  /-- USDO_UPLOAD_INITIATE (R470): An upload is initiated, as a segmented transfer for every DOMAIN object. -/
  | usdoUploadInitiate (t : Transport) (index sub : Nat)
  /-- USDO_UPLOAD_SEGMENT (R81): A segment of an open upload is requested and returned. -/
  | usdoUploadSegment (t : Transport) (seq : Nat)
  /-- SEGMENT_TIMEOUT (R81): When 1,000 ms pass without the next segment, the open transfer is aborted with 0x0504_0000. -/
  | segmentTimeout
  /-- TRANSFER_ENDED_BY_ENGINE (R472): The engine ends an open transfer for a reason that no rule names and sends abort 0x0800_0022. -/
  | transferEndedByEngine
  /-- REGISTER_WRITE (R469): An accepted write to an object that has no row of its own is checked and applied at its management point. -/
  | registerWrite (t : Transport) (index sub : Nat) (data : Octets)
  /-- PERSISTENCE_COPY (R84): A written P value is copied to darkroom section A; a failed copy sends EMCY 0xFF01 and is counted. -/
  | persistenceCopy (index sub item : Nat) (ok : Bool)
  /-- SHADOW_TIMEOUT (R94): A shadow left uncommitted for 60 s sends EMCY 0xFF10 once. -/
  | shadowTimeout (group inst : Nat)
  /-- EMCY_LOST_REPORT (R97): When a place in the EMCY hold frees, EMCY 0xFF00 reports the count of EMCY frames lost. -/
  | emcyLostReport
  /-- COMMIT (R91): A write to sub 1 of a commit object commits the named instances if every shadow set agrees, and otherwise refuses the whole commit. -/
  | commit (t : Transport) (group mask : Nat)
  /-- DISCARD (R89): A write to sub 2 of a commit object returns the named instances' shadows to the set in force. -/
  | discard (t : Transport) (group mask : Nat)
  /-- SHADOW_WRITE (R90): A write to a member of an agreement group changes only its shadow and sets the instance's pending bit. -/
  | shadowWrite (t : Transport) (index sub : Nat) (data : Octets)
  /-- UNIT_ENABLE_WRITE (R5): A write to 0x2010 that is not refused takes effect at the next reel boundary on both plates. -/
  | unitEnableWrite (t : Transport) (sub : Nat) (data : Octets)
  /-- PLAN_IMAGE_DOWNLOAD (R62): A plan image is downloaded into the inactive bank and its check begins. -/
  | planImageDownload (t : Transport) (image : Octets)
  /-- PLAN_CHECK_COMPLETE (R63): The load checker completes the check of an image and either marks the plan checked or refuses it with the first failing rule. -/
  | planCheckComplete
  /-- SWAP_REQUEST (R66): A write to 0x2100.06 schedules a swap to the checked plan at a target reel. -/
  | swapRequest (t : Transport) (second : Nat)
  /-- CANCEL_SWAP (R66): A write to 0x2100.0B cancels a scheduled swap that has not latched. -/
  | cancelSwap (t : Transport) (value : Nat)
  /-- SWAP_LATCH (R67): At cycle 0 of exposure 997 the swap latches, unless the temperature check refuses it. -/
  | swapLatch
  /-- SWAP_ENTRY_WAKE (R67): At exposure 999 each wake controller wakes the new plan's entry set. -/
  | swapEntryWake
  /-- PLAN_SWAP (R67): At cycle 0 of the target reel both plates switch bank pointers and start the new plan. -/
  | planSwap
  /-- SWAP_COMPLETE (R67): One exposure after the swap, the plan objects take their new values, the old bank is emptied and EMCY 0xFF22 is sent. -/
  | swapComplete
  /-- NTS_REPLY (R47): A serving step of opcode 0x10 processes a bound NTS request through its template. -/
  | ntsReply (eng : Nat)
  /-- PTP_EVENT (R43): A serving step of opcode 0x11 binds the next due Sync calendar entry and builds the Sync. -/
  | ptpEvent (eng : Nat)
  /-- PTP_GENERAL (R47): A serving step of opcode 0x12 processes a bound PTP request, or sends an Announce from the Announce calendar. -/
  | ptpGeneral (eng : Nat)
  /-- BE_WINDOW (R47): A serving step of opcode 0x13 performs best-effort work for its window length. -/
  | beWindow (eng : Nat)
  /-- AES_SIV_PASS (R44): An AES-SIV cluster step of opcode 0x20 runs pass A or pass B for a serving engine. -/
  | aesSivPass (cluster : Nat)
  /-- HMAC_PASS (R44): An HMAC cluster step of opcode 0x21 runs its compressions for a serving engine. -/
  | hmacPass (cluster : Nat)
  /-- KNOWN_ANSWER_TEST (R337): A crypto cluster step of opcode 0x22 runs its named known-answer vector. -/
  | knownAnswerTest (kind cluster : Nat) (passA passB : Bool)
  /-- FIXER (R328): A fixer step of opcode 0x23 visits key slots and re-masks each slot whose period has run out. -/
  | fixer (kind cluster : Nat) (healthA healthB : Bool)
  /-- DEPART (R51): A port-egress step of opcode 0x30 schedules a departure at its grid point. -/
  | depart (pos : Nat)
  /-- FAST_TERM_UPDATE (R149): A Developer step of opcode 0x40 updates the fast terms, the steering word and the bound table. -/
  | fastTermUpdate
  /-- ENSEMBLE_PART (R151): A Developer step of opcode 0x41 runs part of the per-reel ensemble update. -/
  | ensemblePart
  /-- WAKE (R55): A wake-controller step of opcode 0x50 wakes an on-demand domain. -/
  | wake
  /-- SLEEP (R55): A wake-controller step of opcode 0x51 puts an on-demand domain to sleep. -/
  | sleep
  /-- HANDOFF_DEADLINE (R53): 96 cycles before a scheduled departure, the frame is handed off, withheld for its cause, or released when the step was idle. -/
  | handoffDeadline (pos : Nat) (digestsEqual : Bool)
  /-- DEPARTURE_MEASURED (R246): The aligner measures a scheduled frame's departure residual; a residual beyond ±0.2 ns logs a fault and puts the port into calibration hold. -/
  | departureMeasured (lane : Nat) (residualFs : Int)
  /-- ALIGNMENT_LOSS (R246): The departure aligner's phase error exceeds 100 ps and it reports loss of alignment. -/
  | alignmentLoss (lane : Nat)
  /-- ALIGNER_RELOCK (R246): The departure aligner re-locks and the port enters calibration hold. -/
  | alignerRelock (lane : Nat)
  /-- REQUEST_EXPIRE (R42): A request still unbound 50 exposures after delivery is discarded and counted. -/
  | requestExpire
  /-- FRAME_RECEIVE_COMPLETE (R255): A frame's last octet passes the receive MAC, and the frame is checked, tagged and counted. -/
  | frameReceiveComplete (lane : Nat) (f : RxFrame)
  /-- ENTRY_FORGET (R366): A discard-table entry older than the forget time is removed. -/
  | entryForget
  /-- REFIN_EDGE (R124): An edge on a REFIN input completes its TDC conversion and is tagged. -/
  | refinEdge (r : Nat) (fine : Int)
  /-- EVIN_EDGE (R115): An edge on an event input completes its conversion and is timestamped, decimated into the FIFO and passed to the interval units. -/
  | evinEdge (input : Nat) (rising : Bool) (fine : Int)
  /-- GNSS_SAMPLE_BLOCK (R212): A block of 1,024 sample instants completes at a GNSS sample port and is timestamped. -/
  | gnssSampleBlock (port : Nat) (framed : Bool) (age : Nat) (fine : Int) (samples : List GnssSample)
  /-- MEDIA_FRAME_RECEIVE (R346): A received TDM or I²S frame and its frame-start edge complete at a media port intake unit. -/
  | mediaFrameReceive (m age : Nat) (fine : Int) (bclks : Nat) (slots : List Int)
  /-- ITEM_DELIVERY (R15): 256 cycles after its tag cycle, an item is delivered to both plates in source order. -/
  | itemDelivery (railError : Bool)
  /-- INTAKE_FAULT (R17): An intake unit detects a fault and stops delivering to both plates in the same cycle. -/
  | intakeFault (source : Nat)
  /-- COMMON_CLOCK_FAILURE (R18): A self-check failure of the common clock section stops event frames and leads to a device reset. -/
  | commonClockFailure
  /-- TIME_BASE_SET (R103): A write to 0x3000+n.05 schedules a load of the counter at the next exposure boundary. -/
  | timeBaseSet (t : Transport) (n value : Nat)
  /-- TIME_BASE_STEP (R103): A write to 0x3000+n.06 schedules a step of the counter at the next exposure boundary. -/
  | timeBaseStep (t : Transport) (n : Nat) (ps : Int)
  /-- ARM (R111): Compare command 0x01 arms a unit, with effect from the next exposure boundary. -/
  | arm (t : Transport) (c : Nat)
  /-- DISARM (R111): Compare command 0x02 disarms a unit at the management point and cancels a pending arm. -/
  | disarm (t : Transport) (c : Nat)
  /-- COMPARE_FIRE (R109): An armed compare unit reaches its target and runs its action, and a periodic unit then advances its target. -/
  | compareFire (c : Nat)
  /-- TOD_MESSAGE (R207): A time-of-day message starts at its offset after a whole-second PPS edge. -/
  | todMessage (p : Nat)
  /-- CROSS_CAPTURE (R114): A write of 0x01 to 0x2203.01 latches all 32 time bases at the next exposure boundary. -/
  | crossCapture (t : Transport) (value : Nat)
  /-- LEAP_TABLE_WRITE (R107): A write to the leap table or offset is checked, and armed compares are converted again. -/
  | leapTableWrite (t : Transport) (index sub : Nat) (data : Octets)
  /-- EVENT_FIFO_RELEASE (R120): A write to 0x3020+i.09 removes event records up to a given sequence. -/
  | eventFifoRelease (t : Transport) (input seq : Nat)
  /-- CLEAR_FLAGS (R119): A write to a clear-flags object clears the named sticky flags. -/
  | clearFlags (t : Transport) (index mask : Nat)
  /-- TDC_CALIBRATION_COMPLETE (R117): A TDC code-density run ends and its table passes or fails its check. -/
  | tdcCalibrationComplete (input : Nat) (bins : List Nat) (skew : Int)
  /-- INTERVAL_MODE_WRITE (R122): A write to an interval unit's mode starts, changes or stops the unit at the next exposure boundary. -/
  | intervalModeWrite (t : Transport) (unit mode : Nat)
  /-- GATE_END (R122): At the end of an interval gate, the unit latches its statistics. -/
  | gateEnd (unit : Nat)
  /-- REFERENCE_ENABLE (R125): An enable of a reference is checked and puts the reference in Lost or Excluded. -/
  | referenceEnable (t : Transport) (r value : Nat)
  /-- LOUPE_MEASUREMENT (R127): The loupe takes a phase measurement of a reference against time base 0. -/
  | loupeMeasurement (r : Nat) (x : Int)
  /-- REFERENCE_LOSS (R131): The absence of activity for the detection time declares a reference Lost. -/
  | referenceLoss (r : Nat)
  /-- FREQUENCY_OUT_OF_WINDOW (R131): A kind 1 reference measured outside its frequency window over a sliding 10 ms count is disqualified. -/
  | frequencyOutOfWindow (r : Nat) (y : Int)
  /-- HOLD_OFF_END (R131): A Suspect reference's hold-off ends without a hit and the reference returns to Qualified. -/
  | holdOffEnd (r : Nat)
  /-- MANUAL_SELECTION (R137): A write to 0x2300.01 arms a manual selection or sets automatic selection. -/
  | manualSelection (t : Transport) (value : Nat)
  /-- CLEAR_CHALLENGE (R143): A write to 0x2300.0A clears the challenge of the named references. -/
  | clearChallenge (t : Transport) (mask : Nat)
  /-- ESMC_INFORMATION_PDU (R146): Each plate sends one ESMC information PDU per second on each SyncE lane. -/
  | esmcInformationPdu (lane : Nat)
  /-- ESMC_EVENT_PDU (R146): An ESMC event PDU is sent after a change of the QL sent. -/
  | esmcEventPdu (lane : Nat)
  /-- UPSTREAM_POLL (R147): An upstream instance sends its request as a best-effort frame. -/
  | upstreamPoll (inst : Nat)
  /-- COOKIE_LOAD (R148): A download to 0x2320+i.07 supplies NTS cookies to an upstream instance. -/
  | cookieLoad (t : Transport) (inst : Nat) (data : Octets)
  /-- REGISTRATION_STEP (R171): Registration command 0x01 schedules a step of a time base. -/
  | registrationStep (t : Transport)
  /-- SLOW_SLEW (R174): Registration command 0x02 starts a slow slew of a time base. -/
  | slowSlew (t : Transport)
  /-- REGISTRATION_CANCEL (R171): Registration command 0x03 cancels a scheduled step or stops a slow slew. -/
  | registrationCancel (t : Transport)
  /-- REGISTRATION_LATCH (R173): At exposure 999 before the target reel, n, q and r are fixed and cancel is refused. -/
  | registrationLatch
  /-- GATE_START (R173): Time base 0 is re-labelled by −n seconds and the datapath receives no cycles for the gate. -/
  | gateStart
  /-- GATE_RELEASE (R173): At the end of the gate the reel runs from slot 0, the status is registered and every port enters calibration hold. -/
  | gateRelease
  /-- REGISTRATION_COMPLETE (R173): One exposure after the gate, the step is reported and EMCY 0xFF3A is sent. -/
  | registrationComplete
  /-- DPLL_UPDATE (R181): A DPLL in mode 1 or 2 updates its loop on a reference measurement. -/
  | dpllUpdate (d : Nat) (error : Int)
  /-- DPLL_STAGE_END (R182): The dwell of a DPLL bandwidth stage expires and the next narrower stage starts. -/
  | dpllStageEnd (d : Nat)
  /-- OPLL_SAFE_POINT (R187): At its safe point, a committed output PLL change is classified as a ramp or a re-lock and begins. -/
  | opllSafePoint (o : Nat) (inRangeA inRangeB : Bool)
  /-- RAMP_UPDATE (R189): Every 1,000 cycles the ramp offset is advanced along its profile, and the ramp ends by folding the offset into the word. -/
  | rampUpdate
  /-- LOCK_DETECTED (R192): The re-locking output PLL detects lock on both plates and qualification begins. -/
  | lockDetected (o : Nat) (a b : BandResult)
  /-- RECIPE_LOCK_TIMEOUT (R194): Lock not detected within 18,000 ns on a recipe band starts a full search. -/
  | recipeLockTimeout (o : Nat)
  /-- ALIGNMENT_CORRECTION (R199): During qualification, an alignable channel is measured, corrected by a delay and verified. -/
  | alignmentCorrection (c : Nat) (measuredA measuredB : Int)
  /-- LOCK_QUALIFIED (R192): After 100 µs of qualified lock, gated channels are released to the VCO path. -/
  | lockQualified (o ns : Nat)
  /-- SEARCH_TIMEOUT (R195): Lock not qualified within 500 µs repeats the search, and after three repeats the PLL enters the failed state. -/
  | searchTimeout (o : Nat)
  /-- LOCK_LOSS (R196): A loss of lock outside a re-lock re-locks the PLL if both plates lost lock, and is a fatal fault of a plate that lost lock alone. -/
  | lockLoss (o : Nat) (a b : Bool)
  /-- LOCK_SENSE_MISMATCH (R198): The lock-sense input reading unlocked for more than 5 ms while digitally locked logs a contained fault. -/
  | lockSenseMismatch (o plate : Nat)
  /-- OUTPUT_REGISTRATION (R201): Command 0x01 to 0x3220+c.08 aligns the channel at its first low phase after the next exposure boundary. -/
  | outputRegistration (t : Transport) (c value : Nat)
  /-- CHANNEL_SAFE_POINT (R203): At its safe point, a clock channel restarts its divider and switches its output mode. -/
  | channelSafePoint (c : Nat)
  /-- RECIPE_INVALIDATE (R194): A write to 0x2502.04 invalidates recipes of the selected output PLL on both plates. -/
  | recipeInvalidate (t : Transport) (mask : Nat)
  /-- SAMPLE_PORT_FAULT (R212): A rate error or absent DCLK moves every channel of a GNSS port to Lost. -/
  | samplePortFault (p : Nat) (noDclk : Bool)
  /-- ACQUISITION_CAPTURE_END (R217): A 10 ms acquisition capture of the upper band ends in the capture film. -/
  | acquisitionCaptureEnd
  /-- ACQUISITION_COMPLETE (R216): The FFT engine completes its search of a capture and moves detected signals to Pull-in. -/
  | acquisitionComplete
  /-- NAVIGATION_UPLOAD (R219): A download to 0x2600.09 supplies navigation records that are decoded as if received. -/
  | navigationUpload (t : Transport) (data : Octets)
  /-- SOLUTION_DELIVERY (R221): At exposure 100 the time solution of a latch is checked and delivered to the loupe with its bound. -/
  | solutionDelivery (p : Nat)
  /-- CLEAR_EXCLUSION (R229): A write to 0x2605.06 clears the reference exclusion of a port. -/
  | clearExclusion (t : Transport) (mask : Nat)
  /-- SURVEY_COMPLETE (R225): At the end of the survey duration, the mean position is written and the position mode becomes fixed. -/
  | surveyComplete (p : Nat)
  /-- SNAPSHOT_ARM (R233): Snapshot command 0x01 arms a capture of a port at a reel boundary. -/
  | snapshotArm (t : Transport)
  /-- SNAPSHOT_CANCEL (R233): Snapshot command 0x02 cancels an armed snapshot. -/
  | snapshotCancel (t : Transport)
  /-- SNAPSHOT_PROCESS (R233): Snapshot command 0x03 starts processing a held snapshot. -/
  | snapshotProcess (t : Transport)
  /-- SNAPSHOT_RELEASE (R233): Snapshot command 0x04 releases the capture film to state 0. -/
  | snapshotRelease (t : Transport)
  /-- SNAPSHOT_CAPTURED (R232): A snapshot capture completes and the film holds it. -/
  | snapshotCaptured
  /-- SNAPSHOT_PROCESSED (R233): Snapshot processing completes and the solution is reported in 0x2606. -/
  | snapshotProcessed
  /-- TRACK_END (R236): At the end of a 780 s common-view track, a record is formed for each satellite and entered in the FIFO. -/
  | trackEnd
  /-- TRACK_FIFO_RELEASE (R237): A write to 0x260B.04 removes track records up to a given sequence. -/
  | trackFifoRelease (t : Transport) (seq : Nat)
  /-- LINK_DOWN (R262): A link fault that persists for 2 ms declares link-down, flushes the port and withholds scheduled departures. -/
  | linkDown (lane : Nat)
  /-- NEGOTIATION_COMPLETE (R242): Auto-negotiation and training resolve, or fail and restart after 1 s. -/
  | negotiationComplete (lane : Nat) (outcome : Option NegotiationResult)
  /-- LINK_UP (R263): After 50 ms free of faults the port becomes link-up and enters calibration hold. -/
  | linkUp (lane : Nat)
  /-- CALIBRATION_COMPLETE (R247): A 100 ms latency calibration of a lane passes or fails, and a failure is repeated at once. -/
  | calibrationComplete (lane : Nat) (tx rx : Int) (pass : Bool)
  /-- LOOPBACK (R265): A write to 0x3400+n.0D enters or leaves a lane loopback at the next exposure boundary. -/
  | loopback (t : Transport) (lane value : Nat)
  /-- TX_TIMESTAMP_COMPLETE (R249): A requested frame's copy departs or is not sent, and completes an entry in the port's TX-timestamp queue. -/
  | txTimestampComplete (lane : Nat) (status : Nat)
  /-- TX_TIMESTAMP_RELEASE (R251): A write to 0x3400+n.10 removes host-visible entries up to a given sequence. -/
  | txTimestampRelease (t : Transport) (lane seq : Nat)
  /-- PAUSE_EXPIRE (R258): The pause time of a received PAUSE or PFC frame ends and best-effort transmission resumes. -/
  | pauseExpire (lane queue : Nat)
  /-- LLDP_TRANSMIT (R260): Each enabled lane sends an LLDPDU at the LLDP interval. -/
  | lldpTransmit (lane : Nat)
  /-- BEST_EFFORT_START (R280): When a gap allows, the switch starts the head frame of the highest-priority queue that fits. -/
  | bestEffortStart (lane : Nat)
  /-- HEAD_AGE_DROP (R280): A head frame not started within 100 ms is dropped and its TX-timestamp entry completes with status 0x05. -/
  | headAgeDrop (plate queue : Nat)
  /-- STAGING_WRITE (R278): In each slot, the switch writes staged cells of admitted frames and then reads best-effort egress cells. -/
  | stagingWrite
  /-- HOST_TRANSMIT (R283): A download to 0x2810.01 submits a host frame to the queues of the positions in its mask. -/
  | hostTransmit (t : Transport) (data : Octets)
  /-- HOST_RECEIVE_RELEASE (R284): A write to 0x2811.02 removes host-receive frames up to a given sequence. -/
  | hostReceiveRelease (t : Transport) (seq : Nat)
  /-- FORWARDING_ENTRY_WRITE (R285): A write of a forwarding entry is checked and takes effect at the next exposure boundary. -/
  | forwardingEntryWrite (t : Transport) (data : Octets)
  /-- CLEAR_PEAK (R286): A write of 0x01 to a clear-peak object clears the recorded peak. -/
  | clearPeak (t : Transport) (index : Nat)
  /-- INSTANCE_ENABLE (R288): An enable or disable of a serving instance takes effect at the next exposure boundary. -/
  | instanceEnable (t : Transport) (index value : Nat)
  /-- LISTENING_END (R301): 3 Announce intervals after its entry and a lane's link-up, a port position leaves LISTENING for MASTER. -/
  | listeningEnd (inst pos : Nat)
  /-- GRANT_EXPIRE (R304): A unicast grant reaches its expiry and ends. -/
  | grantExpire (record kind : Nat)
  /-- PDELAY_REQ_TRANSMIT (R310): An 802.1AS instance sends Pdelay_Req once per second on each MASTER position. -/
  | pdelayReqTransmit (inst pos : Nat)
  /-- RECORD_QUARANTINE (R311): A multi-bit error in a client record quarantines it and voids its grants. -/
  | recordQuarantine (record : Nat)
  /-- CANCEL_GRANTS (R289): Record command 0x01 cancels the grants of a client record and sends CANCEL. -/
  | cancelGrants (t : Transport)
  /-- CLEAR_QUARANTINE (R311): Record command 0x02 clears the quarantine of a client record. -/
  | clearQuarantine (t : Transport)
  /-- KEY_IMPORT (R325): A download to 0x2A02 imports a wrapped key into a slot after the checks of Table 12.4. -/
  | keyImport (t : Transport) (data : Octets)
  /-- ROOT_LOAD (R324): A 32-octet download to 0x2A04 loads the root into an empty slot 0. -/
  | rootLoad (t : Transport) (data : Octets)
  /-- SIGNED_POLICY_RELEASE (R326): A signed download to 0x2A05 clears the signed-import requirement. -/
  | signedPolicyRelease (t : Transport) (data : Octets)
  /-- INVALIDATE (R327): A write to 0x2A03 orphans a slot and every slot that descends from it. -/
  | invalidate (t : Transport) (value : Nat)
  /-- ORPHAN_ERASE (R327): Within the following exposure, orphaned slots are overwritten with zeros and enter state 4. -/
  | orphanErase
  /-- COOKIE_GENERATION_WRITE (R334): A write of a cookie generation entry is checked and may make a new generation current. -/
  | cookieGenerationWrite (t : Transport) (sub value : Nat)
  /-- ASSOCIATION_ENTRY_WRITE (R336): A write of a PTP association entry is checked against its slot. -/
  | associationEntryWrite (t : Transport) (data : Octets)
  /-- TAMPER_ENABLE_WRITE (R333): A write to 0x2A30.01 enables tamper inputs, or is refused when it clears one while the root is valid. -/
  | tamperEnableWrite (t : Transport) (value : Nat)
  /-- ZEROISATION (R331): A tamper assertion of 100 µs, VBAT below 1.62 V or an invalidation of slot 0 erases the root and every key. -/
  | zeroisation (cause : Nat)
  /-- ROOT_REMASK (R330): The darkroom re-masks its copy of the root every re-mask period on its own clock. -/
  | rootRemask
  /-- CLOCK_LOSS (R353): A slave media port declares loss of clock, holds SDO low and mutes the channels that depend on it. -/
  | clockLoss (m : Nat)
  /-- CLOCK_STABLE (R354): 50 ms after ASRC lock with no loss condition, the port runs again and muted channels re-open. -/
  | clockStable (m : Nat)
  /-- MEDIA_FRAME_START (R347): At a frame start the serializer sends the next whole frame of the FIFO, or a frame of zeros on underrun. -/
  | mediaFrameStart (m : Nat)
  /-- MEDIA_SAFE_POINT (R348): At its safe point, a committed slot set is captured at slot 0 of the frame. -/
  | mediaSafePoint (m : Nat)
  /-- CHANNEL_ENABLE (R351): A write to a media channel's enable schedules an opening or closing through the zero-crossing gate. -/
  | channelEnable (t : Transport) (value : Nat)
  /-- GATE_SWITCH (R351): At the first zero crossing of its source, the channel's gate opens or closes. -/
  | gateSwitch (m c : Nat)
  /-- GATE_TIMEOUT (R351): With no crossing within the timeout, the gate switches with a 64-sample linear ramp. -/
  | gateTimeout (m c : Nat)
  /-- GRID_RESTART (R345): After a step of its time base, a media port's grid restarts at the next whole second. -/
  | gridRestart (m : Nat)
  /-- COMBINER_FAULT (R357): A media combiner's self-check failure holds the port's pins idle. -/
  | combinerFault (m : Nat)
  /-- MEDIA_LOOPBACK (R408): A write to 0x2E10.m loops a media port's transmit frames to its receive path. -/
  | mediaLoopback (t : Transport) (m value : Nat)
  /-- ROLE_SWAP (R369): Role command 0x01 exchanges the active and standby plates at the next exposure boundary. -/
  | roleSwap (t : Transport)
  /-- STANDBY_TO_PROOF (R369): Role command 0x02 sends the standby to Demoted and then to full proof. -/
  | standbyToProof (t : Transport)
  /-- DIVERGENCE (R372): A difference at a comparison point is counted and reported, and a demotion follows. -/
  | divergence (point detail : Nat)
  /-- PROOF_COMPLETE (R377): A plate's full proof ends, leading to re-synchronisation, a wait in Proof, or Failed. -/
  | proofComplete (plate : Nat) (pass : Bool) (test ms : Nat)
  /-- RESYNC_START (R380): Re-synchronisation begins: the mirror starts and the bulk copy of architectural state runs. -/
  | resyncStart (plate : Nat)
  /-- RESYNC_SNAPSHOT (R380): Both plates snapshot their architectural state for comparison. -/
  | resyncSnapshot
  /-- DIGEST_COMPARE (R382): The digests of the snapshots are compared; a mismatch restarts re-synchronisation once and then fails the plate. -/
  | digestCompare (equal : Bool)
  /-- JOIN (R380): At exposure J the joining plate executes every new step and enters Standby. -/
  | join
  /-- MIRROR_STOP (R380): One exposure after the join, the mirror stops and all comparisons apply. -/
  | mirrorStop
  /-- PLATE_RESET_END (R383): A plate held in reset for 10 ms is released into full proof. -/
  | plateResetEnd (plate : Nat)
  /-- SUPERVISION_TRANSMIT (R367): Each plate sends a PRP supervision frame per interval on its own lane. -/
  | supervisionTransmit (pos : Nat)
  /-- ERROR_LINE_EVENT (R390): An error line raises an event, which the collector latches, classifies, acts on and records. -/
  | errorLineEvent (events : List LineEvent)
  /-- CONTACT_SHEET_SAVE (R401): Within 100 ms of the freeze, the last 16 entries are copied to the darkroom store. -/
  | contactSheetSave
  /-- STATUS_CLEAR (R388): A write to 0x2D12.w clears status bits at the management point. -/
  | statusClear (t : Transport) (word mask : Nat)
  /-- SEVERE_HOLD_END (R396): A severe source's hold time ends and the source returns to normal. -/
  | severeHoldEnd (source : Nat)
  /-- CLEAR_ADDRESS (R398): A write to 0x2D20.0C ends an address's hold and clears its count. -/
  | clearAddress (t : Transport) (address : Nat)
  /-- CLEAR_LANES (R398): A write to 0x2D20.0E ends the hold of the named lanes and clears their counts. -/
  | clearLanes (t : Transport) (mask : Nat)
  /-- CONTACT_SHEET_CLEAR (R401): A write of 0x01 to 0x2D30.05 empties and unfreezes the contact sheet. -/
  | contactSheetClear (t : Transport) (value : Nat)
  /-- INJECT_CORRECTED (R409): Injection command 1 injects a corrected event on the chosen plate and line. -/
  | injectCorrected (t : Transport)
  /-- INJECT_CONTAINED (R409): Injection command 2 injects a contained event on the chosen plate and line. -/
  | injectContained (t : Transport)
  /-- INJECT_FATAL (R409): Injection command 3 injects a fatal event on a standby plate, which demotes it. -/
  | injectFatal (t : Transport)
  /-- RESET_RELEASE (R417): The release of RESET_N starts the power-up sequence with the darkroom read and the master PLL start. -/
  | resetRelease (pins : BootPins)
  /-- SELF_TEST_COMPLETE (R417): The power-up self-test ends and the management unit sends the boot-up message. -/
  | selfTestComplete (result straps : Nat)
  /-- FIRMWARE_APPLIED (R414): The usable firmware slot is read, verified and applied, or the engine enters boot-hold. -/
  | firmwareApplied
  /-- BOOT_PLAN_CHECKED (R419): The chosen boot plan is read and checked, replaced by the hot image or the ROM plan on refusal. -/
  | bootPlanChecked
  /-- TIME_BASE_RESTORE (R421): The root is copied to slot 0 and time base 0 is loaded from the darkroom mapping. -/
  | timeBaseRestore
  /-- SERVICE_START (R417): At T0 the plan begins, plate A becomes active and plate B standby, and EMCY 0xFFC0 is sent. -/
  | serviceStart
  /-- SUPPLY_LOSS (R457): VDD or VDDIO18 falling below its detector threshold acts as a power cycle with VBAT held. -/
  | supplyLoss
  /-- RESET_ASSERT (R424): RESET_N asserted starts a device reset. -/
  | resetAssert
  /-- DEVICE_RESET (R424): A write of 0x7273_7464 to 0x2F21.01 commands a device reset, keeping the darkroom. -/
  | deviceReset (t : Transport)
  /-- DEVICE_RESET_WITH_DEFAULTS (R424): A write of 0x7273_7466 to 0x2F21.01 commands a device reset that replaces section A with OTP defaults. -/
  | deviceResetWithDefaults (t : Transport)
  /-- DEVICE_RESET_APPLY (R424): 10 ms after its response, an accepted device reset is applied. -/
  | deviceResetApply
  /-- REINITIALISE_PORT (R426): Function class 0x01 re-initialises a port, taking its link down at once. -/
  | reinitialisePort (t : Transport) (inst : Nat)
  /-- REINITIALISE_LOUPE (R426): Function class 0x02 re-initialises a reference loupe, which becomes Lost. -/
  | reinitialiseLoupe (t : Transport) (inst : Nat)
  /-- REINITIALISE_DPLL (R426): Function class 0x03 re-initialises a DPLL's loop state. -/
  | reinitialiseDpll (t : Transport) (inst : Nat)
  /-- REINITIALISE_OUTPUT_PLL (R426): Function class 0x04 invalidates an output PLL's recipes and re-locks it with a full search. -/
  | reinitialiseOutputPll (t : Transport) (inst : Nat)
  /-- REINITIALISE_GNSS (R426): Function class 0x05 returns every GNSS channel to Idle and re-arms the sample ports. -/
  | reinitialiseGnss (t : Transport)
  /-- REINITIALISE_MEDIA_PORT (R426): Function class 0x06 re-arms a media port's combiner and clears its FIFOs. -/
  | reinitialiseMediaPort (t : Transport) (inst : Nat)
  /-- REINITIALISE_SERVING_GROUP (R426): Function class 0x07 resets the eight engines of a serving group. -/
  | reinitialiseServingGroup (t : Transport) (inst : Nat)
  /-- REINITIALISE_PLATE (R383): Function class 0x08 resets one plate, swapping roles first if it is active. -/
  | reinitialisePlate (t : Transport) (inst : Nat)
  /-- REINITIALISE_DEVELOPER (R426): Function class 0x09 restarts the Developer core from ROM, keeping its state. -/
  | reinitialiseDeveloper (t : Transport)
  /-- REINITIALISATION_END (R426): A function re-initialisation ends as completed or failed and EMCY 0xFFC6 is sent. -/
  | reinitialisationEnd (fn : Nat) (ok : Bool)
  /-- FLASH_IMAGE_DOWNLOAD (R416): A download to 0x2F30.02 is checked and then written to the selected flash region. -/
  | flashImageDownload (t : Transport) (data : Octets)
  /-- FLASH_WRITE_COMPLETE (R416): The erase, program and read-back of a flash region end, and the result is reported. -/
  | flashWriteComplete (ok : Bool)
  /-- REVOKE (R415): A write to 0x2F40.04 revokes an OTP public key. -/
  | revoke (t : Transport) (value : Nat)
  /-- RAISE_FLOOR (R415): A write to 0x2F40.06 raises the firmware rollback floor. -/
  | raiseFloor (t : Transport) (value : Nat)
  /-- LINK_FAULT (R262): A link fault begins on a lane (loss of CDR lock, block lock, code-group synchronisation or FEC alignment, a local or remote fault, or a partner restart of negotiation), starting the 2 ms persistence and restarting any 50 ms debounce count. -/
  | linkFault (lane : Nat)
  /-- BLOCK_LOCK_RETURN (R247): Receive block lock or alignment returns on a lane, which enters link state 3 after a link-down, or enters calibration hold after a loss shorter than the link-down persistence. -/
  | blockLockReturn (lane : Nat)
  /-- ESMC_TIMEOUT (R131): 5 s pass without a valid ESMC on a SyncE lane, and its reference is disqualified with reason 0x05. -/
  | esmcTimeout (lane : Nat)
  /-- CAN_ERROR_STATE_CHANGE (R402): The CAN controller enters or leaves error passive or bus-off, which changes error register bit [4] and sends the EMCY of the change. -/
  | canErrorStateChange (state : Nat)
  /-- SPI_INVALID_TRANSACTION (R75): An SPI transaction whose type is unknown is discarded, with no reply, and is counted in 0x2004.04. -/
  | spiInvalidTransaction (x : SpiTransaction)
  /-- TAP_INSTRUCTION (R444): An instruction is shifted into the test access port, and it is accepted or ignored according to RESET_N (only BYPASS and IDCODE while RESET_N is high). -/
  | tapInstruction (ir : Nat)
  /-- ASLEEP_DOMAIN_PROOF (R375): The standby runs the logic self-test of a domain that the plan holds asleep, and the test ends with the domain reset and the proof counted, or with a fatal fault. -/
  | asleepDomainProof (cls idx : Nat) (pass : Bool)
deriving DecidableEq, Repr

end Sys2Proof
end

