-- ==== Sys2Proof/Config.lean ====
section
/-! DEFINITION. What the spec leaves open or to an outside standard: constants with no body, so that no proof can see a
value. Each is named in the assumption log. -/

namespace Sys2Proof.Config

/-- A value the spec leaves open, fresh at each use (log 5): the argument is the counter `free` of the state. -/
opaque freeNat : Nat → Nat
/-- A signed value the spec leaves open, fresh at each use (log 5). -/
opaque freeInt : Nat → Int

/-- OTP contents of the part (Table 16.1), by field number and instance (log 6). -/
opaque otp : Nat → Nat → Nat
/-- Ed25519: public key, message and signature (R61, R413; log 6). -/
opaque ed25519Verify : Octets → Octets → Octets → Bool
/-- RFC 3394 AES-KW unwrap under a key; none where the integrity check fails (R325; log 6). -/
opaque aesKwUnwrap : Octets → Octets → Option Octets
/-- RFC 5297 AES-SIV open: key, associated data, nonce, ciphertext; none where it does not verify (R314; log 6). -/
opaque aesSivOpen : Octets → List Octets → Octets → Octets → Option Octets
/-- RFC 5297 AES-SIV seal: key, associated data, nonce, plaintext (R315; log 6). -/
opaque aesSivSeal : Octets → List Octets → Octets → Octets → Octets
/-- HMAC-SHA-256 of a message under a key (R302; log 6). -/
opaque hmacSha256 : Octets → Octets → Octets
/-- SHA-256 (log 6). -/
opaque sha256 : Octets → Octets
/-- Output number `n` of the DRBG (R328, R335; log 6). -/
opaque drbg : Nat → Octets
/-- The next value of the RED registers of R276: the form of the register for its polynomial is not given (log 12). -/
opaque lfsrNext : Nat → Nat
/-- Lengths of frames that outside standards fix (ESMC, LLDP, upstream requests, PRP supervision), by kind (log 8). -/
opaque frameOctets : Nat → Nat
/-- Octets of a USDO response in the layout of CiA 1301, at most 64: kind in the order of the model's type, index, sub-index, size, number or
abort code, data (R72, R81; log 8). -/
opaque usdoOctets : Nat → Nat → Nat → Nat → Octets → Octets
/-- The records of a navigation upload, if each passes its own parity or CRC, which the systems' own standards fix (R219;
log 8). -/
opaque navRecords : Octets → Option (List NavRecord)
/-- The sums I and Q of a correlator over an exposure (R214): a fresh value, the signal, the component (0 pilot, 1 data, 2 an unused
code, 3 data delayed by one symbol) and the spacing in 0.01 chip. The codes are the systems' own (log 89). -/
opaque correlate : Nat → Nat → Nat → Int → Int × Int
/-- A loop's discriminator on the correlator sums of a signal (R218, log 89): 0 code in 2⁻³² chip, 1 carrier phase in 2⁻³² cycle,
2 frequency in mHz. -/
opaque discriminator : Nat → Nat → List (Int × Int) → Int
/-- Gain of the carrier loop of a bandwidth in mHz by order 1 to 3, in units of 2⁻³² (R218, log 89). -/
opaque carrierGain : Nat → Nat → Int
/-- PLL lock indicator in 0.001, C/N0 estimate in 0.01 dB-Hz and multipath metric in ps from the correlator sums (R215, Table 8.5;
log 89). -/
opaque lockIndicator : List (Int × Int) → Nat
opaque cn0Estimate : List (Int × Int) → Nat
opaque multipath : List (Int × Int) → Nat
/-- Symbol or secondary-code synchronisation (R215, log 89). -/
opaque symbolSync : Nat → Nat → List (Int × Int) → Bool
/-- The time of week that a channel decodes, if it does in this exposure: the system time in fs of the start of its code period, counted
from the epoch of TAI less the labelling offset of R224 (log 89). -/
opaque timeOfWeek : Nat → Nat → Option Int
/-- The time of flight in fs assumed when a time of week is held against time base 0 (R224, log 89). -/
opaque flightTime : Nat → Nat → Int
/-- A subframe, page or message that a channel completes in this exposure (R219, log 89). -/
opaque navMessage : Nat → Nat → Option NavRecord
/-- New offset TAI − UTC and TAI second of a broadcast leap announcement (R227, log 89). -/
opaque navLeap : NavRecord → Int × Nat
/-- The leap offset that a system broadcasts (test 0x14), the system's time minus its UTC in fs at a TAI second (R221), and a system's
offset against the primary in ps where it is broadcast (R223; log 89). -/
opaque broadcastLeap : List NavRecord → Nat → Option Int
opaque utcOffset : List NavRecord → Nat → Nat → Int
opaque systemOffset : List NavRecord → Nat → Nat → Option Int
/-- Code phase in 2⁻³² chip, Doppler in mHz and tolerance of the code phase in 0.001 chip, predicted from navigation data held for a
signal of a satellite at a place (mm) and a counter value (R215, R217; log 89). -/
opaque codePrediction : List NavRecord → Nat → Nat → Int × Int × Int → Nat → Option (Nat × Int × Nat)
/-- Doppler in mHz predicted from an almanac (R216, log 89). -/
opaque almanacDoppler : List NavRecord → Nat → Nat → Nat → Option Int
/-- The model of a satellite from the navigation data held, for a place and the transmit time in fs (R221; the orbit models are the
systems' own, log 89). -/
opaque satModel : List NavRecord → Nat → Nat → Int × Int × Int → Int → Option SatModel
/-- Weighted least squares of R221: whether the position is estimated, the systems whose offset is, the observations; none where the
equations have no solution. The weights and the geometry are not given in closed form (log 89). -/
opaque leastSquares : Bool → List Nat → List SatObs → Option Fit
/-- The FFT engine's search of a capture for a code: samples, signal, satellite, Doppler centre in mHz, window in mHz, coherent time in
ms, bin in mHz, non-coherent sums (Table 8.3, log 89). -/
opaque acquire : List (Int × Int) → Nat → Nat → Int → Nat → Nat × Nat × Nat → Option CodeFound
/-- Transmit time in fs that a snapshot's samples give for a signal of a satellite with navigation data and a time hint (R233, log 89). -/
opaque snapshotTransmit : Octets → List NavRecord → Nat → Nat → Nat → Option Int
/-- The running RMS of a band after a block, from its value before and the samples (R213: the averaging is not given; log 89). -/
opaque runningRms : Nat → List (Int × Int) → Nat
/-- Power in 0.01 dBFS of a sum of squares over a number of samples (0x2601.0C, log 89). -/
opaque dbfs : Nat → Nat → Int
/-- The sigma-delta modulator of a DCO at an output edge (R180): from the dither mode and register, the modulator's two integrators, the
accumulator left after the edge and the word, the code of the digital-to-time converter in 2⁻⁸ ns and the integrators after it (log 12). -/
opaque edgePlace : Nat × Nat → Int × Int → Nat × Nat → Nat × (Int × Int)
/-- Whether a grid point of a mode, counted from the start of the reel, is excluded: the marker patterns of 0x2111 (Table 2.5) are
not given (log 17). -/
opaque gridExcluded : Nat → Nat → Bool
/-- The exclusion pattern that 0x2111.05 reads for a mode (log 17). -/
opaque gridPattern : Nat → Nat
/-- Operands of the ROM plan's steps by opcode and slot: not given (R419, log 19). -/
opaque romOperand : Nat → Nat → Nat
/-- A process monitor's OTP reference in kHz at a mean temperature of the die in 1/16 °C (R406 gives no law; log 99). -/
opaque procReferenceAt : Nat → Int → Nat
/-- A quantity that the part measures and that no command brings (rates, powers, signal strengths): object index, sub-index, item
and instant of the reading (log 7). -/
opaque reading : Nat → Nat → Nat → Nat → Nat
/-- A sample of the sine tone (Table 13.1): frequency in mHz, rate, number of the sample from phase 0 (log 7). -/
opaque toneSample : Nat → Nat → Nat → Int
/-- A sample of the linear timecode (R355; SMPTE ST 12-1, log 8): frame-rate code, label second, frame number, user bits, and the place of
the sample in the frame with its denominator. -/
opaque ltcSample : Nat → Int → Nat → Nat → Nat × Nat → Int
/-- An output sample of an ASRC (R346; its filter is not given, log 7): ratio in 10⁻¹⁸, number of the sample, the input samples newest
first. -/
opaque asrcSample : Int → Nat → List Int → Int
/-- A sample scaled by a channel level in 0.01 dBFS (log 7). -/
opaque mediaScale : Int → Int → Int

end Sys2Proof.Config
end

