-- ==== Sys2Proof/Machine/DictTypes.lean ====
section
/-! DEFINITION. The shape of an object-dictionary row (R85, R431): data type, access code, range, persistence. -/

namespace Sys2Proof.Machine

/-- Data types of the object tables (R9, Table 0.4); `n` counts octets. -/
inductive OType where
  | uint (n : Nat)
  | int (n : Nat)
  /-- OCTET_STRING and TIME112: carried most significant octet first (R10). -/
  | octets (n : Nat)
  | text (n : Nat)
  | domain
deriving DecidableEq, Repr

/-- Access codes (Table 3.5). -/
inductive OAccess where
  | rw | ro | wo | const
deriving DecidableEq, Repr

/-- The range an object table gives a value; a range that depends on other objects is the family's own check. -/
inductive ORange where
  | any
  | within (lo hi : Int)
  | oneOf (l : List Int)
  /-- Only the bits of `m` may be 1. -/
  | mask (m : Nat)
  | zeroOr (lo hi : Int)
  | upToOr (hi other : Int)
  | atLeast (lo : Int)
  | multiple (n : Nat)
  /-- A TIME112 value: nanoseconds below 1,000,000,000 (R9). -/
  | time112
  /-- Output points of 0x2405.02. -/
  | outputPoint
deriving DecidableEq, Repr

/-- One row of an object table: the sub-indices it covers, its type, access, persistence mark, default and range. -/
structure DictEntry where
  first : Nat
  last : Nat
  ty : OType
  access : OAccess
  persistent : Bool
  default : Int
  range : ORange
deriving DecidableEq, Repr

/-- One record or variable: its first index, its count of instances and its rows. -/
structure DictRecord where
  index : Nat
  count : Nat
  entries : List DictEntry
deriving DecidableEq, Repr

end Sys2Proof.Machine
end

