-- ==== Sys2Proof/Machine/Dict.lean ====
section
/-! DEFINITION. The object dictionary: every row of the object tables of chapters 00 to 17 (R430, R431), in pieces. A default
that depends on the instance or on OTP is given by `dictDefault` in Machine/Ops.lean. -/

namespace Sys2Proof.Machine

/-- Objects 0x1000 to 0x2010. -/
def dictPart0 : List DictRecord := [
  ⟨0x1000, 1, [
    ⟨0x00, 0x00, .uint 4, .const, false, 0, .any⟩]⟩,
  ⟨0x1001, 1, [
    ⟨0x00, 0x00, .uint 1, .ro, false, 0, .any⟩]⟩,
  ⟨0x1008, 1, [
    ⟨0x00, 0x00, .text 6, .const, false, 74046195904560, .any⟩]⟩,
  ⟨0x1009, 1, [
    ⟨0x00, 0x00, .text 2, .const, false, 16944, .any⟩]⟩,
  ⟨0x100A, 1, [
    ⟨0x00, 0x00, .text 8, .ro, false, 0, .any⟩]⟩,
  ⟨0x1014, 1, [
    ⟨0x00, 0x00, .uint 4, .rw, true, 0, .mask 0x800007ff⟩]⟩,
  ⟨0x1017, 1, [
    ⟨0x00, 0x00, .uint 2, .rw, true, 1000, .zeroOr 100 65535⟩]⟩,
  ⟨0x1018, 1, [
    ⟨0x00, 0x00, .uint 1, .const, false, 4, .any⟩,
    ⟨0x01, 0x01, .uint 4, .const, false, 2590, .any⟩,
    ⟨0x02, 0x02, .uint 4, .const, false, 37888, .any⟩,
    ⟨0x03, 0x03, .uint 4, .ro, false, 0, .any⟩,
    ⟨0x04, 0x04, .uint 4, .const, false, 0, .any⟩]⟩,
  ⟨0x1200, 1, [
    ⟨0x00, 0x00, .uint 1, .const, false, 2, .any⟩,
    ⟨0x01, 0x01, .uint 4, .ro, false, 0, .any⟩,
    ⟨0x02, 0x02, .uint 4, .ro, false, 0, .any⟩]⟩,
  ⟨0x2000, 1, [
    ⟨0x00, 0x00, .uint 1, .const, false, 5, .any⟩,
    ⟨0x01, 0x01, .text 9, .const, false, 1242289022669121471045, .any⟩,
    ⟨0x02, 0x02, .uint 2, .const, false, 176, .any⟩,
    ⟨0x03, 0x03, .octets 8, .const, false, 0, .any⟩,
    ⟨0x04, 0x04, .octets 6, .const, false, 0, .any⟩,
    ⟨0x05, 0x05, .uint 4, .ro, false, 0, .any⟩]⟩,
  ⟨0x2002, 1, [
    ⟨0x00, 0x00, .uint 1, .const, false, 3, .any⟩,
    ⟨0x01, 0x01, .uint 1, .rw, true, 127, .within 1 127⟩,
    ⟨0x02, 0x02, .uint 1, .ro, false, 0, .any⟩,
    ⟨0x03, 0x03, .uint 1, .ro, false, 0, .any⟩]⟩,
  ⟨0x2003, 1, [
    ⟨0x00, 0x00, .uint 1, .const, false, 1, .any⟩,
    ⟨0x01, 0x01, .uint 2, .rw, true, 5000, .oneOf [1000, 2000, 4000, 5000]⟩]⟩,
  ⟨0x2004, 1, [
    ⟨0x00, 0x00, .uint 1, .const, false, 6, .any⟩,
    ⟨0x01, 0x01, .uint 4, .ro, false, 0, .any⟩,
    ⟨0x02, 0x02, .uint 4, .ro, false, 0, .any⟩,
    ⟨0x03, 0x03, .uint 4, .ro, false, 0, .any⟩,
    ⟨0x04, 0x04, .uint 4, .ro, false, 0, .any⟩,
    ⟨0x05, 0x05, .uint 4, .ro, false, 0, .any⟩,
    ⟨0x06, 0x06, .uint 4, .ro, false, 0, .any⟩]⟩,
  ⟨0x2010, 1, [
    ⟨0x00, 0x00, .uint 1, .const, false, 3, .any⟩,
    ⟨0x01, 0x01, .uint 1, .rw, true, 1, .oneOf [0, 1]⟩,
    ⟨0x02, 0x02, .uint 1, .rw, true, 255, .any⟩,
    ⟨0x03, 0x03, .uint 4, .rw, true, 16777215, .mask 0xffffff⟩]⟩]

/-- Objects 0x2020 to 0x2240. -/
def dictPart1 : List DictRecord := [
  ⟨0x2020, 1, [
    ⟨0x00, 0x00, .uint 1, .const, false, 7, .any⟩,
    ⟨0x01, 0x01, .uint 2, .ro, false, 0, .any⟩,
    ⟨0x02, 0x02, .uint 1, .ro, false, 0, .any⟩,
    ⟨0x03, 0x03, .uint 2, .ro, false, 0, .any⟩,
    ⟨0x04, 0x04, .uint 2, .ro, false, 3584, .any⟩,
    ⟨0x05, 0x05, .uint 4, .ro, false, 0, .any⟩,
    ⟨0x06, 0x06, .octets 14, .ro, false, 0, .time112⟩,
    ⟨0x07, 0x07, .uint 2, .ro, false, 0, .any⟩]⟩,
  ⟨0x2080, 11, [
    ⟨0x00, 0x00, .uint 1, .const, false, 5, .any⟩,
    ⟨0x01, 0x01, .uint 4, .wo, false, 0, .any⟩,
    ⟨0x02, 0x02, .uint 4, .wo, false, 0, .any⟩,
    ⟨0x03, 0x03, .uint 4, .ro, false, 0, .any⟩,
    ⟨0x04, 0x04, .uint 4, .ro, false, 0, .any⟩,
    ⟨0x05, 0x05, .uint 4, .ro, false, 0, .any⟩]⟩,
  ⟨0x2100, 1, [
    ⟨0x00, 0x00, .uint 1, .const, false, 11, .any⟩,
    ⟨0x01, 0x01, .domain, .wo, false, 0, .any⟩,
    ⟨0x02, 0x02, .uint 1, .ro, false, 0, .any⟩,
    ⟨0x03, 0x03, .uint 4, .ro, false, 0, .any⟩,
    ⟨0x04, 0x04, .uint 2, .ro, false, 65535, .any⟩,
    ⟨0x05, 0x05, .uint 4, .ro, false, 4294967295, .any⟩,
    ⟨0x06, 0x06, .uint 8, .wo, false, 0, .any⟩,
    ⟨0x07, 0x07, .uint 1, .ro, false, 0, .any⟩,
    ⟨0x08, 0x08, .uint 4, .ro, false, 0, .any⟩,
    ⟨0x09, 0x09, .uint 4, .ro, false, 0, .any⟩,
    ⟨0x0A, 0x0A, .uint 8, .ro, false, 0, .any⟩,
    ⟨0x0B, 0x0B, .uint 1, .wo, false, 0, .oneOf [1]⟩]⟩,
  ⟨0x2101, 1, [
    ⟨0x00, 0x00, .uint 1, .const, false, 3, .any⟩,
    ⟨0x01, 0x01, .uint 4, .rw, true, 21000, .any⟩,
    ⟨0x02, 0x02, .uint 4, .ro, false, 0, .any⟩,
    ⟨0x03, 0x03, .uint 4, .rw, true, 10500, .any⟩]⟩,
  ⟨0x2102, 1, [
    ⟨0x00, 0x00, .uint 1, .const, false, 7, .any⟩,
    ⟨0x01, 0x01, .uint 4, .ro, false, 0, .any⟩,
    ⟨0x02, 0x02, .uint 4, .ro, false, 0, .any⟩,
    ⟨0x03, 0x03, .uint 4, .ro, false, 0, .any⟩,
    ⟨0x04, 0x04, .uint 4, .ro, false, 0, .any⟩,
    ⟨0x05, 0x05, .uint 4, .ro, false, 0, .any⟩,
    ⟨0x06, 0x06, .uint 4, .ro, false, 0, .any⟩,
    ⟨0x07, 0x07, .uint 4, .ro, false, 0, .any⟩]⟩,
  ⟨0x2110, 1, [
    ⟨0x00, 0x00, .uint 1, .const, false, 2, .any⟩,
    ⟨0x01, 0x01, .uint 4, .const, false, 184549377, .any⟩,
    ⟨0x02, 0x02, .uint 2, .const, false, 19, .any⟩]⟩,
  ⟨0x2111, 1, [
    ⟨0x00, 0x00, .uint 1, .const, false, 6, .any⟩,
    ⟨0x01, 0x01, .uint 2, .rw, false, 1, .any⟩,
    ⟨0x02, 0x02, .uint 4, .ro, false, 0, .any⟩,
    ⟨0x03, 0x03, .uint 4, .ro, false, 0, .any⟩,
    ⟨0x04, 0x04, .uint 4, .ro, false, 0, .any⟩,
    ⟨0x05, 0x05, .octets 16, .ro, false, 0, .any⟩,
    ⟨0x06, 0x06, .uint 1, .ro, false, 0, .any⟩]⟩,
  ⟨0x2200, 1, [
    ⟨0x00, 0x00, .uint 1, .const, false, 1, .any⟩,
    ⟨0x01, 0x01, .uint 1, .const, false, 32, .any⟩]⟩,
  ⟨0x2201, 1, [
    ⟨0x00, 0x00, .uint 1, .const, false, 5, .any⟩,
    ⟨0x01, 0x01, .int 2, .rw, true, 37, .any⟩,
    ⟨0x02, 0x02, .uint 4, .rw, true, 43200, .within 0 86400⟩,
    ⟨0x03, 0x03, .uint 8, .ro, false, 0, .any⟩,
    ⟨0x04, 0x04, .uint 4, .ro, false, 0, .any⟩,
    ⟨0x05, 0x05, .uint 1, .ro, false, 0, .any⟩]⟩,
  ⟨0x2202, 1, [
    ⟨0x00, 0x00, .uint 1, .const, false, 4, .any⟩,
    ⟨0x01, 0x04, .uint 8, .rw, true, 0, .any⟩]⟩,
  ⟨0x2203, 1, [
    ⟨0x00, 0x00, .uint 1, .const, false, 2, .any⟩,
    ⟨0x01, 0x01, .uint 1, .wo, false, 0, .oneOf [1]⟩,
    ⟨0x02, 0x02, .uint 4, .ro, false, 0, .any⟩]⟩,
  ⟨0x2204, 1, [
    ⟨0x00, 0x00, .uint 1, .const, false, 2, .any⟩,
    ⟨0x01, 0x01, .uint 1, .rw, false, 0, .within 0 31⟩,
    ⟨0x02, 0x02, .octets 14, .ro, false, 0, .time112⟩]⟩,
  ⟨0x2210, 32, [
    ⟨0x00, 0x00, .uint 1, .const, false, 10, .any⟩,
    ⟨0x01, 0x01, .uint 1, .rw, false, 0, .within 0 31⟩,
    ⟨0x02, 0x02, .uint 1, .rw, false, 0, .within 0 2⟩,
    ⟨0x03, 0x03, .octets 14, .rw, false, 0, .time112⟩,
    ⟨0x04, 0x04, .uint 8, .rw, false, 0, .zeroOr 1000000 1000000000000000⟩,
    ⟨0x05, 0x05, .uint 2, .rw, false, 0, .any⟩,
    ⟨0x06, 0x06, .uint 1, .wo, false, 0, .oneOf [1, 2]⟩,
    ⟨0x07, 0x07, .uint 1, .rw, false, 0, .oneOf [0]⟩,
    ⟨0x08, 0x08, .uint 1, .ro, false, 0, .any⟩,
    ⟨0x09, 0x09, .octets 14, .ro, false, 0, .time112⟩,
    ⟨0x0A, 0x0A, .uint 4, .ro, false, 0, .any⟩]⟩,
  ⟨0x2240, 8, [
    ⟨0x00, 0x00, .uint 1, .const, false, 13, .any⟩,
    ⟨0x01, 0x01, .uint 1, .rw, false, 0, .within 0 2⟩,
    ⟨0x02, 0x02, .uint 1, .rw, true, 0, .within 0 47⟩,
    ⟨0x03, 0x03, .uint 1, .rw, true, 1, .within 0 47⟩,
    ⟨0x04, 0x04, .uint 2, .rw, true, 1, .within 0 10000⟩,
    ⟨0x05, 0x05, .uint 8, .rw, true, 1000000000000, .within 1000 1000000000000⟩,
    ⟨0x06, 0x06, .int 8, .rw, true, 0, .any⟩,
    ⟨0x07, 0x07, .uint 4, .ro, false, 0, .any⟩,
    ⟨0x08, 0x08, .int 8, .ro, false, 0, .any⟩,
    ⟨0x09, 0x09, .uint 8, .ro, false, 0, .any⟩,
    ⟨0x0A, 0x0A, .int 8, .ro, false, 0, .any⟩,
    ⟨0x0B, 0x0B, .int 8, .ro, false, 0, .any⟩,
    ⟨0x0C, 0x0C, .uint 4, .ro, false, 0, .any⟩,
    ⟨0x0D, 0x0D, .uint 4, .ro, false, 0, .any⟩]⟩]

/-- Objects 0x2300 to 0x2500. -/
def dictPart2 : List DictRecord := [
  ⟨0x2300, 1, [
    ⟨0x00, 0x00, .uint 1, .const, false, 10, .any⟩,
    ⟨0x01, 0x01, .uint 1, .rw, true, 255, .upToOr 31 255⟩,
    ⟨0x02, 0x02, .uint 1, .ro, false, 255, .any⟩,
    ⟨0x03, 0x03, .uint 1, .ro, false, 2, .any⟩,
    ⟨0x04, 0x04, .int 8, .rw, true, 5000000, .within 100000 1000000000000⟩,
    ⟨0x05, 0x05, .uint 4, .rw, true, 100, .within 10 10000⟩,
    ⟨0x06, 0x06, .uint 4, .ro, false, 0, .any⟩,
    ⟨0x07, 0x07, .uint 4, .ro, false, 0, .any⟩,
    ⟨0x08, 0x08, .uint 4, .ro, false, 0, .any⟩,
    ⟨0x09, 0x09, .uint 1, .rw, true, 1, .oneOf [0, 1]⟩,
    ⟨0x0A, 0x0A, .uint 4, .wo, false, 0, .any⟩]⟩,
  ⟨0x2302, 1, [
    ⟨0x00, 0x00, .uint 1, .const, false, 2, .any⟩,
    ⟨0x01, 0x01, .uint 2, .rw, true, 8194, .any⟩,
    ⟨0x02, 0x02, .uint 2, .rw, true, 4, .any⟩]⟩,
  ⟨0x2320, 8, [
    ⟨0x00, 0x00, .uint 1, .const, false, 11, .any⟩,
    ⟨0x01, 0x01, .uint 1, .rw, true, 0, .within 0 2⟩,
    ⟨0x02, 0x02, .uint 1, .rw, true, 0, .within 0 11⟩,
    ⟨0x03, 0x03, .octets 16, .rw, true, 0, .any⟩,
    ⟨0x04, 0x04, .uint 1, .rw, true, 0, .any⟩,
    ⟨0x05, 0x05, .int 1, .rw, true, 0, .within (-7) 10⟩,
    ⟨0x06, 0x06, .uint 2, .rw, true, 0, .within 0 4095⟩,
    ⟨0x07, 0x07, .domain, .wo, false, 0, .any⟩,
    ⟨0x08, 0x08, .uint 1, .ro, false, 0, .any⟩,
    ⟨0x09, 0x09, .uint 4, .ro, false, 0, .any⟩,
    ⟨0x0A, 0x0A, .uint 4, .ro, false, 0, .any⟩,
    ⟨0x0B, 0x0B, .octets 14, .ro, false, 0, .time112⟩]⟩,
  ⟨0x2400, 1, [
    ⟨0x00, 0x00, .uint 1, .const, false, 11, .any⟩,
    ⟨0x01, 0x01, .uint 1, .ro, false, 2, .any⟩,
    ⟨0x02, 0x02, .uint 1, .ro, false, 1, .any⟩,
    ⟨0x03, 0x03, .int 8, .ro, false, 0, .any⟩,
    ⟨0x04, 0x04, .int 8, .ro, false, 0, .any⟩,
    ⟨0x05, 0x05, .int 8, .ro, false, 0, .any⟩,
    ⟨0x06, 0x06, .uint 4, .ro, false, 4294967295, .any⟩,
    ⟨0x07, 0x07, .uint 4, .ro, false, 0, .any⟩,
    ⟨0x08, 0x08, .uint 4, .ro, false, 0, .any⟩,
    ⟨0x09, 0x09, .uint 4, .ro, false, 0, .any⟩,
    ⟨0x0A, 0x0A, .uint 8, .ro, false, 0, .any⟩,
    ⟨0x0B, 0x0B, .int 8, .ro, false, 0, .any⟩]⟩,
  ⟨0x2401, 1, [
    ⟨0x00, 0x00, .uint 1, .const, false, 11, .any⟩,
    ⟨0x01, 0x01, .uint 1, .rw, true, 4, .any⟩,
    ⟨0x02, 0x02, .uint 1, .rw, true, 0, .oneOf [0, 1]⟩,
    ⟨0x03, 0x03, .uint 8, .rw, true, 5000000, .any⟩,
    ⟨0x04, 0x04, .int 8, .rw, true, 0, .any⟩,
    ⟨0x05, 0x05, .uint 8, .rw, true, 20000000, .any⟩,
    ⟨0x06, 0x06, .uint 8, .rw, true, 3000000, .any⟩,
    ⟨0x07, 0x07, .uint 8, .rw, true, 1000000, .any⟩,
    ⟨0x08, 0x08, .uint 8, .rw, true, 1000000, .any⟩,
    ⟨0x09, 0x09, .uint 8, .rw, true, 1000, .any⟩,
    ⟨0x0A, 0x0A, .uint 1, .rw, true, 40, .within 30 60⟩,
    ⟨0x0B, 0x0B, .uint 4, .ro, false, 0, .any⟩]⟩,
  ⟨0x2402, 1, [
    ⟨0x00, 0x00, .uint 1, .const, false, 5, .any⟩,
    ⟨0x01, 0x01, .uint 8, .rw, true, 1000000, .within 1000 1000000000⟩,
    ⟨0x02, 0x02, .uint 8, .rw, true, 2000000000, .within 10000000 2000000000⟩,
    ⟨0x03, 0x03, .uint 4, .rw, true, 100, .within 10 10000⟩,
    ⟨0x04, 0x04, .uint 8, .rw, true, 200000000, .within 1000000 1000000000⟩,
    ⟨0x05, 0x05, .uint 8, .rw, true, 100000000000, .within 1000000000 1000000000000⟩]⟩,
  ⟨0x2403, 1, [
    ⟨0x00, 0x00, .uint 1, .const, false, 7, .any⟩,
    ⟨0x01, 0x01, .uint 1, .wo, false, 0, .within 1 3⟩,
    ⟨0x02, 0x02, .uint 8, .rw, false, 0, .any⟩,
    ⟨0x03, 0x03, .uint 1, .rw, false, 0, .within 0 31⟩,
    ⟨0x04, 0x04, .int 8, .ro, false, 0, .any⟩,
    ⟨0x05, 0x05, .uint 4, .ro, false, 0, .any⟩,
    ⟨0x06, 0x06, .uint 4, .ro, false, 0, .any⟩,
    ⟨0x07, 0x07, .int 8, .ro, false, 0, .any⟩]⟩,
  ⟨0x2404, 1, [
    ⟨0x00, 0x00, .uint 1, .const, false, 31, .any⟩,
    ⟨0x01, 0x1F, .uint 1, .rw, true, 0, .any⟩]⟩,
  ⟨0x2405, 1, [
    ⟨0x00, 0x00, .uint 1, .const, false, 9, .any⟩,
    ⟨0x01, 0x01, .uint 1, .rw, false, 0, .within 0 31⟩,
    ⟨0x02, 0x02, .uint 1, .rw, false, 255, .outputPoint⟩,
    ⟨0x03, 0x03, .uint 8, .ro, false, 0, .any⟩,
    ⟨0x04, 0x04, .uint 8, .ro, false, 0, .any⟩,
    ⟨0x05, 0x05, .uint 2, .ro, false, 0, .any⟩,
    ⟨0x06, 0x06, .uint 1, .ro, false, 0, .any⟩,
    ⟨0x07, 0x07, .uint 1, .rw, false, 1, .within 1 8⟩,
    ⟨0x08, 0x08, .uint 8, .ro, false, 0, .any⟩,
    ⟨0x09, 0x09, .uint 8, .ro, false, 0, .any⟩]⟩,
  ⟨0x2406, 1, [
    ⟨0x00, 0x00, .uint 1, .const, false, 6, .any⟩,
    ⟨0x01, 0x01, .uint 2, .rw, false, 0, .within 0 399⟩,
    ⟨0x02, 0x02, .int 4, .ro, true, 2147483648, .any⟩,
    ⟨0x03, 0x03, .uint 8, .ro, true, 0, .any⟩,
    ⟨0x04, 0x04, .uint 2, .ro, false, 0, .any⟩,
    ⟨0x05, 0x05, .int 8, .ro, false, 0, .any⟩,
    ⟨0x06, 0x06, .uint 1, .ro, false, 0, .any⟩]⟩,
  ⟨0x2407, 1, [
    ⟨0x00, 0x00, .uint 1, .const, false, 2, .any⟩,
    ⟨0x01, 0x01, .uint 8, .rw, true, 300000000, .atLeast 100000000⟩,
    ⟨0x02, 0x02, .int 8, .ro, true, 0, .any⟩]⟩,
  ⟨0x2408, 1, [
    ⟨0x00, 0x00, .uint 1, .const, false, 3, .any⟩,
    ⟨0x01, 0x01, .uint 1, .rw, false, 0, .within 0 32⟩,
    ⟨0x02, 0x02, .uint 2, .ro, false, 0, .any⟩,
    ⟨0x03, 0x03, .int 8, .ro, false, 0, .any⟩]⟩,
  ⟨0x2410, 1, [
    ⟨0x00, 0x00, .uint 1, .const, false, 4, .any⟩,
    ⟨0x01, 0x01, .uint 1, .rw, false, 0, .within 0 15⟩,
    ⟨0x02, 0x02, .octets 64, .rw, true, 0, .any⟩,
    ⟨0x03, 0x03, .octets 16, .ro, false, 0, .any⟩,
    ⟨0x04, 0x04, .uint 1, .ro, false, 0, .any⟩]⟩,
  ⟨0x2500, 1, [
    ⟨0x00, 0x00, .uint 1, .const, false, 2, .any⟩,
    ⟨0x01, 0x01, .uint 8, .rw, true, 10000000000000, .oneOf [5000000000000, 10000000000000, 20000000000000, 100000000000000]⟩,
    ⟨0x02, 0x02, .uint 1, .ro, false, 0, .any⟩]⟩]

/-- Objects 0x2502 to 0x2702. -/
def dictPart3 : List DictRecord := [
  ⟨0x2502, 1, [
    ⟨0x00, 0x00, .uint 1, .const, false, 4, .any⟩,
    ⟨0x01, 0x01, .uint 1, .rw, false, 0, .within 0 3⟩,
    ⟨0x02, 0x02, .uint 1, .rw, false, 0, .within 0 31⟩,
    ⟨0x03, 0x03, .octets 12, .ro, false, 0, .any⟩,
    ⟨0x04, 0x04, .uint 4, .wo, false, 0, .any⟩]⟩,
  ⟨0x2600, 1, [
    ⟨0x00, 0x00, .uint 1, .const, false, 9, .any⟩,
    ⟨0x01, 0x01, .uint 2, .const, false, 192, .any⟩,
    ⟨0x02, 0x02, .uint 1, .ro, false, 0, .any⟩,
    ⟨0x03, 0x03, .uint 2, .ro, false, 0, .any⟩,
    ⟨0x04, 0x04, .uint 2, .rw, true, 100, .within 0 600⟩,
    ⟨0x05, 0x05, .uint 1, .rw, true, 15, .mask 0xf⟩,
    ⟨0x06, 0x06, .uint 1, .rw, true, 0, .within 0 3⟩,
    ⟨0x07, 0x07, .uint 4, .ro, false, 0, .any⟩,
    ⟨0x08, 0x08, .uint 2, .ro, false, 0, .any⟩,
    ⟨0x09, 0x09, .domain, .wo, false, 0, .any⟩]⟩,
  ⟨0x2601, 2, [
    ⟨0x00, 0x00, .uint 1, .const, false, 14, .any⟩,
    ⟨0x01, 0x01, .uint 1, .rw, true, 1, .within 0 2⟩,
    ⟨0x02, 0x02, .uint 1, .rw, true, 3, .mask 0x3⟩,
    ⟨0x03, 0x03, .uint 4, .rw, true, 102300, .any⟩,
    ⟨0x04, 0x04, .int 4, .rw, true, 0, .any⟩,
    ⟨0x05, 0x05, .int 4, .rw, true, 0, .any⟩,
    ⟨0x06, 0x06, .uint 1, .rw, true, 0, .oneOf [0, 1]⟩,
    ⟨0x07, 0x07, .uint 1, .ro, false, 0, .any⟩,
    ⟨0x08, 0x08, .uint 8, .ro, false, 0, .any⟩,
    ⟨0x09, 0x09, .uint 1, .rw, true, 40, .within 20 100⟩,
    ⟨0x0A, 0x0A, .uint 4, .ro, false, 0, .any⟩,
    ⟨0x0B, 0x0B, .uint 2, .ro, false, 0, .any⟩,
    ⟨0x0C, 0x0C, .int 2, .ro, false, 0, .any⟩,
    ⟨0x0D, 0x0D, .int 2, .ro, false, 0, .any⟩,
    ⟨0x0E, 0x0E, .uint 4, .ro, false, 0, .any⟩]⟩,
  ⟨0x2603, 2, [
    ⟨0x00, 0x00, .uint 1, .const, false, 15, .any⟩,
    ⟨0x01, 0x02, .int 4, .rw, true, 0, .any⟩,
    ⟨0x03, 0x04, .int 4, .rw, true, 0, .any⟩,
    ⟨0x05, 0x06, .int 4, .rw, true, 0, .any⟩,
    ⟨0x07, 0x07, .uint 4, .rw, true, 5000, .any⟩,
    ⟨0x08, 0x08, .uint 4, .const, false, 1850, .any⟩,
    ⟨0x09, 0x0B, .int 8, .rw, true, 0, .any⟩,
    ⟨0x0C, 0x0C, .uint 4, .rw, true, 0, .any⟩,
    ⟨0x0D, 0x0D, .uint 1, .rw, true, 0, .oneOf [0, 1]⟩,
    ⟨0x0E, 0x0E, .uint 4, .rw, true, 86400, .within 3600 2592000⟩,
    ⟨0x0F, 0x0F, .uint 4, .ro, false, 0, .any⟩]⟩,
  ⟨0x2605, 1, [
    ⟨0x00, 0x00, .uint 1, .const, false, 15, .any⟩,
    ⟨0x01, 0x01, .uint 8, .rw, true, 20000, .any⟩,
    ⟨0x02, 0x02, .uint 8, .rw, true, 10000, .any⟩,
    ⟨0x03, 0x03, .uint 4, .rw, true, 600, .within 100 86400⟩,
    ⟨0x04, 0x04, .uint 8, .rw, true, 15000, .any⟩,
    ⟨0x05, 0x05, .uint 1, .rw, true, 0, .any⟩,
    ⟨0x06, 0x06, .uint 1, .wo, false, 0, .mask 0x3⟩,
    ⟨0x07, 0x07, .uint 2, .ro, false, 0, .any⟩,
    ⟨0x08, 0x08, .uint 1, .rw, true, 1, .oneOf [0, 1]⟩,
    ⟨0x09, 0x09, .uint 8, .rw, true, 15000, .any⟩,
    ⟨0x0A, 0x0A, .uint 2, .rw, true, 5500, .any⟩,
    ⟨0x0B, 0x0B, .uint 8, .rw, true, 10000, .any⟩,
    ⟨0x0C, 0x0C, .uint 8, .rw, true, 1000, .any⟩,
    ⟨0x0D, 0x0D, .uint 8, .rw, true, 500, .any⟩,
    ⟨0x0E, 0x0E, .uint 8, .rw, true, 3000, .any⟩,
    ⟨0x0F, 0x0F, .uint 8, .rw, true, 5000, .any⟩]⟩,
  ⟨0x2606, 1, [
    ⟨0x00, 0x00, .uint 1, .const, false, 13, .any⟩,
    ⟨0x01, 0x01, .uint 1, .rw, false, 0, .oneOf [0, 1]⟩,
    ⟨0x02, 0x02, .uint 1, .ro, false, 0, .any⟩,
    ⟨0x03, 0x03, .int 8, .ro, false, 0, .any⟩,
    ⟨0x04, 0x04, .uint 8, .ro, false, 0, .any⟩,
    ⟨0x05, 0x05, .uint 8, .ro, false, 0, .any⟩,
    ⟨0x06, 0x06, .uint 4, .ro, false, 0, .any⟩,
    ⟨0x07, 0x07, .uint 2, .ro, false, 0, .any⟩,
    ⟨0x08, 0x0A, .int 4, .ro, false, 0, .any⟩,
    ⟨0x0B, 0x0B, .uint 1, .rw, true, 21, .any⟩,
    ⟨0x0C, 0x0C, .uint 4, .ro, false, 0, .any⟩,
    ⟨0x0D, 0x0D, .int 8, .ro, false, 0, .any⟩]⟩,
  ⟨0x2607, 1, [
    ⟨0x00, 0x00, .uint 1, .const, false, 4, .any⟩,
    ⟨0x01, 0x04, .uint 8, .rw, true, 0, .any⟩]⟩,
  ⟨0x2608, 1, [
    ⟨0x00, 0x00, .uint 1, .const, false, 6, .any⟩,
    ⟨0x01, 0x01, .uint 1, .rw, false, 0, .within 0 191⟩,
    ⟨0x02, 0x02, .uint 1, .ro, false, 0, .any⟩,
    ⟨0x03, 0x03, .uint 4, .ro, false, 0, .any⟩,
    ⟨0x04, 0x04, .uint 2, .ro, false, 0, .any⟩,
    ⟨0x05, 0x05, .uint 2, .ro, false, 0, .any⟩,
    ⟨0x06, 0x06, .uint 1, .ro, false, 0, .any⟩]⟩,
  ⟨0x2609, 1, [
    ⟨0x00, 0x00, .uint 1, .const, false, 2, .any⟩,
    ⟨0x01, 0x01, .domain, .ro, false, 0, .any⟩,
    ⟨0x02, 0x02, .octets 14, .ro, false, 0, .time112⟩]⟩,
  ⟨0x260A, 1, [
    ⟨0x00, 0x00, .uint 1, .const, false, 7, .any⟩,
    ⟨0x01, 0x01, .uint 1, .rw, false, 0, .oneOf [0, 1]⟩,
    ⟨0x02, 0x02, .uint 1, .rw, false, 20, .within 1 20⟩,
    ⟨0x03, 0x03, .uint 8, .rw, false, 0, .any⟩,
    ⟨0x04, 0x04, .uint 1, .wo, false, 0, .within 1 4⟩,
    ⟨0x05, 0x05, .uint 1, .ro, false, 0, .any⟩,
    ⟨0x06, 0x06, .uint 4, .rw, false, 0, .multiple 4096⟩,
    ⟨0x07, 0x07, .domain, .ro, false, 0, .any⟩]⟩,
  ⟨0x260B, 1, [
    ⟨0x00, 0x00, .uint 1, .const, false, 7, .any⟩,
    ⟨0x01, 0x01, .uint 1, .rw, true, 0, .any⟩,
    ⟨0x02, 0x02, .uint 1, .rw, true, 0, .any⟩,
    ⟨0x03, 0x03, .domain, .ro, false, 0, .any⟩,
    ⟨0x04, 0x04, .uint 2, .wo, false, 0, .any⟩,
    ⟨0x05, 0x05, .uint 2, .ro, false, 0, .any⟩,
    ⟨0x06, 0x06, .uint 4, .ro, false, 0, .any⟩,
    ⟨0x07, 0x07, .uint 8, .ro, false, 0, .any⟩]⟩,
  ⟨0x2700, 1, [
    ⟨0x00, 0x00, .uint 1, .const, false, 5, .any⟩,
    ⟨0x01, 0x01, .uint 1, .const, false, 24, .any⟩,
    ⟨0x02, 0x02, .uint 4, .const, false, 2000, .any⟩,
    ⟨0x03, 0x03, .uint 4, .const, false, 50, .any⟩,
    ⟨0x04, 0x04, .uint 4, .const, false, 100, .any⟩,
    ⟨0x05, 0x05, .uint 2, .rw, true, 30, .within 5 3600⟩]⟩,
  ⟨0x2701, 1, [
    ⟨0x00, 0x00, .uint 1, .const, false, 6, .any⟩,
    ⟨0x01, 0x01, .uint 1, .rw, false, 0, .within 0 23⟩,
    ⟨0x02, 0x02, .uint 1, .rw, false, 0, .within 0 7⟩,
    ⟨0x03, 0x03, .octets 16, .rw, true, 0, .any⟩,
    ⟨0x04, 0x04, .uint 2, .rw, true, 0, .any⟩,
    ⟨0x05, 0x05, .uint 1, .rw, true, 0, .any⟩,
    ⟨0x06, 0x06, .uint 4, .ro, false, 0, .any⟩]⟩,
  ⟨0x2702, 1, [
    ⟨0x00, 0x00, .uint 1, .const, false, 12, .any⟩,
    ⟨0x01, 0x0C, .octets 6, .rw, true, 0, .any⟩]⟩]

/-- Objects 0x2800 to 0x2A02. -/
def dictPart4 : List DictRecord := [
  ⟨0x2800, 1, [
    ⟨0x00, 0x00, .uint 1, .const, false, 12, .any⟩,
    ⟨0x01, 0x01, .uint 4, .const, false, 262144, .any⟩,
    ⟨0x02, 0x02, .uint 4, .const, false, 1024, .any⟩,
    ⟨0x03, 0x03, .uint 4, .rw, true, 244872, .any⟩,
    ⟨0x04, 0x04, .uint 4, .rw, true, 12288, .any⟩,
    ⟨0x05, 0x05, .uint 4, .const, false, 1024, .any⟩,
    ⟨0x06, 0x06, .uint 4, .rw, true, 1592590592, .atLeast 1⟩,
    ⟨0x07, 0x07, .uint 1, .rw, true, 0, .within 0 7⟩,
    ⟨0x08, 0x08, .uint 1, .rw, true, 0, .any⟩,
    ⟨0x09, 0x09, .uint 4, .ro, false, 0, .any⟩,
    ⟨0x0A, 0x0A, .uint 4, .ro, false, 0, .any⟩,
    ⟨0x0B, 0x0B, .uint 4, .ro, false, 0, .any⟩,
    ⟨0x0C, 0x0C, .uint 4, .ro, false, 0, .any⟩]⟩,
  ⟨0x2801, 1, [
    ⟨0x00, 0x00, .uint 1, .const, false, 17, .any⟩,
    ⟨0x01, 0x01, .uint 1, .rw, false, 0, .within 0 98⟩,
    ⟨0x02, 0x02, .uint 4, .rw, true, 40, .any⟩,
    ⟨0x03, 0x03, .uint 4, .rw, true, 0, .any⟩,
    ⟨0x04, 0x04, .uint 4, .rw, true, 0, .any⟩,
    ⟨0x05, 0x05, .uint 4, .rw, true, 64, .within 1 262144⟩,
    ⟨0x06, 0x06, .uint 4, .rw, true, 787456100, .any⟩,
    ⟨0x07, 0x07, .uint 4, .rw, true, 525056500, .any⟩,
    ⟨0x08, 0x08, .uint 4, .rw, true, 257000, .any⟩,
    ⟨0x09, 0x09, .uint 4, .ro, false, 0, .any⟩,
    ⟨0x0A, 0x0A, .uint 4, .ro, false, 0, .any⟩,
    ⟨0x0B, 0x0B, .uint 4, .ro, false, 0, .any⟩,
    ⟨0x0C, 0x0C, .uint 4, .ro, false, 0, .any⟩,
    ⟨0x0D, 0x0D, .uint 4, .ro, false, 0, .any⟩,
    ⟨0x0E, 0x0E, .uint 4, .ro, false, 0, .any⟩,
    ⟨0x0F, 0x0F, .uint 4, .ro, false, 0, .any⟩,
    ⟨0x10, 0x10, .uint 1, .wo, false, 0, .oneOf [1]⟩,
    ⟨0x11, 0x11, .uint 4, .ro, false, 0, .any⟩]⟩,
  ⟨0x2802, 1, [
    ⟨0x00, 0x00, .uint 1, .const, false, 2, .any⟩,
    ⟨0x01, 0x01, .uint 2, .rw, false, 0, .within 0 511⟩,
    ⟨0x02, 0x02, .octets 12, .rw, true, 0, .any⟩]⟩,
  ⟨0x2810, 1, [
    ⟨0x00, 0x00, .uint 1, .const, false, 2, .any⟩,
    ⟨0x01, 0x01, .domain, .wo, false, 0, .any⟩,
    ⟨0x02, 0x02, .uint 4, .ro, false, 0, .any⟩]⟩,
  ⟨0x2811, 1, [
    ⟨0x00, 0x00, .uint 1, .const, false, 3, .any⟩,
    ⟨0x01, 0x01, .domain, .ro, false, 0, .any⟩,
    ⟨0x02, 0x02, .uint 2, .wo, false, 0, .any⟩,
    ⟨0x03, 0x03, .uint 4, .ro, false, 0, .any⟩]⟩,
  ⟨0x2900, 1, [
    ⟨0x00, 0x00, .uint 1, .const, false, 12, .any⟩,
    ⟨0x01, 0x01, .uint 1, .rw, true, 1, .oneOf [0, 1]⟩,
    ⟨0x02, 0x02, .uint 8, .rw, true, 1000000, .any⟩,
    ⟨0x03, 0x03, .uint 1, .rw, false, 0, .within 0 11⟩,
    ⟨0x04, 0x04, .uint 8, .ro, false, 0, .any⟩,
    ⟨0x05, 0x05, .uint 4, .ro, false, 0, .any⟩,
    ⟨0x06, 0x06, .uint 2, .rw, true, 990, .within 500 1000⟩,
    ⟨0x07, 0x07, .uint 4, .ro, false, 0, .any⟩,
    ⟨0x08, 0x08, .uint 4, .ro, false, 0, .any⟩,
    ⟨0x09, 0x09, .uint 4, .ro, false, 0, .any⟩,
    ⟨0x0A, 0x0A, .uint 4, .ro, false, 0, .any⟩,
    ⟨0x0B, 0x0B, .uint 4, .ro, false, 0, .any⟩,
    ⟨0x0C, 0x0C, .uint 1, .rw, true, 10, .within 1 255⟩]⟩,
  ⟨0x2908, 1, [
    ⟨0x00, 0x00, .uint 1, .const, false, 3, .any⟩,
    ⟨0x01, 0x01, .uint 4, .rw, true, 4907461, .mask 0xffffff⟩,
    ⟨0x02, 0x02, .uint 4, .rw, true, 1, .mask 0xffffff⟩,
    ⟨0x03, 0x03, .uint 2, .rw, true, 61707, .any⟩]⟩,
  ⟨0x2910, 8, [
    ⟨0x00, 0x00, .uint 1, .const, false, 32, .any⟩,
    ⟨0x01, 0x01, .uint 1, .rw, true, 0, .oneOf [0, 1]⟩,
    ⟨0x02, 0x02, .uint 1, .rw, true, 1, .any⟩,
    ⟨0x03, 0x03, .uint 2, .rw, true, 0, .mask 0xfff⟩,
    ⟨0x04, 0x04, .uint 1, .rw, true, 0, .any⟩,
    ⟨0x05, 0x05, .uint 1, .rw, true, 1, .within 0 2⟩,
    ⟨0x06, 0x06, .octets 16, .rw, true, 0, .any⟩,
    ⟨0x07, 0x07, .octets 8, .rw, true, 0, .any⟩,
    ⟨0x08, 0x08, .uint 1, .rw, true, 128, .any⟩,
    ⟨0x09, 0x09, .uint 1, .rw, true, 128, .any⟩,
    ⟨0x0A, 0x0A, .uint 1, .rw, true, 0, .within 0 31⟩,
    ⟨0x0B, 0x0B, .int 1, .rw, true, (-4), .any⟩,
    ⟨0x0C, 0x0C, .int 1, .rw, true, (-4), .any⟩,
    ⟨0x0D, 0x0D, .int 1, .rw, true, (-3), .any⟩,
    ⟨0x0E, 0x0E, .uint 4, .rw, true, 300, .within 10 1000⟩,
    ⟨0x0F, 0x0F, .int 1, .rw, true, 0, .any⟩,
    ⟨0x10, 0x10, .int 1, .rw, true, 0, .any⟩,
    ⟨0x11, 0x11, .uint 1, .rw, true, 1, .any⟩,
    ⟨0x12, 0x12, .uint 1, .rw, true, 0, .any⟩,
    ⟨0x13, 0x13, .uint 4, .rw, true, 0, .any⟩,
    ⟨0x14, 0x14, .uint 8, .rw, true, 1000000, .any⟩,
    ⟨0x15, 0x15, .uint 4, .ro, false, 0, .any⟩,
    ⟨0x16, 0x16, .uint 1, .ro, false, 248, .any⟩,
    ⟨0x17, 0x17, .uint 1, .ro, false, 254, .any⟩,
    ⟨0x18, 0x18, .uint 2, .ro, false, 65535, .any⟩,
    ⟨0x19, 0x19, .uint 4, .ro, false, 0, .any⟩,
    ⟨0x1A, 0x1A, .uint 4, .ro, false, 0, .any⟩,
    ⟨0x1B, 0x1B, .uint 4, .ro, false, 0, .any⟩,
    ⟨0x1C, 0x1C, .uint 4, .ro, false, 0, .any⟩,
    ⟨0x1D, 0x1D, .uint 4, .ro, false, 0, .any⟩,
    ⟨0x1E, 0x1E, .uint 4, .ro, false, 0, .any⟩,
    ⟨0x1F, 0x1F, .uint 4, .rw, true, 0, .any⟩,
    ⟨0x20, 0x20, .uint 1, .ro, false, 0, .any⟩]⟩,
  ⟨0x2920, 8, [
    ⟨0x00, 0x00, .uint 1, .const, false, 15, .any⟩,
    ⟨0x01, 0x01, .uint 1, .rw, true, 0, .oneOf [0, 1]⟩,
    ⟨0x02, 0x02, .uint 2, .rw, true, 0, .mask 0xfff⟩,
    ⟨0x03, 0x03, .octets 16, .rw, true, 0, .any⟩,
    ⟨0x04, 0x04, .uint 1, .rw, true, 0, .within 0 31⟩,
    ⟨0x05, 0x05, .uint 1, .rw, true, 1, .oneOf [1, 2]⟩,
    ⟨0x06, 0x06, .octets 4, .rw, true, 1347441408, .any⟩,
    ⟨0x07, 0x07, .int 1, .const, false, (-30), .any⟩,
    ⟨0x08, 0x08, .uint 8, .rw, true, 1000000, .any⟩,
    ⟨0x09, 0x09, .uint 1, .rw, true, 1, .oneOf [0, 1]⟩,
    ⟨0x0A, 0x0A, .uint 4, .ro, false, 0, .any⟩,
    ⟨0x0B, 0x0B, .uint 4, .ro, false, 0, .any⟩,
    ⟨0x0C, 0x0C, .uint 4, .ro, false, 0, .any⟩,
    ⟨0x0D, 0x0D, .uint 4, .ro, false, 0, .any⟩,
    ⟨0x0E, 0x0E, .uint 4, .ro, false, 0, .any⟩,
    ⟨0x0F, 0x0F, .uint 1, .ro, false, 0, .any⟩]⟩,
  ⟨0x2940, 1, [
    ⟨0x00, 0x00, .uint 1, .const, false, 5, .any⟩,
    ⟨0x01, 0x01, .uint 4, .rw, false, 0, .within 0 262143⟩,
    ⟨0x02, 0x02, .octets 64, .ro, false, 0, .any⟩,
    ⟨0x03, 0x03, .uint 1, .wo, false, 0, .oneOf [1, 2]⟩,
    ⟨0x04, 0x04, .uint 4, .ro, false, 0, .any⟩,
    ⟨0x05, 0x05, .uint 4, .ro, false, 0, .any⟩]⟩,
  ⟨0x2941, 1, [
    ⟨0x00, 0x00, .uint 1, .const, false, 7, .any⟩,
    ⟨0x01, 0x01, .uint 2, .rw, true, 256, .within 1 4095⟩,
    ⟨0x02, 0x02, .uint 2, .rw, true, 512, .within 16 4095⟩,
    ⟨0x03, 0x03, .uint 2, .rw, true, 16, .within 1 4095⟩,
    ⟨0x04, 0x04, .uint 2, .rw, true, 32, .within 16 4095⟩,
    ⟨0x05, 0x05, .uint 4, .rw, true, 1592590848, .any⟩,
    ⟨0x06, 0x06, .uint 4, .rw, true, 1592590849, .any⟩,
    ⟨0x07, 0x07, .uint 4, .ro, false, 0, .any⟩]⟩,
  ⟨0x2A00, 1, [
    ⟨0x00, 0x00, .uint 1, .const, false, 11, .any⟩,
    ⟨0x01, 0x01, .uint 2, .const, false, 4096, .any⟩,
    ⟨0x02, 0x02, .uint 4, .rw, true, 1000, .within 100 60000⟩,
    ⟨0x03, 0x03, .uint 2, .ro, false, 0, .any⟩,
    ⟨0x04, 0x04, .uint 2, .ro, false, 0, .any⟩,
    ⟨0x05, 0x05, .uint 1, .rw, true, 0, .any⟩,
    ⟨0x06, 0x06, .uint 4, .ro, false, 0, .any⟩,
    ⟨0x07, 0x07, .uint 4, .ro, false, 0, .any⟩,
    ⟨0x08, 0x08, .uint 4, .ro, false, 0, .any⟩,
    ⟨0x09, 0x09, .uint 4, .ro, false, 0, .any⟩,
    ⟨0x0A, 0x0A, .uint 1, .ro, false, 0, .any⟩,
    ⟨0x0B, 0x0B, .uint 4, .ro, false, 0, .any⟩]⟩,
  ⟨0x2A01, 1, [
    ⟨0x00, 0x00, .uint 1, .const, false, 10, .any⟩,
    ⟨0x01, 0x01, .uint 2, .rw, false, 0, .within 0 4095⟩,
    ⟨0x02, 0x02, .uint 1, .ro, false, 0, .any⟩,
    ⟨0x03, 0x03, .uint 1, .ro, false, 0, .any⟩,
    ⟨0x04, 0x04, .uint 2, .ro, false, 0, .any⟩,
    ⟨0x05, 0x05, .uint 2, .ro, false, 0, .any⟩,
    ⟨0x06, 0x06, .uint 8, .ro, false, 0, .any⟩,
    ⟨0x07, 0x07, .uint 4, .ro, false, 0, .any⟩,
    ⟨0x08, 0x08, .uint 1, .ro, false, 0, .any⟩,
    ⟨0x09, 0x09, .uint 4, .ro, false, 0, .any⟩,
    ⟨0x0A, 0x0A, .uint 1, .ro, false, 0, .any⟩]⟩,
  ⟨0x2A02, 1, [
    ⟨0x00, 0x00, .domain, .wo, false, 0, .any⟩]⟩]

/-- Objects 0x2A03 to 0x2C40. -/
def dictPart5 : List DictRecord := [
  ⟨0x2A03, 1, [
    ⟨0x00, 0x00, .uint 2, .wo, false, 0, .any⟩]⟩,
  ⟨0x2A04, 1, [
    ⟨0x00, 0x00, .domain, .wo, false, 0, .any⟩]⟩,
  ⟨0x2A05, 1, [
    ⟨0x00, 0x00, .domain, .wo, false, 0, .any⟩]⟩,
  ⟨0x2A10, 1, [
    ⟨0x00, 0x00, .uint 1, .const, false, 16, .any⟩,
    ⟨0x01, 0x10, .uint 4, .rw, false, 0, .any⟩]⟩,
  ⟨0x2A20, 1, [
    ⟨0x00, 0x00, .uint 1, .const, false, 2, .any⟩,
    ⟨0x01, 0x01, .uint 1, .rw, false, 0, .within 0 63⟩,
    ⟨0x02, 0x02, .octets 10, .rw, false, 0, .any⟩]⟩,
  ⟨0x2A30, 1, [
    ⟨0x00, 0x00, .uint 1, .const, false, 5, .any⟩,
    ⟨0x01, 0x01, .uint 1, .rw, true, 3, .mask 0x3⟩,
    ⟨0x02, 0x02, .uint 4, .const, false, 100, .any⟩,
    ⟨0x03, 0x03, .uint 4, .ro, true, 0, .any⟩,
    ⟨0x04, 0x04, .octets 14, .ro, true, 0, .time112⟩,
    ⟨0x05, 0x05, .uint 1, .ro, false, 0, .any⟩]⟩,
  ⟨0x2B00, 1, [
    ⟨0x00, 0x00, .uint 1, .const, false, 1, .any⟩,
    ⟨0x01, 0x01, .uint 1, .const, false, 8, .any⟩]⟩,
  ⟨0x2B01, 1, [
    ⟨0x00, 0x00, .uint 1, .const, false, 8, .any⟩,
    ⟨0x01, 0x01, .uint 1, .rw, false, 0, .within 0 7⟩,
    ⟨0x02, 0x02, .uint 1, .rw, false, 0, .within 0 31⟩,
    ⟨0x03, 0x03, .uint 2, .rw, true, 0, .any⟩,
    ⟨0x04, 0x04, .uint 1, .rw, true, 0, .oneOf [0, 1]⟩,
    ⟨0x05, 0x05, .int 2, .rw, true, (-1800), .within (-12000) 0⟩,
    ⟨0x06, 0x06, .uint 4, .rw, true, 1000000, .any⟩,
    ⟨0x07, 0x07, .uint 2, .rw, true, 20, .within 1 1000⟩,
    ⟨0x08, 0x08, .uint 1, .ro, false, 0, .any⟩]⟩,
  ⟨0x2C00, 1, [
    ⟨0x00, 0x00, .uint 1, .const, false, 15, .any⟩,
    ⟨0x01, 0x01, .uint 1, .ro, false, 0, .any⟩,
    ⟨0x02, 0x02, .uint 1, .ro, false, 0, .any⟩,
    ⟨0x03, 0x03, .uint 1, .ro, false, 0, .any⟩,
    ⟨0x04, 0x04, .uint 1, .wo, false, 0, .oneOf [1, 2]⟩,
    ⟨0x05, 0x05, .uint 4, .ro, false, 0, .any⟩,
    ⟨0x06, 0x06, .uint 4, .ro, false, 0, .any⟩,
    ⟨0x07, 0x07, .uint 4, .ro, false, 0, .any⟩,
    ⟨0x08, 0x08, .uint 4, .ro, false, 0, .any⟩,
    ⟨0x09, 0x09, .uint 1, .rw, true, 1, .any⟩,
    ⟨0x0A, 0x0A, .uint 8, .ro, true, 0, .any⟩,
    ⟨0x0B, 0x0B, .uint 4, .ro, true, 0, .any⟩,
    ⟨0x0C, 0x0C, .uint 4, .ro, false, 0, .any⟩,
    ⟨0x0D, 0x0D, .uint 8, .ro, false, 0, .any⟩,
    ⟨0x0E, 0x0E, .uint 4, .ro, false, 0, .any⟩,
    ⟨0x0F, 0x0F, .uint 4, .ro, false, 0, .any⟩]⟩,
  ⟨0x2C01, 1, [
    ⟨0x00, 0x00, .uint 1, .rw, false, 255, .oneOf [0, 1, 255]⟩]⟩,
  ⟨0x2C10, 1, [
    ⟨0x00, 0x00, .uint 1, .const, false, 1, .any⟩,
    ⟨0x01, 0x01, .octets 64, .ro, false, 0, .any⟩]⟩,
  ⟨0x2C20, 1, [
    ⟨0x00, 0x00, .uint 1, .const, false, 3, .any⟩,
    ⟨0x01, 0x01, .uint 8, .ro, false, 0, .any⟩,
    ⟨0x02, 0x02, .uint 8, .ro, false, 0, .any⟩,
    ⟨0x03, 0x03, .uint 4, .ro, false, 0, .any⟩]⟩,
  ⟨0x2C30, 1, [
    ⟨0x00, 0x00, .uint 1, .const, false, 4, .any⟩,
    ⟨0x01, 0x01, .uint 2, .rw, true, 400, .within 10 1000⟩,
    ⟨0x02, 0x02, .uint 4, .const, false, 65536, .any⟩,
    ⟨0x03, 0x03, .uint 4, .ro, false, 0, .any⟩,
    ⟨0x04, 0x04, .uint 4, .ro, false, 0, .any⟩]⟩,
  ⟨0x2C40, 12, [
    ⟨0x00, 0x00, .uint 1, .const, false, 9, .any⟩,
    ⟨0x01, 0x01, .uint 1, .rw, true, 0, .oneOf [0, 1]⟩,
    ⟨0x02, 0x02, .uint 1, .rw, true, 0, .any⟩,
    ⟨0x03, 0x03, .uint 4, .ro, false, 0, .any⟩,
    ⟨0x04, 0x04, .uint 4, .ro, false, 0, .any⟩,
    ⟨0x05, 0x05, .uint 4, .ro, false, 0, .any⟩,
    ⟨0x06, 0x06, .uint 4, .ro, false, 0, .any⟩,
    ⟨0x07, 0x07, .uint 4, .ro, false, 0, .any⟩,
    ⟨0x08, 0x08, .uint 2, .ro, false, 0, .any⟩,
    ⟨0x09, 0x09, .uint 1, .ro, false, 0, .any⟩]⟩]

/-- Objects 0x2D01 to 0x2E20. -/
def dictPart6 : List DictRecord := [
  ⟨0x2D01, 1, [
    ⟨0x00, 0x00, .uint 1, .const, false, 4, .any⟩,
    ⟨0x01, 0x01, .uint 4, .rw, true, 64, .any⟩,
    ⟨0x02, 0x02, .uint 4, .rw, true, 4096, .any⟩,
    ⟨0x03, 0x03, .uint 2, .rw, true, 8, .within 2 1000⟩,
    ⟨0x04, 0x04, .uint 4, .rw, true, 60, .within 1 86400⟩]⟩,
  ⟨0x2D10, 1, [
    ⟨0x00, 0x00, .uint 1, .const, false, 8, .any⟩,
    ⟨0x01, 0x08, .uint 4, .ro, false, 0, .any⟩]⟩,
  ⟨0x2D11, 1, [
    ⟨0x00, 0x00, .uint 1, .const, false, 6, .any⟩,
    ⟨0x01, 0x01, .uint 1, .rw, false, 0, .within 0 255⟩,
    ⟨0x02, 0x02, .uint 1, .ro, false, 0, .any⟩,
    ⟨0x03, 0x05, .uint 4, .ro, false, 0, .any⟩,
    ⟨0x06, 0x06, .octets 14, .ro, false, 0, .time112⟩]⟩,
  ⟨0x2D12, 1, [
    ⟨0x00, 0x00, .uint 1, .const, false, 8, .any⟩,
    ⟨0x01, 0x08, .uint 4, .wo, false, 0, .any⟩]⟩,
  ⟨0x2D20, 1, [
    ⟨0x00, 0x00, .uint 1, .const, false, 16, .any⟩,
    ⟨0x01, 0x01, .uint 2, .rw, true, 16, .within 2 65535⟩,
    ⟨0x02, 0x02, .uint 2, .rw, true, 10, .within 1 3600⟩,
    ⟨0x03, 0x03, .uint 2, .rw, true, 60, .within 1 86400⟩,
    ⟨0x04, 0x04, .uint 4, .rw, true, 65536, .atLeast 2⟩,
    ⟨0x05, 0x05, .uint 4, .ro, false, 0, .any⟩,
    ⟨0x06, 0x06, .uint 4, .ro, false, 0, .any⟩,
    ⟨0x07, 0x07, .uint 4, .rw, true, 1592591104, .any⟩,
    ⟨0x08, 0x08, .uint 4, .ro, false, 0, .any⟩,
    ⟨0x09, 0x09, .uint 4, .ro, false, 0, .any⟩,
    ⟨0x0A, 0x0A, .uint 4, .ro, false, 0, .any⟩,
    ⟨0x0B, 0x0B, .uint 4, .ro, false, 0, .any⟩,
    ⟨0x0C, 0x0C, .octets 16, .wo, false, 0, .any⟩,
    ⟨0x0D, 0x0D, .octets 16, .rw, false, 0, .any⟩,
    ⟨0x0E, 0x0E, .uint 4, .wo, false, 0, .mask 0xffffff⟩,
    ⟨0x0F, 0x0F, .uint 1, .ro, false, 0, .any⟩,
    ⟨0x10, 0x10, .octets 14, .ro, false, 0, .time112⟩]⟩,
  ⟨0x2D30, 1, [
    ⟨0x00, 0x00, .uint 1, .const, false, 5, .any⟩,
    ⟨0x01, 0x01, .domain, .ro, false, 0, .any⟩,
    ⟨0x02, 0x02, .uint 1, .ro, false, 0, .any⟩,
    ⟨0x03, 0x03, .uint 1, .ro, false, 0, .any⟩,
    ⟨0x04, 0x04, .uint 4, .ro, false, 0, .any⟩,
    ⟨0x05, 0x05, .uint 1, .wo, false, 0, .oneOf [1]⟩]⟩,
  ⟨0x2D31, 1, [
    ⟨0x00, 0x00, .uint 1, .const, false, 2, .any⟩,
    ⟨0x01, 0x01, .domain, .ro, true, 0, .any⟩,
    ⟨0x02, 0x02, .uint 1, .ro, true, 0, .any⟩]⟩,
  ⟨0x2E00, 1, [
    ⟨0x00, 0x00, .uint 1, .const, false, 1, .any⟩,
    ⟨0x01, 0x01, .uint 4, .ro, false, 0, .any⟩]⟩,
  ⟨0x2E01, 1, [
    ⟨0x00, 0x00, .uint 1, .const, false, 5, .any⟩,
    ⟨0x01, 0x01, .uint 1, .rw, false, 0, .within 0 23⟩,
    ⟨0x02, 0x02, .int 2, .ro, false, 0, .any⟩,
    ⟨0x03, 0x03, .uint 1, .ro, false, 0, .any⟩,
    ⟨0x04, 0x04, .int 2, .ro, false, 0, .any⟩,
    ⟨0x05, 0x05, .uint 1, .wo, false, 0, .oneOf [1]⟩]⟩,
  ⟨0x2E02, 1, [
    ⟨0x00, 0x00, .uint 1, .const, false, 6, .any⟩,
    ⟨0x01, 0x01, .int 2, .rw, true, 1840, .any⟩,
    ⟨0x02, 0x02, .int 2, .ro, false, 0, .any⟩,
    ⟨0x03, 0x03, .uint 4, .ro, false, 0, .any⟩,
    ⟨0x04, 0x04, .uint 1, .ro, false, 0, .any⟩,
    ⟨0x05, 0x05, .uint 4, .ro, false, 0, .any⟩,
    ⟨0x06, 0x06, .uint 4, .ro, false, 0, .any⟩]⟩,
  ⟨0x2E03, 1, [
    ⟨0x00, 0x00, .uint 1, .const, false, 5, .any⟩,
    ⟨0x01, 0x01, .uint 1, .rw, false, 0, .within 0 15⟩,
    ⟨0x02, 0x02, .uint 2, .ro, false, 0, .any⟩,
    ⟨0x03, 0x03, .uint 2, .rw, true, 0, .any⟩,
    ⟨0x04, 0x04, .uint 2, .rw, true, 0, .any⟩,
    ⟨0x05, 0x05, .uint 1, .ro, false, 0, .any⟩]⟩,
  ⟨0x2E04, 1, [
    ⟨0x00, 0x00, .uint 1, .const, false, 3, .any⟩,
    ⟨0x01, 0x01, .uint 1, .rw, false, 0, .within 0 31⟩,
    ⟨0x02, 0x02, .uint 4, .ro, false, 0, .any⟩,
    ⟨0x03, 0x03, .uint 4, .const, false, 0, .any⟩]⟩,
  ⟨0x2E10, 1, [
    ⟨0x00, 0x00, .uint 1, .const, false, 8, .any⟩,
    ⟨0x01, 0x08, .uint 1, .rw, false, 0, .any⟩]⟩,
  ⟨0x2E20, 1, [
    ⟨0x00, 0x00, .uint 1, .const, false, 3, .any⟩,
    ⟨0x01, 0x01, .uint 1, .rw, false, 0, .oneOf [0, 1]⟩,
    ⟨0x02, 0x02, .uint 1, .rw, false, 0, .within 0 240⟩,
    ⟨0x03, 0x03, .uint 1, .wo, false, 0, .within 1 3⟩]⟩]

/-- Objects 0x2E30 to 0x3220. -/
def dictPart7 : List DictRecord := [
  ⟨0x2E30, 1, [
    ⟨0x00, 0x00, .uint 1, .const, false, 1, .any⟩,
    ⟨0x01, 0x01, .uint 4, .ro, false, 0, .any⟩]⟩,
  ⟨0x2F01, 1, [
    ⟨0x00, 0x00, .uint 1, .const, false, 9, .any⟩,
    ⟨0x01, 0x01, .uint 1, .ro, false, 0, .any⟩,
    ⟨0x02, 0x02, .uint 1, .ro, false, 0, .any⟩,
    ⟨0x03, 0x03, .uint 4, .ro, true, 0, .any⟩,
    ⟨0x04, 0x04, .uint 1, .ro, false, 0, .any⟩,
    ⟨0x05, 0x05, .uint 4, .ro, false, 0, .any⟩,
    ⟨0x06, 0x06, .uint 1, .ro, false, 0, .any⟩,
    ⟨0x07, 0x07, .uint 4, .ro, false, 0, .any⟩,
    ⟨0x08, 0x08, .uint 4, .ro, false, 0, .any⟩,
    ⟨0x09, 0x09, .uint 1, .ro, false, 0, .any⟩]⟩,
  ⟨0x2F02, 1, [
    ⟨0x00, 0x00, .uint 1, .const, false, 3, .any⟩,
    ⟨0x01, 0x01, .uint 2, .const, false, 8192, .any⟩,
    ⟨0x02, 0x02, .octets 14, .ro, false, 0, .time112⟩,
    ⟨0x03, 0x03, .uint 8, .ro, false, 0, .any⟩]⟩,
  ⟨0x2F20, 1, [
    ⟨0x00, 0x00, .uint 1, .const, false, 4, .any⟩,
    ⟨0x01, 0x01, .uint 2, .wo, false, 0, .any⟩,
    ⟨0x02, 0x02, .uint 2, .ro, false, 65535, .any⟩,
    ⟨0x03, 0x03, .uint 1, .ro, false, 0, .any⟩,
    ⟨0x04, 0x04, .uint 4, .ro, false, 0, .any⟩]⟩,
  ⟨0x2F21, 1, [
    ⟨0x00, 0x00, .uint 1, .const, false, 1, .any⟩,
    ⟨0x01, 0x01, .uint 4, .wo, false, 0, .any⟩]⟩,
  ⟨0x2F22, 1, [
    ⟨0x00, 0x00, .uint 1, .const, false, 3, .any⟩,
    ⟨0x01, 0x01, .uint 4, .ro, false, 0, .any⟩,
    ⟨0x02, 0x02, .uint 4, .ro, false, 0, .any⟩,
    ⟨0x03, 0x03, .uint 2, .ro, false, 0, .any⟩]⟩,
  ⟨0x2F30, 1, [
    ⟨0x00, 0x00, .uint 1, .const, false, 5, .any⟩,
    ⟨0x01, 0x01, .uint 1, .rw, false, 0, .within 0 3⟩,
    ⟨0x02, 0x02, .domain, .wo, false, 0, .any⟩,
    ⟨0x03, 0x03, .uint 1, .ro, false, 0, .any⟩,
    ⟨0x04, 0x04, .uint 4, .ro, false, 0, .any⟩,
    ⟨0x05, 0x05, .uint 4, .ro, false, 0, .any⟩]⟩,
  ⟨0x2F40, 1, [
    ⟨0x00, 0x00, .uint 1, .const, false, 6, .any⟩,
    ⟨0x01, 0x01, .uint 1, .rw, false, 0, .within 0 3⟩,
    ⟨0x02, 0x02, .octets 32, .const, false, 0, .any⟩,
    ⟨0x03, 0x03, .uint 1, .ro, false, 0, .any⟩,
    ⟨0x04, 0x04, .uint 4, .wo, false, 0, .any⟩,
    ⟨0x05, 0x05, .uint 4, .ro, false, 0, .any⟩,
    ⟨0x06, 0x06, .uint 4, .wo, false, 0, .any⟩]⟩,
  ⟨0x3000, 32, [
    ⟨0x00, 0x00, .uint 1, .const, false, 7, .any⟩,
    ⟨0x01, 0x01, .octets 14, .ro, false, 0, .time112⟩,
    ⟨0x02, 0x02, .uint 8, .rw, false, 1152921504606846976, .any⟩,
    ⟨0x03, 0x03, .int 8, .rw, false, 0, .any⟩,
    ⟨0x04, 0x04, .uint 1, .rw, false, 0, .oneOf [0, 1]⟩,
    ⟨0x05, 0x05, .octets 14, .wo, false, 0, .time112⟩,
    ⟨0x06, 0x06, .int 8, .wo, false, 0, .any⟩,
    ⟨0x07, 0x07, .uint 4, .ro, false, 0, .any⟩]⟩,
  ⟨0x3020, 48, [
    ⟨0x00, 0x00, .uint 1, .const, false, 15, .any⟩,
    ⟨0x01, 0x01, .uint 1, .rw, true, 0, .oneOf [0, 1]⟩,
    ⟨0x02, 0x02, .uint 1, .rw, true, 1, .within 1 3⟩,
    ⟨0x03, 0x03, .uint 1, .rw, true, 0, .within 0 31⟩,
    ⟨0x04, 0x04, .int 4, .rw, true, 0, .any⟩,
    ⟨0x05, 0x05, .int 4, .ro, false, 0, .any⟩,
    ⟨0x06, 0x06, .uint 1, .ro, false, 0, .any⟩,
    ⟨0x07, 0x07, .uint 2, .ro, false, 0, .any⟩,
    ⟨0x08, 0x08, .domain, .ro, false, 0, .any⟩,
    ⟨0x09, 0x09, .uint 2, .wo, false, 0, .mask 0x1fff⟩,
    ⟨0x0A, 0x0A, .uint 4, .ro, false, 0, .any⟩,
    ⟨0x0B, 0x0B, .uint 4, .ro, false, 0, .any⟩,
    ⟨0x0C, 0x0C, .uint 4, .ro, false, 0, .any⟩,
    ⟨0x0D, 0x0D, .uint 1, .ro, false, 0, .any⟩,
    ⟨0x0E, 0x0E, .uint 1, .wo, false, 0, .any⟩,
    ⟨0x0F, 0x0F, .uint 2, .rw, true, 1, .within 1 65535⟩]⟩,
  ⟨0x3100, 32, [
    ⟨0x00, 0x00, .uint 1, .const, false, 28, .any⟩,
    ⟨0x01, 0x01, .uint 1, .rw, true, 0, .oneOf [0, 1]⟩,
    ⟨0x02, 0x02, .uint 2, .rw, true, 0, .any⟩,
    ⟨0x03, 0x03, .uint 1, .rw, true, 1, .oneOf [1, 2]⟩,
    ⟨0x04, 0x04, .uint 8, .rw, true, 10000000000000, .any⟩,
    ⟨0x05, 0x05, .uint 1, .rw, true, 10, .any⟩,
    ⟨0x06, 0x06, .uint 8, .rw, true, 1000000, .any⟩,
    ⟨0x07, 0x07, .uint 8, .rw, true, 100000, .any⟩,
    ⟨0x08, 0x08, .uint 1, .rw, true, 255, .any⟩,
    ⟨0x09, 0x09, .int 8, .rw, true, 0, .any⟩,
    ⟨0x0A, 0x0A, .int 8, .rw, true, 2000000000000, .within 1000000 100000000000000⟩,
    ⟨0x0B, 0x0B, .uint 8, .rw, true, 10000, .within 100 1000000000⟩,
    ⟨0x0C, 0x0C, .uint 4, .rw, true, 10, .within 1 600⟩,
    ⟨0x0D, 0x0D, .uint 4, .rw, true, 60, .within 1 3600⟩,
    ⟨0x0E, 0x0E, .uint 1, .ro, false, 0, .any⟩,
    ⟨0x0F, 0x0F, .int 8, .ro, false, 0, .any⟩,
    ⟨0x10, 0x10, .int 8, .ro, false, 0, .any⟩,
    ⟨0x11, 0x11, .uint 1, .rw, false, 2, .within 0 4⟩,
    ⟨0x12, 0x12, .uint 8, .ro, false, 0, .any⟩,
    ⟨0x13, 0x13, .uint 8, .ro, false, 0, .any⟩,
    ⟨0x14, 0x14, .uint 8, .rw, true, 0, .any⟩,
    ⟨0x15, 0x15, .uint 4, .ro, false, 0, .any⟩,
    ⟨0x16, 0x16, .uint 4, .ro, false, 0, .any⟩,
    ⟨0x17, 0x17, .uint 4, .ro, false, 0, .any⟩,
    ⟨0x18, 0x18, .uint 1, .rw, true, 0, .oneOf [0, 1]⟩,
    ⟨0x19, 0x19, .uint 1, .ro, false, 0, .any⟩,
    ⟨0x1A, 0x1A, .uint 4, .ro, false, 0, .any⟩,
    ⟨0x1B, 0x1B, .uint 2, .ro, false, 0, .any⟩,
    ⟨0x1C, 0x1C, .int 8, .ro, false, 0, .any⟩]⟩,
  ⟨0x3200, 16, [
    ⟨0x00, 0x00, .uint 1, .const, false, 13, .any⟩,
    ⟨0x01, 0x01, .uint 1, .rw, true, 0, .oneOf [0, 1]⟩,
    ⟨0x02, 0x02, .uint 1, .rw, true, 0, .any⟩,
    ⟨0x03, 0x03, .uint 1, .rw, true, 0, .any⟩,
    ⟨0x04, 0x04, .uint 8, .rw, true, 100000000000000, .within 10000000000000 250000000000000⟩,
    ⟨0x05, 0x05, .uint 4, .rw, true, 1000, .any⟩,
    ⟨0x06, 0x06, .uint 2, .rw, true, 500, .any⟩,
    ⟨0x07, 0x07, .uint 4, .ro, false, 0, .any⟩,
    ⟨0x08, 0x08, .uint 1, .ro, false, 0, .any⟩,
    ⟨0x09, 0x09, .int 8, .ro, false, 0, .any⟩,
    ⟨0x0A, 0x0A, .uint 8, .ro, false, 0, .any⟩,
    ⟨0x0B, 0x0B, .uint 1, .rw, true, 1, .within 0 2⟩,
    ⟨0x0C, 0x0C, .uint 4, .rw, true, 0, .any⟩,
    ⟨0x0D, 0x0D, .uint 4, .ro, false, 0, .any⟩]⟩,
  ⟨0x3210, 4, [
    ⟨0x00, 0x00, .uint 1, .const, false, 16, .any⟩,
    ⟨0x01, 0x01, .uint 1, .rw, true, 0, .oneOf [0, 1]⟩,
    ⟨0x02, 0x02, .uint 1, .rw, true, 0, .any⟩,
    ⟨0x03, 0x03, .uint 1, .rw, true, 1, .any⟩,
    ⟨0x04, 0x04, .uint 2, .rw, true, 100, .any⟩,
    ⟨0x05, 0x05, .uint 8, .rw, true, 10000000000000000, .any⟩,
    ⟨0x06, 0x06, .uint 1, .rw, true, 32, .within 1 64⟩,
    ⟨0x07, 0x07, .uint 1, .rw, true, 255, .any⟩,
    ⟨0x08, 0x08, .uint 4, .rw, true, 10000, .any⟩,
    ⟨0x09, 0x09, .uint 1, .ro, false, 0, .any⟩,
    ⟨0x0A, 0x0A, .uint 1, .ro, false, 0, .any⟩,
    ⟨0x0B, 0x0B, .uint 2, .ro, false, 0, .any⟩,
    ⟨0x0C, 0x0C, .uint 4, .ro, false, 0, .any⟩,
    ⟨0x0D, 0x0D, .uint 4, .ro, false, 0, .any⟩,
    ⟨0x0E, 0x0E, .uint 4, .ro, false, 0, .any⟩,
    ⟨0x0F, 0x0F, .uint 1, .ro, false, 0, .any⟩,
    ⟨0x10, 0x10, .uint 4, .ro, false, 0, .any⟩]⟩,
  ⟨0x3220, 12, [
    ⟨0x00, 0x00, .uint 1, .const, false, 14, .any⟩,
    ⟨0x01, 0x01, .uint 1, .rw, true, 0, .oneOf [0, 1]⟩,
    ⟨0x02, 0x02, .uint 1, .rw, true, 0, .oneOf [0, 1, 2, 3, 16, 17, 18, 19, 20, 21, 22, 23, 24, 25, 26, 27, 28, 29, 30, 31]⟩,
    ⟨0x03, 0x03, .uint 4, .rw, true, 64, .any⟩,
    ⟨0x04, 0x04, .uint 1, .rw, true, 0, .within 0 2⟩,
    ⟨0x05, 0x05, .uint 1, .rw, true, 1, .oneOf [0, 1]⟩,
    ⟨0x06, 0x06, .uint 1, .rw, true, 2, .within 0 2⟩,
    ⟨0x07, 0x07, .int 4, .rw, true, 0, .any⟩,
    ⟨0x08, 0x08, .uint 1, .wo, false, 0, .oneOf [1]⟩,
    ⟨0x09, 0x09, .uint 1, .ro, false, 0, .any⟩,
    ⟨0x0A, 0x0A, .int 4, .ro, false, 0, .any⟩,
    ⟨0x0B, 0x0B, .uint 8, .ro, false, 0, .any⟩,
    ⟨0x0C, 0x0C, .uint 4, .ro, false, 0, .any⟩,
    ⟨0x0D, 0x0D, .int 4, .rw, true, 0, .any⟩,
    ⟨0x0E, 0x0E, .uint 1, .ro, false, 0, .any⟩]⟩]

/-- Objects 0x3230 to 0x3500. -/
def dictPart8 : List DictRecord := [
  ⟨0x3230, 8, [
    ⟨0x00, 0x00, .uint 1, .const, false, 11, .any⟩,
    ⟨0x01, 0x01, .uint 1, .rw, true, 0, .oneOf [0, 1]⟩,
    ⟨0x02, 0x02, .uint 4, .rw, true, 100000000, .any⟩,
    ⟨0x03, 0x03, .uint 1, .rw, true, 0, .oneOf [0, 1]⟩,
    ⟨0x04, 0x04, .uint 4, .rw, true, 115200, .any⟩,
    ⟨0x05, 0x05, .uint 1, .rw, true, 0, .within 0 2⟩,
    ⟨0x06, 0x06, .uint 4, .rw, true, 10000, .any⟩,
    ⟨0x07, 0x07, .uint 1, .rw, true, 1, .within 0 2⟩,
    ⟨0x08, 0x08, .uint 1, .rw, true, 1, .oneOf [0, 1]⟩,
    ⟨0x09, 0x09, .uint 1, .ro, false, 0, .any⟩,
    ⟨0x0A, 0x0A, .uint 4, .ro, false, 0, .any⟩,
    ⟨0x0B, 0x0B, .uint 2, .ro, false, 0, .any⟩]⟩,
  ⟨0x3240, 16, [
    ⟨0x00, 0x00, .uint 1, .const, false, 17, .any⟩,
    ⟨0x01, 0x01, .uint 1, .rw, true, 1, .any⟩,
    ⟨0x02, 0x11, .uint 8, .rw, true, 0, .any⟩]⟩,
  ⟨0x3400, 24, [
    ⟨0x00, 0x00, .uint 1, .const, false, 36, .any⟩,
    ⟨0x01, 0x01, .uint 1, .rw, true, 0, .oneOf [0, 1]⟩,
    ⟨0x02, 0x02, .uint 1, .rw, true, 0, .any⟩,
    ⟨0x03, 0x03, .uint 1, .rw, true, 0, .any⟩,
    ⟨0x04, 0x04, .uint 2, .rw, true, 1518, .any⟩,
    ⟨0x05, 0x05, .uint 1, .rw, true, 0, .within 0 2⟩,
    ⟨0x06, 0x06, .uint 1, .ro, false, 0, .any⟩,
    ⟨0x07, 0x07, .int 4, .rw, true, 0, .any⟩,
    ⟨0x08, 0x08, .int 4, .rw, true, 0, .any⟩,
    ⟨0x09, 0x09, .uint 4, .rw, true, 0, .any⟩,
    ⟨0x0A, 0x0A, .uint 1, .rw, true, 0, .any⟩,
    ⟨0x0B, 0x0B, .uint 4, .ro, false, 0, .any⟩,
    ⟨0x0C, 0x0C, .uint 1, .rw, true, 0, .within 0 2⟩,
    ⟨0x0D, 0x0D, .uint 1, .rw, false, 0, .within 0 3⟩,
    ⟨0x0E, 0x0E, .uint 4, .ro, false, 0, .any⟩,
    ⟨0x0F, 0x0F, .domain, .ro, false, 0, .any⟩,
    ⟨0x10, 0x10, .uint 2, .wo, false, 0, .any⟩,
    ⟨0x11, 0x11, .uint 1, .ro, false, 0, .any⟩,
    ⟨0x12, 0x12, .uint 4, .ro, false, 0, .any⟩,
    ⟨0x13, 0x13, .uint 1, .ro, false, 0, .any⟩,
    ⟨0x14, 0x14, .uint 1, .wo, false, 0, .any⟩,
    ⟨0x15, 0x15, .uint 4, .ro, false, 0, .any⟩,
    ⟨0x16, 0x16, .uint 4, .ro, false, 0, .any⟩,
    ⟨0x17, 0x17, .uint 4, .ro, false, 0, .any⟩,
    ⟨0x18, 0x18, .uint 4, .ro, false, 0, .any⟩,
    ⟨0x19, 0x19, .uint 4, .ro, false, 0, .any⟩,
    ⟨0x1A, 0x1A, .uint 4, .ro, false, 0, .any⟩,
    ⟨0x1B, 0x1B, .uint 4, .ro, false, 0, .any⟩,
    ⟨0x1C, 0x1C, .uint 4, .ro, false, 0, .any⟩,
    ⟨0x1D, 0x1D, .uint 4, .ro, false, 0, .any⟩,
    ⟨0x1E, 0x1E, .uint 4, .ro, false, 0, .any⟩,
    ⟨0x1F, 0x1F, .uint 4, .ro, false, 0, .any⟩,
    ⟨0x20, 0x20, .uint 4, .ro, false, 0, .any⟩,
    ⟨0x21, 0x21, .uint 4, .ro, false, 0, .any⟩,
    ⟨0x22, 0x22, .uint 4, .const, false, 0, .any⟩,
    ⟨0x23, 0x23, .uint 4, .const, false, 0, .any⟩,
    ⟨0x24, 0x24, .uint 1, .rw, true, 0, .any⟩]⟩,
  ⟨0x3500, 8, [
    ⟨0x00, 0x00, .uint 1, .const, false, 23, .any⟩,
    ⟨0x01, 0x01, .uint 1, .rw, true, 0, .oneOf [0, 1]⟩,
    ⟨0x02, 0x02, .uint 1, .rw, true, 0, .oneOf [0, 1]⟩,
    ⟨0x03, 0x03, .uint 1, .rw, true, 1, .any⟩,
    ⟨0x04, 0x04, .uint 4, .rw, true, 48000, .any⟩,
    ⟨0x05, 0x05, .uint 1, .rw, true, 8, .any⟩,
    ⟨0x06, 0x06, .uint 1, .rw, true, 32, .any⟩,
    ⟨0x07, 0x07, .uint 4, .rw, true, 255, .any⟩,
    ⟨0x08, 0x08, .uint 1, .rw, true, 0, .within 0 31⟩,
    ⟨0x09, 0x09, .int 4, .rw, true, 0, .within (-10000000) 10000000⟩,
    ⟨0x0A, 0x0A, .uint 2, .rw, true, 256, .oneOf [0, 128, 256, 512]⟩,
    ⟨0x0B, 0x0B, .uint 4, .const, false, 50, .any⟩,
    ⟨0x0C, 0x0C, .uint 1, .ro, false, 0, .any⟩,
    ⟨0x0D, 0x0D, .int 8, .ro, false, 0, .any⟩,
    ⟨0x0E, 0x0E, .uint 1, .ro, false, 0, .any⟩,
    ⟨0x0F, 0x0F, .uint 4, .ro, false, 0, .any⟩,
    ⟨0x10, 0x10, .uint 4, .ro, false, 0, .any⟩,
    ⟨0x11, 0x11, .uint 4, .ro, false, 0, .any⟩,
    ⟨0x12, 0x12, .uint 4, .ro, false, 0, .any⟩,
    ⟨0x13, 0x13, .uint 4, .ro, false, 0, .any⟩,
    ⟨0x14, 0x14, .uint 1, .rw, true, 2, .within 0 3⟩,
    ⟨0x15, 0x15, .uint 1, .rw, true, 1, .within 0 2⟩,
    ⟨0x16, 0x16, .int 4, .rw, true, 0, .within (-86399) 86399⟩,
    ⟨0x17, 0x17, .uint 4, .rw, true, 0, .any⟩]⟩]

/-- The parts with the last index of each, in rising order. -/
def dictionary : List (Nat × List DictRecord) := [
  (0x2010, dictPart0),
  (0x2247, dictPart1),
  (0x2500, dictPart2),
  (0x2702, dictPart3),
  (0x2A02, dictPart4),
  (0x2C4B, dictPart5),
  (0x2E20, dictPart6),
  (0x322B, dictPart7),
  (0x3507, dictPart8)]

end Sys2Proof.Machine
end

