-- ==== Sys2Proof/Machine/Operands.lean ====
section
/-! DEFINITION. Octet order, bit fields, checks and pseudo-random registers that the rules name. -/

namespace Sys2Proof.Machine

/-- Bit `n` of a number. -/
def bit (v n : Nat) : Bool := v.testBit n

/-- The number of a bit. -/
def bitNat (b : Bool) : Nat := if b then 1 else 0

/-- Bits [hi:lo]. -/
def field (v hi lo : Nat) : Nat := (v >>> lo) % 2 ^ (hi + 1 - lo)

/-- `v` with bit `n` set or cleared. -/
def putBit (v n : Nat) (b : Bool) : Nat :=
  if b then v ||| 2 ^ n else if bit v n then v - 2 ^ n else v

/-- `v` with the bits of `m` cleared. -/
def clearBits (v m : Nat) : Nat := v ^^^ (v &&& m)

/-- The numbers of the bits set in `m`, below `n`. -/
def bitsSet (m n : Nat) : List Nat := (List.range n).filter fun k => bit m k

/-- The mask of a list of bit numbers. -/
def maskOf (l : List Nat) : Nat := l.foldl (fun m k => m ||| 2 ^ k) 0

/-- Least significant octet first (R10). -/
def leNat : Octets → Nat
  | [] => 0
  | o :: r => o.toNat + 256 * leNat r

/-- Most significant octet first. -/
def beNat (l : Octets) : Nat := l.foldl (fun a o => a * 256 + o.toNat) 0

/-- `n` octets, least significant first. -/
def leOctets : Nat → Nat → Octets
  | 0, _ => []
  | n + 1, v => BitVec.ofNat 8 v :: leOctets n (v / 256)

/-- `n` octets, most significant first. -/
def beOctets (n v : Nat) : Octets := (leOctets n v).reverse

/-- Two's complement of `bits` bits as a signed number. -/
def signed (bits v : Nat) : Int := if 2 ^ (bits - 1) ≤ v % 2 ^ bits then (v % 2 ^ bits : Nat) - (2 ^ bits : Nat) else (v % 2 ^ bits : Nat)

/-- A signed number as two's complement of `bits` bits. -/
def unsigned (bits : Nat) (v : Int) : Nat := (v % (2 ^ bits : Nat)).toNat


/-- The value clamped to a range. -/
def clampI (lo hi v : Int) : Int := if v < lo then lo else if hi < v then hi else v

/-- Quotient rounded up. -/
def ceilDiv (a b : Nat) : Nat := (a + b - 1) / b

/-- Quotient rounded up, signed. -/
def ceilDivI (a : Int) (b : Nat) : Int := -((-a) / (b : Int))

/-- Quotient rounded to the nearest, halves up. -/
def roundDivI (a : Int) (b : Nat) : Int := (2 * a + b) / (2 * (b : Int))

/-- Bits of the integer square root, from bit `k` down. -/
def sqrtGo (v : Nat) : Nat → Nat → Nat
  | 0, r => r
  | k + 1, r => if (r + 2 ^ k) * (r + 2 ^ k) ≤ v then sqrtGo v k (r + 2 ^ k) else sqrtGo v k r

/-- Integer square root, rounded down. -/
def sqrtDown (v : Nat) : Nat := sqrtGo v (v.log2 / 2 + 1) 0

/-- Integer square root, rounded up. -/
def sqrtUp (v : Nat) : Nat := if sqrtDown v * sqrtDown v = v then sqrtDown v else sqrtDown v + 1

/-- `l` with element `n` replaced. -/
def setAt {α : Type} (l : List α) (n : Nat) (v : α) : List α := l.set n v

/-- Octets of a sub-range. -/
def slice (l : Octets) (start len : Nat) : Octets := (l.drop start).take len

/-- Octets padded with 0x00 to `n`. -/
def padTo (n : Nat) (l : Octets) : Octets := l ++ List.replicate (n - l.length) 0

/-- One bit step of CRC-16/CCITT-FALSE. -/
def crc16Bit (c : Nat) (b : Bool) : Nat :=
  if (bit c 15) != b then ((c * 2) % 65536) ^^^ 0x1021 else (c * 2) % 65536

/-- One octet, most significant bit first. -/
def crc16Octet (c : Nat) (o : Octet) : Nat :=
  [7, 6, 5, 4, 3, 2, 1, 0].foldl (fun a k => crc16Bit a (o.getLsbD k)) c

/-- CRC-16/CCITT-FALSE: polynomial 0x1021, initial value 0xFFFF, no reflection, no final XOR (Table 3.2). -/
def crc16 (l : Octets) : Nat := l.foldl crc16Octet 0xFFFF

/-- One bit step of the reflected CRC-32C. -/
def crc32cBit (c : Nat) : Nat := if bit c 0 then (c / 2) ^^^ 0x82F63B78 else c / 2

/-- One octet of CRC-32C. -/
def crc32cOctet (c : Nat) (o : Octet) : Nat :=
  let d := c ^^^ o.toNat
  crc32cBit (crc32cBit (crc32cBit (crc32cBit (crc32cBit (crc32cBit (crc32cBit (crc32cBit d)))))))

/-- CRC-32C (R307): reflected, initial value and final XOR all ones. -/
def crc32c (l : Octets) : Nat := (l.foldl crc32cOctet 0xFFFFFFFF) ^^^ 0xFFFFFFFF

/-- One bit step of the reflected CRC-32 of an Ethernet frame. -/
def crc32Bit (c : Nat) : Nat := if bit c 0 then (c / 2) ^^^ 0xEDB88320 else c / 2

/-- One octet of CRC-32. -/
def crc32Octet (c : Nat) (o : Octet) : Nat :=
  let d := c ^^^ o.toNat
  crc32Bit (crc32Bit (crc32Bit (crc32Bit (crc32Bit (crc32Bit (crc32Bit (crc32Bit d)))))))

/-- The four octets of the FCS of a frame (R254, R256). PRESUMED: the CRC-32 of IEEE 802.3 (log 95). -/
def fcsOf (l : Octets) : Octets := leOctets 4 ((l.foldl crc32Octet 0xFFFFFFFF) ^^^ 0xFFFFFFFF)

/-- One bit step of CRC-64, most significant bit first (R370). -/
def crc64Bit (c : Nat) : Nat := if bit c 63 then (2 * c % 2 ^ 64) ^^^ 0x42F0E1EBA9EA3693 else 2 * c

/-- One octet of CRC-64. -/
def crc64Octet (c : Nat) (o : Octet) : Nat :=
  let d := c ^^^ (o.toNat * 2 ^ 56)
  crc64Bit (crc64Bit (crc64Bit (crc64Bit (crc64Bit (crc64Bit (crc64Bit (crc64Bit d)))))))

/-- A digest of the egress comparison, carried on from `c` (R370): CRC-64, initial value 0, no reflection. -/
def crc64From (c : Nat) (l : Octets) : Nat := l.foldl crc64Octet c
def crc64 (l : Octets) : Nat := crc64From 0 l

/-- Sum of the 16-bit words of a list of octets, most significant octet first; a last odd octet is followed by 0x00. -/
def sum16 : Octets → Nat
  | [] => 0
  | [a] => a.toNat * 256
  | a :: b :: r => a.toNat * 256 + b.toNat + sum16 r

/-- The Internet checksum: the complement of the ones' complement sum (R252). -/
def checksum16 (l : Octets) : Nat := if sum16 l = 0 then 0xFFFF else 0xFFFF - (1 + (sum16 l - 1) % 0xFFFF)

/-- A UDP checksum: a computed value of 0x0000 is sent as 0xFFFF (R252). -/
def udpSum (l : Octets) : Nat := if checksum16 l = 0 then 0xFFFF else checksum16 l

/-- A value of a type from its octets in transfer order (R10). -/
def OType.decode (ty : OType) (l : Octets) : Int :=
  match ty with
  | .uint _ => leNat l
  | .int n => signed (8 * n) (leNat l)
  | .octets _ => beNat l
  | .text _ => beNat l
  | .domain => 0

/-- The octets of a value in transfer order (R10). -/
def OType.encode (ty : OType) (v : Int) : Octets :=
  match ty with
  | .uint n => leOctets n (unsigned (8 * n) v)
  | .int n => leOctets n (unsigned (8 * n) v)
  | .octets n => beOctets n (unsigned (8 * n) v)
  | .text n => beOctets n (unsigned (8 * n) v)
  | .domain => []

/-- The size of a type in octets; none for DOMAIN. -/
def OType.size : OType → Option Nat
  | .uint n => some n
  | .int n => some n
  | .octets n => some n
  | .text n => some n
  | .domain => none

/-- The nanoseconds field of a TIME112 value held as a 112-bit number. -/
def time112Ns (v : Nat) : Nat := field v 63 32

/-- The output points that 0x2405.02 names. -/
def isOutputPoint (v : Int) : Bool :=
  decide (0 ≤ v ∧ v ≤ 0x17) || decide (0x20 ≤ v ∧ v ≤ 0x2B) || decide (0x30 ≤ v ∧ v ≤ 0x37) || decide (v = 0x40) || decide (v = 0xFF)

/-- Whether a value lies in a range. -/
def ORange.ok (r : ORange) (v : Int) : Bool :=
  match r with
  | .any => true
  | .within lo hi => decide (lo ≤ v ∧ v ≤ hi)
  | .oneOf l => l.contains v
  | .mask m => decide (0 ≤ v) && decide (clearBits v.toNat m = 0)
  | .zeroOr lo hi => decide (v = 0) || decide (lo ≤ v ∧ v ≤ hi)
  | .upToOr hi other => decide (0 ≤ v ∧ v ≤ hi) || decide (v = other)
  | .atLeast lo => decide (lo ≤ v)
  | .multiple n => decide (v % (n : Int) = 0)
  | .time112 => decide (time112Ns v.toNat < 1000000000)
  | .outputPoint => isOutputPoint v

end Sys2Proof.Machine
end

