-- ==== Sys2Proof/Machine/Table.lean ====
section
/-! DEFINITION. Sparse tables: a list of key and value pairs in one canonical form, keys strictly rising and no entry
equal to what an unlisted key reads as. Every numbered bank of the block (objects, time bases, records, slots) is one. -/

namespace Sys2Proof.Machine

/-- A sparse bank keyed by number. -/
abbrev Table (α : Type) := List (Nat × α)

/-- The entry at `k`; `d k` where the table lists none. -/
def Table.look {α : Type} (d : Nat → α) (k : Nat) : Table α → α
  | [] => d k
  | e :: t => if e.1 = k then e.2 else Table.look d k t

/-- The table without `k`. -/
def Table.drop {α : Type} (k : Nat) : Table α → Table α
  | [] => []
  | e :: t => if e.1 = k then Table.drop k t else e :: Table.drop k t

/-- The pair placed before the first greater key. -/
def Table.place {α : Type} (k : Nat) (v : α) : Table α → Table α
  | [] => [(k, v)]
  | e :: t => if k < e.1 then (k, v) :: e :: t else e :: Table.place k v t

/-- Writing `v` at `k`: a value equal to the default removes the entry. -/
def Table.put {α : Type} [DecidableEq α] (d : Nat → α) (k : Nat) (v : α) (t : Table α) : Table α :=
  if v = d k then Table.drop k t else Table.place k v (Table.drop k t)

/-- Keys strictly rising, each above `lo`. -/
def Table.rising {α : Type} (lo : Option Nat) : Table α → Bool
  | [] => true
  | e :: t => (match lo with | none => true | some l => decide (l < e.1)) && Table.rising (some e.1) t

/-- The canonical form. -/
def Table.wf {α : Type} [DecidableEq α] (d : Nat → α) (t : Table α) : Bool :=
  Table.rising none t && t.all fun e => decide (e.2 ≠ d e.1)

/-- Every listed key. -/
def Table.keys {α : Type} (t : Table α) : List Nat := t.map Prod.fst

end Sys2Proof.Machine
end

