-- ==== Sys2Proof/Machine/State.lean ====
section
/-! DEFINITION. The state of the block, plain data, family by family, and the state right after reset. Object-dictionary
values live in `objs`, keyed by plate, window item, index and sub-index; what an object table does not hold stands in the
structures below. A field's default is its reset value: the spec's where it gives one, else zero or empty (log 3). -/

namespace Sys2Proof.Machine

/-- Why a step faults. No meaning of this model raises a fault. -/
inductive Fault where
  /-- Raised by nothing: the spec names no access that stops the block. Safe. -/
  | noSuchFault
deriving DecidableEq, Repr

/-- Why a step is refused. -/
inductive Refusal where
  /-- Raised by an arm of exec whose command has no meaning yet. Safe: the machine stops. -/
  | notModelled (mnemonic : String)
deriving DecidableEq, Repr

/-! ### Clock and intake -/

/-- The engine cycle counter as the schedule units of R8. -/
structure Clock where
  /-- Cycle within the exposure. -/
  cycle : Nat := 0
  /-- Exposure within the reel, 0 to 999. -/
  exposure : Nat := 0
  /-- Exposures since the release of reset. -/
  exposures : Nat := 0
  /-- Reels since the release of reset. -/
  reel : Nat := 0
  /-- The work of cycle 0 of this exposure, and of this reel, is still to be done (log 1). -/
  exposureDue : Bool := false
  reelDue : Bool := false
deriving DecidableEq, Repr

/-- What an intake item carries (Table 1.2). -/
inductive ItemBody where
  | frame (f : RxFrame)
  /-- A converted REFIN edge: its event cycle and its timestamp, 2⁻³² ns of time base 0. -/
  | refEdge (cycle : Nat) (stamp : Int)
  /-- An event: its timestamp on the selected time base and on time base 0, 2⁻³² ns; the interval units have had it (R122). -/
  | event (rising : Bool) (time time0 : Int) (passed : Bool)
  /-- A sample block (R212): the timestamp of its first sample, 2⁻³² ns of time base 0, and the samples. -/
  | gnssBlock (start : Int) (samples : List GnssSample)
  /-- A media frame (R346): the event cycle of its frame-start edge, that edge's timestamp in 2⁻³² ns of time base 0, the BCLK periods
  since the edge before, the slots received. -/
  | media (cycle : Nat) (stamp : Int) (bclks : Nat) (slots : List Int)
deriving DecidableEq, Repr

/-- An item tagged and waiting for delivery (R14): source number, tag cycle, the value of time base 0 at the tag cycle in units of 2⁻⁶⁰ ns, body. -/
structure Item where
  source : Nat
  tag : Nat
  base : Nat
  body : ItemBody
deriving DecidableEq, Repr

/-- One entry of the duplicate-discard table (R366). -/
structure DiscardEntry where
  pos : Nat
  mac : Nat
  seq : Nat
  side : Nat
  arrival : Nat
deriving DecidableEq, Repr

/-- The intake (R13 to R18, R362, R366). -/
structure Intake where
  /-- Items tagged and not yet delivered, oldest first. -/
  items : List Item := []
  /-- Intake faults, one bit a source (0x2C20.01 and .02). -/
  faults : Nat := 0
  /-- Instants of rail errors by source, within the last second (R362). -/
  railErrors : Table (List Nat) := []
  /-- Duplicate-discard table, oldest first. -/
  discard : List DiscardEntry := []
  /-- Instant of the last EMCY 0xFFA5. -/
  evictionSent : Option Nat := none
  /-- Event frames stopped by a common clock failure (R18). -/
  eventFramesStopped : Bool := false
deriving DecidableEq, Repr

/-! ### Management -/

/-- A response of the USDO server. -/
inductive UsdoResponse where
  | downloaded (index sub : Nat)
  | downloadOpened (index sub : Nat)
  | lastSegment
  | uploaded (index sub : Nat) (data : Octets)
  | uploadOpened (index sub size : Nat)
  | uploadSegment (seq : Nat) (last : Bool) (data : Octets)
  | abort (index sub code : Nat)
deriving DecidableEq, Repr

/-- Frames to the host (R73, R74, R96). -/
inductive OutFrame where
  | bootUp (node : Nat)
  | heartbeat (node state : Nat)
  | emcy (cob code register plate detail : Nat)
  | usdo (node : Nat) (r : UsdoResponse)
deriving DecidableEq, Repr

/-- A frame as the CAN controller sends it (R73): CAN-ID, bit-rate switching, data-phase rate in kbit/s, the 64-octet data field. -/
structure CanFrame where
  id : Nat
  switched : Bool
  rate : Nat
  field : Octets
deriving DecidableEq, Repr

/-- The open segmented transfer (R81, R98, R470). -/
structure Transfer where
  transport : Transport
  download : Bool
  index : Nat
  sub : Nat
  size : Option Nat
  /-- Octets received, or still to send. -/
  data : Octets
  /-- Number of the next segment. -/
  next : Nat
  /-- Instant of its last segment, or of its initiation (R81). -/
  since : Nat
deriving DecidableEq, Repr

/-- What waits for a management point: a request, a frame that is answered with 0x0504_0001 (R73), or the complete value of a segmented
download (R470). -/
inductive Job where
  | request (r : UsdoRequest)
  | invalid (index sub : Nat)
  | value (index sub : Nat) (data : Octets)
deriving DecidableEq, Repr

/-- A complete request waiting for its management point: transport, request, the exposure of that point. -/
structure Waiting where
  transport : Transport
  job : Job
  due : Nat
deriving DecidableEq, Repr

/-- A value accepted that takes effect later: object key, value, 1 at the next exposure boundary, 2 at the next reel. -/
structure PendingWrite where
  key : Nat
  value : Int
  boundary : Nat
deriving DecidableEq, Repr

/-- The management unit (chapter 03). -/
structure Mgmt where
  /-- NMT state octet of Table 3.3. -/
  nmt : Nat := 0
  /-- 0 error active, 1 error passive, 2 bus-off (R402). -/
  canState : Nat := 0
  /-- Responses, heartbeats and boot-up messages awaiting CAN transmission. -/
  canTx : List OutFrame := []
  /-- EMCY frames awaiting CAN transmission, at most 32 (R97). -/
  emcyHold : List OutFrame := []
  /-- EMCY frames lost for CAN since the previous 0xFF00 (R97). -/
  lost : Nat := 0
  /-- The SPI output queue, at most 32, oldest first (R76). -/
  spiQueue : List OutFrame := []
  /-- What SPI_MISO drove in the last transaction, before its 0x00 fill (R75, R76). -/
  miso : Octets := []
  /-- The frame that the CAN controller sent last. -/
  canSent : Option CanFrame := none
  /-- Complete requests waiting, at most 64 (R82). -/
  requests : List Waiting := []
  transfer : Option Transfer := none
  /-- Straps NODEID6 to NODEID0 as last read (R77). -/
  straps : Nat := 0
  /-- Data-phase bit rate in force, kbit/s (R73). -/
  bitRate : Nat := 5000
  pendWrites : List PendingWrite := []
  /-- Persistence copies pending: object keys (R84, R440). -/
  copies : List Nat := []
deriving DecidableEq, Repr

/-- Agreement groups (R89 to R94). Members in force live in `objs`. -/
structure Groups where
  /-- Shadow values, by object key. -/
  shadow : Table (Option Int) := []
  /-- Committed sets waiting, by object key. -/
  waiting : Table (Option Int) := []
  /-- Sub 3: instances with shadow values not committed, by group. -/
  pending : Table Nat := []
  /-- Sub 4: instances waiting, by group. -/
  committed : Table Nat := []
  /-- Sub 5: instances that failed at the last refused commit, by group. -/
  failed : Table Nat := []
  /-- Exposure of the last accepted commit, by 32 × group + instance (the safe points follow it). -/
  committedIn : Table Nat := []
  /-- Exposure of the last shadow write, by 32 × group + instance. -/
  since : Table Nat := []
  /-- Instances whose 0xFF10 has been sent, by group. -/
  reported : Table Nat := []
deriving DecidableEq, Repr

/-! ### Start-up and the darkroom -/

/-- One replica of section E (R176, R421): the mapping of time base 0 and terms 1 to 4. -/
structure SectionE where
  value : Nat := 0
  count : Nat := 0
  terms : List Int := []
deriving DecidableEq, Repr

/-- The darkroom (R33, R421, R438 to R440). -/
structure Darkroom where
  /-- Section A: values stored, by object key; an object with no record stands at its OTP default. -/
  secA : Table (Option Int) := []
  /-- Section B: the root, with its mask. -/
  root : Option Octets := none
  rootMask : Octets := []
  /-- Section C: stored leap objects, by object key. -/
  secC : Table (Option Int) := []
  /-- Section D: stored model objects and the ageing history. -/
  secD : Table (Option Int) := []
  history : List (Nat × Int) := []
  /-- Section E. -/
  secE : Option SectionE := none
  /-- The earlier copies of sections D, with its history, and E, which are held twice and written in turn (R421). -/
  secDOld : Table (Option Int) := []
  historyOld : List (Nat × Int) := []
  secEOld : Option SectionE := none
  /-- Section F: the saved contact sheet. -/
  secF : List Octets := []
  secFValid : Bool := false
  /-- Sections marked valid in the store, one bit a section as in 0x2F01.09. -/
  valid : Nat := 0x7F
  /-- Sections found invalid at a restore and to be rewritten. -/
  rewrite : Nat := 0
  /-- Failed and completed transfers in a row (R389, R421). -/
  failures : Nat := 0
  successes : Nat := 0
  fault : Bool := false
  /-- The 32.768 kHz count. -/
  count : Nat := 0
  vbat : Bool := true
deriving DecidableEq, Repr

/-- Start-up, reset and recovery (chapter 16). -/
structure Boot where
  /-- 0 to 5 of Table 16.3, 6 boot-hold. -/
  phase : Nat := 0
  /-- RESET_N asserted, or main supplies down. -/
  inReset : Bool := true
  /-- Cause of the reset in progress or last completed (0x2F01.02). -/
  cause : Nat := 1
  stopped : Bool := false
  /-- Repetitions of phase 0 after a common clock self-test failure (R420). -/
  repeats : Nat := 0
  testEnable : Bool := false
  selfTest : Nat := 0
  /-- Flash: the two firmware slots and the two plan regions (R413). -/
  slots : List Octets := [[], []]
  planImages : List Octets := [[], []]
  /-- The slot whose firmware runs; 2 none. -/
  slotInUse : Nat := 2
  version : Nat := 0
  /-- The firmware image in the patch registers of the management unit and the Developer cores (R413). -/
  patches : Octets := []
  planSource : Nat := 0
  outage : Nat := 0
  releaseMs : Nat := 0
  /-- Time base 0 has been loaded (phase 4), and a second plan image was tried. -/
  loaded : Bool := false
  second : Bool := false
  /-- Records of section A that a restore found invalid: object keys. -/
  badRecords : List Nat := []
  sectionsValid : Nat := 0
  lastRefusal : Nat := 0
  /-- Revocation bits and rollback floor added to OTP by the host (R415). -/
  revoked : Nat := 0
  floor : Nat := 0
  /-- Device reset accepted and not yet applied: 4 command, 5 with defaults, 6 common clock failure. -/
  resetPending : Option Nat := none
  /-- The cycle from which that reset applies (R424). -/
  resetAt : Nat := 0
  flashTarget : Option Nat := none
  flashData : Octets := []
  flashStatus : Nat := 0
  /-- Re-initialisations in progress and pending, by function code. -/
  reinit : List Nat := []
  reinitPending : List Nat := []
  /-- The exposure in which each began, by function code. -/
  reinitSince : Table Nat := []
  lastFunction : Nat := 0xFFFF
  reinitStatus : Nat := 0
  /-- Missed fast-term updates in a row, and skipped exposures of each group (R427). -/
  missedUpdates : Nat := 0
  groupSkips : Table Nat := []
  groupSkippedNow : Nat := 0
  /-- Instants of watchdog actions by function, within 60 s (R428). -/
  actions : Table (List Nat) := []
  /-- The test access port's instruction (R444). -/
  tap : Nat := 0
deriving DecidableEq, Repr

/-! ### Plates and faults -/

/-- One plate's own state (chapter 14). -/
structure Plate where
  /-- Table 14.2. -/
  state : Nat := 5
  fatalNow : Bool := false
  containedNow : Bool := false
  /-- A fatal fault outstanding on the last plate (R384). -/
  fatalLast : Bool := false
  proofPassed : Bool := false
  /-- A passed plate in Proof that waits for re-synchronisation (R377). -/
  waiting : Bool := false
  proofEnded : Nat := 0
  firstFailing : Nat := 0
  inStepSince : Nat := 0
  resetAt : Option Nat := none
  /-- Figures of the proof sheet (Table 14.4). -/
  scrubAt : Nat := 0
  katPassReel : Nat := 0
  katFail : Nat := 0
  asleepReel : Nat := 0
  asleepFail : Nat := 0
  asleepRan : Bool := false
  hottest : Int := -32768
  vddLow : Nat := 0
  vddHigh : Nat := 0
  comparesReel : Nat := 0
  divergences : Nat := 0
deriving DecidableEq, Repr

/-- The pair of plates (R359 to R385). -/
structure Twin where
  active : Nat := 0
  plates : Table Plate := []
  /-- A divergence found in this exposure: the demotion follows at the next boundary (R372). -/
  diverged : Bool := false
  divergenceSent : Bool := false
  exchangeFailed : Bool := false
  swapPending : Bool := false
  proofPending : Bool := false
  /-- A plate to be reset after the swap of R383. -/
  resetAfterSwap : Option Nat := none
  mirror : Bool := false
  /-- Plate re-synchronising, exposure R, and whether it has been restarted. -/
  resync : Option (Nat × Nat × Bool) := none
  snapshot : Bool := false
  digestsEqual : Bool := false
  joinedAt : Option Nat := none
  /-- The instant since which service-gap time accrues, for each open gap. -/
  gapSince : Option Nat := none
  lastPlateGap : Bool := false
  /-- The gap of a device reset or power cycle runs until the first reply with a known bound (R385, R423). -/
  resetGap : Bool := false
  /-- The plate whose full proof the host commanded (Table 15.9). -/
  testPlate : Option Nat := none
  /-- The gap in progress is a registration's, and the nanoseconds of its gate (R173). -/
  gateGap : Bool := false
  gateNs : Nat := 0
  sheet : Octets := []
  lastStandby : Nat := 1
  /-- The digest last compared at each point of Table 14.3: point × 256 + position, channel or port. -/
  digests : Table Nat := []
deriving DecidableEq, Repr

/-- One error line of one plate (R387, R393). -/
structure Line where
  status : Bool := false
  last : Nat := 0
  corrected : Nat := 0
  contained : Nat := 0
  fatal : Nat := 0
  lastTime : Nat := 0
  /-- Instants of contained events within the escalation window. -/
  recent : List Nat := []
  reelCorrected : Nat := 0
  logged : Bool := false
deriving DecidableEq, Repr

/-- An event of the exposure waiting for the contact sheet (Table 15.6). -/
structure SheetEvent where
  instant : Nat
  plate : Nat
  kind : Nat
  line : Nat
  emcy : Nat
  detail : Nat
deriving DecidableEq, Repr

/-- A traffic source of the classifier (R396). -/
structure Source where
  address : Nat := 0
  tracked : Bool := false
  windowStart : Nat := 0
  count : Nat := 0
  severeUntil : Option Nat := none
  /-- Severe for items delivered from the next exposure on (R398). -/
  red : Bool := false
deriving DecidableEq, Repr

/-- Faults, classifier, contact sheet and monitors (chapter 15). -/
structure Faults where
  lines : Table Line := []
  /-- Blocks held not ready on both plates (R394). -/
  notReadyLines : List Nat := []
  notReadyNext : List Nat := []
  addresses : Table Source := []
  lanes : Table Source := []
  hashSeed : Nat := 0x5EED0300
  /-- Contact sheet, oldest first, with the sequence number of each. -/
  sheet : List (Nat × SheetEvent) := []
  sheetSeq : Nat := 0
  events : List SheetEvent := []
  frozen : Bool := false
  saveDue : Bool := false
  /-- The last 16 entries at the freeze, which that copy takes. -/
  frozenTail : List Octets := []
  temps : List Int := []
  volts : List Nat := []
  procs : List Nat := []
  faultedSensors : Nat := 0
  warned : Nat := 0
  /-- Sensors at which a condition of R404 held in this reel, and the clean reels of each faulted sensor. -/
  badReel : Nat := 0
  cleanReels : Table Nat := []
  peaks : Table (Option Int) := []
  /-- Exposures in a row outside and inside limits of each voltage monitor. -/
  voltOut : Table Nat := []
  voltIn : Table Nat := []
  voltState : Table Nat := []
  procOut : Nat := 0
  shedding : Bool := false
  coolExposures : Nat := 0
  /-- Lines with a contained event whose action on common state follows at the next exposure boundary (R392). -/
  actions : List Nat := []
deriving DecidableEq, Repr

/-! ### Time bases and events -/

/-- An adjustment waiting for the next exposure boundary (R103); a value counts 2⁻⁶⁰ ns, a step ps. -/
inductive Adjust where
  | set (value : Nat)
  | step (ps : Int)
deriving DecidableEq, Repr

/-- One time base (R99 to R104); its increment and frequency offset are objects .02 and .03. -/
structure TimeBase where
  /-- The counter in units of 2⁻⁶⁰ ns from the epoch. -/
  value : Nat := 0
  /-- Its value before its last increment (R109). -/
  prev : Nat := 0
  steered : Bool := false
  pendMode : Option Nat := none
  adjust : Option Adjust := none
deriving DecidableEq, Repr

/-- One compare unit (R109 to R113); its settings are objects .01 to .05. -/
structure Compare where
  armed : Bool := false
  armPending : Bool := false
  /-- Target in the selected scale in units of 2⁻³² ps, as it advances. -/
  target : Nat := 0
  /-- Target on the counter scale in units of 2⁻³² ns. -/
  counterTarget : Nat := 0
  fired : Bool := false
  late : Bool := false
  /-- The next fire is for a target already passed (R110). -/
  overdue : Bool := false
  lastFire : Nat := 0
deriving DecidableEq, Repr

/-- One event record (Table 4.7). -/
structure EventRecord where
  time : Nat
  flags : Nat
  seq : Nat
deriving DecidableEq, Repr

/-- One event input (R115 to R120). -/
structure EventInput where
  /-- 0 not calibrated, 1 calibrated, 2 stale. -/
  calibration : Nat := 0
  skew : Int := 0
  /-- A table that passed its check, waiting for the reel boundary: its skew. -/
  passed : Option Int := none
  /-- Which delay line is in service. -/
  line : Nat := 0
  failures : Nat := 0
  lastEdge : Option Nat := none
  fifo : List EventRecord := []
  seq : Nat := 0
  gap : Bool := false
  phase : Nat := 0
  sticky : Nat := 0
deriving DecidableEq, Repr

/-- One interval unit (R121, R122): times on time base 0 in units of 2⁻³² ns, intervals in units of 2⁻³² fs. -/
structure Interval where
  mode : Nat := 0
  pendMode : Option Nat := none
  start : Option Int := none
  gateOpen : Bool := false
  gateReel : Nat := 0
  count : Nat := 0
  sum : Int := 0
  squares : Nat := 0
  min : Int := 0
  max : Int := 0
  unpaired : Nat := 0
deriving DecidableEq, Repr

/-- Time bases, compares, capture, event inputs and interval units (chapter 04). -/
structure Time where
  bases : Table TimeBase := []
  compares : Table Compare := []
  captured : Table Nat := []
  /-- Instant of the last capture (R113). -/
  capturedAt : Option Nat := none
  capturePending : Bool := false
  /-- A new TAI − UTC offset waiting for the reel boundary. -/
  pendOffset : Option Int := none
  /-- The offset before the leap of entry 1, once that leap has taken effect and its entry is still held. -/
  offsetBefore : Option Int := none
  /-- A registration gate is in progress (R173). -/
  gate : Bool := false
  inputs : Table EventInput := []
  intervals : Table Interval := []
deriving DecidableEq, Repr

/-! ### Exposure plans -/

/-- One step of a row (R59). -/
structure PlanStep where
  offset : Nat
  opcode : Nat
  operand : Nat
deriving DecidableEq, Repr

/-- One row (R38, R59). -/
structure PlanRow where
  kind : Nat
  idx : Nat
  period : Nat
  steps : List PlanStep
deriving DecidableEq, Repr

/-- A plan as its header and rows give it (Table 2.6). -/
structure Plan where
  identifier : Nat := 0
  variant : Nat := 0
  key : Nat := 0
  cap : Nat := 0
  unitMask : Nat := 0
  haMask : Nat := 0
  modes : List Nat := []
  wakes : List Nat := []
  entry : Nat := 0
  cover : Nat := 100
  interval : Nat := 10
  peak : Nat := 0
  rows : List PlanRow := []
  rom : Bool := false
deriving DecidableEq, Repr

/-- An on-demand domain (Table 2.4), keyed by 64 × class + index. -/
structure Domain where
  awake : Bool := false
  /-- Instant from which it is ready. -/
  readyAt : Nat := 0
  /-- Instant at which its last sleep ended. -/
  sleptAt : Nat := 0
deriving DecidableEq, Repr

/-- One plate's copy of a frame that a serving step builds (Tables 11.8 and 11.12): the fields that the rules name, since
the layouts belong to outside standards (log 8). `message`: 0 Sync, 1 Announce, 2 Delay_Resp, 3 Pdelay_Resp, 4 Pdelay_Resp_Follow_Up,
5 Signaling, 6 NTS reply, 7 NTS NAK, 8 RATE reply, 9 CANCEL_UNICAST_TRANSMISSION. -/
structure Served where
  message : Nat
  inst : Nat
  /-- Client address, destination of the frame; 0 the multicast address of the profile. -/
  client : Nat := 0
  /-- Transmit timestamp and receive timestamp, 2⁻³² ns in the instance's scale. -/
  tx : Int := 0
  rx : Int := 0
  /-- correctionField, units of 2⁻¹⁶ ns. -/
  correction : Int := 0
  sequence : Nat := 0
  interval : Int := 0x7F
  /-- requestingPortIdentity, or origin timestamp of an NTP request. -/
  echo : Nat := 0
  /-- sourcePortIdentity of a PTP message. -/
  source : Nat := 0
  /-- The bound record of Table 11.1, and the TLV or extension field that carries it (R295). -/
  record : Octets := []
  tlv : Octets := []
  /-- clockClass, clockAccuracy, variance, timeTraceable, timeSource, then priority1, priority2, stepsRemoved, ptpTimescale, currentUtcOffset,
  currentUtcOffsetValid and the leap announced (0, 1 leap61, 2 leap59; R300); or LI, stratum, root dispersion, poll, reference instant. -/
  quality : List Nat := []
  /-- Grants or acknowledgements in order: message type, log interval, duration. -/
  grants : List (Nat × Int × Nat) := []
  /-- The two flag octets of an L1_SYNC TLV (R309). -/
  l1sync : Option (Nat × Nat) := none
  /-- SPP and keyID of the AUTHENTICATION TLV, with its ICV. -/
  auth : Option (Nat × Nat) := none
  icv : Octets := []
  /-- Unique Identifier echoed, authenticator nonce and ciphertext with the new cookies. -/
  uniqueId : Octets := []
  nonce : Octets := []
  sealed : Octets := []
  /-- A frame over UDP (R252): its IP header, formed at the build with its checksum; source and destination port; the checksum-correction
  field of an IPv6 PTP event message; the UDP checksum, computed at egress. -/
  ipHeader : Octets := []
  udpPorts : Nat × Nat := (0, 0)
  corrField : Option Nat := none
  udpChecksum : Option Nat := none
deriving DecidableEq, Repr

/-- One grant of a client record (Table 11.9): log interval, expiry (TAI seconds, low 32 bits), next due tick, sequence, order
of granting (R305). -/
structure Grant where
  interval : Int := 0x7F
  expiry : Nat := 0
  due : Nat := 0
  sequence : Nat := 0
  order : Nat := 0
deriving DecidableEq, Repr

/-- A frame on its way to a departure: serving engine, position, departure cycle, copies by plate, TX-timestamp identifier,
whether its work is whole, whether it has been handed to the aligner and on which lanes, the cycle of its step, and the
predicted instants by plate in 2⁻³² ns of time base 0. -/
structure Scheduled where
  eng : Nat
  pos : Nat
  due : Nat
  frames : List Served
  request : Option Nat := none
  whole : Bool := true
  handed : Bool := false
  /-- Grants that replace live ones of the same type from the departure of this reply (R304): record, type, grant. -/
  regrants : List (Nat × Nat × Grant) := []
  lanes : List Nat := []
  built : Nat := 0
  stamps : List Int := []
  /-- The CRC-64 that the plates compare at the hand-off deadline (Table 14.3, point 0x01). -/
  digest : Nat := 0
deriving DecidableEq, Repr

/-- The plan banks, the swap and the domains (chapter 02). -/
structure Plans where
  banks : Table (Option Plan) := []
  active : Nat := 0
  /-- 0x2100.02. -/
  status : Nat := 0
  lastCode : Nat := 0
  failRow : Nat := 0xFFFF
  failSlot : Nat := 0xFFFFFFFF
  /-- The image whose check is in progress. -/
  image : Octets := []
  /-- Keys revoked by the host when that check started (R415). -/
  revokedAtStart : Nat := 0
  pendingId : Nat := 0
  swapReel : Nat := 0
  /-- The target reel of a latched swap, by its number. -/
  swapAt : Nat := 0
  latched : Bool := false
  entryWoken : Bool := false
  swapped : Bool := false
  domains : Table Domain := []
  activeId : Nat := 0
  /-- Frames between their serving step and their departure. -/
  live : List Scheduled := []
  /-- The last scheduled frame that departed on each lane: departure cycle, PRP sequence number, content. -/
  sent : Table (Option (Nat × Option Nat × Served)) := []
  /-- How far after its grid instant that frame left on each lane, ps: Δ_p on a cross-driven lane (R378), else 0. -/
  shifts : Table Int := []
deriving DecidableEq, Repr

/-! ### Synthesis -/

/-- One DPLL and its DCO (R179 to R184). -/
structure Dpll where
  running : Bool := false
  /-- UNSIGNED64 frequency word. -/
  ftw : Nat := 0
  /-- The DCO (R180): phase accumulator, the modulator's integrators, the converter's code of the last output edge in 2⁻⁸ ns. -/
  phase : Nat := 0
  shaper : Int × Int := (0, 0)
  edge : Nat := 0
  /-- Integral term in units of 10⁻¹⁸ × 2⁻³². -/
  integral : Int := 0
  /-- Stage bandwidth in force, µHz. -/
  stage : Nat := 0
  last : Bool := false
  holdover : Bool := false
  /-- Absorb the next phase error as a build-out offset (R184). -/
  rebuild : Bool := false
  buildOut : Int := 0
  error : Int := 0
  /-- Words of the last 1,000 exposures, newest first. -/
  words : List Nat := []
  lfsr : Nat := 0
  lastUpdate : Option Nat := none
  /-- Start of the dwell of the stage in force (R182). -/
  dwellAt : Nat := 0
deriving DecidableEq, Repr

/-- One recipe (Table 7.5). -/
structure Recipe where
  kHz : Nat
  band : Nat
  mv : Nat
  temperature : Int
  uses : Nat
  /-- Order of use, for the least recently used entry. -/
  used : Nat
deriving DecidableEq, Repr

/-- A ramp in progress (R189); frequencies in µHz. -/
structure Ramp where
  old : Nat
  new : Nat
  /-- Offset from the old frequency. -/
  offset : Int
  segments : List (Nat × Nat × Nat)
  slew : Nat
  seg : Nat
  /-- Updates left of the ramp time, then of the hold. -/
  ticks : Nat
  holding : Bool
  /-- Instant of the last update. -/
  updated : Nat
deriving DecidableEq, Repr

/-- The lock pin of an output PLL on one plate, and the node it charges (R198): the pin's level and the instant of its last change, the
node's level before that change, and whether the sense input was found to disagree. -/
structure LockPin where
  high : Bool := false
  since : Nat := 0
  before : Bool := false
  broken : Bool := false
deriving DecidableEq, Repr

/-- One output PLL (R186 to R198). -/
structure Opll where
  state : Nat := 0
  /-- By plate: band in force, tuning voltage, lock pin. -/
  band : Table Nat := []
  tuning : Table Nat := []
  pins : Table LockPin := []
  /-- Recipes, keyed by 32 × plate + entry. -/
  recipes : Table (Option Recipe) := []
  /-- The re-lock uses a recipe. -/
  byRecipe : Bool := false
  searches : Nat := 0
  /-- Instants of the start of the search in progress and of the start of the qualification. -/
  searchAt : Nat := 0
  qualAt : Nat := 0
  found : Option (BandResult × BandResult) := none
  ramp : Option Ramp := none
  clockUse : Nat := 0
  /-- An enable that waits for its safe point, and the exposure in which it was written. -/
  pendEnable : Option Bool := none
  pendIn : Nat := 0
deriving DecidableEq, Repr

/-- One clock channel (R199 to R204). -/
structure Channel where
  enabled : Bool := false
  gated : Bool := false
  safelight : Bool := false
  aligned : Bool := false
  lost : Bool := false
  /-- The combiner passes plate B. -/
  onB : Bool := false
  /-- Enable waiting for the safe point, and the exposure in which it was written. -/
  pendEnable : Option Bool := none
  pendIn : Nat := 0
  register : Bool := false
  /-- The phase error has been measured since the divider last started. -/
  measured : Bool := false
deriving DecidableEq, Repr

/-- One PPS/time-of-day channel (R206, R207). -/
structure Pps where
  running : Bool := false
  waitingBound : Bool := false
  omitted : Bool := false
  /-- The last on-time edge: time base and instant in units of 2⁻³² ns. -/
  edge : Option (Nat × Nat) := none
  /-- Pulses emitted; the engine cycle of the last on-time edge and the width of its pulse in ns. -/
  pulses : Nat := 0
  pulseAt : Option Nat := none
  width : Nat := 0
  /-- The message of a whole-second edge that has not started, built at the edge with sequence 0, and the cycle at which it starts. -/
  due : Option (Nat × Octets) := none
  /-- The last message started, and its cycle of start, bit rate and framing. -/
  message : Octets := []
  sending : Option (Nat × Nat × Nat) := none
deriving DecidableEq, Repr

/-- Synthesis and time outputs (chapter 07). -/
structure Synth where
  dplls : Table Dpll := []
  oplls : Table Opll := []
  channels : Table Channel := []
  pps : Table Pps := []
  /-- Stable oscillator frequency read at reset, µHz (R185). -/
  oscillator : Nat := 10000000000000
deriving DecidableEq, Repr

/-! ### References and the selector -/

/-- One reference's loupe (R123 to R135). Phases count ps, instants engine cycles. -/
structure Loupe where
  /-- Table 5.3. -/
  state : Nat := 0
  since : Nat := 0
  /-- The reason of state 5 or 6. -/
  disq : Nat := 0
  pendEnable : Option Bool := none
  /-- Activity since the last loss. -/
  active : Bool := false
  /-- The activity detector (R124): pad edges counted, the instant of the last one, and those since the prescaler last passed one. -/
  pads : Nat := 0
  lastPad : Option Nat := none
  scaled : Nat := 0
  /-- Event cycle of the last converted edge, and the timestamp of the last one delivered, 2⁻³² ns. -/
  lastEdge : Option Nat := none
  stamp : Option Int := none
  /-- Kind 1: the timestamp from which phase accumulates and the measured periods since (R127). -/
  origin : Option Int := none
  periods : Int := 0
  /-- Edges delivered and not yet measured, oldest first: event cycle, and timestamp (kind 2) or accumulated phase (kind 1). -/
  waiting : List (Nat × Int) := []
  /-- Kind 2: the predicted second of the last edge, and the last second in which an extra edge was found (R130). -/
  second : Option Int := none
  extraIn : Option Int := none
  x : Int := 0
  /-- Instant of `x`, 2⁻³² ns, and instant and phase at the last reel boundary (R128). -/
  xAt : Int := 0
  mark : Option (Int × Int) := none
  /-- Measurements held, newest first, at most 16: instant and phase. -/
  meas : List (Nat × Int) := []
  /-- Per-reel frequencies, newest first, at most 10,000: reel and value. -/
  ys : List (Nat × Int) := []
  /-- Per-reel phase samples, newest first. -/
  samples : List Int := []
  hits : List Nat := []
  authFails : List Nat := []
  qualStart : Nat := 0
  holdEnd : Nat := 0
  lostAt : Nat := 0
  /-- Reels or polls without a solution or reply. -/
  misses : Nat := 0
  badQuality : Bool := false
  goodSince : Nat := 0
  /-- Bound and uncertainty that the source itself reported. -/
  srcBound : Nat := 0
  srcUnc : Nat := 0
  /-- The lane that received the last upstream reply. -/
  lane : Nat := 0
deriving DecidableEq, Repr

/-- A flagged pair (R141): members, its Δ, the instant at which it was raised. -/
structure Flag where
  a : Nat
  b : Nat
  delta : Nat
  raised : Nat
deriving DecidableEq, Repr

/-- A challenge (R143): the reference, its departed partner, that partner's last mean, the pair's Δ and raising. -/
structure Challenge where
  ref : Nat
  partner : Nat
  mean : Int
  delta : Nat
  raised : Nat
deriving DecidableEq, Repr

/-- A verified reply (R148): the lane and instant of its receipt, the other side's receive and transmit timestamps, the receive timestamp
here of the message that carried the latter, all in 2⁻³² ns of TAI; *B* and *u* of its record. -/
structure UpstreamReply where
  lane : Nat
  receipt : Int
  theirRx : Int
  theirTx : Int
  ourRx : Int
  bound : Option (Nat × Nat)
deriving DecidableEq, Repr

/-- An upstream instance (R147, R148). -/
structure Upstream where
  cookies : List Octets := []
  /-- A request is waiting for its reply. -/
  outstanding : Bool := false
  /-- Whole polls missed. -/
  missed : Nat := 0
  /-- The cycle of the last poll. -/
  polledAt : Option Nat := none
  /-- The Unique Identifier of the request, and the requests made. -/
  uniqueId : Octets := []
  sequence : Nat := 0
  /-- The request's departure, as the TX-timestamp queue gave it (R250), and a reply that waits for it. -/
  sent : Option Int := none
  reply : Option UpstreamReply := none
  /-- The last Sync: its receipt and its origin, the correction of a Sync that waits for its Follow_Up; instants of the last Sync and
  Announce, and the announced interval. -/
  sync : Option (Int × Int) := none
  twoStep : Option (Int × Int) := none
  syncAt : Nat := 0
  announceAt : Nat := 0
  announceLog : Int := 1
deriving DecidableEq, Repr

/-- References, selector, ESMC and upstream instances (chapter 05). -/
structure Refs where
  loupes : Table Loupe := []
  armed : Bool := false
  flags : List Flag := []
  challenges : List Challenge := []
  sentAwait : Bool := false
  /-- QL last sent, by lane, and the lanes that owe an event PDU. -/
  qlSent : Table Nat := []
  qlChanged : Nat := 0
  esmcAt : Table Nat := []
  /-- The cycle of the last ESMC information PDU, by lane (R146). -/
  esmcSent : Table (Option Nat) := []
  upstream : Table Upstream := []
deriving DecidableEq, Repr

/-! ### The Developer -/

/-- Terms of one time base in a bound table (R162, R165), in units of 2⁻¹⁶ ps. -/
structure BoundSet where
  b : List Nat := [0, 0, 0, 0]
  u : List Nat := [0, 0, 0, 0]
  known : Bool := false
  holdover : Bool := true
  unregistered : Bool := true
  /-- Traceability record of the root; 0xFF none. -/
  record : Nat := 0xFF
  /-- Instant of the last traceable comparison. -/
  compared : Option Nat := none
deriving DecidableEq, Repr

/-- A bound table: sets by time base, term 5 by path in ps, term 6 by lane in 2⁻¹⁶ ps, end of validity (R165). -/
structure BoundTable where
  sets : Table BoundSet := []
  paths : Table Nat := []
  ports : Table Nat := []
  endAt : Nat := 0
deriving DecidableEq, Repr

/-- The steering of one time base (R153, R156, R168 to R175). -/
structure Steer where
  /-- Offset estimate, ps. -/
  xhat : Int := 0
  /-- 0 registered, 1 unregistered, 2 slewing, 3 step scheduled. -/
  reg : Nat := 1
  known : Bool := false
  holding : Bool := true
  /-- The next measurement is a return (R169). -/
  returning : Bool := true
  /-- The steering rate beyond the predicted frequency (R153: the phase term under the change limit), newest first over the last 2 s: the
  instant from which a rate acts, the phase accumulated up to it in 10⁻¹⁵ ps, the rate in 10⁻¹⁸. -/
  past : List (Nat × Int × Int) := []
  /-- The rate for the next exposure. -/
  pendPhase : Option Int := none
  /-- What the last measurement gave: the offset in ps without the phase accumulated since (without the base's own lead for a time base
  n ≥ 1), and the accumulated phase at its instant. -/
  xref : Int := 0
  accRef : Int := 0
  /-- The offset estimate, and the RMS residual of the fit in 2⁻¹⁶ ps, at the last traceable comparison (R168). -/
  xcmp : Int := 0
  noise : Nat := 0
  /-- The last term 3 and the instant until which it is held after its flag has cleared (R162). -/
  term3 : Nat := 0
  term3Until : Nat := 0
  /-- A registration gate has moved this time base and is still to be measured (R173). -/
  gated : Bool := false
  compared : Option Nat := none
  /-- Instant of the last measurement used. -/
  used : Option Nat := none
  /-- Terms 1 to 3 at the last comparison, and the part of term 4 carried over a restore. -/
  b : List Nat := [0, 0, 0]
  u : List Nat := [0, 0, 0]
  carried : Nat := 0
  holdSince : Nat := 0
  /-- Frequency offset in force for a steered time base, and the one for the next exposure. -/
  freq : Int := 0
  pendFreq : Option Int := none
  root : Nat := 0xFF
  /-- A step of a time base n ≥ 1 waits for the next exposure boundary (R174). -/
  pendStep : Bool := false
deriving DecidableEq, Repr

/-- One ensemble member (R151): reference or 32, observation, raw weight. -/
structure Member where
  ref : Nat
  obs : Int
  raw : Nat
deriving DecidableEq, Repr

/-- What a fast-term update reads, as it stood at cycle 0 of its exposure (R149): loupes and reference states, the sensors that were
faulted, term 6 by lane. -/
structure Seen where
  refs : Refs
  sensors : Nat
  ports : Table Nat
deriving DecidableEq, Repr

/-- The Developer (chapter 06). Frequencies count 10⁻¹⁸. -/
structure Dev where
  seen : Option Seen := none
  steer : Table Steer := []
  yc : Int := 0
  pendYc : Option Int := none
  /-- The sum of the steering words in force through the exposures of this reel, and their mean over the last reel (R151). -/
  ycSum : Int := 0
  ycReel : Int := 0
  yosc : Int := 0
  yoscAt : Nat := 0
  /-- The model's prediction beside the ensemble in force, taken where no member has weight (R151). -/
  yPrior : Int := 0
  members : List Member := []
  /-- Observations latched at the start of this reel. -/
  latched : List Member := []
  latchedAt : Nat := 0
  parts : Nat := 0
  table : Option BoundTable := none
  tableNext : Option BoundTable := none
  /-- Registration: target second, and the latched n, q and r. -/
  target : Option Nat := none
  latch : Option (Int × Nat × Int) := none
  /-- The day's reels, reels with a kind 2 or 3 reference in force, and sum of frequencies. -/
  dayReels : Nat := 0
  dayInForce : Nat := 0
  daySum : Int := 0
  /-- The fast-term update of this exposure has run. -/
  ran : Bool := false
  ready : Bool := true
deriving DecidableEq, Repr

/-! ### The switch -/

/-- What a queued frame is: who asked for it to be sent. -/
inductive QKind where
  /-- A forwarded frame and a host frame, with their octets from the destination address on, without FCS (a host frame padded, R256). -/
  | forwarded (frame : Octets)
  | host (frame : Octets)
  | esmc (ql : Nat)
  /-- An LLDPDU in its frame, padded, without FCS (R260). -/
  | lldp (frame : Octets)
  /-- The request of an upstream instance: of PTP with its SPP, keyID and ICV, of NTP with its authenticator (R148, R336). -/
  | upstream (inst : Nat) (key : Option (Nat × Nat)) (icv : Octets)
  | pdelay (inst : Nat)
  | supervision
  | message (octets : Octets)
deriving DecidableEq, Repr

/-- A frame in a best-effort queue (R270, R273): cells, red colour, length on the wire and as R254 counts it, TX-timestamp identifier, whether it
is a copy of a multicast frame, the instant at which it reached the head, its PRP sequence number (R365). -/
structure QFrame where
  kind : QKind
  cells : Nat
  red : Bool := false
  octets : Nat
  length : Nat := 0
  request : Option Nat := none
  copy : Bool := false
  headAt : Option Nat := none
  prp : Option Nat := none
deriving DecidableEq, Repr

/-! ### Ports -/

/-- One TX-timestamp entry (Table 9.3); `seq` is none for entries the engine consumes. -/
structure TxEntry where
  id : Nat
  status : Nat
  flags : Nat
  time : Nat
  seq : Option Nat
deriving DecidableEq, Repr

/-- One lane as a port (chapter 09). Instants are engine cycles. -/
structure Port where
  /-- Link state 0x3400+n.06; the lanes of a 4-lane port have one. -/
  link : Nat := 0
  pendEnable : Option Bool := none
  /-- The lane has a link fault, or no lock yet, from this instant on (R262). -/
  faultSince : Option Nat := none
  cleanSince : Option Nat := none
  holdSince : Option Nat := none
  /-- The start of the calibration that runs (R247). -/
  calSince : Nat := 0
  /-- Latencies of a calibration that passed and waits for the end of the hold. -/
  passed : Option (Nat × Nat) := none
  calFails : Nat := 0
  negFails : Nat := 0
  /-- Negotiation failed at this instant and restarts 1 s after it (R242). -/
  negAt : Option Nat := none
  /-- Largest residual of this reel, fs; reel boundaries since the hold ended. -/
  residual : Nat := 0
  reels : Nat := 0
  /-- The aligner reports loss of alignment. -/
  unaligned : Bool := false
  txQueue : List TxEntry := []
  txSeq : Nat := 0
  gap : Bool := false
  sticky : Nat := 0
  /-- Queues paused and the whole port (number 255), each with the instant at which its pause ends (R258). -/
  paused : List (Nat × Nat) := []
  pauseResolved : Nat := 0
  rsFec : Bool := false
  eeeResolved : Bool := false
  /-- The Clause 78 minimum that negotiation gave. -/
  minWake : Nat := 0
  wakeNs : Nat := 0
  /-- Transmit Tw and Receive Tw of the partner's EEE TLV since link-up, µs (R259). -/
  eeePartner : Option (Nat × Nat) := none
  wakeSent : Bool := false
  /-- The instant of the last LLDPDU (R260). -/
  lldpAt : Option Nat := none
  /-- In Energy-Efficient Ethernet LPI. -/
  lpi : Bool := false
  loop : Nat := 0
  pendLoop : Option Nat := none
  /-- PRBS31 bit errors of the completed tests of mode 1 (R265). -/
  prbs : Nat := 0
  /-- Scheduled frames with a timestamp request whose departure is not yet confirmed: identifier and timestamp. -/
  confirm : List (Nat × Nat) := []
  /-- The best-effort frames with a timestamp request that have started and whose departures are still to be measured, oldest first. -/
  started : List QFrame := []
  /-- The best-effort frame in transmission until `busyUntil` (R281). -/
  sending : Option QFrame := none
  /-- The last best-effort frame that the lane sent, as sent, where the spec gives its octets (R252, R256, R365). -/
  lastSent : Octets := []
  /-- The instant at which its transmission ends. -/
  busyUntil : Nat := 0
deriving DecidableEq, Repr

/-! ### Common queues -/

/-- A request waiting in queue 96 or 97 (R42): the lane, the frame, its cells and colour, the cycle of its delivery, its
receive timestamp and the step it is bound to. -/
structure Request where
  lane : Nat
  frame : RxFrame
  cells : Nat
  red : Bool
  delivered : Nat
  stamp : Int
  bound : Option (Nat × Nat) := none
deriving DecidableEq, Repr

/-- A frame in queue 98 (R284). -/
structure HostFrame where
  seq : Nat
  lane : Nat
  byEntry : Bool
  stamp : Nat
  size : Nat
  cells : Nat
  red : Bool
  octets : Octets
deriving DecidableEq, Repr

/-- The switch of each plate (chapter 10). Side state is keyed by 128 × plate + queue. -/
structure Fabric where
  queues : Table (List QFrame) := []
  nts : List Request := []
  ptp : List Request := []
  hostRx : List HostFrame := []
  hostSeq : Nat := 0
  /-- Tokens by meter (R275). -/
  tokens : Table Nat := []
  /-- LFSRs: 0 common, 1 side of plate A, 2 side of plate B. -/
  lfsr : Table Nat := []
  /-- Cells that wait in the staging area, and the slot in which cells were last written with how many of its accesses that took (R278). -/
  staging : Nat := 0
  written : Nat × Nat := (0, 0)
  stagingSent : Bool := false
  reelDrops : Nat := 0
  /-- Instant of the last EMCY 0xFF69 by partition. -/
  exhausted : Table (Option Nat) := []
  /-- The running digest of this exposure's best-effort offers (Table 14.3, point 0x02). -/
  offered : Nat := 0
  /-- The cycle of the last supervision frame, by port position (R367). -/
  supervised : Table (Option Nat) := []
deriving DecidableEq, Repr

/-! ### Serving -/

/-- A client record (Table 11.9). Grants are listed for Sync, Announce and Delay_Resp. -/
structure ClientRecord where
  valid : Bool := false
  quarantined : Bool := false
  l1sync : Bool := false
  inst : Nat := 0
  pos : Nat := 0
  address : Nat := 0
  identity : Nat := 0
  sync : Grant := {}
  announce : Grant := {}
  resp : Grant := {}
  spp : Nat := 0
  keyId : Nat := 0
  count : Nat := 0
  excess : Nat := 0
  failures : Nat := 0
deriving DecidableEq, Repr

/-- A multicast stream of an instance on a position (R308): Sync and Announce. -/
structure Stream where
  sync : Grant := {}
  announce : Grant := {}
deriving DecidableEq, Repr

/-- One port position of a PTP instance (R301, R310). -/
structure Position where
  /-- 0 DISABLED, 1 LISTENING, 2 MASTER. -/
  state : Nat := 0
  entered : Nat := 0
  /-- The first instant from its entry into LISTENING at which a lane that carries it is in link state 4 or 5 (R301). -/
  upAt : Option Nat := none
  /-- asCapable (profile 0x06): the last measured delay, and failed exchanges in a row. -/
  delayPs : Nat := 0
  failed : Nat := 0
  pending : Bool := false
  pdelaySeq : Nat := 0
  /-- The exchange in progress (R310): the instant of its Pdelay_Req, the departures by lane, and of the answer the lane, the receipt there, the
  arrival here and the origin, in 2⁻³² ns. -/
  pdelayAt : Option Nat := none
  pdelaySent : List (Nat × Int) := []
  pdelayResp : Option (Nat × Int × Int) := none
  pdelayOrigin : Option Int := none
deriving DecidableEq, Repr

/-- What the next unbound PTP_GENERAL step of a position sends first (R305, R308, R309): a Pdelay_Resp_Follow_Up, a CANCEL, or the
Signaling message with the L1_SYNC TLV that an Announce of the calendar brings with it. -/
inductive Owed where
  | followUp (inst echo sequence : Nat) (tx : List Int)
  | cancel (inst record kind : Nat)
  | l1sync (inst client : Nat)
deriving DecidableEq, Repr

/-- A rate bucket (R316). -/
structure Bucket where
  tag : Nat := 0
  tokens : Nat := 0
  last : Nat := 0
  used : Bool := false
deriving DecidableEq, Repr

/-- Degradation of one instance (R293). -/
structure Quality where
  degraded : Bool := false
  /-- Reel boundaries since the bound last exceeded the limit. -/
  clean : Nat := 0
  exceeded : Bool := false
deriving DecidableEq, Repr

/-- Serving (chapter 11). Positions and streams are keyed by 16 × instance + position; qualities by the instance code of EMCY
0xFF70. -/
structure Serve where
  records : Table ClientRecord := []
  streams : Table Stream := []
  positions : Table Position := []
  owed : Table (List Owed) := []
  buckets : Table Bucket := []
  qualities : Table Quality := []
  pendEnable : Table (Option Bool) := []
  /-- Better foreign masters reported: clockIdentity and instant. -/
  foreign : List (Nat × Nat) := []
  grants : Nat := 0
  /-- Syncs skipped by position in this reel, and the positions reported. -/
  skips : Table Nat := []
  hashSeed1 : Nat := 0x5EED0200
  hashSeed2 : Nat := 0x5EED0201
deriving DecidableEq, Repr

/-! ### Keys -/

/-- A key slot (Table 12.1). Each plate stores the key, and what it derives from it, XORed with its own mask (R328). -/
structure Slot where
  state : Nat := 0
  mask : Nat := 0
  parent : Nat := 0
  depth : Nat := 0
  generation : Nat := 0
  expiry : Nat := 0
  uses : Nat := 0
  refused : Nat := 0
  key : Octets := []
  /-- The masks of each plate and the instant of its last re-mask. -/
  maskA : Octets := []
  maskB : Octets := []
  maskedA : Nat := 0
  maskedB : Nat := 0
deriving DecidableEq, Repr

/-- An entry of the association table (R336). -/
structure Association where
  valid : Bool := false
  spp : Nat := 0
  keyId : Nat := 0
  slot : Nat := 0
  generation : Nat := 0
deriving DecidableEq, Repr

/-- The key store (chapter 12). -/
structure Keys where
  slots : Table Slot := []
  associations : Table Association := []
  /-- Longest re-mask interval of this reel, by plate, ms, and the plates reported in this reel. -/
  longest : Table Nat := []
  overdue : Nat := 0
  /-- Consecutive passes of a crypto cluster held not ready, by 8 × kind + cluster, and the clusters held. -/
  passes : Table Nat := []
  heldClusters : Nat := 0
  /-- EMCY 0xFF82 has been sent for the unusable current generation. -/
  unusableSent : Bool := false
  /-- TAMPER0_N and TAMPER1_N as sampled, 1 asserted. -/
  tamper : Nat := 0
  /-- The period of the 32.768 kHz clock in which the last zeroisation of a serving engine fell (R447). -/
  erasedIn : Option Nat := none
  /-- Outputs drawn from the DRBG. -/
  drawn : Nat := 0
deriving DecidableEq, Repr

/-! ### Media ports -/

/-- One transmit channel of a media port (R351): state of Table 13.4 and the instant at which the transition began. -/
structure MediaChannel where
  state : Nat := 0
  since : Nat := 0
  /-- A transition asked for, effective at the next exposure boundary: open or close. -/
  pend : Option Bool := none
  /-- Samples left of the ramp after a timeout. -/
  ramp : Nat := 0
deriving DecidableEq, Repr

/-- One media port (chapter 13). -/
structure MediaPort where
  state : Nat := 0
  pendEnable : Option Bool := none
  tx : List (List Int) := []
  rx : List (List Int) := []
  /-- The last frame on SDO by slot; none is high impedance. Empty: SDO is held low. -/
  pins : List (Option Int) := []
  /-- Received frames in the internal grid by frame number, newest first, before they reach channels (R352). -/
  line : List (Nat × List Int) := []
  /-- Frames underrun whose late arrival is to be discarded. -/
  late : Nat := 0
  /-- No transmission until the FIFO holds 8 frames (R354). -/
  refill : Bool := false
  /-- Silence until the grid restarts at this second of the time base (R345). -/
  restartAt : Option Nat := none
  /-- The last internal frame produced, and the last frame whose start was sent in master role, counted from the epoch. -/
  grid : Option Nat := none
  sentFrame : Option Nat := none
  /-- Underruns and overruns of this reel. -/
  reelUnder : Nat := 0
  reelOver : Nat := 0
  /-- Framing errors in a row, and the last frame had one (R350). -/
  framing : Nat := 0
  /-- Frame-start edges of the last 10 ms, newest first: event cycle, timestamp, ratio after it (10⁻¹⁸; R346, R353). -/
  edges : List (Nat × Int × Int) := []
  /-- The cycle at which edges began, and the one at which the ASRC locked. -/
  edgesFrom : Option Nat := none
  lockAt : Option Nat := none
  /-- State of Table 13.3, and what its two converters have had and given: frames in, newest first, and samples out (R346). -/
  asrc : Nat := 0
  rxHistory : List (List Int) := []
  txHistory : List (List Int) := []
  converted : Nat := 0
  combinerFault : Bool := false
  loop : Bool := false
deriving DecidableEq, Repr

/-- Media ports and their channels, keyed by 32 × port + channel. -/
structure Media where
  ports : Table MediaPort := []
  channels : Table MediaChannel := []
deriving DecidableEq, Repr

/-! ### GNSS -/

/-- One channel (R214, R215, R218). -/
structure GnssChannel where
  /-- Table 8.2. -/
  state : Nat := 0
  signal : Nat := 0
  satellite : Nat := 0
  port : Nat := 0
  /-- C/N0 in 0.01 dB-Hz and lock indicator in 0.001, as the correlators last gave them. -/
  cn0 : Nat := 0
  lock : Nat := 0
  test : Nat := 0
  /-- Instant of entry into the state; the reel at which an exclusion ends (0 none), the issue of data that test 0x04 rejected. -/
  since : Nat := 0
  until_ : Nat := 0
  issue : Nat := 0
  /-- The sums of the 12 correlators. -/
  corr : List (Int × Int) := []
  /-- Code phase in 2⁻³² chip, the system time in fs of the start of its code period once decoded, carrier phase accumulated in
  2⁻³² cycle, Doppler in mHz and its rate in mHz/s. -/
  codePhase : Nat := 0
  codeStart : Option Int := none
  carrier : Int := 0
  doppler : Int := 0
  chirp : Int := 0
  /-- Instants since which the lock indicator is at least 0.8, the C/N0 below 25 dB-Hz, the lock indicator below 0.5. -/
  goodSince : Option Nat := none
  weakSince : Option Nat := none
  looseSince : Option Nat := none
  lockedAt : Option Nat := none
  /-- The lock indicator fell below 0.5 since the last latch. -/
  slip : Bool := false
  /-- Code minus carrier at the latches in ps, newest first, at most 101 (test 0x05). -/
  divergence : List Int := []
deriving DecidableEq, Repr

/-- One measurement of a latch (R220, Table 8.5): fs, 2⁻³² cycle, mHz, 0.01 dB-Hz, s, ps. -/
structure GnssMeas where
  channel : Nat
  signal : Nat
  satellite : Nat
  port : Nat
  flags : Nat
  transmit : Int
  rho : Int
  carrier : Int
  doppler : Int
  cn0 : Nat
  lockTime : Nat
  issue : Nat
  multipath : Nat
  /-- Code minus carrier over the last 100 s, ps. -/
  divergence : Int
deriving DecidableEq, Repr

/-- One band of a sample port (R213): running RMS, samples since the last one over the threshold, samples of this reel and those
blanked, the sum of their squares. -/
structure GnssBand where
  rms : Nat := 0
  quiet : Nat := 8
  seen : Nat := 0
  blanked : Nat := 0
  squares : Nat := 0
  /-- Power of the last reel, 0.01 dBFS. -/
  power : Int := 0
deriving DecidableEq, Repr

/-- One second of a satellite in a common-view track (R236), fs. -/
structure TrackSample where
  second : Nat
  port : Nat
  signal : Nat
  satellite : Nat
  refsv : Int
  refsys : Int
  tropo : Int
  iono : Int
  free : Bool
  cn0 : Nat
  issue : Nat
  elevation : Nat
  azimuth : Nat
  notch : Bool
deriving DecidableEq, Repr

/-- One sample port and its solution (R210 to R230). -/
structure GnssPort where
  /-- Status 0x2601+p.07, and a block of this reel out of step (R212). -/
  status : Nat := 0
  framing : Bool := false
  /-- First samples of the blocks from which the rate is measured: the first and the last timestamp, the blocks between; the rate in
  µHz measured over the last reel. -/
  first : Option Int := none
  latest : Int := 0
  blocks : Nat := 0
  rate : Nat := 0
  upper : GnssBand := {}
  lower : GnssBand := {}
  /-- Blanked fraction of the last reel, 10⁻⁶. -/
  blanked : Nat := 0
  /-- The latch of this reel has no solution yet (R221). -/
  solveDue : Bool := false
  notches : List (Bool × Int) := []
  /-- 0x2606.02 and the last solution's offset, ps. -/
  solution : Nat := 0
  last : Option Int := none
  lastReel : Nat := 0
  /-- Offsets by reel for the ensemble test, newest first. -/
  history : List (Nat × Int) := []
  /-- Tests of the exclusion in force, and consecutive passing solutions. -/
  excluded : Nat := 0
  passes : Nat := 0
  /-- Survey sums: count, position, squared length from the first position. -/
  surveyN : Nat := 0
  surveySum : Int × Int × Int := (0, 0, 0)
  surveySq : Nat := 0
deriving DecidableEq, Repr

/-- GNSS (chapter 08). -/
structure Gnss where
  channels : Table GnssChannel := []
  ports : Table GnssPort := []
  /-- Film: state of Table 8.8, port, length, the second of an armed snapshot, the instant at which its capture began (cycle, and 2⁻³² ns
  of time base 0), samples; an arm command that waits for the end of an acquisition's capture. -/
  film : Nat := 0
  filmPort : Nat := 0
  filmMs : Nat := 0
  armAt : Option Nat := none
  filmFrom : Nat := 0
  filmStart : Int := 0
  data : Octets := []
  armPend : Option (Nat × Nat × Nat) := none
  /-- Acquisition (R216, R217): 0 none, 1 capturing, 2 searching; its port, the cycle at which its capture began, the upper band's samples,
  the FFT engine cycles still to run. -/
  acq : Nat := 0
  acqPort : Nat := 0
  acqFrom : Nat := 0
  acqData : List (Int × Int) := []
  fftLeft : Nat := 0
  /-- Navigation data held (R219), and the leap announcements that have been reported. -/
  navigation : List NavRecord := []
  announced : List NavRecord := []
  /-- Labelling of time base 0 that the first channel to decode its time of week set, fs (R224). -/
  label : Option Int := none
  /-- Measurements of the last latch and its instant. -/
  latchAt : Nat := 0
  latched : List GnssMeas := []
  /-- What 0x2609 shows, from exposure 50 of the reel of its latch (R220). -/
  shownAt : Nat := 0
  shown : List Octets := []
  /-- ŷ′ + y_c by reel, newest first (R228). -/
  drift : List Int := []
  tracks : List (Nat × Octets) := []
  trackSeq : Nat := 0
  /-- The TAI second at which the track in progress began, and its samples, newest first (R236). -/
  track : Option Nat := none
  trackData : List TrackSample := []
  trackBroken : Bool := false
  trackRefBad : Bool := false
deriving DecidableEq, Repr

/-! ### The whole block -/

/-- The state of the block. -/
structure State where
  /-- Commands waiting, first in first out. -/
  pending : List Instr := []
  /-- Object-dictionary values in force. -/
  objs : Table Int := []
  clock : Clock := {}
  intake : Intake := {}
  mgmt : Mgmt := {}
  groups : Groups := {}
  darkroom : Darkroom := {}
  boot : Boot := {}
  twin : Twin := {}
  faults : Faults := {}
  time : Time := {}
  plans : Plans := {}
  synth : Synth := {}
  refs : Refs := {}
  dev : Dev := {}
  ports : Table Port := []
  fabric : Fabric := {}
  gnss : Gnss := {}
  serve : Serve := {}
  keys : Keys := {}
  media : Media := {}
  /-- Counter of free values drawn: the model's own field, not the spec's (log 5). -/
  free : Nat := 0
deriving DecidableEq, Repr

/-- The block at power-on, RESET_N asserted (R417): every field at its default (log 3, log 4). -/
def State.reset : State := {}

end Sys2Proof.Machine
end

