-- ==== Sys2Proof/Machine/Ops.lean ====
section
/-! DEFINITION. Shared operations: the object store, time, frames to the host, emergency messages, events of the contact
sheet, and free values. -/

namespace Sys2Proof.Machine

/-! ### The dictionary and the object store -/

/-- The key of an object value: plate, window item, index and sub-index. -/
def okey (plate item idx sub : Nat) : Nat := ((item * 2 + plate) * 65536 + idx) * 256 + sub

def okeySub (k : Nat) : Nat := k % 256
def okeyIndex (k : Nat) : Nat := k / 256 % 65536
def okeyItem (k : Nat) : Nat := k / 33554432

/-- The record that holds an index, with the instance number. -/
def dictRecord (idx : Nat) : Option (DictRecord × Nat) :=
  match dictionary.find? fun p => decide (idx ≤ p.1) with
  | none => none
  | some p =>
    match p.2.find? fun r => decide (r.index ≤ idx) && decide (idx < r.index + r.count) with
    | none => none
    | some r => some (r, idx - r.index)

/-- The row that holds a sub-index. -/
def DictRecord.row (r : DictRecord) (sub : Nat) : Option DictEntry :=
  r.entries.find? fun e => decide (e.first ≤ sub) && decide (sub ≤ e.last)

/-- The row of index.sub, if it is allocated (R430, R431). -/
def dictRow (idx sub : Nat) : Option DictEntry :=
  match dictRecord idx with
  | none => none
  | some p => p.1.row sub

/-- OTP fields by number (Table 16.1): 0 public key, 1 revocation, 2 floor, 3 serial, 4 base MAC, 5 process reference,
6 internal delays. -/
def otpBaseMac : Nat := Config.otp 4 0 % 2 ^ 48

/-- The default voltage limits (Table 15.8): low for `high = false`. -/
def voltDefault (m : Nat) (high : Bool) : Int :=
  if m ≤ 5 ∨ m = 15 then (if high then 927 else 873)
  else if m ≤ 9 then (if high then 1236 else 1164)
  else if m ≤ 13 then (if high then 1854 else 1746)
  else (if high then 1980 else 1650)

/-- Default of an object value: the table's, or the one that its instance, its window item or OTP gives. -/
def dictDefault (k : Nat) : Int :=
  let idx := okeyIndex k
  let sub := okeySub k
  match dictRecord idx with
  | none => 0
  | some (r, inst) =>
    if r.index = 0x3100 ∧ sub = 2 then (if inst < 16 then inst else 0x100)
    else if r.index = 0x3000 ∧ sub = 4 ∧ inst = 0 then 1
    else if r.index = 0x3200 ∧ sub = 0x0C then 0x5EED0000 + inst
    else if r.index = 0x3210 ∧ sub = 2 then inst
    else if r.index = 0x3220 ∧ sub = 2 then (inst / 3 : Nat)
    else if r.index = 0x3240 ∧ sub = 2 then 0x00989680FFFF0000
    else if r.index = 0x1014 then 0xFF
    else if r.index = 0x1018 ∧ sub = 4 then (Config.otp 3 0 % 2 ^ 32 : Nat)
    else if r.index = 0x2000 ∧ sub = 3 then (Config.otp 3 0 % 2 ^ 64 : Nat)
    else if r.index = 0x2000 ∧ sub = 4 then otpBaseMac
    else if r.index = 0x2702 ∧ 1 ≤ sub then ((otpBaseMac + (sub - 1)) % 2 ^ 48 : Nat)
    else if r.index = 0x2801 ∧ sub = 3 then (if okeyItem k < 96 then 12288 else 244872)
    else if r.index = 0x2910 ∧ sub = 7 then (otpBaseMac / 2 ^ 24 * 2 ^ 40 + 0xFFFE * 2 ^ 24 + otpBaseMac % 2 ^ 24 : Nat)
    else if r.index = 0x2910 ∧ sub = 0x10 then 1
    else if r.index = 0x2E03 ∧ sub = 3 then voltDefault (okeyItem k) false
    else if r.index = 0x2E03 ∧ sub = 4 then voltDefault (okeyItem k) true
    else if r.index = 0x2E04 ∧ sub = 3 then (Config.otp 5 (okeyItem k) : Nat)
    else if r.index = 0x2F40 ∧ sub = 2 then (Config.otp 0 (okeyItem k) % 2 ^ 256 : Nat)
    else if r.index = 0x3400 ∧ (sub = 0x22 ∨ sub = 0x23) then (Config.otp 6 (2 * inst + (sub - 0x22)) : Nat)
    else match r.row sub with
      | none => 0
      | some e => e.default

/-- A value in force, by key. -/
def State.objKey (s : State) (k : Nat) : Int := s.objs.look dictDefault k
/-- A common value, signed. -/
def State.objI (s : State) (idx sub : Nat) : Int := s.objKey (okey 0 0 idx sub)
/-- A common value. -/
def State.obj (s : State) (idx sub : Nat) : Nat := (s.objI idx sub).toNat
/-- A value of a window item. -/
def State.objW (s : State) (item idx sub : Nat) : Nat := (s.objKey (okey 0 item idx sub)).toNat
/-- A value of a window item, signed. -/
def State.objWI (s : State) (item idx sub : Nat) : Int := s.objKey (okey 0 item idx sub)

def State.setKey (s : State) (k : Nat) (v : Int) : State := { s with objs := s.objs.put dictDefault k v }
def State.setObj (s : State) (idx sub : Nat) (v : Int) : State := s.setKey (okey 0 0 idx sub) v
def State.setObjW (s : State) (item idx sub : Nat) (v : Int) : State := s.setKey (okey 0 item idx sub) v
def State.setObjP (s : State) (plate idx sub : Nat) (v : Int) : State := s.setKey (okey plate 0 idx sub) v

/-- A counter that wraps at 2³². -/
def State.bumpKey (s : State) (k n : Nat) : State := s.setKey k (((s.objKey k).toNat + n) % 2 ^ 32 : Nat)
def State.bumpBy (s : State) (idx sub n : Nat) : State := s.bumpKey (okey 0 0 idx sub) n
def State.bump (s : State) (idx sub : Nat) : State := s.bumpKey (okey 0 0 idx sub) 1
def State.bumpP (s : State) (plate idx sub : Nat) : State := s.bumpKey (okey plate 0 idx sub) 1
def State.bumpW (s : State) (item idx sub : Nat) : State := s.bumpKey (okey 0 item idx sub) 1

/-- Whether an object carries the persistence mark "P" (R85). -/
def isPersistent (k : Nat) : Bool :=
  match dictRow (okeyIndex k) (okeySub k) with
  | none => false
  | some e => e.persistent

/-- A P value that changed is to be copied to the darkroom (R84); a copy already pending for it is replaced (R440). -/
def State.markCopy (s : State) (k : Nat) : State :=
  if isPersistent k then
    { s with mgmt := { s.mgmt with copies := s.mgmt.copies.filter (· ≠ k) ++ [k] } }
  else s

/-- A host value takes effect: the value in force and its pending copy (R84, R93). -/
def State.takeEffect (s : State) (k : Nat) (v : Int) : State := (s.setKey k v).markCopy k

/-- A value accepted that takes effect at cycle 0 of the next exposure (`boundary` 1) or reel (2); a later write of the same
value replaces it. -/
def State.pendWrite (s : State) (boundary k : Nat) (v : Int) : State :=
  { s with mgmt := { s.mgmt with pendWrites := (s.mgmt.pendWrites.filter fun p => decide (p.key ≠ k)) ++ [⟨k, v, boundary⟩] } }

def State.later (s : State) (k : Nat) (v : Int) : State := s.pendWrite 1 k v

/-- A value as it will stand after the writes accepted so far (R125). -/
def State.willKey (s : State) (k : Nat) : Int :=
  match s.mgmt.pendWrites.find? fun p => decide (p.key = k) with
  | some p => p.value
  | none => s.objKey k

def State.willI (s : State) (idx sub : Nat) : Int := s.willKey (okey 0 0 idx sub)
def State.will (s : State) (idx sub : Nat) : Nat := (s.willI idx sub).toNat

/-! ### Free values -/

/-- One free value drawn. -/
def State.drawNat (s : State) : Nat × State := (Config.freeNat s.free, { s with free := s.free + 1 })
def State.drawInt (s : State) : Int × State := (Config.freeInt s.free, { s with free := s.free + 1 })

/-! ### Time -/

/-- 2⁶⁰: one nanosecond in counter units (R99). -/
def nsUnit : Nat := 2 ^ 60
def secondUnit : Nat := 1000000000 * 2 ^ 60

/-- Engine cycles since the release of reset, as the schedule units count them. -/
def State.now (s : State) : Nat := s.clock.exposures * 1000000 + s.clock.cycle

/-- A time base's state. -/
def State.base (s : State) (n : Nat) : TimeBase := s.time.bases.look (fun _ => {}) n
def State.setBase (s : State) (n : Nat) (b : TimeBase) : State :=
  { s with time := { s.time with bases := s.time.bases.put (fun _ => {}) n b } }

/-- The value of time base 0 in units of 2⁻⁶⁰ ns. -/
def State.tai (s : State) : Nat := (s.base 0).value
/-- The TAI second. -/
def State.taiSecond (s : State) : Nat := s.tai / secondUnit

/-- The 112-bit number of Table 0.4 for a counter value: 48-bit seconds, nanoseconds, 2⁻³² ns. -/
def toTime112 (v : Nat) : Nat :=
  (v / secondUnit % 2 ^ 48) * 2 ^ 64 + (v % secondUnit / nsUnit) * 2 ^ 32 + v % nsUnit / 2 ^ 28

/-- The counter value of a 112-bit number; the 28 hidden bits are 0 (R103). -/
def ofTime112 (w : Nat) : Nat := (w / 2 ^ 64) * secondUnit + (field w 63 32) * nsUnit + (w % 2 ^ 32) * 2 ^ 28

/-! ### Plates -/

def State.plate (s : State) (p : Nat) : Plate := s.twin.plates.look (fun _ => {}) p
def State.setPlate (s : State) (p : Nat) (x : Plate) : State :=
  { s with twin := { s.twin with plates := s.twin.plates.put (fun _ => {}) p x } }

/-- The plates in state 0 or 1 (Table 14.2). -/
def State.running (s : State) : List Nat := [0, 1].filter fun p => decide ((s.plate p).state ≤ 1)

/-- One plate active and the other standby (R370). -/
def State.paired (s : State) : Bool :=
  decide ((s.plate s.twin.active).state = 0) && decide ((s.plate (1 - s.twin.active)).state = 1)

/-- A comparison of the pair's digests at a point of Table 14.3 (R370), counted for the proof sheet (Table 14.4). Points 0x02 and 0x07 are
not compared in the exposure of a join (R381). -/
def State.comparedDigest (s : State) (point detail digest : Nat) : State :=
  if !s.paired || (s.twin.joinedAt.isSome && decide (point = 2 ∨ point = 7)) then s
  else
    let t : State := { s with twin := { s.twin with digests := s.twin.digests.put (fun _ => 0) (point * 256 + detail) digest } }
    [0, 1].foldl (fun (t : State) p => t.setPlate p { t.plate p with comparesReel := (t.plate p).comparesReel + 1 }) t

/-- A comparison over the listed content; its encoding in octets is the model's (log 98). -/
def State.compared (s : State) (point detail : Nat) (content : Octets) : State := s.comparedDigest point detail (crc64 content)

/-- The block serves: phase 5 and at least one plate in state 0 (R417, R420). -/
def State.serving (s : State) : Bool := decide (s.boot.phase = 5) && !s.boot.inReset

/-! ### Frames to the host -/

/-- Whether a frame may be replaced in the output queue: EMCY and heartbeat (R76). -/
def OutFrame.replaceable : OutFrame → Bool
  | .emcy .. => true
  | .heartbeat .. => true
  | .bootUp _ => true
  | .usdo .. => false

/-- The list without its first replaceable frame. -/
def dropReplaceable : List OutFrame → List OutFrame
  | [] => []
  | f :: r => if f.replaceable then r else f :: dropReplaceable r

/-- The octets of a frame before its padding (R72, R73, R96). An EMCY carries its code least significant octet first as a CiA 1301
UNSIGNED16 (log 75), the error register, the plate and the detail most significant octet first. -/
def OutFrame.body : OutFrame → Octets
  | .bootUp _ => [0]
  | .heartbeat _ st => [BitVec.ofNat 8 st]
  | .emcy _ code register plate detail => leOctets 2 code ++ beOctets 1 register ++ beOctets 1 plate ++ beOctets 4 detail
  | .usdo _ r => match r with
    | .downloaded i k => Config.usdoOctets 0 i k 0 []
    | .downloadOpened i k => Config.usdoOctets 1 i k 0 []
    | .lastSegment => Config.usdoOctets 2 0 0 0 []
    | .uploaded i k d => Config.usdoOctets 3 i k 0 d
    | .uploadOpened i k n => Config.usdoOctets 4 i k n []
    | .uploadSegment n last d => Config.usdoOctets 5 0 (bitNat last) n d
    | .abort i k c => Config.usdoOctets 6 i k c []

/-- The 64-octet data field, padded with 0x00, alike on both transports (R73, Table 3.2). -/
def OutFrame.dataField (f : OutFrame) : Octets := f.body.take 64 ++ List.replicate (64 - f.body.length) 0

/-- The CAN-ID of a frame: a lower one takes the bus first. -/
def OutFrame.busOrder : OutFrame → Nat
  | .bootUp n => 0x700 + n
  | .heartbeat n _ => 0x700 + n
  | .emcy cob _ _ _ _ => cob
  | .usdo n _ => 0x580 + n

/-- A frame offered to the SPI output queue of 32 (R76). With 32 frames waiting the oldest EMCY or heartbeat makes room
and the loss is counted; with none such, the new frame is lost (log 8). The boot-up message counts as a heartbeat. DESIGN CHOICE: a
USDO response that finds the queue full displaces the oldest EMCY or heartbeat too, R76 names only a new EMCY or heartbeat as
replacing one (log 76). -/
def State.pushSpi (s : State) (f : OutFrame) : State :=
  if s.mgmt.spiQueue.length < 32 then
    { s with mgmt := { s.mgmt with spiQueue := s.mgmt.spiQueue ++ [f] } }
  else if s.mgmt.spiQueue.any OutFrame.replaceable then
    ({ s with mgmt := { s.mgmt with spiQueue := dropReplaceable s.mgmt.spiQueue ++ [f] } }).bump 0x2004 5
  else s.bump 0x2004 5

/-- A frame handed to the CAN controller. -/
def State.pushCan (s : State) (f : OutFrame) : State :=
  { s with mgmt := { s.mgmt with canTx := s.mgmt.canTx ++ [f] } }

/-- The node ID in force (R77). -/
def State.node (s : State) : Nat := s.obj 0x2002 3

/-! ### The error register and emergency messages -/

/-- A line of a plate's collector. -/
def State.line (s : State) (plate n : Nat) : Line := s.faults.lines.look (fun _ => {}) (256 * plate + n)
def State.setLine (s : State) (plate n : Nat) (l : Line) : State :=
  { s with faults := { s.faults with lines := s.faults.lines.put (fun _ => {}) (256 * plate + n) l } }

/-- Any status bit of either plate set. -/
def State.anyStatus (s : State) : Bool := s.faults.lines.any fun e => e.2.status

/-- The error register 0x1001 (R402). -/
def State.errorRegister (s : State) : Nat :=
  let v := s.faults.voltState.any fun e => decide (e.2 ≠ 0)
  let t := decide (s.faults.warned ≠ 0)
  let c := decide (s.mgmt.canState ≠ 0)
  let e := s.anyStatus || decide (s.intake.faults ≠ 0) || decide (1 < (s.plate 0).state) || decide (1 < (s.plate 1).state)
  bitNat (v || t || c || e) + 4 * bitNat v + 8 * bitNat t + 16 * bitNat c + 128 * bitNat e

/-- An EMCY lost for CAN transmission (R78, R97). -/
def State.loseEmcy (s : State) : State :=
  ({ s with mgmt := { s.mgmt with lost := s.mgmt.lost + 1 } }).bump 0x2004 5

/-- An EMCY raised: code, manufacturer octet 0, octets 1 to 4 (R96). Before the boot-up message and in Stopped it is lost
and counted (R78); with bit [31] of 0x1014 set none is produced (log 9); a full hold drops it (R97). -/
def State.emcy (s : State) (code plate detail : Nat) : State :=
  let f := OutFrame.emcy (s.obj 0x1014 0 % 2048) code s.errorRegister plate (detail % 2 ^ 32)
  if bit (s.obj 0x1014 0) 31 then s
  else if s.mgmt.nmt = 0 ∨ s.mgmt.nmt = 4 then s.loseEmcy
  else if s.mgmt.emcyHold.length < 32 then
    ({ s with mgmt := { s.mgmt with emcyHold := s.mgmt.emcyHold ++ [f] } }).pushSpi f
  else s.loseEmcy.pushSpi f

/-- EMCY 0xFF00 with the count of frames lost, which restarts (R97). DESIGN CHOICE: with bit [31] of 0x1014 set no 0xFF00 is sent and
the count restarts all the same (log 77). -/
def State.reportLost (s : State) : State :=
  if 0 < s.mgmt.lost ∧ s.mgmt.emcyHold.length < 32 ∧ s.mgmt.nmt ≠ 0 ∧ s.mgmt.nmt ≠ 4 then
    let n := s.mgmt.lost
    ({ s with mgmt := { s.mgmt with lost := 0 } }).emcy 0xFF00 0xFF n
  else s

/-- Code 0x0000 when the error register returns to 0 (R96, R402): `s` before, `t` after. -/
def settleRegister (s t : State) : State :=
  if s.errorRegister ≠ 0 ∧ t.errorRegister = 0 then t.emcy 0x0000 0xFF 0 else t

/-! ### The contact sheet -/

/-- An event recorded for the contact sheet, entered at the next exposure boundary (R399, R400). -/
def State.record (s : State) (plate kind line emcy detail : Nat) : State :=
  { s with faults := { s.faults with events := s.faults.events ++
      [⟨toTime112 s.tai, plate, kind, line, emcy, detail % 2 ^ 32⟩] } }

/-- An EMCY and its contact sheet entry with the same detail. -/
def State.report (s : State) (sheetPlate kind line code emcyPlate detail : Nat) : State :=
  (s.record sheetPlate kind line code detail).emcy code emcyPlate detail

/-- Start or end of a test or by-pass (Table 15.9, Table 15.13): bit of 0x2E00.01 and object index. -/
def State.testEvent (s : State) (b : Nat) (start : Bool) (index : Nat) : State :=
  s.report 0xFF 0x08 0xFFFF 0xFFBA 0xFF (b * 2 ^ 24 + bitNat start * 2 ^ 16 + index % 65536)

/-! ### Responses -/

/-- Objects that exist once a plate, whose responses are not compared (R436). -/
def perPlateObject (idx sub : Nat) : Bool :=
  decide (idx = 0x2102) || decide (idx = 0x2502) || (decide (0x3210 ≤ idx ∧ idx < 0x3214) && decide (sub = 0x0A ∨ sub = 0x0B ∨ sub = 0x0F))
    || (decide (0x3220 ≤ idx ∧ idx < 0x322C) && decide (sub = 0x0A ∨ sub = 0x0E)) || (decide (idx = 0x2800) && decide (sub = 0x0B))
    || (decide (idx = 0x2801) && decide (9 ≤ sub)) || (decide (idx = 0x2A00) && decide (sub = 9 ∨ sub = 0x0B))
    || (decide (idx = 0x2A01) && decide (sub = 9)) || decide (0x2D10 ≤ idx ∧ idx ≤ 0x2D12)

def UsdoResponse.perPlate : UsdoResponse → Bool
  | .downloaded i k => perPlateObject i k
  | .downloadOpened i k => perPlateObject i k
  | .uploaded i k _ => perPlateObject i k
  | .uploadOpened i k _ => perPlateObject i k
  | .abort i k _ => perPlateObject i k
  | _ => false

/-- A response on the transport of its request (R81); it is counted as served (0x2004.01), and one of common state is compared before it
is sent (Table 14.3). -/
def State.respond (s : State) (t : Transport) (r : UsdoResponse) : State :=
  let s0 := s.bump 0x2004 1
  let s1 := if r.perPlate then s0 else s0.compared 6 0 (OutFrame.usdo s.node r).body
  match t with
  | .can => s1.pushCan (.usdo s.node r)
  | .spi => s1.pushSpi (.usdo s.node r)

/-- An abort (R95), counted in 0x2004.02. -/
def State.abort (s : State) (t : Transport) (idx sub code : Nat) : State :=
  (s.bump 0x2004 2).respond t (.abort idx sub code)

/-- The outcome of a write: the confirmation, or the abort with the state unchanged (R86). -/
def State.answer (s : State) (t : Transport) (idx sub : Nat) (r : Except Nat State) : State :=
  match r with
  | .ok s' => s'.respond t (.downloaded idx sub)
  | .error c => s.abort t idx sub c

/-- An effect that may change the state and still be refused (R86): the state, and the abort code of a refusal. -/
abbrev Attempt := State × Option Nat

/-- A check that refuses without a change. -/
def attempt (s : State) : Except Nat State → Attempt
  | .ok t => (t, none)
  | .error c => (s, some c)

/-- Whether an access is served before phase 5 (R418). -/
def servedEarly (idx sub : Nat) (write : Bool) : Bool :=
  decide (0x1000 ≤ idx ∧ idx ≤ 0x1FFF) || decide (0x2F00 ≤ idx ∧ idx ≤ 0x2FFF)
    || (!write && (decide (0x2000 ≤ idx ∧ idx ≤ 0x207F) || decide (idx = 0x2E30))) && decide (sub ≤ 255)

/-- The management unit takes requests (Table 3.3): not before the boot-up message, and not in Stopped. -/
def State.listens (s : State) : Bool := decide (s.mgmt.nmt ≠ 0) && decide (s.mgmt.nmt ≠ 4)

/-- The plate that the selector names (R435). -/
def State.chosenPlate (s : State) : Nat :=
  match s.obj 0x2C01 0 with
  | 0 => 0
  | 1 => 1
  | _ => s.twin.active

/-- A write to a value that exists once a plate, while the selector names a plate in a state other than 0 or 1 (R87, R436). -/
def State.plateRefused (s : State) (idx sub : Nat) : Bool :=
  (decide (idx = 0x2D12) || decide (idx = 0x2502 ∧ sub = 4) || (decide (idx = 0x2801 ∧ sub = 0x10) && decide (s.obj 0x2801 1 < 96)))
    && decide (1 < (s.plate s.chosenPlate).state)

/-- What refuses a host command before its own checks: availability (R469 step 2) and the plate selector (step 5). -/
def State.gate (s : State) (idx sub : Nat) : Option Nat :=
  if s.boot.phase ≠ 5 ∧ servedEarly idx sub true = false then some 0x0A1E00D5
  else if s.plateRefused idx sub then some 0x0A1E0003 else none

/-- A host command through a row of its own: the checks of R469 that come before its own, its own checks and effect, and the
response (R83). -/
def State.command (s : State) (t : Transport) (idx sub : Nat) (op : State → Except Nat State) : State :=
  if s.listens then (match s.gate idx sub with
    | some c => s.abort t idx sub c
    | none => s.answer t idx sub (op s))
  else s

/-- A host command whose refusal may itself be counted or reported. -/
def State.commandA (s : State) (t : Transport) (idx sub : Nat) (op : State → Attempt) : State :=
  if s.listens then (match s.gate idx sub with
    | some c => s.abort t idx sub c
    | none => match op s with
      | (s', none) => s'.respond t (.downloaded idx sub)
      | (s', some c) => s'.abort t idx sub c)
  else s

/-- An effect that the rules give only while the block serves. -/
def State.whenServing (s : State) (f : State → State) : State := if s.serving then f s else s

end Sys2Proof.Machine
end

