-- ==== Sys2Proof/Machine/PlateOps.lean ====
section
/-! DEFINITION. Fault classes, the collector's lines, plate states and demotion (R372, R373, R382, R384, R387 to R394). -/

namespace Sys2Proof.Machine

def State.port (s : State) (n : Nat) : Port := s.ports.look (fun _ => {}) n
def State.setPort (s : State) (n : Nat) (p : Port) : State := { s with ports := s.ports.put (fun _ => {}) n p }

/-- The mode of a lane in force. -/
def State.laneMode (s : State) (n : Nat) : Nat := s.obj (0x3400 + n) 2

/-! ### TX-timestamp queues (R249, R250) -/

/-- The port number of a lane: its lowest lane (R239). -/
def State.portNumber (s : State) (n : Nat) : Nat := if s.laneMode n = 5 then n / 4 * 4 else n

/-- One entry completes on a port (R249); with 64 held it is lost and counted (R250). -/
def State.txComplete (s : State) (lane id status : Nat) (copy : Bool) (time : Nat) : State :=
  let n := s.portNumber lane
  let p := s.port n
  if 64 ≤ p.txQueue.length then
    let s1 := (s.setPort n { p with gap := true, sticky := putBit p.sticky 0 true }).bump (0x3400 + n) 0x12
    if bit p.sticky 0 then s1 else s1.emcy 0xFF62 (n / 12) (n * 2 ^ 24)
  else
    let visible := decide (id < 0xF000)
    let flags := 128 * bitNat p.gap + 64 * bitNat copy + lane % 64
    let e : TxEntry := ⟨id, status, flags, if status ≤ 2 then time else 0, if visible then some p.txSeq else none⟩
    s.setPort n { p with txQueue := p.txQueue ++ [e], gap := false, txSeq := if visible then (p.txSeq + 1) % 65536 else p.txSeq }

/-! ### What a demotion touches (R204, R373, R378) -/

def State.channel (s : State) (c : Nat) : Channel := s.synth.channels.look (fun _ => {}) c
def State.setChannel (s : State) (c : Nat) (x : Channel) : State :=
  { s with synth := { s.synth with channels := s.synth.channels.put (fun _ => {}) c x } }

/-- Merged channels switch to the active plate (R204). -/
def State.switchMerged (s : State) : State :=
  (List.range 12).foldl (fun s c =>
    let x := s.channel c
    let b := decide (s.twin.active = 1)
    if s.obj (0x3220 + c) 4 = 0 ∨ x.onB = b then s
    else if x.enabled then (s.setChannel c { x with onB := b }).bump (0x3220 + c) 0x0C
    else s.setChannel c { x with onB := b }) s

/-- The side queues of a plate are discarded without a count (a demoted plate, R373). -/
def State.dropSide (s : State) (plate : Nat) : State :=
  { s with fabric := { s.fabric with queues := s.fabric.queues.filter fun e => decide (e.1 / 128 ≠ plate) } }

/-- *L*_tx + *d*_tx of a lane, ps. -/
def State.txDelay (s : State) (n : Nat) : Int := s.obj (0x3400 + n) 0x20 + s.objI (0x3400 + n) 7

/-- Δ_p of cross-drive (R378): the active plate's lane less the other. -/
def State.crossDelta (s : State) (pos : Nat) : Int :=
  s.txDelay (pos + 12 * s.twin.active) - s.txDelay (pos + 12 * (1 - s.twin.active))

/-- The other plate is out of service and the active one is in it. -/
def State.alone (s : State) : Bool := decide ((s.plate s.twin.active).state = 0) && decide (1 < (s.plate (1 - s.twin.active)).state)

/-- A position whose frames cross to the other side (R378). -/
def State.crossed (s : State) (pos : Nat) : Bool :=
  s.alone && decide (s.obj 0x2C00 9 = 1) && decide ((s.crossDelta pos).natAbs < 1000000)

/-- A start or an end of cross-drive on a position is a loss of alignment on the lane that it crosses to (R378). -/
def State.realign (s t : State) : State :=
  (List.range 12).foldl (fun (u : State) pos =>
    let a := s.crossed pos
    let b := t.crossed pos
    if a == b then u
    else
      let n := u.portNumber (pos + 12 * (1 - (if b then t.twin.active else s.twin.active)))
      u.setPort n { u.port n with unaligned := true }) t

/-- The copies of a plate not yet past their hand-off deadlines are withheld (R373): a timestamp request completes with "not
sent", but for a copy that a cross-driven lane takes over. -/
def State.withholdCopies (s : State) (p : Nat) : State :=
  (s.plans.live.filter fun f => !f.handed).foldl (fun (t : State) f => match f.request with
    | none => t
    | some id => if t.crossed f.pos then t else t.txComplete (f.pos + 12 * p) id 4 false 0) s

/-! ### Plate states -/

/-- A plate changes state: recorded, EMCY 0xFFA0 with its cause (R368, Table 14.10). -/
def State.plateState (s : State) (p new cause : Nat) : State :=
  let old := (s.plate p).state
  if old = new then s
  else
    let s1 := s.setPlate p { s.plate p with state := new }
    let s2 := if new = 1 then { s1 with twin := { s1.twin with lastStandby := p } } else s1
    s2.report p 0x06 0xFFFF 0xFFA0 0xFF (p * 2 ^ 24 + old * 2 ^ 16 + new * 2 ^ 8 + cause)

/-- Service-gap time starts to accrue, and a gap is counted (R385). -/
def State.openGap (s : State) : State :=
  match s.twin.gapSince with
  | some _ => s
  | none =>
    let s1 := { s with twin := { s.twin with gapSince := some s.now } }
    s1.takeEffect (okey 0 0 0x2C00 0x0B) ((s1.obj 0x2C00 0x0B + 1) % 2 ^ 32 : Nat)

/-- A service gap closes once none of its causes holds: its milliseconds, rounded up, join the total (R385). -/
def State.closeGap (s : State) : State :=
  match s.twin.gapSince with
  | none => s
  | some t0 =>
   if s.twin.lastPlateGap || s.twin.gateGap || s.twin.resetGap then s
   else
    let ns := s.now - t0 + s.twin.gateNs
    let s1 := { s with twin := { s.twin with gapSince := none, gateNs := 0 } }
    s1.takeEffect (okey 0 0 0x2C00 0x0A) ((s1.obj 0x2C00 0x0A + ceilDiv ns 1000000) % 2 ^ 64 : Nat)

/-- The mirror stops and the re-synchronisation in progress ends (R382). -/
def State.stopResync (s : State) : State :=
  { s with twin := { s.twin with mirror := false, resync := none, snapshot := false, joinedAt := none } }

/-- A fatal fault on the only plate in state 0 (R384): recorded, EMCY 0xFFA4, a gap opens, and a re-synchronisation from
this plate stops (R382). -/
def State.lastPlateFatal (s : State) (p : Nat) : State :=
  let s1 := s.setPlate p { s.plate p with fatalLast := true }
  let s2 := s1.report p 0x06 0xFFFF 0xFFA4 0xFF (p * 2 ^ 24)
  let g := s2.openGap
  let s3 : State := { g with twin := { g.twin with lastPlateGap := true } }
  if (s3.plate (1 - p)).state = 4 then s3.stopResync.plateState (1 - p) 3 7 else s3

/-- A plate is demoted (R372, R373). A demoted active plate hands its role to a standby in the same cycle. -/
def State.demote (s : State) (p cause : Nat) : State :=
  let s1 := (s.plateState p 2 cause).bump 0x2C00 5
  let s2 := s1.stopResync
  let s3 : State := { s2 with twin := { s2.twin with digestsEqual := false, swapPending := false } }
  let s4 := if s3.twin.active = p ∧ (s3.plate (1 - p)).state = 1 then
      (({ s3 with twin := { s3.twin with active := 1 - p } }).plateState (1 - p) 0 cause).switchMerged
    else s3
  (State.realign s (s4.dropSide p)).withholdCopies p

/-- A fatal fault acts on one plate alone (R372, R377, R382, R384). -/
def State.fatalOn (s : State) (p : Nat) : State :=
  match (s.plate p).state with
  | 0 => if (s.plate (1 - p)).state = 1 then s.demote p 1 else s.lastPlateFatal p
  | 1 => s.demote p 1
  | 4 => s.demote p 1
  | 3 => s.plateState p 6 4
  | _ => s

/-! ### Latching (R387, R388, R390, R393) -/

/-- The EMCY detail of a line event: line and detail [23:0] (Table 15.13). -/
def lineDetail (ln detail : Nat) : Nat := ln * 2 ^ 24 + detail % 2 ^ 24

/-- The darkroom-to-core line (Table 15.1): its fatal event, unless injected (R409), is a darkroom fault and never a plate's (R33). -/
def darkroomLine : Nat := 158

/-- Record and count of a contained or fatal event on a line; `injected` is the class injected, or 0 (R409). -/
def State.latchHard (s : State) (p ln cls detail injected : Nat) : State :=
  let l := s.line p ln
  let l1 := { l with status := true, last := cls, lastTime := toTime112 s.tai,
                     contained := if cls = 2 then (l.contained + 1) % 2 ^ 32 else l.contained,
                     fatal := if cls = 3 then (l.fatal + 1) % 2 ^ 32 else l.fatal,
                     recent := if cls = 2 then s.now :: l.recent else l.recent }
  let q := s.plate p
  let q1 := if cls = 3 then { q with fatalNow := q.fatalNow || decide (injected ≠ 0 ∨ ln ≠ darkroomLine) } else { q with containedNow := true }
  let s1 := (s.setLine p ln l1).setPlate p q1
  let code := if cls = 3 then 0xFFB2 else 0xFFB1
  let s2 := s1.record p (if injected ≠ 0 then 0x09 else cls) ln code (if injected ≠ 0 then injected * 2 ^ 24 else lineDetail ln detail)
  s2.emcy code p (lineDetail ln detail)

/-- The class a contained event takes on a line: fatal once the line has latched the count of 0x2D01.03 within the
window of 0x2D01.04 (R393). -/
def State.escalated (s : State) (p ln : Nat) : Nat :=
  let w := s.obj 0x2D01 4 * 1000000000
  if s.obj 0x2D01 3 ≤ ((s.line p ln).recent.filter fun t => decide (s.now - t < w)).length then 3 else 2

/-- An event latches on a line; answers the class it took (R387, R390, R393). -/
def State.latch (s : State) (p ln cls detail : Nat) (injected : Bool) : State × Nat :=
  if cls = 1 then
    let l := s.line p ln
    let n := l.reelCorrected + 1
    let first := decide (s.obj 0x2D01 1 < n) && !l.logged
    let s1 := s.setLine p ln { l with status := true, last := 1, lastTime := toTime112 s.tai,
                                      corrected := (l.corrected + 1) % 2 ^ 32, reelCorrected := n, logged := l.logged || first }
    let code := if first then 0xFFB0 else 0
    let det := ln * 2 ^ 24 + (Nat.min n 0xFFFF) * 2 ^ 8
    let s2 := if injected then s1.record p 0x09 ln code (cls * 2 ^ 24) else if first then s1.record p 0x01 ln code det else s1
    let s3 := if first then s2.emcy 0xFFB0 p det else s2
    if n = s.obj 0x2D01 2 then
      let c := s3.escalated p ln
      (s3.latchHard p ln c detail (bitNat injected), c)
    else (s3, 1)
  else
    let c := if cls = 2 then s.escalated p ln else 3
    (s.latchHard p ln c detail (cls * bitNat injected), c)

/-- The plates' actions on the fatal events of one cycle (R372, R394): the lines that latched fatal on each plate. -/
def State.actFatal (s : State) (a b : List Nat) : State :=
  let both := a.filter fun n => b.contains n
  let s1 := both.foldl (fun t n =>
    ({ t with faults := { t.faults with notReadyNext := t.faults.notReadyNext ++ [n] } }).emcy 0xFFBB 0xFF (n * 2 ^ 24)) s
  let a1 := a.filter fun n => !both.contains n
  let b1 := b.filter fun n => !both.contains n
  if a1 ≠ [] ∧ b1 ≠ [] then
    if s1.paired then (s1.demote (1 - s1.twin.active) 1).lastPlateFatal s1.twin.active
    else (s1.fatalOn s1.twin.active).fatalOn (1 - s1.twin.active)
  else if a1 ≠ [] then s1.fatalOn 0
  else if b1 ≠ [] then s1.fatalOn 1
  else s1

/-- A darkroom fault (R33, R389, R421): every section of the store is marked invalid; service goes on. -/
def State.darkroomFault (s : State) : State :=
  let d : Darkroom := { s.darkroom with successes := 0 }
  if d.fault then { s with darkroom := d }
  else ({ s with darkroom := { d with fault := true, valid := 0 } } : State).report 0xFF 0x05 0xFFFF 0xFFB4 0xFF 0


/-- The events of one cycle, in the order given: latched, then acted on together. -/
def State.latchAll (s : State) (events : List LineEvent) (injected : Bool) : State :=
  let r := events.foldl (fun (acc : State × List Nat × List Nat) e =>
    let (t, c) := acc.1.latch e.plate e.line e.cls e.detail injected
    if c = 3 ∧ e.line = darkroomLine ∧ injected = false then (t.darkroomFault, acc.2.1, acc.2.2)
    else if c = 3 then (if e.plate = 0 then (t, acc.2.1 ++ [e.line], acc.2.2) else (t, acc.2.1, acc.2.2 ++ [e.line]))
    else (t, acc.2.1, acc.2.2)) (s, [], [])
  r.1.actFatal r.2.1 r.2.2

/-- A contained fault that a rule logs against a line of both running plates. -/
def State.containedBoth (s : State) (ln detail : Nat) : State :=
  s.latchAll (s.running.map fun p => ⟨p, ln, 2, detail⟩) false

/-- A contained fault of one plate. -/
def State.containedOn (s : State) (p ln detail : Nat) : State := s.latchAll [⟨p, ln, 2, detail⟩] false

/-- A fatal fault of one plate. -/
def State.fatal (s : State) (p ln detail : Nat) : State := s.latchAll [⟨p, ln, 3, detail⟩] false

/-- An intake fault of a source (R17, R362): its bit, EMCY 0xFFA3, the contact sheet. -/
def State.intakeFault (s : State) (src : Nat) : State :=
  if bit s.intake.faults src then s
  else
    let s1 := { s with intake := { s.intake with faults := putBit s.intake.faults src true,
                                                 items := s.intake.items.filter fun i => decide (i.source ≠ src) } }
    s1.report 0xFF 0x04 src 0xFFA3 0xFF (src * 2 ^ 24)

/-- Whether a block of a line is held not ready (R394). -/
def State.lineNotReady (s : State) (ln : Nat) : Bool := s.faults.notReadyLines.contains ln

end Sys2Proof.Machine
end

