-- ==== Sys2Proof/Machine/TimeOps.lean ====
section
/-! DEFINITION. Time-base arithmetic, time scales, the leap table, cross-capture, event timestamps and interval statistics
(R99 to R122). -/

namespace Sys2Proof.Machine

/-! ### Counters -/

/-- The increment of a time base (R100). -/
def State.increment (s : State) (n : Nat) : Nat := s.obj (0x3000 + n) 2

/-- One engine cycle of one time base: value plus increment, with the decimal carry in the reading (R99). -/
def State.advanceBase (s : State) (n : Nat) : State :=
  s.setBase n { s.base n with value := (s.base n).value + s.increment n, prev := (s.base n).value }

/-- Every time base advances by its increment. -/
def State.advanceBases (s : State) : State := (List.range 32).foldl State.advanceBase s

/-- The largest counter value plus one: 2⁴⁸ seconds. -/
def reach : Nat := 2 ^ 48 * secondUnit

/-- A step in ps as counter units: to the nearest 2⁻³² ns, halves away from zero, so that the 28 hidden bits stay as they are (R103;
log 81). -/
def stepUnits (ps : Int) : Int :=
  let m : Int := ((2 * ps.natAbs * 2 ^ 32 + 1000) / 2000 * 2 ^ 28 : Nat)
  if ps < 0 then -m else m

/-- Whether a value plus a step keeps the seconds field in range. -/
def stepFits (value : Nat) (ps : Int) : Bool :=
  decide (0 ≤ (value : Int) + stepUnits ps ∧ (value : Int) + stepUnits ps < reach)

/-- The value after a pending adjustment: a set clears the hidden bits, a step keeps them (R103). -/
def adjusted (value : Nat) : Adjust → Nat
  | .set v => v
  | .step ps => ((value : Int) + stepUnits ps).toNat

/-- The increment that a frequency offset names (R100): halves away from zero. -/
def incrementFor (y : Int) : Int :=
  let m : Int := ((2 * y.natAbs * 2 ^ 60 + 10 ^ 18) / (2 * 10 ^ 18) : Nat)
  2 ^ 60 + (if y < 0 then -m else m)

/-- Whether an increment and a frequency offset agree (R100). -/
def incrementAgrees (inc y : Int) : Bool :=
  decide (y.natAbs ≤ 1000000000000000) && decide (inc = incrementFor y)

/-! ### Scales: units of 2⁻³² ns -/

def second32 : Int := 1000000000 * 2 ^ 32

/-- The counter value in units of 2⁻³² ns. -/
def State.base32 (s : State) (n : Nat) : Int := ((s.base n).value / 2 ^ 28 : Nat)

/-- A leap entry: the offset before it, its new offset and its instant in seconds. -/
structure Leap where
  before : Int
  after : Int
  second : Nat
deriving DecidableEq, Repr

/-- *T*_L and *N*_new of an entry word (Table 4.3). -/
def leapSecond (w : Nat) : Nat := w / 65536
def leapOffset (w : Nat) : Int := signed 16 (w % 65536)

/-- The offset before entry 1: that in force, or the one before the leap already taken. -/
def State.offset0 (s : State) : Int :=
  match s.time.offsetBefore with
  | some n => n
  | none => s.objI 0x2201 1

/-- The leap entries held, in order. -/
def State.leapWords (s : State) : List Nat := ([1, 2, 3, 4].map (s.obj 0x2202)).filter (· ≠ 0)

def leapsFrom (n0 : Int) : List Nat → List Leap
  | [] => []
  | w :: r => ⟨n0, leapOffset w, leapSecond w⟩ :: leapsFrom (leapOffset w) r

def State.leaps (s : State) : List Leap := leapsFrom s.offset0 s.leapWords

/-- The instant from which stepped UTC shows the new offset (R106). -/
def Leap.steppedAt (l : Leap) : Int := if l.before < l.after then (l.second - 1) * second32 else l.second * second32

/-- Stepped UTC of a counter value (R106). -/
def steppedView (n0 : Int) (t : Int) : List Leap → Int
  | [] => t - n0 * second32
  | l :: r => if t < l.steppedAt then t - n0 * second32 else steppedView l.after t r

/-- Smeared UTC of a counter value, rounded to the nearest 2⁻³² ns within a window (R106). -/
def smearedView (w : Nat) (n0 : Int) (t : Int) : List Leap → Int
  | [] => t - n0 * second32
  | l :: r =>
    let start := (l.second - w) * second32
    if t < start then t - n0 * second32
    else if t < start + 86400 * second32 then t - n0 * second32 - roundDivI ((l.after - l.before) * (t - start)) 86400
    else smearedView w l.after t r

/-- The view of a counter value in a scale: 0 counter, 1 stepped UTC, 2 smeared UTC. -/
def State.view (s : State) (scale : Nat) (t : Int) : Int :=
  match scale with
  | 0 => t
  | 1 => steppedView s.offset0 t s.leaps
  | _ => smearedView (s.obj 0x2201 2) s.offset0 t s.leaps

/-- The counter value of a stepped-UTC instant: the first occurrence of a repeated second, *T*_L for an omitted one
(R110). -/
def steppedInverse (n0 : Int) (u : Int) : List Leap → Int
  | [] => u + n0 * second32
  | l :: r =>
    if u + n0 * second32 < l.steppedAt then u + n0 * second32
    else if u + l.after * second32 < l.steppedAt then l.steppedAt
    else steppedInverse l.after u r

/-- The counter value of a smeared-UTC instant, to the nearest 2⁻³² ns (R110). -/
def smearedInverse (w : Nat) (n0 : Int) (u : Int) : List Leap → Int
  | [] => u + n0 * second32
  | l :: r =>
    let start := (l.second - w) * second32
    if u + n0 * second32 < start then u + n0 * second32
    else if u + l.after * second32 < start + 86400 * second32 then
      start + roundDivI ((u + n0 * second32 - start) * 86400) (86400 - (l.after - l.before)).toNat
    else smearedInverse w l.after u r

/-- The counter value of an instant given in a scale. -/
def State.unview (s : State) (scale : Nat) (u : Int) : Int :=
  match scale with
  | 0 => u
  | 1 => steppedInverse s.offset0 u s.leaps
  | _ => smearedInverse (s.obj 0x2201 2) s.offset0 u s.leaps

/-- The latest instant of a scale whose counter value is not after `t`: the view, or the end of a repeated second. -/
def State.viewReached (s : State) (scale : Nat) (t : Int) : Int :=
  if scale = 1 then
    match s.leaps.find? fun l => decide (l.before < l.after ∧ l.steppedAt ≤ t ∧ t < l.second * second32) with
    | some l => (l.second - l.after) * second32 - 1
    | none => s.view 1 t
  else s.view scale t

/-- The leap state of 0x2201.05 at a counter value. -/
def State.leapState (s : State) : Nat :=
  let t := s.base32 0
  match s.leaps with
  | [] => 0
  | l :: _ =>
    let start := ((l.second : Int) - s.obj 0x2201 2) * second32
    if l.before < l.after ∧ l.steppedAt ≤ t ∧ t < l.second * second32 then 3
    else if t < start then 1
    else if t < start + 86400 * second32 then 2
    else 0

/-- Seconds to the next leap, rounded up, saturating (Table 4.3). -/
def State.secondsToLeap (s : State) : Nat :=
  match s.leaps with
  | [] => 0
  | l :: _ => Nat.min (ceilDivI (l.second * second32 - s.base32 0) (1000000000 * 2 ^ 32)).toNat 0xFFFFFFFF

/-- The rules a leap table must satisfy (R107): offset before, the entry words in order, entry named or not, the smear
position, the second after which a named window must start. -/
def leapTableOk (n0 : Int) (w nextReel : Nat) (named : Nat → Bool) : Nat → Option Nat → List Nat → Bool
  | _, _, [] => true
  | i, prev, e :: r =>
    if e = 0 then r.all (· = 0) else
    decide (((leapSecond e : Int) - leapOffset e) % 86400 = 0)
      && decide ((leapOffset e - n0).natAbs = 1)
      && (match prev with | none => true | some p => decide (p + 172800 ≤ leapSecond e))
      && (!named i || decide (nextReel + w < leapSecond e))
      && leapTableOk (leapOffset e) w nextReel named (i + 1) (some (leapSecond e)) r

/-- The second of the next reel boundary. -/
def State.nextReelSecond (s : State) : Nat := s.taiSecond + 1

/-! ### Capture -/

/-- All 32 time bases are latched in one cycle (R114); a second trigger in the same cycle makes no second capture (R113). -/
def State.capture (s : State) : State :=
  if s.time.capturedAt = some s.now then s
  else
    let c : Table Nat := (List.range 32).foldl (fun t n => t.put (fun _ => 0) n (toTime112 (s.base n).value)) []
    ({ s with time := { s.time with captured := c, capturedAt := some s.now } }).bump 0x2203 2

/-! ### Events and intervals -/

def State.input (s : State) (i : Nat) : EventInput := s.time.inputs.look (fun _ => {}) i
def State.setInput (s : State) (i : Nat) (x : EventInput) : State :=
  { s with time := { s.time with inputs := s.time.inputs.put (fun _ => {}) i x } }
def State.interval (s : State) (u : Nat) : Interval := s.time.intervals.look (fun _ => {}) u
def State.setInterval (s : State) (u : Nat) (x : Interval) : State :=
  { s with time := { s.time with intervals := s.time.intervals.put (fun _ => {}) u x } }

/-- The timestamp of an edge with fine phase `fine` in units of 0.5 ps, on time base `n`, to the nearest 2⁻³² ns
(R115). -/
def State.eventTime (s : State) (i n : Nat) (fine : Int) : Int :=
  let v := fine - 2 * s.objI (0x3020 + i) 4 - 2 * (s.input i).skew
  roundDivI ((s.base n).value * 2000 + v * s.increment n) (2000 * 2 ^ 28)

/-- A measured interval joins the gate (R121, R122): `d` in units of 2⁻³² ns. -/
def Interval.add (x : Interval) (d offset : Int) : Interval :=
  if x.gateOpen then
    let v := d * 1000000 - offset * 2 ^ 32
    { x with count := x.count + 1, sum := x.sum + v, squares := x.squares + (v * v).toNat,
             min := if x.count = 0 then v else Min.min x.min v, max := if x.count = 0 then v else Max.max x.max v }
  else x

/-- A start counted as unpaired. -/
def Interval.lone (x : Interval) : Interval := if x.gateOpen then { x with unpaired := x.unpaired + 1 } else x

/-- An edge at a unit (R121): `isStart`, `isStop` say which of the unit's inputs it is on. -/
def Interval.edge (x : Interval) (isStart isStop : Bool) (t offset : Int) (windowPs : Nat) : Interval :=
  if x.mode = 1 then
    if isStart then
      match x.start with
      | none => { x with start := some t }
      | some _ => { x.lone with start := some t }
    else if isStop then
      match x.start with
      | none => x
      | some t0 =>
        if t ≤ t0 then x
        else if (t - t0) * 1000 ≤ (windowPs : Int) * 2 ^ 32 then { x.add (t - t0) offset with start := none }
        else { x.lone with start := none }
    else x
  else if x.mode = 2 ∧ isStart then
    match x.start with
    | none => { x with start := some t }
    | some t0 => { x.add (t - t0) offset with start := some t }
  else x

/-- A start that has outlived its pair window by the instant `t` is counted as unpaired (R121). -/
def Interval.expire (x : Interval) (t : Int) (windowPs : Nat) : Interval :=
  match x.start with
  | none => x
  | some t0 => if x.mode = 1 ∧ (windowPs : Int) * 2 ^ 32 < (t - t0) * 1000 then { x.lone with start := none } else x

/-- Nearest integer to the square root of a quotient. -/
def sqrtNearest (a b : Nat) : Nat :=
  let k := sqrtDown (a / b)
  if (2 * k + 1) * (2 * k + 1) * b ≤ 4 * a then k + 1 else k

/-- Results of a gate latch (R122): mean, deviation, minimum, maximum in fs; all 0 for no pair. -/
def State.latchGate (s : State) (u : Nat) : State :=
  let x := (s.interval u).expire (s.base32 0) (s.obj (0x2240 + u) 5)
  let n := x.count
  let b := 2 ^ 32
  let mean := if n = 0 then 0 else roundDivI x.sum (n * b)
  let dev := if n < 2 then 0 else sqrtNearest ((n * x.squares : Nat) - x.sum * x.sum : Int).toNat (n * n * b * b)
  let i := 0x2240 + u
  let s1 := ((((s.setObj i 7 (n % 2 ^ 32 : Nat)).setObj i 8 mean).setObj i 9 dev).setObj i 0x0A
    (if n = 0 then 0 else roundDivI x.min b)).setObj i 0x0B (if n = 0 then 0 else roundDivI x.max b)
  let s2 := (s1.setObj i 0x0C (x.unpaired % 2 ^ 32 : Nat)).bump i 0x0D
  s2.setInterval u { x with count := 0, sum := 0, squares := 0, min := 0, max := 0, unpaired := 0,
                            gateReel := s.clock.reel }

/-- An edge reaches every interval unit, timestamped on time base 0 (R121). -/
def State.intervalEdge (s : State) (i : Nat) (t0 : Int) : State :=
  (List.range 8).foldl (fun s u =>
    let x := s.interval u
    let y := x.edge (decide (s.obj (0x2240 + u) 2 = i)) (decide (s.obj (0x2240 + u) 3 = i)) t0 (s.objI (0x2240 + u) 6)
      (s.obj (0x2240 + u) 5)
    if x = y then s else s.setInterval u y) s

/-- A timestamped edge in the FIFO of its input, subject to decimation (R119). -/
def State.fifoEdge (s : State) (i : Nat) (rising : Bool) (time : Int) : State :=
  let x := s.input i
  if x.phase + 1 < s.obj (0x3020 + i) 0x0F then s.setInput i { x with phase := x.phase + 1 }
  else if 256 ≤ x.fifo.length then
    (s.setInput i { x with phase := 0, gap := true, sticky := putBit x.sticky 0 true }).bump (0x3020 + i) 0x0A
  else
    let flags := 32768 * bitNat x.gap + 16384 * bitNat rising + 8192 * bitNat (decide (x.calibration = 2))
    s.setInput i { x with phase := 0, gap := false, seq := (x.seq + 1) % 8192,
                          fifo := x.fifo ++ [⟨toTime112 (time.toNat * 2 ^ 28), flags, x.seq⟩] }

/-- The records of a FIFO after the one of sequence `q`, if `q` is present. -/
def releaseTo {α : Type} (seq : α → Nat) (q : Nat) : List α → Option (List α)
  | [] => none
  | e :: r => if seq e = q then some r else releaseTo seq q r

end Sys2Proof.Machine
end

