-- ==== Sys2Proof/Machine/SynthOps.lean ====
section
/-! DEFINITION. DPLLs, output PLLs, ramps, clock channels and PPS channels: frequency words, holdover, re-lock, gating and
agreement (R179 to R208). -/

namespace Sys2Proof.Machine

def State.dpll (s : State) (d : Nat) : Dpll := s.synth.dplls.look (fun _ => {}) d
def State.setDpll (s : State) (d : Nat) (x : Dpll) : State :=
  { s with synth := { s.synth with dplls := s.synth.dplls.put (fun _ => {}) d x } }
def State.opll (s : State) (o : Nat) : Opll := s.synth.oplls.look (fun _ => {}) o
def State.setOpll (s : State) (o : Nat) (x : Opll) : State :=
  { s with synth := { s.synth with oplls := s.synth.oplls.put (fun _ => {}) o x } }
def State.ppsChannel (s : State) (p : Nat) : Pps := s.synth.pps.look (fun _ => {}) p
def State.setPps (s : State) (p : Nat) (x : Pps) : State :=
  { s with synth := { s.synth with pps := s.synth.pps.put (fun _ => {}) p x } }

/-! ### References as their objects describe them (Table 5.1) -/

/-- The kind of a reference (Table 5.1). -/
def State.refKind (s : State) (r : Nat) : Nat :=
  if r < 16 then s.obj (0x3100 + r) 3
  else match s.obj (0x3100 + r) 2 / 256 with
    | 1 => 3
    | 2 => 3
    | 3 => 3
    | _ => 1

def State.refSource (s : State) (r : Nat) : Nat := s.obj (0x3100 + r) 2 / 256
def State.refInstance (s : State) (r : Nat) : Nat := s.obj (0x3100 + r) 2 % 256

/-! ### DPLLs -/

/-- The frequency word of a nominal frequency in µHz and an offset in 10⁻¹⁸ (R180). -/
def ftwOf (nominal : Nat) (y : Int) : Nat :=
  (roundDivI ((nominal : Int) * (10 ^ 18 + y) * 2 ^ 64) (10 ^ 6 * 10 ^ 9 * 10 ^ 18)).toNat % 2 ^ 64

/-- The reference a DPLL tracks (R179): the reference in force in mode 1, .03 in mode 2. -/
def State.tracked (s : State) (d : Nat) : Option Nat :=
  if !(s.dpll d).running then none
  else if s.obj (0x3200 + d) 2 = 1 then (if s.obj 0x2300 2 = 0xFF then none else some (s.obj 0x2300 2))
  else if s.obj (0x3200 + d) 2 = 2 then some (s.obj (0x3200 + d) 3)
  else none

/-- The state 0x3200+d.08. -/
def State.dpllState (s : State) (d : Nat) : Nat :=
  let x := s.dpll d
  if !x.running then 0 else if s.obj (0x3200 + d) 2 = 0 then 4 else if x.holdover then 3 else if x.last then 2 else 1

/-- Entry into holdover (R184): the word becomes the mean of the words held, with no phase step. -/
def State.dpllHold (s : State) (d : Nat) : State :=
  let x := s.dpll d
  if !x.running ∨ x.holdover ∨ s.obj (0x3200 + d) 2 = 0 then s
  else
    let w := if x.words.isEmpty then x.ftw else x.words.sum / x.words.length
    ((s.setDpll d { x with holdover := true, ftw := w }).bump (0x3200 + d) 0x0D).emcy 0xFF45 s.twin.active
      (d * 2 ^ 24 + 2 ^ 16)

/-- Exit from holdover: the phase error then measured is absorbed as a build-out offset (R184). -/
def State.dpllResume (s : State) (d : Nat) : State :=
  let x := s.dpll d
  if !x.holdover then s
  else ((s.setDpll d { x with holdover := false, rebuild := true }).bump (0x3200 + d) 0x0D).emcy 0xFF45 s.twin.active
    (d * 2 ^ 24)

/-- Every DPLL that tracks a reference enters holdover (R133, R134). -/
def State.holdTrackers (s : State) (r : Nat) : State :=
  (List.range 16).foldl (fun s d => if s.tracked d = some r then s.dpllHold d else s) s

/-- A phase hit on a reference restarts the dwell of the stage in force of the DPLLs that track it (R182). -/
def State.restartDwell (s : State) (r : Nat) : State :=
  (List.range 16).foldl (fun s d => if s.tracked d = some r then s.setDpll d { s.dpll d with dwellAt := s.now } else s) s

/-- The update interval *T* of a reference's measurements, ns, not below an exposure (R181, Table 5.1): an exposure for kind 1, the
interval of the upstream instance, a second otherwise. -/
def State.dpllInterval (s : State) (r : Nat) : Nat :=
  if s.refKind r = 1 then 1000000
  else if 16 ≤ r ∧ (s.refSource r = 2 ∨ s.refSource r = 3) then
    let k := s.objI (0x2320 + s.refInstance r) 5
    Nat.max 1000000 (if 0 ≤ k then 1000000000 * 2 ^ k.toNat else 1000000000 / 2 ^ (-k).toNat)
  else 1000000000

/-- The first stage of acquisition, µHz (R182): min(10 Hz, 1/(10 *T*)), or the final bandwidth where that is not below it. -/
def State.firstStage (s : State) (d : Nat) : Nat :=
  let start := match s.tracked d with
    | none => 10000000
    | some r => Nat.min 10000000 (10 ^ 14 / s.dpllInterval r)
  Nat.max start (s.obj (0x3200 + d) 5)

/-- Acquisition begins: at the first stage, with its dwell. -/
def State.acquire (s : State) (d : Nat) : State :=
  let b := s.firstStage d
  s.setDpll d { s.dpll d with stage := b, last := decide (b = s.obj (0x3200 + d) 5), dwellAt := s.now, lastUpdate := none }

/-- A DPLL starts (R180, R182): the seed is loaded and acquisition begins at the first stage. -/
def State.dpllStart (s : State) (d : Nat) : State :=
  (s.setDpll d { running := true, lfsr := s.obj (0x3200 + d) 0x0C, phase := (s.dpll d).phase,
                 ftw := ftwOf (s.obj (0x3200 + d) 4) 0 }).acquire d

/-- A reference that a loop can use: Qualified (R133, R134, R184). -/
def State.usable (s : State) (r : Nat) : Bool := decide ((s.refs.loupes.look (fun _ => {}) r).state = 3)

/-- π × 10²⁴, rounded down. -/
def piE24 : Nat := 3141592653589793238462643

/-- *ω*_n of R181 is 2π *f*_bw × 10⁻⁴ × 2³² over this, with *f*_bw in µHz: √(A + √(A² + 10⁸)) × 2³² for A = 10⁴ (1 + 2ζ²). -/
def loopRoot (damping : Nat) : Nat :=
  let a := 2 * damping * damping + 10000
  Nat.max 1 (sqrtDown ((a * 2 ^ 32 + sqrtDown ((a * a + 10 ^ 8) * 2 ^ 64)) * 2 ^ 32))

/-- The loop gains of R181 from the stage bandwidth in µHz, the damping in 0.01 and the interval in ns: *K*_p / *T* and *K*_i / *T* in
units of 10⁻¹⁸ × 2⁻³² per ps, to the nearest unit (DESIGN CHOICE: the rounding; log 11). -/
def loopGain (bw damping t : Nat) : Nat × Nat :=
  let d := loopRoot damping
  let near (a b : Nat) : Nat := (2 * a + b) / (2 * b)
  (near (4 * piE24 * damping * bw * 2 ^ 64) (10 ^ 24 * d),
   near (4 * piE24 * piE24 * bw * bw * t * 2 ^ 96) (10 ^ 48 * d * d * 10 ^ 11))

/-- The dwell of a stage: 10/(2π *f*_bw) s, in ns rounded up (R182). -/
def dwellNs (bw : Nat) : Nat := ceilDiv (10 ^ 40) (2 * piE24 * Nat.max 1 bw)

/-- A DCO's words after its nominal frequency has changed: at the same fractional frequency (log 93). -/
def Dpll.rescale (x : Dpll) (old new : Nat) : Dpll :=
  let f (w : Nat) : Nat := (roundDivI ((w : Int) * new) (Nat.max 1 old)).toNat % 2 ^ 64
  { x with ftw := f x.ftw, words := x.words.map f }

/-- The next narrower stage (R182): a tenth while above the final bandwidth, else the final bandwidth. -/
def nextStage (stage final : Nat) : Nat := if final < stage / 10 then stage / 10 else final

/-- The frequency offset of the time base that a DPLL in mode 0 follows (R180); 0 for time base 0. -/
def State.baseY (s : State) (d : Nat) : Int :=
  if s.obj (0x3200 + d) 3 = 0 then 0 else s.objI (0x3000 + s.obj (0x3200 + d) 3) 3

/-- The words at cycle 0 of an exposure: mode 0 follows its time base (R180); every word joins the history (R184). -/
def State.dpllExposure (s : State) (d : Nat) : State :=
  let x := s.dpll d
  if !x.running then s
  else
    let w := if s.obj (0x3200 + d) 2 = 0 then
        ftwOf (s.obj (0x3200 + d) 4) (s.baseY d)
      else x.ftw
    s.setDpll d { x with ftw := w, words := (w :: x.words).take 1000 }

/-- DPLL bandwidth and damping agree (R183). -/
def dpllAgrees (bw damping : Int) : Bool :=
  decide (1000 ≤ bw ∧ bw ≤ 10000000) && decide (50 ≤ damping ∧ damping ≤ 2000)
    && (decide (bw < 1000000) || decide (440 ≤ damping))

/-! ### Output PLLs -/

/-- The VCO frequency in force of an output PLL, µHz. -/
def State.vco (s : State) (o : Nat) : Nat := s.obj (0x3210 + o) 5

/-- The group 0x02 set agrees (R187): DPLL, *M*, *N*, target, current, profile, slew. -/
def State.opllAgrees (s : State) (o : Nat) (d m n f i prof slew : Nat) : Bool :=
  decide (9600000000000000 ≤ f ∧ f ≤ 11500000000000000)
    && decide (1 ≤ m ∧ m ≤ 16) && decide (38 ≤ n ∧ n ≤ 1150) && decide (1 ≤ i ∧ i ≤ 64)
    && decide (10000000000000 * n ≤ f * m ∧ f * m ≤ 250000000000000 * n) && decide (10000000000000 * n ≤ f)
    && decide (d ≤ 15) && decide (s.obj (0x3200 + d) 1 = 1)
    && ((List.range 4).all fun k => decide (k = o) || decide (s.obj (0x3210 + k) 1 = 0) || decide (s.obj (0x3210 + k) 2 ≠ d))
    && decide (prof ≤ 15 ∨ prof = 0xFF) && decide (1 ≤ slew ∧ slew ≤ 1000000)

/-- A ramp or re-lock in progress (R187). -/
def State.opllBusy (s : State) (o : Nat) : Bool :=
  let st := (s.opll o).state
  decide (st = 1 ∨ st = 2 ∨ st = 3 ∨ st = 5)

/-- The sensor of a plate for an output PLL (Table 15.7). -/
def pllSensor (plate o : Nat) : Nat := 10 * plate + (if o ≤ 1 then 6 else 7)
def State.temp (s : State) (n : Nat) : Int := s.faults.temps.getD n 0

/-- The entry of a plate usable for a target (R194): within 2 MHz and 16 °C. -/
def State.recipeFor (s : State) (o p f : Nat) : Option Nat :=
  (List.range 32).find? fun k =>
    match (s.opll o).recipes.look (fun _ => none) (32 * p + k) with
    | none => false
    | some r => decide (((r.kHz * 1000000000 : Nat) - (f : Int)).natAbs ≤ 2000000000000)
        && decide ((r.temperature - s.temp (pllSensor p o)).natAbs ≤ 256)

/-- The channels of an output PLL are enabled: its domain is awake (Table 1.6). -/
def State.opllUsed (s : State) (o : Nat) : Bool :=
  (List.range 12).any fun c => decide (s.obj (0x3220 + c) 2 = o) && (s.channel c).enabled

/-- The node's level now (R198): 0.693147 ms after the pin's change it has crossed the threshold. -/
def LockPin.node (x : LockPin) (now : Nat) : Bool := if x.since + 693147 ≤ now then x.high else x.before

/-- The lock pin of one plate takes a level. -/
def Opll.setPin (x : Opll) (p : Nat) (high : Bool) (now : Nat) : Opll :=
  let k : LockPin := x.pins.look (fun _ => {}) p
  if k.high = high then x else { x with pins := x.pins.put (fun _ => {}) p ⟨high, now, k.node now, false⟩ }

/-- Bit [0] of 0x3210+o.0F on a plate (R198). -/
def Opll.sense (x : Opll) (p now : Nat) : Nat :=
  let k : LockPin := x.pins.look (fun _ => {}) p
  bitNat (k.node now && !k.broken)

/-- Channels fed by an output PLL. -/
def State.fed (s : State) (o : Nat) : List Nat :=
  (List.range 12).filter fun c => decide (s.obj (0x3220 + c) 2 = o)

/-- The channel frequency in µHz, rounded down (Table 7.11). -/
def State.channelHz (s : State) (c : Nat) : Nat :=
  let src := s.obj (0x3220 + c) 2
  let f := if src ≤ 3 then s.vco src else s.obj (0x3100 + (src - 16)) 4
  f / Nat.max 1 (s.obj (0x3220 + c) 3)

/-- A channel is gated (R192): held low, or on its safelight source if its divider fits. -/
def State.gateChannel (s : State) (c : Nat) : State :=
  let x := s.channel c
  if !x.enabled then s
  else
    let f := s.channelHz c
    let ds := ceilDiv (10 ^ 15) (Nat.max 1 f)
    s.setChannel c { x with gated := true, aligned := false, measured := false,
                            safelight := decide (s.obj (0x3220 + c) 5 = 1) && decide (ds ≤ 16777216) }

/-- A DCO's nominal frequency changes (R180): the seed is loaded, and the word follows its time base or keeps the loop's fractional
frequency. -/
def State.retune (s : State) (d f : Nat) : State :=
  let old := s.obj (0x3200 + d) 4
  let x := { s.dpll d with lfsr := s.obj (0x3200 + d) 0x0C }
  (s.setObj (0x3200 + d) 4 f).setDpll d
    (if !x.running then s.dpll d else if s.obj (0x3200 + d) 2 = 0 then { x with ftw := ftwOf f (s.baseY d) } else x.rescale old f)

/-- The DPLL of an output PLL follows *f*_DCO (R187). -/
def State.followDco (s : State) (o : Nat) : State :=
  s.retune (s.obj (0x3210 + o) 2) (s.vco o * s.obj (0x3210 + o) 3 / Nat.max 1 (s.obj (0x3210 + o) 4))

/-- The lock pins of the given plates take a level. -/
def State.lockPins (s : State) (o : Nat) (plates : List Nat) (high : Bool) : State :=
  s.setOpll o (plates.foldl (fun (x : Opll) p => x.setPin p high s.now) (s.opll o))

/-- A re-lock begins (R192, R194): channels gated, a recipe if both running plates hold one, else a full search. -/
def State.relock (s : State) (o : Nat) (full : Bool) : State :=
  let s1 := ((s.fed o).foldl State.gateChannel (s.followDco o)).lockPins o [0, 1] false
  let x := s1.opll o
  let rec? := !full && (s1.running.all fun p => (s1.recipeFor o p (s1.vco o)).isSome)
  let y := { x with state := if rec? then 2 else 1, byRecipe := rec?, searches := 0, searchAt := s1.now,
                    found := none, ramp := none }
  (s1.setOpll o y).bump (0x3210 + o) (if rec? then 0x0C else 0x0D)

/-- Ramp segments of a profile: rate in 0.001 ppb/s, ramp and hold times in exposures (Table 7.3); 0xFF is one linear
segment at the slew limit. -/
def State.rampSegments (s : State) (prof slew : Nat) : List (Nat × Nat × Nat) :=
  if prof = 0xFF then [(slew * 1000, 65535, 0)]
  else (List.range (s.obj (0x3240 + prof) 1)).map fun k =>
    let w := s.obj (0x3240 + prof) (2 + k)
    (field w 63 32, field w 31 16, field w 15 0)

/-- The group 0x09 set agrees (R191). -/
def profileAgrees (count : Int) (segs : List Int) : Bool :=
  decide (1 ≤ count ∧ count ≤ 16) &&
  ((List.range 16).all fun k =>
    let w := (segs.getD k 0).toNat
    if (k : Int) < count then decide (1 ≤ field w 63 32 ∧ field w 63 32 ≤ 1000000000) && decide (1 ≤ field w 31 16)
    else decide (w = 0))

/-- A ramp begins (R189): the profile is copied at its start, and the committed change loads the seed (R180). -/
def State.rampStart (s : State) (o old new : Nat) : State :=
  let segs := s.rampSegments (s.obj (0x3210 + o) 7) (s.obj (0x3210 + o) 8)
  let r : Ramp := ⟨old, new, 0, segs, s.obj (0x3210 + o) 8, 0, (segs.getD 0 (0, 0, 0)).2.1 * 1000, false, s.now⟩
  let d := s.obj (0x3210 + o) 2
  (s.setDpll d { s.dpll d with lfsr := s.obj (0x3200 + d) 0x0C }).setOpll o { s.opll o with state := 5, ramp := some r }

/-- The DCO frequency of an output PLL for a VCO frequency. -/
def State.dcoFor (s : State) (o f : Nat) : Nat := f * s.obj (0x3210 + o) 3 / Nat.max 1 (s.obj (0x3210 + o) 4)

/-- Channels that lose alignment are reported (R200): status bit [4], EMCY 0xFF42 with the error. -/
def State.loseAlignment (s : State) (c : Nat) (err : Int) : State :=
  let x := s.channel c
  if x.lost then s
  else (s.setChannel c { x with lost := true }).emcy 0xFF42 s.twin.active (c * 2 ^ 24 + (Nat.min err.natAbs 0xFFFF) * 2 ^ 8)

/-- The measured phase error of a channel that is reported: the active plate's, of the last reel (0x3220+c.0A). -/
def State.lastError (s : State) (c : Nat) : Int := s.objKey (okey s.twin.active 0 (0x3220 + c) 0x0A)

/-- The offset of a ramp as a frequency word, rounded. -/
def Ramp.word (r : Ramp) : Int := roundDivI (r.offset * 2 ^ 64) (10 ^ 21)

/-- The word of a DCO with the offset of a ramp in progress (R189). -/
def State.dcoWord (s : State) (d : Nat) : Nat :=
  let add (o : Nat) : Int := match (s.opll o).ramp with
    | none => 0
    | some r => if s.obj (0x3210 + o) 2 = d then r.word else 0
  (((s.dpll d).ftw : Int) + add 0 + add 1 + add 2 + add 3).toNat % 2 ^ 64

/-- The end of a ramp: the offset is folded into the nominal word in one cycle (R189), into a loop's or a held word as it stands, and
aligned channels are reported as misaligned (R200). -/
def State.rampEnd (s : State) (o : Nat) (r : Ramp) : State :=
  let d := s.obj (0x3210 + o) 2
  let x := s.dpll d
  let fold (w : Nat) : Nat := ((w : Int) + ftwOf r.new 0 - ftwOf r.old 0).toNat % 2 ^ 64
  let y := if !x.running then x else if s.obj (0x3200 + d) 2 = 0 then { x with ftw := ftwOf r.new (s.baseY d) }
    else { x with ftw := fold x.ftw, words := x.words.map fold }
  let s1 := ((s.setOpll o { s.opll o with state := 4, ramp := none }).setObj (0x3200 + d) 4 r.new).setDpll d y
  (s1.fed o).foldl (fun t c => if (t.channel c).aligned then t.loseAlignment c (t.lastError c) else t) s1

/-! ### The DCOs (R180) -/

/-- One engine cycle of a DCO: the accumulator advances by the word; where it passes its end an output edge is placed by the modulator,
with dither drawn from the register. -/
def Dpll.advance (x : Dpll) (word dither : Nat) : Dpll :=
  if x.phase + word < 2 ^ 64 then { x with phase := x.phase + word }
  else
    let left := (x.phase + word) % 2 ^ 64
    let l := if dither = 0 then x.lfsr else Config.lfsrNext x.lfsr
    let e := Config.edgePlace (dither, l) x.shaper (left, word)
    { x with phase := left, lfsr := l, shaper := e.2, edge := e.1 }

/-- Every DCO in an engine cycle. -/
def State.advanceDcos (s : State) : State :=
  s.synth.dplls.keys.foldl (fun (s : State) d =>
    if (s.dpll d).running then s.setDpll d ((s.dpll d).advance (s.dcoWord d) (s.obj (0x3200 + d) 0x0B)) else s) s

/-- The DCOs run on through the `n` ns of a registration gate at their last words (R173): the accumulators are where `n` cycles leave
them; where the modulator and the dither register stand after that many edges is a free value (log 12). -/
def State.runDcosOn (s : State) (n : Nat) : State :=
  if n = 0 then s
  else s.synth.dplls.keys.foldl (fun (s : State) d =>
    if !(s.dpll d).running then s
    else
      let (l, s1) := s.drawNat
      let (a, s2) := s1.drawInt
      let (b, s3) := s2.drawInt
      let (c, s4) := s3.drawNat
      s4.setDpll d { s4.dpll d with phase := ((s4.dpll d).phase + n * s4.dcoWord d) % 2 ^ 64, lfsr := l % 2 ^ 32, shaper := (a, b), edge := c % 256 }) s

/-- One 1,000-cycle update of a ramp (R189): frequencies scaled by 10⁶ inside `offset`. -/
def Ramp.tick (r : Ramp) : Ramp :=
  let seg := r.segments.getD r.seg (0, 0, 0)
  if r.holding then
    if r.ticks ≤ 1 then
      let n := if r.seg + 1 < r.segments.length then r.seg + 1 else r.seg
      { r with holding := false, seg := n, ticks := (r.segments.getD n (0, 0, 0)).2.1 * 1000 }
    else { r with ticks := r.ticks - 1 }
  else
    let total : Int := ((r.new : Int) - r.old) * 1000000
    let rate := Nat.min seg.1 (r.slew * 1000)
    let d : Int := (r.old * rate / 1000000000000 : Nat)
    let off := if 0 ≤ total then Min.min total (r.offset + d) else Max.max total (r.offset - d)
    if off = total then { r with offset := off }
    else if r.ticks ≤ 1 then
      if seg.2.2 = 0 then
        let n := if r.seg + 1 < r.segments.length then r.seg + 1 else r.seg
        { r with offset := off, seg := n, ticks := (r.segments.getD n (0, 0, 0)).2.1 * 1000 }
      else { r with offset := off, holding := true, ticks := seg.2.2 * 1000 }
    else { r with offset := off, ticks := r.ticks - 1 }

/-- Whether the ramp has reached its target. -/
def Ramp.done (r : Ramp) : Bool := decide (r.offset = ((r.new : Int) - r.old) * 1000000)

/-! ### Clock channels -/

/-- Alignment period in µs: 0 none, 1 ms, 1 s (Table 7.11). -/
def alignUs : Nat → Nat
  | 1 => 1000
  | 2 => 1000000
  | _ => 0

/-- A channel with a given divider is alignable (R199). -/
def State.alignableWith (s : State) (c div : Nat) : Bool :=
  let src := s.obj (0x3220 + c) 2
  let a := alignUs (s.obj (0x3220 + c) 6)
  decide (src ≤ 3) && decide (s.obj (0x3200 + s.obj (0x3210 + src) 2) 2 = 0) && decide (a ≠ 0) && decide (0 < div)
    && decide (s.vco src * a % (div * 10 ^ 12) = 0)
def State.alignable (s : State) (c : Nat) : Bool := s.alignableWith c (s.obj (0x3220 + c) 3)

/-- Status 0x3220+c.09. -/
def State.channelStatus (s : State) (c : Nat) : Nat :=
  let x := s.channel c
  bitNat (x.enabled && !x.gated) + 2 * bitNat x.gated + 4 * bitNat (x.gated && x.safelight)
    + 8 * bitNat (x.aligned && decide (s.obj (0x3220 + c) 2 ≤ 3)) + 16 * bitNat x.lost + 32 * bitNat x.onB
    + 64 * bitNat (!s.alignable c)

/-- The group 0x03 set agrees (R202): frequency limits with the VCO in force. -/
def State.channelAgrees (s : State) (c div mode : Nat) : Bool :=
  let src := s.obj (0x3220 + c) 2
  let f := if src ≤ 3 then s.vco src else s.obj (0x3100 + (src - 16)) 4
  decide (4 ≤ div ∧ div ≤ 16777216) && decide (mode ≤ 2) && decide (f ≤ 2875000000000000 * div)
    && (decide (mode = 0) || decide (f ≤ 1250000000000000 * div))

/-- The correction of a channel (R199): (period − error) mod period, in units of 2⁻¹⁶ ps. -/
def correction (freq : Nat) (err : Int) : Nat :=
  let period := 10 ^ 18 * 65536 / Nat.max 1 freq
  ((-(err * 65536)) % ((Nat.max 1 period : Nat) : Int)).toNat

/-- The fine delay left after whole VCO periods, to the nearest ps (R199, Table 7.7). -/
def fineDelay (vco delay : Nat) : Nat := (delay % Nat.max 1 (10 ^ 18 * 65536 / Nat.max 1 vco) + 32768) / 65536

/-! ### PPS channels -/

/-- The group 0x04 set agrees (R208): width, polarity, bit rate, framing, offset, scale. -/
def ppsAgrees (width pol rate framing offset scale : Int) : Bool :=
  let bits : Int := if framing = 0 then 10 else 11
  decide (100 ≤ width ∧ width ≤ 900000000) && decide (0 ≤ pol ∧ pol ≤ 1) && decide (115200 ≤ rate ∧ rate ≤ 12000000)
    && decide (0 ≤ framing ∧ framing ≤ 2) && decide (0 ≤ scale ∧ scale ≤ 2)
    && decide (1000 ≤ offset ∧ offset ≤ 900000) && decide (offset * rate + 32 * bits * 1000000 ≤ 990000 * rate)

end Sys2Proof.Machine
end

