-- ==== Sys2Proof/Machine/RefOps.lean ====
section
/-! DEFINITION. Loupes and the selector: measurements, frequency and stability, reference states, disagreement, challenges
and the fall-back procedure (R123 to R144). -/

namespace Sys2Proof.Machine

def State.loupe (s : State) (r : Nat) : Loupe := s.refs.loupes.look (fun _ => {}) r
def State.setLoupe (s : State) (r : Nat) (l : Loupe) : State :=
  { s with refs := { s.refs with loupes := s.refs.loupes.put (fun _ => {}) r l } }
def State.steer (s : State) (n : Nat) : Steer := s.dev.steer.look (fun _ => {}) n
def State.setSteer (s : State) (n : Nat) (x : Steer) : State :=
  { s with dev := { s.dev with steer := s.dev.steer.put (fun _ => {}) n x } }

/-- A phase in ps as 2⁻³² ns. -/
def psTo32 (ps : Int) : Int := roundDivI (ps * 2 ^ 32) 1000

/-- Every reference number. -/
def refNumbers : List Nat := List.range 32


def State.rank (s : State) (r : Nat) : Nat := s.obj (0x3100 + r) 5
def State.qualified (s : State) (r : Nat) : Bool := decide ((s.loupe r).state = 3)

/-- The reference in force, if any. -/
def State.inForce (s : State) : Option Nat := if s.obj 0x2300 2 = 0xFF then none else some (s.obj 0x2300 2)

/-- Symbol rate of a lane in a port mode, µHz (Table 9.1); 0 with no mode. -/
def lineRate : Nat → Nat
  | 1 => 1250000000000000
  | 2 => 10312500000000000
  | 3 => 25781250000000000
  | 4 => 25781250000000000
  | 5 => 25781250000000000
  | _ => 0

/-- Nominal frequency in µHz: for a SyncE lane that of its line rate (R145). -/
def State.nominal (s : State) (r : Nat) : Nat :=
  if 16 ≤ r ∧ s.refSource r = 4 then lineRate (s.laneMode (s.refInstance r)) else s.obj (0x3100 + r) 4

/-! ### Estimates -/

/-- Sums over points (t ns, x ps): n, Σt, Σx, Σt², Σtx, Σx². -/
def fitSums (m : List (Nat × Int)) (t0 : Nat) : Int × Int × Int × Int × Int × Int :=
  m.foldl (fun (n, a, b, c, d, e) p =>
    let t : Int := (p.1 : Int) - t0
    (n + 1, a + t, b + p.2, c + t * t, d + t * p.2, e + p.2 * p.2)) (0, 0, 0, 0, 0, 0)

/-- The least-squares slope of the measurements held in 10⁻¹⁸, once four are held (R128). -/
def slopeOf (m : List (Nat × Int)) : Option Int :=
  if m.length < 4 then none
  else
    let (n, a, b, c, d, _) := fitSums m (m.headD (0, 0)).1
    let den := n * c - a * a
    if den ≤ 0 then none else some (roundDivI ((n * d - a * b) * 10 ^ 15) den.toNat)

/-- The RMS residual about the least-squares line in units of 2⁻¹⁶ ps, rounded up (R162, term 2). -/
def residual16 (m : List (Nat × Int)) : Nat :=
  if m.length < 3 then 0
  else
    let (n, a, b, c, d, e) := fitSums m (m.headD (0, 0)).1
    let den := n * c - a * a
    if den ≤ 0 then 0
    else
      let num := (n * e - b * b) * den - (n * d - a * b) * (n * d - a * b)
      sqrtUp (ceilDiv (num.toNat * 2 ^ 32) (n * n * den).toNat)

/-- Sum of squares of second differences at lag `m`, and their count (R129). -/
def diff2 (x : List Int) (m : Nat) : List Int :=
  List.zipWith (· + ·) (List.zipWith (fun a b => a - 2 * b) x (x.drop m)) (x.drop (2 * m))

/-- Sliding sums of `m` neighbours, from a list and the running window. -/
def windowSums (m : Nat) (l : List Int) : List Int :=
  let first := (l.take m).sum
  if l.length < m then []
  else (List.zipWith (fun a b => b - a) l (l.drop m)).foldl (fun acc d => acc ++ [acc.getLastD first + d]) [first]

/-- τ of a selector value (Table 5.2). -/
def tauOf (sel : Nat) : Nat := 10 ^ (Nat.min sel 4)

/-- Overlapping ADEV at τ in 10⁻¹⁸ from phase samples in ps; 0 until 3τ s of history exist (R129). -/
def adev (x : List Int) (tau : Nat) : Nat :=
  if x.length ≤ 3 * tau then 0
  else
    let d := diff2 x tau
    sqrtNearest ((d.foldl (fun a v => a + v * v) 0).toNat * 10 ^ 12) (2 * tau * tau * d.length)

/-- Overlapping TDEV at τ in fs (R129). -/
def tdev (x : List Int) (tau : Nat) : Nat :=
  if x.length ≤ 3 * tau then 0
  else
    let w := windowSums tau (diff2 x tau)
    sqrtNearest ((w.foldl (fun a v => a + v * v) 0).toNat * 10 ^ 6) (6 * tau * tau * w.length)

/-- Samples oldest first. -/
def State.adevAt (s : State) (r tau : Nat) : Nat := adev (s.loupe r).samples.reverse tau
def State.tdevAt (s : State) (r tau : Nat) : Nat := tdev (s.loupe r).samples.reverse tau

/-- The current *y* of a reference for its predictions (R130). -/
def State.currentY (s : State) (r : Nat) : Option Int :=
  if s.refKind r = 1 then
    match (s.loupe r).ys with
    | [] => none
    | e :: _ => some e.2
  else slopeOf (s.loupe r).meas

/-- Pad edges in one measured period of a kind 1 reference (R124). -/
def prescale (nominal : Nat) : Nat := ceilDiv nominal 5000000000000

/-- The phase-hit threshold in force, ps (R130). -/
def State.hitThreshold (s : State) (r : Nat) : Nat :=
  if s.refKind r = 1 then
    Nat.min (s.obj (0x3100 + r) 0x0B) (prescale (s.nominal r) * 10 ^ 18 / Nat.max 1 (s.nominal r) / 4)
  else s.obj (0x3100 + r) 0x0B

/-- The phase predicted for an instant from the previous measurement (R130). -/
def State.predicted (s : State) (r t : Nat) : Option Int :=
  match (s.loupe r).meas, s.currentY r with
  | p :: _, some y => some (p.2 + roundDivI (y * ((t : Int) - p.1)) (10 ^ 15))
  | _, _ => none

/-- Phase offset in INTEGER64 ps: the limit of its sign beyond ±(2⁶³ − 1) (R175). -/
def satPs (x : Int) : Int := clampI (-(2 ^ 63 - 1)) (2 ^ 63 - 1) x
/-- The whole-second companion; 0 while exact, else with a remainder in (−0.5 s, +0.5 s] (R175). -/
def wholeSeconds (x : Int) : Int :=
  if satPs x = x then 0 else -((-x + 500000000000) / 1000000000000)

/-! ### State changes (R131, R132) -/

/-- The unit that a reference needs is enabled (R6, R125, Table 5.4). -/
def State.refUnitOn (s : State) (r : Nat) : Bool := decide (s.refSource r ≠ 1) || decide (s.obj 0x2010 1 = 1)

/-- A loupe starts its phase anew (R127, kind 1): nothing measured before compares with what follows. -/
def Loupe.restart (l : Loupe) : Loupe :=
  { l with x := 0, origin := none, periods := 0, waiting := [], meas := [], samples := [], mark := none }

/-- Entry into Qualifying (R128): what is kept of the measurements and of the values of *y*. `keep`: the last loss was shorter than the
qualification period. -/
def Loupe.qualify (l : Loupe) (kind1 keep : Bool) (reel : Nat) : Loupe :=
  let a : Loupe := { l with qualStart := reel, meas := if keep then l.meas else [], ys := if l.state = 1 ∧ !keep then [] else l.ys }
  if kind1 then a.restart else a

/-- A reference enters a state: recorded, counted, EMCY 0xFF30 (R131). `.19` records exits from Qualified and Suspect. A reference whose
unit is off is disqualified instead, with reason 7 (R6). DESIGN CHOICE: the reason octet of EMCY 0xFF30 is the reason the caller gives:
the old .19 on entry to Suspect and Qualified, 0 on entry to Qualifying, since Table 5.4 gives these entries none (log 87). -/
def State.setRef (s : State) (r new0 reason0 : Nat) : State :=
  let l := s.loupe r
  let off := decide (1 ≤ new0 ∧ new0 ≤ 4) && !s.refUnitOn r
  let new := if off then 5 else new0
  let reason := if off then 7 else reason0
  if l.state = new ∧ (new ≠ 5 ∨ l.disq = reason) then s
  else
    let keep := decide (l.state = 1) && decide (s.clock.reel - l.lostAt < s.obj (0x3100 + r) 0x0D)
    let l1 : Loupe := { l with since := s.now, disq := if new = 5 ∨ new = 6 then reason else l.disq }
    let l2 : Loupe :=
      if new = 1 then { l1 with active := false, samples := [], stamp := none, waiting := [], lostAt := s.clock.reel }
      else if new = 2 then l1.qualify (decide (s.refKind r = 1)) keep s.clock.reel
      else if new = 4 then { l1 with holdEnd := s.now + s.obj (0x3100 + r) 0x0C * 1000000000 }
      else l1
    let s1 := s.setLoupe r { l2 with state := new }
    let out := decide (l.state = 3 ∨ l.state = 4) && decide (new = 1 ∨ new = 5 ∨ new = 6)
    let s2 := if out then s1.setObj (0x3100 + r) 0x19 reason else s1
    let s3 := if new = 1 ∧ l.state ≠ 0 then s2.bump (0x3100 + r) 0x16
              else if new = 5 then s2.bump (0x3100 + r) 0x17 else s2
    s3.report 0xFF 0x06 0xFFFF 0xFF30 0xFF (r * 2 ^ 24 + new * 2 ^ 16 + reason * 2 ^ 8)

/-- A reference leaves use: its DPLLs hold over in the same cycle (R133, R134). -/
def State.refLost (s : State) (r reason : Nat) : State :=
  let st := (s.loupe r).state
  if st = 0 then s
  else if st = 6 ∨ st = 1 then
    let l := s.loupe r
    s.setLoupe r { l with active := false, samples := [], stamp := none, waiting := [] }
  else (s.holdTrackers r).setRef r 1 reason

def State.disqualify (s : State) (r reason : Nat) : State :=
  let st := (s.loupe r).state
  if st = 2 ∨ st = 3 ∨ st = 4 then (s.holdTrackers r).setRef r 5 reason else s

/-- A reference is excluded; a second exclusion beside the one in force changes nothing (R132). -/
def State.exclude (s : State) (r reason : Nat) : State :=
  if (s.loupe r).state = 0 ∨ (s.loupe r).state = 6 then s else (s.holdTrackers r).setRef r 6 reason

/-- A usable reference: its DPLLs leave holdover (R184), and the Developer treats it as returning (R134, R169). -/
def State.requalify (s : State) (r : Nat) : State :=
  let s1 := s.setRef r 3 (s.obj (0x3100 + r) 0x19)
  let s2 := if s1.inForce = some r then s1.setSteer 0 { s1.steer 0 with returning := true } else s1
  (List.range 16).foldl (fun s d => if s.tracked d = some r then s.dpllResume d else s) s2

/-- Sixty seconds in cycles. -/
def minute : Nat := 60000000000

/-- A phase hit (R130, R131, R132). -/
def State.phaseHit (s : State) (r : Nat) : State :=
  let l := s.loupe r
  let hits := s.now :: l.hits.filter fun t => decide (s.now - t < minute)
  let s1 := ((s.setLoupe r { l with hits := hits }).bump (0x3100 + r) 0x15).restartDwell r
  if l.state = 2 ∨ l.state = 3 ∨ l.state = 4 then
    if 4 ≤ hits.length then s1.disqualify r 3
    else if l.state = 3 then (s1.holdTrackers r).setRef r 4 (s1.obj (0x3100 + r) 0x19)
    else if l.state = 4 then
      s1.setLoupe r { s1.loupe r with holdEnd := s1.now + s1.obj (0x3100 + r) 0x0C * 1000000000 }
    else s1.setLoupe r { s1.loupe r with qualStart := s1.clock.reel + 1 }
  else s1

/-- 0.4 s in ps (R127). -/
def labelLimit : Int := 400000000000

/-- A phase measurement of a reference, of an instant (cycle, and 2⁻³² ns), enters its loupe: window, then hit (Table 5.5). -/
def State.measuredAt (s : State) (r t : Nat) (at32 x : Int) : State :=
  let pred := s.predicted r t
  let l := s.loupe r
  let m := ((t, x) :: l.meas).take 16
  let s1 := s.setLoupe r { l with meas := m, x := x, xAt := at32, active := true, misses := 0 }
  let off := match slopeOf m with
    | none => false
    | some y => decide (s.obj (0x3100 + r) 0x0A < y.natAbs)
  if s.refKind r ≠ 1 ∧ off = true then
    if l.state = 2 ∨ l.state = 3 ∨ l.state = 4 then s1.disqualify r 2 else s1
  else
    match pred with
    | none => s1
    | some p => if s.hitThreshold r < (x - p).natAbs then s1.phaseHit r else s1

/-- A measurement taken now. -/
def State.measured (s : State) (r : Nat) (x : Int) : State := s.measuredAt r s.now (s.base32 0) x

/-- A kind 2 measurement: a reference that cannot be labelled is held in Disqualified with reason 6, from Lost on (R127). -/
def State.measuredPps (s : State) (r t : Nat) (at32 x : Int) : State :=
  if labelLimit ≤ x.natAbs ∨ !(s.steer 0).known then
    let l := s.loupe r
    let s1 := s.setLoupe r { l with x := x, xAt := at32, active := true }
    if 1 ≤ l.state ∧ l.state ≤ 4 then (s1.holdTrackers r).setRef r 5 6 else s1
  else s.measuredAt r t at32 x

/-- A kind 2 reference can be labelled (R127). -/
def State.labelled (s : State) (r : Nat) : Bool :=
  decide (s.refKind r ≠ 2) || (decide (((s.loupe r).x.natAbs : Int) < labelLimit) && (s.steer 0).known)

/-- The condition of a disqualification reason has ended (Table 5.4). -/
def State.reasonClear (s : State) (r : Nat) : Bool :=
  let l := s.loupe r
  let w := s.obj (0x3100 + r) 0x0A
  match l.disq with
  | 2 => match s.currentY r with | none => true | some y => decide (y.natAbs * 10 ≤ w * 8)
  | 3 => l.hits.all fun t => decide (minute ≤ s.now - t)
  | 4 => decide (s.adevAt r 100 * 10 < s.obj (0x3100 + r) 0x14 * 8)
  | 5 => !l.badQuality && decide (10000000000 ≤ s.now - l.goodSince)
  | 6 => s.labelled r
  | 7 => s.refUnitOn r
  | 0x0B => l.authFails.all fun t => decide (minute ≤ s.now - t)
  | _ => true

/-- A consistency check of its port excludes a GNSS reference (R229). -/
def State.gnssExcludes (s : State) (r : Nat) : Bool :=
  decide (16 ≤ r) && decide (s.refSource r = 1) && decide ((s.gnss.ports.look (fun _ => {}) (s.refInstance r)).excluded ≠ 0)

/-- An exclusion of a reference ends (R132): it enters Qualifying, unless the other exclusion, the host's or the GNSS checks', still
holds it. -/
def State.endExclusion (s : State) (r : Nat) : State :=
  if (s.loupe r).state ≠ 6 then s
  else if s.obj (0x3100 + r) 0x18 = 1 then s.setLoupe r { s.loupe r with disq := 8 }
  else if s.gnssExcludes r then s.setLoupe r { s.loupe r with disq := 9 }
  else s.setRef r 2 0

/-- The longest age, in cycles, of a measurement that leaves a reference's history uninterrupted at a reel boundary (R129): a reel and
half a second, or for an upstream instance its interval and half a second (log 88). -/
def State.freshness (s : State) (r : Nat) : Nat :=
  if 16 ≤ r ∧ (s.refSource r = 2 ∨ s.refSource r = 3) then 500000000 + 1000000000 * 2 ^ (s.objI (0x2320 + s.refInstance r) 5).toNat
  else 1500000000

/-- The frequency of a kind 1 reference over the reel (R128): the phase gained between the reel boundaries over the time between their
measurements, 10⁻¹⁸. -/
def Loupe.reelY (l : Loupe) : Option Int :=
  match l.mark with
  | none => none
  | some (t0, x0) => if l.xAt ≤ t0 then none else some (roundDivI ((l.x - x0) * (10 ^ 15 * 2 ^ 32)) (l.xAt - t0).toNat)

/-- The loupe's update at a reel boundary (R128, R129, R131): frequency, samples, the ADEV limit, then the states. -/
def State.loupeReel (s : State) (r : Nat) : State :=
  let l := s.loupe r
  if l.state = 0 then s
  else
    let fresh := match l.meas with | [] => false | p :: _ => decide (s.now - p.1 ≤ s.freshness r)
    let y := if !fresh then none else if s.refKind r = 1 then l.reelY else slopeOf l.meas
    let s1 := match y with
      | none => s
      | some v => (s.setLoupe r { l with ys := ((s.clock.reel, v) :: l.ys).take 10000 }).setObj (0x3100 + r) 0x0F v
    let k1 := s1.loupe r
    let s2 := s1.setLoupe r (if fresh then { k1 with samples := (l.x :: l.samples).take 30001, mark := some (l.xAt, l.x) }
      else { k1 with samples := [], mark := none })
    let lim := s2.obj (0x3100 + r) 0x14
    let s3 := if lim ≠ 0 ∧ lim < s2.adevAt r 100 then s2.disqualify r 4 else s2
    let k := s3.loupe r
    match k.state with
    | 1 => if k.active && !(decide (r < 16) && bit s3.intake.faults (24 + r)) then s3.setRef r 2 0 else s3
    | 5 => if s3.reasonClear r && s3.labelled r then s3.setRef r 2 0 else s3
    | 2 => if s3.obj (0x3100 + r) 0x0D ≤ s3.clock.reel - k.qualStart ∧ (s3.refKind r = 1 ∨ 4 ≤ k.meas.length) then s3.requalify r else s3
    | _ => s3

/-! ### Disagreement (R141 to R144) -/

/-- Values over the last `w` reels in which both lists have one, averaged. -/
def commonMean (w : Nat) (a b : List (Nat × Int)) : Option (Int × Nat) :=
  let c := (a.filter fun p => b.any fun q => decide (q.1 = p.1)).take w
  if c.isEmpty then none else some (roundDivI (c.map Prod.snd).sum c.length, c.length)

/-- The mean of the last `w` values. -/
def meanOf (w : Nat) (a : List (Nat × Int)) : Option Int :=
  let c := a.take w
  if c.isEmpty then none else some (roundDivI (c.map Prod.snd).sum c.length)

/-- The predicted frequency of the stable oscillator (R153): the ensemble's, advanced by the ageing. -/
def State.yPredAt (s : State) (t : Nat) : Int :=
  s.dev.yosc + roundDivI (s.objI 0x2401 4 * ((t : Int) - s.dev.yoscAt)) (86400 * 10 ^ 9)
/-- The prediction now. -/
def State.yPred (s : State) : Int := s.yPredAt s.now

/-- σ_y(τ) of the model in 10⁻¹⁸ (R157). -/
def State.sigmaY (s : State) (tau : Nat) : Nat :=
  sqrtUp (ceilDiv (s.obj 0x2401 7 * s.obj 0x2401 7) (Nat.max 1 tau) + s.obj 0x2401 8 * s.obj 0x2401 8
    + s.obj 0x2401 9 * s.obj 0x2401 9 * tau)

/-- The holdover standard may arbitrate (R142). -/
def State.standardArbitrates (s : State) : Bool :=
  let w := s.obj 0x2300 5
  decide (s.obj 0x2300 9 = 1)
    && decide (2 * (s.obj 0x2401 3 + s.obj 0x2401 6 + s.obj 0x2401 5 * w / 172800 + s.sigmaY w) ≤ s.obj 0x2300 4)

/-- The standard's mean against time base 0, in the sense of the loupes. -/
def State.standardMean (s : State) : Int := -(s.yPred + s.dev.yc)

/-- Two means agree (R142). -/
def State.agree (s : State) (a b : Int) : Bool := decide ((a - b).natAbs ≤ s.obj 0x2300 4)

/-- Arbiter `k` (32 the standard) agrees with reference `r`. -/
def State.arbiterAgrees (s : State) (k r : Nat) : Bool :=
  let w := s.obj 0x2300 5
  if k = 32 then match meanOf w (s.loupe r).ys with | none => false | some m => s.agree s.standardMean m
  else match commonMean w (s.loupe k).ys (s.loupe r).ys, commonMean w (s.loupe r).ys (s.loupe k).ys with
    | some p, some q => s.agree p.1 q.1
    | _, _ => false

/-- The arbiters outside a pair. -/
def State.arbiters (s : State) (a b : Nat) : List Nat :=
  (refNumbers.filter fun k => s.qualified k && decide (k ≠ a ∧ k ≠ b)) ++ (if s.standardArbitrates then [32] else [])

/-- A member is upheld against its partner (R142). -/
def State.upheld (s : State) (m partner : Nat) : Bool :=
  (s.arbiters m partner).any fun k => s.arbiterAgrees k m && !s.arbiterAgrees k partner

/-- 0x2300.06 follows the flags. -/
def State.setFlags (s : State) (f : List Flag) : State :=
  ({ s with refs := { s.refs with flags := f } }).setObj 0x2300 6 (maskOf (f.map Flag.a ++ f.map Flag.b) : Nat)

def State.clearFlag (s : State) (f : Flag) : State :=
  (s.setFlags (s.refs.flags.filter (· ≠ f))).report 0xFF 0x06 0xFFFF 0xFF33 0xFF (f.a * 2 ^ 24 + f.b * 2 ^ 16)

/-- Δ of a pair and the reels behind it (R141). -/
def State.pairDelta (s : State) (a b : Nat) : Option (Nat × Nat) :=
  match commonMean (s.obj 0x2300 5) (s.loupe a).ys (s.loupe b).ys, commonMean (s.obj 0x2300 5) (s.loupe b).ys (s.loupe a).ys with
  | some p, some q => some ((p.1 - q.1).natAbs, p.2)
  | _, _ => none

/-- The test of one pair at a reel boundary (R141). A tested pair ends a challenge between its members (R143). -/
def State.testPair (s : State) (a b : Nat) : State :=
  if !(s.qualified a && s.qualified b && decide (s.rank a = s.rank b) && decide (s.rank a ≠ 0)) then s
  else match s.pairDelta a b with
  | none => s
  | some (d, n) =>
    if n < Nat.min (s.obj 0x2300 5) (Nat.min (s.obj (0x3100 + a) 0x0D) (s.obj (0x3100 + b) 0x0D)) then s
    else
      let s1 := { s with refs := { s.refs with challenges := s.refs.challenges.filter fun c =>
        !(decide (c.ref = a ∧ c.partner = b) || decide (c.ref = b ∧ c.partner = a)) } }
      match s1.refs.flags.find? fun f => decide (f.a = a ∧ f.b = b) with
      | some f => if s.obj 0x2300 4 < d then s1.setFlags (s1.refs.flags.map fun g => if g = f then { f with delta := d } else g)
                  else s1.clearFlag f
      | none =>
        if s.obj 0x2300 4 < d then
          let t := (s1.setFlags (s1.refs.flags ++ [⟨a, b, d, s.now⟩])).bump 0x2300 8
          t.report 0xFF 0x06 0xFFFF 0xFF32 0xFF (a * 2 ^ 24 + b * 2 ^ 16 + Nat.min (d / 10000) 0xFFFF)
        else s1

/-- Every pair, once per reel. -/
def State.testPairs (s : State) : State :=
  refNumbers.foldl (fun s a => refNumbers.foldl (fun s b => if a < b then s.testPair a b else s) s) s

/-- References that are challenged. -/
def State.challenged (s : State) (r : Nat) : Bool := s.refs.challenges.any fun c => decide (c.ref = r)

/-- Challenges and flags at an exposure boundary (R141, R143): a challenge is set from a pair whose member in force has
left Qualified, then flags of members that left clear. -/
def State.challengeStep (s : State) : State :=
  let lost := s.refs.flags.filter fun f => !(s.qualified f.a && s.qualified f.b)
  lost.foldl (fun s f =>
    let gone := if s.inForce = some f.a ∧ !s.qualified f.a then some (f.a, f.b)
                else if s.inForce = some f.b ∧ !s.qualified f.b then some (f.b, f.a) else none
    let s1 := match gone with
      | none => s
      | some (g, p) =>
        let c : Challenge := ⟨p, g, (meanOf (s.obj 0x2300 5) (s.loupe g).ys).getD 0, f.delta, f.raised⟩
        { s with refs := { s.refs with challenges := s.refs.challenges.filter (fun (k : Challenge) => decide (k.ref ≠ p)) ++ [c] } }
    s1.clearFlag f) s

/-- A challenge ends when an arbiter takes the side of the challenged reference (R143). -/
def State.challengeEnds (s : State) (c : Challenge) : Bool :=
  (s.arbiters c.ref c.partner).any fun k =>
    s.arbiterAgrees k c.ref &&
      !(if k = 32 then s.agree s.standardMean c.mean
        else match meanOf (s.obj 0x2300 5) (s.loupe k).ys with | none => false | some m => s.agree m c.mean)

def State.dropChallenges (s : State) : State :=
  { s with refs := { s.refs with challenges := s.refs.challenges.filter fun c => !s.challengeEnds c } }

/-! ### The selector (R136 to R140) -/

/-- Eligible references among the Qualified ones of a rank. -/
def State.eligible (s : State) (t : List Nat) : List Nat :=
  t.filter fun m => !s.challenged m &&
    s.refs.flags.all fun f =>
      if f.a = m ∧ t.contains f.b then s.upheld m f.b
      else if f.b = m ∧ t.contains f.a then s.upheld m f.a else true

/-- The fall-back procedure: the reference, or none and whether an arbiter is awaited (R136). -/
def State.fallBack (s : State) : Option Nat × Bool :=
  let q := refNumbers.filter fun r => s.qualified r && decide (s.rank r ≠ 0)
  match q with
  | [] => (none, false)
  | _ =>
    let best := q.foldl (fun m r => Nat.min m (s.rank r)) 255
    let t := q.filter fun r => decide (s.rank r = best)
    match s.eligible t with
    | [] => (none, true)
    | r :: _ => (some r, false)

/-- The lowest challenged or flagged reference (EMCY 0xFF34). -/
def State.lowestDisputed (s : State) : Nat :=
  ((s.refs.challenges.map Challenge.ref) ++ s.refs.flags.map Flag.a ++ s.refs.flags.map Flag.b).foldl Nat.min 255

/-- The reference in force becomes `c` with selector state `st` (R136). -/
def State.select (s : State) (c : Option Nat) (st : Nat) : State :=
  let new := c.getD 0xFF
  let old := s.obj 0x2300 2
  let s1 := s.setObj 0x2300 3 st
  if new = old then s1
  else
    let s2 := (s1.setObj 0x2300 2 new).bump 0x2300 7
    let s3 := s2.report 0xFF 0x06 0xFFFF 0xFF31 0xFF (old * 2 ^ 24 + new * 2 ^ 16 + st * 2 ^ 8)
    let s4 := if c.isSome then s3.setSteer 0 { s3.steer 0 with returning := true } else s3
    (List.range 16).foldl (fun s d =>
      if !(s.dpll d).running ∨ s.obj (0x3200 + d) 2 ≠ 1 then s
      else if c.isNone then s.dpllHold d
      else if (s.dpll d).holdover then s.dpllResume d
      else s.setDpll d { s.dpll d with rebuild := true }) s4

/-- The selector at cycle 0 of an exposure (R136 to R140, R143). -/
def State.selector (s0 : State) : State :=
  let s := (s0.challengeStep).dropChallenges
  let m := s.obj 0x2300 1
  if s.refs.armed ∧ m ≤ 31 ∧ s.qualified m then
    ({ s with refs := { s.refs with armed := false, sentAwait := false } }).select (some m) 0
  else
    let keep := match s.inForce with
      | none => false
      | some c => decide ((s.loupe c).state = 3 ∨ (s.loupe c).state = 4) && decide (s.rank c ≠ 0)
    if keep then s
    else match s.fallBack with
      | (some r, _) => ({ s with refs := { s.refs with sentAwait := false } }).select (some r) 1
      | (none, false) => ({ s with refs := { s.refs with sentAwait := false } }).select none 2
      | (none, true) =>
        let s1 := s.select none 3
        if s1.refs.sentAwait then s1
        else
          let r := s1.lowestDisputed
          ({ s1 with refs := { s1.refs with sentAwait := true } }).emcy 0xFF34 0xFF (r * 2 ^ 24 + s1.rank r * 2 ^ 16)

/-- Host exclusions and pending enables act at an exposure boundary (R125, R132). -/
def State.refExposure (s : State) (r : Nat) : State :=
  let l := s.loupe r
  let s1 := match l.pendEnable with
    | none => s
    | some true =>
      let t := (s.takeEffect (okey 0 0 (0x3100 + r) 1) 1).setLoupe r {}
      if t.obj (0x3100 + r) 0x18 = 1 then t.setRef r 6 8 else t.setRef r 1 0
    | some false =>
      let t := s.takeEffect (okey 0 0 (0x3100 + r) 1) 0
      if l.state = 0 then t.setLoupe r {} else ((t.holdTrackers r).setRef r 0 0).setLoupe r {}
  let k := s1.loupe r
  if k.state ≠ 0 ∧ k.state ≠ 6 ∧ s1.obj (0x3100 + r) 0x18 = 1 then s1.exclude r 8
  else if k.state ≠ 0 ∧ k.state ≠ 6 ∧ s1.gnssExcludes r = true then s1.exclude r 9
  else if k.state = 6 ∧ s1.obj (0x3100 + r) 0x18 = 0 then s1.endExclusion r
  else s1

end Sys2Proof.Machine
end

