-- ==== Sys2Proof/Machine/DevOps.lean ====
section
/-! DEFINITION. The Developer: bound terms and tables, steering, holdover and returns, the ensemble, the ageing history and
registration (R149 to R177). Bound terms count 2⁻¹⁶ ps and are rounded up (log 14). -/

namespace Sys2Proof.Machine

/-- 2⁻¹⁶ ps in a ps. -/
def psUnit : Nat := 65536

/-- *B*_i/√3, rounded up. -/
def overRoot3 (b : Nat) : Nat := sqrtUp (ceilDiv (b * b) 3)

/-! ### Path terms -/

/-- Term 5 of a lane in ps (Table 6.4, Table 9.2). -/
def State.laneTerm5 (s : State) (n : Nat) : Nat :=
  let hold := (s.port n).holdSince.isSome
  match s.laneMode n with
  | 1 => if hold then 4000 else 200
  | 2 => if hold then 3200 else 80
  | 3 => if hold then 1300 else 60
  | 4 => if hold then 5200 else 80
  | 5 => if hold then 5200 else 70
  | _ => 0

/-- The sensors of a path's region (Table 15.7), those of the plate that drives it (R361): its side's plate for a lane while that
runs, else the active plate. -/
def State.pathSensors (s : State) (path : Nat) : List Nat :=
  let a := s.twin.active
  if path ≤ 0x17 then [9 + 10 * (if s.running.contains (path / 12) then path / 12 else a), 20 + path / 12]
  else if 0x20 ≤ path ∧ path ≤ 0x2B then
    ((if path ≤ 0x25 then 6 else 7) + 10 * a) :: (if s.obj (0x3220 + (path - 0x20)) 4 = 0 then [] else [23])
  else if 0x30 ≤ path ∧ path ≤ 0x37 then [8 + 10 * a]
  else if path = 0x40 then [22] else []

/-- A temperature sensor of a path's region is faulted: the term widens by 50 ps (R163). -/
def State.regionFaulted (s : State) (path : Nat) : Bool := (s.pathSensors path).any fun n => bit s.faults.faultedSensors n

/-- Term 5 of a path in ps (Table 6.4). Paths as in 0x2405.02. -/
def State.term5 (s : State) (path : Nat) : Nat :=
  let base :=
    if path ≤ 0x17 then s.laneTerm5 path
    else if 0x20 ≤ path ∧ path ≤ 0x2B then (if s.obj (0x3220 + (path - 0x20)) 4 = 0 then 20 else 70)
    else if 0x30 ≤ path ∧ path ≤ 0x37 then 30
    else if path = 0x40 then 10 else 0
  let lost := if 0x20 ≤ path ∧ path ≤ 0x2B ∧ (s.channel (path - 0x20)).lost then
      (s.objKey (okey s.twin.active 0 (0x3220 + (path - 0x20)) 0x0A)).natAbs else 0
  base + lost + (if s.regionFaulted path then 50 else 0)

/-- Term 6 of a lane in units of 2⁻¹⁶ ps (Table 6.3). -/
def State.term6 (s : State) (n : Nat) : Nat :=
  if (s.port n).reels < 2 then 210 * psUnit else ceilDiv (s.obj (0x3400 + n) 0x1F * psUnit) 1000 + 10 * psUnit

/-- The paths of 0x2405.02 that have a term 5. -/
def boundPaths : List Nat :=
  List.range 24 ++ (List.range 12).map (· + 0x20) ++ (List.range 8).map (· + 0x30) ++ [0x40]

/-- Term 5 of a path as served, ps: the table's (R165), and in a calibration hold at least the value of Table 9.2 from the start of the
hold (R248). -/
def State.path5 (s : State) (path : Nat) : Nat :=
  match s.dev.table with
  | none => s.term5 path
  | some t =>
    let v := t.paths.look (fun p => s.term5 p) path
    if path ≤ 0x17 ∧ (s.port path).holdSince.isSome then Nat.max v (s.laneTerm5 path) else v

/-- Term 6 of a lane as served, 2⁻¹⁶ ps: the table's (R165). -/
def State.path6 (s : State) (n : Nat) : Nat :=
  match s.dev.table with
  | none => s.term6 n
  | some t => t.ports.look (fun n => s.term6 n) n

/-! ### What an update reads (R149) -/

/-- Cycle 0 of an exposure: what its update will read. -/
def State.see (s : State) : State :=
  { s with dev := { s.dev with seen := some ⟨s.refs, s.faults.faultedSensors,
      (List.range 24).foldl (fun t n => t.put (fun _ => 0) n (s.term6 n)) []⟩ } }

/-- The state with the loupes, the reference states and the sensors as at cycle 0 of this exposure. -/
def State.atCycle0 (s : State) : State :=
  match s.dev.seen with
  | none => s
  | some v => { s with refs := v.refs, faults := { s.faults with faultedSensors := v.sensors } }

/-- Term 6 of a lane as measured before cycle 0 of this exposure. -/
def State.seen6 (s : State) (n : Nat) : Nat :=
  match s.dev.seen with
  | none => s.term6 n
  | some v => v.ports.look (fun n => s.term6 n) n

/-! ### Holdover growth (R157) -/

/-- The deterministic part of *H* over `t` ns in 2⁻¹⁶ ps. -/
def growthDet (dy da t : Nat) : Nat :=
  ceilDiv ((2 * 86400 * 10 ^ 9 * dy * t + da * t * t) * psUnit) (2 * 86400 * 10 ^ 24)

/-- The noise part of *H* over `t` ns in 2⁻¹⁶ ps, for the coverage factor `k` in tenths. -/
def growthNoise (k hw hf hrw t : Nat) : Nat :=
  ceilDiv (k * sqrtUp ((hw * hw * t * 10 ^ 18 + hf * hf * t * t * 10 ^ 9 + hrw * hrw * t * t * t) * 10) * psUnit) (10 * 10 ^ 20)

/-- Model parameters in force: δy₀ + δy_T, δa; a kind 1 reference in force replaces them for time base 0 (R162, term 4). -/
def State.modelDy (s : State) (n : Nat) : Nat × Nat :=
  let model := (s.obj 0x2401 3 + s.obj 0x2401 6, s.obj 0x2401 5)
  if n ≠ 0 then model
  else match s.inForce with
    | some r => if s.refKind r = 1 then (ceilDiv (s.obj (0x3100 + r) 6 * 1000000) 86400, 0) else model
    | none => model

def State.growDet (s : State) (n t : Nat) : Nat := growthDet (s.modelDy n).1 (s.modelDy n).2 t
def State.growNoise (s : State) (t : Nat) : Nat :=
  growthNoise (s.obj 0x2401 0x0A) (s.obj 0x2401 7) (s.obj 0x2401 8) (s.obj 0x2401 9) t

/-! ### Terms of a time base (R162) -/

/-- The declared bound and uncertainty of a reference, ps (R126). -/
def State.declared (s : State) (r : Nat) : Nat × Nat :=
  let l := s.loupe r
  let u := s.obj (0x3100 + r) 7
  (s.obj (0x3100 + r) 6 + l.srcBound, if l.srcUnc = 0 then u else sqrtUp (u * u + l.srcUnc * l.srcUnc))

/-- The part *a* of term 2, ps. -/
def State.loupePart (s : State) (r : Nat) : Nat :=
  if r < 16 then 10 else match s.refSource r with
    | 2 => 2 * s.laneTerm5 (s.loupe r).lane
    | 3 => 2 * s.laneTerm5 (s.loupe r).lane
    | _ => 0

/-- Terms 1 and 2 of a root reference: bounds and uncertainties. -/
def State.rootTerms (s : State) (r : Nat) : (Nat × Nat) × (Nat × Nat) :=
  let (db, du) := s.declared r
  let a := s.loupePart r * psUnit
  let q := residual16 (s.loupe r).meas
  ((db * psUnit, a + 3 * q), (du * psUnit, sqrtUp (ceilDiv (a * a) 3 + q * q)))

/-- Term 3 of a time base now: the largest Δ × (*W* + *t*_f) of the pairs that touch its root; for time base 0 of those that touch the
reference in force, of any kind, or stand behind a hold (R143, R144). -/
def State.disagreement (s : State) (n root : Nat) : Nat :=
  let of (d raised : Nat) : Nat :=
    ceilDiv (d * (s.obj 0x2300 5 * 10 ^ 9 + (s.now - raised)) * psUnit) (10 ^ 15)
  let held := decide (n = 0) && decide (s.obj 0x2300 3 = 3)
  let mine (r : Nat) : Bool := if n = 0 then decide (s.inForce = some r) else decide (root = r)
  let fl := s.refs.flags.filter fun f => mine f.a || mine f.b || held
  let ch := if held then s.refs.challenges else []
  ((fl.map fun f => of f.delta f.raised) ++ ch.map fun c => of c.delta c.raised).foldl Nat.max 0

/-- Rounds a sum of terms up to whole ps; an unknown bound saturates (R164). -/
def boundOf (known : Bool) (terms : List Nat) : Nat :=
  if known then Nat.min (ceilDiv terms.sum psUnit) 0xFFFFFFFFFFFF else 0xFFFFFFFFFFFF
/-- *u*: the root sum of squares, rounded up (R162, R164). -/
def uncOf (known : Bool) (us : List Nat) : Nat :=
  if known then Nat.min (ceilDiv (sqrtUp (us.map fun v => v * v).sum) psUnit) 0xFFFFFFFF else 0xFFFFFFFF
/-- The dominant term: the largest, ties to the lower code (R164). -/
def dominantOf (terms : List Nat) : Nat :=
  (terms.foldl (fun (acc : Nat × Nat × Nat) b => if acc.2.1 < b then (acc.1 + 1, b, acc.1) else (acc.1 + 1, acc.2.1, acc.2.2))
    (1, 0, 1)).2.2

/-- The set that a time base's bound is taken from: a base that follows time base 0 takes its set, a free base has none. -/
def State.setOf (s : State) (n : Nat) : Option Nat :=
  if n = 0 then some 0
  else if !(s.base n).steered then none
  else if s.obj 0x2404 n = 0 then some 0 else some n

/-- The table in force, with the widening of R166 for a missed update. -/
def State.tableSet (s : State) (n : Nat) : BoundSet :=
  match s.setOf n, s.dev.table with
  | some k, some t =>
    let b := t.sets.look (fun _ => {}) k
    let late := if t.endAt < s.now then ceilDiv ((s.now - t.endAt) * psUnit) 100 else 0
    { b with b := b.b.set 3 (b.b.getD 3 0 + late) }
  | _, _ => {}

/-- Terms 1 to 6 of a path on a time base, and their uncertainties. -/
def State.pathTerms (s : State) (n path : Nat) : List Nat × List Nat :=
  let b := s.tableSet n
  if path = 0xFF then (b.b, b.u)
  else
    let t5 := s.path5 path * psUnit
    let t6 := if path ≤ 0x17 then s.path6 path else 0
    (b.b ++ [t5, t6], b.u ++ [overRoot3 t5, overRoot3 t6])

/-- A bound fetch (R165): *B*, *u*, the dominant term, the flags. -/
structure Fetched where
  b : Nat
  u : Nat
  dominant : Nat
  holdover : Bool
  unregistered : Bool
  record : Nat
  seconds : Nat
deriving DecidableEq, Repr

/-- Seconds since the last traceable comparison, saturating (R167). -/
def State.sinceCompared (s : State) (c : Option Nat) : Nat :=
  match c with
  | none => 0xFFFFFFFF
  | some t => Nat.min ((s.now - t) / 1000000000) 0xFFFFFFFF

/-- The bound of a path on a time base, with further terms given by the caller (R165). -/
def State.fetch (s : State) (n path : Nat) (more moreU : List Nat) : Fetched :=
  let b := s.tableSet n
  let (ts, us) := s.pathTerms n path
  ⟨boundOf b.known (ts ++ more), uncOf b.known (us ++ moreU), dominantOf (ts ++ more), b.holdover, b.unregistered, b.record,
    s.sinceCompared b.compared⟩

/-- Whether the bound of a time base is known (R164). -/
def State.boundKnown (s : State) (n : Nat) : Bool := decide ((s.fetch n 0xFF [] []).b ≠ 0xFFFFFFFFFFFF)

/-! ### Status (R168 to R170) -/

/-- Reference status 0x2400.01. -/
def Steer.refStatus (x : Steer) : Nat := if !x.known then 2 else if x.holding then 1 else 0

/-- A change of reference or registration status of time base 0 is reported (EMCY 0xFF38). -/
def State.putSteer0 (s : State) (x : Steer) : State :=
  let o := s.steer 0
  let s1 := s.setSteer 0 x
  if o.refStatus = x.refStatus ∧ o.reg = x.reg then s1
  else s1.report s.twin.active 0x06 0xFFFF 0xFF38 s.twin.active
    (o.refStatus * 2 ^ 24 + x.refStatus * 2 ^ 16 + o.reg * 2 ^ 8 + x.reg)

/-- The root of a time base now: the reference in force of kind 2 or 3 for time base 0, the source for another. -/
def State.rootNow (s : State) (n : Nat) : Option Nat :=
  if n = 0 then match s.inForce with
    | some r => if s.refKind r ≠ 1 ∧ (s.loupe r).state = 3 then some r else none
    | none => none
  else
    let src := s.obj 0x2404 n
    if src = 0 then none else if (s.loupe (src - 1)).state = 3 then some (src - 1) else none

/-- Term 4's holdover value in the table in force, ps rounded up (R170). -/
def State.heldTerm4 (s : State) : Nat := ceilDiv ((s.tableSet 0).b.getD 3 0) psUnit

/-- The registration status after the first measurement of a return (R169). A step already latched runs on (DESIGN CHOICE, log 92); one
only scheduled is given up. -/
def State.returnedReg (s : State) (n : Nat) (xm : Int) (x : Steer) : Nat :=
  if n = 0 ∧ x.reg = 3 ∧ s.dev.latch.isSome then 3 else if (xm.natAbs : Int) ≤ s.objI 0x2402 1 then 0 else 1

/-- The first measurement after a return (R169, R170) for time base `n`: `xm` is −x. An exceedance enters the contact sheet twice, with
|*x*_m| and with the holdover term, both in ns. -/
def State.returned (s0 : State) (n : Nat) (xm : Int) (x : Steer) : State × Steer :=
  let reg := s0.returnedReg n xm x
  let y := { x with returning := false, gated := false, reg := reg, pendStep := x.pendStep && decide (reg = 3) }
  let s : State := if n = 0 ∧ x.reg = 3 ∧ reg ≠ 3 then { s0 with dev := { s0.dev with target := none } } else s0
  if n = 0 ∧ x.known ∧ s.boundKnown 0 ∧ s.heldTerm4 < xm.natAbs then
    let ns (v : Nat) : Nat := Nat.min (v / 1000) 0xFFFFFFFF
    let s1 := s.bump 0x2400 8
    let s2 := (s1.report s.twin.active 0x06 0xFFFF 0xFF39 s.twin.active (ns xm.natAbs)).record s.twin.active 0x06 0xFFFF 0xFF39 (ns s.heldTerm4)
    let t := Nat.max 1 (s.now - x.holdSince)
    let dy := ceilDiv (2 * xm.natAbs * 10 ^ 15) t
    (if s2.obj 0x2401 2 = 0 ∧ s2.obj 0x2401 3 < dy then s2.setObj 0x2401 3 dy else s2, y)
  else (s, y)

/-! ### The fast-term update (R149, R153 to R156, R168) -/

/-- A new measurement of a root since the last one used. -/
def State.newMeasurement (s : State) (r : Nat) (used : Option Nat) : Option (Nat × Int) :=
  match (s.loupe r).meas with
  | [] => none
  | p :: _ => match used with
    | none => some p
    | some t => if t < p.1 then some p else none

/-- The phase accumulated at the steering rate up to an instant, 10⁻¹⁵ ps. -/
def Steer.accAt (x : Steer) (t : Nat) : Int :=
  match x.past.find? fun e => decide (e.1 ≤ t) with
  | some e => e.2.1 + e.2.2 * ((t : Int) - e.1)
  | none => (x.past.getLastD (0, 0, 0)).2.1

/-- The entries from an instant on, and the one in force at it. -/
def sinceInstant (t : Nat) : List (Nat × Int × Int) → List (Nat × Int × Int)
  | [] => []
  | e :: r => if e.1 ≤ t then [e] else e :: sinceInstant t r

/-- A steering rate acts from `now` on. -/
def Steer.setPhase (x : Steer) (now : Nat) (rate : Int) : Steer :=
  if (x.past.headD (0, 0, 0)).2.2 = rate then x
  else { x with past := (now, x.accAt now, rate) :: sinceInstant (now - 2000000000) x.past }

/-- The phase term (R153, R174): proportional while registered, the slew rate while slewing, else 0. -/
def State.phaseTerm (s : State) (x : Steer) : Int :=
  if x.holding then 0
  else if x.reg = 0 then
    clampI (-(s.objI 0x2402 2)) (s.objI 0x2402 2) (roundDivI (x.xhat * 1000000) (Nat.max 1 (s.obj 0x2402 3)))
  else if x.reg = 2 then (if x.xhat < 0 then -(s.objI 0x2402 5) else if 0 < x.xhat then s.objI 0x2402 5 else 0)
  else 0

/-- A frequency limited in its change from the one in force (R154), and in range. -/
def State.limitFreq (s : State) (old new : Int) : Int :=
  let d := s.objI 0x2402 4 / 1000
  clampI (old - d) (old + d) new

/-- The largest steering word (R154): 1 × 10⁻⁵. -/
def steerRange : Int := 10000000000000

/-- How far a time base leads time base 0, ps: loupes measure against time base 0 (R127, R156). -/
def State.baseLead (s : State) (n : Nat) : Int :=
  roundDivI ((((s.base n).value : Int) - (s.base 0).value) * 1000) (2 ^ 60)

/-- The offset now (R153): as last measured, corrected by the phase accumulated at the steering rate since. A time base n ≥ 1 accumulates
it as its own lead and as the reference's frequency against time base 0. -/
def State.offsetNow (s : State) (n : Nat) (x : Steer) : Int :=
  if n = 0 then x.xref - roundDivI (x.accAt s.now - x.accRef) (10 ^ 15)
  else x.xref + s.baseLead n - roundDivI (s.objI (0x3100 + x.root) 0x0F * (s.now - x.used.getD s.now : Nat)) (10 ^ 15)

/-- Term 3 (R162): the greater of the disagreement and of a value held for *W* after its flag has cleared; in holdover the frozen value,
and what a hold under R143 adds to it (R144; log 92). `v` is the state that the update reads. -/
def Steer.withTerm3 (x : Steer) (v : State) (n : Nat) : Steer × Nat :=
  let d := v.disagreement n x.root
  if x.holding then (x, Nat.max (x.b.getD 2 0) d)
  else
    let held := if v.now < x.term3Until then x.term3 else 0
    if held ≤ d ∧ 0 < d then
      ({ x with term3 := d, term3Until := (v.clock.exposures + 1) * 1000000 + 16384 + v.obj 0x2300 5 * 1000000000 }, d)
    else (x, held)

/-- A slow slew ends within the step threshold (R174). -/
def Steer.endSlew (x : Steer) (limit : Int) : Steer := if x.reg = 2 ∧ (x.xhat.natAbs : Int) ≤ limit then { x with reg := 0 } else x

/-- What a registration gate did to a time base steered to a reference (R173). -/
def Steer.afterGate (x : Steer) (xm limit : Int) : Steer :=
  if x.gated then { x with gated := false, reg := if x.reg = 0 ∧ limit < xm.natAbs then 1 else x.reg } else x

/-- Measurement, return, holdover and slewing of one time base; answers its new steering state. -/
def State.updateSteer (s : State) (n : Nat) : State × Steer :=
  let x := s.steer n
  let v := s.atCycle0
  let limit := s.objI 0x2402 1
  match v.rootNow n with
  | none =>
    if x.holding then (s, x)
    else (if n = 0 then s.bump 0x2400 7 else s,
      { x with holding := true, returning := true, holdSince := x.compared.getD s.now, xhat := x.xcmp })
  | some r =>
    match v.newMeasurement r (if x.root = r then x.used else none) with
    | none => (s, if x.holding then x else ({ x with xhat := s.offsetNow n x } : Steer).endSlew limit)
    | some (t, p) =>
      let x1 : Steer := { x with xref := -p, accRef := x.accAt t, used := some t, root := r }
      let xm := s.offsetNow n x1
      let q := if x.returning ∨ x.root ≠ r ∨ !x.known then s.returned n xm x1 else (s, x1.afterGate xm limit)
      let terms := v.rootTerms r
      let z := Steer.withTerm3 { q.2 with xhat := xm, xcmp := xm, known := true, holding := false, compared := some t, returning := false,
                                          carried := 0, noise := residual16 (v.loupe r).meas } v n
      (q.1, ({ z.1 with b := [terms.1.1, terms.1.2, z.2], u := [terms.2.1, terms.2.2, overRoot3 z.2] } : Steer).endSlew limit)

/-- Terms of a time base for a table that is valid to `endAt` (R162, R165): terms 1 and 2 as they are now, or in holdover as they were at
the last traceable comparison. `v` is the state that the update reads. -/
def State.formSet (v : State) (n : Nat) (x : Steer) (endAt : Nat) : BoundSet :=
  let t := endAt - x.compared.getD x.holdSince
  let d := v.growDet n t
  let w := v.growNoise t
  let b4 := x.xhat.natAbs * psUnit + x.carried + d + w
  let det := d + x.carried
  let k := Nat.max 1 (v.obj 0x2401 0x0A)
  let sres := if x.holding then x.noise else residual16 (v.loupe x.root).meas
  let u4 := sqrtUp (ceilDiv (sres * sres) 16 + ceilDiv (det * det) 3 + (ceilDiv (w * 10) k) * (ceilDiv (w * 10) k))
  let ((b1, b2), (u1, u2)) := if x.holding then ((x.b.getD 0 0, x.b.getD 1 0), (x.u.getD 0 0, x.u.getD 1 0)) else v.rootTerms x.root
  let t3 := (x.withTerm3 v n).2
  { b := [b1, b2, t3, b4], u := [u1, u2, overRoot3 t3, u4], known := x.known,
    holdover := x.holding, unregistered := decide (x.reg ≠ 0),
    record := if x.root = 0xFF then 0xFF else v.obj (0x3100 + x.root) 8, compared := x.compared }

/-- The exposure's slot 256, from which the table of its update is in force (R165). -/
def tableSlot : Nat := 16384

/-- What the plates compare of the Developer's results (Table 14.3, point 0x07): terms 1 to 4, *y*_c, steered words, reference in force. -/
def State.resultOctets (s : State) (t : BoundTable) : Octets :=
  (t.sets.flatMap fun e => beOctets 1 e.1 ++ e.2.b.flatMap (beOctets 16)) ++ beOctets 8 (unsigned 64 (s.dev.pendYc.getD s.dev.yc))
    ++ (((List.range 31).map (· + 1)).filter fun n => (s.base n).steered).flatMap (fun n =>
        beOctets 1 n ++ beOctets 8 (unsigned 64 ((s.steer n).pendFreq.getD (s.steer n).freq)))
    ++ beOctets 1 (s.inForce.getD 0xFF)

/-- The computed table comes into force at slot 256 (R165). -/
def State.adoptTable (s : State) : State :=
  match s.dev.tableNext with
  | none => s
  | some t => ({ s with dev := { s.dev with table := some t, tableNext := none } } : State).compared 7 0 (s.resultOctets t)

/-- The steered time bases (R156). -/
def State.steeredBases (s : State) : List Nat :=
  ((List.range 31).map (· + 1)).filter fun n => (s.base n).steered

/-- The update of one steered time base (R156): source 0 holds its frequency offset at 0. -/
def State.updateSteered (s : State) (n : Nat) : State :=
  if s.obj 0x2404 n = 0 then s.setSteer n { s.steer n with pendFreq := some 0 }
  else
    let (s1, x) := s.updateSteer n
    let p := s1.phaseTerm x
    let ref := if x.holding then -s1.dev.yc - s1.yPred else s1.objI (0x3100 + (s1.obj 0x2404 n - 1)) 0x0F
    s1.setSteer n { x with pendFreq := some (clampI (-steerRange) steerRange (s1.limitFreq x.freq (ref - p))) }

/-- The prediction of the stable oscillator's frequency: a Qualified kind 1 reference in force gives it in holdover (R134, R168). -/
def State.prediction (s : State) (holding : Bool) : Int :=
  match s.inForce with
  | some r => if holding ∧ s.refKind r = 1 ∧ s.atCycle0.qualified r then -(s.objI (0x3100 + r) 0x0F) - s.dev.ycReel else s.yPred
  | none => s.yPred

/-- A steering word at the limit of its range (R154). -/
def State.wordLimited (s : State) (raw : Int) : State :=
  if (raw.natAbs : Int) ≤ steerRange then s
  else (s.emcy 0xFF3D s.twin.active (if raw < 0 then 2 ^ 31 else 0)).containedBoth 133 0

/-- The bound table of an update (R165). -/
def State.formTable (s : State) : BoundTable :=
  let v := s.atCycle0
  let endAt := (s.clock.exposures + 1) * 1000000 + tableSlot
  { sets := (0 :: s.steeredBases.filter fun n => decide (s.obj 0x2404 n ≠ 0)).foldl
      (fun t n => t.put (fun _ => {}) n (v.formSet n (s.steer n) endAt)) []
    paths := boundPaths.foldl (fun t p => t.put (fun _ => 0) p (v.term5 p)) []
    ports := (List.range 24).foldl (fun t n => t.put (fun _ => 0) n (s.seen6 n)) []
    endAt := endAt }

/-- A time base whose update brought no new measurement still holds its term 3 (R162). -/
def State.holdTerm3 (s : State) (n : Nat) : State := s.setSteer n ((s.steer n).withTerm3 s.atCycle0 n).1

/-- The fast-term update of this exposure (R149 to R170). -/
def State.fastUpdate (s : State) : State :=
  let (s1, x) := s.updateSteer 0
  let pred := s1.prediction x.holding
  let raw := s1.limitFreq s1.dev.yc (-pred - s1.phaseTerm x)
  let yc := clampI (-steerRange) steerRange raw
  let s2 := (s1.putSteer0 { x with pendPhase := some (-yc - pred) }).wordLimited raw
  let s3 := s2.steeredBases.foldl State.updateSteered s2
  let s4 := (0 :: s3.steeredBases).foldl State.holdTerm3 s3
  { s4 with dev := { s4.dev with pendYc := some yc, ran := true, tableNext := some s4.formTable } }

/-- The steering rate of an update acts from cycle 0 on. -/
def State.takePhase (s : State) : State :=
  match (s.steer 0).pendPhase with
  | none => s
  | some p => s.setSteer 0 { (s.steer 0).setPhase s.now p with pendPhase := none }

/-- The Developer's results that act at cycle 0 of an exposure (Table 6.1). -/
def State.devExposure (s : State) : State :=
  let s1 := s.adoptTable.takePhase
  let s2 : State := { s1 with dev := { s1.dev with
    ycSum := s1.dev.ycSum + s1.dev.yc, yc := s1.dev.pendYc.getD s1.dev.yc, pendYc := none, ran := false } }
  s2.steeredBases.foldl (fun s n =>
    let x := s.steer n
    match x.pendFreq with
    | none => s
    | some f => ((s.setSteer n { x with freq := f, pendFreq := none }).setObj (0x3000 + n) 3 f).setObj (0x3000 + n) 2 (incrementFor f)) s2

/-! ### The ensemble (R151, R152) -/

/-- Raw weight of an ADEV in 10⁻¹⁸ (0 for an ADEV of 0). -/
def rawWeight (a : Nat) : Nat := if a = 0 then 0 else 10 ^ 40 / (a * a)

/-- References that are members now. -/
def State.memberRefs (s : State) : List Nat :=
  if s.inForce.isNone then []
  else refNumbers.filter fun r => s.qualified r && decide (s.rank r ≠ 0) && !s.challenged r
    && s.refs.flags.all fun f => decide (f.a ≠ r ∧ f.b ≠ r)

/-- Observations at the start of a reel. -/
def State.observe (s : State) : List Member :=
  let osc : Member := ⟨32, s.yPred, rawWeight (s.sigmaY 100)⟩
  if s.inForce.isNone then [osc]
  else (s.memberRefs.map fun r => ⟨r, -(s.objI (0x3100 + r) 0x0F) - s.dev.ycReel, rawWeight (s.adevAt r 100)⟩)
    ++ (if s.obj 0x2300 9 = 1 then [osc] else [])

/-- Weights capped at one half when at least three members have weight (R151). -/
def capped (l : List Member) : List Member :=
  if (l.filter fun m => decide (0 < m.raw)).length < 3 then l
  else
    let tot := (l.map Member.raw).sum
    l.map fun m => if tot < 2 * m.raw then { m with raw := tot - m.raw } else m

/-- The weighted mean; none when no member has weight. -/
def weightedMean (l : List Member) : Option Int :=
  let tot := (l.map Member.raw).sum
  if tot = 0 then none else some (roundDivI ((l.map fun m => (m.raw : Int) * m.obs).sum) tot)

/-- A member that is still Qualified, in no flagged pair and not challenged (R152). -/
def State.staysMember (s : State) (m : Member) : Bool :=
  decide (m.ref = 32) || (s.qualified m.ref && !s.challenged m.ref && s.refs.flags.all fun f => decide (f.a ≠ m.ref ∧ f.b ≠ m.ref))

/-- The ensemble in force becomes `l`, of observations that count from `at_`; without a weight the frequency is the model's prediction
`pred` (R151). -/
def State.setEnsemble (s : State) (l : List Member) (at_ : Nat) (pred : Int) : State :=
  ({ s with dev := { s.dev with members := l, yosc := (weightedMean (capped l)).getD pred, yoscAt := at_,
                                yPrior := pred } }).setObj 0x2400 0x0A (maskOf (l.map Member.ref) : Nat)

/-- The update of the last reel takes effect, without the members that have left since (R150, R152). -/
def State.adoptEnsemble (s : State) : State :=
  s.setEnsemble (s.dev.latched.filter s.staysMember) s.dev.latchedAt (s.yPredAt s.dev.latchedAt)

/-- Members that left Qualified, or became flagged or challenged, leave at an exposure boundary (R152). -/
def State.pruneEnsemble (s : State) : State :=
  let keep := s.dev.members.filter s.staysMember
  if keep = s.dev.members then s else s.setEnsemble keep s.dev.yoscAt s.dev.yPrior

/-! ### The ageing history (R160) -/

/-- Valid records with their day numbers. -/
def validDays (h : List (Nat × Int)) : List (Int × Int) :=
  (h.filter fun p => decide (p.2 ≠ -(2 ^ 31))).map fun p => ((p.1 / 86400 : Nat), p.2)

/-- Slope numerator and denominator of the history, and the residual sum numerator. -/
def ageingFit (l : List (Int × Int)) : Int × Int × Int :=
  let t0 := (l.headD (0, 0)).1
  let (n, a, b, c, d, e) := l.foldl (fun (n, a, b, c, d, e) p =>
    let t := p.1 - t0
    (n + 1, a + t, b + p.2, c + t * t, d + t * p.2, e + p.2 * p.2)) ((0 : Int), (0 : Int), (0 : Int), (0 : Int), (0 : Int), (0 : Int))
  let den := n * c - a * a
  let num := n * d - a * b
  (num, den, (n * e - b * b) * den - num * num)

/-- Drift per year in 10⁻¹⁸ (R160). -/
def driftPerYear (h : List (Nat × Int)) : Int :=
  let (num, den, _) := ageingFit (validDays h)
  if den ≤ 0 then 0 else roundDivI (num * 365250) den.toNat

/-- Whether the drift is valid: 30 valid records over at least 60 days (R160). -/
def driftValid (h : List (Nat × Int)) : Bool :=
  let v := validDays h
  decide (30 ≤ v.length) && decide (60 ≤ (v.headD (0, 0)).1 - (v.getLastD (0, 0)).1)

/-- The slope's standard error per day in 10⁻¹⁸, rounded up. -/
def slopeError (h : List (Nat × Int)) : Nat :=
  let v := validDays h
  let (_, den, res) := ageingFit v
  if den ≤ 0 ∨ v.length < 3 then 0
  else sqrtUp (ceilDiv (res.toNat * 1000000) (den.toNat * den.toNat * (v.length - 2)))

/-- Class values of Table 6.2: δy₀, δa, δy_T, *h*_w, *h*_f, *h*_rw. -/
def classValues : Nat → List Nat
  | 1 => [20000, 0, 10000, 5000000, 5000, 0]
  | 2 => [5000, 500, 2000, 100000, 1000, 0]
  | 3 => [1000000, 500000, 200000, 3000000, 100000, 0]
  | _ => [5000000, 20000000, 3000000, 1000000, 1000000, 1000]

/-- Sub-indices of the parameters that a class write loads (R158). -/
def classSubs : List Nat := [3, 5, 6, 7, 8, 9]

/-- Loads the class values into the model (R158). -/
def State.loadClass (s : State) (cls : Nat) : State :=
  (classSubs.zip (classValues cls)).foldl (fun s p => s.takeEffect (okey 0 0 0x2401 p.1) p.2) s

/-- The predicted ageing, in either source, while the drift is valid (R158, R160). -/
def State.learnAgeing (s : State) : State :=
  if driftValid s.darkroom.history then s.setObj 0x2401 4 (roundDivI (driftPerYear s.darkroom.history * 100) 36525) else s

/-- Daily learning in source 0 (R158, R160): the ageing's uncertainty by its law; the other parameters, for which no law is given, take a
free value not below the class value (log 15). -/
def State.learn (s : State) : State :=
  let cls := classValues (s.obj 0x2401 1)
  let s2 := [(3, 0), (6, 2), (7, 3), (8, 4), (9, 5)].foldl (fun (s : State) (p : Nat × Nat) =>
    let (v, t) := s.drawNat
    t.setObj 0x2401 p.1 (Nat.max (cls.getD p.2 0) v)) s
  if driftValid s.darkroom.history then s2.setObj 0x2401 5 (Nat.max (cls.getD 1 0) (slopeError s.darkroom.history)) else s2

/-- The first reel of a TAI day: the day's record (R160). -/
def State.dailyRecord (s : State) : State :=
  let n := s.dev.dayReels
  let v := if 43200 ≤ s.dev.dayInForce ∧ 0 < n then clampI (-(2 ^ 31) + 1) (2 ^ 31 - 1) (roundDivI s.dev.daySum (n * 1000)) else -(2 ^ 31)
  let h := ((s.taiSecond - 86400, v) :: s.darkroom.history).take 400
  let s1 : State := { s with darkroom := { s.darkroom with history := h },
                             dev := { s.dev with dayReels := 0, dayInForce := 0, daySum := 0 } }
  let s2 := (s1.setObj 0x2401 0x0B (s1.obj 0x2401 0x0B + 1)).learnAgeing
  if s2.obj 0x2401 2 = 0 then s2.learn else s2

/-- The Developer at a reel boundary (R150, R151, R160). Nine thousand slots of ensemble parts form an update; a reel with at
least one part completes it (log 16). -/
def State.devReel (s : State) : State :=
  let s0 : State := { s with dev := { s.dev with ycReel := roundDivI s.dev.ycSum 1000, ycSum := 0 } }
  let s1 := if 0 < s0.dev.parts then s0.adoptEnsemble else s0
  let inF := match s1.inForce with | some r => decide (s1.refKind r ≠ 1) | none => false
  let s2 : State := { s1 with dev := { s1.dev with parts := 0, latched := s1.observe, latchedAt := s1.now, dayReels := s1.dev.dayReels + 1,
                                                   dayInForce := s1.dev.dayInForce + bitNat inF, daySum := s1.dev.daySum + s1.dev.yosc } }
  if s2.taiSecond % 86400 = 0 then s2.dailyRecord else s2

/-! ### Registration (R171 to R175) -/

/-- The split of an offset (R172): *n* s, *q* × 256 ns and the residual in ps. -/
def splitOffset (x : Int) : Int × Nat × Int :=
  let sec : Int := 1000000000000
  let n := x / sec
  let q := ((2 * (x - n * sec) + 256000) / (2 * 256000)).toNat
  if q = 3906250 then (n + 1, 0, x - (n + 1) * sec) else (n, q, x - n * sec - q * 256000)

/-- The last step in ps and seconds for 0x2403.04 and .07. -/
def stepPs (n : Int) (q : Nat) : Int := n * 1000000000000 + q * 256000

end Sys2Proof.Machine
end

