-- ==== Sys2Proof/Machine/GroupOps.lean ====
section
/-! DEFINITION. Agreement groups (R89 to R93): members, shadows, waiting sets and their taking effect. -/

namespace Sys2Proof.Machine

/-- Sub-indices `a` to `b`. -/
def subRange (a b : Nat) : List Nat := (List.range (b + 1 - a)).map (· + a)

/-- Instances of a group (Table 3.7). -/
def groupCount : Nat → Nat
  | 0 => 32 | 1 => 16 | 2 => 4 | 3 => 12 | 4 => 8 | 5 => 24 | 6 => 12 | 7 => 8 | 8 => 1 | 9 => 16 | 10 => 2 | _ => 0

/-- The members of instance `n` of group `g`, as object keys. -/
def members (g n : Nat) : List Nat :=
  let at_ (base a b : Nat) : List Nat := (subRange a b).map fun k => okey 0 0 (base + n) k
  match g with
  | 0 => at_ 0x3000 2 3
  | 1 => at_ 0x3200 5 6
  | 2 => at_ 0x3210 2 8
  | 3 => at_ 0x3220 3 4
  | 4 => at_ 0x3230 2 7
  | 5 => at_ 0x3400 2 4
  | 6 => at_ 0x2C40 1 2
  | 7 => at_ 0x3500 5 7
  | 8 => at_ 0x2800 3 4 ++ (List.range 99).map (fun q => okey 0 q 0x2801 2) ++ (List.range 99).map (fun q => okey 0 q 0x2801 3)
  | 9 => at_ 0x3240 1 0x11
  | 10 => at_ 0x2601 2 6
  | _ => []

/-- The group and instance that an object belongs to. -/
def memberOf (idx sub : Nat) : Option (Nat × Nat) :=
  let inside (base count a b g : Nat) : Option (Nat × Nat) :=
    if base ≤ idx ∧ idx < base + count ∧ a ≤ sub ∧ sub ≤ b then some (g, idx - base) else none
  if idx = 0x2801 ∧ (sub = 2 ∨ sub = 3) then some (8, 0)
  else if idx = 0x2800 ∧ (sub = 3 ∨ sub = 4) then some (8, 0)
  else (inside 0x3000 32 2 3 0).orElse fun _ => (inside 0x3200 16 5 6 1).orElse fun _ => (inside 0x3210 4 2 8 2).orElse fun _ =>
    (inside 0x3220 12 3 4 3).orElse fun _ => (inside 0x3230 8 2 7 4).orElse fun _ => (inside 0x3400 24 2 4 5).orElse fun _ =>
    (inside 0x2C40 12 1 2 6).orElse fun _ => (inside 0x3500 8 5 7 7).orElse fun _ => (inside 0x3240 16 1 0x11 9).orElse fun _ =>
    inside 0x2601 2 2 6 10

def noneOf {α : Type} : Nat → Option α := fun _ => none

/-- The shadow value of a member: the value in force unless one was written (R90). -/
def State.shadowKey (s : State) (k : Nat) : Int := (s.groups.shadow.look noneOf k).getD (s.objKey k)

/-- A bit of one of a group's words: 0 pending, 1 waiting, 2 last refusal. -/
def State.pendingMask (s : State) (g : Nat) : Nat := s.groups.pending.look (fun _ => 0) g
def State.waitingMask (s : State) (g : Nat) : Nat := s.groups.committed.look (fun _ => 0) g
def State.refusedMask (s : State) (g : Nat) : Nat := s.groups.failed.look (fun _ => 0) g

def State.setPending (s : State) (g m : Nat) : State :=
  { s with groups := { s.groups with pending := s.groups.pending.put (fun _ => 0) g m } }
def State.setWaiting (s : State) (g m : Nat) : State :=
  { s with groups := { s.groups with committed := s.groups.committed.put (fun _ => 0) g m } }
def State.setRefused (s : State) (g m : Nat) : State :=
  { s with groups := { s.groups with failed := s.groups.failed.put (fun _ => 0) g m } }

def State.isWaiting (s : State) (g n : Nat) : Bool := bit (s.waitingMask g) n
def State.isPending (s : State) (g n : Nat) : Bool := bit (s.pendingMask g) n

/-- A write to a member changes its shadow and sets the instance's bit; the 60 s restart (R90, R94). -/
def State.writeShadow (s : State) (g n k : Nat) (v : Int) : State :=
  let t : State := { s with groups := { s.groups with
    shadow := s.groups.shadow.put noneOf k (some v),
    since := s.groups.since.put (fun _ => 0) (32 * g + n) s.now,
    reported := s.groups.reported.put (fun _ => 0) g (putBit (s.groups.reported.look (fun _ => 0) g) n false) } }
  t.setPending g (putBit (t.pendingMask g) n true)

/-- The instance's shadow returns to the set in force (R89). -/
def State.dropShadow (s : State) (g n : Nat) : State :=
  let t : State := { s with groups := { s.groups with
    shadow := (members g n).foldl (fun t k => t.put noneOf k none) s.groups.shadow } }
  t.setPending g (putBit (t.pendingMask g) n false)

/-- An accepted commit of one instance: its shadow set waits (R91). -/
def State.commitOne (s : State) (g n : Nat) : State :=
  if !s.isPending g n then s
  else
    let w := (members g n).foldl (fun t k => match s.groups.shadow.look noneOf k with
      | none => t
      | some v => t.put noneOf k (some v)) s.groups.waiting
    let t := ({ s with groups := { s.groups with
      waiting := w, committedIn := s.groups.committedIn.put (fun _ => 0) (32 * g + n) s.clock.exposures } } : State).dropShadow g n
    t.setWaiting g (putBit (t.waitingMask g) n true)

/-- The waiting set of one instance takes effect (R91, R93). -/
def State.applyGroup (s : State) (g n : Nat) : State :=
  let t := (members g n).foldl (fun (s : State) k => match s.groups.waiting.look noneOf k with
    | none => s
    | some v => ({ s with groups := { s.groups with waiting := s.groups.waiting.put noneOf k none } }).takeEffect k v) s
  t.setWaiting g (putBit (t.waitingMask g) n false)

/-- A waiting set whose exposure boundary has passed: the one that follows its commit's management point (R91). -/
def State.safeDue (s : State) (g n : Nat) : Bool :=
  s.isWaiting g n && decide (s.groups.committedIn.look (fun _ => 0) (32 * g + n) < s.clock.exposures)

/-- EMCY 0xFF11: a set took effect at its safe point (Table 3.13). -/
def State.tookEffect (s : State) (g n : Nat) : State := s.emcy 0xFF11 0xFF (g * 2 ^ 24 + 2 ^ n % 2 ^ 24)

end Sys2Proof.Machine
end

