-- ==== Sys2Proof/Machine/TimeBases.lean ====
section
/-! DEFINITION. Meanings of the time-base, capture, event-input and interval commands (R99 to R122). -/

namespace Sys2Proof.Machine

/-! ### Sets and steps of a counter -/

/-- A set of time base `n` to a TIME112 number (R102, R103). -/
def setBaseOp (n value : Nat) (s : State) : Except Nat State :=
  if 1000000000 ≤ time112Ns value then .error 0x06090030
  else if n = 0 ∨ (s.base n).steered then .error 0x0A1E0020
  else if (s.base n).adjust.isSome then .error 0x0A1E0021
  else .ok (s.setBase n { s.base n with adjust := some (.set (ofTime112 value)) })

/-- A step of time base `n` in ps (R102, R103), judged on the value at the next cycle 0. -/
def stepBaseOp (n : Nat) (ps : Int) (s : State) : Except Nat State :=
  if n = 0 ∨ (s.base n).steered then .error 0x0A1E0020
  else if (s.base n).adjust.isSome then .error 0x0A1E0021
  else if stepFits ((s.base n).value + (1000000 - s.clock.cycle) * s.increment n) ps then .ok (s.setBase n { s.base n with adjust := some (.step ps) })
  else .error 0x0A1E0022

/-- A mode change of time base `n`, effective at the next exposure boundary (R102). -/
def baseModeOp (n mode : Nat) (s : State) : Except Nat State :=
  if n = 0 then .error 0x06010002 else .ok (s.setBase n { s.base n with pendMode := some mode })

/-- The pending mode and adjustment of a time base act at cycle 0 (R102, R103). At a mode change the shadow of group 0x00
returns to the values in force and its pending bit clears. -/
def State.applyBase (s : State) (n : Nat) : State :=
  let b := s.base n
  let s1 := match b.pendMode with
    | none => s
    | some m =>
      if b.steered = decide (m = 1) then s.setBase n { b with pendMode := none } else
      let g := s.groups
      let keys := [okey 0 0 (0x3000 + n) 2, okey 0 0 (0x3000 + n) 3]
      let t := (s.setBase n { b with steered := decide (m = 1), pendMode := none }).setObj (0x3000 + n) 4 m
      { t with groups := { g with shadow := keys.foldl (fun a k => a.drop k) g.shadow,
                                  pending := g.pending.put (fun _ => 0) 0 (putBit (g.pending.look (fun _ => 0) 0) n false) } }
  match b.adjust with
  | none => s1
  | some a => (s1.setBase n { s1.base n with value := adjusted b.value a, adjust := none }).bump (0x3000 + n) 7

/-- TIME_BASE_SET (R103). -/
def execTimeBaseSet (t : Transport) (n value : Nat) (s : State) : Host.Outcome State Fault Refusal :=
  .next (s.command t (0x3000 + n) 5 (setBaseOp n value))

/-- TIME_BASE_STEP (R103). -/
def execTimeBaseStep (t : Transport) (n : Nat) (ps : Int) (s : State) : Host.Outcome State Fault Refusal :=
  .next (s.command t (0x3000 + n) 6 (stepBaseOp n ps))

/-! ### Capture -/

/-- A capture by the host acts at the next exposure boundary (R114). -/
def captureOp (value : Nat) (s : State) : Except Nat State :=
  if value = 1 then .ok { s with time := { s.time with capturePending := true } } else .error 0x06090030

/-- CROSS_CAPTURE (R114). -/
def execCrossCapture (t : Transport) (value : Nat) (s : State) : Host.Outcome State Fault Refusal :=
  .next (s.command t 0x2203 1 (captureOp value))

/-! ### Event inputs -/

/-- Whether an edge is of the polarity selected in .02. -/
def edgeSelected (mode : Nat) (rising : Bool) : Bool := if rising then decide (mode = 1 ∨ mode = 3) else decide (mode = 2 ∨ mode = 3)

/-- An item tagged at an intake unit `delay` cycles from now (R14). Items that become complete during a registration gate are
discarded and counted (R173; in 0x2C20.03, log 82). -/
def State.tagItem (s : State) (src delay : Nat) (b : ItemBody) : State :=
  if s.time.gate then s.bump 0x2C20 3
  else { s with intake := { s.intake with items := s.intake.items ++ [⟨src, s.now + delay, s.tai, b⟩] } }

/-- Cycles from an edge to the end of its TDC conversion (R115). -/
def tdcCycles : Nat := 8

/-- An edge on an enabled event input: counted, and timestamped unless uncalibrated or within 100 ns of the last converted
edge (R115, R116, R118). Its item is tagged at the end of the conversion; the FIFO and the interval units have it at its delivery. -/
def State.eventEdge (s : State) (i : Nat) (rising : Bool) (fine : Int) : State :=
  let idx := 0x3020 + i
  let s1 := s.bump idx 0x0C
  let x := s1.input i
  if x.calibration = 0 then s1.bump idx 0x0B
  else if (match x.lastEdge with | none => false | some c => decide (s.now - c < 100)) then
    (s1.setInput i { x with sticky := putBit x.sticky 1 true }).bump idx 0x0B
  else
    (s1.setInput i { x with lastEdge := some s.now }).tagItem (40 + i) tdcCycles
      (.event rising (s.eventTime i (s.obj idx 3) fine) (s.eventTime i 0 fine) false)

/-- An event item delivered: its record enters the FIFO (R119), and the interval units have it unless they had it already. -/
def State.deliverEvent (s : State) (i : Nat) (rising : Bool) (time time0 : Int) (passed : Bool) : State :=
  let t := s.fifoEdge i rising time
  if passed then t else t.intervalEdge i time0

/-- The order of delivery (R15): the older tag, then the lower source. -/
def Item.before (a b : Item) : Bool := decide (a.tag < b.tag) || (decide (a.tag = b.tag) && decide (a.source < b.source))

/-- An item put into a list in order of delivery. -/
def insertItem (i : Item) : List Item → List Item
  | [] => [i]
  | x :: r => if i.before x then i :: x :: r else x :: insertItem i r

/-- Items in the order of their delivery. -/
def sortItems (l : List Item) : List Item := l.foldl (fun acc i => insertItem i acc) []

/-- An event that the interval units have had. -/
def Item.passOn (i : Item) (now : Nat) : Item :=
  match i.body with
  | .event rising time time0 _ => if i.tag < now + tdcCycles then { i with body := .event rising time time0 true } else i
  | _ => i

/-- Events that happened before now and wait for their delivery reach the interval units, since a pair belongs to the gate in which
its stop edge falls (R122). -/
def State.passEvents (s : State) : State :=
  let t := (sortItems s.intake.items).foldl (fun (s : State) i => match i.body with
    | .event _ _ time0 false => if i.tag < s.now + tdcCycles ∧ bit s.intake.faults i.source = false then s.intervalEdge (i.source - 40) time0 else s
    | _ => s) s
  { t with intake := { t.intake with items := s.intake.items.map fun i => i.passOn s.now } }

/-- EVIN_EDGE (R115): `fine` is the calibrated phase in units of 0.5 ps after the start of the event cycle. -/
def execEvinEdge (i : Nat) (rising : Bool) (fine : Int) (s : State) : Host.Outcome State Fault Refusal :=
  .next (s.whenServing fun s =>
    if s.obj (0x3020 + i) 1 = 0 ∨ bit s.intake.faults (40 + i) ∨ !edgeSelected (s.obj (0x3020 + i) 2) rising then s
    else s.eventEdge i rising fine)

/-- Removal of records up to sequence `q` (R120). -/
def fifoReleaseOp (i q : Nat) (s : State) : Except Nat State :=
  match releaseTo EventRecord.seq (q % 8192) (s.input i).fifo with
  | none => .error 0x0A1E0026
  | some r => .ok (s.setInput i { s.input i with fifo := r })

/-- EVENT_FIFO_RELEASE (R120). -/
def execEventFifoRelease (t : Transport) (input seq : Nat) (s : State) : Host.Outcome State Fault Refusal :=
  .next (s.command t (0x3020 + input) 9 (fifoReleaseOp input seq))

/-- Whether a calibration table passes: every bin between 0.1 and 1.5 ps, the sum 1 ns within 2 % (R117); bins in fs. -/
def tableOk (bins : List Nat) : Bool :=
  (bins.all fun b => decide (100 ≤ b ∧ b ≤ 1500)) && decide (980000 ≤ bins.sum ∧ bins.sum ≤ 1020000)

/-- The end of a calibration run of an input (R117): a passing table waits for the reel boundary; ten failures in a row
make the calibration stale and log a contained fault (line 134, log 10). -/
def State.calibrationRun (s : State) (i : Nat) (ok : Bool) (skew : Int) : State :=
  let x := s.input i
  if ok then s.setInput i { x with passed := some skew, failures := 0 }
  else if x.failures + 1 = 10 then
    (s.setInput i { x with failures := x.failures + 1, calibration := if x.calibration = 0 then 0 else 2 }).containedBoth 134 i
  else s.setInput i { x with failures := x.failures + 1 }

/-- A passed table is swapped into service and the two lines exchange roles (R117). DESIGN CHOICE: the calibration state becomes 1, and
timestamping starts, at this swap and not at the pass of the check before it, since the spec leaves open which of the two R118 means
(log 83). -/
def State.swapTable (s : State) (i : Nat) : State :=
  let x := s.input i
  match x.passed with
  | none => s
  | some k =>
    let t := s.setInput i { x with passed := none, calibration := 1, skew := k, line := 1 - x.line }
    if i < 48 then t.setObj (0x3020 + i) 5 k else t

/-- Whether a TDC is in use: of an enabled event input 0 to 47, 48 + *r* of the front end of an enabled reference *r* (R124), 64 + *p* of
the DCLK of a sample port *p* (R212), 66 + *m* of the WCLK of a media port *m* (R346). -/
def State.tdcOn (s : State) (i : Nat) : Bool :=
  if i < 48 then decide (s.obj (0x3020 + i) 1 ≠ 0)
  else if i < 64 then decide (s.obj (0x3100 + (i - 48)) 1 ≠ 0)
  else if i < 66 then decide (s.obj 0x2010 1 = 1) && decide (s.obj (0x2601 + (i - 64)) 1 ≠ 0)
  else decide (s.obj (0x3500 + (i - 66)) 1 = 1)

/-- TDC_CALIBRATION_COMPLETE (R117): the bin widths in fs and the skew measured, in ps, of an event input, a REFIN front end, a
DCLK or a WCLK. -/
def execTdcCalibrationComplete (input : Nat) (bins : List Nat) (skew : Int) (s : State) : Host.Outcome State Fault Refusal :=
  .next (s.whenServing fun s => if s.tdcOn input then s.calibrationRun input (tableOk bins) skew else s)

/-! ### Interval units -/

/-- A write of an interval unit's mode, effective at the next exposure boundary (R121, R122). -/
def intervalModeOp (u mode : Nat) (s : State) : Except Nat State :=
  if 2 < mode then .error 0x06090030
  else if mode = 1 ∧ s.obj (0x2240 + u) 2 = s.obj (0x2240 + u) 3 then .error 0x0A1E0025
  else .ok (s.setInterval u { s.interval u with pendMode := some mode })

/-- The pending mode of a unit acts (R122): a stop keeps the last results, a start or change discards the gate. -/
def State.applyInterval (s : State) (u : Nat) : State :=
  match (s.interval u).pendMode with
  | none => s
  | some m =>
    if m = (s.interval u).mode then s.setInterval u { s.interval u with pendMode := none }
    else (s.setInterval u { mode := m }).setObj (0x2240 + u) 1 m

/-- INTERVAL_MODE_WRITE (R122). -/
def execIntervalModeWrite (t : Transport) (unit mode : Nat) (s : State) : Host.Outcome State Fault Refusal :=
  .next (s.command t (0x2240 + unit) 1 (intervalModeOp unit mode))

/-- A gate of `G` reels starts at the first reel boundary after the mode takes effect (R122). -/
def State.startGate (s : State) (u : Nat) : State :=
  let x := s.interval u
  if x.mode = 0 ∨ x.gateOpen ∨ s.obj (0x2240 + u) 4 = 0 then s
  else s.setInterval u { x with gateOpen := true, gateReel := s.clock.reel }

/-- Compare action 0x02 opens a gate of a compare-gated unit (R122). -/
def State.openGate (s : State) (u : Nat) : State :=
  let x := s.interval u
  if x.mode = 0 ∨ s.obj (0x2240 + u) 4 ≠ 0 ∨ x.gateOpen then s
  else
    let t := s.passEvents
    t.setInterval u { t.interval u with gateOpen := true }

/-- Compare action 0x03 closes it and latches the results (R122). -/
def State.shutGate (s : State) (u : Nat) : State :=
  let x := s.interval u
  if x.mode = 0 ∨ s.obj (0x2240 + u) 4 ≠ 0 ∨ !x.gateOpen then s
  else
    let s1 := s.passEvents.latchGate u
    s1.setInterval u { s1.interval u with gateOpen := false }

/-- GATE_END (R122): the gate in progress has run its reels. -/
def execGateEnd (unit : Nat) (s : State) : Host.Outcome State Fault Refusal :=
  .next (s.whenServing fun s =>
    if (s.interval unit).gateOpen ∧ s.obj (0x2240 + unit) 4 ≠ 0
        ∧ s.obj (0x2240 + unit) 4 ≤ s.clock.reel - (s.interval unit).gateReel then s.passEvents.latchGate unit else s)

end Sys2Proof.Machine
end

