-- ==== Sys2Proof/Machine/Compares.lean ====
section
/-! DEFINITION. Compare units, leap table writes, sticky flags and time-of-day messages (R106 to R114, R119, R206, R207). -/

namespace Sys2Proof.Machine

def State.comp (s : State) (c : Nat) : Compare := s.time.compares.look (fun _ => {}) c
def State.setComp (s : State) (c : Nat) (x : Compare) : State :=
  { s with time := { s.time with compares := s.time.compares.put (fun _ => {}) c x } }

/-! ### Targets -/

/-- A target in the scale of a unit (units of 2⁻³² ps) on the counter scale, units of 2⁻³² ns (R110). -/
def State.onCounter (s : State) (c target : Nat) : Nat :=
  (s.unview (s.obj (0x2210 + c) 2) (roundDivI target 1000)).toNat

/-- Δ of R109 in units of 2⁻³² ns: the difference of the low 32 bits of the seconds read as two's complement. -/
def deltaOf (counter target : Nat) : Int :=
  let sec := second32.toNat
  let d := ((counter / sec + 2 ^ 32 - target / sec % 2 ^ 32) % 2 ^ 32 : Nat)
  signed 32 d * second32 + ((counter % sec : Nat) : Int) - (target % sec : Nat)

/-- Δ of a unit now. -/
def State.compDelta (s : State) (c : Nat) : Int :=
  deltaOf (s.base32 (s.obj (0x2210 + c) 1)).toNat (s.comp c).counterTarget

/-- The status octet 0x2210+c.08. -/
def Compare.status (x : Compare) : Nat :=
  bitNat x.armed + 2 * bitNat x.fired + 4 * bitNat x.late + 8 * bitNat x.armPending

/-- A unit counts as armed (R111, R113). -/
def State.countsArmed (s : State) (c : Nat) : Bool := (s.comp c).armed || (s.comp c).armPending

/-- Whole periods from a target to the first one beyond the counter (R111). -/
def State.periodsDue (s : State) (c target : Nat) : Nat :=
  let t := s.base32 (s.obj (0x2210 + c) 1)
  let reached := s.viewReached (s.obj (0x2210 + c) 2) t * 1000
  let per := s.obj (0x2210 + c) 4 * 2 ^ 32
  if reached < target ∨ per = 0 then 0 else ((reached - target).toNat) / per + 1

/-- A periodic unit's target moves on by whole periods and is converted. -/
def State.advanceTarget (s : State) (c n : Nat) : State :=
  let x := s.comp c
  let tg := x.target + n * s.obj (0x2210 + c) 4 * 2 ^ 32
  s.setComp c { x with target := tg, counterTarget := s.onCounter c tg }

/-! ### Firing (R109, R111, R206, R207) -/

/-- A time-of-day message for an edge, with sequence 0 (Table 7.6). -/
def State.todMessage (s : State) (p n target seq : Nat) : Octets :=
  let sc := s.obj (0x3230 + p) 7
  let f := s.fetch n (0x30 + p) [] []
  let sec := (s.view sc target / second32).toNat
  let flags := s.leapState * 16 + 8 * bitNat f.holdover + 4 * bitNat f.unregistered + 2 * bitNat (decide (sc = 2))
    + bitNat (decide (f.b = 0xFFFFFFFFFFFF))
  let body := [0xA5, 0x01] ++ beOctets 2 seq ++ beOctets 6 sec ++ beOctets 2 (unsigned 16 (s.objI 0x2201 1)) ++ beOctets 1 flags
    ++ [0x00] ++ beOctets 6 f.b ++ beOctets 4 f.u ++ beOctets 4 f.seconds ++ beOctets 2 f.dominant
  body ++ beOctets 2 (crc16 body)

/-- The message with its sequence number. -/
def withSequence (m : Octets) (seq : Nat) : Octets :=
  let body := m.take 2 ++ beOctets 2 seq ++ (m.drop 4).take 26
  body ++ beOctets 2 (crc16 body)

/-- Bits of a character on the time-of-day pin (R208): 8N1, 8E1 or 8O1. -/
def charBits (framing : Nat) : Nat := if framing = 0 then 10 else 11

/-- A message is in progress (R207): 32 characters at its bit rate. -/
def Pps.busyAt (x : Pps) (now : Nat) : Bool :=
  match x.sending with
  | none => false
  | some (t, rate, framing) => decide (now < t + ceilDiv (32 * charBits framing * 1000000000) (Nat.max 1 rate))

/-- A message cut short by the next edge is not sent, and its sequence number is not used (R207). -/
def State.takeBack (s : State) (p : Nat) : State :=
  (s.bumpBy (0x3230 + p) 0x0A (2 ^ 32 - 1)).setObj (0x3230 + p) 0x0B ((s.obj (0x3230 + p) 0x0B + 65535) % 65536 : Nat)

/-- An on-time edge at PPS channel `p` for a target of time base `n` (R206, R207). -/
def State.ppsEdge (s : State) (p n target : Nat) : State :=
  if s.obj (0x3230 + p) 1 = 0 then s
  else
    let x := s.ppsChannel p
    if !s.boundKnown n then s.setPps p { x with waitingBound := true }
    else
      let whole := decide (target % second32.toNat = 0) && decide (s.obj (0x3230 + p) 8 = 1)
      let cut := whole && x.busyAt s.now
      let y : Pps := { x with running := true, waitingBound := false, edge := some (n, target), pulses := x.pulses + 1,
                              pulseAt := some s.now, width := s.obj (0x3230 + p) 2,
                              omitted := x.omitted || cut || (whole && x.due.isSome), sending := if cut then none else x.sending,
                              due := if whole then some (s.now + s.obj (0x3230 + p) 6 * 1000, s.todMessage p n target 0) else x.due }
      let t := s.compared 4 p (beOctets 8 s.now ++ beOctets 16 (unsigned 128 (target - s.base32 n)))
      (if cut then t.takeBack p else t).setPps p y

/-- The action of a firing (Table 4.5). -/
def State.compareAction (s : State) (c target : Nat) : State :=
  let a := s.obj (0x2210 + c) 5
  let k := a % 256
  match a / 256 with
  | 1 => s.ppsEdge k (s.obj (0x2210 + c) 1) target
  | 2 => s.openGate k
  | 3 => s.shutGate k
  | 4 => s.capture
  | _ => s

/-- A unit fires (R109, R111); the edge of a late one stands at the start of the firing cycle. -/
def State.fireUnit (s : State) (c : Nat) (late : Bool) : State :=
  let x := s.comp c
  let one := decide (s.obj (0x2210 + c) 4 = 0)
  let s1 := s.setComp c { x with fired := true, late := late, overdue := false, armed := x.armed && !one,
                                 lastFire := toTime112 (x.counterTarget * 2 ^ 28) }
  let s2 := s1.compareAction c (if late then (s.base32 (s.obj (0x2210 + c) 1)).toNat else x.counterTarget)
  if one then s2
  else
    let s3 := s2.advanceTarget c 1
    let n := s3.periodsDue c (s3.comp c).target
    if n = 0 then s3 else (s3.advanceTarget c n).bumpBy (0x2210 + c) 0x0A n

/-- A unit whose target may lie at or before the counter, at its arming or a new conversion (R110, R111): a periodic one
moves on without firing; a target that lies ahead is not overdue. -/
def State.settleUnit (s : State) (c : Nat) (fireNow : Bool) : State :=
  if s.compDelta c < 0 then s.setComp c { s.comp c with overdue := false }
  else if s.obj (0x2210 + c) 4 = 0 then
    (if fireNow then s.fireUnit c true else s.setComp c { s.comp c with overdue := true })
  else s.advanceTarget c (s.periodsDue c (s.comp c).target)

/-- Armed units on a time base whose targets a step, set or re-label passes act in its cycle, lowest first (R112, R113). -/
def State.firePassed (s : State) (n : Nat) : State :=
  (List.range 32).foldl (fun (s : State) c =>
    if (s.comp c).armed ∧ s.obj (0x2210 + c) 1 = n ∧ 0 ≤ s.compDelta c then s.fireUnit c true else s) s

/-- Δ of a unit in the cycle before this one. -/
def State.deltaBefore (s : State) (c : Nat) : Int :=
  deltaOf ((s.base (s.obj (0x2210 + c) 1)).prev / 2 ^ 28) (s.comp c).counterTarget

/-- COMPARE_FIRE (R109): an armed unit with Δ ≥ 0 fires, and none during a registration gate (R173); late where a write left its target
behind (R110) or it had passed its target before this cycle. -/
def execCompareFire (c : Nat) (s : State) : Host.Outcome State Fault Refusal :=
  .next (s.whenServing fun s =>
    if (s.comp c).armed ∧ 0 ≤ s.compDelta c ∧ s.time.gate = false then
      s.fireUnit c ((s.comp c).overdue || decide (0 ≤ s.deltaBefore c))
    else s)

/-! ### Arm and disarm (R111) -/

/-- Arming a unit, with effect from the next exposure boundary. -/
def armOp (c : Nat) (s : State) : Except Nat State :=
  if s.countsArmed c then .ok s
  else
    let tg := s.onCounter c (ofTime112 (s.obj (0x2210 + c) 3) / 2 ^ 28 * 1000)
    if 2 ^ 31 * second32 ≤ ((s.base32 (s.obj (0x2210 + c) 1) - (tg : Int)).natAbs : Int) then .error 0x0A1E0022
    else .ok (s.setComp c { s.comp c with armPending := true })

/-- Disarming a unit at the management point. -/
def disarmOp (c : Nat) (s : State) : Except Nat State :=
  .ok (s.setComp c { s.comp c with armed := false, armPending := false, overdue := false })

def execArm (t : Transport) (c : Nat) (s : State) : Host.Outcome State Fault Refusal :=
  .next (s.command t (0x2210 + c) 6 (armOp c))

def execDisarm (t : Transport) (c : Nat) (s : State) : Host.Outcome State Fault Refusal :=
  .next (s.command t (0x2210 + c) 6 (disarmOp c))

/-- A unit at cycle 0: a pending arm acts (R111); a set, step or registration step of its time base that passed its target fires it (R112).
`moved` holds the time bases so moved. -/
def State.compareBoundary (moved : List Nat) (s : State) (c : Nat) : State :=
  let x := s.comp c
  if x.armPending then
    let tg := ofTime112 (s.obj (0x2210 + c) 3) / 2 ^ 28 * 1000
    (s.setComp c { x with armPending := false, armed := true, overdue := false, target := tg, counterTarget := s.onCounter c tg }).settleUnit c true
  else if x.armed = true ∧ moved.contains (s.obj (0x2210 + c) 1) = true ∧ 0 ≤ s.compDelta c then s.fireUnit c true
  else s

/-! ### Leap table writes (R107, R108, R110) -/

/-- Armed units are converted again (R110). -/
def State.reconvert (s : State) : State :=
  (List.range 32).foldl (fun s c =>
    let x := s.comp c
    if !x.armed ∨ s.obj (0x2210 + c) 2 = 0 then s
    else
      let tg := s.onCounter c x.target
      if tg = x.counterTarget then s else (s.setComp c { x with counterTarget := tg }).settleUnit c false) s

/-- The table with one word replaced. -/
def State.leapWordsWith (s : State) (k w : Nat) : List Nat := [1, 2, 3, 4].map fun i => if i = k then w else s.obj 0x2202 i

/-- A write to 0x2201.01 or .02 or to a leap entry (R107). -/
def leapWriteOp (idx sub : Nat) (v : Int) (s : State) : Except Nat State :=
  let st := s.leapState
  let owned := decide (idx = 0x2201) || decide (sub = 1)
  let n0 := s.time.pendOffset.getD s.offset0
  if owned && (decide (st = 2) || decide (st = 3)) then .error 0x0A1E0024
  else if idx = 0x2201 ∧ sub = 1 then
    if leapTableOk v (s.obj 0x2201 2) s.nextReelSecond (fun _ => false) 1 none (s.leapWordsWith 0 0) then
      .ok { s with time := { s.time with pendOffset := some v } }
    else .error 0x0A1E0023
  else if idx = 0x2201 then
    if v < 0 ∨ 86400 < v then .error 0x06090030
    else if leapTableOk n0 v.toNat s.nextReelSecond (fun _ => true) 1 none (s.leapWordsWith 0 0) then
      .ok (s.takeEffect (okey 0 0 0x2201 2) v).reconvert
    else .error 0x0A1E0023
  else if leapTableOk n0 (s.obj 0x2201 2) s.nextReelSecond (fun i => decide (i = sub)) 1 none (s.leapWordsWith sub v.toNat) then
    .ok (s.takeEffect (okey 0 0 0x2202 sub) v).reconvert
  else .error 0x0A1E0023

/-- LEAP_TABLE_WRITE (R107): the checks of R469 that come before are those of the object's row. -/
def execLeapTableWrite (t : Transport) (index sub : Nat) (data : Octets) (s : State) : Host.Outcome State Fault Refusal :=
  .next (s.command t index sub fun s =>
    match dictRow index sub with
    | none => .error (if (dictRecord index).isNone then 0x06020000 else 0x06090011)
    | some e =>
      if (index ≠ 0x2201 ∧ index ≠ 0x2202) ∨ e.access ≠ .rw then .error 0x06010002
      else if e.ty.size ≠ some data.length then .error 0x06070010
      else if e.range.ok (e.ty.decode data) then leapWriteOp index sub (e.ty.decode data) s else .error 0x06090030)

/-- The leap rules at a reel boundary for entry 1 (R108): the offset takes its new value, a completed entry is retired; section C is
copied at the retirement (Table 17.6). -/
def State.leapOnce (s0 : State) : State :=
  match s0.leaps with
  | [] => s0
  | l :: _ =>
    let t := s0.base32 0
    if t < l.second * second32 then s0
    else
      let s1 := if s0.time.offsetBefore.isSome then s0
        else ({ s0 with time := { s0.time with offsetBefore := some l.before } }).setObj 0x2201 1 l.after
      if t < ((l.second : Int) - s1.obj 0x2201 2 + 86400) * second32 then s1
      else
        let w := s1.leapWordsWith 0 0
        let s2 := ([1, 2, 3, 4].zip (w.drop 1 ++ [0])).foldl (fun (s : State) (p : Nat × Nat) => s.takeEffect (okey 0 0 0x2202 p.1) (p.2 : Nat))
          (({ s1 with time := { s1.time with offsetBefore := none } } : State).markCopy (okey 0 0 0x2201 1))
        s2.record 0xFF 0x06 0xFFFF 0 (l.second % 2 ^ 32)

/-- The leap rules at a reel boundary (R108): an offset written, then every entry whose instant has passed, in order. -/
def State.leapReel (s : State) : State :=
  let s0 := match s.time.pendOffset with
    | none => s
    | some n => (({ s with time := { s.time with pendOffset := none } }).takeEffect (okey 0 0 0x2201 1) n).reconvert
  s0.leapOnce.leapOnce.leapOnce.leapOnce

/-! ### Sticky flags (R119, Table 9.7) -/

/-- CLEAR_FLAGS (R119): 0x3020+i.0E clears .0D of an event input, 0x3400+n.14 clears .13 of a lane. -/
def clearFlagsOp (index mask : Nat) (s : State) : Except Nat State :=
  if 0x3020 ≤ index ∧ index < 0x3050 then
    let i := index - 0x3020
    .ok (s.setInput i { s.input i with sticky := clearBits (s.input i).sticky mask })
  else if 0x3400 ≤ index ∧ index < 0x3418 then
    let n := index - 0x3400
    .ok (s.setPort n { s.port n with sticky := clearBits (s.port n).sticky mask })
  else .error 0x06020000

def execClearFlags (t : Transport) (index mask : Nat) (s : State) : Host.Outcome State Fault Refusal :=
  .next (s.command t index (if index < 0x3400 then 0x0E else 0x14) (clearFlagsOp index mask))

/-! ### Time-of-day messages (R207) -/

/-- TOD_MESSAGE (R207): .06 after its edge the message of the last whole-second edge starts, with the next sequence number. -/
def execTodMessage (p : Nat) (s : State) : Host.Outcome State Fault Refusal :=
  .next (s.whenServing fun s =>
    let x := s.ppsChannel p
    match x.due with
    | none => s
    | some (t, m) =>
      if s.now < t ∨ s.time.gate = true then s else
      let q := s.obj (0x3230 + p) 0x0B
      let w := withSequence m q
      (((s.setPps p { x with due := none, message := w,
                             sending := some (s.now, s.obj (0x3230 + p) 4, s.obj (0x3230 + p) 5) }).bump (0x3230 + p) 0x0A).setObj (0x3230 + p) 0x0B ((q + 1) % 65536 : Nat)).compared
        3 p (w.take 14 ++ slice w 24 4))

/-- Status 0x3230+p.09. -/
def Pps.status (x : Pps) : Nat := bitNat x.running + 2 * bitNat x.waitingBound + 4 * bitNat x.omitted

end Sys2Proof.Machine
end

