-- ==== Sys2Proof/Machine/FabricOps.lean ====
section
/-! DEFINITION. The switch: cells, queues, colours, RED, admission, flush and TX-timestamp completion (R249, R250, R267 to
R282). -/

namespace Sys2Proof.Machine

/-! ### Slots and their step charge (R8, R46) -/

/-- Slots of an exposure, of a reel. -/
def exposureSlots : Nat := 15625
def reelSlots : Nat := 15625000

/-- The reel slot that holds the present cycle (R8). -/
def State.reelSlot (s : State) : Nat := s.clock.exposure * exposureSlots + s.clock.cycle / 64
/-- The slot counted from the first reel. -/
def State.absSlot (s : State) : Nat := s.clock.reel * reelSlots + s.reelSlot

def State.bank (s : State) (b : Nat) : Option Plan := s.plans.banks.look noneOf b
def State.setBank (s : State) (b : Nat) (p : Option Plan) : State :=
  { s with plans := { s.plans with banks := s.plans.banks.put noneOf b p } }
/-- The plan in force. -/
def State.plan (s : State) : Plan := (s.bank s.plans.active).getD {}
/-- Slots *h* of an HMAC pass of *k* compressions (R47). -/
def hmacSlots (k : Nat) : Nat := ceilDiv (64 * k + 6) 64

/-- Cell accesses, client-record accesses and key-slot accesses that a serving step is charged `o` slots after it begins (Table 2.3). -/
def PlanStep.charge (x : PlanStep) (o : Nat) : Nat × Nat × Nat :=
  let h := hmacSlots (field x.operand 15 8)
  match x.opcode with
  | 0x10 => (if o = 0 ∨ o = 20 then 6 else 0, if o = 4 then 1 else 0, if o = 1 then 1 else 0)
  | 0x11 => (if o = h then 1 else 0, if o = 0 then 1 else 0, if o = 0 then 1 else 0)
  | 0x12 => ((if o = 0 then 1 else 0) + (if o = h then 1 else 0), if o = 0 then 1 else 0, if o = 0 then 1 else 0)
  | 0x13 => (if o < x.operand % 65536 then 2 else 0, 0, 0)
  | _ => (0, 0, 0)

/-- The step charge of a reel slot on the serving rows (R46). -/
def Plan.serveCharge (p : Plan) (slot : Nat) : Nat × Nat × Nat :=
  p.rows.foldl (fun (acc : Nat × Nat × Nat) (r : PlanRow) =>
    if r.kind ≠ 1 then acc
    else r.steps.foldl (fun (acc : Nat × Nat × Nat) x =>
      let per := Nat.max 1 r.period
      let c := x.charge ((slot % per + per - x.offset % per) % per)
      (acc.1 + c.1, acc.2.1 + c.2.1, acc.2.2 + c.2.2)) acc) (0, 0, 0)

/-- The octets of an entry (Table 9.3). -/
def TxEntry.octets (e : TxEntry) : Octets :=
  beOctets 2 e.id ++ beOctets 1 e.status ++ beOctets 1 e.flags ++ beOctets 14 e.time ++ beOctets 2 (e.seq.getD 0)

/-! ### Cells and queues -/

/-- Cells of a stored size (R267). -/
def cellsOf (size : Nat) : Nat := ceilDiv size 256

/-- The key of a side queue on a plate. -/
def sideKey (plate q : Nat) : Nat := 128 * plate + q

def State.queue (s : State) (plate q : Nat) : List QFrame := s.fabric.queues.look (fun _ => []) (sideKey plate q)
def State.setQueue (s : State) (plate q : Nat) (l : List QFrame) : State :=
  { s with fabric := { s.fabric with queues := s.fabric.queues.put (fun _ => []) (sideKey plate q) l } }

def sumCells (l : List QFrame) (red : Bool) : Nat := ((l.filter fun f => f.red == red).map QFrame.cells).sum
def sumRequests (l : List Request) (red : Bool) : Nat := ((l.filter fun (f : Request) => f.red == red).map Request.cells).sum
def sumHost (l : List HostFrame) (red : Bool) : Nat := ((l.filter fun (f : HostFrame) => f.red == red).map HostFrame.cells).sum

/-- Cells of the frames of a queue that are red, or green and yellow. -/
def State.cellsIn (s : State) (plate q : Nat) (red : Bool) : Nat :=
  if q < 96 then sumCells (s.queue plate q) red
  else if q = 96 then sumRequests s.fabric.nts red
  else if q = 97 then sumRequests s.fabric.ptp red
  else sumHost s.fabric.hostRx red

def State.reservation (s : State) (q : Nat) : Nat := s.objW q 0x2801 2

/-- Shared use *h*_q (R273). -/
def State.sharedUse (s : State) (plate q : Nat) : Nat :=
  (s.cellsIn plate q false - s.reservation q) + s.cellsIn plate q true

/-- Cells of a pool in use: common, or the side pool of a plate. -/
def State.poolUse (s : State) (plate : Nat) (side : Bool) : Nat :=
  if side then ((List.range 96).map fun q => s.sharedUse plate q).sum
  else ([96, 97, 98].map fun q => s.sharedUse 0 q).sum

def State.poolSize (s : State) (side : Bool) : Nat := if side then s.obj 0x2800 4 else s.obj 0x2800 3

/-- The object key of a queue's value: of a plate for the side queues. -/
def queueKey (plate q sub : Nat) : Nat := okey (if q < 96 then plate else 0) q 0x2801 sub

/-! ### RED (R276) -/

/-- 1,000 × 2³² × the drop probability numerator over `cap`, as a comparison: whether value `v` fails. -/
def redFails (profile h k cap v : Nat) : Bool :=
  let mn := field profile 29 20
  let mx := field profile 19 10
  let pm := field profile 9 0
  let f := (h + k) * 1000
  if f < mn * cap then false
  else if mx * cap ≤ f then true
  else decide (v * 1000 * ((mx - mn) * cap) < pm * (f - mn * cap) * 2 ^ 32)

/-- The register a partition draws from. -/
def lfsrKey (plate : Nat) (side : Bool) : Nat := if side then 1 + plate else 0

/-- Colours: 0 green, 1 yellow, 2 red. -/
abbrev Colour := Nat

/-- The meter of a queue finds a frame out of profile; its tokens are taken otherwise (R275). -/
def State.meter (s : State) (plate q k : Nat) : State × Bool :=
  if s.objW q 0x2801 4 = 0 then (s, false)
  else
    let key := sideKey (if q < 96 then plate else 0) q
    let tok := s.fabric.tokens.look (fun _ => 0) key
    if k ≤ tok then ({ s with fabric := { s.fabric with tokens := s.fabric.tokens.put (fun _ => 0) key (tok - k) } }, false)
    else (s, true)

/-- Every meter is filled at cycle 0 of an exposure (R275). -/
def State.refillMeters (s : State) : State :=
  (List.range 99).foldl (fun s q =>
    let r := s.objW q 0x2801 4
    if r = 0 then s
    else (if q < 96 then [0, 1] else [0]).foldl (fun (s : State) p =>
      let key := sideKey p q
      let tok := Nat.min (s.fabric.tokens.look (fun _ => 0) key + r) (s.objW q 0x2801 5)
      { s with fabric := { s.fabric with tokens := s.fabric.tokens.put (fun _ => 0) key tok } }) s) s

/-! ### Admission (R273, R281) -/

/-- A drop of a colour is counted; a green one for want of pool room is reported once a second (Table 10.11). -/
def State.countDrop (s : State) (plate q : Nat) (c : Colour) (poolEmpty : Bool) : State :=
  let s1 := s.bumpKey (queueKey plate q (0x0C + c)) 1
  let part := lfsrKey plate (decide (q < 96))
  if c = 0 ∧ poolEmpty = true then
    match s1.fabric.exhausted.look noneOf part with
    | some t => if s1.now - t < 1000000000 then s1 else
      ({ s1 with fabric := { s1.fabric with exhausted := s1.fabric.exhausted.put noneOf part (some s1.now) } }).emcy 0xFF69
        (if q < 96 then plate else 0xFF) ((if q < 96 then 2 ^ 24 else 0) + q * 2 ^ 16)
    | none =>
      ({ s1 with fabric := { s1.fabric with exhausted := s1.fabric.exhausted.put noneOf part (some s1.now) } }).emcy 0xFF69
        (if q < 96 then plate else 0xFF) ((if q < 96 then 2 ^ 24 else 0) + q * 2 ^ 16)
  else s1

/-- The lane on which a plate transmits the queues of a port position. -/
def laneOf (plate pos : Nat) : Nat := pos + 12 * plate

/-- A port takes best-effort frames: in calibration hold or up (R281). -/
def State.laneUp (s : State) (n : Nat) : Bool :=
  decide ((s.port (s.portNumber n)).link = 4) || decide ((s.port (s.portNumber n)).link = 5)

/-- An admission decision: admitted, refused for link down, or dropped. -/
inductive Admission where
  | admitted
  | linkDown
  | dropped
deriving DecidableEq, Repr

/-- The decision of R273 for a frame of `k` cells and base colour `c0` (2 when its source is severe) on a queue. -/
def State.decideEntry (s : State) (plate q k : Nat) (c0 : Colour) (metered : Bool) : State × Admission × Colour :=
  let down := decide (q < 96) && !s.laneUp (laneOf plate (q / 8))
  let (s1, out) := if c0 = 2 ∨ !metered then (s, false) else s.meter plate q k
  let c : Colour := if c0 = 2 then 2 else if out then 1 else 0
  if down then (s1.bumpKey (queueKey plate q 0x0F) 1, .linkDown, c)
  else if c ≠ 2 ∧ s1.cellsIn plate q false + k ≤ s1.reservation q then
    (s1.bumpKey (queueKey plate q 0x0B) 1, .admitted, c)
  else
    let h := s1.sharedUse plate q
    let cap := s1.objW q 0x2801 3
    let side := decide (q < 96)
    let free := s1.poolSize side - s1.poolUse plate side
    if cap < h + k ∨ free < k then (s1.countDrop plate q c (decide (free < k)), .dropped, c)
    else
      let key := lfsrKey plate side
      let v := Config.lfsrNext (s1.fabric.lfsr.look (fun _ => 0) key) % 2 ^ 32
      let s2 : State := { s1 with fabric := { s1.fabric with lfsr := s1.fabric.lfsr.put (fun _ => 0) key v } }
      if redFails (s2.objW q 0x2801 (6 + c)) h k cap v then (s2.countDrop plate q c false, .dropped, c)
      else (s2.bumpKey (queueKey plate q 0x0B) 1, .admitted, c)

/-- Peak occupancy follows the occupancy (Table 10.9). -/
def State.notePeak (s : State) (plate q : Nat) : State :=
  let o := s.cellsIn plate q false + s.cellsIn plate q true
  if (s.objKey (queueKey plate q 0x0A)).toNat < o then s.setKey (queueKey plate q 0x0A) o else s

/-- Accesses of this slot that writes of admitted frames have left: 62 less the step charge and less those already used (R278). -/
def State.slotAllowance (s : State) : Nat :=
  (62 - (s.plan.serveCharge s.reelSlot).1) - (if s.fabric.written.1 = s.absSlot then s.fabric.written.2 else 0)

/-- `k` cells are written in this slot. -/
def State.useSlot (s : State) (k : Nat) : State :=
  { s with fabric := { s.fabric with written := (s.absSlot, (if s.fabric.written.1 = s.absSlot then s.fabric.written.2 else 0) + k) } }

/-- Room for the cells of an admitted frame (R278): those that cannot be written in this slot, behind all that wait, go to the staging
area of 1,024 cells; without room there the frame is dropped whole. -/
def State.stage (s : State) (k : Nat) : State × Bool :=
  let now := if s.fabric.staging = 0 then Nat.min k s.slotAllowance else 0
  let wait := s.fabric.staging + (k - now)
  if wait ≤ 1024 then
    let t := s.useSlot now
    ({ t with fabric := { t.fabric with staging := wait } }, true)
  else
    let s1 := s.bump 0x2800 9
    ({ s1 with fabric := { s1.fabric with reelDrops := s1.fabric.reelDrops + 1 } }, false)

/-- EMCY 0xFF68 once per reel in which drops occur (R278). DESIGN CHOICE: at the first drop of the reel, with the count so far (log 96). -/
def State.stagingReport (s : State) : State :=
  if s.fabric.reelDrops = 0 ∨ s.fabric.stagingSent then s
  else ({ s with fabric := { s.fabric with stagingSent := true } }).emcy 0xFF68 0xFF s.fabric.reelDrops

/-- The copy of a plate enters its queue. -/
def State.enqueue (s : State) (plate q : Nat) (f : QFrame) (c : Colour) : State :=
  let l := s.queue plate q
  let g : QFrame := { f with red := decide (c = 2), headAt := if l.isEmpty then some s.now else none }
  (s.setQueue plate q (l ++ [g])).notePeak plate q

/-- A refused or dropped copy completes its TX entry with 0x05 (R281, R282). -/
def State.copyLost (s : State) (plate q : Nat) (f : QFrame) : State :=
  match f.request with
  | none => s
  | some id => s.txComplete (laneOf plate (q / 8)) id 5 f.copy 0

/-- The octets of a best-effort frame for its digest (log 98). -/
def QKind.octets : QKind → Octets
  | .forwarded f => beOctets 1 0 ++ f
  | .host f => beOctets 1 1 ++ f
  | .esmc q => beOctets 1 2 ++ beOctets 2 q
  | .lldp f => beOctets 1 3 ++ f
  | .upstream i k v => beOctets 1 4 ++ beOctets 1 i ++ (match k with | some e => beOctets 1 e.1 ++ beOctets 4 e.2 | none => []) ++ v
  | .pdelay i => beOctets 1 5 ++ beOctets 1 i
  | .supervision => beOctets 1 6
  | .message o => beOctets 1 7 ++ o

/-- An offer joins the digest of the exposure (Table 14.3, point 0x02): frame, queue set, colour, PRP sequence number. -/
def State.noteOffer (s : State) (plates : List Nat) (q : Nat) (f : QFrame) (c : Colour) : State :=
  let o := f.kind.octets ++ beOctets 2 f.octets ++ beOctets 1 q ++ beOctets 1 plates.length ++ beOctets 1 c ++ beOctets 2 (f.prp.getD 0)
  { s with fabric := { s.fabric with offered := crc64From s.fabric.offered o } }

/-- A best-effort frame offered to a side queue on the plates named (R273, R278, R282): each plate decides for its own queue; the
frame is staged once. -/
def State.offer (s0 : State) (plates : List Nat) (q : Nat) (f : QFrame) (c0 : Colour) (metered : Bool) : State :=
  let s := s0.noteOffer plates q f c0
  let (t, ds) := plates.foldl (fun (acc : State × List (Nat × Admission × Colour)) p =>
    let (u, a, c) := acc.1.decideEntry p q f.cells c0 metered
    (u, acc.2 ++ [(p, a, c)])) (s, [])
  let any := ds.any fun d => decide (d.2.1 = .admitted)
  let (t1, room) := if any then t.stage f.cells else (t, true)
  let t2 := ds.foldl (fun (s : State) (d : Nat × Admission × Colour) =>
    if d.2.1 = .admitted ∧ room then s.enqueue d.1 q f d.2.2 else s.copyLost d.1 q f) t1
  if room then t2 else t2.stagingReport

/-- A port position whose lanes form a PRP pair (R364). -/
def State.isPrp (s : State) (pos : Nat) : Bool := decide (s.obj (0x2C40 + pos) 1 = 1)

/-- The sequence counter of a PRP pair advances (R317, R365). -/
def State.prpAdvance (s : State) (pos : Nat) : State :=
  if s.isPrp pos then s.setObj (0x2C40 + pos) 8 ((s.obj (0x2C40 + pos) 8 + 1) % 65536 : Nat) else s

/-- The number that a frame takes at its offer on a position (R365), and the octets of its trailer. -/
def State.prpNumber (s : State) (pos : Nat) : Option Nat := if s.isPrp pos then some (s.obj (0x2C40 + pos) 8) else none
def State.prpOctets (s : State) (pos : Nat) : Nat := if s.isPrp pos then 6 else 0

/-- A frame of the engine's own: untagged, so it takes the untagged priority (R272). -/
def engineFrame (k : QKind) (octets : Nat) (request : Option Nat) : QFrame :=
  { kind := k, cells := cellsOf octets, octets := octets, length := octets, request := request }

/-- A frame of the engine's own for a position, with its trailer on a PRP pair (R365). -/
def State.positionFrame (s : State) (pos : Nat) (k : QKind) (octets : Nat) (request : Option Nat) : QFrame :=
  { engineFrame k (octets + s.prpOctets pos) request with prp := s.prpNumber pos }

/-- A frame of the engine's own on one lane. -/
def State.offerEngine (s : State) (lane : Nat) (k : QKind) (octets : Nat) (request : Option Nat) : State :=
  (s.prpAdvance (lane % 12)).offer [lane / 12] (8 * (lane % 12) + s.obj 0x2800 7) (s.positionFrame (lane % 12) k octets request) 0 true

/-- A frame of the engine's own on a port position: each running plate on its own lane. -/
def State.offerPosition (s : State) (pos : Nat) (k : QKind) (octets : Nat) (request : Option Nat) : State :=
  (s.prpAdvance pos).offer s.running (8 * pos + s.obj 0x2800 7) (s.positionFrame pos k octets request) 0 true

/-- A queue loses its head; the next frame reaches the head now. -/
def State.popQueue (s : State) (plate q : Nat) : State :=
  match s.queue plate q with
  | [] => s
  | _ :: [] => s.setQueue plate q []
  | _ :: g :: r => s.setQueue plate q ({ g with headAt := some s.now } :: r)

/-- The best-effort frame in transmission on a lane is flushed with the queues: counted, its entry completed with 0x03 (R281). -/
def State.flushSending (s : State) (n : Nat) : State :=
  let p := s.port n
  match p.sending with
  | none => s
  | some f =>
    let t := s.setPort n { p with sending := none }
    if p.busyUntil ≤ s.now then t
    else
      let u := t.bump (0x3400 + n) 0x1D
      match f.request with
      | none => u
      | some id => (u.setPort n { u.port n with started := (u.port n).started.dropLast }).txComplete n id 3 f.copy 0

/-- The queues of a lane's port are flushed, with the frame in transmission (R281). -/
def State.flushLane (s0 : State) (n : Nat) : State :=
  let s := s0.flushSending n
  let pl := n / 12
  let pos := n % 12
  (List.range 8).foldl (fun s c =>
    let q := 8 * pos + c
    let l := s.queue pl q
    let s1 := (s.setQueue pl q []).bumpBy (0x3400 + n) 0x1D l.length
    l.foldl (fun (t : State) (f : QFrame) => match f.request with
      | none => t
      | some id => t.txComplete n id 3 f.copy 0) s1) s

/-- Where cross-drive ends between two states, what waits on the lane that it crossed to is flushed (R378). -/
def State.endCross (s t : State) : State :=
  (List.range 12).foldl (fun (u : State) pos =>
    if s.crossed pos && !t.crossed pos then u.flushLane (pos + 12 * (1 - s.twin.active)) else u) t

/-- The group 0x08 set agrees (R274): pools, and reservations and caps by queue; MTUs in force. -/
def State.buffersAgree (s : State) (sc se : Int) (res cap : Nat → Int) : Bool :=
  let mtuCells (n : Nat) : Int := (ceilDiv (s.obj (0x3400 + n) 4 + 8) 256 : Nat)
  let lanesOf (q : Nat) : List Nat :=
    if q < 96 then [q / 8, q / 8 + 12] else (List.range 24).filter fun n => decide (s.obj (0x3400 + n) 1 = 1)
  decide (1024 + ((List.range 99).map res).sum + sc + se = 262144)
    && ((List.range 99).all fun q =>
      decide (40 ≤ res q ∧ res q ≤ 65535) && ((lanesOf q).all fun n => decide (mtuCells n ≤ res q))
        && decide (cap q ≤ if q < 96 then se else sc))

end Sys2Proof.Machine
end

