-- ==== Sys2Proof/Machine/PlanOps.lean ====
section
/-! DEFINITION. The plan in force: its steps by slot, readiness of domains, skipped work, and the binding of requests (R30,
R31, R37 to R49). -/

namespace Sys2Proof.Machine

/-! ### Plans and steps -/

/-- The plan that waits in the other bank (R62): checked or scheduled. -/
def State.waitingPlan (s : State) : Option Plan :=
  if s.plans.status = 3 ∨ s.plans.status = 5 then s.bank (1 - s.plans.active) else none

/-- An image over 4,194,304 octets is refused by rule 2: its code, and no row or slot (R63). -/
def State.planOversize (s : State) : State :=
  { s with plans := { s.plans with lastCode := 0x0A1E0031, failRow := 0xFFFF, failSlot := 0xFFFFFFFF } }

def Plan.row (p : Plan) (kind idx : Nat) : Option PlanRow := p.rows.find? fun r => decide (r.kind = kind ∧ r.idx = idx)

/-- The step of a row that begins in a reel slot (R40). -/
def PlanRow.stepAt (r : PlanRow) (slot : Nat) : Option PlanStep :=
  r.steps.find? fun x => decide (x.offset = slot % Nat.max 1 r.period)

/-- Rows and opcodes of the ROM plan (R419): the Developer, the wake controller and AES-SIV cluster 0. Its offsets and operands
are not given: a step of these begins in the slot of its command, with an open operand (log 19). -/
def romSteps : List (Nat × Nat × Nat) := [(5, 0, 0x40), (5, 0, 0x41), (2, 0, 0x22), (2, 0, 0x23), (6, 0, 0x50), (6, 0, 0x51)]

/-- The step of the plan in force that begins in the present slot on a row, if its opcode is `op`. -/
def State.stepNow (s : State) (kind idx op : Nat) : Option PlanStep :=
  if s.time.gate then none
  else if s.plan.rom then
    (if romSteps.contains (kind, idx, op) then some ⟨s.reelSlot, op, Config.romOperand op s.reelSlot⟩ else none)
  else match s.plan.row kind idx with
  | none => none
  | some r => match r.stepAt s.reelSlot with
    | none => none
    | some x => if x.opcode = op then some x else none

/-- Cycle 0 of an exposure of the reel, its boundary's work done (R8). -/
def State.atStartOf (s : State) (exposure : Nat) : Bool :=
  decide (s.clock.exposure = exposure ∧ s.clock.cycle = 0) && !s.clock.exposureDue && !s.clock.reelDue

/-- Steps of a row per reel with an opcode. -/
def PlanRow.perReel (r : PlanRow) (keep : PlanStep → Bool) : Nat := (r.steps.filter keep).length * (reelSlots / Nat.max 1 r.period)

/-- The operand's port position (Table 2.7). -/
def PlanStep.pos (x : PlanStep) : Nat := field x.operand 23 16

/-- Steps per reel of an opcode for a position: *E*_p, *G*_p (R305). -/
def Plan.stepsFor (p : Plan) (op pos : Nat) : Nat :=
  ((p.rows.filter fun r => decide (r.kind = 1)).map fun r => r.perReel fun x => decide (x.opcode = op ∧ x.pos = pos)).sum

/-! ### Domains (R30, R31, R48) -/

def domainKey (cls idx : Nat) : Nat := 64 * cls + idx
def State.domain (s : State) (cls idx : Nat) : Domain := s.plans.domains.look (fun _ => {}) (domainKey cls idx)
def State.setDomain (s : State) (cls idx : Nat) (d : Domain) : State :=
  { s with plans := { s.plans with domains := s.plans.domains.put (fun _ => {}) (domainKey cls idx) d } }

/-- Wake latency in cycles of a class (Table 2.4); a lane's takes the negotiated wake time. -/
def State.wakeCycles (s : State) (cls idx : Nat) : Nat :=
  match cls with
  | 1 => 2000
  | 2 => 500
  | 3 => 500
  | 4 => 20000
  | 5 => Nat.max 4000 (Nat.max (s.ports.look (fun _ => {}) idx).wakeNs (s.ports.look (fun _ => {}) (idx + 12)).wakeNs)
  | _ => 100000

/-- Sleep-entry slots of a class (Table 2.4). -/
def sleepSlots : Nat → Nat
  | 1 => 4
  | 2 => 1
  | 3 => 1
  | 6 => 64
  | _ => 16

/-- A lane of a position that stands in LPI, beside a partner that may be kept awake (R49). -/
def State.laneLow (s : State) (pos : Nat) : Bool :=
  (s.ports.look (fun _ => {}) pos).lpi || (s.ports.look (fun _ => {}) (pos + 12)).lpi

/-- A domain begins to wake; a lane in LPI wakes although its partner kept the domain awake. -/
def State.wakeDomain (s : State) (cls idx : Nat) : State :=
  let d := s.domain cls idx
  if d.awake && !(decide (cls = 5) && s.laneLow idx) then s
  else
    let s1 := s.setDomain cls idx { d with awake := true, readyAt := s.now + s.wakeCycles cls idx }
    if cls = 5 then
      [idx, idx + 12].foldl (fun (s : State) n =>
        { s with ports := s.ports.put (fun _ => {}) n { s.ports.look (fun _ => {}) n with lpi := false } }) s1
    else s1

/-- The error line of a domain (Table 15.1). -/
def domainLine (cls idx : Nat) : Nat :=
  match cls with
  | 1 => 8 * idx
  | 2 => 64 + idx
  | 3 => 72 + idx
  | 4 => 120 + idx
  | 5 => 144 + idx
  | _ => 232 + idx

/-- Ready at this cycle: awake for its latency, and not held not ready (R31, R394, R428). -/
def State.domainReady (s : State) (cls idx : Nat) : Bool :=
  (s.domain cls idx).awake && decide ((s.domain cls idx).readyAt ≤ s.now) && !s.lineNotReady (domainLine cls idx)

/-- A serving engine can work: its group is ready, the engine is not held, its group is not being re-initialised or stopped by
the watchdog. -/
def State.engineReady (s : State) (eng : Nat) : Bool :=
  s.domainReady 1 (eng / 8) && !s.lineNotReady eng && !s.boot.reinit.contains (0x0700 + eng / 8)
    && !bit (s.obj 0x2F22 3) (eng / 8 + 8)

/-- Work skipped in its slot (R31): counted on each running plate, a contained fault of the domain. -/
def State.skip (s : State) (line : Nat) : State :=
  (s.running.foldl (fun (s : State) p => s.bumpP p 0x2102 1) s).containedBoth line 0

/-- A serving engine's step is skipped; its group is noted for the watchdog (R427). -/
def State.skipEngine (s : State) (eng : Nat) : State :=
  let t := s.skip eng
  { t with boot := { t.boot with groupSkippedNow := putBit t.boot.groupSkippedNow (eng / 8) true } }

/-- The frames that an engine's step `slots` slots before this one built, not yet handed over. -/
def Scheduled.fromStep (f : Scheduled) (eng slots now : Nat) : Bool :=
  decide (f.eng = eng) && !f.handed && decide (f.built / 64 + slots = now / 64)

/-- The frames that depend on skipped work are no longer whole. -/
def State.spoil (s : State) (eng slots : Nat) : State :=
  { s with plans := { s.plans with live := s.plans.live.map fun f => if f.fromStep eng slots s.now then { f with whole := false } else f } }

/-- Every frame of an engine that has not been handed over loses its work. -/
def State.spoilEngine (s : State) (eng : Nat) : State :=
  { s with plans := { s.plans with live := s.plans.live.map fun f => if f.eng = eng ∧ !f.handed then { f with whole := false } else f } }

/-! ### Binding (R42) -/

/-- The work class of a queued request: the opcode of the steps it can bind to. -/
def classOf (f : RxFrame) : Nat :=
  match f.payload with
  | .ntp .. => 0x10
  | _ => 0x12

/-- The first occurrence of a step at or after an absolute slot. -/
def firstFrom (offset period q0 : Nat) : Nat :=
  let p := Nat.max 1 period
  q0 + ((offset + p - q0 % p) % p)

/-- The first occurrence that is not taken. -/
def freeFrom (period : Nat) (taken : List Nat) : Nat → Nat → Nat
  | 0, q => q
  | n + 1, q => if taken.contains q then freeFrom period taken n (q + Nat.max 1 period) else q

/-- The requests of both common request queues. -/
def State.requests (s : State) : List Request := s.fabric.nts ++ s.fabric.ptp

/-- The earliest unbound step for a request (R42): start slot and serving engine, the lower engine on a tie. Steps of groups 4 to 7
are absent while thermal shedding runs (R467). -/
def State.earliestStep (s : State) (op pos q0 : Nat) : Option (Nat × Nat) :=
  let bound := s.requests.filterMap fun (r : Request) => r.bound
  s.plan.rows.foldl (fun best r =>
    if r.kind ≠ 1 ∨ (s.faults.shedding ∧ 32 ≤ r.idx) then best
    else
      let taken := (bound.filter fun b => decide (b.2 = r.idx)).map Prod.fst
      r.steps.foldl (fun best x =>
        if x.opcode ≠ op ∨ x.pos ≠ pos then best
        else
          let q := freeFrom r.period taken (taken.length + 1) (firstFrom x.offset r.period q0)
          match best with
          | none => some (q, r.idx)
          | some (b, e) => if q < b ∨ (q = b ∧ r.idx < e) then some (q, r.idx) else some (b, e)) best) none

/-- The 50 exposures of R42 after a delivery, as cycles (log 72). -/
def requestLife : Nat := 50000000

/-- A request bound to the earliest step at least 2 slots after the slot of its delivery and not before slot `q0`, if one starts
within 50 exposures of its delivery (R42). -/
def State.bindOne (s : State) (r : Request) (q0 : Nat) : Request :=
  match s.earliestStep (classOf r.frame) (r.lane % 12) (Nat.max q0 (r.delivered / 64 + 2)) with
  | none => { r with bound := none }
  | some b => { r with bound := if 64 * b.1 < r.delivered + requestLife then some b else none }

def State.setRequest (s : State) (n : Nat) (r : Request) : State :=
  let k := s.fabric.nts.length
  if n < k then { s with fabric := { s.fabric with nts := s.fabric.nts.set n r } }
  else { s with fabric := { s.fabric with ptp := s.fabric.ptp.set (n - k) r } }

/-- Every waiting request is bound anew, in delivery order (R67). -/
def State.rebind (s : State) : State :=
  let clear : State := { s with fabric := { s.fabric with nts := s.fabric.nts.map fun r => { r with bound := none },
                                                          ptp := s.fabric.ptp.map fun r => { r with bound := none } } }
  (List.range clear.requests.length).foldl (fun (s : State) n =>
    match s.requests[n]? with
    | none => s
    | some r => s.setRequest n (s.bindOne r s.absSlot)) clear

/-- The request bound to the step that begins now on an engine, and the state without it (its cells are freed, R280). -/
def State.takeBound (s : State) (eng : Nat) : State × Option Request :=
  let hit (r : Request) : Bool := decide (r.bound = some (s.absSlot, eng))
  match s.requests.find? hit with
  | none => (s, none)
  | some r => ({ s with fabric := { s.fabric with nts := s.fabric.nts.filter (fun x => !hit x),
                                                  ptp := s.fabric.ptp.filter (fun x => !hit x) } }, some r)

end Sys2Proof.Machine
end

