-- ==== Sys2Proof/Machine/KeyOps.lean ====
section
/-! DEFINITION. Key slots: fetches, the key tree, invalidation, zeroisation, the generation and association tables (R320 to
R336). -/

namespace Sys2Proof.Machine

def State.slot (s : State) (n : Nat) : Slot := s.keys.slots.look (fun _ => {}) n
def State.setSlot (s : State) (n : Nat) (x : Slot) : State :=
  { s with keys := { s.keys with slots := s.keys.slots.put (fun _ => {}) n x } }

/-- Units by the bits of an engine mask (Table 12.1). -/
def unitAes : Nat := 0
def unitHmac : Nat := 1
def unitVerifier : Nat := 2
def unitWrap : Nat := 3

/-- The state of a slot as 0x2A01.02 reads it: a valid slot is expired from its expiry on. -/
def State.slotState (s : State) (n : Nat) : Nat :=
  let x := s.slot n
  if x.state = 1 ∧ x.expiry ≠ 0 ∧ x.expiry ≤ s.taiSecond then 2 else x.state

/-- The status of a fetch by a unit (Table 12.2). -/
def State.fetchStatus (s : State) (n unit : Nat) : Nat :=
  let st := s.slotState n
  if st = 0 then 1 else if st = 3 ∨ st = 4 then 2 else if st = 2 then 3
  else if bit (s.slot n).mask unit then 0 else 4

/-- A key fetch (R322): counted on the slot, or as refused. -/
def State.fetchKey (s : State) (n unit : Nat) : State × Option Octets :=
  let x := s.slot n
  let st := s.fetchStatus n unit
  if st = 0 then (s.setSlot n { x with uses := Nat.min (x.uses + 1) 0xFFFFFFFF }, some x.key)
  else ((s.setSlot n { x with refused := st }).bump 0x2A00 8, none)

/-- Whether `n` descends from `a`, or is `a`: at most seven links (Table 12.1). -/
def State.descends (s : State) (a : Nat) : Nat → Nat → Bool
  | 0, n => decide (n = a)
  | k + 1, n => decide (n = a) || (decide (n ≠ 0) && State.descends s a k (s.slot n).parent)

/-- The next generation: modulo 2¹⁶, skipping 0. -/
def nextGeneration (g : Nat) : Nat := if (g + 1) % 65536 = 0 then 1 else (g + 1) % 65536

/-- XOR of two octet strings, the shorter padded with zeros. -/
def xorOctets (a b : Octets) : Octets :=
  List.zipWith (fun x y => x ^^^ y) (padTo b.length a) (padTo a.length b)

/-- A draw of 64 octets from a plate's DRBG. -/
def State.drawMask (s : State) : Octets × State :=
  (Config.drbg s.keys.drawn, { s with keys := { s.keys with drawn := s.keys.drawn + 1 } })

/-! ### The generation table (R334, R335) -/

def State.generationEntry (s : State) (k : Nat) : Nat := s.obj 0x2A10 k
def entryValid (w : Nat) : Bool := bit w 31
def entryCurrent (w : Nat) : Bool := bit w 31 && bit w 30
def entrySlot (w : Nat) : Nat := field w 27 16

/-- The current entry, if any. -/
def State.currentEntry (s : State) : Option Nat :=
  (((List.range 16).map fun k => s.generationEntry (k + 1)).find? entryCurrent)

/-- The current generation's slot is unusable: EMCY 0xFF82 once for the event (R335). -/
def State.checkCurrent (s : State) : State :=
  match s.currentEntry with
  | none => s
  | some w =>
    let st := s.fetchStatus (entrySlot w) unitAes
    if st = 0 then { s with keys := { s.keys with unusableSent := false } }
    else if s.keys.unusableSent then s
    else ({ s with keys := { s.keys with unusableSent := true } }).emcy 0xFF82 0xFF (entrySlot w * 65536 + st * 256)

/-- Any NTP instance enabled, or to be enabled. -/
def State.ntpEnabled (s : State) : Bool :=
  (List.range 8).any fun j => (s.serve.pendEnable.look noneOf (16 + j)).getD (decide (s.obj (0x2920 + j) 1 = 1))

/-! ### Associations (R336) -/

def State.association (s : State) (k : Nat) : Association := s.keys.associations.look (fun _ => {}) k

/-- The slot of an SPP and keyID, if a valid entry matches. -/
def State.associated (s : State) (spp keyId : Nat) : Option Nat :=
  match (List.range 64).find? fun k => (s.association k).valid && decide ((s.association k).spp = spp ∧ (s.association k).keyId = keyId) with
  | none => none
  | some k => some (s.association k).slot

/-- The lowest valid entry that names a slot: its SPP and keyID (R336). -/
def State.entryOfSlot (s : State) (n : Nat) : Option (Nat × Nat) :=
  match (List.range 64).find? fun k => (s.association k).valid && decide ((s.association k).slot = n) with
  | none => none
  | some k => some ((s.association k).spp, (s.association k).keyId)

def Association.octets (a : Association) : Octets :=
  beOctets 1 (128 * bitNat a.valid) ++ beOctets 1 a.spp ++ beOctets 4 a.keyId ++ beOctets 2 a.slot ++ beOctets 2 a.generation

/-! ### Zeroisation (R331) -/

/-- The period of the 32.768 kHz clock at this cycle (R447). -/
def State.slowPeriod (s : State) : Nat := s.now * 32768 / 1000000000

/-- The root and every key are erased; the generations stay (R320: a slot that has never held a key has generation 0). Triggers that fall
in one period of the 32.768 kHz clock make one event (R447): `cause` is the lowest of them. -/
def State.zeroise (s : State) (cause : Nat) : State :=
  let erased : Table Slot := s.keys.slots.foldl (fun t (e : Nat × Slot) =>
    t.put (fun _ => {}) e.1 { generation := e.2.generation }) []
  let s1 : State := { s with keys := { s.keys with slots := erased, associations := [], erasedIn := if s.serving then some s.slowPeriod else s.keys.erasedIn },
                             darkroom := { s.darkroom with root := none, rootMask := [] } }
  if s.serving = true ∧ s.keys.erasedIn = some s.slowPeriod then s1
  else
  let s2 := (List.range 16).foldl (fun (s : State) k => s.setObj 0x2A10 (k + 1) 0) s1
  let s3 := (s2.takeEffect (okey 0 0 0x2A30 3) ((s2.obj 0x2A30 3 + 1) % 2 ^ 32 : Nat)).takeEffect (okey 0 0 0x2A30 4) (toTime112 s2.tai)
  s3.report 0xFF 0x06 0xFFFF 0xFF80 0xFF (cause * 2 ^ 24)

/-- The key-wrap unit or verifier passes its known-answer test: its block is not held not ready (R338, R394; log 21). -/
def State.wrapUnitOk (s : State) : Bool := !s.lineNotReady 143

/-- A failed known-answer test of the key-wrap unit (3) or the verifier (4) (R338). -/
def State.wrapUnitFailed (s : State) (unit : Nat) : State :=
  (s.containedBoth 143 unit).emcy 0xFF81 s.twin.active (unit * 2 ^ 24)

/-- The engine mask is legal (R321). -/
def maskOk (m : Nat) : Bool := decide (m ≠ 0 ∧ m < 16) && (!bit m 2 || decide (m = 4))

end Sys2Proof.Machine
end

