-- ==== Sys2Proof/Machine/FaultOps.lean ====
section
/-! DEFINITION. The counting classifier and divergences (R372, R395 to R398). -/

namespace Sys2Proof.Machine

/-- A divergence (R372): counted, recorded, EMCY 0xFFA1 once an exposure; the demotion follows at the next boundary. -/
def State.diverge (s : State) (point detail : Nat) : State :=
  let t := (s.bump 0x2C00 6).setObj 0x2C00 0x0C (point % 256 * 2 ^ 24 + detail % 256 * 2 ^ 16 + s.clock.exposure % 65536 : Nat)
  let u := [0, 1].foldl (fun (u : State) p => u.setPlate p { u.plate p with divergences := (u.plate p).divergences + 1 }) t
  let v : State := { u with twin := { u.twin with diverged := true, divergenceSent := true } }
  if s.twin.divergenceSent then v
  else v.report 0xFF 0x06 0xFFFF 0xFFA1 0xFF (point % 256 * 2 ^ 24 + detail % 256 * 2 ^ 16 + s.clock.exposure % 65536)

def State.addressSource (s : State) (h : Nat) : Source := s.faults.addresses.look (fun _ => {}) h
def State.setAddressSource (s : State) (h : Nat) (x : Source) : State :=
  { s with faults := { s.faults with addresses := s.faults.addresses.put (fun _ => {}) h x } }
def State.laneSource (s : State) (n : Nat) : Source := s.faults.lanes.look (fun _ => {}) n
def State.setLaneSource (s : State) (n : Nat) (x : Source) : State :=
  { s with faults := { s.faults with lanes := s.faults.lanes.put (fun _ => {}) n x } }

/-- The entry of an address (R397): CRC-32C of the seed and the 16 address octets. -/
def State.addressHash (s : State) (addr : Nat) : Nat := crc32c (beOctets 4 s.faults.hashSeed ++ beOctets 16 addr)
def State.addressEntry (s : State) (addr : Nat) : Nat := s.addressHash addr % 65536

/-- An event in a source's window (R396): the source, and whether the count has just reached the threshold. -/
def Source.event (x : Source) (now window threshold hold : Nat) : Source × Bool :=
  let y : Source := if x.count = 0 ∨ x.windowStart + window < now then { x with windowStart := now, count := 1 } else { x with count := x.count + 1 }
  if y.count = threshold then ({ y with severeUntil := some (now + hold) }, true) else (y, false)

/-- The change to severe is counted, reported and recorded (R396). -/
def State.becomesSevere (s : State) (lane : Bool) (id : Nat) : State :=
  (s.bump 0x2D20 8).report 0xFF 0x07 0xFFFF 0xFFB5 0xFF (bitNat lane * 2 ^ 24 + id % 2 ^ 24)

/-- An event against an address (R396, R397). -/
def State.addressEvent (s : State) (addr : Nat) : State :=
  let e := s.addressEntry addr
  let x := s.addressSource e
  if x.tracked ∧ x.address ≠ addr ∧ x.severeUntil.isSome then s.bump 0x2D20 0x0A
  else
    let x0 : Source := if x.tracked ∧ x.address = addr then x else { address := addr, tracked := true }
    let (y, hit) := x0.event s.now (s.obj 0x2D20 2 * 1000000000) (s.obj 0x2D20 1) (s.obj 0x2D20 3 * 1000000000)
    let t := s.setAddressSource e y
    if hit ∧ x0.severeUntil.isNone then t.becomesSevere false (s.addressHash addr) else t

/-- An event against a lane. -/
def State.laneEvent (s : State) (n : Nat) : State :=
  let x := s.laneSource n
  let (y, hit) := x.event s.now (s.obj 0x2D20 2 * 1000000000) (s.obj 0x2D20 4) (s.obj 0x2D20 3 * 1000000000)
  let t := s.setLaneSource n y
  if hit ∧ x.severeUntil.isNone then t.becomesSevere true n else t

/-- An authentication failure, malformed request or rate excess, counted against both sources (R395). -/
def State.classify (s : State) (addr lane : Nat) : State := ((s.bump 0x2D20 9).addressEvent addr).laneEvent lane

/-- A frame's source is severe for colour and rate (R398): since the last exposure boundary. -/
def State.isRed (s : State) (addr lane : Nat) : Bool :=
  (s.laneSource lane).red || ((s.addressSource (s.addressEntry addr)).red && decide ((s.addressSource (s.addressEntry addr)).address = addr))

/-- The colours follow the severity at cycle 0 of an exposure (R398). -/
def State.refreshRed (s : State) : State :=
  let f (t : Table Source) : Table Source := t.foldl (fun u (e : Nat × Source) => u.put (fun _ => {}) e.1 { e.2 with red := e.2.severeUntil.isSome }) []
  { s with faults := { s.faults with addresses := f s.faults.addresses, lanes := f s.faults.lanes } }

/-- The return from severe makes a contact sheet entry only (R396). -/
def State.released (s : State) (lane : Bool) (id : Nat) : State := s.record 0xFF 0x07 0xFFFF 0 (bitNat lane * 2 ^ 24 + id % 2 ^ 24)

end Sys2Proof.Machine
end

