-- ==== Sys2Proof/Machine/ServeOps.lean ====
section
/-! DEFINITION. Serving: instances, bounds and quality in replies, client records, calendars, grants and rate buckets (R287 to
R318). -/

namespace Sys2Proof.Machine

/-! ### Instances (R287, R300) -/

/-- Index of PTP instance `i` and NTP instance `j`. -/
def ptpIdx (i : Nat) : Nat := 0x2910 + i
def ntpIdx (j : Nat) : Nat := 0x2920 + j
def State.ptpOn (s : State) (i : Nat) : Bool := decide (s.obj (ptpIdx i) 1 = 1)
def State.ntpOn (s : State) (j : Nat) : Bool := decide (s.obj (ntpIdx j) 1 = 1)
def State.profile (s : State) (i : Nat) : Nat := s.obj (ptpIdx i) 2
def State.authOn (s : State) (i : Nat) : Bool := decide (s.obj (ptpIdx i) 0x11 = 1)

/-- Multicast destinations that the profiles name (Table 11.6). -/
def profileMac (prof : Nat) : List Nat := if prof = 6 then [0x0180C200000E] else [0x011B19000000, 0x0180C200000E]

/-- Whether an address reaches a PTP instance at a position (R287). -/
def State.ptpAddressed (s : State) (i pos : Nat) (f : RxFrame) (layer2 : Bool) : Bool :=
  s.ptpOn i && bit (s.obj (ptpIdx i) 3) pos &&
    (if s.obj (ptpIdx i) 5 = 0 then layer2 && (decide (f.dst = s.obj 0x2702 (pos + 1)) || (profileMac (s.profile i)).contains f.dst)
     else !layer2 && decide (f.service = s.obj (ptpIdx i) 6))

def State.ntpAddressed (s : State) (j pos : Nat) (f : RxFrame) : Bool :=
  s.ntpOn j && bit (s.obj (ntpIdx j) 2) pos && decide (f.service = s.obj (ntpIdx j) 3)

/-- A service address of some enabled instance, whatever the position (R272). -/
def State.isServiceAddress (s : State) (f : RxFrame) : Bool :=
  (List.range 8).any fun i =>
    (s.ptpOn i && (if s.obj (ptpIdx i) 5 = 0 then ((List.range 12).any fun p => decide (f.dst = s.obj 0x2702 (p + 1))) || (profileMac (s.profile i)).contains f.dst
      else decide (f.service = s.obj (ptpIdx i) 6))) || (s.ntpOn i && decide (f.service = s.obj (ntpIdx i) 3))

/-- The PTP instance of a message: of the same domain first. -/
def State.ptpInstance (s : State) (pos : Nat) (f : RxFrame) (layer2 : Bool) (domain : Nat) : Option Nat :=
  let c := (List.range 8).filter fun i => s.ptpAddressed i pos f layer2
  match c.find? fun i => decide (s.obj (ptpIdx i) 4 = domain) with
  | some i => some i
  | none => c.head?

def State.ntpInstance (s : State) (pos : Nat) (f : RxFrame) : Option Nat := (List.range 8).find? fun j => s.ntpAddressed j pos f

def State.position (s : State) (i pos : Nat) : Position := s.serve.positions.look (fun _ => {}) (16 * i + pos)
def State.setPosition (s : State) (i pos : Nat) (x : Position) : State :=
  { s with serve := { s.serve with positions := s.serve.positions.put (fun _ => {}) (16 * i + pos) x } }

/-- Constraints of a profile (Table 11.6): transports, domains, Sync and Announce intervals, unicast negotiation, multicast. -/
structure Profile where
  transports : List Nat
  domainLo : Nat
  domainHi : Nat
  domain : Nat
  syncLo : Int
  syncHi : Int
  sync : Int
  annLo : Int
  annHi : Int
  ann : Int
  unicast : Bool
  multicast : Bool
deriving DecidableEq, Repr

def profileOf : Nat → Profile
  | 1 => ⟨[0, 1, 2], 0, 127, 0, -7, 1, 0, -3, 3, 1, true, true⟩
  | 2 => ⟨[0, 1, 2], 0, 127, 0, -7, 0, -3, -3, 0, 0, true, true⟩
  | 3 => ⟨[0], 24, 43, 24, -4, -4, -4, -3, -3, -3, false, true⟩
  | 4 => ⟨[1, 2], 44, 63, 44, -7, 0, -4, -3, 0, -3, true, false⟩
  | 5 => ⟨[1], 0, 127, 127, -7, -1, -3, -3, 1, -2, false, true⟩
  | 6 => ⟨[0], 0, 0, 0, -7, 0, -3, 0, 0, 0, false, true⟩
  | _ => ⟨[], 0, 0, 0, 0, 0, 0, 0, 0, 0, false, false⟩

/-- asCapable (R310): only profile 0x06 can withhold Sync and Announce on a position. -/
def State.asCapable (s : State) (i pos : Nat) : Bool :=
  decide (s.profile i ≠ 6) || (decide ((s.position i pos).delayPs ≤ 800000) && decide ((s.position i pos).failed < 3))

/-! ### Bounds in replies (R291 to R296) -/

/-- Status 0x2C40+p.09. -/
def State.crossStatus (s : State) (pos : Nat) : Nat :=
  bitNat (s.crossed pos) + 2 * bitNat (s.alone && decide (s.obj 0x2C00 9 = 1) && decide (1000000 ≤ (s.crossDelta pos).natAbs))

/-- Terms 5 to 7 of a lane for a reply; with cross-drive the larger of the two lanes (R379). -/
def State.laneTerms (s : State) (n : Nat) : List Nat :=
  let one (n : Nat) : List Nat := [s.path5 n * psUnit, s.path6 n, s.obj (0x3400 + n) 9 * psUnit]
  if s.crossed (n % 12) then List.zipWith Nat.max (one n) (one ((n + 12) % 24)) else one n

/-- Term 8 (Table 6.3): within the smear window, 1 ps and 1.1574 × 10⁻⁵ of the other terms. -/
def State.term8 (s : State) (smeared : Bool) (sum : Nat) : Nat :=
  if smeared && (decide (s.leapState = 2) || decide (s.leapState = 3)) then psUnit + ceilDiv (ceilDiv (sum * 11574) 1000000000) psUnit * psUnit else 0

/-- The bound of a reply on lane `n` for time base `b` (R291). -/
def State.replyBound (s : State) (b n : Nat) (smeared : Bool) : Fetched :=
  let x := s.tableSet b
  let l := s.laneTerms n
  let t8 := s.term8 smeared (x.b.sum + l.sum)
  let more := l ++ [t8]
  ⟨boundOf x.known (x.b ++ more), uncOf x.known (x.u ++ more.map overRoot3), dominantOf (x.b ++ more), x.holdover, x.unregistered,
    x.record, s.sinceCompared x.compared⟩

/-- The chain identifier of a traceability record (R177). -/
def State.chainId (s : State) (r : Nat) : Octets :=
  if 15 < r then List.replicate 16 0
  else
    let v := s.objW r 0x2410 2
    if v = 0 then List.replicate 16 0 else padTo 16 ((Config.sha256 (beOctets 64 v)).take 16)

def State.quality (s : State) (code : Nat) : Quality := s.serve.qualities.look (fun _ => {}) code
def State.setQuality (s : State) (code : Nat) (q : Quality) : State :=
  { s with serve := { s.serve with qualities := s.serve.qualities.put (fun _ => {}) code q } }

/-- The record of Table 11.1. -/
def State.boundRecord (s : State) (f : Fetched) (smeared degraded : Bool) : Octets :=
  [0x01] ++ beOctets 1 (8 * bitNat f.holdover + 4 * bitNat f.unregistered + 2 * bitNat smeared + bitNat degraded)
    ++ beOctets 2 f.dominant ++ beOctets 6 f.b ++ beOctets 4 f.u ++ beOctets 4 f.seconds ++ s.chainId f.record ++ List.replicate 6 0

/-- The TLV that carries a record in PTP: ORGANIZATION_EXTENSION_DO_NOT_PROPAGATE, length 46, 0x2908.01 and 0x2908.02 (R295). -/
def State.recordTlv (s : State) (r : Octets) : Octets :=
  beOctets 2 0x4000 ++ beOctets 2 46 ++ beOctets 3 (s.obj 0x2908 1) ++ beOctets 3 (s.obj 0x2908 2) ++ r

/-- The extension field that carries a record in NTP: type 0x2908.03, length 44 (R295). -/
def State.recordField (s : State) (r : Octets) : Octets := beOctets 2 (s.obj 0x2908 3) ++ beOctets 2 44 ++ r

/-- clockAccuracy values from 0x17, in units of 0.1 ps (Table 11.2). -/
def accuracyLimits : List Nat :=
  [10, 25, 100, 250, 1000, 2500, 10000, 25000, 100000, 250000, 1000000, 2500000, 10000000, 25000000, 100000000, 250000000,
   1000000000, 2500000000, 10000000000, 25000000000, 100000000000, 250000000000, 1000000000000, 2500000000000, 10000000000000, 100000000000000]

/-- Position of the first limit not below `b`. -/
def firstAtLeast (b : Nat) : Nat → List Nat → Nat
  | n, [] => n
  | n, l :: r => if b ≤ l then n else firstAtLeast b (n + 1) r

def isUnknown (b : Nat) : Bool := decide (b = 0xFFFFFFFFFFFF)

def clockAccuracy (b : Nat) : Nat := if isUnknown b then 0xFE else firstAtLeast (b * 10) 0x17 accuracyLimits

/-- The least `k` with a ≤ b × 2^k, from the bit lengths. -/
def ceilLog2 (a b : Nat) : Int :=
  let k : Int := (a.log2 : Int) - b.log2
  let le (k : Int) : Bool := if 0 ≤ k then decide (a ≤ b * 2 ^ k.toNat) else decide (a * 2 ^ (-k).toNat ≤ b)
  if le (k - 1) then k - 1 else if le k then k else k + 1

/-- offsetScaledLogVariance of *u* in ps (Table 11.2). -/
def logVariance (b u : Nat) : Nat :=
  if isUnknown b then 0xFFFF
  else if u = 0 then 0
  else (clampI 0 0xFFFE (ceilLog2 (u ^ 512) (10 ^ 6144) + 0x8000)).toNat

/-- clockClass (Table 11.3). -/
def clockClass (prof : Nat) (f : Fetched) (degraded : Bool) : Nat :=
  if isUnknown f.b then 248
  else if degraded then (if prof = 3 ∨ prof = 4 then 187 else 52)
  else if f.holdover ∨ f.unregistered then 7 else 6

/-- timeSource (Table 11.2). -/
def State.timeSource (s : State) : Nat :=
  match s.inForce with
  | none => 0xA0
  | some r => if r < 16 then 0x10 else match s.refSource r with
    | 1 => 0x20
    | 2 => 0x40
    | 3 => 0x50
    | _ => 0x10

/-- The quality of a PTP message: class, accuracy, variance, traceability, source. -/
def State.ptpQuality (s : State) (i : Nat) (f : Fetched) : List Nat :=
  let d := (s.quality i).degraded
  [clockClass (s.profile i) f d, clockAccuracy f.b, logVariance f.b f.u,
   bitNat (!d && !isUnknown f.b && decide (s.chainId f.record ≠ List.replicate 16 0)), s.timeSource]

/-- NTP root dispersion (Table 11.2). -/
def rootDispersion (b : Nat) : Nat := if isUnknown b then 0xFFFFFFFF else Nat.min (ceilDiv (b * 65536) (10 ^ 12)) 0xFFFFFFFF

/-- A leap announced within a day: 1 inserted, 2 omitted (R300, Table 11.12). -/
def State.leapSoon (s : State) : Nat :=
  match s.leaps with
  | [] => 0
  | l :: _ =>
    let d := (l.second : Int) * second32 - s.base32 0
    if 0 < d ∧ d ≤ 86400 * second32 then (if l.before < l.after then 1 else 2) else 0

/-! ### Timestamps (R244, R297) -/

/-- *T*_pre of a mode in 0.01 ps (Table 9.1). -/
def preamble : Nat → Nat
  | 1 => 6400000
  | 2 => 659394
  | 3 => 263758
  | 4 => 252121
  | 5 => 63030
  | _ => 0

/-- Bit time of a mode in 0.01 ns. -/
def bitTime : Nat → Nat
  | 1 => 100
  | 2 => 10
  | 3 => 4
  | 4 => 4
  | 5 => 1
  | _ => 0

/-- Grid step of a mode in 0.01 ns (Table 2.5). -/
def gridStep : Nat → Nat
  | 1 => 800
  | 2 => 640
  | 3 => 256
  | 4 => 1024
  | _ => 256

/-- The grid instant of index `k` in a reel slot, from the start of the reel, in 0.01 ns (R50, R51). -/
def gridInstant (mode slot k : Nat) : Nat := (ceilDiv (slot * 6400) (gridStep mode) + k) * gridStep mode

/-- *t*_tx on time base `b` for a departure `d` (0.01 ns from the start of this reel) on lane `n`, in 2⁻³² ns (R244). -/
def State.txTime (s : State) (b n d : Nat) : Int :=
  let nowC : Int := (s.clock.exposure * 1000000 + s.clock.cycle : Nat) * 100
  let at60 : Int := (s.base b).value + ((d : Int) - nowC) * s.increment b / 100
  let delay : Int := preamble (s.laneMode n) + 100 * (s.obj (0x3400 + n) 0x20 + s.objI (0x3400 + n) 7)
  (at60 * 100000 + delay * 2 ^ 60) / (100000 * 2 ^ 28)

/-- *t*_rx of a frame on lane `n`, 2⁻³² ns (R245); in calibration hold the MAC-layer instant and its OTP correction (R248).
`arrival` is the first block's instant in ps relative to the tag cycle, `base` the value of time base 0 there. -/
def State.rxTime (s : State) (n : Nat) (arrival : Int) (base : Nat) : Int :=
  let l : Int := if (s.port (s.portNumber n)).holdSince.isSome then s.obj (0x3400 + n) 0x23 else s.obj (0x3400 + n) 0x21
  let delay : Int := 100 * arrival + preamble (s.laneMode n) - 100 * (l + s.objI (0x3400 + n) 8)
  ((base : Int) * 100000 + delay * 2 ^ 60) / (100000 * 2 ^ 28)

/-- An instant of time base 0 that lies near the present, on time base `b` (R243, R297; log 97). -/
def State.onBase (s : State) (b : Nat) (t : Int) : Int :=
  if b = 0 then t else s.base32 b - (s.base32 0 - t) * s.increment b / Max.max 1 (s.increment 0)

/-- Whole nanoseconds, and the fraction in 2⁻¹⁶ ns rounded (R297). -/
def wholeNs (t : Int) : Int := t / 2 ^ 32
def fraction16 (t : Int) : Int := roundDivI (t % 2 ^ 32) 65536

/-- The 64-bit NTP format of an instant in 2⁻³² ns (R297). -/
def ntpTime (t : Int) : Nat :=
  let sec := (t / second32 + 2208988800) % 2 ^ 32
  let ns := t % second32
  (sec.toNat * 2 ^ 32 + (roundDivI ns 1000000000).toNat) % 2 ^ 64

/-! ### Client records (R306, R307) -/

def State.client (s : State) (n : Nat) : ClientRecord := s.serve.records.look (fun _ => {}) n
def State.setClient (s : State) (n : Nat) (r : ClientRecord) : State :=
  { s with serve := { s.serve with records := s.serve.records.put (fun _ => {}) n r } }

/-- CRC-32C of a seed and a key (R307). -/
def hashOf (seed : Nat) (key : Octets) : Nat := crc32c (beOctets 4 seed ++ key)

/-- The four candidates of a client (R307). -/
def State.candidates (s : State) (i addr ident : Nat) : List Nat :=
  let key := beOctets 1 i ++ beOctets 16 addr ++ beOctets 10 ident
  let h1 := hashOf s.serve.hashSeed1 key
  let h2 := hashOf s.serve.hashSeed2 key
  [field h1 17 0, field h1 31 14, field h2 17 0, field h2 31 14]

/-- The client's record (R307). -/
def State.locate (s : State) (i addr ident : Nat) : Option Nat :=
  (s.candidates i addr ident).find? fun n =>
    let r := s.client n
    r.valid && !r.quarantined && decide (r.inst = i ∧ r.address = addr ∧ r.identity = ident)

/-- The first free candidate. -/
def State.placeFor (s : State) (i addr ident : Nat) : Option Nat :=
  (s.candidates i addr ident).find? fun n => !(s.client n).valid && !(s.client n).quarantined

def Grant.live (g : Grant) : Bool := decide (g.interval ≠ 0x7F)

/-- The grant of a message type: 0 Sync, 1 Announce, 2 Delay_Resp. -/
def ClientRecord.grant (r : ClientRecord) : Nat → Grant
  | 0 => r.sync
  | 1 => r.announce
  | _ => r.resp
def ClientRecord.withGrant (r : ClientRecord) (k : Nat) (g : Grant) : ClientRecord :=
  match k with
  | 0 => { r with sync := g }
  | 1 => { r with announce := g }
  | _ => { r with resp := g }
def ClientRecord.anyLive (r : ClientRecord) : Bool := r.sync.live || r.announce.live || r.resp.live

/-- A grant ends (R304). -/
def State.endGrant (s : State) (n k : Nat) : State := s.setClient n ((s.client n).withGrant k {})

/-- Records without a live grant are released at a reel boundary (R304). -/
def State.releaseRecords (s : State) : State :=
  s.serve.records.keys.foldl (fun (s : State) n =>
    let r := s.client n
    if r.valid ∧ !r.quarantined ∧ !r.anyLive then s.setClient n {}
    else s.setClient n { r with count := 0 }) s

/-- Octets of a record (Table 11.9). -/
def ClientRecord.octets (r : ClientRecord) : Octets :=
  beOctets 16 r.address ++ beOctets 10 r.identity
    ++ beOctets 1 (128 * bitNat r.valid + 64 * bitNat r.quarantined + 32 * bitNat r.l1sync + r.inst) ++ beOctets 1 r.pos
    ++ beOctets 1 (unsigned 8 r.sync.interval) ++ beOctets 1 (unsigned 8 r.announce.interval) ++ beOctets 1 (unsigned 8 r.resp.interval)
    ++ beOctets 1 r.spp ++ beOctets 4 r.keyId ++ beOctets 4 r.sync.expiry ++ beOctets 4 r.announce.expiry ++ beOctets 4 r.resp.expiry
    ++ beOctets 4 r.sync.due ++ beOctets 4 r.announce.due ++ beOctets 2 r.sync.sequence ++ beOctets 2 r.announce.sequence
    ++ beOctets 1 r.count ++ beOctets 1 (Nat.min r.excess 255) ++ beOctets 2 (Nat.min r.failures 65535)

/-! ### Calendars (R308) -/

/-- Ticks of 1/1,024 ms of time base 0. -/
def State.ticks (s : State) : Nat := (s.base 0).value * 1024 / (1000000 * 2 ^ 60)

/-- 2^L seconds in ticks. -/
def periodTicks (l : Int) : Nat := if 0 ≤ l then 1024000 * 2 ^ l.toNat else 1024000 / 2 ^ (-l).toNat

/-- The first due tick after now for a record number (R308). -/
def State.firstDue (s : State) (record : Nat) (l : Int) : Nat :=
  let p := Nat.max 1 (periodTicks l)
  let phase := record * p / 262144 % p
  let t := s.ticks + 1
  (t + (phase + p - t % p) % p) % 2 ^ 32

/-- How far a due time lies in the past, ticks (negative: not due). -/
def State.dueAge (s : State) (due : Nat) : Int := signed 32 ((s.ticks % 2 ^ 32 + 2 ^ 32 - due) % 2 ^ 32)

/-- The grant after a binding: due time, and whole periods passed over (R308). -/
def State.afterBinding (s : State) (g : Grant) : Grant × Nat :=
  let p := Nat.max 1 (periodTicks g.interval)
  let age := s.dueAge g.due
  let passed := if (p : Int) < age - p then ((age - p).toNat) / p else 0
  ({ g with due := (g.due + p + passed * p) % 2 ^ 32, sequence := (g.sequence + 1) % 65536 }, passed)

/-- An entry of a calendar: a stream of an instance, or a record. -/
inductive CalendarEntry where
  | stream (i : Nat)
  | record (n : Nat)
deriving DecidableEq, Repr

def State.stream (s : State) (i pos : Nat) : Stream := s.serve.streams.look (fun _ => {}) (16 * i + pos)
def State.setStream (s : State) (i pos : Nat) (x : Stream) : State :=
  { s with serve := { s.serve with streams := s.serve.streams.put (fun _ => {}) (16 * i + pos) x } }

/-- Entries of a position that are due, with their ages; streams before records, records in rising number (R308). -/
def State.dueEntries (s : State) (pos kind : Nat) : List (CalendarEntry × Int) :=
  let ok (i : Nat) : Bool := s.ptpOn i && decide ((s.position i pos).state = 2) && s.asCapable i pos
  let st := ((List.range 8).filter ok).filterMap fun i =>
    let g := if kind = 0 then (s.stream i pos).sync else (s.stream i pos).announce
    if g.live ∧ 0 ≤ s.dueAge g.due then some (.stream i, s.dueAge g.due) else none
  let rc := s.serve.records.filterMap fun (e : Nat × ClientRecord) =>
    let g := e.2.grant kind
    if e.2.valid && !e.2.quarantined && decide (e.2.pos = pos) && ok e.2.inst && g.live && decide (0 ≤ s.dueAge g.due) then
      some (.record e.1, s.dueAge g.due) else none
  st ++ rc

/-- The earliest due entry. -/
def State.earliestDue (s : State) (pos kind : Nat) : Option CalendarEntry :=
  ((s.dueEntries pos kind).foldl (fun (best : Option (CalendarEntry × Int)) e => match best with
    | none => some e
    | some b => if b.2 < e.2 then some e else some b) none).map Prod.fst

/-! ### Capacity and grants (R304, R305) -/

/-- Messages per reel at a log interval, in units of 2⁻⁷. -/
def rate128 (l : Int) : Nat := if 7 < l then 1 else 2 ^ (7 - l).toNat

/-- Committed messages per reel of a position, in units of 2⁻⁷: Sync; Delay_Resp and Announce. -/
def State.committed (s : State) (pos : Nat) (general : Bool) : Nat :=
  let r := (s.serve.records.filter fun (e : Nat × ClientRecord) => e.2.valid && decide (e.2.pos = pos)).map fun e =>
    let c (g : Grant) : Nat := if g.live then rate128 g.interval else 0
    if general then c e.2.announce + c e.2.resp else c e.2.sync
  let st := ((List.range 8).filter fun i => s.ptpOn i).map fun i =>
    let g := if general then (s.stream i pos).announce else (s.stream i pos).sync
    if g.live then rate128 g.interval else 0
  r.sum + st.sum

/-- Whether the commitments of a position fit a plan (R305). -/
def State.fits (s : State) (p : Plan) (pos : Nat) : Bool :=
  let c := s.obj 0x2900 6
  decide (s.committed pos false * 1000 ≤ c * p.stepsFor 0x11 pos * 128) && decide (s.committed pos true * 1000 ≤ c * p.stepsFor 0x12 pos * 128)

/-- The slowest interval of a message type in a profile (R304). -/
def slowest (p : Profile) (k : Nat) : Int := if k = 1 then p.annHi else p.syncHi

/-- What a Signaling message brings: the grants and acknowledgements of the reply in order, and the grants that replace live ones from the
departure of that reply (R304). -/
structure SignalingReply where
  tlvs : List (Nat × Int × Nat) := []
  regrants : List (Nat × Nat × Grant) := []
deriving DecidableEq, Repr

/-- One REQUEST_UNICAST_TRANSMISSION (R304): the state and the grant sent. A grant of a type already granted waits for the reply's departure. -/
def State.requestUnicast (s : State) (i pos addr ident spp keyId k : Nat) (l : Int) (duration : Nat) (y : SignalingReply) :
    State × SignalingReply :=
  let idx := ptpIdx i
  let floor := s.objI idx (if k = 0 then 0x0B else if k = 1 then 0x0D else 0x0C)
  let gl := Max.max l floor
  let d := Nat.min duration (s.obj idx 0x0E)
  let deny : State × SignalingReply := (s.bump idx 0x1A, { y with tlvs := y.tlvs ++ [(k, gl, 0)] })
  if (s.position i pos).state ≠ 2 ∨ slowest (profileOf (s.profile i)) k < l then deny
  else match (s.locate i addr ident).orElse fun _ => s.placeFor i addr ident with
    | none => deny
    | some n =>
      let r := s.client n
      let r0 : ClientRecord := if r.valid then r else { valid := true, inst := i, pos := pos, address := addr, identity := ident }
      let g : Grant := { interval := gl, expiry := (s.taiSecond + d) % 2 ^ 32, due := s.firstDue n gl,
                         sequence := (r0.grant k).sequence, order := s.serve.grants }
      let t := s.setClient n { r0.withGrant k g with spp := spp, keyId := keyId }
      if !t.fits t.plan pos then deny
      else
        let live := (r0.grant k).live
        let u : State := if live then s.setClient n { r0 with spp := spp, keyId := keyId } else t
        ({ u with serve := { u.serve with grants := u.serve.grants + 1 } },
          { tlvs := y.tlvs ++ [(k, gl, d)], regrants := if live then y.regrants ++ [(n, k, g)] else y.regrants })

/-- Grants of a position cancelled at a swap, latest granted first, until the rest fits: fuel, count (R305). -/
def State.shedGrants (s : State) (pos : Nat) : Nat → Nat → State × Nat
  | 0, c => (s, c)
  | fuel + 1, c =>
    if s.fits s.plan pos then (s, c)
    else
      let cand := s.serve.records.flatMap fun (e : Nat × ClientRecord) =>
        if e.2.valid ∧ e.2.pos = pos then (([0, 1, 2].filter fun k => (e.2.grant k).live).map fun k => (e.1, k, (e.2.grant k).order)) else []
      match cand.foldl (fun (b : Option (Nat × Nat × Nat)) x => match b with
          | none => some x
          | some y => if y.2.2 < x.2.2 then some x else some y) none with
      | none => (s, c)
      | some (n, k, _) =>
        let t := s.endGrant n k
        let o := t.serve.owed.look (fun _ => []) pos
        State.shedGrants { t with serve := { t.serve with owed := t.serve.owed.put (fun _ => []) pos (o ++ [.cancel (s.client n).inst n k]) } } pos fuel (c + 1)

/-- Capacity cancellation at a plan swap (R305). -/
def State.cancelForCapacity (s : State) : State :=
  (List.range 12).foldl (fun (s : State) pos =>
    let (t, c) := s.shedGrants pos (3 * s.serve.records.length) 0
    if c = 0 then t else (t.bumpBy 0x2900 0x0A c).emcy 0xFF71 0xFF (pos * 2 ^ 24 + Nat.min c 0xFFFF * 2 ^ 8)) s

/-! ### Rate buckets (R316) -/

/-- A source takes a token: the state, and whether one was there. A refill accounts for the whole ms that its tokens took (log 97). -/
def State.takeToken (s : State) (addr : Nat) (red : Bool) : State × Bool :=
  let h := hashOf s.serve.hashSeed1 (beOctets 16 addr)
  let key := field h 19 0
  let tag := field h 31 20
  let b := s.serve.buckets.look (fun _ => {}) key
  let rate := s.obj 0x2941 (if red then 3 else 1)
  let depth := s.obj 0x2941 (if red then 4 else 2)
  let ms := (s.base 0).value / (1000000 * 2 ^ 60)
  let fresh := !b.used || decide (b.tag ≠ tag)
  let s1 := if b.used && decide (b.tag ≠ tag) then s.bump 0x2941 7 else s
  let dt := (ms % 2 ^ 32 + 2 ^ 32 - b.last) % 2 ^ 32
  let gain := rate * dt / 1000
  let full := fresh || decide (depth ≤ b.tokens + gain)
  let tok := if full then depth else b.tokens + gain
  let ok := decide (16 ≤ tok)
  let c : Bucket := { tag := tag, tokens := if ok then tok - 16 else tok, used := true,
                      last := if full then ms % 2 ^ 32 else (b.last + Nat.min dt (ceilDiv (gain * 1000) rate)) % 2 ^ 32 }
  ({ s1 with serve := { s1.serve with buckets := s1.serve.buckets.put (fun _ => {}) key c } }, ok)

/-! ### Service bound and degradation (R293) -/

/-- Terms 1 to 4 of a time base, the worst lane and term 8, in ps; saturated when unknown. -/
def State.serviceBound (s : State) (b mask : Nat) (smeared : Bool) : Nat :=
  let x := s.tableSet b
  let lanes := (List.range 24).filter fun n => bit mask (n % 12)
  let t5 (n : Nat) : Nat := match s.laneMode n with
    | 1 => 200
    | 2 => 80
    | 3 => 60
    | 4 => 80
    | 5 => 70
    | _ => 0
  let sum := x.b.sum + ((lanes.map t5).foldl Nat.max 0 + (lanes.map fun n => s.obj (0x3400 + n) 9).foldl Nat.max 0) * psUnit
  boundOf x.known [sum + s.term8 smeared sum]

/-- One comparison against a limit at a fast-term update. -/
def State.judge (s : State) (code bound limit : Nat) : State :=
  let q := s.quality code
  if bound ≤ limit then s.setQuality code q
  else
    let t := s.setQuality code { degraded := true, clean := 0, exceeded := true }
    if q.degraded then t else t.emcy 0xFF70 0xFF (code * 2 ^ 24 + 2 ^ 16)

/-- The service bounds of every enabled instance, and of ESMC, at a fast-term update (R293). -/
def State.judgeAll (s : State) : State :=
  let s1 := (List.range 8).foldl (fun (s : State) i =>
    if s.ptpOn i then s.judge i (s.serviceBound (s.obj (ptpIdx i) 0x0A) (s.obj (ptpIdx i) 3) false) (s.obj (ptpIdx i) 0x14) else s) s
  let s2 := (List.range 8).foldl (fun (s : State) j =>
    if s.ntpOn j then s.judge (16 + j) (s.serviceBound (s.obj (ntpIdx j) 4) (s.obj (ntpIdx j) 2) (decide (s.obj (ntpIdx j) 5 = 2))) (s.obj (ntpIdx j) 8)
    else s) s1
  s2.judge 0xFF (boundOf (s2.tableSet 0).known (s2.tableSet 0).b) (s2.obj 0x2900 2)

/-- Degradation clears at the reel boundary after the clear time within limits (R293). -/
def State.clearDegraded (s : State) : State :=
  s.serve.qualities.keys.foldl (fun (s : State) code =>
    let q := s.quality code
    if !q.degraded then s
    else
      let n := if q.exceeded then 0 else q.clean + 1
      if s.obj 0x2900 0x0C ≤ n then (s.setQuality code {}).emcy 0xFF70 0xFF (code * 2 ^ 24)
      else s.setQuality code { q with clean := n, exceeded := false }) s

/-! ### Enable, disable, positions (R288, R301) -/

/-- The instance that owes a message. -/
def Owed.inst : Owed → Nat
  | .followUp i .. => i
  | .cancel i .. => i
  | .l1sync i _ => i

/-- Announce intervals in cycles. -/
def State.listenCycles (s : State) (i : Nat) : Nat :=
  let l := s.objI (ptpIdx i) 0x10
  3 * (if 0 ≤ l then 1000000000 * 2 ^ l.toNat else 1000000000 / 2 ^ (-l).toNat)

/-- A position enters LISTENING. -/
def State.listen (s : State) (i pos : Nat) : State :=
  s.setPosition i pos { s.position i pos with state := 1, entered := s.now,
                                              upAt := if s.laneUp pos || s.laneUp (pos + 12) then some s.now else none }

/-- A lane comes into link state 4 or 5: the positions in LISTENING that it carries begin their wait (R301). -/
def State.listenersUp (s : State) (pos : Nat) : State :=
  (List.range 8).foldl (fun (s : State) i =>
    let x := s.position i pos
    if x.state = 1 ∧ x.upAt = none then s.setPosition i pos { x with upAt := some s.now } else s) s

/-- Position states as 0x2910+i.15. -/
def State.positionWord (s : State) (i : Nat) : Nat :=
  ((List.range 12).map fun p => (s.position i p).state * 4 ^ p).sum

/-- The streams of a multicast instance on its positions (R308). -/
def State.startStreams (s : State) (i : Nat) : State :=
  if (profileOf (s.profile i)).multicast then
    (bitsSet (s.obj (ptpIdx i) 3) 12).foldl (fun (s : State) p =>
      let ls := s.objI (ptpIdx i) 0x0F
      let la := s.objI (ptpIdx i) 0x10
      s.setStream i p { sync := { interval := ls, due := s.firstDue 0 ls }, announce := { interval := la, due := s.firstDue 0 la } }) s
  else s

/-- An instance's enable is in force at cycle 0 (R288): 0 to 7 PTP, 16 to 23 NTP. -/
def State.applyInstance (s : State) (code : Nat) (on : Bool) : State :=
  let t : State := { s with serve := { s.serve with pendEnable := s.serve.pendEnable.put noneOf code none } }
  if 16 ≤ code then
    let u := t.takeEffect (okey 0 0 (ntpIdx (code - 16)) 1) (bitNat on)
    if on then u else u.setQuality code {}
  else
    let u := t.takeEffect (okey 0 0 (ptpIdx code) 1) (bitNat on)
    if on then (bitsSet (u.obj (ptpIdx code) 3) 12).foldl (fun (s : State) p => s.listen code p) (u.startStreams code)
    else
      let v := (List.range 12).foldl (fun (s : State) p => (s.setPosition code p {}).setStream code p {}) (u.setQuality code {})
      { v with serve := { v.serve with records := v.serve.records.filter fun e => decide (e.2.inst ≠ code ∨ !e.2.valid ∨ e.2.quarantined),
                                       owed := v.serve.owed.map fun e => (e.1, e.2.filter fun o => decide (o.inst ≠ code)) } }

/-- Pending enables of every instance. -/
def State.applyInstances (s : State) : State :=
  s.serve.pendEnable.foldl (fun (s : State) (e : Nat × Option Bool) => match e.2 with
    | none => s
    | some on => s.applyInstance e.1 on) s

/-- The enable as it will stand. -/
def State.instanceWill (s : State) (code : Nat) : Bool :=
  (s.serve.pendEnable.look noneOf code).getD (if code < 16 then s.ptpOn code else s.ntpOn (code - 16))

/-- An enable that would overlap another instance (R288). -/
def State.overlaps (s : State) (code : Nat) : Bool :=
  if code < 16 then
    let o (i k : Nat) : Nat := s.will (ptpIdx i) k
    (List.range 8).any fun i => decide (i ≠ code) && s.instanceWill i && decide (o i 3 &&& o code 3 ≠ 0)
      && decide (o i 5 = o code 5 ∧ o i 4 = o code 4) && (decide (o i 5 = 0) || decide (o i 6 = o code 6))
  else
    let o (j k : Nat) : Nat := s.will (ntpIdx j) k
    (List.range 8).any fun j => decide (16 + j ≠ code) && s.instanceWill (16 + j) && decide (o j 2 &&& o (code - 16) 2 ≠ 0)
      && decide (o j 3 = o (code - 16) 3)

end Sys2Proof.Machine
end

