-- ==== Sys2Proof/Machine/PlanCheck.lean ====
section
/-! DEFINITION. The plan image and the load checker (R55 to R63, Tables 2.6, 2.7 and 2.9). A rule answers the row and slot of its
first violation, in row and step order; none where it holds. -/

namespace Sys2Proof.Machine

/-! ### The image (R58, R59) -/

/-- Field of an image: offset and size in octets. -/
def imageField (d : Octets) (off n : Nat) : Nat := beNat (slice d off n)

/-- Row `n` of the directory with its steps. -/
def imageRow (d : Octets) (n : Nat) : PlanRow :=
  let o := imageField d 0xC0 4 + 16 * n
  let f (a k : Nat) : Nat := imageField d (o + a) k
  { kind := f 0 1, idx := f 1 1, period := f 4 4,
    steps := (List.range (f 12 4)).map fun k =>
      let w := f 8 4 + 8 * k
      ⟨imageField d w 3, imageField d (w + 3) 1, imageField d (w + 4) 4⟩ }

def parsePlan (d : Octets) : Plan :=
  { identifier := imageField d 0x10 4, variant := imageField d 0x18 1, key := imageField d 0x19 1, cap := imageField d 0x1C 4,
    unitMask := imageField d 0x20 4, haMask := imageField d 0x24 4, modes := (slice d 0x28 12).map BitVec.toNat,
    wakes := (slice d 0x34 12).map BitVec.toNat, entry := imageField d 0x40 8, cover := imageField d 0x48 4, interval := imageField d 0x4C 4,
    rows := (List.range (imageField d 0x1A 2)).map (imageRow d) }

/-- The signed message: the image without its signature (R61). -/
def planMessage (d : Octets) : Octets := d.take 0x80 ++ d.drop 0xC0

/-- A plan-signing key is not revoked: bits 0 to 3 of the revocation field and those the host has added (R61, R415). -/
def State.planKeyOk (s : State) (k : Nat) : Bool := decide (k < 4) && !bit (Config.otp 1 0) k && !bit s.boot.revoked k

/-- The public key of a number, 32 octets of OTP. -/
def otpKey (k : Nat) : Octets := beOctets 32 (Config.otp 0 k)

/-! ### Steps -/

/-- Slots for which a step occupies its row (R41, Table 2.3). -/
def PlanStep.slots (x : PlanStep) (kind : Nat) : Nat :=
  match x.opcode with
  | 0x10 => 24
  | 0x11 => hmacSlots (field x.operand 15 8) + 1
  | 0x12 => hmacSlots (field x.operand 15 8) + 1
  | 0x13 => x.operand % 65536
  | 0x20 => ceilDiv (x.operand % 65536 + 28) 64
  | 0x21 => ceilDiv (64 * (x.operand % 65536) + 6) 64
  | 0x22 => if kind = 2 then 1 else 3
  | 0x23 => x.operand % 65536
  | 0x40 => x.operand % 65536
  | 0x41 => x.operand % 65536
  | _ => 1

/-- A step that replies: it has a departure. -/
def PlanStep.serves (x : PlanStep) : Bool := decide (0x10 ≤ x.opcode ∧ x.opcode ≤ 0x12)

/-- The earliest departure offset of a template (Table 2.3). -/
def PlanStep.earliest (x : PlanStep) : Nat := if x.opcode = 0x10 then 24 else hmacSlots (field x.operand 15 8) + 3

/-- Slots from the start of a step to the end of its template (rule 17). -/
def PlanStep.span (x : PlanStep) (kind : Nat) : Nat :=
  if x.serves then Nat.max (x.slots kind) (x.operand % 256 + 1) else x.slots kind

/-- Domain indices of a class (Table 2.4). -/
def domainCount : Nat → Nat
  | 1 => 8
  | 2 => 8
  | 3 => 8
  | 4 => 12
  | 5 => 12
  | 6 => 8
  | _ => 0

/-- Grid points that a reel slot holds in a mode (Table 2.5, R51). -/
def gridPoints (mode slot : Nat) : Nat :=
  match mode with
  | 1 => 8
  | 2 => 10
  | 3 => 25
  | 4 => if slot % 4 = 0 then 7 else 6
  | 5 => 25
  | _ => 0

/-- Opcode valid for the row kind, operand in range (rule 6). -/
def PlanStep.valid (x : PlanStep) (kind : Nat) : Bool :=
  let hi := field x.operand 31 24
  let pos := field x.operand 23 16
  match kind, x.opcode with
  | _, 0 => true
  | 1, 0x10 => decide (hi < 8 ∧ pos < 12)
  | 1, 0x11 => decide (hi < 8 ∧ pos < 12 ∧ field x.operand 15 8 ≠ 0)
  | 1, 0x12 => decide (hi < 8 ∧ pos < 12 ∧ field x.operand 15 8 ≠ 0)
  | 1, 0x13 => decide (x.operand < 65536 ∧ x.operand ≠ 0)
  | 2, 0x20 => decide (hi < 64 ∧ pos ≤ 1)
  | 3, 0x21 => decide (hi < 64 ∧ x.operand % 65536 ≠ 0)
  | 2, 0x22 => decide (x.operand < 8)
  | 3, 0x22 => decide (x.operand < 8)
  | 2, 0x23 => decide (x.operand % 65536 ≠ 0 ∧ field x.operand 31 16 + x.operand % 65536 ≤ 4096)
  | 3, 0x23 => decide (x.operand % 65536 ≠ 0 ∧ field x.operand 31 16 + x.operand % 65536 ≤ 4096)
  | 4, 0x30 => decide (pos < 64)
  | 5, 0x40 => decide (x.operand % 65536 ≠ 0)
  | 5, 0x41 => decide (x.operand % 65536 ≠ 0)
  | 6, 0x50 => decide (pos < domainCount hi)
  | 6, 0x51 => decide (pos < domainCount hi)
  | _, _ => false

/-- Resource indices of a row kind (Table 2.1). -/
def kindCount : Nat → Nat
  | 1 => 64
  | 2 => 8
  | 3 => 8
  | 4 => 12
  | 5 => 1
  | 6 => 1
  | _ => 0

/-! ### Walking a plan -/

abbrev Violation := Option (Nat × Nat)

/-- No row, no slot. -/
def nowhere : Nat × Nat := (0xFFFF, 0xFFFFFFFF)

/-- A check with no place. -/
def failIf (b : Bool) : Violation := if b then some nowhere else none

/-- The first step that breaks a check, in row and step order, with its row number and the reel slot of its first occurrence that does. -/
def Plan.firstStep (p : Plan) (bad : PlanRow → PlanStep → Option Nat) : Violation :=
  p.rows.zipIdx.findSome? fun (e : PlanRow × Nat) => (e.1.steps.findSome? (bad e.1)).map fun q => (e.2, q)

/-- The number of a row in the directory; 0xFFFF for none. -/
def Plan.rowNumber (p : Plan) (kind idx : Nat) : Nat :=
  ((p.rows.zipIdx.find? fun (e : PlanRow × Nat) => decide (e.1.kind = kind ∧ e.1.idx = idx)).map Prod.snd).getD 0xFFFF

/-- Reel slots at which a step of a row begins. -/
def PlanRow.starts (r : PlanRow) (x : PlanStep) : List Nat :=
  (List.range (reelSlots / Nat.max 1 r.period)).map fun k => x.offset + k * r.period

/-- The first occurrence of a step that breaks a check. -/
def PlanRow.firstStart (r : PlanRow) (x : PlanStep) (bad : Nat → Bool) : Option Nat := (r.starts x).find? bad

/-- Whether an occurrence that begins at `q` lies on the activation grid of a step (R40). -/
def PlanRow.onGrid (r : PlanRow) (x : PlanStep) (q : Nat) : Bool := decide (q % Nat.max 1 r.period = x.offset)

/-- Two periodic occupancies meet (R40): offsets, periods and lengths. -/
def meets (o1 p1 n1 o2 p2 n2 : Nat) : Bool :=
  let g := Nat.max 1 (Nat.gcd p1 p2)
  let d := (o2 % g + g - o1 % g) % g
  decide (d < n1) || decide (g - d < n2) && decide (d ≠ 0) || decide (d = 0)

/-- A row with a kind and index that has a step meeting a condition at reel slot `q`. -/
def Plan.stepsAt (p : Plan) (kind idx q : Nat) (ok : PlanStep → Bool) : Bool :=
  p.rows.any fun r => decide (r.kind = kind ∧ r.idx = idx) && r.steps.any fun x => r.onGrid x q && ok x

/-! ### Rules 1 to 6 -/

def rule1 (d : Octets) : Violation :=
  failIf !(decide (imageField d 0 4 = 0x4358504C ∧ imageField d 4 2 = 1 ∧ imageField d 6 2 = 0x100 ∧ imageField d 8 4 = d.length)
    && (slice d 0x50 48).all (fun o => decide (o = 0)) && (slice d 0xF0 16).all (fun o => decide (o = 0))
    && decide (imageField d 0x10 4 ≠ 0) && decide (field (imageField d 0x20 4) 31 16 = 0 ∧ field (imageField d 0x20 4) 7 1 = 0)
    && decide (imageField d 0x40 1 = 0))

def rule2 (d : Octets) : Violation := failIf (decide (4194304 < d.length))

def State.rule3 (s : State) (d : Octets) : Violation :=
  let k := imageField d 0x19 1
  failIf !(s.planKeyOk k && Config.ed25519Verify (otpKey k) (planMessage d) (slice d 0x80 64))

def rule4 (d : Octets) : Violation :=
  let w (o : Nat) : Nat := imageField d o 4
  failIf !(decide (w 0x0C ≤ 2097152 ∧ 0x100 ≤ w 0xC0 ∧ w 0xC0 + 16 * imageField d 0x1A 2 ≤ w 0xC4 ∧ w 0xC4 ≤ w 0xC8 ∧ w 0xC8 = w 0x0C
    ∧ w 0xC8 + w 0xCC ≤ d.length)
    && (List.range (imageField d 0x1A 2)).all fun n =>
      let o := w 0xC0 + 16 * n
      decide (w 0xC4 ≤ w (o + 8) ∧ w (o + 8) + 8 * w (o + 12) ≤ w 0xC8))

def rule5 (d : Octets) : Violation := failIf (decide (imageField d 0x14 4 ≠ 0x0B000001))

/-- Steps in strictly ascending offset. -/
def ascending : Option Nat → List PlanStep → Bool
  | _, [] => true
  | lo, x :: r => (match lo with | none => true | some l => decide (l < x.offset)) && ascending (some x.offset) r

def PlanRow.formOk (r : PlanRow) : Bool :=
  decide (r.idx < kindCount r.kind) && decide (r.period ≠ 0 ∧ reelSlots % r.period = 0) && ascending none r.steps
    && r.steps.all fun x => decide (x.offset < r.period) && x.valid r.kind

def rule6 (d : Octets) (p : Plan) : Violation :=
  let count (k : Nat) : Nat := (p.rows.filter fun r => decide (r.kind = k)).length
  if (decide (p.rows.length < 2 ∨ 94 < p.rows.length) || decide (count 5 ≠ 1 ∨ count 6 ≠ 1) || decide (p.variant > 1)
      || !(p.wakes.all fun w => decide (63 ≤ w)) || !(p.modes.all fun m => decide (m ≤ 5))
      || decide (p.cover = 0 ∨ 100 < p.cover ∨ p.interval = 0 ∨ 10 < p.interval)
      || (List.range p.rows.length).any fun n => decide (imageField d (imageField d 0xC0 4 + 16 * n + 2) 2 ≠ 0)) = true then some nowhere
  else p.rows.zipIdx.findSome? fun (e : PlanRow × Nat) =>
    let twice := (p.rows.filter fun r => decide (r.kind = e.1.kind ∧ r.idx = e.1.idx)).length ≠ 1
    if !e.1.formOk ∨ twice then some (e.2, ((e.1.steps.find? fun x => !x.valid e.1.kind).map PlanStep.offset).getD 0xFFFFFFFF) else none

/-! ### Rules 7 to 10 -/

/-- Rule 7: no step of a row begins while another occupies it; one departure per grid point. -/
def rule7 (p : Plan) : Violation :=
  p.firstStep fun r x =>
    let bad := (r.steps.any fun y => decide (y ≠ x) && meets x.offset r.period (x.slots r.kind) y.offset r.period (y.slots r.kind))
      || decide (r.period < x.slots r.kind)
    if bad then some x.offset else none

/-- Octets on the wire of a template's largest frame (log 18). -/
def templateOctets (op : Nat) : Nat := if op = 0x10 then 1360 else 336

/-- The bit time of a mode in 0.01 ns. -/
def gridBit : Nat → Nat
  | 1 => 100
  | 2 => 10
  | 3 => 4
  | 4 => 4
  | 5 => 1
  | _ => 0

/-- Serving steps whose template departs on a position at reel slot `q`, for an engine. -/
def Plan.templates (p : Plan) (eng pos q : Nat) : List PlanStep :=
  p.rows.flatMap fun r => if r.kind = 1 ∧ r.idx = eng then
      r.steps.filter fun x => x.serves && decide (x.pos = pos ∧ x.operand % 256 ≤ q) && r.onGrid x (q - x.operand % 256)
    else []

/-- The time that the largest frame of the departure at reel slot `q` takes on the wire, in 0.01 ns. -/
def Plan.frameTime (p : Plan) (eng pos q : Nat) : Nat :=
  let op := ((p.templates eng pos q).head?.map PlanStep.opcode).getD 0x11
  (templateOctets op + 8) * 8 * gridBit (p.modes.getD pos 0)

/-- Departures of a position over the reel, with instants in 0.01 ns and the time that the largest frame of the template takes. -/
def Plan.departureList (p : Plan) (pos : Nat) : List (Nat × Nat) :=
  match p.row 4 pos with
  | none => []
  | some r => (r.steps.filter fun x => decide (x.opcode = 0x30)).flatMap fun x => (r.starts x).map fun q =>
    (gridInstant (p.modes.getD pos 0) q (field x.operand 31 24), p.frameTime (field x.operand 23 16) pos q)

/-- A grid point, counted from the start of the reel, that its mode excludes: modes 0x01 to 0x03 exclude none (Table 2.5). -/
def pointExcluded (mode n : Nat) : Bool := decide (mode = 4 ∨ mode = 5) && Config.gridExcluded mode n

/-- A reel in 0.01 ns. -/
def reelTicks : Nat := 100000000000

/-- Rule 8: every departure on a grid point of its mode, not excluded, with its guard, and not before the earliest departure of its
template; every template departs. The guard holds around the reel, which repeats. -/
def rule8 (p : Plan) : Violation :=
  p.firstStep fun r x =>
    if r.kind = 4 ∧ x.opcode = 0x30 then
      let mode := p.modes.getD r.idx 0
      let ds := p.departureList r.idx
      let k := field x.operand 31 24
      r.firstStart x fun q =>
        let d := gridInstant mode q k
        let ts := p.templates (field x.operand 23 16) r.idx q
        !(decide (k < gridPoints mode q)) || pointExcluded mode (d / gridStep mode)
          || (ds.any fun e => decide (e.1 < d ∧ d < e.1 + e.2 + 1600) || decide (d < e.1 ∧ d + reelTicks < e.1 + e.2 + 1600))
          || ts.isEmpty || !(ts.all fun t => decide (t.earliest ≤ t.operand % 256))
    else if r.kind = 1 ∧ x.serves then
      r.firstStart x fun q => !p.stepsAt 4 x.pos (q + x.operand % 256) fun y => decide (y.opcode = 0x30 ∧ field y.operand 23 16 = r.idx)
    else none

/-- An HMAC step of cluster `c` at slot `q` runs the compressions of a PTP step of engine `eng`. -/
def Plan.hmacFor (p : Plan) (c eng k q : Nat) : Bool :=
  p.stepsAt 3 c q fun y => decide (y.opcode = 0x21 ∧ field y.operand 31 24 = eng ∧ k = y.operand % 65536)

/-- An AES-SIV step of cluster `c` at slot `q` runs a pass for engine `eng` within the slots of its template. -/
def Plan.aesFor (p : Plan) (c eng pass most q : Nat) : Bool :=
  p.stepsAt 2 c q fun y => decide (y.opcode = 0x20 ∧ field y.operand 31 24 = eng ∧ field y.operand 23 16 = pass ∧ y.slots 2 ≤ most)

/-- Rule 9: the crypto passes of each serving step (Table 2.3). -/
def rule9 (p : Plan) : Violation :=
  p.firstStep fun r x =>
    let c := field x.operand 31 24
    let k := field x.operand 15 8
    if r.kind ≠ 1 then none
    else if x.opcode = 0x10 then r.firstStart x fun q => !(p.aesFor c r.idx 0 3 (q + 2) && p.aesFor c r.idx 1 4 (q + 17))
    else if x.opcode = 0x11 ∨ x.opcode = 0x12 then r.firstStart x fun q => !p.hmacFor c r.idx k (q + 1)
    else none

/-- Key accesses of the fixer steps in a slot, one a re-mask (Table 2.2). -/
def Plan.fixerCharge (p : Plan) (slot : Nat) : Nat :=
  (p.rows.map fun r => (r.steps.filter fun x =>
    let per := Nat.max 1 r.period
    decide (x.opcode = 0x23) && decide ((slot % per + per - x.offset % per) % per < x.operand % 65536)).length).sum

/-- The charge of a slot: cells, records and keys. -/
def Plan.slotCharge (p : Plan) (slot : Nat) : Nat × Nat × Nat :=
  let c := p.serveCharge slot
  (c.1, c.2.1, c.2.2 + p.fixerCharge slot)

/-- The slots after which the whole plan repeats. -/
def Plan.cycle (p : Plan) : Nat := (p.rows.map PlanRow.period).foldl Nat.lcm 1

/-- Rule 10. -/
def rule10 (p : Plan) : Violation :=
  ((List.range p.cycle).find? fun q =>
    let c := p.slotCharge q
    decide (48 < c.1 ∨ 24 < c.2.1 ∨ 6 < c.2.2)).map fun q => (0xFFFF, q)

/-! ### Rules 11 and 12: domains -/

/-- Awake power of a domain, mW (Table 2.4). -/
def awakePower : Nat → Nat
  | 1 => 1125
  | 2 => 220
  | 3 => 220
  | 4 => 210
  | 5 => 350
  | 6 => 150
  | _ => 0

/-- Bit of the entry set that holds a domain's state (Table 2.6). -/
def entryBit (cls idx : Nat) : Nat :=
  (match cls with
  | 1 => 0
  | 2 => 8
  | 3 => 16
  | 4 => 24
  | 5 => 36
  | _ => 48) + idx

def Plan.entryAwake (p : Plan) (cls idx : Nat) : Bool := bit p.entry (entryBit cls idx)

/-- Every domain. -/
def allDomains : List (Nat × Nat) := [1, 2, 3, 4, 5, 6].flatMap fun c => (List.range (domainCount c)).map fun i => (c, i)

/-- Wake slots of a domain (Table 2.4): a lane's are declared. -/
def Plan.wakeSlots (p : Plan) (cls idx : Nat) : Nat :=
  match cls with
  | 1 => 32
  | 2 => 8
  | 3 => 8
  | 4 => 313
  | 5 => p.wakes.getD idx 63
  | _ => 1563

/-- A slot and a direction placed in order. -/
def placeToggle (e : Nat × Bool) : List (Nat × Bool) → List (Nat × Bool)
  | [] => [e]
  | x :: r => if e.1 < x.1 then e :: x :: r else x :: placeToggle e r

/-- Wakes (true) and sleeps of a domain over the reel, in order. -/
def Plan.toggles (p : Plan) (cls idx : Nat) : List (Nat × Bool) :=
  match p.row 6 0 with
  | none => []
  | some r => (r.steps.filter fun x => decide (field x.operand 31 24 = cls ∧ field x.operand 23 16 = idx ∧ x.opcode ≠ 0)).foldl
      (fun l x => (r.starts x).foldl (fun l q => placeToggle (q, decide (x.opcode = 0x50)) l) l) []

/-- Awake intervals from toggles: start slot, end slot, and whether it began awake at reel slot 0. -/
def awakeIntervals : Option (Nat × Bool) → List (Nat × Bool) → List (Nat × Nat × Bool)
  | none, [] => []
  | some a, [] => [(a.1, reelSlots, a.2)]
  | none, e :: r => if e.2 then awakeIntervals (some (e.1, false)) r else awakeIntervals none r
  | some a, e :: r => if e.2 then awakeIntervals (some a) r else (a.1, e.1, a.2) :: awakeIntervals none r

def Plan.intervals (p : Plan) (cls idx : Nat) : List (Nat × Nat × Bool) :=
  awakeIntervals (if p.entryAwake cls idx then some (0, true) else none) (p.toggles cls idx)

/-- Power of an exposure in mW × slots, from awake slots: a domain counts awake to the end of its sleep step (R56). -/
def Plan.power (p : Plan) (e : Nat) : Nat :=
  let lo := e * exposureSlots
  let hi := lo + exposureSlots
  (allDomains.map fun d => awakePower d.1 * ((p.intervals d.1 d.2).map fun i => Nat.min hi (i.2.1 + 1) - Nat.max lo i.1).sum).sum

/-- The highest power of an exposure (0x2101.02), rounded up to whole mW: DESIGN CHOICE, the spec gives no rounding (log 71). -/
def Plan.peakPower (p : Plan) : Nat := ceilDiv (((List.range 1000).map p.power).foldl Nat.max 0) exposureSlots

/-- Rule 11: the exact power against the cap. -/
def State.rule11 (s : State) (p : Plan) : Violation :=
  if (if p.variant = 0 then s.obj 0x2101 1 else s.obj 0x2101 3) < p.cap then some nowhere
  else ((List.range 1000).find? fun e => decide (p.cap * exposureSlots < p.power e)).map fun e => (0xFFFF, e * exposureSlots)

/-- The domain that a step of a row uses. -/
def usedDomain (kind idx : Nat) : Option (Nat × Nat) :=
  match kind with
  | 1 => some (1, idx / 8)
  | 2 => some (2, idx)
  | 3 => some (3, idx)
  | 4 => some (5, idx)
  | _ => none

/-- Slots of its domain that a step uses from reel slot `q` on: a departure to the end of its frame on the wire. -/
def Plan.useSlots (p : Plan) (r : PlanRow) (x : PlanStep) (q : Nat) : Nat :=
  if r.kind = 4 ∧ x.opcode = 0x30 then
    ceilDiv (gridInstant (p.modes.getD r.idx 0) q (field x.operand 31 24) + p.frameTime (field x.operand 23 16) r.idx q) 6400 - q
  else x.slots r.kind

/-- The slot from which a domain is ready in an awake interval; one awake at slot 0 by a wake late in the reel is ready that much later. -/
def Plan.readySlot (p : Plan) (cls idx : Nat) (a : Nat × Nat × Bool) : Nat :=
  if a.2.2 then (match (p.toggles cls idx).getLast? with
    | some (w, true) => w + p.wakeSlots cls idx - reelSlots
    | _ => 0)
  else a.1 + p.wakeSlots cls idx

/-- A use from slot `q` to slot `e` finds its domain awake and ready; a use that runs past the end of the reel goes on in the next. -/
def Plan.useOk (p : Plan) (cls idx q e : Nat) : Bool :=
  let iv := p.intervals cls idx
  (iv.any fun a => decide (p.readySlot cls idx a ≤ q ∧ a.1 ≤ q ∧ Nat.min e reelSlots ≤ a.2.1))
    && (decide (e ≤ reelSlots) || iv.any fun a => a.2.2 && decide (e - reelSlots ≤ a.2.1))

/-- Wakes of a domain that come before its sleep-entry time has passed, around the reel: their slots. -/
def Plan.earlyWakes (p : Plan) (cls idx : Nat) : List Nat :=
  let t := p.toggles cls idx
  let after := t.drop 1 ++ (t.head?.toList.map fun e => (e.1 + reelSlots, e.2))
  (t.zip after).filterMap fun e => if !e.1.2 && e.2.2 && decide (e.2.1 < e.1.1 + sleepSlots cls) then some (e.2.1 % reelSlots) else none

/-- Rule 12: awake and ready for each use; sleep-entry times kept; the reel ends as it began. -/
def rule12 (p : Plan) : Violation :=
  let use := p.firstStep fun r x =>
    if x.opcode = 0 then none
    else match usedDomain r.kind r.idx with
    | none => none
    | some (c, i) => r.firstStart x fun q => !p.useOk c i q (q + p.useSlots r x q)
  match use with
  | some v => some v
  | none =>
    allDomains.findSome? fun d =>
      let endAwake := (((p.toggles d.1 d.2).getLast?).map Prod.snd).getD (p.entryAwake d.1 d.2)
      match p.earlyWakes d.1 d.2 with
      | q :: _ => some (p.rowNumber 6 0, q)
      | [] => if endAwake ≠ p.entryAwake d.1 d.2 then some (p.rowNumber 6 0, reelSlots - 1) else none

/-! ### Rules 13 to 19 -/

/-- Units that a plan schedules: GNSS banks, media ports by number (R5). -/
def Plan.schedules (p : Plan) (cls idx : Nat) : Bool := p.entryAwake cls idx || !(p.toggles cls idx).isEmpty

/-- Where a plan first schedules a domain: a wake-controller step, or the entry set. -/
def Plan.schedulePlace (p : Plan) (cls idx : Nat) : Nat × Nat :=
  match p.toggles cls idx with
  | [] => nowhere
  | e :: _ => (p.rowNumber 6 0, e.1)

/-- Rule 13: every unit scheduled is enabled in the header masks and in 0x2010 as it will stand after the writes accepted so far (R4, R5). -/
def State.rule13 (s : State) (p : Plan) : Violation :=
  let gnss := decide (s.will 0x2010 1 = 1) && bit p.unitMask 0
  let media (m : Nat) : Bool := bit (s.will 0x2010 2) m && bit p.unitMask (8 + m)
  match (List.range 12).find? fun i => p.schedules 4 i && !gnss with
  | some i => some (p.schedulePlace 4 i)
  | none => match (List.range 8).find? fun m => p.schedules 6 m && !media m with
    | some m => some (p.schedulePlace 6 m)
    | none => failIf (decide (clearBits p.haMask (s.will 0x2010 3) ≠ 0))

/-- Rule 14: at the first departure of the position. -/
def State.rule14 (s : State) (p : Plan) : Violation :=
  p.firstStep fun r x =>
    let m := p.modes.getD r.idx 0
    if r.kind = 4 ∧ x.opcode = 0x30 ∧ ¬(s.laneMode r.idx = m ∧ s.laneMode (r.idx + 12) = m) then some x.offset else none

/-- Where a gap of more than `most` slots between successive starts opens, around the reel: slot 0 with no start at all. -/
def gapOver (most : Nat) (l : List Nat) : Option Nat :=
  match l with
  | [] => some 0
  | a :: _ => ((l.zip (l.drop 1 ++ [a + reelSlots])).find? fun e => decide (most < e.2 - e.1)).map Prod.fst

/-- Numbers in order. -/
def placeNat (n : Nat) : List Nat → List Nat
  | [] => [n]
  | x :: r => if n ≤ x then n :: x :: r else x :: placeNat n r

def PlanRow.startsOf (r : PlanRow) (keep : PlanStep → Bool) : List Nat :=
  ((r.steps.filter keep).flatMap fun x => r.starts x).foldl (fun l q => placeNat q l) []

/-- Rule 15: known-answer tests of every crypto row, and the fixer's cover of every key slot; at the slot where the gap opens. -/
def rule15 (p : Plan) : Violation :=
  let kat := p.rows.zipIdx.findSome? fun (e : PlanRow × Nat) =>
    if e.1.kind = 2 ∨ e.1.kind = 3 then
      (gapOver (p.interval * exposureSlots) (e.1.startsOf fun x => decide (x.opcode = 0x22))).map fun q => (e.2, q)
    else none
  match kat with
  | some v => some v
  | none =>
    let visits (n : Nat) : List Nat := (p.rows.flatMap fun r => r.startsOf fun x =>
      decide (x.opcode = 0x23 ∧ field x.operand 31 16 ≤ n ∧ n < field x.operand 31 16 + x.operand % 65536)).foldl (fun l q => placeNat q l) []
    (List.range 4096).findSome? fun n => (gapOver (p.cover * exposureSlots) (visits n)).map fun q => (0xFFFF, q)

/-- Rule 16: one fast-term update of 200 slots in slots 0 to 255 of every exposure; 9,000 slots of ensemble parts by the end of
exposure 998; at the Developer row, and the slot of the step or the start of the exposure concerned. -/
def rule16 (p : Plan) : Violation :=
  match p.row 5 0 with
  | none => some nowhere
  | some r =>
    let fast := r.startsOf fun x => decide (x.opcode = 0x40)
    let parts := r.steps.filter fun x => decide (x.opcode = 0x41)
    let badStep := r.steps.findSome? fun x =>
      if x.opcode = 0x40 then (if x.operand ≠ 200 ∨ 256 < x.offset % exposureSlots + 200 then some x.offset else none)
      else if x.opcode = 0x41 then r.firstStart x fun q => decide (999 * exposureSlots < q + x.operand % 65536)
      else none
    let badCount := (List.range 1000).find? fun e => decide ((fast.filter fun q => decide (q / exposureSlots = e)).length ≠ 1)
    let total := (parts.map fun x => x.operand % 65536 * (r.starts x).length).sum
    match badStep, badCount with
    | some q, _ => some (p.rowNumber 5 0, q)
    | none, some e => some (p.rowNumber 5 0, e * exposureSlots)
    | none, none => if total ≠ 9000 then some (p.rowNumber 5 0, 0xFFFFFFFF) else none

/-- Rule 17: the last occurrence of a step completes within the reel. -/
def rule17 (p : Plan) : Violation :=
  p.firstStep fun r x => if r.period < x.offset + x.span r.kind then some (x.offset + reelSlots - r.period) else none

/-- Occupied resources of a slot in ascending code, with their counts (R60). -/
def Plan.occupancy (p : Plan) (q : Nat) : List (Nat × Nat) :=
  let rows := ((List.range 6).flatMap fun k => (List.range (kindCount (k + 1))).map fun i => (k + 1, i)).filterMap fun e =>
    match p.row e.1 e.2 with
    | none => none
    | some r =>
      let busy := r.steps.any fun x =>
        let per := Nat.max 1 r.period
        decide (x.opcode ≠ 0) && decide ((q % per + per - x.offset % per) % per < x.slots r.kind)
      if busy then some (e.1 * 256 + e.2, 1) else none
  let c := p.slotCharge q
  rows ++ ([(0xF100, c.1), (0xF200, c.2.1), (0xF300, c.2.2)].filter fun e => decide (e.2 ≠ 0))

/-- The records of an annex of whole records, with any octets left over as a last one: slot, resource and count. -/
def annexRecords : Nat → Octets → List (Nat × Nat × Nat)
  | 0, _ => []
  | n + 1, d => if d.isEmpty then [] else (beNat (d.take 4), beNat (slice d 4 2), beNat (slice d 6 2)) :: annexRecords n (d.drop 8)

/-- Where two lists of records first differ: the record that was wanted there, else the one found. -/
def firstDiffers : List (Nat × Nat × Nat) → List (Nat × Nat × Nat) → Option (Nat × Nat × Nat)
  | [], [] => none
  | a :: _, [] => some a
  | [], b :: _ => some b
  | a :: r, b :: t => if a = b then firstDiffers r t else some a

/-- Rule 18: the witness annex; at the first record that differs, in the row that it names. -/
def rule18 (d : Octets) (p : Plan) : Violation :=
  let annex := slice d (imageField d 0xC8 4) (imageField d 0xCC 4)
  let want := (List.range reelSlots).flatMap fun q => (p.occupancy q).map fun e => (q, e.1, e.2)
  match firstDiffers want (annexRecords annex.length annex) with
  | some e => some (p.rowNumber (e.2.1 / 256) (e.2.1 % 256), e.1)
  | none => failIf (decide (annex.length ≠ 8 * want.length))

/-- Rule 19. -/
def rule19 (p : Plan) : Violation :=
  let n (keep : PlanStep → Bool) : Nat := ((p.rows.filter fun r => decide (r.kind = 1)).map fun r => r.perReel keep).sum
  failIf (decide (p.variant = 1) && (decide (2112000 < n fun x => decide (x.opcode = 0x10))
    || decide (4224000 < n fun x => decide (x.opcode = 0x11 ∨ x.opcode = 0x12))))

/-- The rules in order, with their abort codes (Table 2.9). -/
def State.planRules (s : State) (d : Octets) (p : Plan) : List (Nat × (Unit → Violation)) :=
  [(0x0A1E0030, fun _ => rule1 d), (0x0A1E0031, fun _ => rule2 d), (0x0A1E0032, fun _ => s.rule3 d), (0x0A1E0033, fun _ => rule4 d),
   (0x0A1E0034, fun _ => rule5 d), (0x0A1E0035, fun _ => rule6 d p), (0x0A1E0036, fun _ => rule7 p), (0x0A1E0037, fun _ => rule8 p),
   (0x0A1E0038, fun _ => rule9 p), (0x0A1E0039, fun _ => rule10 p), (0x0A1E003A, fun _ => s.rule11 p), (0x0A1E003B, fun _ => rule12 p),
   (0x0A1E003C, fun _ => s.rule13 p), (0x0A1E003D, fun _ => s.rule14 p), (0x0A1E003E, fun _ => rule15 p), (0x0A1E003F, fun _ => rule16 p),
   (0x0A1E0040, fun _ => rule17 p), (0x0A1E0041, fun _ => rule18 d p), (0x0A1E0042, fun _ => rule19 p)]

/-- The first violation: abort code, row and slot. -/
def firstViolation : List (Nat × (Unit → Violation)) → Option (Nat × Nat × Nat)
  | [] => none
  | (c, f) :: r => match f () with
    | some v => some (c, v)
    | none => firstViolation r

/-- The load checker's verdict on an image. -/
def State.checkPlan (s : State) (d : Octets) : Option (Nat × Nat × Nat) := firstViolation (s.planRules d (parsePlan d))

end Sys2Proof.Machine
end

