-- ==== Sys2Proof/Machine/GnssOps.lean ====
section
/-! DEFINITION. GNSS below the time solution: sample ports, signals, channels with their correlators, loops and states, acquisition,
the capture film, navigation data, and the latch (R210 to R220, R224, R226, R231, R232). -/

namespace Sys2Proof.Machine

def State.gnssPort (s : State) (p : Nat) : GnssPort := s.gnss.ports.look (fun _ => {}) p
def State.setGnssPort (s : State) (p : Nat) (x : GnssPort) : State :=
  { s with gnss := { s.gnss with ports := s.gnss.ports.put (fun _ => {}) p x } }
def State.gnssChannel (s : State) (c : Nat) : GnssChannel := s.gnss.channels.look (fun _ => {}) c
def State.setGnssChannel (s : State) (c : Nat) (x : GnssChannel) : State :=
  { s with gnss := { s.gnss with channels := s.gnss.channels.put (fun _ => {}) c x } }

/-- The channels in use. -/
def State.gnssUsed (s : State) : List Nat := s.gnss.channels.keys.filter fun c => decide ((s.gnssChannel c).state ≠ 0)

/-- GNSS is enabled and the port's mode is `m`. -/
def State.gnssMode (s : State) (p m : Nat) : Bool := decide (s.obj 0x2010 1 = 1) && decide (s.obj (0x2601 + p) 1 = m)

/-- The GNSS references of a port. -/
def State.gnssRefs (s : State) (p : Nat) : List Nat :=
  refNumbers.filter fun r => decide (16 ≤ r) && decide (s.obj (0x3100 + r) 2 = 256 + p) && decide ((s.loupe r).state ≠ 0)

/-! ### Signals (Table 8.1) -/

/-- A signal: band, chip rate in Hz, chips of its primary code, whether it has a pilot. -/
structure Signal where
  lower : Bool
  chipHz : Nat
  chips : Nat
  pilot : Bool
deriving DecidableEq, Repr

def signalOf : Nat → Signal
  | 1 => ⟨false, 1023000, 1023, false⟩
  | 3 => ⟨false, 1023000, 4092, true⟩
  | 5 => ⟨false, 1023000, 10230, true⟩
  | 7 => ⟨false, 1023000, 1023, false⟩
  | _ => ⟨true, 10230000, 10230, true⟩

/-- The signal is in the lower band (Table 8.1). -/
def lowerBand (sig : Nat) : Bool := (signalOf sig).lower

/-- The centre of a band, Hz (R210). -/
def bandHz (low : Bool) : Nat := if low then 1176450000 else 1575420000

/-- The system of a signal: 0 GPS, 1 Galileo, 2 BeiDou, 3 QZSS. -/
def systemOf (sig : Nat) : Nat := (sig - 1) / 2

/-- The upper-band signal of a system, and the satellites of the systems (R216). -/
def upperSignal (sys : Nat) : Nat := 2 * sys + 1
def systemCodes : List (Nat × Nat) := [(0, 32), (1, 50), (2, 63), (3, 10)]

/-- fs that a code phase in 2⁻³² chip takes. -/
def chipTime (g : Signal) (phase : Int) : Int := roundDivI (phase * 10 ^ 15) (g.chipHz * 2 ^ 32)

/-- TAI minus a system's time, s (R224). -/
def labelOffset : Nat → Int
  | 2 => 33
  | _ => 19

/-! ### Sample ports (R210 to R213) -/

/-- The set of group 0x0A agrees (R211). -/
def gnssAgrees (bands rate upper lower fmt : Int) : Bool :=
  (decide (bands = 1) || decide (bands = 3)) && [20460, 40920, 61380, 81840, 102300].contains rate
    && decide (2 * ((upper.natAbs : Int) + 2046000) ≤ rate * 1000)
    && (decide (bands = 1) || decide (2 * ((lower.natAbs : Int) + 10230000) ≤ rate * 1000)) && decide (0 ≤ fmt ∧ fmt ≤ 1)

/-- The TDC of a sample port's DCLK among the event inputs' TDCs. -/
def gnssTdc (p : Nat) : Nat := 64 + p

/-- A 12-bit word in the port's number format: 0 two's complement, 1 offset binary (0x2601+p.06). -/
def sampleValue (format w : Nat) : Int := if format = 0 then signed 12 w else (w % 4096 : Nat) - 2048

/-- A sample as values: upper I and Q, lower I and Q; a disabled band reads 0. -/
def GnssSample.values (format bands : Nat) (x : GnssSample) : (Int × Int) × (Int × Int) :=
  (if bit bands 0 then (sampleValue format x.upperI, sampleValue format x.upperQ) else (0, 0),
   if bit bands 1 then (sampleValue format x.lowerI, sampleValue format x.lowerQ) else (0, 0))

/-- A sample of value 0 in a number format. -/
def zeroSample (format : Nat) : GnssSample := let w := if format = 0 then 0 else 2048; ⟨w, w, w, w⟩

/-- Timestamp of the first sample of a block (R212), 2⁻³² ns of time base 0: its DCLK edge fell `age` cycles ago and `fine` units of 0.5 ps
after the start of its cycle, less the delay spread of its TDC. -/
def State.blockStart (s : State) (port age : Nat) (fine : Int) : Int :=
  let v : Int := (fine - 2 * (s.input (gnssTdc port)).skew) * s.increment 0
  roundDivI (((s.tai : Int) - (age * s.increment 0 : Nat)) * 2000 + v) (2000 * 2 ^ 28)

/-- GNSS_SAMPLE_BLOCK (R210, R212): the DCLK edge of the first sample fell `age` cycles ago and `fine` units of 0.5 ps after the start of
its cycle. The block is timestamped, tagged and delivered, out of step as zeros and counted; the port's clock is present. -/
def execGnssSampleBlock (port : Nat) (framed : Bool) (age : Nat) (fine : Int) (samples : List GnssSample) (s : State) :
    Host.Outcome State Fault Refusal :=
  .next (s.whenServing fun s =>
    if bit s.intake.faults (88 + port) ∨ s.obj 0x2010 1 = 0 ∨ s.obj (0x2601 + port) 1 = 0 then s
    else
      let x := s.gnssPort port
      let start := s.blockStart port age fine
      let y : GnssPort := { x with status := putBit x.status 0 true, framing := x.framing || !framed, first := some (x.first.getD start),
                                   latest := start, blocks := if x.first.isSome then x.blocks + 1 else 0 }
      let body := if framed then samples else samples.map fun _ => zeroSample (s.obj (0x2601 + port) 6)
      let t := (s.tagItem (88 + port) 0 (.gnssBlock start body)).setGnssPort port y
      if framed then t else t.bump (0x2601 + port) 0x0E)

/-- One sample through the pulse blanking (R213): a sample over the threshold, and the 8 on each side of it, are zeroed. `quiet` counts
the samples since the last one over it. -/
def GnssBand.sample (threshold : Nat) (b : GnssBand) (v : Int × Int) : GnssBand :=
  let loud := decide (threshold * b.rms < 10 * v.1.natAbs) || decide (threshold * b.rms < 10 * v.2.natAbs)
  let c : GnssBand := { b with seen := b.seen + 1, squares := b.squares + v.1.natAbs * v.1.natAbs + v.2.natAbs * v.2.natAbs }
  if loud then { c with quiet := 0, blanked := c.blanked + 1 + Nat.min 8 (b.quiet - 8) }
  else { c with quiet := b.quiet + 1, blanked := c.blanked + (if b.quiet < 8 then 1 else 0) }

/-- A block of samples through a band's interference treatment. -/
def GnssBand.block (threshold : Nat) (b : GnssBand) (l : List (Int × Int)) : GnssBand :=
  l.foldl (GnssBand.sample threshold) { b with rms := Config.runningRms b.rms l }

/-- The figures of a band over the reel that ended. -/
def GnssBand.reel (b : GnssBand) : GnssBand := { b with seen := 0, blanked := 0, squares := 0, power := Config.dbfs b.squares b.seen }

/-- The sample rate over a span of blocks, µHz (R212). -/
def blockRate (blocks : Nat) (span : Int) : Nat := if span ≤ 0 then 0 else (roundDivI ((blocks * 1024 * 2 ^ 32 * 10 ^ 15 : Nat) : Int) span.toNat).toNat

/-- The measured rate differs from .03 by more than 100 × 10⁻⁶ (R212). -/
def State.rateError (s : State) (p : Nat) : Bool :=
  let r := (s.gnssPort p).rate
  let f : Nat := s.obj (0x2601 + p) 3 * 10 ^ 9
  decide (0 < r) && decide (f < ((r : Int) - f).natAbs * 10000)

/-- A port at a reel boundary: its rate, powers and blanked fraction over the reel that ended, and its status (0x2601+p.07 to .0D). -/
def State.portStatusReel (s : State) (p : Nat) : State :=
  let x := s.gnssPort p
  let rate := match x.first with
    | some t => if x.blocks = 0 then 0 else blockRate x.blocks (x.latest - t)
    | none => 0
  let seen := x.upper.seen + x.lower.seen
  let y : GnssPort := { x with
    status := putBit x.status 2 x.framing, framing := false, rate := rate, blocks := 0,
    first := if x.first.isSome then some x.latest else none,
    blanked := if seen = 0 then 0 else (x.upper.blanked + x.lower.blanked) * 1000000 / seen, upper := x.upper.reel, lower := x.lower.reel }
  let t := s.setGnssPort p y
  if t.rateError p then t else t.setGnssPort p { y with status := putBit y.status 1 false }

/-- A channel changes state. -/
def State.channelTo (s : State) (c st : Nat) : State :=
  let x := s.gnssChannel c
  if x.state = st then s
  else if st = 0 then s.setGnssChannel c {}
  else
    let y : GnssChannel := { x with state := st, since := s.now, test := if st = 5 then x.test else 0, goodSince := none, weakSince := none,
                                    looseSince := none }
    s.setGnssChannel c (if st = 1 then { state := 1, signal := x.signal, satellite := x.satellite, port := x.port, since := s.now } else y)

/-- Every channel of a port moves to a state (R211, R212). -/
def State.portChannelsTo (s : State) (p st : Nat) : State :=
  s.gnssUsed.foldl (fun s c => if (s.gnssChannel c).port = p then s.channelTo c st else s) s

/-- SAMPLE_PORT_FAULT (R212): the rate measured is in error, or the pin shows DCLK absent for 10 µs. -/
def execSamplePortFault (p : Nat) (noDclk : Bool) (s : State) : Host.Outcome State Fault Refusal :=
  .next (s.whenServing fun s =>
    if (!s.rateError p && !noDclk) || s.gnssMode p 0 || decide (s.obj 0x2010 1 = 0) then s
    else
      let x := s.gnssPort p
      let st := putBit (putBit x.status 0 (!noDclk)) 1 (s.rateError p)
      let y : GnssPort := { x with status := st, first := if noDclk then none else x.first, blocks := if noDclk then 0 else x.blocks }
      ((s.setGnssPort p y).portChannelsTo p 6).emcy 0xFF50 s.twin.active (p * 2 ^ 24 + st * 2 ^ 16))

/-- A line put into a list of lines, the strongest first. -/
def insertLine (x : SpectralLine) : List SpectralLine → List SpectralLine
  | [] => [x]
  | y :: r => if y.heightDb < x.heightDb then x :: y :: r else y :: insertLine x r

/-- Notches of a port for a reel, from the lines of its spectra (R213): 15 dB or more, at most eight a band, strongest
first. -/
def State.placeNotches (s : State) (p : Nat) (lines : List SpectralLine) : State :=
  let pick (low : Bool) : List (Bool × Int) :=
    let l := lines.filter fun x => decide (x.port = p) && (x.lower == low) && decide (15 ≤ x.heightDb)
    ((l.foldl (fun acc x => insertLine x acc) []).take 8).map fun x => (x.lower, x.offsetHz)
  s.setGnssPort p { s.gnssPort p with notches := pick false ++ pick true }

/-- The notches of one band. -/
def GnssPort.count (x : GnssPort) (low : Bool) : Nat := (x.notches.filter fun n => n.1 == low).length

/-! ### The capture film (R231, R232) -/

/-- The instant of sample `k` of a block, 2⁻³² ns, at a nominal rate in kHz. -/
def sampleInstant (start : Int) (kHz k : Nat) : Int := start + (k * 10 ^ 6 * 2 ^ 32 / Nat.max 1 kHz : Nat)

/-- The samples of a block from an instant on. -/
def samplesFrom {α : Type} (from_ start : Int) (kHz : Nat) (l : List α) : List (Int × α) :=
  ((l.zipIdx.map fun e => (sampleInstant start kHz e.2, e.1)).filter fun e => decide (from_ ≤ e.1))

/-- A sample as its 6-octet film record: four 12-bit fields (R231). -/
def filmRecord (v : (Int × Int) × (Int × Int)) : Octets :=
  beOctets 6 (((unsigned 12 v.1.1 * 4096 + unsigned 12 v.1.2) * 4096 + unsigned 12 v.2.1) * 4096 + unsigned 12 v.2.2)

/-- The film takes a block's samples while its capture runs (R231): the first sample's instant and the rate come first. -/
def State.filmBlock (s : State) (p : Nat) (start : Int) (l : List ((Int × Int) × (Int × Int))) : State :=
  let kHz := s.obj (0x2601 + p) 3
  let g := s.gnss
  let a : State :=
    if g.film = 2 ∧ g.filmPort = p then
      let take := samplesFrom g.filmStart start kHz l
      let head : Octets := match g.data, take with
        | [], e :: _ => beOctets 14 (toTime112 (e.1.toNat * 2 ^ 28)) ++ beOctets 2 (kHz / 10)
        | _, _ => []
      let room := 16 + 6 * (g.filmMs * kHz)
      { s with gnss := { g with data := (g.data ++ head ++ take.flatMap fun e => filmRecord e.2).take room } }
    else s
  if g.acq = 1 ∧ g.acqPort = p then
    { a with gnss := { a.gnss with acqData := (g.acqData ++ (samplesFrom g.filmStart start kHz l).map fun e => e.2.1).take (10 * kHz) } }
  else a

/-- A sample block delivered to the plates (R15, R213, R231). -/
def State.deliverBlock (s : State) (p : Nat) (start : Int) (samples : List GnssSample) : State :=
  if s.obj 0x2010 1 = 0 ∨ s.obj (0x2601 + p) 1 = 0 then s
  else
    let bands := s.obj (0x2601 + p) 2
    let l := samples.map (GnssSample.values (s.obj (0x2601 + p) 6) bands)
    let x := s.gnssPort p
    let k := s.obj (0x2601 + p) 9
    let up := if bit bands 0 then x.upper.block k (l.map Prod.fst) else x.upper
    let low := if bit bands 1 then x.lower.block k (l.map Prod.snd) else x.lower
    (s.setGnssPort p { x with upper := up, lower := low }).filmBlock p start l

/-- The film is armed for a snapshot at a second; while it holds an acquisition capture the command takes effect at the end of that
capture (R232). -/
def State.armFilm (s : State) (p ms : Nat) (at_ : Nat) : State :=
  if s.gnss.acq = 1 then { s with gnss := { s.gnss with armPend := some (p, ms, at_) } }
  else { s with gnss := { s.gnss with film := 1, filmPort := p, filmMs := ms, armAt := some at_ } }

/-- The capture in the film is discarded (Table 15.4, line 132): of a snapshot, or of an acquisition. -/
def State.discardCapture (s : State) : State :=
  { s with gnss := { s.gnss with film := if 2 ≤ s.gnss.film then 0 else s.gnss.film, data := [], acq := 0, acqData := [], fftLeft := 0 } }

/-- The film is empty and nothing waits for it. -/
def State.clearFilm (s : State) : State :=
  { s with gnss := { s.gnss with film := 0, data := [], armAt := none, armPend := none, acq := 0, acqData := [], fftLeft := 0 } }

/-! ### Which satellites have channels (R214, R217) -/

/-- A bank that a plan holds awake in every exposure of the reel (R214). -/
def Plan.continuous (p : Plan) (b : Nat) : Bool := p.entryAwake 4 b && (p.toggles 4 b).all fun e => e.2

/-- The continuous banks of the plan in force (0x2600.02). -/
def State.continuousBanks (s : State) : List Nat := (List.range 12).filter s.plan.continuous

/-- The first idle channel of the continuous banks, 16 channels a bank (R214). -/
def State.freeChannel (s : State) : Option Nat :=
  (s.continuousBanks.flatMap fun b => (List.range 16).map (16 * b + ·)).find? fun c => decide ((s.gnssChannel c).state = 0)

/-- The channel that tracks a signal of a satellite on a port. -/
def State.channelOf (s : State) (p sig sat : Nat) : Option Nat :=
  s.gnssUsed.find? fun c => decide ((s.gnssChannel c).signal = sig ∧ (s.gnssChannel c).satellite = sat ∧ (s.gnssChannel c).port = p)

/-- The antenna position of a port, mm (R225). -/
def State.antenna (s : State) (p : Nat) : Int × Int × Int := (s.objI (0x2603 + p) 9, s.objI (0x2603 + p) 0x0A, s.objI (0x2603 + p) 0x0B)

/-- fs of time base 0. -/
def State.taiFs (s : State) : Int := roundDivI ((s.tai : Int) * 1000000) (2 ^ 60)

/-- What the navigation data held say of a satellite now, if they say anything. -/
def State.satNow (s : State) (p sig sat : Nat) : Option SatModel :=
  if s.gnss.navigation.isEmpty then none
  else Config.satModel s.gnss.navigation sig sat (s.antenna p) (s.taiFs - labelOffset (systemOf sig) * 10 ^ 15)

/-- Elevation in 0.1°, if it is known. -/
def State.elevation (s : State) (p sig sat : Nat) : Option Nat := (s.satNow p sig sat).map SatModel.elevation

/-- Whether a system is enabled and a satellite not excluded by the host (R214). -/
def State.satelliteUsable (s : State) (sig sat : Nat) : Bool :=
  bit (s.obj 0x2600 5) (systemOf sig) && !bit (s.obj 0x2607 (1 + systemOf sig)) (sat - 1)

/-- A satellite known to stand below the mask. -/
def State.masked (s : State) (p sig sat : Nat) : Bool := match s.elevation p sig sat with
  | none => false
  | some e => decide (e < s.obj 0x2600 4)

/-- The code phase, Doppler and tolerance predicted for a signal. -/
def State.prediction8 (s : State) (p sig sat : Nat) : Option (Nat × Int × Nat) :=
  if s.gnss.navigation.isEmpty then none else Config.codePrediction s.gnss.navigation sig sat (s.antenna p) s.tai

/-- A signal of a satellite receives a channel: in Pull-in if its code phase is predicted within ±0.3 chip, else in Search (R215, R217). -/
def State.assign (s : State) (p sig sat : Nat) : State :=
  match s.freeChannel with
  | none => s
  | some c =>
    let x : GnssChannel := { state := 1, signal := sig, satellite := sat, port := p, since := s.now }
    match s.prediction8 p sig sat with
    | some (ph, d, tol) => s.setGnssChannel c (if tol ≤ 300 then { x with state := 2, codePhase := ph, doppler := d } else x)
    | none => s.setGnssChannel c x

/-- Elevation, signal and satellite put into a list, the highest first. -/
def insertHigh (x : Nat × Nat × Nat) : List (Nat × Nat × Nat) → List (Nat × Nat × Nat)
  | [] => [x]
  | y :: r => if y.1 < x.1 then x :: y :: r else y :: insertHigh x r

/-- The upper-band signals of a port that are due a channel, the highest first: satellites known to stand above the mask, of enabled
systems, not excluded (R214). -/
def State.skyOrder (s : State) (p : Nat) : List (Nat × Nat × Nat) :=
  systemCodes.foldl (fun acc k => (List.range k.2).foldl (fun acc n =>
    let sig := upperSignal k.1
    match s.elevation p sig (n + 1) with
    | none => acc
    | some e =>
      if s.satelliteUsable sig (n + 1) && decide (s.obj 0x2600 4 ≤ e) && (s.channelOf p sig (n + 1)).isNone then insertHigh (e, sig, n + 1) acc
      else acc) acc) []

/-- Channels are assigned, best first: upper band before lower (which `startLower` assigns), port 0 before port 1, the higher elevation
first (R214). -/
def State.assignChannels (s : State) : State :=
  if s.gnss.navigation.isEmpty ∨ s.freeChannel = none then s
  else [0, 1].foldl (fun (s : State) p =>
    if s.gnssMode p 1 && bit (s.obj (0x2601 + p) 2) 0 then (s.skyOrder p).foldl (fun s k => s.assign p k.2.1 k.2.2) s else s) s

/-- A channel of a satellite that is no longer usable, or stands below the mask, is released (R214). -/
def State.dropMasked (s : State) : State :=
  s.gnssUsed.foldl (fun s c =>
    let x := s.gnssChannel c
    if s.satelliteUsable x.signal x.satellite && !s.masked x.port x.signal x.satellite then s else s.setGnssChannel c {}) s

/-- Channels of banks that a swap leaves no longer continuous are released, and return to Search in a continuous bank if one is
free (R214). -/
def State.releaseBanks (s : State) : State :=
  s.gnssUsed.foldl (fun s c =>
    if s.continuousBanks.contains (c / 16) then s
    else
      let x := s.gnssChannel c
      let t := s.setGnssChannel c {}
      match t.freeChannel with
      | none => t
      | some k => t.setGnssChannel k { state := 1, signal := x.signal, satellite := x.satellite, port := x.port, since := s.now }) s

/-! ### Acquisition (R216, R217) -/

/-- Satellites of a port whose elevation is not known and that no channel tracks: a capture is searched for their codes too. -/
def State.unknownCodes (s : State) (p : Nat) : List (Nat × Nat) :=
  systemCodes.flatMap fun k => ((List.range k.2).map fun n => (upperSignal k.1, n + 1)).filter fun e =>
    s.satelliteUsable e.1 e.2 && (s.elevation p e.1 e.2).isNone && (s.channelOf p e.1 e.2).isNone

/-- What a capture of a port is searched for: every upper-band signal in Search, and while a channel is free the satellites not known
(R216, R217). -/
def State.searchList (s : State) (p : Nat) : List (Nat × Nat) :=
  (((s.gnssUsed.map s.gnssChannel).filter fun x => decide (x.state = 1 ∧ x.port = p) && !lowerBand x.signal).map fun x => (x.signal, x.satellite))
    ++ (if s.freeChannel.isSome then s.unknownCodes p else [])

/-- A row of Table 8.3: coherent time in ms, Doppler bin in Hz, non-coherent sums, FFT passes. -/
def searchRow : Nat → Nat × Nat × Nat × Nat
  | 3 => (4, 125, 2, 164)
  | 5 => (10, 50, 1, 202)
  | _ => (1, 500, 10, 220)

/-- Cycles of a 32,768-point FFT pass (R216). -/
def fftPass : Nat := 9216

/-- A correlator bank is awake (R216). -/
def State.bankAwake (s : State) : Bool := (List.range 12).any fun b => s.domainReady 4 b

/-- Ports whose upper band is tracked. -/
def State.trackedPorts (s : State) : List Nat := [0, 1].filter fun p => s.gnssMode p 1 && bit (s.obj (0x2601 + p) 2) 0

/-- A signal waits for a capture: one in Search, or a free channel that a new satellite could take. -/
def State.wantsCapture (s : State) : Bool :=
  (s.gnssUsed.any fun c => decide ((s.gnssChannel c).state = 1) && !lowerBand (s.gnssChannel c).signal) || s.freeChannel.isSome

/-- An acquisition starts at cycle 0 of an exposure on the first tracked port with something to search: it takes the film, or is
deferred and counted (R217, R232). -/
def State.startAcquisition (s : State) : State :=
  if s.gnss.acq ≠ 0 ∨ s.trackedPorts = [] ∨ s.wantsCapture = false then s
  else match s.trackedPorts.find? fun p => !(s.searchList p).isEmpty with
    | none => s
    | some p =>
      if s.gnss.film = 0 then { s with gnss := { s.gnss with acq := 1, acqPort := p, acqFrom := s.now, filmStart := s.base32 0, acqData := [] } }
      else s.bump 0x2600 7

/-- ACQUISITION_CAPTURE_END (R217, R231, R232): after 10 ms the film is free of the capture, a snapshot armed meanwhile takes effect, and
the FFT engine has its passes to run. -/
def execAcquisitionCaptureEnd (s : State) : Host.Outcome State Fault Refusal :=
  .next (s.whenServing fun s =>
    if s.gnss.acq = 1 ∧ s.gnss.acqFrom + 10000000 ≤ s.now then
      let left := ((s.searchList s.gnss.acqPort).map fun e => (searchRow e.1).2.2.2 * fftPass).sum
      let t : State := { s with gnss := { s.gnss with acq := 2, fftLeft := left, armPend := none } }
      match s.gnss.armPend with
      | none => t
      | some (p, ms, at_) => t.armFilm p ms at_
    else s)

/-- Doppler centre and window of a search, mHz (R216): about the almanac's prediction, else about the engine's own frequency. -/
def State.searchWindow (s : State) (sig sat : Nat) : Int × Nat :=
  match (if s.gnss.navigation.isEmpty then none else Config.almanacDoppler s.gnss.navigation sig sat s.tai) with
  | some d => (d, 500000)
  | none => (roundDivI (-(s.yPred + s.dev.yc) * bandHz (lowerBand sig)) (10 ^ 15), 5000000)

/-- One code of a search (R216): a detection moves its channel to Pull-in; a satellite with no channel takes a free one. -/
def State.searchOne (s : State) (p : Nat) (e : Nat × Nat) : State :=
  let (centre, window) := s.searchWindow e.1 e.2
  let (ms, bin, sums, _) := searchRow e.1
  match Config.acquire s.gnss.acqData e.1 e.2 centre window (ms, bin * 1000, sums) with
  | none => s
  | some d =>
    if d.ratioTenths < 25 ∨ d.cn0 < 3200 then s
    else
      let put (c : Nat) : State := s.setGnssChannel c { state := 2, signal := e.1, satellite := e.2, port := p, cn0 := d.cn0,
                                                         codePhase := d.codePhase, doppler := d.doppler, since := s.now }
      match s.channelOf p e.1 e.2 with
      | some c => if (s.gnssChannel c).state = 1 then put c else s
      | none => match s.freeChannel with
        | none => s
        | some c => put c

/-- ACQUISITION_COMPLETE (R216): the FFT engine has run its passes, in exposures in which a bank is awake. -/
def execAcquisitionComplete (s : State) : Host.Outcome State Fault Refusal :=
  .next (s.whenServing fun s =>
    if s.gnss.acq = 2 ∧ s.gnss.fftLeft ≤ s.clock.cycle ∧ s.bankAwake = true then
      let t := (s.searchList s.gnss.acqPort).foldl (fun (s : State) e => s.searchOne s.gnss.acqPort e) s
      { t with gnss := { t.gnss with acq := 0, acqData := [], fftLeft := 0 } }
    else s)

/-! ### Navigation data (R219, R224) -/

/-- Two records of the same kind of a satellite. -/
def sameRecord (a b : NavRecord) : Bool := decide (a.signal = b.signal ∧ a.satellite = b.satellite ∧ a.kind = b.kind)

/-- The records held are replaced, and 0x2600.08 counts them. -/
def State.setNavigation (s : State) (n : List NavRecord) : State :=
  ({ s with gnss := { s.gnss with navigation := n } }).setObj 0x2600 8 (Nat.min n.length 0xFFFF : Nat)

/-- A broadcast leap announcement stands in the leap table (R227). -/
def State.leapKnown (s : State) (r : NavRecord) : Bool :=
  s.leapWords.any fun w => decide (leapSecond w = (Config.navLeap r).2 ∧ leapOffset w = (Config.navLeap r).1)

/-- A record is kept for its satellite (R219); a leap announcement that the table does not hold is reported once (R227). -/
def State.keepNav (s : State) (p : Nat) (r : NavRecord) : State :=
  let t := s.setNavigation ((s.gnss.navigation.filter fun k => !sameRecord k r) ++ [r])
  if r.kind = 4 ∧ t.leapKnown r = false ∧ ¬ t.gnss.announced.contains r then
    ({ t with gnss := { t.gnss with announced := t.gnss.announced ++ [r] } }).emcy 0xFF54 t.twin.active (p * 2 ^ 24 + r.signal * 2 ^ 16)
  else t

/-- A navigation upload: every record passes, or the whole is refused. -/
def navigationUploadOp (data : Octets) (s : State) : Except Nat State :=
  if 65536 < data.length then .error 0x05040005
  else match Config.navRecords data with
    | none => .error 0x0A1E0064
    | some r => .ok (r.foldl (fun (s : State) x => s.keepNav 0 x) s)

/-- NAVIGATION_UPLOAD (R219). -/
def execNavigationUpload (t : Transport) (data : Octets) (s : State) : Host.Outcome State Fault Refusal :=
  .next (s.command t 0x2600 9 (navigationUploadOp data))

/-- A decoded time of week agrees with time base 0 within 1 ms after the labelling; while the bound is unknown the first channel to
decode sets the labelling alone and the others are held to it (R224). -/
def State.towCheck (s : State) (x : GnssChannel) (start : Int) : State × Bool :=
  let t := start + chipTime (signalOf x.signal) x.codePhase + Config.flightTime (systemOf x.signal) x.satellite
  let off := t + labelOffset (systemOf x.signal) * 10 ^ 15 - s.taiFs
  if (s.steer 0).known then ({ s with gnss := { s.gnss with label := none } }, decide (off.natAbs ≤ 10 ^ 12))
  else match s.gnss.label with
    | none => ({ s with gnss := { s.gnss with label := some off } }, true)
    | some k => (s, decide ((off - k).natAbs ≤ 10 ^ 12))

/-! ### Correlators and loops (R214, R218) -/

/-- The component and the spacing in 0.01 chip of a correlator (R214): none for one that is idle. -/
def correlatorTap (pilot : Bool) (k : Nat) : Option (Nat × Int) :=
  let main := if pilot then 0 else 1
  match k with
  | 0 => some (main, -50)
  | 1 => some (main, -10)
  | 2 => some (main, 0)
  | 3 => some (main, 10)
  | 4 => some (main, 50)
  | 5 => if pilot then some (1, -10) else none
  | 6 => if pilot then some (1, 0) else none
  | 7 => if pilot then some (1, 10) else none
  | 8 => some (2, 0)
  | 9 => some (main, -5)
  | 10 => some (main, 5)
  | _ => some (3, 0)

/-- The sums of a channel's 12 correlators over the exposure that ended. -/
def correlators (draw sig : Nat) : List (Int × Int) :=
  (List.range 12).map fun k => match correlatorTap (signalOf sig).pilot k with
    | none => (0, 0)
    | some (c, d) => Config.correlate draw sig c d

/-- The code loop (R218): aided by the carrier, first order of 0.2 Hz, so that 4 × 0.2 Hz × 1 ms of its error is taken out an exposure
(log 89). The code phase wraps at the end of the primary code. -/
def GnssChannel.codeLoop (x : GnssChannel) : GnssChannel :=
  let g := signalOf x.signal
  let f : Nat := bandHz g.lower * 1000
  let step := roundDivI (((g.chipHz * 2 ^ 32 : Nat) : Int) * (f + x.doppler)) (1000 * f)
  let ph := (x.codePhase : Int) + step + roundDivI (8 * Config.discriminator 0 x.signal x.corr) 10000
  let len : Int := (g.chips * 2 ^ 32 : Nat)
  { x with codePhase := (ph % len).toNat, codeStart := x.codeStart.map fun t => t + chipTime g (ph / len * len) }

/-- The carrier loop (R218): a third-order PLL of 5 Hz, with a frequency-locked stage of 10 Hz during Pull-in. -/
def GnssChannel.carrierLoop (x : GnssChannel) : GnssChannel :=
  let e := Config.discriminator 1 x.signal x.corr
  let k (n : Nat) : Int := roundDivI (Config.carrierGain 5000 n * e) (2 ^ 32)
  let fll := if x.state = 2 then roundDivI (Config.carrierGain 10000 1 * Config.discriminator 2 x.signal x.corr) (2 ^ 32) else 0
  let chirp := x.chirp + k 3
  let d := x.doppler + roundDivI chirp 1000 + k 2 + fll
  { x with chirp := chirp, doppler := d, carrier := x.carrier + roundDivI (d * 2 ^ 32) 1000000 + k 1 }

/-- The instant since which a condition holds. -/
def sinceWhen (c : Bool) (now : Nat) (t : Option Nat) : Option Nat := if c then some (t.getD now) else none

/-- A channel's loops and indicators at cycle 0 of an exposure (R215, R218). -/
def GnssChannel.update (x : GnssChannel) (draw now : Nat) : GnssChannel :=
  let c := correlators draw x.signal
  let l := Config.lockIndicator c
  let n := Config.cn0Estimate c
  let y : GnssChannel := { x with corr := c, lock := l, cn0 := n }
  { y.carrierLoop.codeLoop with goodSince := sinceWhen (decide (800 ≤ l)) now x.goodSince, weakSince := sinceWhen (decide (n < 2500)) now x.weakSince,
                                looseSince := sinceWhen (decide (l < 500)) now x.looseSince, slip := x.slip || decide (l < 500) }

/-- A condition has held for a time, in cycles. -/
def heldFor (t : Option Nat) (n now : Nat) : Bool := match t with
  | none => false
  | some k => decide (k + n ≤ now)

/-- A synchronised upper-band channel starts the lower-band signal of its satellite in Pull-in, with code phase and Doppler scaled from
it (R217): a free channel, or its own in Search. -/
def State.startLower (s : State) (c : Nat) : State :=
  let x := s.gnssChannel c
  if lowerBand x.signal || !bit (s.obj (0x2601 + x.port) 2) 1 then s
  else
    let g := signalOf (x.signal + 1)
    let put (k : Nat) : State := s.setGnssChannel k
      { state := 2, signal := x.signal + 1, satellite := x.satellite, port := x.port, cn0 := x.cn0, since := s.now,
        codePhase := x.codePhase * 10 % (g.chips * 2 ^ 32), doppler := roundDivI (x.doppler * bandHz true) (bandHz false) }
    match s.channelOf x.port (x.signal + 1) x.satellite with
    | some k => if (s.gnssChannel k).state = 1 then put k else s
    | none => match s.freeChannel with
      | none => s
      | some k => put k

/-- A Lost channel is re-acquired from the predicted code phase and Doppler, once a reel (Table 8.2). -/
def State.reacquire (s : State) (c : Nat) : State :=
  let x := s.gnssChannel c
  match s.prediction8 x.port x.signal x.satellite with
  | none => s
  | some (ph, d, _) => (s.channelTo c 2).setGnssChannel c { (s.channelTo c 2).gnssChannel c with codePhase := ph, doppler := d }

/-- The transitions of Table 8.2 after a channel's update; `draw` is the free value of this update. -/
def State.channelStep (s : State) (c draw : Nat) : State :=
  let x := s.gnssChannel c
  match x.state with
  | 2 =>
    if heldFor x.goodSince 100000000 s.now && decide (3000 ≤ x.cn0) then
      (s.channelTo c 3).setGnssChannel c { (s.channelTo c 3).gnssChannel c with lockedAt := some s.now }
    else if x.since + 500000000 ≤ s.now then s.channelTo c 1 else s
  | 3 => match Config.timeOfWeek draw c with
    | none => s
    | some t =>
      if Config.symbolSync draw x.signal x.corr then
        (match s.towCheck x t with
        | (u, true) => (u.channelTo c 4).setGnssChannel c { (u.channelTo c 4).gnssChannel c with codeStart := some t }
        | (u, false) => u)
      else s
  | 4 => if heldFor x.weakSince 1000000000 s.now || heldFor x.looseSince 200000000 s.now then s.channelTo c 6
    else match Config.navMessage draw c with
      | none => s
      | some r => s.keepNav x.port { r with signal := x.signal }
  | 6 => if x.since + 10000000000 ≤ s.now then s.channelTo c 0 else if s.clock.exposure = 0 then s.reacquire c else s
  | _ => s

/-- One channel at cycle 0 of an exposure (R215): its loops run in Pull-in, Tracking, Synchronised and Excluded. -/
def State.channelLoop (s : State) (c : Nat) : State :=
  let (draw, t) := ((s.free, { s with free := s.free + 1 }) : Nat × State)
  let x := t.gnssChannel c
  let u := if 2 ≤ x.state ∧ x.state ≤ 5 then t.setGnssChannel c (x.update draw t.now) else t
  u.channelStep c draw

/-- The channels of a bank at cycle 0: a bank that is not ready skips their work (R31). -/
def State.bankLoop (s : State) (b : Nat) : State :=
  let l := s.gnssUsed.filter fun c => decide (c / 16 = b)
  if l.isEmpty then s
  else if s.domainReady 4 b then l.foldl State.channelLoop s
  else s.skip (domainLine 4 b)

/-! ### The latch (R220, R226, R236) -/

/-- Delays of a band from the antenna phase centre to the sample register, fs (R220, R226). -/
def State.bandDelay (s : State) (p : Nat) (low : Bool) : Int :=
  let k := if low then 1 else 0
  (s.objI (0x2603 + p) (1 + k) + s.objI (0x2603 + p) (3 + k) + s.objI (0x2603 + p) (5 + k) + s.objI (0x2603 + p) 8) * 1000

/-- The measurement of a channel at the latch instant (R220): its loops stand at cycle 0 of the reel, which is *t*_L. -/
def State.measure (s : State) (c : Nat) : GnssMeas :=
  let x := s.gnssChannel c
  let g := signalOf x.signal
  let tx := x.codeStart.getD 0 + chipTime g x.codePhase
  let rho := s.taiFs - s.bandDelay x.port g.lower - tx
  let lockS := match x.lockedAt with | none => 0 | some t => (s.now - t) / 1000000000
  let cmc := roundDivI rho 1000 + roundDivI (x.carrier * 10 ^ 12) (bandHz g.lower * 2 ^ 32)
  let flags := 128 * bitNat x.codeStart.isSome + 64 * bitNat (decide (500 ≤ x.lock)) + 32 * bitNat x.codeStart.isSome + 16 * bitNat x.slip
    + 8 * bitNat (decide (x.state = 5)) + 4 * bitNat (decide (0 < (s.gnssPort x.port).count g.lower)) + x.port
  { channel := c, signal := x.signal, satellite := x.satellite, port := x.port, flags := flags, transmit := tx, rho := rho, carrier := x.carrier,
    doppler := x.doppler, cn0 := x.cn0, lockTime := Nat.min lockS 0xFFFF,
    issue := ((s.satNow x.port x.signal x.satellite).map SatModel.issue).getD 0, multipath := Nat.min (Config.multipath x.corr) 0xFFFF,
    divergence := match x.divergence[99]? with | none => 0 | some d => cmc - d }

/-- Table 8.5. -/
def GnssMeas.record (m : GnssMeas) : Octets :=
  [BitVec.ofNat 8 m.signal, BitVec.ofNat 8 m.satellite, BitVec.ofNat 8 m.channel, BitVec.ofNat 8 m.flags]
    ++ beOctets 8 (unsigned 64 m.rho) ++ beOctets 8 (unsigned 64 m.carrier) ++ beOctets 4 (unsigned 32 m.doppler) ++ beOctets 2 m.cn0
    ++ beOctets 2 m.lockTime ++ beOctets 2 m.issue ++ beOctets 2 m.multipath

/-- An exclusion ends: to Synchronised if lock is held, else to Lost (Table 8.2). -/
def State.endSatellite (s : State) (c : Nat) : State := s.channelTo c (if 500 ≤ (s.gnssChannel c).lock then 4 else 6)

/-- The time of week of a measurement agrees with time base 0 within 1 ms (test 0x04). -/
def GnssMeas.towOk (m : GnssMeas) (taiFs : Int) : Bool :=
  decide ((m.transmit + Config.flightTime (systemOf m.signal) m.satellite + labelOffset (systemOf m.signal) * 10 ^ 15 - taiFs).natAbs ≤ 10 ^ 12)

/-- Navigation data against almanac and time of week against time base 0 (test 0x04). -/
def State.navOk (s : State) (m : GnssMeas) : Bool :=
  m.towOk s.taiFs && (match s.satNow m.port m.signal m.satellite with | none => true | some k => decide (k.almanac ≤ 5000))

/-- After its measurement a channel begins the next second: its slip flag clears, its code minus carrier is kept; an exclusion whose
period has run, or whose new issue of data passes, ends (Table 8.2, Table 8.6). -/
def State.afterLatch (s : State) (m : GnssMeas) : State :=
  let x := s.gnssChannel m.channel
  let cmc := roundDivI m.rho 1000 + roundDivI (m.carrier * 10 ^ 12) (bandHz (lowerBand m.signal) * 2 ^ 32)
  let t := s.setGnssChannel m.channel { x with slip := false, divergence := (cmc :: x.divergence).take 101 }
  if x.state = 5 ∧ ((x.until_ ≠ 0 ∧ x.until_ ≤ s.clock.reel) ∨ (x.test = 4 ∧ m.issue ≠ x.issue ∧ s.navOk m = true)) then t.endSatellite m.channel
  else t

/-- Every synchronised and excluded channel latches at cycle 0 of a reel (R220). -/
def State.latchChannels (s : State) : State :=
  let on := s.gnssUsed.filter fun c => decide ((s.gnssChannel c).state = 4 ∨ (s.gnssChannel c).state = 5)
  let l := on.map s.measure
  let due (t : State) (p : Nat) : State := t.setGnssPort p { t.gnssPort p with solveDue := t.gnssMode p 1 }
  due (due (l.foldl State.afterLatch { s with gnss := { s.gnss with latchAt := s.tai, latched := l } }) 0) 1

/-- The channels at an exposure boundary (R214 to R219). -/
def State.gnssExposure (s : State) : State :=
  let a := (List.range 12).foldl State.bankLoop s
  let b := a.dropMasked.assignChannels
  let up := b.gnssUsed.filter fun c => decide ((b.gnssChannel c).state = 4) && !lowerBand (b.gnssChannel c).signal
  let d := up.foldl State.startLower b
  let e : State := if d.bankAwake then { d with gnss := { d.gnss with fftLeft := d.gnss.fftLeft - 1000000 } } else d
  let t := e.startAcquisition
  if t.clock.exposure = 50 then { t with gnss := { t.gnss with shownAt := t.gnss.latchAt, shown := t.gnss.latched.map GnssMeas.record } } else t

end Sys2Proof.Machine
end

