-- ==== Sys2Proof/Machine/Datagram.lean ====
section
/-! DEFINITION. Octets of frames as they leave: checksums (R252), padding and FCS (R256), redundancy control trailers (R365), LLDPDUs (R259,
R260). PRESUMED: the headers of IEEE 802.3, IP and UDP, and the LLDP TLVs of IEEE 802.1AB (log 95). -/

namespace Sys2Proof.Machine

/-! ### IP and UDP (R252) -/

/-- An IPv4-mapped address (Table 11.9). -/
def isMapped (a : Nat) : Bool := decide (field a 127 32 = 0xFFFF)

/-- An IPv4 header without options for a payload of `len` octets, with its checksum (R252). -/
def ipv4Header (src dst len : Nat) : Octets :=
  let h (c : Nat) : Octets := [0x45, 0] ++ beOctets 2 (20 + len) ++ [0, 0, 0x40, 0, 64, 17] ++ beOctets 2 c ++ beOctets 4 src ++ beOctets 4 dst
  h (checksum16 (h 0))

/-- An IPv6 header for a payload of `len` octets. -/
def ipv6Header (src dst len : Nat) : Octets := [0x60, 0, 0, 0] ++ beOctets 2 len ++ [17, 64] ++ beOctets 16 src ++ beOctets 16 dst

/-- The pseudo-header of a UDP checksum: the addresses, the protocol and the length. -/
def pseudoHeader (addresses : Octets) (len : Nat) : Octets :=
  if addresses.length = 8 then addresses ++ [0, 17] ++ beOctets 2 len else addresses ++ beOctets 4 len ++ [0, 0, 0, 17]

/-- A UDP datagram with a checksum field. -/
def udpDatagram (ports : Nat × Nat) (payload : Octets) (c : Nat) : Octets :=
  beOctets 2 ports.1 ++ beOctets 2 ports.2 ++ beOctets 2 (8 + payload.length) ++ beOctets 2 c ++ payload

/-- The checksum of a datagram over its addresses, with the field taken as 0 (R252). -/
def udpChecksumOf (addresses : Octets) (ports : Nat × Nat) (payload : Octets) : Nat :=
  udpSum (pseudoHeader addresses (8 + payload.length) ++ udpDatagram ports payload 0)

/-- The addresses of an IP header. -/
def headerAddresses (h : Octets) : Octets := if h.length = 20 then slice h 12 8 else slice h 8 32

/-! ### Served frames -/

/-- The octets of a copy that its ICV covers, in the order of Table 11.8 (log 8). -/
def Served.toSign (f : Served) : Octets :=
  beOctets 1 f.message ++ beOctets 1 f.inst ++ beOctets 16 f.client ++ beOctets 16 (unsigned 128 f.tx) ++ beOctets 16 (unsigned 128 f.rx)
    ++ beOctets 8 (unsigned 64 f.correction) ++ beOctets 2 f.sequence ++ beOctets 1 (unsigned 8 f.interval) ++ beOctets 10 f.echo
    ++ beOctets 10 f.source ++ f.quality.flatMap (beOctets 4)
    ++ (f.grants.flatMap fun g => beOctets 1 g.1 ++ beOctets 1 (unsigned 8 g.2.1) ++ beOctets 4 g.2.2)
    ++ (match f.l1sync with | some l => beOctets 1 l.1 ++ beOctets 1 l.2 | none => []) ++ f.tlv

/-- The message that a copy carries, with its authentication, in the model's order (log 8). -/
def Served.carried (f : Served) : Octets :=
  f.toSign ++ (match f.auth with | some a => beOctets 1 a.1 ++ beOctets 4 a.2 | none => []) ++ f.icv ++ f.uniqueId ++ f.nonce ++ f.sealed

/-- The UDP payload: the message, then the checksum-correction field of an IPv6 PTP event message (R252). -/
def Served.payload (f : Served) : Octets := f.carried ++ (match f.corrField with | some c => beOctets 2 c | none => [])

/-- An NTP message. -/
def Served.isNtp (f : Served) : Bool := decide (6 ≤ f.message ∧ f.message ≤ 8)
/-- A PTP event message: Sync and Pdelay_Resp. -/
def Served.isEvent (f : Served) : Bool := decide (f.message = 0 ∨ f.message = 3)

/-- The service address under which a frame is sent. -/
def State.serviceOf (s : State) (f : Served) : Nat := if f.isNtp then s.obj (ntpIdx f.inst) 3 else s.obj (ptpIdx f.inst) 6

/-- The IP version that carries a frame; 0 over layer 2. -/
def State.ipVersion (s : State) (f : Served) : Nat :=
  if f.isNtp then (if isMapped (s.serviceOf f) then 4 else 6)
  else if s.obj (ptpIdx f.inst) 5 = 0 then 0 else if s.obj (ptpIdx f.inst) 5 = 1 then 4 else 6

/-- The destination of a frame: its client, or the PTP multicast address. -/
def destinationOf (version client : Nat) : Nat := if client ≠ 0 then client else if version = 4 then 0xE0000181 else 0xFF0E0000000000000000000000000181

/-- What the build adds to a frame over UDP (R252): its ports, the checksum-correction field 0x0000 of an IPv6 PTP event message, and the IP
header with the IPv4 header checksum. -/
def State.addressed (s : State) (f : Served) : Served :=
  let v := s.ipVersion f
  if v = 0 then f
  else
    let port := if f.isEvent then 319 else 320
    let g : Served := { f with udpPorts := if f.isNtp then f.udpPorts else (port, port), corrField := if v = 6 ∧ f.isEvent = true then some 0 else none }
    let dst := destinationOf v f.client
    { g with ipHeader := if v = 4 then ipv4Header (s.serviceOf f % 2 ^ 32) (dst % 2 ^ 32) (8 + g.payload.length)
                         else ipv6Header (s.serviceOf f) dst (8 + g.payload.length) }

/-- The UDP checksum of a frame, computed at egress over the frame as sent (R252). -/
def Served.checked (f : Served) : Served :=
  if f.ipHeader = [] then f else { f with udpChecksum := some (udpChecksumOf (headerAddresses f.ipHeader) f.udpPorts f.payload) }

/-! ### Best-effort frames -/

/-- Tags of a frame, at most two (R254). -/
def hostTags (f : Octets) : Nat :=
  let tpid (o : Nat) : Bool := decide (beNat (slice f o 2) = 0x8100 ∨ beNat (slice f o 2) = 0x88A8)
  if tpid 12 then (if tpid 16 then 2 else 1) else 0

/-- Octets of a frame up to and with its EtherType. -/
def headerOctets (f : Octets) : Nat := 14 + 4 * hostTags f

/-- `l` with the octets from place `n` on replaced by those of `o`. -/
def overwrite (l : Octets) (n : Nat) (o : Octets) : Octets := l.take n ++ o ++ l.drop (n + o.length)

/-- A frame whose IP payload is UDP, with the checksum computed anew at egress (R252): any other frame as it is. -/
def fillUdp (f : Octets) : Octets :=
  let h := headerOctets f
  let kind := beNat (slice f (h - 2) 2)
  let ip := f.drop h
  let ihl := 4 * ((ip.getD 0 0).toNat % 16)
  let fill (ipLen : Nat) (addresses : Octets) (udpLen : Nat) : Octets :=
    let u := slice ip ipLen udpLen
    if u.length < 8 then f
    else overwrite f (h + ipLen + 6) (beOctets 2 (udpChecksumOf addresses (beNat (slice u 0 2), beNat (slice u 2 2)) (u.drop 8)))
  if kind = 0x0800 ∧ ip.getD 9 0 = 17 then fill ihl (slice ip 12 8) (beNat (slice ip 2 2) - ihl)
  else if kind = 0x86DD ∧ ip.getD 6 0 = 17 then fill 40 (slice ip 8 32) (beNat (slice ip 4 2))
  else f

/-- The redundancy control trailer of a lane's copy (R317, R365, R366): number, LAN identifier 0xA or 0xB with the LSDU size, suffix. -/
def prpTrailer (lane seq : Nat) (f : Octets) : Octets :=
  beOctets 2 seq ++ beOctets 2 ((0xA + lane / 12) * 4096 + (f.length - headerOctets f + 6) % 4096) ++ [0x88, 0xFB]

/-- A frame as a lane sends it: its trailer, then its FCS (R256, R365). -/
def finishFrame (lane : Nat) (prp : Option Nat) (f : Octets) : Octets :=
  let t := f ++ (match prp with | some q => prpTrailer lane q f | none => [])
  t ++ fcsOf t

/-- The octets that a lane sends for a best-effort frame, where the spec gives them; a host frame that the engine timestamps has its UDP
checksum computed (R252). -/
def QFrame.wire (f : QFrame) (lane : Nat) : Octets :=
  match f.kind with
  | .forwarded o => finishFrame lane f.prp o
  | .host o => finishFrame lane f.prp (if f.request.isSome then fillUdp o else o)
  | .lldp o => finishFrame lane f.prp o
  | _ => []

/-! ### LLDPDUs (R259, R260) -/

/-- A TLV of IEEE 802.1AB. -/
def lldpTlv (kind : Nat) (value : Octets) : Octets := beOctets 2 (kind * 512 + value.length) ++ value

/-- The LLDPDU of a lane in its frame, padded to 60 octets: Chassis ID, Port ID, TTL of 4 intervals, with EEE enabled the EEE TLV, End
(R260). The EEE TLV advertises the wake that the plan in force assumes, rounded up to a whole µs, as Transmit Tw, and echoes the partner's
values (R259). -/
def State.lldpFrameOf (s : State) (n assumedNs minWakeNs : Nat) (partner : Option (Nat × Nat)) : Octets :=
  let mac := beOctets 6 (s.obj 0x2702 (n % 12 + 1))
  let rx := ceilDiv minWakeNs 1000
  let eee := if s.obj (0x3400 + n) 0x0A = 1 then
      lldpTlv 127 ([0x00, 0x12, 0x0F, 0x05] ++ beOctets 2 (ceilDiv assumedNs 1000) ++ beOctets 2 rx ++ beOctets 2 rx
        ++ beOctets 2 (partner.getD (0, 0)).1 ++ beOctets 2 (partner.getD (0, 0)).2)
    else []
  padTo 60 ([0x01, 0x80, 0xC2, 0x00, 0x00, 0x0E] ++ mac ++ [0x88, 0xCC] ++ lldpTlv 1 ([0x04] ++ mac) ++ lldpTlv 2 ([0x07] ++ beOctets 1 n)
    ++ lldpTlv 3 (beOctets 2 (Nat.min (4 * s.obj 0x2700 5) 0xFFFF)) ++ eee ++ [0, 0])

end Sys2Proof.Machine
end

