-- ==== Sys2Proof/Machine/ServeBuild.lean ====
section
/-! DEFINITION. What serving steps build: NTS and PTP replies, Syncs and Announces (R297 to R316). -/

namespace Sys2Proof.Machine

/-! ### Departures of a step (R51, R297) -/

/-- Where a serving step's frame departs: position and instant in 0.01 ns from the start of the reel, by plate. -/
structure Departure where
  eng : Nat
  pos : Nat
  instants : List Nat
deriving DecidableEq, Repr

/-- The departure of the step `x` of engine `eng`: the grid index of its DEPART step, on the modes of both lanes. -/
def State.departureOf (s : State) (eng : Nat) (x : PlanStep) : Departure :=
  let slot := s.reelSlot + x.operand % 256
  let pos := x.pos
  let k := match s.plan.row 4 pos with
    | none => 0
    | some r => match r.stepAt slot with
      | none => 0
      | some d => if d.opcode = 0x30 ∧ field d.operand 23 16 = eng then field d.operand 31 24 else 0
  ⟨eng, pos, [gridInstant (s.laneMode pos) slot k, gridInstant (s.laneMode (pos + 12)) slot k]⟩

/-- The departure instant of a plate's copy. -/
def Departure.at (d : Departure) (p : Nat) : Nat := d.instants.getD p 0

/-- The cycle of the departure, from the first exposure. -/
def State.dueCycle (s : State) (d : Departure) : Nat :=
  s.now + (d.at s.twin.active / 100 - (s.clock.exposure * 1000000 + s.clock.cycle))

/-- A bound record without *B*, *u* and the dominant term, which are lane fields (R292). -/
def maskRecord (r : Octets) : Octets := r.take 2 ++ List.replicate 12 0 ++ r.drop 14

/-- A copy with its lane fields at zero (R292): the transmit timestamp, with the part of it that a Sync, an Announce or a Follow_Up carries
as its correction; *B*, *u*, the dominant term and the fields mapped from them; ICV, tag and ciphertext; checksums. -/
def Served.common (f : Served) : Served :=
  let stamped := decide (f.message = 0 ∨ f.message = 1 ∨ f.message = 4)
  let mapped := if f.isNtp then 3 else 4
  { f with tx := 0, correction := if stamped then 0 else f.correction, record := maskRecord f.record,
           tlv := if f.record = [] then f.tlv else f.tlv.take (f.tlv.length - f.record.length) ++ maskRecord f.record,
           quality := (f.quality.take mapped).map (fun _ => 0) ++ f.quality.drop mapped,
           icv := [], nonce := [], sealed := [], corrField := none, udpChecksum := none }

/-- What the plates compare of a scheduled pair (Table 14.3, point 0x01): the frame with its lane fields at zero, the grid instant, terms 1
to 4, the flags and the chain identifier. -/
def State.pairOctets (s : State) (d : Departure) (f : Served) : Octets :=
  let b := if f.isNtp then s.obj (ntpIdx f.inst) 4 else s.obj (ptpIdx f.inst) 0x0A
  let x := s.tableSet b
  let smeared := f.isNtp && decide (s.obj (ntpIdx f.inst) 5 = 2)
  let degraded := (s.quality (if f.isNtp then 16 + f.inst else f.inst)).degraded
  f.common.carried ++ beOctets 8 (d.at s.twin.active) ++ x.b.flatMap (beOctets 16)
    ++ beOctets 1 (8 * bitNat x.holdover + 4 * bitNat x.unregistered + 2 * bitNat smeared + bitNat degraded) ++ s.chainId x.record

/-- A frame goes to the scheduled region (R269), with its IP header (R252). -/
def State.schedule (s : State) (d : Departure) (frames : List Served) (request : Option Nat) (whole : Bool) : State :=
  { s with plans := { s.plans with live := s.plans.live ++
    [{ eng := d.eng, pos := d.pos, due := s.dueCycle d, frames := frames.map s.addressed, request := request, whole := whole, built := s.now,
       stamps := [0, 1].map fun p => s.txTime 0 (d.pos + 12 * p) (d.at p),
       digest := crc64 (match frames with | f :: _ => s.pairOctets d f | [] => []) }] } }

/-- The two plates' copies of a frame, each computed for its own lane (R292). -/
def State.copies (_s : State) (d : Departure) (f : Nat → Nat → Nat → Served) : List Served :=
  [0, 1].map fun p => f p (d.pos + 12 * p) (d.at p)

/-! ### Authentication of PTP (R302) -/

/-- A copy with its AUTHENTICATION TLV (R302). -/
def Served.sign (f : Served) (spp keyId : Nat) (key : Octets) : Served :=
  { f with auth := some (spp, keyId), icv := (Config.hmacSha256 key f.toSign).take 16 }

/-- sourcePortIdentity of an instance on a position: its clockIdentity, and the position counted from 1 (log 97). -/
def State.portIdentity (s : State) (i pos : Nat) : Nat := s.obj (ptpIdx i) 7 * 65536 + pos + 1

/-- Frames of an instance, signed if its authentication is on; no frame where the key cannot be fetched (R322). -/
def State.scheduleSigned (s : State) (d : Departure) (i spp keyId : Nat) (frames0 : List Served) (request : Option Nat) : State :=
  let frames := frames0.map fun f => { f with source := s.portIdentity i d.pos }
  if !s.authOn i then s.schedule d frames request true
  else match s.associated spp keyId with
    | none => s
    | some n => match s.fetchKey n unitHmac with
      | (t, none) => t
      | (t, some k) => t.schedule d (frames.map fun f => f.sign spp keyId k) request true

/-- The check of a received message (R302): the fetch is a fetch of the HMAC unit. -/
def State.verifyPtp (s : State) (m : PtpMessage) : State × Bool :=
  match m.auth with
  | none => (s, false)
  | some a =>
    if !a.isLast ∨ a.secParam ≠ 0 then (s, false)
    else match s.associated a.spp a.keyId with
      | none => (s, false)
      | some n => match s.fetchKey n unitHmac with
        | (t, none) => (t, false)
        | (t, some k) => (t, decide (beNat ((Config.hmacSha256 k m.octets).take 16) = a.icv))

/-! ### Syncs and Announces -/

/-- What an Announce says beside the quality (R300, Table 11.8): priority1, priority2, stepsRemoved, ptpTimescale, currentUtcOffset, its
validity, and the leap announced. -/
def State.announceData (s : State) (i : Nat) : List Nat :=
  [s.obj (ptpIdx i) 8, s.obj (ptpIdx i) 9, 0, 1, unsigned 16 (s.objI 0x2201 1), 1, s.leapSoon]

/-- A Sync or Announce of an instance for a plate's lane (Table 11.8): kind 0 or 1. -/
def State.ptpFrame (s : State) (i kind client sequence : Nat) (interval : Int) (n d : Nat) : Served :=
  let b := s.obj (ptpIdx i) 0x0A
  let f := s.replyBound b n false
  let t := s.txTime b n d
  let record := s.boundRecord f false (s.quality i).degraded
  { message := kind, inst := i, client := client, tx := wholeNs t * 2 ^ 32, correction := fraction16 t, sequence := sequence, interval := interval,
    record := record, tlv := s.recordTlv record, quality := if kind = 1 then s.ptpQuality i f ++ s.announceData i else [] }

/-- An instance runs L1Sync on a position: profile 0x02, every enabled lane of the position allowed in 0x2010.03 (R309; log 97). -/
def State.l1Runs (s : State) (i pos : Nat) : Bool :=
  decide (s.profile i = 2) && ([pos, pos + 12].all fun n => decide (s.obj (0x3400 + n) 1 ≠ 1) || bit (s.obj 0x2010 3) n)

/-- A position owes a message. -/
def State.owe (s : State) (pos : Nat) (o : Owed) : State :=
  { s with serve := { s.serve with owed := s.serve.owed.put (fun _ => []) pos (s.serve.owed.look (fun _ => []) pos ++ [o]) } }

/-- With an Announce of the calendar a position that runs L1Sync owes the Signaling message with the L1_SYNC TLV (R309). -/
def State.oweL1 (s : State) (i pos kind client : Nat) : State := if kind = 1 ∧ s.l1Runs i pos = true then s.owe pos (.l1sync i client) else s

/-- A due calendar entry is bound and sent (R308); skipped periods are counted, Syncs reported once a reel. -/
def State.sendCalendar (s : State) (d : Departure) (kind : Nat) (e : CalendarEntry) : State :=
  let count (t : State) (i passed : Nat) : State :=
    if passed = 0 then t
    else
      let u := t.bumpBy (ptpIdx i) (if kind = 0 then 0x1D else 0x1C) passed
      if kind ≠ 0 then u
      else
        let c := u.serve.skips.look (fun _ => 0) d.pos
        let v : State := { u with serve := { u.serve with skips := u.serve.skips.put (fun _ => 0) d.pos (c + passed) } }
        if c = 0 then v.emcy 0xFF74 0xFF (d.pos * 2 ^ 24 + Nat.min passed 0xFFFF * 2 ^ 8) else v
  match e with
  | .stream i =>
    let x := s.stream i d.pos
    let g := if kind = 0 then x.sync else x.announce
    let (g1, passed) := s.afterBinding g
    let t := s.setStream i d.pos (if kind = 0 then { x with sync := g1 } else { x with announce := g1 })
    let audit := decide (kind = 0) && bit (s.obj (ptpIdx i) 0x1F) 0
    ((count t i passed).oweL1 i d.pos kind 0).scheduleSigned d i (s.obj (ptpIdx i) 0x12) (s.obj (ptpIdx i) 0x13)
      (s.copies d fun _ n di => s.ptpFrame i kind 0 g.sequence g.interval n di) (if audit then some (0xEFF0 + i) else none)
  | .record n =>
    let r := s.client n
    let g := r.grant kind
    let (g1, passed) := s.afterBinding g
    let t := s.setClient n (r.withGrant kind g1)
    ((count t r.inst passed).oweL1 r.inst d.pos kind r.address).scheduleSigned d r.inst r.spp r.keyId
      (s.copies d fun _ l di => s.ptpFrame r.inst kind r.address g.sequence 0x7F l di) none

/-- What a position owes is sent (R305, Table 11.8). -/
def State.sendOwed (s : State) (d : Departure) (o : Owed) : State :=
  match o with
  | .followUp i echo seq tx =>
    s.scheduleSigned d i (s.obj (ptpIdx i) 0x12) (s.obj (ptpIdx i) 0x13)
      (s.copies d fun p _ _ => { message := 4, inst := i, tx := wholeNs (tx.getD p 0) * 2 ^ 32, correction := fraction16 (tx.getD p 0),
                                 sequence := seq, echo := echo }) none
  | .cancel i n k =>
    let r := s.client n
    s.scheduleSigned d i r.spp r.keyId (s.copies d fun _ _ _ => { message := 9, inst := i, client := r.address, grants := [(k, 0, 0)] }) none
  | .l1sync i client =>
    s.scheduleSigned d i (s.obj (ptpIdx i) 0x12) (s.obj (ptpIdx i) 0x13)
      (s.copies d fun _ _ _ => { message := 5, inst := i, client := client, l1sync := some (0, 1) }) none

/-! ### PTP requests (R301 to R304, Table 11.7) -/

def State.ptpMalformed (s : State) (i addr lane : Nat) : State := (s.bumpBy (ptpIdx i) 0x1F 256).classify addr lane

/-- A Signaling message's TLVs in order (R304, R309). -/
def State.signaling (s : State) (i pos lane addr ident spp keyId : Nat) (tlvs : List SignalingTlv) : State × SignalingReply :=
  tlvs.foldl (fun (acc : State × SignalingReply) tlv => match tlv with
    | .requestUnicast k l dur => acc.1.requestUnicast i pos addr ident spp keyId k l dur acc.2
    | .cancelUnicast k => match acc.1.locate i addr ident with
      | none => acc
      | some n => (acc.1.endGrant n k, { tlvs := acc.2.tlvs ++ [(k, 0x7F, 0)], regrants := acc.2.regrants.filter fun g => decide (g.1 ≠ n ∨ g.2.1 ≠ k) })
    | .l1Sync met => match acc.1.locate i addr ident with
      | none => acc
      | some n => (acc.1.setClient n { acc.1.client n with l1sync := met && decide (acc.1.profile i = 2) && bit (acc.1.obj 0x2010 3) lane }, acc.2)) (s, {})

/-- The reply just scheduled carries grants that replace live ones at its departure (R304). -/
def State.attachRegrants (s before : State) (l : List (Nat × Nat × Grant)) : State :=
  if s.plans.live.length = before.plans.live.length then s
  else match s.plans.live.getLast? with
    | none => s
    | some f => { s with plans := { s.plans with live := s.plans.live.dropLast ++ [{ f with regrants := l }] } }

/-- A better foreign master (R301): counted, EMCY 0xFF72 once per clockIdentity per hour. -/
def State.foreignMaster (s : State) (i pos id : Nat) : State :=
  let t := s.bump (ptpIdx i) 0x1E
  let recent := t.serve.foreign.filter fun p => decide (t.now - p.2 < 3600000000000)
  if recent.any fun p => decide (p.1 = id) then { t with serve := { t.serve with foreign := recent } }
  else ({ t with serve := { t.serve with foreign := recent ++ [(id, t.now)] } }).emcy 0xFF72 0xFF (i * 2 ^ 24 + pos * 2 ^ 16)

/-- Check and count of a Delay_Req (Table 11.7, step 5): the state, and whether it is within its rate. -/
def State.delayRate (s : State) (i addr lane : Nat) (rec : Option Nat) : State × Bool :=
  match rec with
  | some n =>
    let r := s.client n
    let c := r.count + 1
    if 2 * rate128 r.resp.interval < c * 128 then
      (((s.setClient n { r with count := Nat.min c 255, excess := Nat.min (r.excess + 1) 255 }).bump (ptpIdx i) 0x1D).classify addr lane, false)
    else (s.setClient n { r with count := Nat.min c 255 }, true)
  | none => match s.takeToken addr (s.isRed addr lane) with
    | (t, true) => (t, true)
    | (t, false) => ((t.bump (ptpIdx i) 0x1D).classify addr lane, false)

/-- A Delay_Resp or Pdelay_Resp (Table 11.8); `rx0` is the receive timestamp on time base 0. -/
def State.respFrame (s : State) (i kind client : Nat) (m : PtpMessage) (interval rx0 : Int) (n d : Nat) : Served :=
  let b := s.obj (ptpIdx i) 0x0A
  let f := s.replyBound b n false
  let rx := s.onBase b rx0
  let record := if kind = 2 then s.boundRecord f false (s.quality i).degraded else []
  { message := kind, inst := i, client := client, tx := s.txTime b n d, rx := wholeNs rx * 2 ^ 32, correction := m.correction - fraction16 rx,
    sequence := m.sequenceId, interval := interval, echo := m.portIdentity, record := record, tlv := if kind = 2 then s.recordTlv record else [] }

/-- A Delay_Req is answered (Table 11.7, steps 5 and 6). -/
def State.answerDelay (s : State) (d : Departure) (i addr lane : Nat) (m : PtpMessage) (rx : Int) (rec : Option Nat) : State :=
  match s.delayRate i addr lane rec with
  | (t, false) => t
  | (t, true) =>
    let l := match rec with
      | some n => (t.client n).resp.interval
      | none => t.objI (ptpIdx i) 0x0F
    let (spp, key) := match rec with
      | some n => ((t.client n).spp, (t.client n).keyId)
      | none => (t.obj (ptpIdx i) 0x12, t.obj (ptpIdx i) 0x13)
    t.scheduleSigned d i spp key (t.copies d fun _ n di => t.respFrame i 2 addr m l rx n di) none

/-- Table 11.7 for a message of instance `i` from step 2 on. -/
def State.ptpRequest (s : State) (d : Departure) (i : Nat) (r : Request) (m : PtpMessage) : State :=
  let addr := r.frame.address
  let prof := profileOf (s.profile i)
  let multi := (profileMac (s.profile i)).contains r.frame.dst
  let unicast := prof.unicast && !multi
  let kindOk := match m.body with
    | .delayReq => true
    | .pdelayReq => decide (s.profile i = 6)
    | .signaling _ => true
    | .announce .. => true
    | _ => false
  if m.version ≠ 2 ∨ m.majorSdoId ≠ (if s.profile i = 6 then 1 else 0) ∨ !m.lengthOk ∨ m.domain ≠ s.obj (ptpIdx i) 4 ∨ !kindOk then
    s.ptpMalformed i addr r.lane
  else
    let rec? := s.locate i addr m.portIdentity
    let granted := match m.body, rec? with
      | .signaling _, _ => true
      | _, none => false
      | .delayReq, some n => (s.client n).resp.live
      | _, some _ => true
    if unicast && !granted then (s.bump (ptpIdx i) 0x1C).classify addr r.lane
    else
      let (s1, ok) := if s.authOn i then s.verifyPtp m else (s, true)
      if !ok then
        let s2 := match rec? with
          | none => s1
          | some n => s1.setClient n { s1.client n with failures := Nat.min ((s1.client n).failures + 1) 65535 }
        (s2.bump (ptpIdx i) 0x1B).classify addr r.lane
      else match m.body with
        | .delayReq => s1.answerDelay d i addr r.lane m r.stamp (if unicast then rec? else none)
        | .pdelayReq =>
          let frames := s1.copies d fun _ n di => s1.respFrame i 3 addr m 0x7F r.stamp n di
          let t := s1.scheduleSigned d i (s1.obj (ptpIdx i) 0x12) (s1.obj (ptpIdx i) 0x13) frames none
          t.owe d.pos (.followUp i m.portIdentity m.sequenceId (frames.map Served.tx))
        | .signaling tlvs =>
          let (spp, key) := match m.auth with
            | some a => (a.spp, a.keyId)
            | none => (0, 0)
          let (t, y) := s1.signaling i d.pos r.lane addr m.portIdentity spp key tlvs
          if y.tlvs = [] then t
          else
            let u := t.scheduleSigned d i spp key (t.copies d fun _ _ _ => { message := 5, inst := i, client := addr, sequence := m.sequenceId,
                                                                             echo := m.portIdentity, grants := y.tlvs }) none
            u.attachRegrants t y.regrants
        | .announce id better _ => if better then s1.foreignMaster i d.pos id else s1
        | _ => s1

/-! ### NTS replies (R313 to R316) -/

/-- The authenticator of an NTP message, if it is the last field and the only one. -/
def ntpAuthenticator (fields : List NtpField) : Option (Octets × Octets) :=
  match fields.getLast? with
  | some (.authenticator n c) => if (fields.filter fun f => match f with | .authenticator .. => true | _ => false).length = 1 then some (n, c) else none
  | _ => none

def fieldOk : NtpField → Bool
  | .uniqueId b => decide (12 ≤ b.length ∧ b.length % 4 = 0)
  | .cookie o => decide (o.length = 100)
  | .placeholder n => decide (n = 100)
  | .authenticator n c => decide (12 ≤ n.length + c.length)
  | .other _ n => decide (16 ≤ n ∧ n % 4 = 0)

/-- Step 3 of Table 11.11: the Unique Identifier, the cookie and the count of placeholders. -/
def ntsFields (fields : List NtpField) : Option (Octets × Octets × Nat) :=
  let ids := fields.filterMap fun f => match f with | .uniqueId b => some b | _ => none
  let cookies := fields.filterMap fun f => match f with | .cookie o => some o | _ => none
  let ph := (fields.filter fun f => match f with | .placeholder _ => true | _ => false).length
  match ids, cookies with
  | [u], [c] => if 32 ≤ u.length ∧ ph ≤ 7 ∧ fields.all fieldOk = true ∧ (ntpAuthenticator fields).isSome = true then some (u, c, ph) else none
  | _, _ => none

/-- The generation entry that a cookie names (R334). -/
def State.cookieEntry (s : State) (id : Nat) : Option Nat :=
  ((List.range 16).map fun k => s.generationEntry (k + 1)).find? fun w => entryValid w && decide (w % 2 ^ 28 = id)

/-- A nonce of the engine (R313). -/
def State.engineNonce (s : State) (eng last : Nat) : Octets :=
  beOctets 6 s.taiSecond ++ beOctets 4 s.reelSlot ++ beOctets 1 eng ++ beOctets 1 last ++ [0, 0, 0, 0]

/-- New cookies under a master key (R313): identical on both plates. -/
def State.newCookies (s : State) (eng w : Nat) (master keys : Octets) (count : Nat) : List Octets :=
  (List.range count).map fun k =>
    let n := s.engineNonce eng k
    beOctets 4 (w % 2 ^ 28) ++ n ++ Config.aesSivSeal master [] n keys

/-- The ports of a reply to an NTP request: 123, and the one that the request came from. -/
def Request.ntpPorts (r : Request) : Nat × Nat := (123, (r.frame.udp.getD (false, 123)).2)

/-- One copy of an NTS reply (Table 11.12): `kind` 6 a reply, 8 a RATE reply. -/
def State.ntpFrame (s : State) (j eng kind : Nat) (r : Request) (m : NtpMessage) (uid s2c : Octets) (cookies : List Octets) (n d : Nat) : Served :=
  let idx := ntpIdx j
  let b := s.obj idx 4
  let sc := s.obj idx 5
  let f := s.replyBound b n (decide (sc = 2))
  let un := isUnknown f.b
  let li := if un then 3 else if sc = 1 then s.leapSoon else 0
  let ref := match (s.tableSet b).compared with
    | none => 0
    | some t => if un then 0 else ntpTime (s.view sc (s.base32 b - ((s.now - t : Nat) : Int) * 2 ^ 32))
  let rate := decide (kind = 8)
  let tx := if rate then 0 else s.view sc (s.txTime b n d)
  let rx := if rate then 0 else s.view sc (s.onBase b r.stamp)
  let q := [li, if rate then 0 else if un then 16 else 1, rootDispersion f.b, m.poll, if rate then 0 else ref,
            if rate then 0x52415445 else s.obj idx 6]
  let record := if rate then [] else s.boundRecord f (decide (sc = 2)) (s.quality (16 + j)).degraded
  let tlv := if rate then [] else s.recordField record
  let nonce := s.engineNonce eng (0x80 + n)
  let ad := beOctets 1 (li * 64 + 4 * 8 + 4) ++ (q.drop 1).flatMap (beOctets 8) ++ beOctets 8 m.transmit ++ beOctets 8 (ntpTime rx) ++ beOctets 8 (ntpTime tx)
    ++ uid ++ tlv
  { message := kind, inst := j, client := r.frame.address, udpPorts := r.ntpPorts, tx := tx, rx := rx, echo := m.transmit, record := record, tlv := tlv, quality := q, uniqueId := uid,
    nonce := nonce, sealed := Config.aesSivSeal s2c [ad] nonce (cookies.flatMap fun c => beOctets 2 0x0204 ++ beOctets 2 104 ++ c) }

/-- An NTS NAK (R314). -/
def State.sendNak (s : State) (d : Departure) (j : Nat) (r : Request) (m : NtpMessage) (uid : Octets) : State :=
  (s.bump (ntpIdx j) 0x0B).schedule d (s.copies d fun _ _ _ =>
    { message := 7, inst := j, client := r.frame.address, udpPorts := r.ntpPorts, echo := m.transmit, quality := [0, 0, 0, m.poll, 0, 0x4E54534E], uniqueId := uid }) none true

/-- Steps 6 and 7 of Table 11.11. -/
def State.ntsAnswer (s : State) (d : Departure) (j : Nat) (r : Request) (m : NtpMessage) (uid s2c : Octets) (cookies : List Octets) : State :=
  match s.takeToken r.frame.address (s.isRed r.frame.address r.lane) with
  | (t, true) => (t.schedule d (t.copies d fun _ n di => t.ntpFrame j d.eng 6 r m uid s2c cookies n di) none true).bump (ntpIdx j) 0x0A
  | (t, false) =>
    let u := (t.bump (ntpIdx j) 0x0E).classify r.frame.address r.lane
    if u.obj (ntpIdx j) 9 = 1 then u.schedule d (u.copies d fun _ n di => u.ntpFrame j d.eng 8 r m uid s2c cookies n di) none true else u

/-- The cookie of a request opens: the client's keys (Table 11.11, step 4). -/
def State.openCookie (s : State) (c : Octets) : State × Option (Octets × Nat) :=
  match s.cookieEntry (beNat (c.take 4)) with
  | none => (s, none)
  | some w => match s.fetchKey (entrySlot w) unitAes with
    | (t, none) => (t, none)
    | (t, some k) => match Config.aesSivOpen k [] (slice c 4 16) (c.drop 20) with
      | none => (t, none)
      | some keys => (t, some (keys, entrySlot w))

/-- The master key of the current generation: fetched again only where another slot holds it (R334). -/
def State.currentKey (s : State) (opened : Nat) : State × Option (Nat × Octets) :=
  match s.currentEntry with
  | none => (s, none)
  | some w =>
    if entrySlot w = opened then (s, some (w, (s.slot opened).key))
    else match s.fetchKey (entrySlot w) unitAes with
      | (t, none) => (t, none)
      | (t, some k) => (t, some (w, k))

/-- Table 11.11 for a request of NTP instance `j`. -/
def State.ntsRequest (s0 : State) (d : Departure) (j : Nat) (r : Request) (m : NtpMessage) : State :=
  let s := s0.checkCurrent
  let addr := r.frame.address
  let malformed (s : State) : State := (s.bump (ntpIdx j) 0x0D).classify addr r.lane
  if m.payload < 48 ∨ 1280 < m.payload ∨ m.payload % 4 ≠ 0 ∨ m.version ≠ 4 ∨ m.mode ≠ 3 then malformed s
  else match ntsFields m.fields with
    | none => malformed s
    | some (uid, cookie, ph) => match s.openCookie cookie with
      | (t, none) => (t.sendNak d j r m uid).classify addr r.lane
      | (t, some (keys, slot)) => match t.currentKey slot with
        | (u, none) => (u.sendNak d j r m uid).classify addr r.lane
        | (u, some (w, master)) => match ntpAuthenticator m.fields with
          | none => malformed u
          | some (n, c) =>
            if Config.aesSivOpen (keys.take 32) [m.header] n c = some [] then
              u.ntsAnswer d j r m uid (keys.drop 32) (u.newCookies d.eng w master keys (1 + ph))
            else (u.bump (ntpIdx j) 0x0C).classify addr r.lane

end Sys2Proof.Machine
end

