-- ==== Sys2Proof/Machine/Upstream.lean ====
section
/-! DEFINITION. Upstream instances: their requests, replies and exchanges (R126, R131, R147, R148, R250). -/

namespace Sys2Proof.Machine

def State.upstreamInst (s : State) (i : Nat) : Upstream := s.refs.upstream.look (fun _ => {}) i
def State.setUpstream (s : State) (i : Nat) (u : Upstream) : State :=
  { s with refs := { s.refs with upstream := s.refs.upstream.put (fun _ => {}) i u } }

/-- The references that use an upstream instance. -/
def State.upstreamRefs (s : State) (i : Nat) : List Nat :=
  refNumbers.filter fun r => decide (16 ≤ r) && (decide (s.refSource r = 2) || decide (s.refSource r = 3)) && decide (s.refInstance r = i)
    && decide ((s.loupe r).state ≠ 0)

/-- A verification failure: counted; the 16th in 10 s disqualifies (Table 5.5). -/
def State.upstreamFailed (s : State) (i : Nat) : State :=
  (s.upstreamRefs i).foldl (fun (s : State) r =>
    let l := s.loupe r
    let f := s.now :: l.authFails.filter fun t => decide (s.now - t < minute)
    let t := s.setLoupe r { l with authFails := f }
    if 16 ≤ (f.filter fun t => decide (s.now - t < 10000000000)).length then t.disqualify r 0x0B else t) (s.bump (0x2320 + i) 0x0A)

/-- The upstream quality of a source (Table 5.5): unusable disqualifies with reason 5. -/
def State.upstreamQuality (s : State) (r q : Nat) (bad : Bool) : State :=
  let l := s.loupe r
  let t := (s.setLoupe r { l with badQuality := bad, goodSince := if l.badQuality && !bad then s.now else l.goodSince }).setObj (0x3100 + r) 0x1B q
  if bad then t.disqualify r 5 else t

/-! ### Exchanges -/

/-- The number of the exchange in progress: that of its request, and of its TX-timestamp entry modulo 256 (R249). -/
def Upstream.exchange (u : Upstream) : Nat := u.sequence - 1

/-- The identifier of an instance's request in the TX-timestamp queue (R249). -/
def upstreamId (inst exchange : Nat) : Nat := 0xF000 + 0x100 * inst + exchange % 256

/-- The offset of the other side against time base 0, ps (R127, R148): half the sum of what each direction shows, from the departure of the
request and the instants of the reply. -/
def UpstreamReply.offset (y : UpstreamReply) (sent : Int) : Int :=
  roundDivI (((y.theirRx - sent) + (y.theirTx - y.ourRx)) * 1000) (2 * 2 ^ 32)

/-- An exchange whose reply and whose departure are both known is complete: the loupes have its measurement (R147). -/
def State.completeExchange (s : State) (i : Nat) : State :=
  let u := s.upstreamInst i
  match u.reply, u.sent with
  | some y, some t1 =>
    let s1 := ((s.setUpstream i { u with outstanding := false, missed := 0, reply := none, sent := none }).bump (0x2320 + i) 9).setObj
      (0x2320 + i) 0x0B (toTime112 (y.receipt.toNat * 2 ^ 28))
    (s1.upstreamRefs i).foldl (fun (s : State) r =>
      let l := s.loupe r
      (s.setLoupe r { l with srcBound := (y.bound.getD (0, 0)).1, srcUnc := (y.bound.getD (0, 0)).2, lane := y.lane }).measured r
        (y.offset t1 - s.objI (0x3100 + r) 9)) s1
  | _, _ => s

/-- A verified reply to the request in progress. -/
def State.upstreamReply (s : State) (i : Nat) (y : UpstreamReply) : State :=
  (s.setUpstream i { s.upstreamInst i with reply := some y }).completeExchange i

/-- An entry of the engine's own in a TX-timestamp queue is consumed (R250): the departure of an instance's request. -/
def State.upstreamSent (s : State) (e : TxEntry) : State :=
  let i := (e.id - 0xF000) / 256
  let u := s.upstreamInst i
  if 0xF000 ≤ e.id ∧ i < 8 ∧ u.outstanding = true ∧ u.sent = none ∧ e.id = upstreamId i u.exchange ∧ e.status ≤ 2 then
    (s.setUpstream i { u with sent := some ((ofTime112 e.time / 2 ^ 28 : Nat) : Int) }).completeExchange i
  else s

/-! ### PTP -/

/-- The check of a message of an upstream exchange: its SPP and keyID name, through the association table, the key in slot .06 (R148, R336). -/
def State.verifyUpstream (s : State) (i : Nat) (m : PtpMessage) : State × Bool :=
  match m.auth with
  | none => (s, false)
  | some a =>
    if !a.isLast ∨ a.secParam ≠ 0 ∨ s.associated a.spp a.keyId ≠ some (s.obj (0x2320 + i) 6) then (s, false)
    else match s.fetchKey (s.obj (0x2320 + i) 6) unitHmac with
      | (t, none) => (t, false)
      | (t, some k) => (t, decide (beNat ((Config.hmacSha256 k m.octets).take 16) = a.icv))

/-- A correctionField of units of 2⁻¹⁶ ns, in 2⁻³² ns. -/
def correction32 (c : Int) : Int := c * 2 ^ 16

/-- A PTP message of an upstream exchange (R148): Syncs with their Follow_Up, Delay_Resp, Announce. -/
def State.upstreamPtp (s : State) (i : Nat) (r : Request) (m : PtpMessage) : State :=
  match s.verifyUpstream i m with
  | (t, false) => t.upstreamFailed i
  | (t, true) =>
    let u := t.upstreamInst i
    match m.body with
    | .sync (some o) => t.setUpstream i { u with sync := some (r.stamp, o + correction32 m.correction), twoStep := none, syncAt := t.now }
    | .sync none => t.setUpstream i { u with twoStep := some (r.stamp, correction32 m.correction), syncAt := t.now }
    | .followUp o => (match u.twoStep with
      | none => t
      | some (rx, c) => t.setUpstream i { u with sync := some (rx, o + c + correction32 m.correction), twoStep := none })
    | .delayResp rx b => (match u.sync with
      | none => t
      | some (ourRx, origin) =>
        if u.outstanding = true ∧ m.sequenceId = u.exchange % 65536 then
          t.upstreamReply i ⟨r.lane, r.stamp, rx - correction32 m.correction, origin, ourRx, b⟩
        else t)
    | .announce _ _ cls => (t.upstreamRefs i).foldl (fun (s : State) k => s.upstreamQuality k cls (decide (248 ≤ cls)))
        (t.setUpstream i { u with announceAt := t.now, announceLog := m.logInterval })
    | _ => t

/-! ### NTP -/

/-- An instant of the 64-bit NTP format, in the era nearest `near`, as 2⁻³² ns of UTC from 1970 (R297). -/
def ntpInstant (near : Int) (w : Nat) : Int :=
  let sec := near / second32
  let d := signed 32 (unsigned 32 ((field w 63 32 : Int) - 2208988800 - sec))
  (sec + d) * second32 + (w % 2 ^ 32 : Nat) * 1000000000

/-- The same instant on the TAI scale of time base 0. -/
def State.ntpTai (s : State) (w : Nat) : Int := s.unview 1 (ntpInstant (s.view 1 (s.base32 0)) w)

/-- An NTP reply of an upstream server: verified under the S2C key, slot .06 + 1 (R148). -/
def State.upstreamNtp (s : State) (i : Nat) (r : Request) (m : NtpMessage) : State :=
  match ntpAuthenticator m.fields with
  | none => s.upstreamFailed i
  | some (n, c) => match s.fetchKey (s.obj (0x2320 + i) 6 + 1) unitAes with
    | (t, none) => t.bump (0x2320 + i) 0x0A
    | (t, some k) => match Config.aesSivOpen k [m.header] n c with
      | none => t.upstreamFailed i
      | some _ =>
        let u := t.upstreamInst i
        if !(u.outstanding && m.fields.contains (.uniqueId u.uniqueId)) then t
        else
          let t1 := t.setUpstream i { u with cookies := (u.cookies ++ m.cookies).take 8 }
          let bad := decide (m.stratum = 0 ∨ m.stratum = 16)
          let t2 := (t1.upstreamRefs i).foldl (fun (s : State) k => s.upstreamQuality k m.stratum bad) t1
          if bad then t2.setUpstream i { t2.upstreamInst i with outstanding := false }
          else t2.upstreamReply i ⟨r.lane, r.stamp, t2.ntpTai m.receive, t2.ntpTai m.transmit, r.stamp, m.bound⟩

/-! ### Requests (R147, R148) -/

/-- The octets of an instance's request that its key covers, in the model's order: domain, exchange, server (log 8). -/
def State.upstreamOctets (s : State) (i : Nat) (u : Upstream) : Octets :=
  beOctets 1 (s.obj (0x2320 + i) 4) ++ beOctets 2 u.sequence ++ beOctets 16 (s.obj (0x2320 + i) 3)

/-- The request of an exchange leaves for its position (R147); its key fetched from slot .06, none leaves without it. An NTP request
carries a new Unique Identifier and one of the cookies; a PTP request goes under the lowest valid association that names the slot (R336). -/
def State.upstreamRequest (s : State) (i : Nat) : State :=
  let u := s.upstreamInst i
  let idx := 0x2320 + i
  let ntp := decide (s.obj idx 1 = 2)
  let u1 : Upstream := { u with outstanding := true, sequence := u.sequence + 1, sent := none, reply := none,
                                cookies := if ntp then u.cookies.drop 1 else u.cookies }
  match s.fetchKey (s.obj idx 6) (if ntp then unitAes else unitHmac) with
  | (t, none) => t.setUpstream i u1
  | (t, some k) =>
    if ntp then
      let (d, v) := t.drawMask
      let uid := d.take 32
      let ad := v.upstreamOctets i u ++ uid ++ u.cookies.headD []
      ((v.setUpstream i { u1 with uniqueId := uid })).offerPosition (s.obj idx 2)
        (.upstream i none (Config.aesSivSeal k [ad] (d.drop 32) [])) (Config.frameOctets 2) (some (upstreamId i u.sequence))
    else match s.entryOfSlot (s.obj idx 6) with
    | none => t.setUpstream i u1
    | some e => (t.setUpstream i u1).offerPosition (s.obj idx 2) (.upstream i (some e) ((Config.hmacSha256 k (t.upstreamOctets i u)).take 16)) (Config.frameOctets 5)
        (some (upstreamId i u.sequence))

end Sys2Proof.Machine
end

