-- ==== Sys2Proof/Machine/Serving.lean ====
section
/-! DEFINITION. Meanings of the serving commands: serving steps, crypto passes, hand-off and departure, instances, grants and
client records (R31, R42 to R54, R287 to R318, R370, R371). -/

namespace Sys2Proof.Machine

/-! ### Serving steps -/

/-- A request that asks for no reply of the engine's: an answer to an upstream or peer-delay request, an Announce. -/
def Request.noReply (r : Request) : Bool :=
  match r.frame.payload with
  | .ntp (some _) _ => true
  | .ptp _ (some _) _ => true
  | .ptp _ none m => (match m.body with
    | .announce .. => true
    | .pdelayResp .. => true
    | .pdelayFollowUp _ => true
    | _ => false)
  | _ => false

/-- A serving step that begins now, with its request taken; with serving disabled no reply is built (R289); a group that is not ready skips it, and the frame of a bound
request is not complete (R31); a step shed is counted (R467). -/
def State.serve1 (s : State) (eng op : Nat) (work : PlanStep → Option Request → State → State) : State :=
  match s.stepNow 1 eng op with
  | none => s
  | some x =>
    let (t, r) := s.takeBound eng
    if t.faults.shedding ∧ 32 ≤ eng then t.bump 0x2E02 6
    else if !t.engineReady eng then
      let u := t.skipEngine eng
      if r.isSome then u.schedule (u.departureOf eng x) [] none false else u
    else if t.obj 0x2900 1 = 0 ∧ (r.any Request.noReply) = false then t
    else work x r t

/-- The work of an NTS_REPLY step on its request (R314, R148). -/
def State.ntsStep (s : State) (eng : Nat) (x : PlanStep) (r : Request) : State :=
  match r.frame.payload with
  | .ntp (some i) m => s.upstreamNtp i r m
  | .ntp none m => match s.ntpInstance x.pos r.frame with
    | none => (s.bump 0x2900 0x0B).classify r.frame.address r.lane
    | some j => s.ntsRequest (s.departureOf eng x) j r m
  | _ => s

/-- NTS_REPLY (R47, R314): an unbound step is idle (R43). -/
def execNtsReply (eng : Nat) (s : State) : Host.Outcome State Fault Refusal :=
  .next (s.whenServing fun s => s.serve1 eng 0x10 fun x r t => match r with
    | none => t
    | some r => t.ntsStep eng x r)

/-- PTP_EVENT (R43, R308): the earliest due entry of the Sync calendar of the position. -/
def execPtpEvent (eng : Nat) (s : State) : Host.Outcome State Fault Refusal :=
  .next (s.whenServing fun s => s.serve1 eng 0x11 fun x _ t => match t.earliestDue x.pos 0 with
    | none => t
    | some e => t.sendCalendar (t.departureOf eng x) 0 e)

/-- An exchange whose departure, answer and origin are known gives meanLinkDelay = ((t4 − t1) − (t3 − t2)) / 2 (R310). -/
def State.pdelayComplete (s : State) (i pos : Nat) : State :=
  let x := s.position i pos
  match x.pdelayResp, x.pdelayOrigin with
  | some (lane, t2, t4), some t3 => match x.pdelaySent.find? fun e => decide (e.1 = lane) with
    | none => s
    | some (_, t1) => s.setPosition i pos { x with pending := false, failed := 0, pdelaySent := [], pdelayResp := none, pdelayOrigin := none,
                                                   delayPs := (roundDivI (((t4 - t1) - (t3 - t2)) * 1000) (2 * 2 ^ 32)).toNat }
  | _, _ => s

/-- A Pdelay_Resp or its Follow_Up to the engine's own request in progress (R310). -/
def State.pdelayAnswer (s : State) (i pos : Nat) (r : Request) (m : PtpMessage) : State :=
  let x := s.position i pos
  if !x.pending ∨ m.sequenceId ≠ x.pdelaySeq then s
  else match m.body with
    | .pdelayResp t2 t3 => (s.setPosition i pos { x with pdelayResp := some (r.lane, t2, r.stamp - correction32 m.correction),
                                                         pdelayOrigin := t3.orElse fun _ => x.pdelayOrigin }).pdelayComplete i pos
    | .pdelayFollowUp t3 => (s.setPosition i pos { x with pdelayOrigin := some (t3 + correction32 m.correction) }).pdelayComplete i pos
    | _ => s

/-- The departure of a Pdelay_Req, from its TX-timestamp entry (R250, R310). -/
def State.pdelaySent (s : State) (e : TxEntry) : State :=
  let i := (e.id - 0xF800) / 16
  let pos := e.id % 16
  let x := s.position i pos
  if 0xF800 ≤ e.id ∧ e.id < 0xF880 ∧ x.pending = true ∧ e.status ≤ 2 then
    (s.setPosition i pos { x with pdelaySent := x.pdelaySent ++ [(e.flags % 64, ((ofTime112 e.time / 2 ^ 28 : Nat) : Int))] }).pdelayComplete i pos
  else s

/-- A message of a severe source is processed only while its red rate allows (R303, R316). -/
def State.redAllows (s : State) (i addr lane : Nat) : State × Bool :=
  if !s.isRed addr lane then (s, true)
  else match s.takeToken addr true with
    | (t, true) => (t, true)
    | (t, false) => ((t.bump (ptpIdx i) 0x1D).classify addr lane, false)

/-- The red rate of a severe source comes before every check (R303); a multicast Delay_Req takes its token at step 5 of Table 11.7. -/
def State.redFirst (s : State) (i : Nat) (r : Request) (m : PtpMessage) : State × Bool :=
  let multicast := !(profileOf (s.profile i)).unicast || (profileMac (s.profile i)).contains r.frame.dst
  if m.body = .delayReq ∧ multicast = true then (s, true) else s.redAllows i r.frame.address r.lane

/-- A Pdelay_Resp or its Follow_Up. -/
def isPeerAnswer : PtpBody → Bool
  | .pdelayResp .. => true
  | .pdelayFollowUp _ => true
  | _ => false

/-- Step 1 of Table 11.7: MASTER, or LISTENING for Signaling. -/
def positionTakes (st : Nat) (b : PtpBody) : Bool :=
  match b with
  | .signaling _ => decide (st = 1 ∨ st = 2)
  | _ => decide (st = 2)

/-- The work of a PTP_GENERAL step on its request. -/
def State.ptpStep (s : State) (eng : Nat) (x : PlanStep) (r : Request) : State :=
  match r.frame.payload with
  | .ptp _ (some i) m => s.upstreamPtp i r m
  | .ptp l2 none m => match s.ptpInstance x.pos r.frame l2 m.domain with
    | none => (s.bump 0x2900 0x0B).classify r.frame.address r.lane
    | some i =>
      if !positionTakes (s.position i x.pos).state m.body then (s.bump 0x2900 0x0B).classify r.frame.address r.lane
      else
        let addr := r.frame.address
        match s.redFirst i r m with
        | (t, false) => t
        | (t, true) =>
          if isPeerAnswer m.body then
            if t.profile i ≠ 6 then t.ptpMalformed i addr r.lane
            else if !t.authOn i then t.pdelayAnswer i x.pos r m
            else match t.verifyPtp m with
              | (u, true) => u.pdelayAnswer i x.pos r m
              | (u, false) => (u.bump (ptpIdx i) 0x1B).classify addr r.lane
          else t.ptpRequest (t.departureOf eng x) i r m
  | _ => s

/-- An unbound PTP_GENERAL step: what the position owes, then the Announce calendar (R308). -/
def State.generalIdle (s : State) (eng : Nat) (x : PlanStep) : State :=
  match s.serve.owed.look (fun _ => []) x.pos with
  | o :: rest =>
    let t : State := { s with serve := { s.serve with owed := s.serve.owed.put (fun _ => []) x.pos rest } }
    t.sendOwed (t.departureOf eng x) o
  | [] => match s.earliestDue x.pos 1 with
    | none => s
    | some e => s.sendCalendar (s.departureOf eng x) 1 e

/-- PTP_GENERAL (R303, R308). -/
def execPtpGeneral (eng : Nat) (s : State) : Host.Outcome State Fault Refusal :=
  .next (s.whenServing fun s => s.serve1 eng 0x12 fun x r t => match r with
    | some r => t.ptpStep eng x r
    | none => t.generalIdle eng x)

/-- BE_WINDOW (R47): best-effort work names no state of its own; a group that is not ready skips it. -/
def execBeWindow (eng : Nat) (s : State) : Host.Outcome State Fault Refusal :=
  .next (s.whenServing fun s => match s.stepNow 1 eng 0x13 with
    | none => s
    | some _ => if s.faults.shedding ∧ 32 ≤ eng then s.bump 0x2E02 6 else if s.engineReady eng then s else s.skipEngine eng)

/-! ### Crypto passes (R31, R44, R331) -/

/-- Slots from a serving step to a pass of its template (Table 2.3): AES-SIV pass A and B, HMAC. -/
def passDelay (x : PlanStep) : Nat := if x.opcode = 0x20 then (if field x.operand 23 16 = 0 then 2 else 17) else 1

/-- A pass of the serving engine that its operand names. The pass of an idle step, one that built no frame, is not run (R43). A cluster
that is not ready skips its pass, and the frame of that step is not complete (R31). -/
def State.cryptoPass (s : State) (kind op cluster : Nat) : State :=
  match s.stepNow kind cluster op with
  | none => s
  | some x =>
    let eng := field x.operand 31 24
    let held := bit s.keys.heldClusters (8 * (kind - 2) + cluster)
    if !(s.plans.live.any fun f => f.fromStep eng (passDelay x) s.now) || (s.domainReady kind cluster && !held) then s
    else (s.skip (domainLine kind cluster)).spoil eng (passDelay x)

/-- AES_SIV_PASS (R44): its result is part of the frame that the serving step builds. -/
def execAesSivPass (cluster : Nat) (s : State) : Host.Outcome State Fault Refusal :=
  .next (s.whenServing fun s => s.cryptoPass 2 0x20 cluster)

/-- HMAC_PASS (R44). -/
def execHmacPass (cluster : Nat) (s : State) : Host.Outcome State Fault Refusal :=
  .next (s.whenServing fun s => s.cryptoPass 3 0x21 cluster)

/-! ### Hand-off (R53, R370, R371) -/

/-- The row of 0x2102 for the first cause that withholds a frame on a lane. -/
def State.withheldFor (s : State) (f : Scheduled) (lane : Nat) : Option Nat :=
  let p := s.port (s.portNumber lane)
  if !f.whole then some 5
  else if ¬(p.link = 4 ∨ p.link = 5) then some 2
  else if p.holdSince.isSome then some 3
  else if p.unaligned then some 4
  else none

/-- A TX-timestamp request on a withheld copy completes with "not sent". -/
def State.notSent (s : State) (f : Scheduled) (lane : Nat) : State :=
  match f.request with
  | none => s
  | some id => s.txComplete lane id 4 false 0

/-- The lanes that carry copies of a position's frames, with the plate whose copy each carries (R378). -/
def State.copyLanes (s : State) (pos : Nat) : List (Nat × Nat) :=
  let own := s.running.map fun p => (pos + 12 * p, p)
  if s.crossed pos then own ++ [(pos + 12 * (1 - s.twin.active), s.twin.active)] else own

def State.putLive (s : State) (old new : Scheduled) : State :=
  { s with plans := { s.plans with live := s.plans.live.map fun f => if f = old then new else f } }
def State.dropLive (s : State) (old : Scheduled) : State :=
  { s with plans := { s.plans with live := s.plans.live.filter fun f => decide (f ≠ old) } }

/-- A template that began before the join in progress: the joining plate's copy is withheld, and the pair is not compared (R381). -/
def State.beforeJoin (s : State) (f : Scheduled) : Bool :=
  match s.twin.joinedAt with
  | none => false
  | some j => decide (f.built < j * 1000000)

/-- The hand-off of one frame; none once the common clock has failed (R18). -/
def State.handOff (s0 : State) (f : Scheduled) (agree : Bool) : State :=
  let early := s0.beforeJoin f
  let all := s0.copyLanes f.pos
  let lanes := if early then all.filter fun e => decide (e.2 = s0.twin.active) else all
  let s := if early then (all.filter fun e => decide (e.2 ≠ s0.twin.active)).foldl (fun (s : State) e => s.notSent f e.1) s0
    else if f.whole then s0.comparedDigest 1 f.pos f.digest else s0
  let equal := agree || early
  if s.intake.eventFramesStopped then lanes.foldl (fun (s : State) (e : Nat × Nat) => s.notSent f e.1) (s.dropLive f)
  else if f.whole && s.paired && !equal then
    ((lanes.foldl (fun (s : State) (e : Nat × Nat) => (s.notSent f e.1).bump 0x2C00 0x0F) (s.dropLive f)).diverge 1 f.pos)
  else
    let (t, ok) := lanes.foldl (fun (acc : State × List Nat) (e : Nat × Nat) =>
      match acc.1.withheldFor f e.1 with
      | some sub => ((acc.1.bumpP e.2 0x2102 sub).notSent f e.1, acc.2)
      | none => (acc.1, acc.2 ++ [e.1])) (s, [])
    if ok = [] then t.dropLive f else t.putLive f { f with handed := true, lanes := ok }

/-- HANDOFF_DEADLINE (R53, R371): 96 cycles before the departure; nothing bound releases the departure. None in a registration gate (R173). -/
def execHandoffDeadline (pos : Nat) (digestsEqual : Bool) (s : State) : Host.Outcome State Fault Refusal :=
  .next (s.whenServing fun s => if s.time.gate then s else
    match s.plans.live.find? fun f => decide (f.pos = pos ∧ f.handed = false ∧ f.due ≤ s.now + 96) with
    | none => s
    | some f => s.handOff f digestsEqual)

/-! ### Departure (R51, R317) -/

/-- The first reply whose bound is known ends the gap of a reset (R385, R423): octets 4 to 9 of its bound record. -/
def State.firstReply (s : State) (f : Scheduled) : State :=
  if s.twin.resetGap && f.frames.any fun (x : Served) => decide (x.record ≠ [] ∧ beNat (slice x.record 4 6) ≠ 0xFFFFFFFFFFFF) then
    ({ s with twin := { s.twin with resetGap := false } } : State).closeGap
  else s

/-- The grants that a reply brings replace those of their types from its departure (R304), unless one has been cancelled or has ended. -/
def State.takeRegrants (s : State) (f : Scheduled) : State :=
  f.regrants.foldl (fun (s : State) g =>
    if ((s.client g.1).grant g.2.1).live then
      s.setClient g.1 ((s.client g.1).withGrant g.2.1 { g.2.2 with sequence := ((s.client g.1).grant g.2.1).sequence })
    else s) s

/-- A handed frame leaves on its lanes with its UDP checksum (R252), and occupies each for its length (Table 2.5; log 8). -/
def State.departFrame (s : State) (f : Scheduled) (seq : Option Nat) : State :=
  f.lanes.foldl (fun (s : State) n =>
    let p := if s.crossed f.pos then s.twin.active else n / 12
    let frame := (f.frames.getD p { message := 0, inst := 0 }).checked
    let stamp := toTime112 ((f.stamps.getD p 0).toNat * 2 ^ 28)
    let shift : Int := if p = n / 12 then 0 else s.crossDelta f.pos
    let t0 : State := { s with plans := { s.plans with sent := s.plans.sent.put noneOf n (some (f.due, seq, frame)),
                                                       shifts := s.plans.shifts.put (fun _ => 0) n shift } }
    let q := t0.portNumber n
    let t := t0.setPort q { t0.port q with sending := none, busyUntil := f.due + (Config.frameOctets (16 + frame.message) + 20) * 8 * bitTime (t0.laneMode n) / 100 }
    match f.request with
    | none => t
    | some id =>
      let m := t.portNumber n
      t.setPort m { t.port m with confirm := (t.port m).confirm ++ [(id, stamp)] }) (((s.dropLive f).takeRegrants f).firstReply f)

/-- A frame whose lanes are not ready at its DEPART step (R31): the work is skipped, each copy withheld as incomplete. -/
def State.missDeparture (s : State) (f : Scheduled) : State :=
  f.lanes.foldl (fun (s : State) n => (s.bumpP (if s.crossed f.pos then s.twin.active else n / 12) 0x2102 5).notSent f n)
    ((s.dropLive f).skip (domainLine 5 f.pos))

/-- DEPART (R31, R51, R317): the sequence counter of a PRP pair advances at every DEPART step, whether or not a frame leaves. -/
def execDepart (pos : Nat) (s : State) : Host.Outcome State Fault Refusal :=
  .next (s.whenServing fun s => match s.stepNow 4 pos 0x30 with
    | none => s
    | some _ =>
      let seq := if s.isPrp pos then some (s.obj (0x2C40 + pos) 8) else none
      let t := match s.plans.live.find? fun f => decide (f.pos = pos ∧ f.handed = true ∧ f.due < s.now + 64) with
        | none => s
        | some f => if s.domainReady 5 pos then s.departFrame f seq else s.missDeparture f
      t.prpAdvance pos)

/-! ### Expiry of requests (R42, R318) -/

/-- REQUEST_EXPIRE (R42): requests still unbound 50 exposures after delivery are discarded and counted. DESIGN CHOICE: 50 exposures are
50,000,000 cycles from the delivery cycle, not 50 exposure numbers (log 72). -/
def execRequestExpire (s : State) : Host.Outcome State Fault Refusal :=
  .next (s.whenServing fun s =>
    let old (r : Request) : Bool := decide (r.bound = none ∧ r.delivered + requestLife ≤ s.now)
    let n := (s.fabric.nts.filter old).length
    let p := (s.fabric.ptp.filter old).length
    let t : State := { s with fabric := { s.fabric with nts := s.fabric.nts.filter fun r => !old r,
                                                        ptp := s.fabric.ptp.filter fun r => !old r } }
    (t.bumpBy 0x2900 8 n).bumpBy 0x2900 9 p)

/-! ### Instances (R288, R300, R301) -/

/-- The instance code of an enable object. -/
def instanceCode (index : Nat) : Option Nat :=
  if 0x2910 ≤ index ∧ index ≤ 0x2917 then some (index - 0x2910)
  else if 0x2920 ≤ index ∧ index ≤ 0x2927 then some (16 + (index - 0x2920))
  else none

/-- The enable of an instance; an NTP enable needs a current cookie generation (R334). -/
def instanceEnableOp (index value : Nat) (s : State) : Except Nat State :=
  match instanceCode index with
  | none => .error 0x06020000
  | some code =>
    if 1 < value then .error 0x06090030
    else if value = 1 ∧ s.overlaps code = true then .error 0x0A1E0081
    else if value = 1 ∧ 16 ≤ code ∧ s.currentEntry = none then .error 0x0A1E0098
    else .ok { s with serve := { s.serve with pendEnable := s.serve.pendEnable.put noneOf code (some (decide (value = 1))) } }

/-- INSTANCE_ENABLE (R288). -/
def execInstanceEnable (t : Transport) (index value : Nat) (s : State) : Host.Outcome State Fault Refusal :=
  .next (s.command t index 1 (instanceEnableOp index value))

/-- Whether a value of a PTP instance lies in its profile's range (R300). -/
def State.profileTakes (s : State) (i sub : Nat) (v : Int) : Bool :=
  let p := profileOf (s.will (ptpIdx i) 2)
  match sub with
  | 4 => decide ((p.domainLo : Int) ≤ v ∧ v ≤ p.domainHi)
  | 5 => p.transports.contains v.toNat
  | 0x0F => decide (p.syncLo ≤ v ∧ v ≤ p.syncHi)
  | 0x10 => decide (p.annLo ≤ v ∧ v ≤ p.annHi)
  | _ => true

/-- A write to a member of an instance. The default intervals follow the profile. -/
def instanceWriteOp (idx sub : Nat) (v : Int) (s : State) : Except Nat State :=
  match instanceCode idx with
  | none => .error 0x06020000
  | some code =>
    if code < 16 then
      if ((2 ≤ sub ∧ sub ≤ 6) ∨ sub = 0x0A) ∧ s.ptpOn code = true then .error 0x0A1E0080
      else if !s.profileTakes code sub v then .error 0x0A1E0082
      else if sub = 2 then
        let p := profileOf v.toNat
        .ok (((s.later (okey 0 0 idx 2) v).later (okey 0 0 idx 0x0F) p.sync).later (okey 0 0 idx 0x10) p.ann)
      else if sub = 0x1F then .ok (s.later (okey 0 0 idx 0x1F) (v.toNat % 2 : Nat))
      else .ok (s.later (okey 0 0 idx sub) v)
    else if 2 ≤ sub ∧ sub ≤ 5 ∧ s.ntpOn (code - 16) = true then .error 0x0A1E0080
    else .ok (s.later (okey 0 0 idx sub) v)

/-- LISTENING_END (R301): 3 Announce intervals after the later of the entry and the first instant from it with a lane in link state 4 or 5. -/
def execListeningEnd (inst pos : Nat) (s : State) : Host.Outcome State Fault Refusal :=
  .next (s.whenServing fun s =>
    let x := s.position inst pos
    match x.upAt with
    | none => s
    | some t => if x.state = 1 ∧ t + s.listenCycles inst ≤ s.now then s.setPosition inst pos { x with state := 2, entered := s.now } else s)

/-- GRANT_EXPIRE (R304). -/
def execGrantExpire (record kind : Nat) (s : State) : Host.Outcome State Fault Refusal :=
  .next (s.whenServing fun s =>
    let g := (s.client record).grant kind
    if g.live ∧ 0 ≤ signed 32 ((s.taiSecond % 2 ^ 32 + 2 ^ 32 - g.expiry) % 2 ^ 32) then s.endGrant record kind else s)

/-- The identifier of a Pdelay_Req's TX-timestamp entry (R310). -/
def pdelayId (inst pos : Nat) : Nat := 0xF800 + 0x10 * inst + pos

/-- PDELAY_REQ_TRANSMIT (R310): one a second; an exchange still open has failed. -/
def execPdelayReqTransmit (inst pos : Nat) (s : State) : Host.Outcome State Fault Refusal :=
  .next (s.whenServing fun s =>
    let x := s.position inst pos
    let due := match x.pdelayAt with
      | none => true
      | some t => decide (t + 1000000000 ≤ s.now)
    if s.ptpOn inst = true ∧ s.profile inst = 6 ∧ x.state = 2 ∧ s.obj 0x2900 1 ≠ 0 ∧ due = true then
      let t := s.setPosition inst pos { x with failed := if x.pending then x.failed + 1 else x.failed, pending := true, pdelayAt := some s.now,
                                               pdelaySent := [], pdelayResp := none, pdelayOrigin := none, pdelaySeq := (x.pdelaySeq + 1) % 65536 }
      t.offerPosition pos (.pdelay inst) (Config.frameOctets 4) (some (pdelayId inst pos))
    else s)

/-! ### Client records (R311, Table 11.16) -/

/-- RECORD_QUARANTINE (R311): a contained fault of the client state SRAM; the grants are void. -/
def execRecordQuarantine (record : Nat) (s : State) : Host.Outcome State Fault Refusal :=
  .next (s.whenServing fun s =>
    let r := s.client record
    let t := s.setClient record { r with quarantined := true, sync := {}, announce := {}, resp := {} }
    (t.containedOn t.twin.active 140 record).emcy 0xFF73 0xFF (record % 2 ^ 24 * 256))

/-- Every live grant of a record ends, each with a CANCEL owed (R289). -/
def cancelGrantsOp (s : State) : Except Nat State :=
  let n := s.obj 0x2940 1
  let r := s.client n
  if !r.valid then .error 0x0A1E0084
  else .ok ((([0, 1, 2].filter fun k => (r.grant k).live)).foldl (fun (s : State) k =>
    (s.endGrant n k).owe r.pos (.cancel r.inst n k)) s)

/-- CANCEL_GRANTS (R289): record command 0x01. -/
def execCancelGrants (t : Transport) (s : State) : Host.Outcome State Fault Refusal :=
  .next (s.command t 0x2940 3 cancelGrantsOp)

def clearQuarantineOp (s : State) : Except Nat State :=
  let n := s.obj 0x2940 1
  if !(s.client n).quarantined then .error 0x0A1E0084 else .ok (s.setClient n {})

/-- CLEAR_QUARANTINE (R311): record command 0x02. -/
def execClearQuarantine (t : Transport) (s : State) : Host.Outcome State Fault Refusal :=
  .next (s.command t 0x2940 3 clearQuarantineOp)

end Sys2Proof.Machine
end

