-- ==== Sys2Proof/Machine/Media.lean ====
section
/-! DEFINITION. Media ports: frames, slots, channels and their gates, clock loss and return, loopback (R340 to R358, R408). -/

namespace Sys2Proof.Machine

def State.mport (s : State) (m : Nat) : MediaPort := s.media.ports.look (fun _ => {}) m
def State.setMport (s : State) (m : Nat) (x : MediaPort) : State :=
  { s with media := { s.media with ports := s.media.ports.put (fun _ => {}) m x } }
/-- Channel number `k` counts 32 × port + channel, as the window does. -/
def State.mchannel (s : State) (k : Nat) : MediaChannel := s.media.channels.look (fun _ => {}) k
def State.setMchannel (s : State) (k : Nat) (x : MediaChannel) : State :=
  { s with media := { s.media with channels := s.media.channels.put (fun _ => {}) k x } }

def mediaIdx (m : Nat) : Nat := 0x3500 + m
def State.mediaOn (s : State) (m : Nat) : Bool := decide (s.obj (mediaIdx m) 1 = 1)
def State.mediaSlave (s : State) (m : Nat) : Bool := decide (s.obj (mediaIdx m) 2 = 1)
def State.mediaRate (s : State) (m : Nat) : Nat := s.obj (mediaIdx m) 4
def State.channelSource (s : State) (k : Nat) : Nat := s.objW k 0x2B01 3

/-- Every channel number. -/
def mediaChannels : List Nat := List.range 256

/-- The port whose received slot a source names. -/
def sourcePort (src : Nat) : Option Nat := if 0x10 ≤ src / 256 ∧ src / 256 ≤ 0x17 then some (src / 256 - 0x10) else none

/-! ### Agreement, ranges (R342 to R344, R352) -/

/-- The set of group 0x07 agrees with the port's format and rate (R343). -/
def mediaAgrees (format rate : Nat) (count width mask : Int) : Bool :=
  (if format = 0 then decide (count = 2) else decide (1 ≤ count ∧ count ≤ 32))
    && decide (width = 16 ∨ width = 24 ∨ width = 32) && decide (count * width * rate ≤ 49152000)
    && decide (0 ≤ mask ∧ mask < 2 ^ count.toNat)

/-- Rates of R342. -/
def mediaRates : List Int := [32000, 44100, 48000, 88200, 96000, 176400, 192000]

/-- A port whose rate and time base equal those of another (R352). -/
def State.sameGrid (s : State) (a b : Nat) : Bool :=
  decide (s.mediaRate a = s.mediaRate b) && decide (s.obj (mediaIdx a) 8 = s.obj (mediaIdx b) 8)

/-- An enable that would leave an enabled channel that names the port with a mismatched source (R352). -/
def State.mediaMismatch (s : State) (m : Nat) : Bool :=
  mediaChannels.any fun k => decide (s.objW k 0x2B01 4 = 1) && decide (sourcePort (s.channelSource k) = some m) && !s.sameGrid (k / 32) m

/-- A write to a media port (R342, R344, R352). DEDUCED: a rate that would take the MCLK product over its limit is refused like the ratio
(log 91). -/
def mediaWriteOp (m sub : Nat) (v : Int) (s : State) : Except Nat State :=
  let k := okey 0 0 (mediaIdx m) sub
  if sub = 1 then
    if v = 1 ∧ s.mediaMismatch m = true then .error 0x0A1E00A2
    else .ok (s.setMport m { s.mport m with pendEnable := some (decide (v = 1)) })
  else if sub = 4 ∧ ¬ mediaRates.contains v then .error 0x06090030
  else if sub = 0x0A ∧ 49152000 < v * s.willI (mediaIdx m) 4 then .error 0x06090030
  else if sub = 4 ∧ 49152000 < v * s.willI (mediaIdx m) 0x0A then .error 0x06090030
  else if (sub = 2 ∨ sub = 3 ∨ sub = 4 ∨ sub = 8 ∨ sub = 0x0A) ∧ s.mediaOn m = true then .error 0x0A1E00A0
  else .ok (s.later k v)

/-- A write to the channel window (R351, R352): the selected channel's source, level, tone or timeout. -/
def channelWriteOp (k sub : Nat) (v : Int) (s : State) : Except Nat State :=
  let p := v.toNat % 256
  let valid := decide (v / 256 = 0 ∧ p = 0) || decide (v / 256 = 1 ∧ p = 0) || decide (v / 256 = 2 ∧ p = 0)
    || decide (v / 256 = 3 ∧ p = 0) || (decide (0x10 ≤ v / 256 ∧ v / 256 ≤ 0x17) && decide (p < 32))
  if sub = 3 ∧ valid = false then .error 0x06090030
  else if sub = 3 ∧ (match sourcePort v.toNat with | none => false | some q => !s.sameGrid (k / 32) q) = true then .error 0x0A1E00A1
  else if sub = 6 ∧ 100 * v > 45 * 1000 * s.mediaRate (k / 32) then .error 0x06090030
  else .ok (s.later (okey 0 k 0x2B01 sub) v)

/-! ### Running -/

/-- The FIFOs of a port are cleared (R353, R356, R426). -/
def MediaPort.clear (x : MediaPort) : MediaPort := { x with tx := [], rx := [], line := [], late := 0, rxHistory := [], txHistory := [] }

/-- The clock side of a port starts over: no edges, nothing locked. -/
def MediaPort.noEdges (x : MediaPort) : MediaPort := { x with edges := [], edgesFrom := none, lockAt := none, framing := 0 }

/-- The next whole second of a port's time base. -/
def State.nextMediaSecond (s : State) (m : Nat) : Nat := (s.base (s.obj (mediaIdx m) 8)).value / secondUnit + 1

/-- A port begins to run: a master at the next whole second, a slave by acquiring its clock (R345, R354). -/
def State.mediaStart (s : State) (m : Nat) : State :=
  let x := (s.mport m).clear.noEdges
  let sl := s.mediaSlave m
  let t := s.setMport m { x with state := if sl then 3 else 1, asrc := if sl then 1 else 0, restartAt := some (s.nextMediaSecond m), pins := [],
                                 refill := sl, grid := none, sentFrame := none }
  (List.range 32).foldl (fun (s : State) c =>
    let k := 32 * m + c
    if s.objW k 0x2B01 4 = 1 then s.setMchannel k { state := 1, since := s.now } else s) t

/-- Every channel of a port becomes silent without the gate. -/
def State.mediaSilence (s : State) (m : Nat) : State :=
  (List.range 32).foldl (fun (s : State) c => s.setMchannel (32 * m + c) { s.mchannel (32 * m + c) with state := 0, ramp := 0 }) s

/-- The unit enable of a media port (R6). -/
def State.mediaUnit (s : State) (m : Nat) : Bool := bit (s.obj 0x2010 2) m

/-- Whether a port runs, sleeps or is off, from its enable, its unit enable and its domain. -/
def State.mediaRefresh (s : State) (m : Nat) : State :=
  let x := s.mport m
  if !s.mediaOn m || !s.mediaUnit m then
    if x.state = 0 then s else (s.setMport m { x.clear.noEdges with state := 0, asrc := 0, pins := [] }).mediaSilence m
  else if !(s.domain 6 m).awake then
    if x.state = 4 then s else (s.setMport m { x.clear.noEdges with state := 4, asrc := 0, pins := [] }).mediaSilence m
  else if x.state = 0 ∨ x.state = 4 then s.mediaStart m else s

/-- A step of a time base restarts the grids on it at its next whole second (R345). -/
def State.regrid (s : State) (n : Nat) : State :=
  (List.range 8).foldl (fun (s : State) m =>
    if s.mediaOn m = true ∧ s.obj (mediaIdx m) 8 = n ∧ ((s.mport m).state = 1 ∨ (s.mport m).state = 2 ∨ (s.mport m).state = 3) then
      (s.setMport m { s.mport m with restartAt := some (s.nextMediaSecond m) }).bump (mediaIdx m) 0x12
    else s) s

/-- Enables and channel transitions in force at cycle 0 of an exposure (R351, R358). -/
def State.applyMedia (s : State) : State :=
  let a := (List.range 8).foldl (fun (s : State) m => match (s.mport m).pendEnable with
    | none => s
    | some on => (s.setMport m { s.mport m with pendEnable := none }).takeEffect (okey 0 0 (mediaIdx m) 1) (bitNat on)) s
  let b := (List.range 8).foldl State.mediaRefresh a
  b.media.channels.keys.foldl (fun (s : State) k =>
    let c := s.mchannel k
    match c.pend with
    | none => s
    | some on =>
      let t := s.takeEffect (okey 0 k 0x2B01 4) (bitNat on)
      let st := if on then (if c.state = 0 then 1 else if c.state = 3 then 2 else c.state)
        else (if c.state = 2 then 3 else if c.state = 1 ∨ c.state = 4 then 0 else c.state)
      t.setMchannel k { state := st, since := t.now, pend := none }) b

/-! ### The grid (R345) -/

/-- The instant of a port's time base against its grid, units of 2⁻⁶⁰ ns. -/
def State.gridTime (s : State) (m : Nat) : Int := ((s.base (s.obj (mediaIdx m) 8)).value : Int) - s.objI (mediaIdx m) 9 * (nsUnit : Int)

/-- The internal frame in progress, counted from the epoch: frame *k* of second *S* is *S* × rate + *k*; one that begins within 1 ns has begun. -/
def State.gridFrame (s : State) (m : Nat) : Nat := ((s.gridTime m + nsUnit) * s.mediaRate m / secondUnit).toNat

/-- The present instant lies within 1 ns of the start of that frame. -/
def State.atFrameStart (s : State) (m : Nat) : Bool :=
  decide ((s.gridTime m * s.mediaRate m - (s.gridFrame m * secondUnit : Nat)).natAbs ≤ nsUnit * s.mediaRate m)

/-! ### Samples (Table 13.1) -/

/-- Whole timecode frames in a second by code; 0 for 30000/1001. -/
def ltcWhole : Nat → Nat
  | 0 => 24
  | 1 => 25
  | 2 => 30
  | _ => 0

/-- The timecode sample of frame `n` of the grid (R355): at a whole rate frame *f* of a second begins at the second plus *f* / rate, at
30000/1001 frames count from the SMPTE epoch. The label is taken in the scale .15, shifted by .16. -/
def State.timecode (s : State) (m n : Nat) : Int :=
  let r := Nat.max 1 (s.mediaRate m)
  let code := s.obj (mediaIdx m) 0x14
  let label (t : Int) : Int := s.view (s.obj (mediaIdx m) 0x15) t / second32 + s.objI (mediaIdx m) 0x16
  let user := s.obj (mediaIdx m) 0x17
  let f := ltcWhole code
  if f = 0 then
    let k := n * 30000 / (r * 1001)
    Config.ltcSample code (label (k * 1001 * second32 / 30000)) k user (n * 30000 % (r * 1001), r * 1001)
  else
    let k := n % r * f / r
    Config.ltcSample code (label ((n / r : Nat) * second32 + k * second32 / f)) k user (n % r * f % r, r)

/-- The source sample of a channel in frame `n` of the grid. A slot of a port at fault, off or asleep reads 0; a received sample of frame
*n* − 4 leaves in frame *n* (R352). -/
def State.sourceSample (s : State) (ch n : Nat) : Int :=
  let src := s.channelSource ch
  let m := ch / 32
  let r := Nat.max 1 (s.mediaRate m)
  match src / 256 with
  | 0 => 0
  | 1 => if s.boundKnown (s.obj (mediaIdx m) 8) then s.timecode m n else 0
  | 2 =>
    let f := s.objW ch 0x2B01 6
    Config.toneSample f r (if f % 1000 = 0 then n % r else n)
  | 3 => if n % r * 1000 < r then 8388607 else 0
  | q => match (s.mport (q - 0x10)).line.find? fun e => decide (e.1 + 4 = n) with
    | none => 0
    | some e => e.2.getD (src % 256) 0

/-- A sample scaled by the channel's level: 0 dBFS leaves it as it is (log 7). -/
def scaled (level v : Int) : Int := if level = 0 then v else Config.mediaScale v level

/-- Sample `n` of a channel's source is 0, or differs in sign from the one before (R351). -/
def State.crosses (s : State) (ch n : Nat) : Bool :=
  let x := s.sourceSample ch n
  decide (x = 0) || decide (x.sign ≠ (s.sourceSample ch (n - 1)).sign)

/-- The gate of a channel switches: opening to live, closing to silent. -/
def State.switchGate (s : State) (k : Nat) : State :=
  let c := s.mchannel k
  if c.state = 1 then s.setMchannel k { c with state := 2 } else if c.state = 3 then s.setMchannel k { c with state := 0 } else s

/-- The gain in 64ths that a channel's ramp and state give (R351). -/
def MediaChannel.gain (c : MediaChannel) : Nat :=
  match c.state with
  | 2 => 65 - Nat.max 1 c.ramp
  | 3 => 64
  | 0 => c.ramp - 1
  | _ => 0

/-- A channel's sample of frame `n`: its gate switches before a crossing; then its source passes at its level. -/
def State.channelSample (s : State) (ch n : Nat) : State × Int :=
  let t := if ((s.mchannel ch).state = 1 ∨ (s.mchannel ch).state = 3) ∧ s.crosses ch n = true then s.switchGate ch else s
  let c := t.mchannel ch
  if c.gain = 0 then (if c.ramp = 0 then t else t.setMchannel ch { c with ramp := c.ramp - 1 }, 0)
  else (if c.ramp = 0 then t else t.setMchannel ch { c with ramp := c.ramp - 1 },
    scaled (t.objWI ch 0x2B01 5) (roundDivI (t.sourceSample ch n * c.gain) 64))

/-- A 24-bit sample as a slot of a width carries it (R343). -/
def slotWord (width : Nat) (v : Int) : Int :=
  if width = 16 then clampI (-32768) 32767 (roundDivI v 256) else if width = 32 then v * 256 else v

/-- A received slot as a 24-bit sample. -/
def slotSample (width : Nat) (v : Int) : Int :=
  if width = 16 then v * 256 else if width = 32 then v / 256 else v

/-- A frame of SDO under the slot set in force (R349). -/
def State.sdo (s : State) (m : Nat) (samples : List Int) : List (Option Int) :=
  let mask := s.obj (mediaIdx m) 7
  let w := s.obj (mediaIdx m) 6
  (List.range (s.obj (mediaIdx m) 5)).map fun c =>
    if bit mask c then some (slotWord w (samples.getD c 0)) else if s.obj (mediaIdx m) 3 = 0 then some 0 else none

/-! ### Pins (R340, R341, R356) -/

/-- The clock pins of a port run: in master role while it streams. In slave role BCLK and WCLK are inputs and MCLK is low. -/
def State.mediaClocks (s : State) (m : Nat) : Bool :=
  decide ((s.mport m).state = 1) && !s.mediaSlave m && !(s.mport m).combinerFault

/-- BCLK and MCLK in Hz, 0 for a pin that idles. -/
def State.bclkHz (s : State) (m : Nat) : Nat :=
  if s.mediaClocks m then s.obj (mediaIdx m) 5 * s.obj (mediaIdx m) 6 * s.mediaRate m else 0
def State.mclkHz (s : State) (m : Nat) : Nat := if s.mediaClocks m then s.obj (mediaIdx m) 0x0A * s.mediaRate m else 0

/-- The level of WCLK in BCLK period `j` of a frame (R341). -/
def State.wclk (s : State) (m j : Nat) : Bool :=
  s.mediaClocks m && (match s.obj (mediaIdx m) 3 with
    | 0 => decide (s.obj (mediaIdx m) 6 ≤ j)
    | 1 => decide (j = 0)
    | _ => decide (j < s.obj (mediaIdx m) 6))

/-- BCLK periods from the frame-start edge to the first data bit: one in I²S (R341). -/
def State.dataDelay (s : State) (m : Nat) : Nat := if s.obj (mediaIdx m) 3 = 0 then 1 else 0

/-- Bit `j` of the data on SDO of the last frame, most significant bit first (R341, R343); none is high impedance. -/
def State.sdoBit (s : State) (m j : Nat) : Option Bool :=
  let w := Nat.max 1 (s.obj (mediaIdx m) 6)
  match (s.mport m).pins[j / w]? with
  | none => some false
  | some none => none
  | some (some v) => some (bit (unsigned w v) (w - 1 - j % w))

/-! ### FIFOs (R347) -/

/-- An underrun or overrun counted. -/
def State.mediaSlip (s : State) (m : Nat) (under : Bool) : State :=
  let t := s.bump (mediaIdx m) (if under then 0x0F else 0x10)
  let x := t.mport m
  t.setMport m { x with reelUnder := x.reelUnder + bitNat under, reelOver := x.reelOver + bitNat (!under) }

/-- EMCY 0xFF91 once for each reel in which either occurred, with the counts of that reel (R347). -/
def State.slipReport (s : State) (m : Nat) : State :=
  let x := s.mport m
  if x.reelUnder + x.reelOver = 0 then s
  else (s.setMport m { x with reelUnder := 0, reelOver := 0 }).emcy 0xFF91 0xFF
    (m * 2 ^ 24 + Nat.min x.reelUnder 255 * 2 ^ 16 + Nat.min x.reelOver 255 * 2 ^ 8)

/-- The reel's slips are reported and start over. -/
def State.mediaReel (s : State) : State := s.media.ports.keys.foldl State.slipReport s

/-- A received frame enters the receive FIFO, unless it is full. -/
def State.mediaReceive (s : State) (m : Nat) (frame : List Int) : State :=
  let x := s.mport m
  if 16 ≤ x.rx.length then s.mediaSlip m false else s.setMport m { x with rx := x.rx ++ [frame] }

/-- A frame for transmission enters the transmit FIFO, unless it is late or the FIFO is full. -/
def State.mediaOffer (s : State) (m : Nat) (frame : List Int) : State :=
  let y := s.mport m
  if 0 < y.late then s.setMport m { y with late := y.late - 1 }
  else if 16 ≤ y.tx.length then s.mediaSlip m false
  else s.setMport m { y with tx := y.tx ++ [frame] }

/-- Frames of 32 slots that a converter gives next from its input history (R346). -/
def convert (ratio : Int) (from_ : Nat) (history : List (List Int)) (n : Nat) : List (List Int) :=
  (List.range n).map fun j => (List.range 32).map fun c =>
    signed 24 (unsigned 24 (Config.asrcSample ratio (from_ + j) (history.map fun f => f.getD c 0)))

/-- Frames that a converter moves in one internal frame to hold its FIFO at 8 (R347, log 91): `level` beside the FIFO's end. -/
def toward8 (level : Nat) : Nat := Nat.min 2 (9 - level)

/-- The received frame of internal frame `n` moves into the line: in master role the FIFO's next, in slave role what the converter gives. -/
def State.mediaTake (s : State) (m n : Nat) : State :=
  let x := s.mport m
  if !s.mediaSlave m then s.setMport m { x with rx := x.rx.drop 1, line := ((n, x.rx.headD []) :: x.line).take 8 }
  else
    let k := Nat.min 2 (x.rx.length - 7)
    let h := ((x.rx.take k).reverse ++ x.rxHistory).take 64
    let f := if x.state = 1 then (convert (s.objI (mediaIdx m) 0x0D) x.converted h 1).headD [] else []
    s.setMport m { x with rx := x.rx.drop k, rxHistory := h, line := ((n, f) :: x.line).take 8, converted := x.converted + 1 }

/-- The channels' frame `n`; silence until the grid restarts. -/
def State.channelFrame (s : State) (m n : Nat) : State × List Int :=
  if (s.mport m).restartAt.isSome then (s, List.replicate 32 0)
  else (List.range 32).foldl (fun (acc : State × List Int) c =>
    let (t, v) := acc.1.channelSample (32 * m + c) n
    (t, acc.2 ++ [v])) (s, [])

/-- Internal frame `n` of a port: a received frame moves into the line, and the channels make a frame for transmission. -/
def State.mediaProduce (s : State) (m n : Nat) : State :=
  let t := s.mediaTake m n
  let (u, frame) := t.channelFrame m n
  let x := u.mport m
  let v := u.setMport m { x with grid := some n }
  if !v.mediaSlave m then v.mediaOffer m frame
  else if x.state ≠ 1 then v
  else
    let h := (frame :: x.txHistory).take 64
    (convert (-(v.objI (mediaIdx m) 0x0D)) x.converted h (toward8 x.tx.length)).foldl (fun (s : State) f => s.mediaOffer m f)
      (v.setMport m { v.mport m with txHistory := h })

/-- The internal frames that have begun since the last one produced, at most 16. -/
def State.mediaCatchUp (s : State) (m : Nat) : State :=
  let n := s.gridFrame m
  let first := match (s.mport m).grid with
    | none => n
    | some g => Nat.max (g + 1) (n - 15)
  (List.range (n + 1 - first)).foldl (fun (s : State) k => s.mediaProduce m (first + k)) s

/-- The serializer's frame at a frame start of a running port: the next whole frame of the FIFO, or zeros on underrun (R347); zeros after a
framing error (R350); nothing before the FIFO has refilled (R354). -/
def State.serialize (s : State) (m : Nat) : State :=
  let zeros : List Int := List.replicate 32 0
  let x := s.mport m
  if x.restartAt.isSome then s.setMport m { x with pins := s.sdo m zeros }
  else if x.refill ∧ x.tx.length < 8 then s.setMport m { x with pins := [] }
  else match x.tx with
    | [] => (s.setMport m { x with pins := s.sdo m zeros, late := x.late + 1, refill := false }).mediaSlip m true
    | f :: rest =>
      let out := s.sdo m (if 0 < x.framing then zeros else f)
      let t := s.setMport m { x with tx := rest, refill := false, pins := if x.loop then [] else out }
      if x.loop then t.mediaReceive m (f.map fun v => slotSample (s.obj (mediaIdx m) 6) (slotWord (s.obj (mediaIdx m) 6) v)) else t

/-- A loop starts and ends at a frame start (R408). -/
def State.mediaLoopNow (s : State) (m : Nat) : State :=
  let on := decide (s.obj 0x2E10 (m + 1) = 1)
  if (s.mport m).loop = on then s else (s.setMport m { s.mport m with loop := on }).testEvent 4 on 0x2E10

/-- The frame start of a running port (R345 to R350, R408). -/
def State.mediaFrame (s : State) (m : Nat) : State := ((s.mediaLoopNow m).mediaCatchUp m).serialize m

/-- A frame start is due: in slave role at the external edge, in master role at the grid's, once for each frame (R345, R346). -/
def State.frameDue (s : State) (m : Nat) : Bool :=
  s.mediaSlave m || (s.atFrameStart m && decide ((s.mport m).sentFrame ≠ some (s.gridFrame m)))

/-- MEDIA_FRAME_START (R347, R349, R357): the plates' frames are compared; a domain that is not ready skips the frame (R31). -/
def execMediaFrameStart (m : Nat) (s : State) : Host.Outcome State Fault Refusal :=
  .next (s.whenServing fun s =>
    let x := s.mport m
    if s.time.gate then s
    else if x.state ≠ 1 ∨ x.combinerFault = true then s.setMport m { x with pins := [] }
    else if !s.frameDue m then s
    else
      let t := s.setMport m { x with sentFrame := some (s.gridFrame m) }
      if !t.domainReady 6 m ∧ x.restartAt = none then (t.setMport m { t.mport m with pins := [] }).skip (domainLine 6 m)
      else
        let u := t.mediaFrame m
        u.compared 5 m ((u.mport m).pins.flatMap fun v => beOctets 1 (bitNat v.isSome) ++ beOctets 4 (unsigned 32 (v.getD 0))))

/-! ### The external clock (R346, R350, R353, R354) -/

/-- 10 ms and 50 ms in cycles. -/
def tenMs : Nat := 10000000

/-- A slave declares loss of clock (R353). -/
def State.clockLoss (s : State) (m cause : Nat) : State :=
  let x := s.mport m
  let t := (s.setMport m { x.clear.noEdges with state := 2, asrc := 1, pins := [] }).bump (mediaIdx m) 0x11
  let u := mediaChannels.foldl (fun (s : State) k =>
    if sourcePort (s.channelSource k) = some m ∧ (s.mchannel k).state ≠ 0 then s.setMchannel k { s.mchannel k with state := 4, ramp := 0 } else s) t
  u.emcy 0xFF90 0xFF (m * 2 ^ 24 + 2 * 2 ^ 16 + cause * 2 ^ 8)

/-- The offset of the external rate over the sliding 10 ms, 10⁻¹⁸, once the window is full (R353). -/
def State.windowRate (s : State) (m : Nat) : Option Int :=
  let e := (s.mport m).edges
  match e.head?, e.getLast? with
  | some a, some b =>
    if a.1 < b.1 + tenMs - 1000000000 / Nat.max 1 (s.mediaRate m) ∨ a.2.1 ≤ b.2.1 then none
    else
      let nominal : Int := ((e.length - 1) * 10 ^ 9 * 2 ^ 32 : Nat)
      some (roundDivI ((nominal - (a.2.1 - b.2.1) * s.mediaRate m) * 10 ^ 18) ((a.2.1 - b.2.1) * s.mediaRate m).toNat)
  | _, _ => none

/-- The measured rate lies outside ±1,000 × 10⁻⁶ (R353). -/
def State.rateLost (s : State) (m : Nat) : Bool := match s.windowRate m with
  | none => false
  | some y => decide (10 ^ 15 < y.natAbs)

/-- No frame-start edge within 2 nominal sample periods of the last one (R353). -/
def State.edgesLost (s : State) (m : Nat) : Bool := match (s.mport m).edges with
  | [] => false
  | e :: _ => decide (2 * 1000000000 ≤ (s.now - e.1) * s.mediaRate m)

/-- CLOCK_LOSS (R353): by its edges (cause 1) or its rate (cause 3); framing errors declare it with their frame. -/
def execClockLoss (m : Nat) (s : State) : Host.Outcome State Fault Refusal :=
  .next (s.whenServing fun s =>
    if s.mediaSlave m = true ∧ ((s.mport m).state = 1 ∨ (s.mport m).state = 3) then
      (if s.edgesLost m then s.clockLoss m 1 else if s.rateLost m then s.clockLoss m 3 else s)
    else s)

/-- CLOCK_STABLE (R354): the ASRC is locked and no condition of R353 has held for 50 ms since. -/
def execClockStable (m : Nat) (s : State) : Host.Outcome State Fault Refusal :=
  .next (s.whenServing fun s =>
    let x := s.mport m
    if s.mediaSlave m = true ∧ x.state = 3 ∧ x.asrc = 2 ∧ heldFor x.lockAt (5 * tenMs) s.now = true ∧ s.edgesLost m = false ∧ s.rateLost m = false then
      let t := s.setMport m { x with state := 1, refill := true }
      let u := mediaChannels.foldl (fun (s : State) k =>
        if sourcePort (s.channelSource k) = some m ∧ (s.mchannel k).state = 4 ∧ s.objW k 0x2B01 4 = 1 then
          s.setMchannel k { s.mchannel k with state := 1, since := s.now }
        else s) t
      u.emcy 0xFF90 0xFF (m * 2 ^ 24 + 2 ^ 16)
    else s)

/-- A frame-start edge reaches the ASRC (R346): its ratio follows by a first-order loop of 2 Hz, 4 × 2 Hz of the error over a frame
(log 91); it is locked when the ratio has changed by less than 10⁻⁶ over 10 ms, not before 10 ms of edges. -/
def State.asrcEdge (s : State) (m cycle : Nat) (stamp : Int) : State :=
  let x := s.mport m
  let r := s.mediaRate m
  let old := s.objI (mediaIdx m) 0x0D
  let ratio := match x.edges with
    | [] => old
    | e :: _ =>
      if stamp ≤ e.2.1 then old
      else
        let y := roundDivI (((10 ^ 9 * 2 ^ 32 : Nat) - (stamp - e.2.1) * r) * 10 ^ 18) ((stamp - e.2.1) * r).toNat
        old + roundDivI ((y - old) * 8) (Nat.max 1 r)
  let from_ := x.edgesFrom.getD cycle
  let before := (x.edges.find? fun e => decide (e.1 + tenMs ≤ cycle)).map fun e => e.2.2
  let still := match before with
    | none => false
    | some q => decide ((ratio - q).natAbs < 10 ^ 12)
  let locked := decide (from_ + tenMs ≤ cycle) && still
  let keep := x.edges.filter fun e => decide (cycle < e.1 + tenMs + 1000000000 / Nat.max 1 r)
  let t := s.setMport m { x with edges := (cycle, stamp, ratio) :: keep, edgesFrom := some from_, asrc := if locked then 2 else 1,
                                 lockAt := if locked then some (x.lockAt.getD cycle) else none }
  t.setObj (mediaIdx m) 0x0D (clampI (-(2 ^ 63)) (2 ^ 63 - 1) ratio)

/-- A media frame delivered to the plates (R15, R346, R347, R350). -/
def State.deliverMedia (s : State) (m cycle : Nat) (stamp : Int) (bclks : Nat) (slots : List Int) : State :=
  let x := s.mport m
  let w := s.obj (mediaIdx m) 6
  if x.state = 0 ∨ x.state = 4 then s
  else if !s.mediaSlave m then (if x.loop then s else s.mediaReceive m (slots.map (slotSample w)))
  else
    let t := (if x.state = 2 then s.setMport m { x with state := 3, asrc := 1 } else s).asrcEdge m cycle stamp
    if bclks = s.obj (mediaIdx m) 5 * w then (t.setMport m { t.mport m with framing := 0 }).mediaReceive m (slots.map (slotSample w))
    else
      let u := (t.setMport m { t.mport m with framing := x.framing + 1 }).bump (mediaIdx m) 0x13
      if 2 ≤ x.framing + 1 then u.clockLoss m 2 else u.mediaReceive m (List.replicate 32 0)

/-- The TDC of a media port's WCLK among the event inputs' TDCs. -/
def mediaTdc (m : Nat) : Nat := 66 + m

/-- MEDIA_FRAME_RECEIVE (R346): a frame and its frame-start edge complete at the intake unit: the edge fell `age` cycles ago and `fine`
units of 0.5 ps after the start of its cycle; BCLK periods since the edge before, and the slots. -/
def execMediaFrameReceive (m age : Nat) (fine : Int) (bclks : Nat) (slots : List Int) (s : State) : Host.Outcome State Fault Refusal :=
  .next (s.whenServing fun s =>
    let x := s.mport m
    if bit s.intake.faults (90 + m) ∨ x.state = 0 ∨ x.state = 4 then s
    else
      let v : Int := (fine - 2 * (s.input (mediaTdc m)).skew) * s.increment 0
      let stamp := roundDivI (((s.tai : Int) - (age * s.increment 0 : Nat)) * 2000 + v) (2000 * 2 ^ 28)
      s.tagItem (90 + m) 0 (.media (s.now - age) stamp bclks slots))

/-- MEDIA_SAFE_POINT (R348): a committed slot set is captured at slot 0 of the first frame that begins at or after the exposure boundary
after its commit. -/
def execMediaSafePoint (m : Nat) (s : State) : Host.Outcome State Fault Refusal :=
  .next (s.whenServing fun s =>
    if s.safeDue 7 m && decide ((s.mport m).state = 1) && s.frameDue m then (s.applyGroup 7 m).tookEffect 7 m else s)

/-! ### Channels (R351) -/

/-- The selected channel of the window. -/
def State.selectedChannel (s : State) : Nat := 32 * s.obj 0x2B01 1 + s.obj 0x2B01 2

/-- A write to a channel's enable: a reversal cancels a pending transition, a repetition changes nothing. -/
def channelEnableOp (value : Nat) (s : State) : Except Nat State :=
  if 1 < value then .error 0x06090030
  else
    let k := s.selectedChannel
    let c := s.mchannel k
    let want := decide (value = 1)
    .ok (match c.pend with
      | some b => if b = want then s else s.setMchannel k { c with pend := none }
      | none => if decide (s.objW k 0x2B01 4 = 1) = want then s else s.setMchannel k { c with pend := some want })

/-- CHANNEL_ENABLE (R351). -/
def execChannelEnable (t : Transport) (value : Nat) (s : State) : Host.Outcome State Fault Refusal :=
  .next (s.command t 0x2B01 4 (channelEnableOp value))

/-- GATE_SWITCH (R351): the next sample of the channel's source crosses zero. -/
def execGateSwitch (m c : Nat) (s : State) : Host.Outcome State Fault Refusal :=
  .next (s.whenServing fun s =>
    let n := match (s.mport m).grid with
      | none => s.gridFrame m
      | some g => g + 1
    if s.crosses (32 * m + c) n then s.switchGate (32 * m + c) else s)

/-- GATE_TIMEOUT (R351): no crossing came in time; the gate switches with a ramp of 64 samples. -/
def execGateTimeout (m c : Nat) (s : State) : Host.Outcome State Fault Refusal :=
  .next (s.whenServing fun s =>
    let k := 32 * m + c
    let x := s.mchannel k
    if (x.state = 1 ∨ x.state = 3) ∧ x.since + s.objW k 0x2B01 7 * 1000000 ≤ s.now then
      let t := s.switchGate k
      (t.setMchannel k { t.mchannel k with ramp := 64 }).emcy 0xFF92 0xFF (m * 2 ^ 24 + c * 2 ^ 16 + bitNat (decide (x.state = 1)) * 2 ^ 8)
    else s)

/-- GRID_RESTART (R345, R356): the grid runs from the whole second. -/
def execGridRestart (m : Nat) (s : State) : Host.Outcome State Fault Refusal :=
  .next (s.whenServing fun s => match (s.mport m).restartAt with
    | none => s
    | some t =>
      if s.gridTime m + nsUnit < (t * secondUnit : Nat) then s
      else s.setMport m { s.mport m with restartAt := none, grid := none, sentFrame := none, late := 0 })

/-- COMBINER_FAULT (R357). -/
def execCombinerFault (m : Nat) (s : State) : Host.Outcome State Fault Refusal :=
  .next (s.whenServing fun s => (s.setMport m { s.mport m with combinerFault := true, pins := [] }).emcy 0xFF93 0xFF (m * 2 ^ 24))

/-! ### Loopback (R408) -/

/-- Whether any media loop is on. -/
def State.mediaLooped (s : State) : Bool := (List.range 8).any fun m => (s.mport m).loop

def mediaLoopbackOp (m value : Nat) (s : State) : Except Nat State :=
  if 8 ≤ m then .error 0x06090011
  else if 1 < value then .error 0x06090030
  else if value = 1 ∧ (s.mediaSlave m || !s.mediaOn m) = true then .error 0x0A1E00C3
  else .ok (s.later (okey 0 0 0x2E10 (m + 1)) value)

/-- MEDIA_LOOPBACK (R408). -/
def execMediaLoopback (t : Transport) (m value : Nat) (s : State) : Host.Outcome State Fault Refusal :=
  .next (s.command t 0x2E10 (m + 1) (mediaLoopbackOp m value))

end Sys2Proof.Machine
end

