-- ==== Sys2Proof/Machine/Ports.lean ====
section
/-! DEFINITION. Ethernet ports: link states, negotiation, calibration, loopback, TX-timestamp entries, EEE, wake patterns (R239 to
R266). -/

namespace Sys2Proof.Machine

/-! ### Link states (R262, R263) -/

def State.laneOn (s : State) (n : Nat) : Bool := decide (s.obj (0x3400 + n) 1 = 1)
/-- The lanes of the port of lane `n` (R239). -/
def State.portLanes (s : State) (n : Nat) : List Nat :=
  if s.laneMode n = 5 then (List.range 4).map fun k => n / 4 * 4 + k else [n]

/-- The link state of a lane changes: EMCY 0xFF60 (Table 9.9), and the positions that wait for a lane begin their wait (R301). -/
def State.setLink (s : State) (n st : Nat) : State :=
  let p := s.port n
  if p.link = st then s
  else
    let t := (s.setPort n { p with link := st }).emcy 0xFF60 (n / 12) (n * 2 ^ 24 + st * 2 ^ 16)
    if st = 4 ∨ st = 5 then t.listenersUp (t.portNumber n % 12) else t

/-- The state of an enabled lane that begins to look for a link: down, negotiating, or in loopback (R242, R263, R265). -/
def State.linkIdle (s : State) (n : Nat) : Nat :=
  if s.laneOn n = true ∧ (s.port n).loop ≠ 0 then 6
  else if s.laneOn n = true ∧ s.laneMode n ≠ 0 then (if s.obj (0x3400 + n) 5 = 0 then 1 else 2) else 0

/-- A lane begins to look for a link: without lock, and with nothing that an earlier negotiation resolved. -/
def State.seekLink (s : State) (n : Nat) : State :=
  (s.setPort n { s.port n with faultSince := some s.now, cleanSince := none, negFails := 0, negAt := none, eeeResolved := false, eeePartner := none,
                               unaligned := false }).setLink n (s.linkIdle n)

/-- Every lane of a port is enabled and free of faults (R262, R263). -/
def State.portClear (s : State) (n : Nat) : Bool := (s.portLanes n).all fun k => s.laneOn k && (s.port k).faultSince.isNone

/-- Calibration hold of a port begins or restarts, with a calibration of each of its lanes (R247). -/
def State.startHold (s : State) (n : Nat) : State :=
  (s.portLanes n).foldl (fun (s : State) k =>
    (s.setPort k { s.port k with holdSince := some s.now, calSince := s.now, passed := none, calFails := 0 }).setLink k 4) s

/-- A PTP port restarts in LISTENING at link-down; on a PRP pair only when both lanes are down (R264). -/
def State.restartPositions (s : State) (pos : Nat) : State :=
  if s.isPrp pos && (s.laneUp pos || s.laneUp (pos + 12)) then s
  else (List.range 8).foldl (fun (s : State) i =>
    if s.ptpOn i = true ∧ bit (s.obj (ptpIdx i) 3) pos = true then s.listen i pos else s) s

/-- SyncE references on a lane are lost (Table 5.5). -/
def State.loseSyncE (s : State) (n : Nat) : State :=
  refNumbers.foldl (fun (s : State) r => if 16 ≤ r ∧ s.refSource r = 4 ∧ s.refInstance r = n then s.refLost r 1 else s) s

/-- Link-down is declared on the port of lane `n`, which enters state `st` (R262, R264, R281). A frame that has started has departed: its
timestamp is still to come. -/
def State.declareDown (s : State) (n st : Nat) : State :=
  (s.portLanes n).foldl (fun (s : State) k =>
    let p := s.port k
    let t := (s.setPort k { p with holdSince := none, passed := none, cleanSince := none, paused := [], eeePartner := none, lpi := false }).setLink k st
    ((t.flushLane k).bump (0x3400 + k) 0x1C).loseSyncE k) s |>.restartPositions (s.portNumber n % 12)

/-- LINK_FAULT (R262): the persistence starts; the debounce of the port restarts its count. -/
def execLinkFault (lane : Nat) (s : State) : Host.Outcome State Fault Refusal :=
  .next (s.whenServing fun s =>
    let p := s.port lane
    if p.link = 0 ∨ p.link = 6 then s
    else
      let t := (s.portLanes lane).foldl (fun (s : State) k => s.setPort k { s.port k with cleanSince := none }) s
      t.setPort lane { t.port lane with faultSince := p.faultSince.orElse (fun _ => some s.now) })

/-- The port is free of faults: state 3, with its count (R263). -/
def State.debounce (s : State) (n : Nat) : State :=
  (s.portLanes n).foldl (fun (s : State) k =>
    (s.setPort k { s.port k with faultSince := none, cleanSince := some s.now }).setLink k 3) s

/-- A negotiation that failed waits for 1 s (R242). -/
def State.negWaits (s : State) (n : Nat) : Bool :=
  match (s.port n).negAt with
  | none => false
  | some t => decide (s.now < t + 1000000000)

/-- Negotiation and training begin, or begin again 1 s after a failure (R242, R263): cycle 0 of an exposure. -/
def State.negotiate (s : State) (n : Nat) : State :=
  if (s.port n).link = 1 ∧ s.laneOn n = true ∧ s.obj (0x3400 + n) 5 ≠ 0 ∧ s.negWaits n = false then
    (s.setPort n { s.port n with negAt := none }).setLink n 2
  else s

/-- BLOCK_LOCK_RETURN (R247, R262, R263): the lane's fault has gone. With every lane of the port free of faults, after a link-down the
debounce, or negotiation first; after a loss shorter than the persistence, calibration hold. A lock found while negotiation runs
decides nothing. -/
def execBlockLockReturn (lane : Nat) (s : State) : Host.Outcome State Fault Refusal :=
  .next (s.whenServing fun s =>
    let p := s.port lane
    if p.link = 0 ∨ p.link = 6 then s
    else
      let t := s.setPort lane { p with faultSince := none }
      if !t.portClear lane then t
      else match p.link with
        | 1 => if s.obj (0x3400 + lane) 5 = 0 then t.debounce lane else if s.negWaits lane then t else t.setLink lane 2
        | 2 => t
        | 3 => t.debounce lane
        | _ => if p.faultSince.isSome then t.startHold lane else t)

/-- LINK_DOWN (R262): the fault has persisted for 2 ms; in the debounce it returns the state to 1 (R263). -/
def execLinkDown (lane : Nat) (s : State) : Host.Outcome State Fault Refusal :=
  .next (s.whenServing fun s =>
    let p := s.port lane
    match p.faultSince with
    | none => s
    | some t =>
      if t + 2000000 ≤ s.now ∧ (p.link = 3 ∨ p.link = 4 ∨ p.link = 5) then
        if p.link = 3 then (s.portLanes lane).foldl (fun (s : State) k => s.setLink k 1) s else s.declareDown lane 1
      else s)

/-- Nanoseconds that the plan in force assumes for the wake of a lane (R49). -/
def State.assumedWake (s : State) (n : Nat) : Nat := 64 * s.plan.wakes.getD (n % 12) 63

/-- EEE is active on a lane (R259). -/
def State.eeeActive (s : State) (n : Nat) : Bool :=
  let p := s.port n
  decide (s.obj (0x3400 + n) 0x0A = 1) && p.eeeResolved && p.eeePartner.isSome

/-- EMCY 0xFF64 once a negotiation, when the negotiated wake exceeds the plan's (R259): at the partner's values, and at cycle 0 of an exposure
for a plan or an enable that has changed. -/
def State.checkWake (s : State) (n : Nat) : State :=
  let p := s.port n
  if s.eeeActive n = true ∧ s.assumedWake n < p.wakeNs ∧ !p.wakeSent then
    (s.setPort n { p with wakeSent := true }).emcy 0xFF64 (n / 12) (n * 2 ^ 24 + p.wakeNs / 1000 % 65536)
  else s

/-- What negotiation resolved is the technology of the committed mode (R242): Clause 73 resolves RS-FEC for modes 0x04 and 0x05 alone. -/
def State.resolvesMode (s : State) (n : Nat) (r : NegotiationResult) : Bool :=
  decide (s.obj (0x3400 + n) 5 ≠ 2) || (r.rsFec == decide (4 ≤ s.laneMode n))

/-- A negotiation or training has failed (R242): the lane stays down; the tenth failure in a row is reported. -/
def State.negotiationFailed (s : State) (n : Nat) : State :=
  let p := s.port n
  let t := (s.setPort n { p with negFails := p.negFails + 1, negAt := some s.now,
                                 sticky := if p.negFails + 1 = 10 then putBit p.sticky 2 true else p.sticky }).setLink n 1
  if p.negFails + 1 = 10 then t.emcy 0xFF63 (n / 12) (n * 2 ^ 24) else t

/-- NEGOTIATION_COMPLETE (R242): what it resolves takes effect, and the debounce begins; another technology than the committed one is a
failure. -/
def execNegotiationComplete (lane : Nat) (outcome : Option NegotiationResult) (s : State) : Host.Outcome State Fault Refusal :=
  .next (s.whenServing fun s =>
    let p := s.port lane
    if ¬(p.link = 1 ∨ p.link = 2) ∨ s.obj (0x3400 + lane) 5 = 0 ∨ s.negWaits lane = true then s
    else match outcome with
      | some r =>
        if !s.resolvesMode lane r then s.negotiationFailed lane
        else
          let t := s.setPort lane { p with negFails := 0, negAt := none, faultSince := none, rsFec := r.rsFec, pauseResolved := r.pause,
                                           eeeResolved := r.eee, wakeNs := r.wakeNs, minWake := r.wakeNs, wakeSent := false }
          if t.portClear lane then t.debounce lane else t
      | none => s.negotiationFailed lane)

/-- LINK_UP (R263): 50 ms free of faults. -/
def execLinkUp (lane : Nat) (s : State) : Host.Outcome State Fault Refusal :=
  .next (s.whenServing fun s =>
    match (s.port lane).cleanSince with
    | none => s
    | some t =>
      if (s.port lane).link = 3 ∧ t + 50000000 ≤ s.now then
        ((s.portLanes lane).foldl (fun (s : State) k => s.setPort k { s.port k with cleanSince := none }) s).startHold lane
      else s)

/-! ### Calibration (R247, R248) -/

/-- A calibration takes 100 ms (R247). -/
def calibrationTime : Nat := 100000000

/-- CALIBRATION_COMPLETE (R247, R248): at the end of the calibration; latencies in ps wait for the end of the hold; a failed calibration is
repeated at once, and the third failure in a row is a contained fault of the lane's plate. -/
def execCalibrationComplete (lane : Nat) (tx rx : Int) (pass : Bool) (s : State) : Host.Outcome State Fault Refusal :=
  .next (s.whenServing fun s =>
    let p := s.port lane
    if p.holdSince.isNone ∨ p.passed.isSome ∨ s.now < p.calSince + calibrationTime then s
    else if pass then s.setPort lane { p with passed := some (tx.toNat, rx.toNat), calFails := 0 }
    else
      let t := s.setPort lane { p with calFails := p.calFails + 1, calSince := s.now,
                                       sticky := if p.calFails + 1 = 3 then putBit p.sticky 1 true else p.sticky }
      if p.calFails + 1 = 3 then (t.containedOn (lane / 12) (144 + lane % 12) 0).emcy 0xFF61 (lane / 12) (lane * 2 ^ 24) else t)

/-- The hold of a port may end: 100 ms after it began, with the calibration of every lane passed (R248). -/
def State.holdOver (s : State) (n : Nat) : Bool :=
  (s.portLanes n).all fun k => match (s.port k).holdSince with
    | none => false
    | some t => decide (t + calibrationTime ≤ s.now) && (s.port k).passed.isSome && decide ((s.port k).link = 4)

/-- The hold of a port ends at cycle 0 of an exposure (R248): the latencies measured take effect. -/
def State.endHold (s : State) (n : Nat) : State :=
  if s.portNumber n ≠ n ∨ s.holdOver n = false then s
  else (s.portLanes n).foldl (fun (s : State) k =>
    let p := s.port k
    let l := p.passed.getD (0, 0)
    let u := (s.setObj (0x3400 + k) 0x20 l.1).setObj (0x3400 + k) 0x21 l.2
    (u.setPort k { p with holdSince := none, passed := none, residual := 0, reels := 0 }).setLink k 5) s

/-- Per reel: the largest residual is published (R246). -/
def State.portsReel (s : State) : State :=
  s.ports.keys.foldl (fun (s : State) n =>
    let p := s.port n
    (s.setObj (0x3400 + n) 0x1F p.residual).setPort n { p with residual := 0, reels := p.reels + 1 }) s

/-- DEPARTURE_MEASURED (R54, R246, R249): within ±0.2 ns the entry completes with its predicted value; outside, a contained
fault and calibration hold, and the entry's status is not given (log 5). -/
def execDepartureMeasured (lane : Nat) (residualFs : Int) (s : State) : Host.Outcome State Fault Refusal :=
  .next (s.whenServing fun s =>
    let n := s.portNumber lane
    let p := s.port n
    let t := s.setPort n { p with residual := Nat.max p.residual residualFs.natAbs, confirm := p.confirm.drop 1 }
    let ok := decide (residualFs.natAbs ≤ 200000)
    let (st, u) := if ok then (1, t) else
      let (v, w) := t.drawNat
      (1 + v % 5, w)
    let w := match p.confirm with
      | [] => if ok then t else u
      | (id, time) :: _ => u.txComplete lane id st false time
    if ok then w else (w.containedOn (lane / 12) (144 + n % 12) 0).startHold n)

/-- ALIGNMENT_LOSS (R246). -/
def execAlignmentLoss (lane : Nat) (s : State) : Host.Outcome State Fault Refusal :=
  .next (s.whenServing fun s => s.setPort (s.portNumber lane) { s.port (s.portNumber lane) with unaligned := true })

/-- ALIGNER_RELOCK (R246, R247): a port that is up or in hold enters calibration hold. -/
def execAlignerRelock (lane : Nat) (s : State) : Host.Outcome State Fault Refusal :=
  .next (s.whenServing fun s =>
    let n := s.portNumber lane
    let p := s.port n
    if !p.unaligned then s
    else
      let t := s.setPort n { p with unaligned := false }
      if p.link = 4 ∨ p.link = 5 then t.startHold n else t)

/-! ### Loopback (R265) -/

def loopbackOp (n value : Nat) (s : State) : Except Nat State :=
  if 3 < value then .error 0x06090030
  else if !s.laneOn n then .error 0x0A1E0074
  else .ok (s.setPort n { s.port n with pendLoop := some value })

/-- LOOPBACK (R265). -/
def execLoopback (t : Transport) (lane value : Nat) (s : State) : Host.Outcome State Fault Refusal :=
  .next (s.command t (0x3400 + lane) 0x0D (loopbackOp lane value))

/-- A loopback write in force at cycle 0 of an exposure. The bit errors that a test of mode 1 counted are a free value (log 7). -/
def State.applyLoop (s : State) (n : Nat) : State :=
  match (s.port n).pendLoop with
  | none => s
  | some v =>
    let old := (s.port n).loop
    let (e, s1) := if old = 1 ∧ v ≠ 1 then s.drawNat else (0, s)
    let t := (s1.setPort n { s.port n with pendLoop := none, loop := v, prbs := ((s.port n).prbs + e) % 2 ^ 32 }).setObj (0x3400 + n) 0x0D v
    if old = 0 ∧ v ≠ 0 then (t.declareDown n 6).testEvent 1 true (0x3400 + n)
    else if old ≠ 0 ∧ v = 0 then
      ((t.portLanes n).foldl State.seekLink t).testEvent 1 false (0x3400 + n)
    else t

/-- An enable write in force at cycle 0 of an exposure (R266). -/
def State.applyLane (s : State) (n : Nat) : State :=
  match (s.port n).pendEnable with
  | none => s
  | some on =>
    let was := s.laneOn n
    let t := (s.setPort n { s.port n with pendEnable := none }).takeEffect (okey 0 0 (0x3400 + n) 1) (bitNat on)
    if on && !was then t.seekLink n
    else if !on && was then
      let u := if (t.port n).link = 4 ∨ (t.port n).link = 5 ∨ (t.port n).link = 6 then t.declareDown n 0 else t
      (u.setPort n { u.port n with faultSince := none, cleanSince := none }).setLink n 0
    else t

/-- A committed change of mode or map: a link-down without persistence, and negotiation restarts (R241). -/
def State.relayLane (s : State) (n : Nat) : State :=
  if !s.laneOn n then s
  else
    let t := if (s.port n).link = 4 ∨ (s.port n).link = 5 then s.declareDown n 1 else s
    t.seekLink n

/-- The waiting set of group 0x05 takes effect on a lane (R241). -/
def State.applyPortSet (s : State) (n : Nat) : State :=
  let key (k : Nat) : Nat := okey 0 0 (0x3400 + n) k
  let changed (k : Nat) : Bool := match s.groups.waiting.look noneOf (key k) with
    | none => false
    | some v => decide (v ≠ s.objKey (key k))
  let t := if changed 2 ∨ changed 3 then (if (s.port n).link = 4 ∨ (s.port n).link = 5 then s.declareDown n 1 else s) else s
  let u := t.applyGroup 5 n
  if changed 2 ∨ changed 3 then u.relayLane n else u

/-- The set of a lane agrees, given the modes, maps and MTUs as they would stand (R241). -/
def lanesAgree (mode map mtu : Nat → Int) (n : Nat) : Bool :=
  let quad := (List.range 4).map fun k => n / 4 * 4 + k
  let m := (map n).toNat
  let partner := (n + 12) % 24
  decide (0 ≤ mode n ∧ mode n ≤ 5 ∧ 1518 ≤ mtu n ∧ mtu n ≤ 9600) && decide (field m 7 6 = 0 ∧ field m 3 2 = 0)
    && (if mode n = 5 then
          (quad.all fun k => decide (mode k = 5 ∧ mtu k = mtu n))
            && ([0, 1, 2, 3].all fun v => quad.any fun k => decide ((map k).toNat % 4 = v))
        else decide (m % 4 = 0))
    && (decide (mode partner = 0) || decide (mode partner = mode n ∧ mtu partner = mtu n))

/-- A write to a lane's objects (R242, R261). -/
def laneWriteOp (n sub : Nat) (v : Int) (s : State) : Except Nat State :=
  let k := okey 0 0 (0x3400 + n) sub
  if sub = 1 then .ok (s.setPort n { s.port n with pendEnable := some (decide (v = 1)) })
  else if sub = 5 ∧ s.laneOn n = true then .error 0x0A1E0071
  else if sub = 0x0D then loopbackOp n v.toNat s
  else if sub = 0x24 ∧ ((List.range 8).any fun p => bit v.toNat p && decide (s.willKey (okey 0 (8 * n + p) 0x2701 3) = 0)) = true then .error 0x0A1E0073
  else .ok (s.later k v)

/-- A write to a wake pattern (R261). -/
def patternWriteOp (sub : Nat) (v : Int) (s : State) : Except Nat State :=
  if (sub = 3 ∧ v = 0) ∨ (sub = 5 ∧ 7 < v) then .error 0x0A1E0073
  else .ok (s.later (okey 0 (8 * s.obj 0x2701 1 + s.obj 0x2701 2) 0x2701 sub) v)

/-- A write to a port position's MAC address (Table 9.6). -/
def macWriteOp (sub : Nat) (v : Int) (s : State) : Except Nat State :=
  if s.laneOn (sub - 1) || s.laneOn (sub + 11) then .error 0x0A1E0071 else .ok (s.later (okey 0 0 0x2702 sub) v)

/-! ### TX timestamps (R244, R248 to R251) -/

/-- The instant of a best-effort frame that departs now on a lane, as TIME112: the PCS value, or the MAC-layer value in calibration
hold. The place within the cycle is measured and no operand carries it: a free value (log 7). -/
def State.departStamp (s : State) (n : Nat) (hold : Bool) : Nat × State :=
  let (v, t) := s.drawNat
  let frac : Int := (v % 2 ^ 32 : Nat)
  let ps : Int := if hold then s.obj (0x3400 + n) 0x22 + s.objI (0x3400 + n) 7 else s.obj (0x3400 + n) 0x20 + s.objI (0x3400 + n) 7
  let delay : Int := 100 * ps + if hold then 0 else preamble (s.laneMode n)
  let at32 : Int := s.base32 0 + frac + delay * 2 ^ 32 / 100000
  (toTime112 (at32.toNat * 2 ^ 28), t)

/-- TX_TIMESTAMP_COMPLETE (R249): the departure of the oldest started best-effort copy with a request is
measured, or it is not sent. -/
def execTxTimestampComplete (lane : Nat) (status : Nat) (s : State) : Host.Outcome State Fault Refusal :=
  .next (s.whenServing fun s =>
    let n := s.portNumber lane
    let p := s.port n
    match p.started with
    | [] => s
    | f :: rest =>
      let t := s.setPort n { p with started := rest }
      match f.request with
      | none => t
      | some id =>
        if 2 < status then t.txComplete lane id (Nat.min status 5) f.copy 0
        else
          let hold := p.holdSince.isSome
          let (time, u) := t.departStamp n hold
          u.txComplete lane id (if hold then 2 else 1) f.copy time)

/-- Entries that the engine consumes leave at the management point (R250); those of upstream requests and of Pdelay_Reqs give their
departures. -/
def State.consumeTx (s : State) : State :=
  s.ports.keys.foldl (fun (s : State) n =>
    let p := s.port n
    (p.txQueue.filter fun e => e.seq.isNone).foldl (fun (s : State) e => (s.upstreamSent e).pdelaySent e) (s.setPort n { p with txQueue := p.txQueue.filter fun e => e.seq.isSome })) s

/-- The host-visible entries up to and including `q` leave; entries the engine consumes stay. -/
def releaseTx (q : Nat) : List TxEntry → List TxEntry
  | [] => []
  | e :: r => match e.seq with
    | none => e :: releaseTx q r
    | some n => if n = q then r else releaseTx q r

def txReleaseOp (n q : Nat) (s : State) : Except Nat State :=
  let p := s.port n
  if p.txQueue.any fun e => decide (e.seq = some q) then .ok (s.setPort n { p with txQueue := releaseTx q p.txQueue })
  else .error 0x0A1E0072

/-- TX_TIMESTAMP_RELEASE (R251). -/
def execTxTimestampRelease (t : Transport) (lane seq : Nat) (s : State) : Host.Outcome State Fault Refusal :=
  .next (s.command t (0x3400 + lane) 0x10 (txReleaseOp lane seq))

/-- The octets of an upload of .0F (R251). -/
def State.txRead (s : State) (n : Nat) : Octets :=
  (((s.port n).txQueue.filter fun e => e.seq.isSome).flatMap TxEntry.octets).take 1280

/-! ### Flow control and LLDP (R258 to R260) -/

/-- PAUSE_EXPIRE (R258): the pause of a queue, or of the whole port as 255, has run out. -/
def execPauseExpire (lane queue : Nat) (s : State) : Host.Outcome State Fault Refusal :=
  .next (s.whenServing fun s =>
    s.setPort lane { s.port lane with paused := (s.port lane).paused.filter fun e => decide (e.1 ≠ queue ∨ s.now < e.2) })

/-- The octets of the LLDPDU that a lane sends now. -/
def State.lldpNow (s : State) (n : Nat) : Octets := s.lldpFrameOf n (s.assumedWake n) (s.port n).minWake (s.port n).eeePartner

/-- LLDP_TRANSMIT (R260): one LLDPDU an interval on each enabled lane. -/
def execLldpTransmit (lane : Nat) (s : State) : Host.Outcome State Fault Refusal :=
  .next (s.whenServing fun s =>
    let due := match (s.port lane).lldpAt with
      | none => true
      | some t => decide (t + s.obj 0x2700 5 * 1000000000 ≤ s.now)
    if s.laneOn lane && due then
      let f := s.lldpNow lane
      (s.setPort lane { s.port lane with lldpAt := some s.now }).offerEngine lane (.lldp f) (f.length + 4) none
    else s)

/-! ### Wake patterns (R261) -/

/-- Whether a received frame matches pattern `k` of a lane. -/
def State.patternMatches (s : State) (n k : Nat) (head : Octets) : Bool :=
  let mask := beOctets 16 (s.objW (8 * n + k) 0x2701 3)
  let picked (j : Nat) : Bool := (mask.getD (j / 8) 0).getLsbD (7 - j % 8)
  let sel := (List.range 128).filter picked
  bit (s.obj (0x3400 + n) 0x24) k && (sel.all fun j => decide (j < head.length))
    && decide (crc16 (sel.map fun j => head.getD j 0) = s.objW (8 * n + k) 0x2701 4)

/-- A serving-engine group wakes out of its plan (R32), but not while thermal shedding holds it asleep (R467). -/
def State.wakeGroup (s : State) (g : Nat) : State := if s.faults.shedding ∧ 4 ≤ g then s else s.wakeDomain 1 g

/-- Each match is counted and wakes its group (R32). -/
def State.wakePatterns (s : State) (n : Nat) (head : Octets) : State :=
  (List.range 8).foldl (fun (s : State) k =>
    if s.patternMatches n k head then (s.bumpW (8 * n + k) 0x2701 6).wakeGroup (s.objW (8 * n + k) 0x2701 5) else s) s

end Sys2Proof.Machine
end

