-- ==== Sys2Proof/Machine/Synthesis.lean ====
section
/-! DEFINITION. Meanings of the synthesis commands (R179 to R208). -/

namespace Sys2Proof.Machine

/-! ### DPLLs -/

/-- One update of a DPLL's loop on a phase error in ps, reference minus DCO (R181, R184); the first one after a start begins the
acquisition (R182). -/
def State.dpllLoop (s0 : State) (d r : Nat) (error : Int) : State :=
  let s := if (s0.dpll d).lastUpdate.isNone then s0.acquire d else s0
  let x := s.dpll d
  if x.rebuild then
    s.setDpll d { x with rebuild := false, buildOut := error, error := 0, lastUpdate := some s.clock.exposures }
  else
    let e := error - x.buildOut
    let g := loopGain x.stage (s.obj (0x3200 + d) 6) (s.dpllInterval r)
    let i := x.integral + g.2 * e
    let y := (i + g.1 * e) / 2 ^ 32
    s.setDpll d { x with integral := i, error := e, ftw := ftwOf (s.obj (0x3200 + d) 4) y, lastUpdate := some s.clock.exposures }

/-- DPLL_UPDATE (R181): at most one update an exposure, in modes 1 and 2, outside holdover. -/
def execDpllUpdate (d : Nat) (error : Int) (s : State) : Host.Outcome State Fault Refusal :=
  .next (s.whenServing fun s =>
    match s.tracked d with
    | none => s
    | some r => if (s.dpll d).holdover ∨ (s.dpll d).lastUpdate = some s.clock.exposures ∨ s.usable r = false then s else s.dpllLoop d r error)

/-- DPLL_STAGE_END (R182): the dwell of the stage in force is over. -/
def execDpllStageEnd (d : Nat) (s : State) : Host.Outcome State Fault Refusal :=
  .next (s.whenServing fun s =>
    let x := s.dpll d
    if !x.running ∨ x.last ∨ x.holdover ∨ (s.tracked d).isNone ∨ x.lastUpdate.isNone ∨ s.now < x.dwellAt + dwellNs x.stage then s
    else
      let b := nextStage x.stage (s.obj (0x3200 + d) 5)
      s.setDpll d { x with stage := b, last := decide (b = s.obj (0x3200 + d) 5), dwellAt := s.now })

/-- Group 0x01 in force for a DPLL (R183): its last stage follows the new bandwidth; otherwise the staging is recomputed. -/
def State.dpllCommitted (s : State) (d : Nat) : State :=
  let x := s.dpll d
  let f := s.obj (0x3200 + d) 5
  if !x.running then s
  else if x.last ∨ x.stage ≤ f then s.setDpll d { x with stage := f, last := true } else s.setDpll d { x with last := false }

/-! ### Output PLLs -/

/-- An output PLL stops: it is switched off, or no channel that it feeds is enabled (Table 1.6). -/
def State.opllSleep (s : State) (o : Nat) : State :=
  (s.setOpll o { s.opll o with state := 0, ramp := none, found := none }).lockPins o [0, 1] false

/-- A pending enable whose exposure boundary has passed. -/
def State.enableDue (s : State) (pend : Option Bool) (writtenIn : Nat) : Bool := pend.isSome && decide (writtenIn < s.clock.exposures)

/-- The safe point of group 0x02 for one output PLL (R187): at cycle 0 of the exposure after the commit's management point the set and a
pending enable take effect, and the change is a ramp or a re-lock. `inA`, `inB` say whether the new frequency lies within the band in
force of each plate. An output PLL whose channels are all off stays asleep (Table 1.6). -/
def State.opllSafePoint (s : State) (o : Nat) (inA inB : Bool) : State :=
  let idx := 0x3210 + o
  let had := s.safeDue 2 o
  let x := s.opll o
  if (!had && !s.enableDue x.pendEnable x.pendIn) || decide (s.clock.cycle ≠ 0) || s.clock.exposureDue then s
  else
    let before := (s.obj idx 2, s.obj idx 3, s.obj idx 4)
    let fOld := s.dcoFor o (s.vco o)
    let vOld := s.vco o
    let on := s.obj idx 1
    let s1 := if had then s.applyGroup 2 o else s
    let s2 := match (if s.enableDue x.pendEnable x.pendIn then x.pendEnable else none) with
      | none => s1
      | some e => (s1.takeEffect (okey 0 0 idx 1) (bitNat e)).setOpll o { s1.opll o with pendEnable := none }
    let now := s2.obj idx 1
    let inRange := s2.running.all fun p => if p = 0 then inA else inB
    let s3 :=
      if now = 0 then (if on = 1 then (s2.fed o).foldl State.gateChannel (s2.opllSleep o) else s2)
      else if s2.opllUsed o = false then (s2.opllSleep o).followDco o
      else if on = 1 ∧ x.state = 4 ∧ before = (s2.obj idx 2, s2.obj idx 3, s2.obj idx 4) ∧ inRange = true then
        (if s2.vco o = vOld then s2 else s2.rampStart o fOld (s2.dcoFor o (s2.vco o)))
      else s2.relock o false
    if had then s3.tookEffect 2 o else s3

/-- OPLL_SAFE_POINT (R187). -/
def execOpllSafePoint (o : Nat) (inRangeA inRangeB : Bool) (s : State) : Host.Outcome State Fault Refusal :=
  .next (s.whenServing fun s => s.opllSafePoint o inRangeA inRangeB)

/-- RAMP_UPDATE (R189): every ramp advances, 1,000 cycles after its last update; during a registration gate the offset is held. -/
def State.rampUpdate (s : State) : State :=
  if s.time.gate then s
  else (List.range 4).foldl (fun s o =>
    match (s.opll o).ramp with
    | none => s
    | some r =>
      if s.now < r.updated + 1000 then s
      else
        let n := { r.tick with updated := s.now }
        if n.done then s.rampEnd o n else s.setOpll o { s.opll o with ramp := some n }) s

def execRampUpdate (s : State) : Host.Outcome State Fault Refusal := .next (s.whenServing State.rampUpdate)

/-- LOCK_DETECTED (R192, R193, R198): the running plates' bands and tuning voltages are in, their lock pins rise, and qualification begins. -/
def execLockDetected (o : Nat) (a b : BandResult) (s : State) : Host.Outcome State Fault Refusal :=
  .next (s.whenServing fun s =>
    let x := s.opll o
    if x.state = 1 ∨ x.state = 2 then
      let of (p : Nat) : BandResult := if p = 0 then a else b
      let y := { x with state := 3, found := some (a, b), qualAt := s.now,
                        band := s.running.foldl (fun t p => t.put (fun _ => 0) p (of p).band) x.band,
                        tuning := s.running.foldl (fun t p => t.put (fun _ => 0) p (of p).tuningMv) x.tuning }
      (s.setOpll o y).lockPins o s.running true
    else s)

/-- RECIPE_LOCK_TIMEOUT (R194): no lock within 18,000 ns on a recipe's band, so a full search follows at once. -/
def execRecipeLockTimeout (o : Nat) (s : State) : Host.Outcome State Fault Refusal :=
  .next (s.whenServing fun s =>
    let x := s.opll o
    if x.state = 2 ∧ x.byRecipe ∧ x.searchAt + 18000 ≤ s.now then
      (s.setOpll o { x with state := 1, byRecipe := false, searchAt := s.now }).bump (0x3210 + o) 0x0D
    else s)

/-- The edge error of a channel at its reference plane against the grid point and the phase offset (R199), ps. -/
def State.edgeError (s : State) (c : Nat) (measured : Int) : Int :=
  measured + s.objI (0x3220 + c) 0x0D - s.objI (0x3220 + c) 7

/-- A channel is aligned on each running plate by a delay of (period − error) mod period, in whole VCO periods and the rest in the fine
delay, which adds to what stands there (R199); `ea`, `eb` are the errors of the two plates. -/
def State.align (s : State) (c : Nat) (ea eb : Int) : State :=
  let v := s.vco (s.obj (0x3220 + c) 2)
  let one (s : State) (p : Nat) : State :=
    s.setObjP p (0x3220 + c) 0x0E
      (fineDelay v ((s.objKey (okey p 0 (0x3220 + c) 0x0E)).toNat * psUnit + correction (s.channelHz c) (if p = 0 then ea else eb)))
  (s.running.foldl one s).setChannel c { s.channel c with aligned := true, lost := false }

/-- ALIGNMENT_CORRECTION (R199, R200): during a re-lock, while the channel is gated. -/
def execAlignmentCorrection (c : Nat) (measuredA measuredB : Int) (s : State) : Host.Outcome State Fault Refusal :=
  .next (s.whenServing fun s =>
    if (s.channel c).gated ∧ s.alignable c ∧ (s.opll (s.obj (0x3220 + c) 2)).state = 3 then
      s.align c (s.edgeError c measuredA) (s.edgeError c measuredB)
    else s)

/-- The least recently used entry of a plate's recipes, an empty one first. -/
def Opll.lruEntry (x : Opll) (p : Nat) : Nat :=
  let used (k : Nat) : Nat := match x.recipes.look (fun _ => none) (32 * p + k) with
    | none => 0
    | some (r : Recipe) => r.used + 1
  (List.range 32).foldl (fun best k => if used k < used best then k else best) 0

/-- The entry for the same target, if any. -/
def Opll.sameTarget (x : Opll) (p kHz : Nat) : Option Nat :=
  (List.range 32).find? fun k => match x.recipes.look (fun _ => none) (32 * p + k) with
    | none => false
    | some (r : Recipe) => decide (r.kHz = kHz)

/-- A recipe is written or its use counted on one plate at qualification (R194). -/
def State.noteRecipe (s : State) (o p : Nat) (f : BandResult) : State :=
  let x := s.opll o
  let n := x.clockUse + 1
  if x.byRecipe then
    match s.recipeFor o p (s.vco o) with
    | none => s
    | some k => match x.recipes.look (fun _ => none) (32 * p + k) with
      | none => s
      | some r =>
        let r1 : Recipe := { r with uses := Nat.min (r.uses + 1) 0xFFFF, used := n }
        s.setOpll o { x with clockUse := n, recipes := x.recipes.put (fun _ => none) (32 * p + k) (some r1) }
  else
    let kHz := s.vco o / 1000000000
    let k := (x.sameTarget p kHz).getD (x.lruEntry p)
    let r : Recipe := ⟨kHz, f.band, f.tuningMv, s.temp (pllSensor p o), 0, n⟩
    s.setOpll o { x with clockUse := n, recipes := x.recipes.put (fun _ => none) (32 * p + k) (some r) }

/-- LOCK_QUALIFIED (R192): after 100 µs of qualified lock, gated channels are released to the VCO path; `ns` is the time from safe point to
last release. -/
def execLockQualified (o ns : Nat) (s : State) : Host.Outcome State Fault Refusal :=
  .next (s.whenServing fun s =>
    let x := s.opll o
    match x.found with
    | none => s
    | some (a, b) =>
      if x.state ≠ 3 ∨ s.now < x.qualAt + 100000 then s
      else
        let s1 := s.running.foldl (fun (s : State) p => s.noteRecipe o p (if p = 0 then a else b)) s
        let s2 := s1.setOpll o { s1.opll o with state := 4, found := none }
        let s3 := (s2.fed o).foldl (fun (s : State) c => s.setChannel c { s.channel c with gated := false, safelight := false }) s2
        (s3.setObj (0x3210 + o) 0x10 (ns % 2 ^ 32 : Nat)).emcy 0xFF44 s.twin.active (o * 2 ^ 24 + ns % 2 ^ 24))

/-- SEARCH_TIMEOUT (R195): no qualified lock within 500 µs of a search's start: the search repeats up to three times, then state 6. -/
def execSearchTimeout (o : Nat) (s : State) : Host.Outcome State Fault Refusal :=
  .next (s.whenServing fun s =>
    let x := s.opll o
    if (x.state = 1 ∨ x.state = 2 ∨ x.state = 3) ∧ x.searchAt + 500000 ≤ s.now then
      if x.searches < 3 then
        ((s.setOpll o { x with state := 1, byRecipe := false, searches := x.searches + 1, found := none, searchAt := s.now }).lockPins o [0, 1]
          false).bump (0x3210 + o) 0x0D
      else
        (((s.setOpll o { x with state := 6, found := none }).lockPins o [0, 1] false).containedBoth (96 + o) o).emcy 0xFF40 s.twin.active
          (o * 2 ^ 24 + (x.searches + 1) * 2 ^ 16)
    else s)

/-- LOCK_LOSS (R196): `a`, `b` say which plates lost lock in the exposure. -/
def execLockLoss (o : Nat) (a b : Bool) (s : State) : Host.Outcome State Fault Refusal :=
  .next (s.whenServing fun s =>
    let x := s.opll o
    if x.state ≠ 4 ∧ x.state ≠ 5 then s
    else if a ∧ b then
      ((s.bump (0x3210 + o) 0x0E).relock o false).emcy 0xFF41 s.twin.active (o * 2 ^ 24)
    else if a then ((s.bump (0x3210 + o) 0x0E).lockPins o [0] false).fatal 0 (96 + o) 0
    else if b then ((s.bump (0x3210 + o) 0x0E).lockPins o [1] false).fatal 1 (96 + o) 0
    else s)

/-- LOCK_SENSE_MISMATCH (R198): the sense input has read unlocked for more than 5 ms of lock: a contained fault and EMCY 0xFF46; the
outputs are not gated. -/
def execLockSenseMismatch (o plate : Nat) (s : State) : Host.Outcome State Fault Refusal :=
  .next (s.whenServing fun s =>
    let x := s.opll o
    let k : LockPin := x.pins.look (fun _ => {}) (plate % 2)
    if (x.state = 4 ∨ x.state = 5) ∧ k.since + 5000000 < s.now then
      ((s.setOpll o { x with pins := x.pins.put (fun _ => {}) (plate % 2) { k with broken := true } }).containedOn (plate % 2) (96 + o) 0).emcy
        0xFF46 (plate % 2) (o * 2 ^ 24)
    else s)

/-! ### Clock channels -/

/-- Output registration of a channel (R201). -/
def outputRegistrationOp (c value : Nat) (s : State) : Except Nat State :=
  if value ≠ 1 then .error 0x06090030
  else if !s.alignable c ∨ (s.channel c).gated then .error 0x0A1E0053
  else .ok (s.setChannel c { s.channel c with register := true })

/-- OUTPUT_REGISTRATION (R201). -/
def execOutputRegistration (t : Transport) (c value : Nat) (s : State) : Host.Outcome State Fault Refusal :=
  .next (s.command t (0x3220 + c) 8 (outputRegistrationOp c value))

/-- The edge errors of a channel on the two plates: as measured in the last reel (R200), or where its divider has started since, what the
feedback TDCs measure now, a free value (log 94). -/
def State.edgeErrors (s : State) (c : Nat) : (Int × Int) × State :=
  if (s.channel c).measured then ((s.objKey (okey 0 0 (0x3220 + c) 0x0A), s.objKey (okey 1 0 (0x3220 + c) 0x0A)), s)
  else
    let (a, s1) := s.drawInt
    let (b, s2) := s1.drawInt
    ((a, b), s2)

/-- The registered channels align at cycle 0 of the exposure (R201). -/
def State.registerChannel (s : State) (c : Nat) : State :=
  if !(s.channel c).register then s
  else
    let ((ea, eb), s1) := s.edgeErrors c
    let d := correction (s1.channelHz c) (if s1.twin.active = 0 then ea else eb) / psUnit
    let s2 := s1.setChannel c { s1.channel c with register := false }
    (s2.align c ea eb).emcy 0xFF43 s.twin.active (c * 2 ^ 24 + Nat.min d 0xFFFF * 2 ^ 8)

/-- An alignment boundary of the time base of a channel's DPLL falls in this cycle (R199, R203). -/
def State.atAlignBoundary (s : State) (c : Nat) : Bool :=
  let b := s.base (s.obj (0x3200 + s.obj (0x3210 + s.obj (0x3220 + c) 2) 2) 3)
  let a := Nat.max 1 (alignUs (s.obj (0x3220 + c) 6)) * 1000 * nsUnit
  decide (b.value / a ≠ b.prev / a) || decide (b.value % a = 0)

/-- A channel's output PLL wakes with the first channel that it feeds and sleeps with the last (Table 1.6); a channel enabled while there
is no lock is gated. -/
def State.channelPower (s : State) (c : Nat) (fresh : Bool) : State :=
  let o := s.obj (0x3220 + c) 2
  if 3 < o then s
  else if !fresh then (if s.opllUsed o then s else s.opllSleep o)
  else
    let st := (s.opll o).state
    if s.obj (0x3210 + o) 1 = 1 ∧ st = 0 then s.relock o false
    else if st = 4 ∨ st = 5 then s else s.gateChannel c

/-- The safe point of a channel (R203): after the next exposure boundary, and for an aligned channel at an alignment boundary of its time
base, its set and pending enable take effect. -/
def State.channelSafePoint (s : State) (c : Nat) : State :=
  let had := s.safeDue 3 c
  let x := s.channel c
  let set := s.enableDue x.pendEnable x.pendIn
  if (!had && !set) || (x.aligned && !s.atAlignBoundary c) then s
  else
    let s1 := if had then s.applyGroup 3 c else s
    let on := if set then x.pendEnable.getD x.enabled else x.enabled
    let s2 := if set then s1.takeEffect (okey 0 0 (0x3220 + c) 1) (bitNat on) else s1
    let src := s2.obj (0x3220 + c) 2
    let fresh := on && !x.enabled
    let y := { x with enabled := on, pendEnable := if set then none else x.pendEnable, aligned := x.aligned && on && !fresh,
                      lost := x.lost && on && !fresh, gated := x.gated && on && !fresh, safelight := x.safelight && on && !fresh, measured := false,
                      onB := if s2.obj (0x3220 + c) 4 = 0 then false else decide (s2.twin.active = 1) }
    let s3 := s2.setChannel c y
    let s4 := if y.aligned ∧ !s3.alignable c then (s3.setChannel c { y with aligned := false }).loseAlignment c (s3.lastError c) else s3
    let s5 := if x.enabled = on then s4 else s4.channelPower c fresh
    let s6 := if x.enabled ≠ on ∧ 16 ≤ src then s5.testEvent 2 on (0x3220 + c) else s5
    if had then s6.tookEffect 3 c else s6

/-- CHANNEL_SAFE_POINT (R203). -/
def execChannelSafePoint (c : Nat) (s : State) : Host.Outcome State Fault Refusal :=
  .next (s.whenServing fun s => s.channelSafePoint c)

/-- The fine delay of a channel follows the temperature compensation of its path, by at most 1 ps a reel (R163, R200); the tables are in
OTP and not given, so what it does is a free value (log 94). -/
def State.followTemperature (s : State) (c : Nat) : State :=
  s.running.foldl (fun (s : State) p =>
    let (v, t) := s.drawInt
    t.setObjP p (0x3220 + c) 0x0E (clampI 0 255 (t.objKey (okey p 0 (0x3220 + c) 0x0E) + clampI (-1) 1 v)).toNat) s

/-- Each aligned channel is measured once a reel (R200): the error of each running plate, and a loss beyond the path's term 5. -/
def State.checkChannel (s : State) (c : Nat) (a b : Int) : State :=
  if !(s.channel c).aligned then s
  else
    let e (p : Nat) : Int := s.edgeError c (if p = 0 then a else b)
    let s1 := s.running.foldl (fun (s : State) p => s.setKey (okey p 0 (0x3220 + c) 0x0A) (e p)) s
    let s2 := (s1.setChannel c { s1.channel c with measured := true }).followTemperature c
    let act := e s.twin.active
    if (if s.obj (0x3220 + c) 4 = 0 then 20 else 70) < act.natAbs then s2.loseAlignment c act else s2

/-- A step, a set or a registration of a time base leaves the channels aligned to it misaligned (R200). -/
def State.misalign (s : State) (n : Nat) : State :=
  (List.range 12).foldl (fun (s : State) c =>
    let src := s.obj (0x3220 + c) 2
    let d := s.obj (0x3210 + src) 2
    if (s.channel c).aligned ∧ src ≤ 3 ∧ s.obj (0x3200 + d) 2 = 0 ∧ s.obj (0x3200 + d) 3 = n then s.loseAlignment c (s.lastError c) else s) s

/-- Recipes of the selected output PLL are invalidated on both plates (Table 7.8). -/
def invalidateRecipesOp (mask : Nat) (s : State) : Except Nat State :=
  let o := s.obj 0x2502 1
  let x := s.opll o
  let r := (bitsSet mask 32).foldl (fun t k => (t.put (fun _ => none) k none).put (fun _ => none) (32 + k) none) x.recipes
  .ok (s.setOpll o { x with recipes := r })

/-- RECIPE_INVALIDATE (R194). -/
def execRecipeInvalidate (t : Transport) (mask : Nat) (s : State) : Host.Outcome State Fault Refusal :=
  .next (s.command t 0x2502 4 (invalidateRecipesOp mask))

/-- The octets of a recipe (Table 7.5); zeros where the entry is not valid. -/
def recipeOctets : Option Recipe → Octets
  | none => List.replicate 12 0
  | some r => beOctets 4 r.kHz ++ beOctets 1 r.band ++ [1] ++ beOctets 2 r.mv ++ beOctets 2 (unsigned 16 r.temperature) ++ beOctets 2 r.uses

/-! ### Enables and source writes (R179, R180, R187, R202) -/

/-- Whether a DPLL's source is usable (R179). -/
def State.dpllSourceOk (s : State) (mode src : Nat) : Bool :=
  if mode = 2 then decide (src ≤ 31) && decide (s.obj (0x3100 + src) 1 = 1) && decide (s.rank src ≠ 0)
  else if mode = 0 then decide (src ≤ 31) else true

/-- A write to a DPLL's enable, mode or source: the value that would stand must be usable (R179). -/
def dpllWriteOk (d sub value : Nat) (s : State) : Bool :=
  let en := if sub = 1 then value else s.will (0x3200 + d) 1
  let mode := if sub = 2 then value else s.will (0x3200 + d) 2
  let src := if sub = 3 then value else s.will (0x3200 + d) 3
  en = 0 || s.dpllSourceOk mode src

/-- A running DPLL takes a new mode or source (R179): acquisition begins again, its phase error absorbed; with no usable reference it holds
over, and one that held over leaves holdover for a usable source (R184). -/
def State.dpllTakes (s : State) (d : Nat) : State :=
  let t := (s.setDpll d { s.dpll d with rebuild := true }).acquire d
  let ok := decide (t.obj (0x3200 + d) 2 = 0) || (match t.tracked d with | none => false | some r => t.usable r)
  if ok then t.dpllResume d else t.dpllHold d

/-- A DPLL's enable, mode or source is in force: it starts, stops or takes its new source (R179, R180). -/
def State.dpllApplied (s : State) (d : Nat) (changed : Bool) : State :=
  let on := decide (s.obj (0x3200 + d) 1 = 1)
  if on ∧ !(s.dpll d).running then s.dpllStart d
  else if !on ∧ (s.dpll d).running then s.setDpll d {}
  else if on && changed then s.dpllTakes d else s

/-- Whether an enabled output PLL selects the DPLL: its frequency is then read-only (R187). -/
def State.dcoOwned (s : State) (d : Nat) : Bool :=
  (List.range 4).any fun o => decide (s.obj (0x3210 + o) 1 = 1) && decide (s.obj (0x3210 + o) 2 = d)

end Sys2Proof.Machine
end

