-- ==== Sys2Proof/Machine/Developer.lean ====
section
/-! DEFINITION. Meanings of the Developer's steps and of registration (R149 to R175). -/

namespace Sys2Proof.Machine

/-! ### Plan steps of the Developer (R149, R151, R166) -/

/-- The Developer core can work: not held, not being re-initialised, not stopped by the watchdog. -/
def State.devReady (s : State) : Bool :=
  s.dev.ready && !s.lineNotReady 133 && !s.boot.reinit.contains 0x0900 && !bit (s.obj 0x2F22 3) 0

/-- A missed update (R31, R166): counted and reported; the table in force stays and its bound grows. -/
def State.missUpdate (s : State) : State :=
  let t := ((s.skip 133).bump 0x2400 9).emcy 0xFF3B s.twin.active (s.clock.exposure * 2 ^ 16)
  { t with boot := { t.boot with missedUpdates := t.boot.missedUpdates + 1 } }

/-- FAST_TERM_UPDATE (R149, R293): the update, then every instance's service bound. -/
def execFastTermUpdate (s : State) : Host.Outcome State Fault Refusal :=
  .next (s.whenServing fun s => match s.stepNow 5 0 0x40 with
    | none => s
    | some _ =>
      if s.devReady then
        let t := s.fastUpdate.judgeAll
        { t with boot := { t.boot with missedUpdates := 0 } }
      else s.missUpdate)

/-- ENSEMBLE_PART (R151). -/
def execEnsemblePart (s : State) : Host.Outcome State Fault Refusal :=
  .next (s.whenServing fun s => match s.stepNow 5 0 0x41 with
    | none => s
    | some _ => if s.devReady then { s with dev := { s.dev with parts := s.dev.parts + 1 } } else s.skip 133)

/-! ### Registration commands (R171, R174) -/

/-- The time base that 0x2403.03 names. -/
def State.regBase (s : State) : Nat := s.obj 0x2403 3

/-- A step is scheduled or a slow slew runs. -/
def Steer.busy (x : Steer) : Bool := decide (x.reg = 2) || decide (x.reg = 3)

/-- A time base that can be registered: unregistered, with a reference of kind 2 or 3 in force or a source reference. -/
def State.registrable (s : State) (n : Nat) : Bool :=
  decide ((s.steer n).reg = 1) && (if n = 0 then (match s.inForce with | none => false | some r => decide (s.refKind r ≠ 1))
    else (s.base n).steered && decide (s.obj 0x2404 n ≠ 0))

def State.setReg (s : State) (n reg : Nat) : State :=
  if n = 0 then s.putSteer0 { s.steer 0 with reg := reg } else s.setSteer n { s.steer n with reg := reg }

/-- The reel of a step of time base 0: deferred past a scheduled plan swap (R172). -/
def State.deferStep (s : State) (second : Nat) : Nat := if s.plans.status = 5 ∧ s.plans.swapReel = second then second + 1 else second

/-- Registration command 0x01 (R171). -/
def registrationStepOp (s : State) : Except Nat State :=
  let n := s.regBase
  if (s.steer n).busy then .error 0x0A1E002B
  else if !s.registrable n then .error 0x0A1E002A
  else if n = 0 then
    let want := s.obj 0x2403 2
    let least := s.nextReelSecond + 1
    if want ≠ 0 ∧ want < least then .error 0x0A1E002A
    else
      let t := s.deferStep (if want = 0 then least else want)
      .ok ((({ s with dev := { s.dev with target := some t } }).setObj 0x2403 2 t).setReg 0 3)
  else .ok (s.setSteer n { s.steer n with reg := 3, pendStep := true })

/-- REGISTRATION_STEP (R171). -/
def execRegistrationStep (t : Transport) (s : State) : Host.Outcome State Fault Refusal := .next (s.command t 0x2403 1 registrationStepOp)

/-- Registration command 0x02 (R174). -/
def slowSlewOp (s : State) : Except Nat State :=
  let n := s.regBase
  if (s.steer n).busy then .error 0x0A1E002B
  else if !s.registrable n then .error 0x0A1E002A
  else .ok (s.setReg n 2)

/-- SLOW_SLEW (R174). -/
def execSlowSlew (t : Transport) (s : State) : Host.Outcome State Fault Refusal := .next (s.command t 0x2403 1 slowSlewOp)

/-- Registration command 0x03 (R171): until the latch. -/
def registrationCancelOp (s : State) : Except Nat State :=
  let n := s.regBase
  match (s.steer n).reg with
  | 2 => .ok (s.setReg n 1)
  | 3 =>
    if n ≠ 0 then .ok (s.setSteer n { s.steer n with reg := 1, pendStep := false })
    else if s.dev.latch.isSome || (decide (s.clock.exposure = 999) && decide (s.dev.target = some s.nextReelSecond)) then .error 0x0A1E002B
    else .ok (({ s with dev := { s.dev with target := none } }).setReg 0 1)
  | _ => .ok s

/-- REGISTRATION_CANCEL (R171). -/
def execRegistrationCancel (t : Transport) (s : State) : Host.Outcome State Fault Refusal := .next (s.command t 0x2403 1 registrationCancelOp)

/-! ### The step of time base 0 (R172, R173) -/

/-- REGISTRATION_LATCH (Table 6.5): at cycle 0 of exposure 999 before the target reel; a swap for that reel defers the step. -/
def execRegistrationLatch (s : State) : Host.Outcome State Fault Refusal :=
  .next (s.whenServing fun s => match s.dev.target with
    | none => s
    | some t =>
      if !s.atStartOf 999 ∨ t ≠ s.nextReelSecond ∨ s.dev.latch.isSome then s
      else
        let u := s.deferStep t
        if u ≠ t then ({ s with dev := { s.dev with target := some u } }).setObj 0x2403 2 u
        else { s with dev := { s.dev with latch := some (splitOffset (s.steer 0).xhat) } })

/-- A loupe after a step of time base 0 by −`ps` (R173): its phases advance by the step, and its last timestamp falls back with the
counter. -/
def Loupe.shift (l : Loupe) (ps : Int) : Loupe :=
  { l with x := l.x + ps, meas := l.meas.map fun m => (m.1, m.2 + ps), samples := l.samples.map (· + ps),
           xAt := l.xAt - psTo32 ps, mark := l.mark.map fun m => (m.1 - psTo32 ps, m.2 + ps), stamp := l.stamp.map (· - psTo32 ps) }

/-- Every loupe moves by a step of time base 0. -/
def State.shiftLoupes (s : State) (ps : Int) : State :=
  s.refs.loupes.keys.foldl (fun (s : State) r => s.setLoupe r ((s.loupe r).shift ps)) s

/-- A step that is to be made at the reel boundary that is due. -/
def State.gateDue (s : State) : Bool := s.clock.reelDue && s.clock.exposureDue && s.dev.latch.isSome && s.dev.target.isSome && !s.time.gate

/-- A registration gate, or a step whose gate is to come first, keeps the work of cycle 0 waiting: *T* is the first cycle after the gate
(Table 6.5). -/
def State.gateAhead (s : State) : Bool := s.time.gate || s.gateDue

/-- The time bases steered to a reference will measure the gate (R173). -/
def State.markGated (s : State) : State :=
  s.steeredBases.foldl (fun (s : State) n => s.setSteer n { s.steer n with gated := true }) s

/-- The gate starts (Table 6.5): the re-label by −n s, and a service gap. -/
def State.startGate0 (s : State) : State :=
  let (n, q, r) := splitOffset (s.steer 0).xhat
  let b := s.base 0
  let v : Int := (b.value : Int) - n * secondUnit
  let t := (s.setBase 0 { b with value := (v % (reach : Int)).toNat }).firePassed 0
  let u := ((t.shiftLoupes (stepPs n q)).markGated).openGap
  { u with time := { u.time with gate := true }, dev := { u.dev with latch := some (n, q, r) },
           gnss := { u.gnss with trackBroken := true },
           twin := { u.twin with gateGap := true, gateNs := u.twin.gateNs + q * 256 } }

/-- GATE_START (R173): between the last cycle of a reel and the first of the target reel. -/
def execGateStart (s : State) : Host.Outcome State Fault Refusal :=
  .next (s.whenServing fun s => if s.gateDue then s.startGate0 else s)

/-- Every port that is up or in hold enters calibration hold. -/
def State.holdAll (s : State) : State :=
  (List.range 24).foldl (fun (s : State) n =>
    if (s.port n).link = 4 ∨ (s.port n).link = 5 then s.startHold n else s) s

/-- The gate ends: the residual stays to be steered out, and the time base is registered. -/
def State.endGate0 (s : State) : State :=
  match s.dev.latch with
  | none => s
  | some (_, q, r) =>
    let t := ({ s with time := { s.time with gate := false }, dev := { s.dev with target := none } } : State).runDcosOn (q * 256)
    let x := t.steer 0
    (((t.putSteer0 { x with xhat := r, xref := r, xcmp := r, accRef := x.accAt t.now, reg := 0 }).holdAll).regrid 0).misalign 0

/-- GATE_RELEASE (R173). -/
def execGateRelease (s : State) : Host.Outcome State Fault Refusal :=
  .next (s.whenServing fun s => if s.time.gate then s.endGate0 else s)

/-- REGISTRATION_COMPLETE (R173, R175): the step's figures, one exposure after *T*. -/
def execRegistrationComplete (s : State) : Host.Outcome State Fault Refusal :=
  .next (s.whenServing fun s => match s.dev.latch with
    | none => s
    | some (n, q, _) =>
      if s.time.gate ∨ s.dev.target.isSome ∨ !s.atStartOf 1 then s
      else
        let x := stepPs n q
        let t := (((s.setObj 0x2403 4 (satPs x)).setObj 0x2403 5 q).bump 0x2403 6).setObj 0x2403 7 (wholeSeconds x)
        ({ t with dev := { t.dev with latch := none } }).emcy 0xFF3A t.twin.active q)

/-- A step of time base n ≥ 1 at cycle 0 of an exposure (R174). DESIGN CHOICE: it counts as a step in 0x3000+n.07, the re-label of time base
0 does not, the spec names neither (log 84). -/
def State.applySteered (s : State) (n : Nat) : State :=
  let x := s.steer n
  if !x.pendStep then s
  else
    let t := (s.setBase n { s.base n with value := adjusted (s.base n).value (.step (-x.xhat)) }).bump (0x3000 + n) 7
    t.setSteer n { x with xhat := 0, xcmp := 0, reg := 0, pendStep := false }

/-- The time bases that a set, a step or a registration step moves at this cycle 0. -/
def State.movedBases (s : State) : List Nat := (List.range 32).filter fun n => (s.base n).adjust.isSome || (s.steer n).pendStep

/-- The gap of a registration closes when no port is in calibration hold (R173). -/
def State.closeGateGap (s : State) : State :=
  if s.twin.gateGap && !s.time.gate && (List.range 24).all fun n => (s.port n).holdSince.isNone then
    ({ s with twin := { s.twin with gateGap := false } } : State).closeGap
  else s

end Sys2Proof.Machine
end

