-- ==== Sys2Proof/Machine/Gnss.lean ====
section
/-! DEFINITION. GNSS: the time solution and its checks, snapshots and common-view tracks (R221 to R237). -/

namespace Sys2Proof.Machine

/-! ### The time solution (R221, R223) -/

/-- The mode in which a system's offset is treated (R223): Galileo, BeiDou and QZSS have one each. DESIGN CHOICE: GPS beside another
primary system has no mode of its own and is estimated (log 90). -/
def State.systemMode (s : State) (p sys : Nat) : Nat :=
  if sys = 0 then 0 else field (s.objW p 0x2606 0x0B) (2 * sys - 1) (2 * sys - 2)

/-- The offset of a non-primary system held rather than estimated, ps: as broadcast, or as the host wrote it; none where it is estimated. -/
def State.heldOffset (s : State) (p sys : Nat) : Option Int :=
  match s.systemMode p sys with
  | 1 => Config.systemOffset s.gnss.navigation (s.obj 0x2600 6) sys
  | 2 => some (s.objWI p 0x2606 (7 + sys))
  | _ => none

/-- The systems of a list of observations other than the primary. -/
def State.otherSystems (s : State) (l : List SatObs) : List Nat :=
  [0, 1, 2, 3].filter fun k => decide (k ≠ s.obj 0x2600 6) && l.any fun o => decide (systemOf o.signal = k)

/-- Those whose offset is estimated. -/
def State.estimatedSystems (s : State) (p : Nat) (l : List SatObs) : List Nat :=
  (s.otherSystems l).filter fun k => (s.heldOffset p k).isNone

/-- A port in survey mode (R225). -/
def State.surveying (s : State) (p : Nat) : Bool := decide (s.obj (0x2603 + p) 0x0D = 0)

/-- The unknowns of a solution (R221). -/
def State.unknowns (s : State) (p : Nat) (l : List SatObs) : Nat :=
  1 + (s.estimatedSystems p l).length + (if s.surveying p then 3 else 0)

/-- A measurement that is synchronised and not excluded. -/
def GnssMeas.used (s : State) (m : GnssMeas) : Bool := decide ((s.gnssChannel m.channel).state = 4) && bit m.flags 7

/-- The measurements of a port at the latch. -/
def State.measOf (s : State) (p : Nat) : List GnssMeas := s.gnss.latched.filter fun m => decide (m.port = p)

/-- The lower-band measurement of the same satellite. -/
def State.lowerOf (s : State) (m : GnssMeas) : Option GnssMeas :=
  (s.measOf m.port).find? fun k => decide (k.signal = m.signal + 1 ∧ k.satellite = m.satellite) && k.used s

/-- The model of a satellite at its transmit time (R221). -/
def State.modelOf (s : State) (m : GnssMeas) : Option SatModel :=
  if s.gnss.navigation.isEmpty then none else Config.satModel s.gnss.navigation m.signal m.satellite (s.antenna m.port) m.transmit

/-- *ρ* of two bands, ionosphere-free (R221). -/
def ionoFree (upper lower : Int) : Int := roundDivI (22606 * upper - 12606 * lower) 10000

/-- *ρ* of a satellite less its ionosphere, and whether it is ionosphere-free (R221). -/
def State.rhoOf (s : State) (m : GnssMeas) (k : SatModel) : Int × Bool :=
  match s.lowerOf m with
  | some l => (ionoFree m.rho l.rho, true)
  | none => (m.rho - k.iono, false)

/-- The observation of an upper-band measurement: none below the mask or without a model (R221, R223). -/
def State.observeSat (s : State) (m : GnssMeas) : Option SatObs :=
  match s.modelOf m with
  | none => none
  | some k =>
    if k.elevation < s.obj 0x2600 4 then none
    else
      let (rho, free) := s.rhoOf m k
      let sys := systemOf m.signal
      let off := if sys = s.obj 0x2600 6 then 0 else (s.heldOffset m.port sys).getD 0 * 1000
      some ⟨m.signal, m.satellite, rho - k.range - k.tropo - k.clock + k.rel + off, free, m.cn0, k.elevation⟩

/-- *m*: the satellites synchronised and not excluded, on their upper-band signal, at or above the mask. -/
def State.observations (s : State) (p : Nat) : List SatObs :=
  ((s.measOf p).filter fun m => !lowerBand m.signal && m.used s).filterMap s.observeSat

/-- One satellite is excluded by a test (R227): its channels on the port, EMCY 0xFF52; test 0x03 excludes the lower band alone. -/
def State.excludeSatellite (s : State) (p sig sat test : Nat) : State :=
  let s1 := s.gnssUsed.foldl (fun s c =>
    let x := s.gnssChannel c
    let hit := decide (x.port = p ∧ x.satellite = sat ∧ systemOf x.signal = systemOf sig) && (decide (test ≠ 3) || lowerBand x.signal)
    let issue := ((s.satNow p x.signal sat).map SatModel.issue).getD 0
    if hit then s.setGnssChannel c { x with state := 5, since := s.now, test := test, until_ := if test = 4 then 0 else s.clock.reel + 300, issue := issue }
    else s) s
  s1.emcy 0xFF52 s.twin.active (p * 2 ^ 24 + sig * 2 ^ 16 + sat * 2 ^ 8 + test)

/-- The place of the largest residual over a limit. -/
def worst (limit : Nat) (l : List Nat) : Option Nat :=
  (l.zipIdx.foldl (fun (acc : Nat × Option Nat) e => if acc.1 < e.1 then (e.1, some e.2) else acc) (limit, none)).2

/-- The least squares of a list of observations. -/
def State.leastSquares (s : State) (p : Nat) (l : List SatObs) : Option Fit := Config.leastSquares (s.surveying p) (s.estimatedSystems p l) l

/-- The solution repeated while a satellite's normalised residual exceeds the satellite residual limit, or 3σ if larger: that satellite,
the largest first, is excluded by test 0x01 (R221, R227). `drop` is what an exclusion does. -/
def State.solveWith (drop : State → SatObs → State) (p : Nat) : Nat → State → List SatObs → State × Option (Fit × List SatObs)
  | 0, s, _ => (s, none)
  | n + 1, s, l =>
    match s.leastSquares p l with
    | none => (s, none)
    | some f => match worst (Nat.max (s.obj 0x2605 9) (3 * f.rms)) f.residuals with
      | none => (s, some (f, l))
      | some k => match l[k]? with
        | none => (s, some (f, l))
        | some o => State.solveWith drop p n (drop s o) (l.eraseIdx k)

/-- A solution of a latch: none with fewer satellites than its unknowns plus 3 (R221). -/
def State.solve (s : State) (p : Nat) : State × Option (Fit × List SatObs) :=
  let l := s.observations p
  if l.length < s.unknowns p l + 3 then (s, none)
  else State.solveWith (fun s o => s.excludeSatellite p o.signal o.satellite 1) p (l.length + 1) s l

/-- The checks 0x02 to 0x05 on one measurement (Table 8.6): the test that fails, if one does. -/
def State.satelliteTest (s : State) (m : GnssMeas) : Option Nat :=
  let low := s.lowerOf m
  if s.obj 0x2605 0x0A < m.cn0 then some 2
  else if (!lowerBand m.signal && (match low with
    | none => false
    | some l => decide (m.rho - l.rho < 0 ∨ 150000000 < m.rho - l.rho))) = true then some 3
  else if s.navOk m = false then some 4
  else if 20000 < m.divergence.natAbs then some 5
  else none

/-- Checks 0x02 to 0x05 of a port's latch, in order; answers how many satellites they exclude. -/
def State.satelliteTests (s : State) (p : Nat) : State × Nat :=
  [2, 3, 4, 5].foldl (fun (acc : State × Nat) test => ((acc.1.measOf p).filter fun m => m.used acc.1).foldl (fun (acc : State × Nat) m =>
    if m.used acc.1 && decide (acc.1.satelliteTest m = some test) then (acc.1.excludeSatellite p m.signal m.satellite test, acc.2 + 1) else acc) acc)
    (s, 0)

/-- *x* in ps (R221): the UTC of the primary system at *t*_L plus *N*, less *t*_L. -/
def State.solutionOffset (s : State) (f : Fit) : Int :=
  roundDivI (-f.bias - Config.utcOffset s.gnss.navigation (s.obj 0x2600 6) s.taiSecond + s.objI 0x2201 1 * 10 ^ 15) 1000

/-- *B*_s and *u*_s of a solution, ps rounded up (R222, Table 8.6a). -/
def State.solutionBound (s : State) (p : Nat) (f : Fit) (l : List SatObs) : Nat × Nat :=
  let cal := s.obj (0x2603 + p) 7 + 20
  let pos := if s.surveying p then 3 * f.sigma else ceilDiv (s.obj (0x2603 + p) 0x0C * 10 ^ 12) 299792458000
  let n := Nat.max 1 l.length
  let meas := Nat.max 100 (sqrtUp (ceilDiv (9 * f.rms * f.rms) n))
  let ion := if l.all SatObs.ionoFree then s.obj 0x2605 0x0C else s.obj 0x2605 0x0B
  let isys := ((s.otherSystems l).filter fun k => (s.heldOffset p k).isSome).length * s.obj 0x2605 0x0F
  let nt := 200 * ((s.gnssPort p).notches.filter fun k => decide (k.2.natAbs ≤ 2000000)).length
  let others := [cal, pos, ion, s.obj 0x2605 0x0D, s.obj 0x2605 0x0E, isys, nt]
  (others.sum + meas, sqrtUp ((others.map fun t => ceilDiv (t * t) 3).sum + ceilDiv (meas * meas) 9))

/-! ### Reference checks (R227 to R230) -/

/-- The ensemble test's *D* over the window, if the history reaches back (R228). -/
def State.ensembleD (s : State) (p : Nat) (x : Int) : Option Int :=
  let w := s.obj 0x2605 3
  match (s.gnssPort p).history.find? fun h => decide (h.1 + w ≤ s.clock.reel) with
  | none => none
  | some h => some (x - h.2 + roundDivI (s.gnss.drift.take w).sum 1000000)

/-- The change of *x* predicted since the last solution (test 0x11). DESIGN CHOICE: what the ensemble without GNSS and the steering words
of the reels between give, the sum of R228, since the spec does not say how it is predicted (log 90). -/
def State.predictedChange (s : State) (p : Nat) : Int :=
  -roundDivI (s.gnss.drift.take (s.clock.reel - (s.gnssPort p).lastReel)).sum 1000000

/-- The failing reference tests of a solution, in order, with the magnitude in ps (Table 8.6). `failed`: satellites excluded at this
latch, `inView`: those measured. -/
def State.referenceTests (s : State) (p : Nat) (x : Int) (failed inView : Nat) : List (Nat × Nat) :=
  let o := s.gnssPort (1 - p)
  let t11 := match (s.gnssPort p).last with
    | none => []
    | some y =>
      let d := (x - y - s.predictedChange p).natAbs
      if s.obj 0x2605 1 < d then [(0x11, d)] else []
  let run := (s.gnssRefs p).any fun r => s.qualified r && decide (s.obj 0x2605 3 * 1000000000 ≤ s.now - (s.loupe r).since)
  let h := 3 * ceilDiv (s.growDet 0 (s.obj 0x2605 3 * 1000000000) + s.growNoise (s.obj 0x2605 3 * 1000000000)) psUnit
  let t12 := match s.ensembleD p x with
    | none => []
    | some d => if run = true ∧ Nat.max (s.obj 0x2605 2) h < d.natAbs then [(0x12, d.natAbs)] else []
  let t13 := match o.last with
    | some y => if o.lastReel = s.clock.reel ∧ s.obj 0x2605 4 < (x - y).natAbs then [(0x13, (x - y).natAbs)] else []
    | none => []
  let t14 := match Config.broadcastLeap s.gnss.navigation (s.obj 0x2600 6) with
    | none => []
    | some n => if n ≠ s.objI 0x2201 1 - labelOffset (s.obj 0x2600 6) then [(0x14, 0)] else []
  let t15 := if inView < 2 * failed then [(0x15, 0)] else []
  t11 ++ t12 ++ t13 ++ t14 ++ t15

/-- A solution state of a port changes (EMCY 0xFF51). -/
def State.solutionState (s : State) (p st used : Nat) : State :=
  let x := s.gnssPort p
  if x.solution = st then s
  else (s.setGnssPort p { x with solution := st }).emcy 0xFF51 s.twin.active (p * 2 ^ 24 + st * 2 ^ 16 + Nat.min used 255 * 2 ^ 8)

/-- A reference exclusion of a port (R229, R230, R233). -/
def State.excludePort (s : State) (p : Nat) (tests : List (Nat × Nat)) : State :=
  match tests with
  | [] => s
  | (t, m) :: _ =>
    let x := s.gnssPort p
    let mask := maskOf (tests.map fun k => k.1 - 0x11)
    let inForce := match s.inForce with | none => false | some r => (s.gnssRefs p).contains r
    let s1 := s.setGnssPort p { x with excluded := x.excluded ||| mask, passes := 0 }
    let s2 := if inForce = true ∧ (t = 0x11 ∨ t = 0x12) then
        s1.setSteer 0 { s1.steer 0 with carried := (s1.steer 0).carried + m * psUnit }
      else s1
    let s3 := (s2.gnssRefs p).foldl (fun s r => s.exclude r 9) s2
    let s4 := (s3.solutionState p 3 0).emcy 0xFF53 s3.twin.active (p * 2 ^ 24 + t * 2 ^ 16 + Nat.min (m / 1000) 0xFFFF)
    let s5 := s4.setObj 0x2605 7 ((s4.gnssPort 0).excluded % 256 + 256 * ((s4.gnssPort 1).excluded % 256) : Nat)
    if s5.obj 0x2605 8 = 1 ∧ s5.gnss.film = 0 ∧ s5.gnss.armPend = none then s5.armFilm p 20 0 else s5

/-- An exclusion of a port ends (R229): its references enter Qualifying. -/
def State.clearPort (s : State) (p : Nat) : State :=
  let s1 := s.setGnssPort p { s.gnssPort p with excluded := 0, passes := 0 }
  let s2 := s1.setObj 0x2605 7 ((s1.gnssPort 0).excluded % 256 + 256 * ((s1.gnssPort 1).excluded % 256) : Nat)
  (s2.gnssRefs p).foldl (fun s r => if (s.loupe r).disq = 9 then s.endExclusion r else s) s2

/-! ### Delivery (R221) -/

/-- A solution reaches the loupes of the port's references with its bound (R221, R222). -/
def State.deliverSolution (s : State) (p : Nat) (x : Int) (b u : Nat) : State :=
  (s.gnssRefs p).foldl (fun s r =>
    (s.setLoupe r { s.loupe r with srcBound := b, srcUnc := u }).measured r (x - s.objI (0x3100 + r) 9)) s

/-- The satellites used by system, as 0x2606.06. -/
def usedWord (l : List SatObs) : Nat :=
  [0, 1, 2, 3].foldl (fun w k => w * 256 + Nat.min 255 (l.filter fun (r : SatObs) => decide (systemOf r.signal = k)).length) 0

/-- The offset of a system in use (0x2606.08 to .0A): held, or estimated by the fit. -/
def State.offsetInUse (s : State) (p : Nat) (f : Fit) (sys : Nat) : Int :=
  match s.heldOffset p sys with
  | some o => o
  | none => ((f.offsets.find? fun e => decide (e.1 = sys)).map Prod.snd).getD 0

/-- A solution is reported in 0x2606 for its port. -/
def State.reportSolution (s : State) (p : Nat) (x : Int) (b u : Nat) (f : Fit) (l : List SatObs) : State :=
  let put (s : State) (sub : Nat) (v : Int) : State := s.setObjW p 0x2606 sub v
  let t := put (put (put (put (put (put s 3 (satPs x)) 4 b) 5 u) 6 (usedWord l)) 7 (Nat.min f.tdop 0xFFFF)) 0x0D (wholeSeconds x)
  ([1, 2, 3].foldl (fun (t : State) k => put t (7 + k) (clampI (-(2 ^ 31)) (2 ^ 31 - 1) (s.offsetInUse p f k))) t).bumpW p 0x2606 0x0C

/-- A latch without a solution (R221, R131): two in a row lose the references. -/
def State.noSolution (s : State) (p : Nat) : State :=
  (s.gnssRefs p).foldl (fun s r =>
    let n := (s.loupe r).misses + 1
    let t := s.setLoupe r { s.loupe r with misses := n }
    if 2 ≤ n then t.refLost r 1 else t) (s.solutionState p 0 0)

/-- A solution in survey mode joins the mean position (R225). -/
def State.surveyPoint (s : State) (p : Nat) (f : Fit) : State :=
  if !s.surveying p then s
  else
    let g := s.gnssPort p
    let (px, py, pz) := f.position
    let (ax, ay, az) := g.surveySum
    let sq : Nat := g.surveySq + (px * px + py * py + pz * pz).toNat
    s.setGnssPort p { g with surveyN := g.surveyN + 1, surveySum := (ax + px, ay + py, az + pz), surveySq := sq }

/-- A solution of a latch that was formed: the reference checks, then its delivery (R227 to R229). -/
def State.checkSolution (s : State) (p : Nat) (f : Fit) (l : List SatObs) (failed inView : Nat) : State :=
  let x := s.solutionOffset f
  let tests := s.referenceTests p x failed inView
  let bound := s.solutionBound p f l
  let q := s.gnssPort p
  let q1 : GnssPort := { q with last := some x, lastReel := s.clock.reel, history := ((s.clock.reel, x) :: q.history).take 86401 }
  let s2 := (s.setGnssPort p q1).reportSolution p x bound.1 bound.2 f l
  if tests ≠ [] then
    let s3 := s2.excludePort p tests
    if tests.any fun k => k.1 = 0x13 then s3.excludePort (1 - p) (tests.filter fun k => k.1 = 0x13) else s3
  else if (s2.gnssPort p).excluded ≠ 0 then
    let n := (s2.gnssPort p).passes + 1
    let s3 := s2.setGnssPort p { s2.gnssPort p with passes := n }
    if s3.obj 0x2605 5 = 1 ∧ 3600 ≤ n then s3.clearPort p else s3
  else ((s2.surveyPoint p f).solutionState p (if s2.surveying p then 1 else 2) l.length).deliverSolution p x bound.1 bound.2

/-- The satellites of a port measured at the latch, and those of them that the checks of this latch have excluded since (test 0x15). -/
def State.inView (s : State) (p : Nat) : Nat := ((s.measOf p).filter fun m => !lowerBand m.signal).length
def State.goneSince (s t : State) (p : Nat) : Nat := ((s.measOf p).filter fun m => !lowerBand m.signal && m.used s && !m.used t).length

/-- The time solution of a port's latch (R221, R227): solved with check 0x01, checks 0x02 to 0x05, solved again without what these
exclude, checked and delivered. -/
def State.portSolution (s : State) (p : Nat) : State :=
  let first := s.solve p
  let tests := first.1.satelliteTests p
  let again := if tests.2 = 0 then (tests.1, first.2) else tests.1.solve p
  match again.2 with
  | none => again.1.noSolution p
  | some (f, l) => again.1.checkSolution p f l (s.goneSince again.1 p) (s.inView p)

/-- SOLUTION_DELIVERY (R221): once at cycle 0 of exposure 100 of the reel. -/
def execSolutionDelivery (p : Nat) (s : State) : Host.Outcome State Fault Refusal :=
  .next (s.whenServing fun s =>
    if s.gnssMode p 1 && (s.gnssPort p).solveDue && decide (s.clock.exposure = 100 ∧ s.clock.cycle = 0) && !s.clock.exposureDue then
      (s.setGnssPort p { s.gnssPort p with solveDue := false }).portSolution p
    else s)

/-- Exclusions of the ports named are cleared (R229). -/
def clearExclusionOp (mask : Nat) (s : State) : Except Nat State :=
  if (bitsSet mask 8).any fun p => decide (1 < p) || decide ((s.gnssPort p).excluded = 0) then .error 0x0A1E0066
  else .ok ((bitsSet mask 2).foldl State.clearPort s)

/-- CLEAR_EXCLUSION (R229). -/
def execClearExclusion (t : Transport) (mask : Nat) (s : State) : Host.Outcome State Fault Refusal :=
  .next (s.command t 0x2605 6 (clearExclusionOp mask))

/-- SURVEY_COMPLETE (R225): at the end of the survey duration the mean position, the 3σ radius, position mode 1. -/
def State.surveyComplete (s : State) (p : Nat) : State :=
  let g := s.gnssPort p
  let n := g.surveyN
  if s.obj (0x2603 + p) 0x0D ≠ 0 ∨ n = 0 ∨ s.obj (0x2603 + p) 0x0F < s.obj (0x2603 + p) 0x0E then s
  else
    let (x, y, z) := g.surveySum
    let var := ((n * g.surveySq : Nat) - (x * x + y * y + z * z) : Int).toNat / (n * n)
    let r := Nat.min (sqrtUp (9 * var)) 0xFFFFFFFF
    let put (s : State) (sub : Nat) (v : Int) : State := s.takeEffect (okey 0 0 (0x2603 + p) sub) v
    let s1 := put (put (put (put (put s 9 (roundDivI x n)) 0x0A (roundDivI y n)) 0x0B (roundDivI z n)) 0x0C r) 0x0D 1
    (s1.setGnssPort p { g with surveyN := 0, surveySum := (0, 0, 0), surveySq := 0 }).emcy 0xFF57 s1.twin.active
      (p * 2 ^ 24 + Nat.min (r / 1000) 255 * 2 ^ 16)

def execSurveyComplete (p : Nat) (s : State) : Host.Outcome State Fault Refusal :=
  .next (s.whenServing fun s => s.surveyComplete p)

/-- A write of a position or its bound (R225): a length of 6,300 km to 6,400 km, and no survey running. -/
def State.positionOk (s : State) (p sub : Nat) (v : Int) : Bool :=
  let c (k : Nat) : Int := if k = sub then v else s.willI (0x2603 + p) k
  let q := c 9 * c 9 + c 0x0A * c 0x0A + c 0x0B * c 0x0B
  decide (s.obj (0x2603 + p) 0x0D = 1) && (decide (sub = 0x0C) || (decide (6300000000 * 6300000000 ≤ q) && decide (q ≤ 6400000000 * 6400000000)))

/-! ### Snapshots (R231 to R234) -/

/-- The checks that every snapshot command makes (R233). -/
def snapshotOp (fits : State → Bool) (f : State → State) (s : State) : Except Nat State :=
  if s.obj 0x2010 1 = 0 then .error 0x0A1E0060
  else if fits s then .ok (f s) else .error 0x0A1E0062

def snapshotArmOp : State → Except Nat State :=
  snapshotOp (fun s => decide (s.gnss.film = 0) && s.gnss.armPend.isNone) fun s => s.armFilm (s.obj 0x260A 1) (s.obj 0x260A 2) (s.obj 0x260A 3)
def snapshotCancelOp : State → Except Nat State :=
  snapshotOp (fun s => decide (s.gnss.film = 1) || s.gnss.armPend.isSome) fun s =>
    { s with gnss := { s.gnss with film := 0, armAt := none, armPend := none } }
def snapshotProcessOp : State → Except Nat State :=
  snapshotOp (fun s => decide (s.gnss.film = 3)) fun s => { s with gnss := { s.gnss with film := 4 } }
def snapshotReleaseOp : State → Except Nat State :=
  snapshotOp (fun s => decide (s.gnss.film = 3 ∨ s.gnss.film = 5)) fun s => { s with gnss := { s.gnss with film := 0, data := [] } }

def execSnapshotArm (t : Transport) (s : State) : Host.Outcome State Fault Refusal := .next (s.command t 0x260A 4 snapshotArmOp)
def execSnapshotCancel (t : Transport) (s : State) : Host.Outcome State Fault Refusal := .next (s.command t 0x260A 4 snapshotCancelOp)
def execSnapshotProcess (t : Transport) (s : State) : Host.Outcome State Fault Refusal := .next (s.command t 0x260A 4 snapshotProcessOp)
def execSnapshotRelease (t : Transport) (s : State) : Host.Outcome State Fault Refusal := .next (s.command t 0x260A 4 snapshotReleaseOp)

/-- An armed snapshot starts at the reel of its second, or at the next reel (R233). -/
def State.startSnapshot (s : State) : State :=
  match s.gnss.armAt with
  | none => s
  | some t => if s.gnss.film = 1 ∧ t ≤ s.taiSecond then
      { s with gnss := { s.gnss with film := 2, armAt := none, filmFrom := s.now, filmStart := s.base32 0, data := [] } } else s

/-- SNAPSHOT_CAPTURED (R231, R232): the capture has run its length and the film holds it. -/
def execSnapshotCaptured (s : State) : Host.Outcome State Fault Refusal :=
  .next (s.whenServing fun s =>
    if s.gnss.film = 2 ∧ s.gnss.filmFrom + s.gnss.filmMs * 1000000 ≤ s.now then
      ({ s with gnss := { s.gnss with film := 3 } }).emcy 0xFF55 s.twin.active (s.gnss.filmPort * 2 ^ 24 + 3 * 2 ^ 16)
    else s)

/-- The film's first sample instant in fs (R231). -/
def State.filmFs (s : State) : Int := roundDivI ((ofTime112 (beNat (s.gnss.data.take 14)) : Int) * 1000000) (2 ^ 60)

/-- What the film gives of a signal of a satellite (R233): a measurement at the film's first sample. -/
def State.filmMeas (s : State) (p sig sat : Nat) : Option GnssMeas :=
  match Config.snapshotTransmit s.gnss.data s.gnss.navigation sig sat s.tai with
  | none => none
  | some tx => some { channel := 0, signal := sig, satellite := sat, port := p, flags := 128, transmit := tx,
                      rho := s.filmFs - s.bandDelay p (lowerBand sig) - tx, carrier := 0, doppler := 0, cn0 := 0, lockTime := 0, issue := 0,
                      multipath := 0, divergence := 0 }

/-- The observations of a snapshot: every satellite usable whose code phase the film gives, ionosphere-free with both bands. -/
def State.filmObservations (s : State) (p : Nat) : List SatObs :=
  systemCodes.flatMap fun k => (List.range k.2).filterMap fun n =>
    if !s.satelliteUsable (upperSignal k.1) (n + 1) then none
    else match s.filmMeas p (upperSignal k.1) (n + 1) with
      | none => none
      | some m => match s.modelOf m, s.observeSat m, s.filmMeas p (upperSignal k.1 + 1) (n + 1) with
        | some d, some o, some l => some { o with rho := o.rho - (s.rhoOf m d).1 + ionoFree m.rho l.rho, ionoFree := true }
        | _, o, _ => o

/-- SNAPSHOT_PROCESSED (R233): the time solution of the film by R221 is reported in 0x2606 with state 4, to the host alone (R234). -/
def execSnapshotProcessed (s : State) : Host.Outcome State Fault Refusal :=
  .next (s.whenServing fun s =>
    if s.gnss.film = 4 then
      let p := s.gnss.filmPort
      let s1 : State := { s with gnss := { s.gnss with film := 5 } }
      let l := s1.filmObservations p
      let s2 := if l.length < s1.unknowns p l + 3 then s1
        else match (State.solveWith (fun s _ => s) p (l.length + 1) s1 l).2 with
          | none => s1
          | some (f, k) =>
            let (b, u) := s1.solutionBound p f k
            (s1.reportSolution p (s1.solutionOffset f) b u f k).solutionState p 4 k.length
      s2.emcy 0xFF55 s2.twin.active (p * 2 ^ 24 + 5 * 2 ^ 16)
    else s)

/-! ### Common-view tracks (R235 to R237) -/

/-- Length of a track, s. -/
def trackLength : Nat := 780

/-- The first minute of the tracks of a Modified Julian Date (R235). -/
def trackMinute (mjd : Nat) : Nat := ((2 - 4 * ((mjd : Int) - 50722)) % 16).toNat

/-- The UTC second of the stepped view of time base 0. -/
def State.utcSecond (s : State) : Nat := ((s.view 1 (s.base32 0)) / second32).toNat

/-- A track starts at a UTC second (R235). -/
def startsTrack (utc : Nat) : Bool :=
  let m0 := trackMinute (40587 + utc / 86400)
  let min := utc % 86400 / 60
  decide (utc % 60 = 0) && decide (m0 ≤ min) && decide ((min - m0) % 16 = 0) && decide ((min - m0) / 16 ≤ 88)

/-- The TAI second of the next track (R235). -/
def State.nextTrack (s : State) : Nat :=
  let utc := s.utcSecond
  let mjd := 40587 + utc / 86400
  let day := utc / 86400 * 86400
  let min := utc % 86400 / 60
  let m0 := trackMinute mjd
  let j := if min < m0 then 0 else (min - m0) / 16 + 1
  let sec := if j ≤ 88 then day + (m0 + 16 * j) * 60 else day + 86400 + trackMinute (mjd + 1) * 60
  if s.obj 0x260B 1 = 0 then 0 else ((sec : Int) + s.objI 0x2201 1).toNat

/-- REF less time base 0, fs (R236): the loupe's phase offset of the reference chosen. -/
def State.trackRef (s : State) : Int := match s.obj 0x260B 2 with
  | 0 => 0
  | r + 1 => (s.loupe r).x * 1000

/-- The second of a track that a measurement gives (R236). -/
def State.trackSample (s : State) (m : GnssMeas) : Option TrackSample :=
  if lowerBand m.signal || !m.used s then none
  else match s.modelOf m with
    | none => none
    | some k =>
      let (rho, free) := s.rhoOf m k
      let sv := rho - k.range - k.tropo + k.rel + s.trackRef - labelOffset (systemOf m.signal) * 10 ^ 15
      some { second := s.taiSecond, port := m.port, signal := m.signal, satellite := m.satellite, refsv := sv, refsys := sv - k.clock,
             tropo := k.tropo, iono := if free then m.rho - rho else k.iono, free := free, cn0 := m.cn0, issue := k.issue,
             elevation := k.elevation, azimuth := k.azimuth, notch := bit m.flags 2 }

/-- The latch of a reel joins the track in progress; a track starts on its second (R235, R236). -/
def State.trackReel (s : State) : State :=
  if s.obj 0x260B 1 = 0 then { s with gnss := { s.gnss with track := none, trackData := [] } }
  else
    let a : State := if s.gnss.track = none ∧ startsTrack s.utcSecond = true then
        { s with gnss := { s.gnss with track := some s.taiSecond, trackData := [], trackBroken := false, trackRefBad := false } } else s
    match a.gnss.track with
    | none => a
    | some t =>
      if t + trackLength ≤ a.taiSecond then a
      else
        let bad := match a.obj 0x260B 2 with | 0 => false | r + 1 => !a.qualified r
        { a with gnss := { a.gnss with trackData := a.gnss.latched.filterMap a.trackSample ++ a.gnss.trackData,
                                       trackRefBad := a.gnss.trackRefBad || bad } }

/-- The value at its midpoint of the quadratic fitted to a segment's 30 values (R236): abscissae in half seconds, −29 to 29. -/
def quadraticMid (l : List Int) : Int :=
  let u (k : Nat) : Int := 2 * (k : Int) - (l.length - 1)
  let z := l.zipIdx
  let n : Int := l.length
  let s2 := (z.map fun e => u e.2 ^ 2).sum
  let s4 := (z.map fun e => u e.2 ^ 4).sum
  let y := (z.map Prod.fst).sum
  let uy := (z.map fun e => u e.2 ^ 2 * e.1).sum
  roundDivI (s4 * y - s2 * uy) (n * s4 - s2 * s2).toNat

/-- A linear fit of points (abscissa in half seconds from the track midpoint, value): value at the midpoint, slope per second, RMS of
the residuals rounded to the nearest (R236). -/
def linearMid (l : List (Int × Int)) : Int × Int × Nat :=
  let n : Int := l.length
  let a := (l.map Prod.fst).sum
  let b := (l.map Prod.snd).sum
  let c := (l.map fun e => e.1 * e.1).sum
  let d := (l.map fun e => e.1 * e.2).sum
  let e2 := (l.map fun e => e.2 * e.2).sum
  let den := n * c - a * a
  if den ≤ 0 then (0, 0, 0)
  else
    let sq := (n * e2 - b * b) * den - (n * d - a * b) * (n * d - a * b)
    (roundDivI (c * b - a * d) den.toNat, roundDivI (2 * (n * d - a * b)) den.toNat, sqrtNearest sq.toNat (n * n * den).toNat)

/-- The fits of a track (R236): a quantity's midpoint value, slope and residual over the valid segments. -/
def trackFit (segs : List (Nat × List TrackSample)) (f : TrackSample → Int) : Int × Int × Nat :=
  linearMid (segs.map fun g => (60 * (g.1 : Int) + 29 - 779, quadraticMid (g.2.map f)))

/-- The valid segments of a satellite's samples: those with all 30 values, oldest first. -/
def validSegments (t : Nat) (l : List TrackSample) : List (Nat × List TrackSample) :=
  ((List.range 26).map fun k => (k, l.filter fun x => decide ((x.second - t) / 30 = k))).filter fun g => decide (g.2.length = 30)

/-- fs as ps. -/
def fsToPs (v : Int) : Int := roundDivI v 1000

/-- The record of a satellite's samples, oldest first, without its sequence (Table 8.9). -/
def trackRecord (t : Nat) (bad : Bool) (segs : List (Nat × List TrackSample)) (x : TrackSample) : Octets :=
  let all := segs.flatMap Prod.snd
  let free := all.all TrackSample.free
  let mid := (segs.map fun g => g.2.headD x).getD (segs.length / 2) x
  let sv := trackFit segs TrackSample.refsv
  let sys := trackFit segs TrackSample.refsys
  let tr := trackFit segs TrackSample.tropo
  let io := trackFit segs TrackSample.iono
  let cn0 := (all.map TrackSample.cn0).sum / Nat.max 1 all.length
  let flags := bitNat free + 2 * bitNat (all.any TrackSample.notch) + 4 * bitNat (decide (segs.length < 26)) + 8 * bitNat bad
  [BitVec.ofNat 8 (x.signal + 128 * bitNat free), BitVec.ofNat 8 x.satellite, BitVec.ofNat 8 x.port, BitVec.ofNat 8 segs.length]
    ++ beOctets 6 t ++ beOctets 2 mid.elevation ++ beOctets 2 mid.azimuth ++ beOctets 2 mid.issue
    ++ beOctets 8 (unsigned 64 (fsToPs sv.1)) ++ beOctets 8 (unsigned 64 (fsToPs sys.1)) ++ beOctets 4 (unsigned 32 sv.2.1) ++ beOctets 4 (unsigned 32 sys.2.1)
    ++ beOctets 2 (Nat.min (fsToPs sys.2.2).toNat 0xFFFF) ++ beOctets 2 cn0 ++ beOctets 4 (unsigned 32 (fsToPs tr.1)) ++ beOctets 4 (unsigned 32 (fsToPs io.1))
    ++ beOctets 2 (unsigned 16 tr.2.1) ++ beOctets 2 (unsigned 16 io.2.1) ++ beOctets 2 (if free then Nat.min (fsToPs io.2.2).toNat 0xFFFF else 0)
    ++ beOctets 2 flags ++ [0, 0]

/-- One record enters the FIFO with its sequence, or is dropped and counted; answers whether it was dropped (R237). -/
def State.enterTrack (s : State) (r : Octets) : State × Bool :=
  if 1024 ≤ s.gnss.tracks.length then (s.bump 0x260B 6, true)
  else
    let q := s.gnss.trackSeq % 65536
    ({ s with gnss := { s.gnss with tracks := s.gnss.tracks ++ [(q, r ++ beOctets 2 q)], trackSeq := (q + 1) % 65536 } }, false)

/-- The satellites of a track's samples: port, signal and number, in order of appearance. -/
def trackKeys (l : List TrackSample) : List (Nat × Nat × Nat) :=
  l.foldl (fun acc x => if acc.contains (x.port, x.signal, x.satellite) then acc else acc ++ [(x.port, x.signal, x.satellite)]) []

/-- The records of a track: one for each satellite with 13 valid segments or more (R236). -/
def State.trackRecords (s : State) (t : Nat) : List (Nat × Octets) :=
  let l := s.gnss.trackData.reverse
  (trackKeys l).filterMap fun k =>
    let mine := l.filter fun x => decide (x.port = k.1 ∧ x.signal = k.2.1 ∧ x.satellite = k.2.2)
    let segs := validSegments t mine
    match mine with
    | [] => none
    | x :: _ => if segs.length < 13 then none else some (k.1, trackRecord t s.gnss.trackRefBad segs x)

/-- TRACK_END (R236): 780 s after its start the track's records enter the FIFO; a track that a registration gate broke ends without
records. -/
def execTrackEnd (s : State) : Host.Outcome State Fault Refusal :=
  .next (s.whenServing fun s => match s.gnss.track with
    | none => s
    | some t =>
      if s.taiSecond < t + trackLength ∧ s.gnss.trackBroken = false then s
      else
        let l := if s.gnss.trackBroken then [] else s.trackRecords t
        let (s1, n, p) := l.foldl (fun (acc : State × Nat × Nat) r =>
          let (u, d) := acc.1.enterTrack r.2
          (u, acc.2.1 + bitNat d, if d && decide (acc.2.1 = 0) then r.1 else acc.2.2)) (s, 0, 0)
        let s2 : State := { s1 with gnss := { s1.gnss with track := none, trackData := [], trackBroken := false, trackRefBad := false } }
        if n = 0 then s2 else s2.emcy 0xFF56 s2.twin.active (p * 2 ^ 24 + Nat.min n 255 * 2 ^ 16))

/-- Removal of track records up to sequence `q` (R237). -/
def trackReleaseOp (q : Nat) (s : State) : Except Nat State :=
  match releaseTo Prod.fst q s.gnss.tracks with
  | none => .error 0x0A1E0065
  | some r => .ok { s with gnss := { s.gnss with tracks := r } }

/-- TRACK_FIFO_RELEASE (R237). -/
def execTrackFifoRelease (t : Transport) (seq : Nat) (s : State) : Host.Outcome State Fault Refusal :=
  .next (s.command t 0x260B 4 (trackReleaseOp seq))

/-- A second of a survey that runs counts in .0F (R225). -/
def State.surveyReel (s : State) (p : Nat) : State :=
  if s.gnssMode p 1 && s.surveying p then s.bump (0x2603 + p) 0x0F else s

/-- The frequency of time base 0 against the engine's own clocks with the GNSS references left out (R228): *ŷ*′_osc + *y*_c of the reel. -/
def State.driftNow (s : State) : Int :=
  let others := s.dev.members.filter fun (m : Member) => decide (m.ref = 32) || decide (s.refSource m.ref ≠ 1)
  (weightedMean (capped others)).getD s.yPred + s.dev.ycReel

/-- The GNSS work of a reel boundary (R212, R213, R220, R225, R228, R233, R235). -/
def State.gnssReel (s : State) (lines : List SpectralLine) : State :=
  let s1 := (((s.portStatusReel 0).portStatusReel 1).placeNotches 0 lines).placeNotches 1 lines
  let s2 : State := { s1 with gnss := { s1.gnss with drift := (s1.driftNow :: s1.gnss.drift).take 86400 } }
  ((s2.latchChannels.startSnapshot.trackReel).surveyReel 0).surveyReel 1

end Sys2Proof.Machine
end

