-- ==== Sys2Proof/Machine/Plans.lean ====
section
/-! DEFINITION. Meanings of plan loading, the swap, wakes and sleeps, and thermal shedding (R48, R49, R62 to R71, R467). -/

namespace Sys2Proof.Machine

/-! ### Loading (R62, R63) -/

/-- PLAN_IMAGE_DOWNLOAD: the image waits for its check; a plan checked and waiting is discarded with its swap. A check still in
progress is dropped with its image: DESIGN CHOICE, R62 speaks only of a plan checked and waiting (log 73). An image over the limit is
recorded in 0x2100.03 to .05 (R63). -/
def planDownloadOp (image : Octets) (s : State) : Attempt :=
  if s.plans.latched then (s, some 0x0A1E0043)
  else if 4194304 < image.length then (s.planOversize, some 0x0A1E0031)
  else (({ s with plans := { s.plans with status := 2, image := image, revokedAtStart := s.boot.revoked, pendingId := 0, swapReel := 0 } }).setBank (1 - s.plans.active) none, none)

/-- PLAN_IMAGE_DOWNLOAD (R62). -/
def execPlanImageDownload (t : Transport) (image : Octets) (s : State) : Host.Outcome State Fault Refusal :=
  .next (s.commandA t 0x2100 1 (planDownloadOp image))

/-- The check ends (R63, R70). -/
def State.finishCheck (s : State) : State :=
  let d := s.plans.image
  let clear : State := { s with plans := { s.plans with image := [] } }
  let at_ : State := { s with boot := { s.boot with revoked := s.plans.revokedAtStart } }
  match at_.checkPlan d with
  | some (code, row, slot) =>
    ({ clear with plans := { clear.plans with status := 4, lastCode := code, failRow := row, failSlot := slot } }).emcy 0xFF21 0xFF code
  | none =>
    let p := parsePlan d
    let q : Plan := { p with peak := p.peakPower }
    (({ clear with plans := { clear.plans with status := 3, pendingId := q.identifier } }).setBank (1 - clear.plans.active) (some q)).emcy 0xFF20 0xFF 0

/-- PLAN_CHECK_COMPLETE (R63). -/
def execPlanCheckComplete (s : State) : Host.Outcome State Fault Refusal :=
  .next (s.whenServing fun s => if s.plans.status = 2 then s.finishCheck else s)

/-! ### The swap (R66, R67, R71) -/

/-- Sensors that join the combined set (R361, R404): valid, shared or of a running plate, and read at least once. -/
def State.validSensors (s : State) : List Nat :=
  (List.range 24).filter fun n => !bit s.faults.faultedSensors n && decide (n < s.faults.temps.length)
    && (decide (20 ≤ n) || decide ((s.plate (n / 10)).state ≤ 1))

/-- The hottest reading of the combined set; the lowest INTEGER16 with none. -/
def State.hottest (s : State) : Int := s.validSensors.foldl (fun m n => if m < s.temp n then s.temp n else m) (-32768)

/-- The junction stands at or above 125 °C (R466): some reading of the combined set does, or readings came and none is valid. -/
def State.junctionHot (s : State) : Bool :=
  decide (s.faults.temps ≠ []) && (s.validSensors.isEmpty || decide (2000 ≤ s.hottest))

/-- A normal plan is refused: a sensor at 125 °C or above, or thermal shedding (R71). -/
def State.tooHot (s : State) (p : Plan) : Bool := decide (p.variant = 0) && (s.faults.shedding || s.junctionHot)

/-- The earliest target reel (R66). -/
def State.earliestSwap (s : State) : Nat := if s.clock.exposure < 997 then s.nextReelSecond else s.nextReelSecond + 1

def swapRequestOp (second : Nat) (s : State) : Except Nat State :=
  if s.plans.latched then .error 0x0A1E0043
  else match s.waitingPlan with
    | none => .error 0x0A1E0044
    | some p =>
      let t := if second = 0 then s.earliestSwap else second
      if t < s.earliestSwap then .error 0x0A1E0045
      else if s.tooHot p then .error 0x0A1E0046
      else .ok { s with plans := { s.plans with status := 5, swapReel := t } }

/-- SWAP_REQUEST (R66). -/
def execSwapRequest (t : Transport) (second : Nat) (s : State) : Host.Outcome State Fault Refusal :=
  .next (s.command t 0x2100 6 (swapRequestOp second))

def cancelSwapOp (value : Nat) (s : State) : Except Nat State :=
  if value ≠ 1 then .error 0x06090030
  else if s.plans.latched then .error 0x0A1E0043
  else if s.plans.status = 5 then .ok { s with plans := { s.plans with status := 3, swapReel := 0 } }
  else .ok s

/-- CANCEL_SWAP (R66). -/
def execCancelSwap (t : Transport) (value : Nat) (s : State) : Host.Outcome State Fault Refusal :=
  .next (s.command t 0x2100 0x0B (cancelSwapOp value))

/-- SWAP_LATCH (Table 2.10): cycle 0 of exposure 997 before the target reel. -/
def execSwapLatch (s : State) : Host.Outcome State Fault Refusal :=
  .next (s.whenServing fun s => match s.waitingPlan with
    | none => s
    | some p =>
      if s.plans.status ≠ 5 ∨ s.plans.latched = true ∨ s.atStartOf 997 = false ∨ s.plans.swapReel ≠ s.nextReelSecond then s
      else if s.tooHot p then ({ s with plans := { s.plans with status := 3, lastCode := 0x0A1E0046, swapReel := 0 } }).emcy 0xFF23 0xFF 0
      else { s with plans := { s.plans with latched := true, swapAt := s.clock.reel + 1 } })

/-- A domain that may not wake: groups 4 to 7 while thermal shedding runs; a disabled unit (R6, R467). -/
def State.mayWake (s : State) (cls idx : Nat) : Bool :=
  !(decide (cls = 1) && decide (4 ≤ idx) && s.faults.shedding) && !(decide (cls = 4) && decide (s.obj 0x2010 1 ≠ 1))
    && !(decide (cls = 6) && !s.mediaUnit idx)

/-- A domain wakes; a media port starts again with it (R356). -/
def State.wakeNow (s : State) (cls idx : Nat) : State :=
  let t := s.wakeDomain cls idx
  if cls = 6 then t.mediaRefresh idx else t

/-- SWAP_ENTRY_WAKE (Table 2.10): cycle 0 of exposure 999 before the target reel. -/
def execSwapEntryWake (s : State) : Host.Outcome State Fault Refusal :=
  .next (s.whenServing fun s => match s.waitingPlan with
    | none => s
    | some p =>
      if s.plans.latched && s.atStartOf 999 && decide (s.plans.swapAt = s.clock.reel + 1) && !s.plans.entryWoken then
        allDomains.foldl (fun (s : State) d => if p.entryAwake d.1 d.2 && s.mayWake d.1 d.2 then s.wakeNow d.1 d.2 else s)
          { s with plans := { s.plans with entryWoken := true } }
      else s)

/-- A domain is put to sleep. -/
def State.sleepDomain (s : State) (cls idx : Nat) : State :=
  let d := s.domain cls idx
  if !d.awake then s
  else
    let t := s.setDomain cls idx { d with awake := false, sleptAt := s.now + 64 * sleepSlots cls }
    if cls = 6 then t.mediaRefresh idx else t

/-- A lane may enter LPI: EEE active, and the negotiated wake time within the one that the plan assumes (R49). -/
def State.laneDeep (s : State) (n : Nat) : Bool := s.eeeActive n && decide ((s.port n).wakeNs ≤ s.assumedWake n)

/-- The lanes of the running plates at a position enter LPI where they may (R49); the others are kept awake, and a SLEEP step counts
each of those. -/
def State.sleepLanes (s : State) (pos : Nat) (step : Bool) : State :=
  if !(s.domain 5 pos).awake then s
  else
    let t := s.running.foldl (fun (s : State) p =>
      let n := pos + 12 * p
      if s.laneDeep n then s.setPort n { s.port n with lpi := true } else if step then s.bumpP p 0x2102 7 else s) s
    if s.running.all fun p => s.laneDeep (pos + 12 * p) then t.sleepDomain 5 pos else t

/-- Any domain put to sleep: by a SLEEP step, or at a swap. -/
def State.sleepNow (s : State) (cls idx : Nat) (step : Bool) : State := if cls = 5 then s.sleepLanes idx step else s.sleepDomain cls idx

/-- Thermal shedding starts or ends (R467): EMCY 0xFFB6. -/
def State.setShedding (s : State) (on : Bool) : State :=
  if s.faults.shedding = on then s
  else
    let t : State := { s with faults := { s.faults with shedding := on, coolExposures := 0 } }
    let u := if on then [4, 5, 6, 7].foldl (fun (s : State) g => s.sleepDomain 1 g) (t.bump 0x2E02 5) else t
    u.report 0xFF 0x06 0xFFFF 0xFFB6 0xFF (bitNat on * 2 ^ 24 + unsigned 16 s.hottest * 2 ^ 8)

/-- PLAN_SWAP (Table 2.10, R67, R305): cycle *T*, cycle 0 of the target reel. -/
def execPlanSwap (s : State) : Host.Outcome State Fault Refusal :=
  .next (s.whenServing fun s =>
    if !(s.plans.latched && s.plans.entryWoken && !s.plans.swapped && s.atStartOf 0 && decide (s.clock.reel = s.plans.swapAt)) then s
    else
      let t : State := { s with plans := { s.plans with active := 1 - s.plans.active, swapped := true } }
      let u := if t.plan.variant = 1 then t.setShedding false else t
      let v := allDomains.foldl (fun (s : State) d => if u.plan.entryAwake d.1 d.2 then s else s.sleepNow d.1 d.2 false) u
      v.rebind.cancelForCapacity.releaseBanks)

/-- SWAP_COMPLETE (Table 2.10): cycle 0 of exposure 1 of the target reel, one exposure after *T*. -/
def execSwapComplete (s : State) : Host.Outcome State Fault Refusal :=
  .next (s.whenServing fun s =>
    if !(s.plans.swapped && s.atStartOf 1) then s
    else
      let t := s.setBank (1 - s.plans.active) none
      ({ t with plans := { t.plans with status := 0, latched := false, entryWoken := false, swapped := false, swapReel := 0, pendingId := 0,
                                        activeId := t.plan.identifier } }).emcy 0xFF22 0xFF 0)

/-- The active bank and plan as 0x2100.07 and .08 read: a swap shows one exposure after it. -/
def State.shownBank (s : State) : Nat := if s.plans.swapped then 1 - s.plans.active else s.plans.active

/-! ### Wakes and sleeps (R30, R48, R55) -/

/-- WAKE (R30): the wake-controller step of this slot. -/
def execWake (s : State) : Host.Outcome State Fault Refusal :=
  .next (s.whenServing fun s => match s.stepNow 6 0 0x50 with
    | none => s
    | some x =>
      let c := field x.operand 31 24
      let i := field x.operand 23 16
      if s.mayWake c i then s.wakeNow c i else s)

/-- SLEEP (R49, R55): a sleep that would undo an entry wake of a latched swap is not executed (Table 2.10). -/
def execSleep (s : State) : Host.Outcome State Fault Refusal :=
  .next (s.whenServing fun s => match s.stepNow 6 0 0x51 with
    | none => s
    | some x =>
      let c := field x.operand 31 24
      let i := field x.operand 23 16
      let kept := s.plans.entryWoken && !s.plans.swapped && (match s.waitingPlan with | none => false | some p => p.entryAwake c i)
      if kept then s else s.sleepNow c i true)

/-! ### Checks of other families against the plans (R5, R57, R65) -/

/-- The active plan and the plan that waits. -/
def State.plansHeld (s : State) : List Plan := s.plan :: s.waitingPlan.toList

/-- A write to a power cap below the declared cap of an active or waiting plan of its variant (R57). -/
def State.capRefused (s : State) (hot : Bool) (v : Nat) : Bool := s.plansHeld.any fun p => decide (p.variant = bitNat hot) && decide (v < p.cap)

/-- A mode that a plan does not declare for the lane's position (R65). -/
def State.modeRefused (s : State) (n mode : Nat) : Bool :=
  s.plansHeld.any fun p => let m := p.modes.getD (n % 12) 0; decide (m ≠ 0) && decide (m ≠ mode)

/-- Whether an active or waiting plan schedules a unit that a write to 0x2010 would disable (R5): one that is enabled as the setting
will stand after the writes accepted so far. -/
def State.unitScheduled (s : State) (sub : Nat) (v : Nat) : Bool :=
  let off (n : Nat) : Bool := bit (s.will 0x2010 sub) n && !bit v n
  s.plansHeld.any fun p => match sub with
    | 1 => off 0 && (List.range 12).any fun i => p.schedules 4 i
    | 2 => (List.range 8).any fun m => off m && p.schedules 6 m
    | 3 => (List.range 24).any fun n => off n && bit p.haMask n
    | _ => false

end Sys2Proof.Machine
end

