-- ==== Sys2Proof/Machine/Twin.lean ====
section
/-! DEFINITION. Meanings of the twin plates: roles, divergence, proof, re-synchronisation, plate reset, the asleep-domain proof and
the proof sheet (R359 to R386). -/

namespace Sys2Proof.Machine

/-! ### Role commands (R369) -/

/-- The standby plate, while the pair is in step. -/
def State.standby (s : State) : Option Nat := if s.paired then some (1 - s.twin.active) else none

def roleSwapOp (s : State) : Except Nat State :=
  if s.paired then .ok { s with twin := { s.twin with swapPending := true } } else .error 0x0A1E00B0

/-- ROLE_SWAP (R369): refused unless the other plate is standby; in force at cycle 0 of the next exposure. -/
def execRoleSwap (t : Transport) (s : State) : Host.Outcome State Fault Refusal :=
  .next (s.command t 0x2C00 4 roleSwapOp)

def standbyToProofOp (s : State) : Except Nat State :=
  if s.paired then .ok { s with twin := { s.twin with proofPending := true } } else .error 0x0A1E00B1

/-- STANDBY_TO_PROOF (R369, R386): refused unless a plate is standby; in force at cycle 0 of the next exposure. -/
def execStandbyToProof (t : Transport) (s : State) : Host.Outcome State Fault Refusal :=
  .next (s.command t 0x2C00 4 standbyToProofOp)

/-- The roles exchange (R369): merged channels follow, and neither plate stops. -/
def State.swapRoles (s : State) (cause : Nat) : State :=
  if !s.paired then s
  else
    let a := s.twin.active
    ((({ s with twin := { s.twin with active := 1 - a } }).plateState (1 - a) 0 cause).plateState a 1 cause).switchMerged

/-! ### Divergence (R370 to R372) -/

/-- DIVERGENCE (R370, R372, R381): counted while the pair is in step; points 0x02 and 0x07 are not compared during the exposure of a
join. -/
def execDivergence (point detail : Nat) (s : State) : Host.Outcome State Fault Refusal :=
  .next (s.whenServing fun s =>
    if !s.paired || (s.twin.joinedAt.isSome && (decide (point = 2) || decide (point = 7))) then s else s.diverge point detail)

/-- The plate that a divergence demotes (R372): the one alone with a fatal fault of the exposure, else the one alone with a contained
fault, else the standby. -/
def State.divergent (s : State) : Nat :=
  let f (p : Nat) : Bool := (s.plate p).fatalNow
  let c (p : Nat) : Bool := (s.plate p).containedNow
  if f 0 != f 1 then (if f 0 then 0 else 1)
  else if c 0 != c 1 then (if c 0 then 0 else 1)
  else 1 - s.twin.active

/-- A plate enters Proof (R377): its full proof starts. -/
def State.enterProof (s : State) (p cause : Nat) : State :=
  let t := (s.setPlate p { s.plate p with waiting := false, resetAt := none }).plateState p 3 cause
  if t.twin.testPlate = some p then t.testEvent 0 true 0x2C00 else t

/-- The recipes of a plate are cleared with its reset (R194). -/
def State.clearRecipes (s : State) (p : Nat) : State :=
  (List.range 4).foldl (fun (s : State) o =>
    s.setOpll o { s.opll o with recipes := (s.opll o).recipes.filter fun e => decide (e.1 / 32 ≠ p) }) s

/-- A plate is held in reset for 10 ms (R383). -/
def State.holdPlate (s : State) (p : Nat) : State :=
  (State.realign s ((s.setPlate p { s.plate p with resetAt := some s.now, waiting := false }).stopResync.plateState p 5 3)).dropSide p |>.clearRecipes p

/-- Plates at cycle 0 of an exposure: a plate already in Demoted enters Proof; a divergence, a failed exchange (Table 15.2) or a
host command demotes; a swap and a plate reset take effect (R368, R369, R372, R383). -/
def State.plateExposure (s : State) : State :=
  let down := [0, 1].filter fun p => decide ((s.plate p).state = 2)
  let a := if s.twin.diverged ∧ s.paired = true then s.demote s.divergent 2 else s
  let b := if a.twin.exchangeFailed ∧ a.paired = true then a.demote (1 - a.twin.active) 6 else a
  let c := if b.twin.proofPending ∧ b.paired = true then
      ({ b with twin := { b.twin with testPlate := some (1 - b.twin.active) } } : State).demote (1 - b.twin.active) 3
    else b
  let d := if c.twin.swapPending then c.swapRoles 3 else c
  let e := match d.twin.resetAfterSwap with
    | none => d
    | some p =>
      let x := if d.twin.active = p ∧ d.paired = true then d.swapRoles 3 else d
      if x.twin.active = p ∧ (x.plate p).state = 0 then x else x.holdPlate p
  let g : State := { e with twin := { e.twin with diverged := false, divergenceSent := false, exchangeFailed := false, proofPending := false,
                                                   swapPending := false, resetAfterSwap := none } }
  let h := down.foldl (fun (t : State) p => if (t.plate p).state = 2 then t.enterProof p 5 else t) g
  [0, 1].foldl (fun (t : State) p => t.setPlate p { t.plate p with fatalNow := false, containedNow := false }) h

/-! ### Full proof (R377, R420) -/

/-- Both plates have a result in phase 2 (Table 16.3, R420): phase 3, or boot-hold when both fail. -/
def State.proofsDone (s : State) : State :=
  let done (p : Nat) : Bool := (s.plate p).waiting || decide ((s.plate p).state = 6)
  if s.boot.phase ≠ 2 ∨ !(done 0 && done 1) then s
  else if (s.plate 0).state = 6 ∧ (s.plate 1).state = 6 then { s with boot := { s.boot with phase := 6 } }
  else { s with boot := { s.boot with phase := 3 } }

/-- The end of a full proof: the first failing test joins the contact sheet with the change to Failed. -/
def State.endProof (s : State) (p : Nat) (pass : Bool) (test ms : Nat) : State :=
  let x := s.plate p
  let a := (s.setPlate p { x with proofPassed := pass, waiting := pass, proofEnded := s.taiSecond, firstFailing := if pass then 0 else test }).setObj
    0x2C00 0x0E (ms : Nat)
  let b : State := if a.twin.testPlate = some p then
      ({ a with twin := { a.twin with testPlate := none } } : State).testEvent 0 false 0x2C00 else a
  if pass then b else (b.record p 0x06 0xFFFF 0 test).plateState p 6 4

/-- PROOF_COMPLETE (R377): a pass waits for re-synchronisation, a failure leads to Failed. -/
def execProofComplete (plate : Nat) (pass : Bool) (test ms : Nat) (s : State) : Host.Outcome State Fault Refusal :=
  .next (if plate < 2 ∧ (s.plate plate).state = 3 ∧ (s.plate plate).waiting = false ∧ (s.boot.phase = 2 ∨ s.serving = true) then
      (s.endProof plate pass test ms).proofsDone
    else s)

/-! ### Re-synchronisation (R380 to R382) -/

/-- New masks for every key slot of a joining plate (R332, Table 14.5). -/
def State.remaskPlate (s : State) (p : Nat) : State :=
  s.keys.slots.keys.foldl (fun (s : State) n =>
    let x := s.slot n
    if x.state = 0 ∨ x.state = 4 then s
    else
      let (r, t) := s.drawMask
      t.setSlot n (if p = 0 then { x with maskA := r, maskedA := t.now } else { x with maskB := r, maskedB := t.now })) s

/-- Cycle 0 of exposure `e`, counted from the release of reset, its work done. -/
def State.atCycle0Of (s : State) (e : Nat) : Bool := decide (s.clock.exposures = e ∧ s.clock.cycle = 0) && !s.clock.exposureDue

/-- RESYNC_START (R377, R380, R382): at cycle 0 of exposure R, for a plate that passed and whose partner is active with no fatal fault
outstanding; or again, once, after a mismatch. -/
def execResyncStart (plate : Nat) (s : State) : Host.Outcome State Fault Refusal :=
  .next (s.whenServing fun s =>
    let other := s.plate (1 - plate)
    let begin_ (t : State) (again : Bool) : State :=
      ({ t with twin := { t.twin with mirror := true, resync := some (plate, t.clock.exposures, again), snapshot := false, digestsEqual := false } } : State).remaskPlate plate
    if 1 < plate ∨ s.atCycle0Of s.clock.exposures = false ∨ other.state ≠ 0 ∨ other.fatalLast = true then s
    else if (s.plate plate).state = 3 ∧ (s.plate plate).waiting = true then
      begin_ ((s.setPlate plate { s.plate plate with waiting := false }).plateState plate 4 4) false
    else match s.twin.resync with
      | some (p, _, true) => if p = plate ∧ (s.plate plate).state = 4 ∧ s.twin.mirror = false then begin_ s true else s
      | _ => s)

/-- RESYNC_SNAPSHOT (Table 14.5): cycle 0 of R + 8. -/
def execResyncSnapshot (s : State) : Host.Outcome State Fault Refusal :=
  .next (s.whenServing fun s => match s.twin.resync with
    | some (_, r, _) => if s.twin.mirror && s.atCycle0Of (r + 8) then { s with twin := { s.twin with snapshot := true } } else s
    | none => s)

/-- DIGEST_COMPARE (R382): in the last cycle of R + 10. A first mismatch stops the mirror until the restart; a second fails the plate. -/
def execDigestCompare (equal : Bool) (s : State) : Host.Outcome State Fault Refusal :=
  .next (s.whenServing fun s => match s.twin.resync with
    | none => s
    | some (p, r, again) =>
      if !s.twin.snapshot || s.twin.digestsEqual || decide (s.clock.exposures ≠ r + 10 ∨ s.clock.cycle ≠ 999999) then s
      else if equal then { s with twin := { s.twin with digestsEqual := true } }
      else if again then (s.stopResync.bump 0x2C00 8).plateState p 6 7
      else { s with twin := { s.twin with mirror := false, snapshot := false, resync := some (p, r, true) } })

/-- A step of the Developer's row that runs an ensemble part is in progress at the start of this slot: it began before and has not ended. -/
def State.ensembleRuns (s : State) : Bool :=
  match s.plan.row 5 0 with
  | none => false
  | some r => (r.steps.filter fun x => decide (x.opcode = 0x41)).any fun x =>
      let p := Nat.max 1 r.period
      let since := (s.reelSlot + p - x.offset % p) % p
      decide (0 < since ∧ since < x.slots 5)

/-- JOIN (R380): at cycle 0 of J, the first exposure from R + 11 on at whose cycle 0 no ensemble part is in progress, R + 12 at the
latest, the plate is standby. Cross-drive ends, and a gap of the last plate closes. -/
def execJoin (s : State) : Host.Outcome State Fault Refusal :=
  .next (s.whenServing fun s => match s.twin.resync with
    | none => s
    | some (p, r, _) =>
      let now := (s.atCycle0Of (r + 11) && !s.ensembleRuns) || s.atCycle0Of (r + 12)
      if !s.twin.digestsEqual || !now || s.twin.joinedAt.isSome then s
      else
        let x : Plate := { s.plate p with inStepSince := s.taiSecond, divergences := 0, katFail := 0, asleepFail := 0, scrubAt := s.now }
        let a := (s.setPlate p x).plateState p 1 5
        let j : State := { a with twin := { a.twin with joinedAt := some s.clock.exposures, lastPlateGap := false } }
        let b := (State.endCross s (State.realign s j)).dropSide p
        let c := ((b.bump 0x2C00 7).setObj 0x2C00 0x0D s.taiSecond).closeGap
        c.report 0xFF 0x06 0xFFFF 0xFFA2 0xFF (p * 2 ^ 24 + (s.clock.exposures - r) % 256 * 2 ^ 16))

/-- MIRROR_STOP (R380): cycle 0 of J + 1. -/
def execMirrorStop (s : State) : Host.Outcome State Fault Refusal :=
  .next (s.whenServing fun s => match s.twin.joinedAt with
    | none => s
    | some j => if s.atCycle0Of (j + 1) then s.stopResync else s)

/-! ### Plate reset (R383) and asleep-domain proofs (R375) -/

/-- PLATE_RESET_END (R383): 10 ms after the hold began, the plate enters full proof. -/
def execPlateResetEnd (plate : Nat) (s : State) : Host.Outcome State Fault Refusal :=
  .next (s.whenServing fun s => match (s.plate plate).resetAt with
    | none => s
    | some t => if (s.plate plate).state = 5 ∧ t + 10000000 ≤ s.now then s.enterProof plate 5 else s)

/-- Cycles of a domain's logic self-test (R375). -/
def proofCycles : Nat → Nat
  | 1 => 50000
  | 4 => 40000
  | _ => 20000

/-- Cycles from now to the next wake of a domain by the plan, if it has one. -/
def State.untilWake (s : State) (cls idx : Nat) : Option Nat :=
  let wakes := ((s.plan.toggles cls idx).filter Prod.snd).map fun e => e.1 * 64
  let now := s.clock.exposure * 1000000 + s.clock.cycle
  match wakes.find? fun w => decide (now ≤ w), wakes with
  | some w, _ => some (w - now)
  | none, w :: _ => some (w + 1000000000 - now)
  | none, [] => none

/-- The exposures that a test ending now lies in keep to the plan's cap with the test counted as awake time (R56, R375). A test is at most
50,000 cycles long. -/
def State.proofPower (s : State) (cls : Nat) : Bool :=
  let n := proofCycles cls
  let here := Nat.min n s.clock.cycle
  let fits (e cycles : Nat) : Bool := decide (s.plan.power e * 64 + awakePower cls * cycles ≤ s.plan.cap * exposureSlots * 64)
  fits s.clock.exposure here && (decide (here = n) || fits ((s.clock.exposure + 999) % 1000) (n - here))

/-- The end of the self-test of a domain fits its gap (R375): begun after its sleep-entry time, ended with its wake latency and a slot to
spare before its next wake, within the cap. -/
def State.proofFits (s : State) (cls idx : Nat) : Bool :=
  let d := s.domain cls idx
  let early := match s.untilWake cls idx with
    | none => true
    | some w => decide (s.wakeCycles cls idx + 64 ≤ w)
  decide (1 ≤ cls ∧ cls ≤ 4) && !d.awake && decide (d.sleptAt + proofCycles cls ≤ s.now) && early && s.proofPower cls

/-- ASLEEP_DOMAIN_PROOF (R375): the end of the self-test of a serving group, crypto cluster or correlator bank that the plan holds asleep,
on the standby. A failure is a fatal fault of the standby on the domain's line. -/
def execAsleepDomainProof (cls idx : Nat) (pass : Bool) (s : State) : Host.Outcome State Fault Refusal :=
  .next (s.whenServing fun s => match s.standby with
    | none => s
    | some p =>
      if !s.proofFits cls idx then s
      else
        let x := s.plate p
        let a := s.setPlate p { x with asleepReel := x.asleepReel + 1, asleepRan := true, asleepFail := if pass then x.asleepFail else x.asleepFail + 1 }
        if pass then a else a.fatal p (domainLine cls idx) 0)

/-! ### The proof sheet (R376) -/

/-- A number at its field's largest value (saturating). -/
def satTo (bits v : Nat) : Nat := Nat.min v (2 ^ bits - 1)

/-- Dual-rail lines of a plate in error: those of lines 156 to 158 with their status bit set. -/
def State.railLines (s : State) (p : Nat) : Nat := ([156, 157, 158].filter fun n => (s.line p n).status).length

/-- Mean frequency of a plate's process monitors in MHz (R406). -/
def State.meanProc (s : State) (p : Nat) : Nat := ((s.faults.procs.drop (16 * p)).take 16).sum / 16000

/-- Octets 0 to 59 of the proof sheet (Table 14.4), for the standby or the last plate to have been standby. -/
def State.sheetBody (s : State) : Octets :=
  let p := s.standby.getD s.twin.lastStandby
  let x := s.plate p
  let in_ := s.standby.isSome
  let scrub := (s.now - x.scrubAt) / 1000000000
  let ecc := ([138, 139, 140, 141, 142].map fun n => (s.line p n).reelCorrected).sum
  [0x01, BitVec.ofNat 8 p, BitVec.ofNat 8 x.state, BitVec.ofNat 8 (bitNat in_ + 2 * bitNat x.proofPassed + 4 * bitNat x.asleepRan)]
    ++ beOctets 6 s.taiSecond ++ beOctets 6 x.proofEnded
    ++ beOctets 4 (satTo 32 (if in_ then s.taiSecond - x.inStepSince else 0)) ++ beOctets 4 (satTo 32 ecc)
    ++ beOctets 2 (satTo 16 (if scrub < 64 then scrub else scrub % 64)) ++ beOctets 2 (satTo 16 x.katPassReel)
    ++ beOctets 2 (satTo 16 x.katFail) ++ beOctets 2 (satTo 16 x.asleepReel) ++ beOctets 2 (satTo 16 x.asleepFail)
    ++ beOctets 2 (s.railLines p) ++ beOctets 2 (unsigned 16 x.hottest) ++ beOctets 2 x.vddLow ++ beOctets 2 x.vddHigh
    ++ beOctets 2 (s.meanProc p)
    ++ beOctets 1 (maskOf ((List.range 4).filter fun o => decide ((s.opll o).sense p s.now ≠ 0))) ++ [0x00]
    ++ beOctets 4 (satTo 32 x.comparesReel) ++ beOctets 2 (satTo 16 x.divergences) ++ List.replicate 8 0

/-- The sheet is refreshed at cycle 0 of a reel, and the figures of the reel start over. -/
def State.refreshSheet (s : State) : State :=
  let b := s.sheetBody
  let t : State := { s with twin := { s.twin with sheet := b ++ beOctets 4 (crc32c b) } }
  [0, 1].foldl (fun (t : State) p =>
    t.setPlate p { t.plate p with katPassReel := 0, asleepReel := 0, asleepRan := false, comparesReel := 0, hottest := -32768, vddLow := 0, vddHigh := 0 }) t

/-- One exposure's readings join the reel's figures of a plate (Table 14.4): its ten sensors and its VDD monitor. -/
def State.noteReadings (s : State) (p : Nat) : State :=
  let x := s.plate p
  let t := ((s.faults.temps.drop (10 * p)).take 10).foldl (fun m v => if m < v then v else m) x.hottest
  let v := s.faults.volts.getD p 0
  s.setPlate p { x with hottest := t, vddLow := if x.vddLow = 0 then v else Nat.min x.vddLow v, vddHigh := Nat.max x.vddHigh v }

end Sys2Proof.Machine
end

