-- ==== Sys2Proof/Machine/Faults.lean ====
section
/-! DEFINITION. Meanings of error lines, the contact sheet, status clears, the classifier's clears and injection; monitors and thermal
shedding at an exposure boundary (R387 to R411, R466 to R468). -/

namespace Sys2Proof.Machine

/-! ### Error lines (R387 to R392) -/

/-- An event that a line can raise: not reserved (Table 15.1), of a class. -/
def lineEventOk (e : LineEvent) : Bool := decide (e.plate < 2) && decide (e.line ≤ 240) && decide (1 ≤ e.cls ∧ e.cls ≤ 3)

/-- Contained events whose action on common state follows at the next boundary (R391, R392): a packet-buffer cell and a GNSS
capture. -/
def hasAction (n : Nat) : Bool := decide (n = 139) || decide (n = 132)

/-- ERROR_LINE_EVENT (R387, R390): the events of one cycle. -/
def execErrorLineEvent (events : List LineEvent) (s : State) : Host.Outcome State Fault Refusal :=
  .next (if s.boot.inReset then s
    else
      let l := events.filter lineEventOk
      let t := s.latchAll l false
      { t with faults := { t.faults with actions := t.faults.actions ++
          (l.filter fun (e : LineEvent) => decide (e.cls = 2) && hasAction e.line).map LineEvent.line } })

/-- The frame lost with a packet-buffer cell: the event does not say which, so a free value does (log 5); counted as a staging
drop. -/
def State.loseFrame (s : State) : State :=
  let (v, t) := (s.bump 0x2800 9).drawNat
  let plate := v % 2
  let q := v / 2 % 96
  t.setQueue plate q ((t.queue plate q).eraseIdx (v / 192))

/-- The actions of contained events on both plates at cycle 0 of the exposure after them (R392). -/
def State.containedActions (s : State) : State :=
  let t : State := { s with faults := { s.faults with actions := [] } }
  s.faults.actions.foldl (fun (t : State) n =>
    if n = 139 then t.loseFrame
    else t.discardCapture) t

/-- Blocks whose same line latched fatal on both plates are not ready from the next boundary (R394). -/
def State.holdLines (s : State) : State :=
  { s with faults := { s.faults with notReadyLines := s.faults.notReadyLines ++ s.faults.notReadyNext, notReadyNext := [] } }

/-! ### The contact sheet (R399 to R401) -/

/-- An entry's octets (Table 15.6). -/
def sheetOctets (e : Nat × SheetEvent) : Octets :=
  beOctets 14 e.2.instant ++ beOctets 1 e.2.plate ++ beOctets 1 e.2.kind ++ beOctets 2 e.2.line ++ beOctets 2 e.2.emcy
    ++ beOctets 4 e.2.detail ++ beOctets 2 e.1 ++ List.replicate 6 0

/-- An entry that freezes the sheet: a fatal event, or one injected. -/
def SheetEvent.freezes (e : SheetEvent) : Bool := decide (e.kind = 3) || (decide (e.kind = 9) && decide (e.detail / 2 ^ 24 = 3))

/-- The order of entry: instant, then plate number. -/
def SheetEvent.before (a b : SheetEvent) : Bool :=
  decide (a.instant < b.instant) || (decide (a.instant = b.instant) && decide (a.plate ≤ b.plate))

/-- An event placed after those that precede it or tie with it. -/
def placeEvent (e : SheetEvent) : List SheetEvent → List SheetEvent
  | [] => [e]
  | x :: r => if x.before e then x :: placeEvent e r else e :: x :: r

/-- One event enters the sheet, or is lost while it is frozen (saturating count 0x2D30.04). -/
def State.enterEvent (s : State) (e : SheetEvent) : State :=
  if s.faults.frozen then s.setObj 0x2D30 4 (Nat.min (s.obj 0x2D30 4 + 1) 0xFFFFFFFF)
  else
    let l := s.faults.sheet ++ [(s.faults.sheetSeq, e)]
    { s with faults := { s.faults with sheet := l.drop (l.length - 64), sheetSeq := (s.faults.sheetSeq + 1) % 65536,
                                       frozen := e.freezes, saveDue := s.faults.saveDue || e.freezes,
                                       frozenTail := if e.freezes then (l.drop (l.length - 16)).map sheetOctets else s.faults.frozenTail } }

/-- The events of the exposure are entered at cycle 0 of the next (R400). -/
def State.enterSheet (s : State) : State :=
  (s.faults.events.foldl (fun l e => placeEvent e l) []).foldl State.enterEvent { s with faults := { s.faults with events := [] } }

/-- A completed write of the store (0x2020.05, .06); a section so written is valid (R421). -/
def State.storeWrite (s : State) : State := (s.bump 0x2020 5).setObj 0x2020 6 (toTime112 s.tai : Nat)

/-- CONTACT_SHEET_SAVE (R401): the last 16 entries at the freeze. -/
def execContactSheetSave (s : State) : Host.Outcome State Fault Refusal :=
  .next (if !s.faults.saveDue || s.boot.inReset then s
    else
      State.storeWrite { s with faults := { s.faults with saveDue := false },
                                darkroom := { s.darkroom with secF := s.faults.frozenTail, secFValid := true,
                                                              valid := putBit s.darkroom.valid 6 true } })

def contactClearOp (value : Nat) (s : State) : Except Nat State :=
  if value ≠ 1 then .error 0x06090030
  else .ok { s with faults := { s.faults with sheet := [], frozen := false } }

/-- CONTACT_SHEET_CLEAR (R401). -/
def execContactSheetClear (t : Transport) (value : Nat) (s : State) : Host.Outcome State Fault Refusal :=
  .next (s.command t 0x2D30 5 (contactClearOp value))

/-! ### Status bits (R388) -/

/-- Status word `w` of a plate's collector. -/
def State.statusWord (s : State) (p w : Nat) : Nat := maskOf ((List.range 32).filter fun n => (s.line p (32 * (w - 1) + n)).status)

def statusClearOp (word mask : Nat) (s : State) : Except Nat State :=
  if word < 1 ∨ 8 < word then .error 0x06090011
  else .ok ([0, 1].foldl (fun (s : State) p =>
    (bitsSet mask 32).foldl (fun (s : State) n =>
      let k := 32 * (word - 1) + n
      s.setLine p k { s.line p k with status := (s.line p k).status && decide ((s.line p k).lastTime = toTime112 s.tai) }) s) s)

/-- STATUS_CLEAR (R388): both plates' words, since the write is mirrored (R7); a line that latched in this cycle keeps its bit. -/
def execStatusClear (t : Transport) (word mask : Nat) (s : State) : Host.Outcome State Fault Refusal :=
  .next (settleRegister s (s.command t 0x2D12 word (statusClearOp word mask)))

/-! ### The classifier (R396 to R398) -/

/-- A source's hold ends; only a severe one is recorded. -/
def State.endHoldOf (s : State) (lane : Bool) (id : Nat) (x : Source) : State := if x.severeUntil.isSome then s.released lane id else s

/-- SEVERE_HOLD_END (R396): sources 0 to 65535 are address entries, 65536 + *n* lane *n*. -/
def execSevereHoldEnd (source : Nat) (s : State) : Host.Outcome State Fault Refusal :=
  .next (s.whenServing fun s =>
    let lane := decide (65536 ≤ source)
    let x := if lane then s.laneSource (source - 65536) else s.addressSource source
    match x.severeUntil with
    | none => s
    | some t =>
      if s.now < t then s
      else if lane then (s.setLaneSource (source - 65536) { x with severeUntil := none }).released true (source - 65536)
      else (s.setAddressSource source { x with severeUntil := none }).released false (s.addressHash x.address))

def clearAddressOp (address : Nat) (s : State) : Except Nat State :=
  let e := s.addressEntry address
  let x := s.addressSource e
  if x.tracked ∧ x.address = address then
    .ok ((s.setAddressSource e { x with severeUntil := none, count := 0 }).endHoldOf false (s.addressHash address) x)
  else .error 0x0A1E00C1

/-- CLEAR_ADDRESS (R398). -/
def execClearAddress (t : Transport) (address : Nat) (s : State) : Host.Outcome State Fault Refusal :=
  .next (s.command t 0x2D20 0x0C (clearAddressOp address))

def clearLanesOp (mask : Nat) (s : State) : Except Nat State :=
  if 2 ^ 24 ≤ mask then .error 0x06090030
  else .ok ((bitsSet mask 24).foldl (fun (s : State) n =>
    let x := s.laneSource n
    (s.setLaneSource n { x with severeUntil := none, count := 0 }).endHoldOf true n x) s)

/-- CLEAR_LANES (R398). -/
def execClearLanes (t : Transport) (mask : Nat) (s : State) : Host.Outcome State Fault Refusal :=
  .next (s.command t 0x2D20 0x0E (clearLanesOp mask))

/-- The address that 0x2D20.0D queries: its state and the end of its hold on time base 0 (0x2D20.0F, .10). -/
def State.addressQuery (s : State) : Nat × Nat :=
  let a := s.obj 0x2D20 0x0D
  let x := s.addressSource (s.addressEntry a)
  if x.tracked ∧ x.address = a then
    match x.severeUntil with
    | none => (1, 0)
    | some t => (2, toTime112 (s.tai + (t - s.now) * nsUnit))
  else (0, 0)

/-! ### Injection (R409) -/

/-- An event of a class on the plate and line that 0x2E20 names. -/
def injectOp (cls : Nat) (s : State) : Except Nat State :=
  let p := s.obj 0x2E20 1
  let n := s.obj 0x2E20 2
  if 240 < n ∨ (cls = 3 ∧ (s.plate p).state ≠ 1) then .error 0x0A1E00C0
  else .ok (s.latchAll [⟨p, n, cls, 0⟩] true)

/-- INJECT_CORRECTED (R409). -/
def execInjectCorrected (t : Transport) (s : State) : Host.Outcome State Fault Refusal := .next (s.command t 0x2E20 3 (injectOp 1))
/-- INJECT_CONTAINED (R409). -/
def execInjectContained (t : Transport) (s : State) : Host.Outcome State Fault Refusal := .next (s.command t 0x2E20 3 (injectOp 2))
/-- INJECT_FATAL (R409): a plate in state 1 only, which it demotes. -/
def execInjectFatal (t : Transport) (s : State) : Host.Outcome State Fault Refusal := .next (s.command t 0x2E20 3 (injectOp 3))

/-! ### Monitors (R361, R403 to R406, R466) -/

/-- Plates whose readings count (R361): a plate out of step has its own set left out. -/
def State.reads (s : State) (p : Nat) : Bool := decide ((s.plate p).state ≤ 1)

/-- The plate of a sensor, voltage monitor or process monitor; none for those of shared regions. -/
def sensorPlate (n : Nat) : Option Nat := if n < 20 then some (n / 10) else none
def voltPlate (m : Nat) : Option Nat := if m < 14 then some (m % 2) else none
def procPlate (m : Nat) : Option Nat := some (m / 16)

def State.readsOf (s : State) : Option Nat → Bool
  | none => true
  | some p => s.reads p

/-- A contained event of a monitor's line: of its plate, or of both running plates. -/
def State.monitorFault (s : State) (plate : Option Nat) (ln detail : Nat) : State :=
  match plate with
  | none => s.containedBoth ln detail
  | some p => s.containedOn p ln detail

/-- Sensors at which a condition of R404 holds between two sets of readings. -/
def State.sensorFaults (s : State) (old new : List Int) : List Nat :=
  (List.range 24).filter fun n =>
    s.readsOf (sensorPlate n) && (
      decide (new.getD n 0 < -880 ∨ 2800 < new.getD n 0)
        || (decide (n < old.length) && decide (320 < (new.getD n 0 - old.getD n 0).natAbs))
        || (s.paired && decide (n < 20) && decide (240 < (new.getD n 0 - new.getD (if n < 10 then n + 10 else n - 10) 0).natAbs)))

/-- Temperatures of an exposure (R403, R404). -/
def State.takeTemps (s : State) (temps : List Int) : State :=
  let merged := (List.range 24).map fun n => if s.readsOf (sensorPlate n) then temps.getD n 0 else s.temp n
  let bad := s.sensorFaults s.faults.temps temps
  let fresh := bad.filter fun n => !bit s.faults.faultedSensors n
  let peaks := (List.range 24).foldl (fun (p : Table (Option Int)) n =>
    match p.look noneOf n with
    | none => p.put noneOf n (some (merged.getD n 0))
    | some v => if v < merged.getD n 0 then p.put noneOf n (some (merged.getD n 0)) else p) s.faults.peaks
  let f : Faults := { s.faults with temps := merged, faultedSensors := s.faults.faultedSensors ||| maskOf bad,
                                    badReel := s.faults.badReel ||| maskOf bad, peaks := peaks }
  let t : State := { s with faults := f }
  fresh.foldl (fun (t : State) n => t.monitorFault (sensorPlate n) (160 + n) 0) t

/-- A reading at or above the warning threshold (R466): EMCY 0xFFB7 as a sensor reaches it. Bit 24 stands for a die with no valid
sensor. -/
def State.warnTemps (s : State) : State :=
  let th := s.objI 0x2E02 1
  let hot := maskOf ((s.validSensors.filter fun n => decide (th ≤ s.temp n)) ++ (if s.validSensors.isEmpty then [24] else []))
  let fresh := bitsSet (clearBits hot s.faults.warned) 25
  let t := { s with faults := { s.faults with warned := hot } }
  fresh.foldl (fun (t : State) n =>
    t.emcy 0xFFB7 0xFF ((if n = 24 then 0xFF else n) * 2 ^ 24 + unsigned 16 (if n = 24 then 2000 else s.temp n) * 2 ^ 8)) t

/-- Sensors return to valid after ten clean reels (R404). -/
def State.sensorReel (s : State) : State :=
  (bitsSet s.faults.faultedSensors 24).foldl (fun (s : State) n =>
    let c := if bit s.faults.badReel n then 0 else s.faults.cleanReels.look (fun _ => 0) n + 1
    if c = 10 then
      { s with faults := { s.faults with faultedSensors := putBit s.faults.faultedSensors n false, cleanReels := s.faults.cleanReels.put (fun _ => 0) n 0 } }
    else { s with faults := { s.faults with cleanReels := s.faults.cleanReels.put (fun _ => 0) n c } }) s
    |> fun t => { t with faults := { t.faults with badReel := 0 } }

/-- One voltage monitor (R405): out of limits after ten exposures in a row, within after ten. -/
def State.takeVolt (s : State) (m v : Nat) : State :=
  let f := s.faults
  let side := if v < s.objW m 0x2E03 3 then 1 else if s.objW m 0x2E03 4 < v then 2 else 0
  let out := if side = 0 then 0 else f.voltOut.look (fun _ => 0) m + 1
  let inn := if side = 0 then f.voltIn.look (fun _ => 0) m + 1 else 0
  let was := f.voltState.look (fun _ => 0) m
  let now := if 10 ≤ out then side else if 10 ≤ inn then 0 else was
  let g : Faults := { f with voltOut := f.voltOut.put (fun _ => 0) m (Nat.min out 10),
                             voltIn := f.voltIn.put (fun _ => 0) m (Nat.min inn 10), voltState := f.voltState.put (fun _ => 0) m now }
  let t : State := { s with faults := g }
  if was = 0 ∧ now ≠ 0 then
    (t.monitorFault (voltPlate m) (184 + m) 0).emcy 0xFFB8 ((voltPlate m).getD 0xFF) (m * 2 ^ 24 + now * 2 ^ 16 + v % 65536)
  else t

/-- The die's mean temperature, of its valid sensors, 1/16 °C. -/
def State.meanTemp (s : State) : Int := ((s.validSensors.map s.temp).sum) / (Nat.max 1 s.validSensors.length : Nat)

/-- A process monitor beyond 15 % of its reference at the die's mean temperature; the law of the temperature is free (log 99). -/
def State.procBeyond (s : State) (m freq : Nat) : Bool :=
  let r := Config.procReferenceAt (s.objW m 0x2E04 3) s.meanTemp
  decide (15 * r < 100 * ((freq : Int) - r).natAbs)

/-- The process monitors (R406): one that leaves its range is reported. -/
def State.takeProcs (s : State) (freqs : List Nat) : State :=
  let seen := (List.range 32).filter fun m => s.readsOf (procPlate m) && s.procBeyond m (freqs.getD m 0)
  let fresh := seen.filter fun m => !bit s.faults.procOut m
  let t : State := { s with faults := { s.faults with procOut := maskOf seen } }
  fresh.foldl (fun (t : State) m => (t.monitorFault (procPlate m) (200 + m) 0).emcy 0xFFB9 (m / 16) (m * 2 ^ 24)) t

/-- The readings of the previous exposure at cycle 0 (R361, R403 to R406). A failed exchange is a contained fault of the receiving
plate (Table 15.2), and the plates' own action follows at the next boundary. -/
def State.takeReadings (s : State) (r : Readings) : State :=
  let a := (s.takeTemps r.temps).warnTemps
  let b := (List.range 16).foldl (fun (s : State) m => if s.readsOf (voltPlate m) then s.takeVolt m (r.volts.getD m 0) else s) a
  let c := ({ b with faults := { b.faults with volts := r.volts, procs := r.procs } } : State).takeProcs r.procs
  let d := c.running.foldl State.noteReadings c
  match r.exchangeFailed with
  | none => d
  | some p =>
    if d.paired then
      let e := d.containedOn (p % 2) 157 0
      { e with twin := { e.twin with exchangeFailed := true } }
    else d

/-- Thermal shedding at cycle 0 (R467): it starts under a normal plan at 125 °C; it ends under a hot one, or after 1,000 exposures
in which every reading is below 120 °C. -/
def State.shedExposure (s : State) : State :=
  if !s.faults.shedding then (if s.plan.variant = 0 ∧ s.junctionHot = true then s.setShedding true else s)
  else if s.plan.variant = 1 then s.setShedding false
  else
    let n := if s.hottest < 1920 ∧ s.validSensors ≠ [] then s.faults.coolExposures + 1 else 0
    let t : State := { s with faults := { s.faults with coolExposures := n } }
    if 1000 ≤ n then t.setShedding false else t

end Sys2Proof.Machine
end

