-- ==== Sys2Proof/Machine/Keys.lean ====
section
/-! DEFINITION. Meanings of the key-store commands (R320 to R338). -/

namespace Sys2Proof.Machine

/-! ### Import (R325) -/

/-- Fields of an import record (Table 12.3). -/
structure ImportRecord where
  target : Nat
  parent : Nat
  mask : Nat
  flags : Nat
  expiry : Nat
  body : Octets
  signer : Nat
  signed : Octets
  signature : Octets
  length : Nat
  reservedOk : Bool
deriving DecidableEq, Repr

def parseImport (d : Octets) : ImportRecord :=
  let w (a n : Nat) : Nat := beNat (slice d a n)
  { target := w 0 2, parent := w 2 2, mask := w 4 1, flags := w 5 1, expiry := w 6 6, body := slice d 16 40, signer := w 56 2,
    signed := d.take 64, signature := slice d 64 64, length := d.length,
    reservedOk := decide (w 0 2 < 4096 ∧ w 2 2 < 4096 ∧ w 5 1 < 4 ∧ w 12 4 = 0 ∧ w 56 2 < 4096 ∧ w 58 6 = 0)
      && (bit (w 5 1) 1 || decide (w 56 2 = 0)) && (!bit (w 5 1) 0 || decide (w 48 8 = 0)) }

/-- Check 1 of Table 12.4. -/
def ImportRecord.formOk (r : ImportRecord) : Bool :=
  (if bit r.flags 1 then decide (r.length = 128) else decide (r.length = 64)) && r.reservedOk && maskOk r.mask
    && (!bit r.flags 0 || decide (r.mask = 4))

/-- The signature of a message verifies under the key of a slot: a fetch by the verifier (R322). -/
def State.signedBy (s : State) (n : Nat) (msg sig : Octets) : State × Bool :=
  match s.fetchKey n unitVerifier with
  | (t, none) => (t, false)
  | (t, some k) => (t, Config.ed25519Verify k msg sig)

/-- The slot receives a key (R325). -/
def State.placeKey (s : State) (r : ImportRecord) (key : Octets) : State :=
  let x := s.slot r.target
  let (ma, s1) := s.drawMask
  let (mb, s2) := s1.drawMask
  (s2.setSlot r.target { state := 1, mask := r.mask, parent := r.parent, depth := (s.slot r.parent).depth + 1,
                         generation := nextGeneration x.generation, expiry := r.expiry, key := key,
                         maskA := ma, maskB := mb, maskedA := s.now, maskedB := s.now }).bump 0x2A00 6

/-- A refused import is counted (R325). -/
def State.importRefused (s : State) (c : Nat) : Attempt := (s.bump 0x2A00 7, some c)

/-- The import checks in the order of Table 12.4. -/
def keyImportOp (d : Octets) (s : State) : Attempt :=
  let r := parseImport d
  let p := s.slot r.parent
  let st := s.slotState r.target
  if !r.formOk then s.importRefused 0x0A1E0090
  else if r.target = 0 ∨ ¬(st = 0 ∨ st = 4) then s.importRefused 0x0A1E0091
  else if s.slotState r.parent ≠ 1 ∨ !bit p.mask unitWrap ∨ 6 < p.depth then s.importRefused 0x0A1E0092
  else
    let signed := bit r.flags 1
    if !signed && decide (s.obj 0x2A00 5 = 1) then s.importRefused 0x0A1E0094
    else
      let vOk := !signed || s.wrapUnitOk
      let (s1, ok) := if signed && vOk then s.signedBy r.signer r.signed r.signature else (s, true)
      if !ok then s1.importRefused 0x0A1E0094
      else if !vOk then (s1.wrapUnitFailed 4).importRefused 0x0A1E009A
      else if !s1.wrapUnitOk then (s1.wrapUnitFailed 3).importRefused 0x0A1E009A
      else if bit r.flags 0 then (s1.placeKey r (r.body.take 32), none)
      else match s1.fetchKey r.parent unitWrap with
        | (s2, none) => s2.importRefused 0x0A1E0093
        | (s2, some k) => match Config.aesKwUnwrap k r.body with
          | none => s2.importRefused 0x0A1E0093
          | some key => (s2.placeKey r key, none)

/-- KEY_IMPORT (R325). -/
def execKeyImport (t : Transport) (data : Octets) (s : State) : Host.Outcome State Fault Refusal :=
  .next (s.commandA t 0x2A02 0 (keyImportOp data))

/-! ### Root, policy, invalidation -/

/-- Loading the root into an empty slot 0 (R324); its copy to the darkroom is pending (R84). -/
def rootLoadOp (d : Octets) (s : State) : Except Nat State :=
  if s.slotState 0 ≠ 0 ∨ d.length ≠ 32 then .error 0x0A1E0096
  else
    let (ma, s1) := s.drawMask
    let (mb, s2) := s1.drawMask
    let t := s2.setSlot 0 { state := 1, mask := 8, generation := nextGeneration (s.slot 0).generation, key := d,
                            maskA := ma, maskB := mb, maskedA := s.now, maskedB := s.now }
    .ok { t with mgmt := { t.mgmt with copies := t.mgmt.copies.filter (· ≠ okey 0 0 0x2A04 0) ++ [okey 0 0 0x2A04 0] } }

/-- ROOT_LOAD (R324). -/
def execRootLoad (t : Transport) (data : Octets) (s : State) : Host.Outcome State Fault Refusal :=
  .next (s.command t 0x2A04 0 (rootLoadOp data))

/-- The 64 octets that a policy release signs (R326). -/
def releaseMessage : Octets := padTo 64 (beOctets 4 0x5349474E)

/-- Some valid verifier key in the tree. -/
def State.verifiers (s : State) : List Nat :=
  s.keys.slots.keys.filter fun n => decide (s.slotState n = 1) && bit (s.slot n).mask unitVerifier

/-- The release verifies under a valid verifier key, which is fetched for it (R322, R326). -/
def policyReleaseOp (d : Octets) (s : State) : Except Nat State :=
  if d.length = 128 ∧ d.take 64 = releaseMessage then
    (match s.verifiers.find? fun n => Config.ed25519Verify (s.slot n).key (d.take 64) (d.drop 64) with
    | none => .error 0x0A1E0094
    | some n => .ok ((s.fetchKey n unitVerifier).1.takeEffect (okey 0 0 0x2A00 5) 0))
  else .error 0x0A1E0094

/-- SIGNED_POLICY_RELEASE (R326). -/
def execSignedPolicyRelease (t : Transport) (data : Octets) (s : State) : Host.Outcome State Fault Refusal :=
  .next (s.command t 0x2A05 0 (policyReleaseOp data))

/-- A write of 0x2A00.05 (R326). -/
def signedPolicyOp (v : Nat) (s : State) : Except Nat State :=
  if 1 < v then .error 0x06090030
  else if v = 1 then (if s.verifiers = [] then .error 0x0A1E0097 else .ok (s.takeEffect (okey 0 0 0x2A00 5) 1))
  else if s.slotState 0 = 1 then .error 0x0A1E0094
  else .ok (s.takeEffect (okey 0 0 0x2A00 5) 0)

/-- A slot and its descendants are orphaned (R327). -/
def State.orphan (s : State) (n : Nat) : State :=
  (s.keys.slots.keys.filter fun k => s.descends n 8 k && decide ((s.slot k).state ≠ 0 ∧ (s.slot k).state ≠ 4)).foldl
    (fun (t : State) k => t.setSlot k { t.slot k with state := 3 }) s

def invalidateOp (v : Nat) (s : State) : Except Nat State :=
  let n := v % 4096
  let st := s.slotState n
  if v = 0xF000 then (if st = 0 ∨ st = 3 ∨ st = 4 then .error 0x0A1E0095 else .ok (s.zeroise 4))
  else if n = 0 then .error 0x0A1E0095
  else if 4096 ≤ v then .error 0x06090030
  else if st = 0 ∨ st = 3 ∨ st = 4 then .error 0x0A1E0095
  else .ok (s.orphan n).checkCurrent

/-- INVALIDATE (R327). -/
def execInvalidate (t : Transport) (value : Nat) (s : State) : Host.Outcome State Fault Refusal :=
  .next (s.command t 0x2A03 0 (invalidateOp value))

/-- Orphaned slots are overwritten with zeros and enter state 4 (R327). -/
def State.eraseOrphans (s : State) : State :=
  (s.keys.slots.keys.filter fun k => decide ((s.slot k).state = 3)).foldl (fun (t : State) k =>
    t.setSlot k { t.slot k with state := 4, key := [], maskA := [], maskB := [] }) s

/-- ORPHAN_ERASE (R327). -/
def execOrphanErase (s : State) : Host.Outcome State Fault Refusal := .next (s.whenServing State.eraseOrphans)

/-! ### Tables -/

/-- A write of generation entry `k` (R334). -/
def cookieGenerationOp (k v : Nat) (s : State) : Except Nat State :=
  let others := (List.range 16).filter fun i => decide (i + 1 ≠ k)
  if k = 0 ∨ 16 < k then .error 0x06090011
  else if field v 29 28 ≠ 0 ∨ 2 ^ 32 ≤ v then .error 0x06090030
  else
    let x := s.slot (entrySlot v)
    if entryValid v && (decide (s.slotState (entrySlot v) ≠ 1) || !bit x.mask unitAes || decide (x.generation ≠ v % 65536)) then .error 0x0A1E0097
    else if entryValid v && (others.any fun i => entryValid (s.generationEntry (i + 1)) && decide (entrySlot (s.generationEntry (i + 1)) = entrySlot v)) then
      .error 0x0A1E0098
    else
      let t := if entryCurrent v then
          others.foldl (fun (t : State) i => if entryCurrent (t.generationEntry (i + 1)) then
            t.setObj 0x2A10 (i + 1) (putBit (t.generationEntry (i + 1)) 30 false : Nat) else t) s
        else s
      let u := t.setObj 0x2A10 k v
      if u.ntpEnabled && u.currentEntry.isNone then .error 0x0A1E0098 else .ok u.checkCurrent

/-- COOKIE_GENERATION_WRITE (R334). -/
def execCookieGenerationWrite (t : Transport) (sub value : Nat) (s : State) : Host.Outcome State Fault Refusal :=
  .next (s.command t 0x2A10 sub (cookieGenerationOp sub value))

/-- A write of the selected association entry (R336). -/
def associationOp (d : Octets) (s : State) : Except Nat State :=
  let w (a n : Nat) : Nat := beNat (slice d a n)
  let a : Association := ⟨bit (w 0 1) 7, w 1 1, w 2 4, w 6 2, w 8 2⟩
  let n := s.obj 0x2A20 1
  if d.length ≠ 10 then .error 0x06070010
  else if w 0 1 % 128 ≠ 0 ∨ 4096 ≤ a.slot then .error 0x06090030
  else if a.valid && (decide (s.slotState a.slot ≠ 1) || !bit (s.slot a.slot).mask unitHmac || decide ((s.slot a.slot).generation ≠ a.generation)) then
    .error 0x0A1E0097
  else if a.valid && ((List.range 64).any fun k => decide (k ≠ n) && (s.association k).valid
      && decide ((s.association k).spp = a.spp ∧ (s.association k).keyId = a.keyId)) then .error 0x0A1E0098
  else .ok { s with keys := { s.keys with associations := s.keys.associations.put (fun _ => {}) n a } }

/-- ASSOCIATION_ENTRY_WRITE (R336). -/
def execAssociationEntryWrite (t : Transport) (data : Octets) (s : State) : Host.Outcome State Fault Refusal :=
  .next (s.command t 0x2A20 2 (associationOp data))

/-- A write of the tamper enables (R333). -/
def tamperEnableOp (v : Nat) (s : State) : Except Nat State :=
  if 3 < v then .error 0x06090030
  else if clearBits (s.obj 0x2A30 1) v ≠ 0 ∧ s.slotState 0 = 1 then .error 0x0A1E0099
  else .ok (s.takeEffect (okey 0 0 0x2A30 1) v)

/-- TAMPER_ENABLE_WRITE (R333). -/
def execTamperEnableWrite (t : Transport) (value : Nat) (s : State) : Host.Outcome State Fault Refusal :=
  .next (s.command t 0x2A30 1 (tamperEnableOp value))

/-! ### Zeroisation, darkroom re-mask -/

/-- ZEROISATION (R331): cause 1 or 2 a tamper input that is enabled, 3 VBAT, 4 the root invalidated. A loss
of VBAT erases every section of the store (R440). -/
def execZeroisation (cause : Nat) (s : State) : Host.Outcome State Fault Refusal :=
  .next (if cause = 1 ∨ cause = 2 then
      (let t : State := { s with keys := { s.keys with tamper := putBit s.keys.tamper (cause - 1) true } }
       if bit (s.obj 0x2A30 1) (cause - 1) then t.zeroise cause else t)
    else if cause = 3 then
      (let t := s.zeroise cause
       { t with darkroom := { valid := 0, vbat := false } })
    else if cause = 4 then s.zeroise cause else s)

/-- ROOT_REMASK (R330): on the darkroom's own clock, whatever the main supplies. -/
def execRootRemask (s : State) : Host.Outcome State Fault Refusal :=
  .next (match s.darkroom.root with
    | none => s
    | some _ =>
      let (m, t) := s.drawMask
      { t with darkroom := { t.darkroom with rootMask := xorOctets t.darkroom.rootMask m } })

/-! ### The fixer and known-answer tests (R328, R329, R337) -/

/-- EMCY 0xFF84 and a contained fault, once a reel and plate (R329). -/
def State.overdue (s : State) (p ms : Nat) : State :=
  if bit s.keys.overdue p then s
  else (({ s with keys := { s.keys with overdue := putBit s.keys.overdue p true } }).containedOn p 141 (Nat.min ms 0xFFFFFF)).emcy
    0xFF84 p (Nat.min ms 0xFFFFFFFF)

/-- One plate's interval at a re-mask, in ns, joins the reel's longest. -/
def State.noteInterval (s : State) (p ns : Nat) : State :=
  let ms := ceilDiv ns 1000000
  let t : State := { s with keys := { s.keys with longest := s.keys.longest.put (fun _ => 0) p (Nat.max ms (s.keys.longest.look (fun _ => 0) p)) } }
  if s.obj 0x2A00 2 * 1000000 < ns then t.overdue p ms else t

/-- A fixer visit of one slot on one plate (R328). -/
def State.visit (s : State) (p n : Nat) (health : Bool) : State :=
  let x := s.slot n
  let ns := s.now - (if p = 0 then x.maskedA else x.maskedB)
  if x.state = 0 ∨ x.state = 4 ∨ !health ∨ ns + s.plan.cover * 1000000 ≤ s.obj 0x2A00 2 * 1000000 then s
  else
    let (r, t) := s.drawMask
    let y : Slot := if p = 0 then { x with maskA := xorOctets x.maskA r, maskedA := s.now }
                    else { x with maskB := xorOctets x.maskB r, maskedB := s.now }
    (t.setSlot n y).noteInterval p ns

/-- A cluster's row kind and domain class; `kind` 0 AES-SIV, 1 HMAC-SHA-256. -/
def clusterRow (kind : Nat) : Nat := if kind = 0 then 2 else 3

/-- FIXER (R328): the slots of the step that begins now, on each running plate whose noise source passes its health test. -/
def execFixer (kind cluster : Nat) (healthA healthB : Bool) (s : State) : Host.Outcome State Fault Refusal :=
  .next (s.whenServing fun s =>
    match s.stepNow (clusterRow kind) cluster 0x23 with
    | none => s
    | some x =>
      if !s.domainReady (clusterRow kind) cluster || bit s.keys.heldClusters (8 * kind + cluster) then s.skip (domainLine (clusterRow kind) cluster)
      else (List.range (field x.operand 15 0)).foldl (fun (s : State) k =>
        s.running.foldl (fun (s : State) p => s.visit p (field x.operand 31 16 + k) (if p = 0 then healthA else healthB)) s) s)

/-- Slots whose interval exceeds the period at a reel boundary (R329), and the figures of the last reel. -/
def State.keysReel (s : State) : State :=
  let live := s.keys.slots.keys.filter fun n => decide ((s.slot n).state ≠ 0 ∧ (s.slot n).state ≠ 4)
  let s1 := s.running.foldl (fun (s : State) p => live.foldl (fun (s : State) n =>
    let ns := s.now - (if p = 0 then (s.slot n).maskedA else (s.slot n).maskedB)
    if s.obj 0x2A00 2 * 1000000 < ns then s.noteInterval p ns else s) s) s
  let s2 := [0, 1].foldl (fun (s : State) p => s.setObjP p 0x2A00 9 (s.keys.longest.look (fun _ => 0) p : Nat)) s1
  { s2 with keys := { s2.keys with longest := [], overdue := 0 } }

/-- One plate's known-answer result: counts for 0x2A00.0B and the proof sheet, EMCY 0xFF81. -/
def State.katResult (s : State) (p unit cluster vector : Nat) (pass : Bool) : State :=
  let q := s.plate p
  if pass then s.setPlate p { q with katPassReel := q.katPassReel + 1 }
  else ((s.setPlate p { q with katFail := q.katFail + 1 }).bumpP p 0x2A00 0x0B).emcy 0xFF81 p
    (unit * 2 ^ 24 + cluster * 2 ^ 16 + vector * 2 ^ 8)

/-- KNOWN_ANSWER_TEST (R337): a failure on one plate is fatal to it; on both, the cluster is held until three passes. -/
def execKnownAnswerTest (kind cluster : Nat) (passA passB : Bool) (s : State) : Host.Outcome State Fault Refusal :=
  .next (s.whenServing fun s =>
    match s.stepNow (clusterRow kind) cluster 0x22 with
    | none => s
    | some x =>
      let ln := domainLine (clusterRow kind) cluster
      let key := 8 * kind + cluster
      let pass (p : Nat) : Bool := if p = 0 then passA else passB
      let v := x.operand % 256
      if !s.domainReady (clusterRow kind) cluster ∧ !bit s.keys.heldClusters key then s.skip ln
      else
        let s1 := s.running.foldl (fun (s : State) p => s.katResult p (kind + 1) cluster v (pass p)) s
        let bad := s.running.filter fun p => !pass p
        if bad = [] then
          (if bit s1.keys.heldClusters key then
            { s1 with keys := { s1.keys with passes := s1.keys.passes.put (fun _ => 0) key (s1.keys.passes.look (fun _ => 0) key + 1) } }
          else s1)
        else
          let s2 : State := { s1 with keys := { s1.keys with passes := s1.keys.passes.put (fun _ => 0) key 0 } }
          if bad.length = 2 ∧ bit s2.keys.heldClusters key then s2
          else
            let s3 : State := if bad.length = 2 then { s2 with keys := { s2.keys with heldClusters := putBit s2.keys.heldClusters key true } } else s2
            s3.latchAll (bad.map fun p => ⟨p, ln, 3, v⟩) false)

/-- Clusters with three consecutive passes return to service at an exposure boundary (R337). -/
def State.releaseClusters (s : State) : State :=
  (bitsSet s.keys.heldClusters 16).foldl (fun (s : State) key =>
    if s.keys.passes.look (fun _ => 0) key < 3 then s
    else
      let ln := domainLine (clusterRow (key / 8)) (key % 8)
      { s with keys := { s.keys with heldClusters := putBit s.keys.heldClusters key false, passes := s.keys.passes.drop key },
               faults := { s.faults with notReadyLines := s.faults.notReadyLines.filter (· ≠ ln) } }) s

end Sys2Proof.Machine
end

