-- ==== Sys2Proof/Machine/MgmtOps.lean ====
section
/-! DEFINITION. The darkroom store, windows, node ID and NMT: shared operations of management and start-up (R77 to R80, R84, R421,
R433, R437 to R440). -/

namespace Sys2Proof.Machine

/-! ### Windows (R437) -/

/-- The item of a window that the selectors name, as the model numbers the items of two-selector windows: 8 × lane + pattern, 32 ×
port + channel; 0 outside a window. Selectors themselves, common sub-indices and derived values stand at item 0. -/
def State.itemOf (s : State) (idx sub : Nat) : Nat :=
  if sub = 0 then 0
  else match idx with
    | 0x2410 => if sub = 2 then s.obj 0x2410 1 else 0
    | 0x2606 => if 2 ≤ sub then s.obj 0x2606 1 else 0
    | 0x2701 => if 3 ≤ sub then 8 * s.obj 0x2701 1 + s.obj 0x2701 2 else 0
    | 0x2801 => if 2 ≤ sub then s.obj 0x2801 1 else 0
    | 0x2802 => if sub = 2 then s.obj 0x2802 1 else 0
    | 0x2B01 => if 3 ≤ sub then 32 * s.obj 0x2B01 1 + s.obj 0x2B01 2 else 0
    | 0x2E03 => if 2 ≤ sub then s.obj 0x2E03 1 else 0
    | 0x2E04 => if 2 ≤ sub then s.obj 0x2E04 1 else 0
    | 0x2F40 => if sub = 2 then s.obj 0x2F40 1 else 0
    | _ => 0

/-- Octets of the selector value in a record of section A (R439). -/
def selectorOctets (idx : Nat) : Nat :=
  match idx with
  | 0x2410 => 1 | 0x2606 => 1 | 0x2701 => 2 | 0x2801 => 1 | 0x2802 => 2 | 0x2B01 => 2 | 0x2E03 => 1 | _ => 0

/-! ### Sections of the store (R438, R439) -/

/-- The section that holds a P object, as its bit of 0x2F01.09. -/
def sectionOf (k : Nat) : Nat :=
  let idx := okeyIndex k
  let sub := okeySub k
  if (idx = 0x2201 ∧ (sub = 1 ∨ sub = 2)) ∨ (idx = 0x2202 ∧ 1 ≤ sub ∧ sub ≤ 4) then 3
  else if (idx = 0x2401 ∧ 1 ≤ sub ∧ sub ≤ 0x0A) ∨ (idx = 0x2407 ∧ sub = 2) then 4
  else 1

/-- The size of a record of section A. -/
def recordSize (k : Nat) : Nat :=
  5 + selectorOctets (okeyIndex k) + (match dictRow (okeyIndex k) (okeySub k) with
    | none => 0
    | some e => e.ty.size.getD 0)

/-- Octets of section A in use (0x2020.03). -/
def State.sectionUsed (s : State) : Nat := (s.darkroom.secA.map fun (e : Nat × Option Int) => recordSize e.1).sum
def State.sectionFree (s : State) : Nat := 3584 - s.sectionUsed

/-- The default that a record of an object would equal: 0x1014 follows the node ID (R433). -/
def State.storeDefault (s : State) (k : Nat) : Int := if okeyIndex k = 0x1014 then (0x80 + s.node : Nat) else dictDefault k

/-- A copy of a value to its section; a value at its default leaves no record of section A. -/
def State.storeKey (s : State) (k : Nat) : State :=
  let v := s.objKey k
  let d := s.darkroom
  if sectionOf k = 3 then { s with darkroom := { d with secC := d.secC.put noneOf k (some v) } }
  else if sectionOf k = 4 then { s with darkroom := { d with secD := d.secD.put noneOf k (some v) } }
  else { s with darkroom := { d with secA := d.secA.put noneOf k (if v = s.storeDefault k then none else some v) } }

/-- Whether a copy fits: only a new record of section A may lack room (R439). -/
def State.copyFits (s : State) (k : Nat) : Bool :=
  decide (sectionOf k ≠ 1) || decide (s.objKey k = s.storeDefault k) || (s.darkroom.secA.look noneOf k).isSome
    || decide (recordSize k ≤ s.sectionFree)

/-- The root's copy (R84, R324): its key under a fresh mask. -/
def State.storeRoot (s : State) : State :=
  if (s.slot 0).state = 0 then s
  else
    let (m, t) := s.drawMask
    { t with darkroom := { t.darkroom with root := some (s.slot 0).key, rootMask := m } }

/-- PERSISTENCE_COPY (R84, R439): a pending copy is made, or fails on the line or for want of room. -/
def execPersistenceCopy (index sub item : Nat) (ok : Bool) (s : State) : Host.Outcome State Fault Refusal :=
  let k := okey 0 item index sub
  .next (if !s.mgmt.copies.contains k || s.boot.inReset then s
    else
      let t : State := { s with mgmt := { s.mgmt with copies := s.mgmt.copies.filter (· ≠ k) } }
      if ok && s.copyFits k then (if index = 0x2A04 then t.storeRoot else t.storeKey k).storeWrite
      else (t.bump 0x2004 6).emcy 0xFF01 0xFF (index * 2 ^ 16 + sub * 2 ^ 8))

/-- Every persistent value in force that differs from its default, as section A would hold it. -/
def State.sectionA (s : State) : Table (Option Int) :=
  s.objs.foldl (fun (t : Table (Option Int)) (e : Nat × Int) =>
    if isPersistent e.1 && decide (sectionOf e.1 = 1) && decide (e.2 ≠ s.storeDefault e.1) then t.put noneOf e.1 (some e.2) else t) []

/-- One section written in full with the values in force, and valid again (R421). -/
def State.writeSection (s : State) (n : Nat) : State :=
  let held (m : Nat) : Table (Option Int) := s.objs.foldl (fun (t : Table (Option Int)) (e : Nat × Int) =>
    if sectionOf e.1 = m then t.put noneOf e.1 (some e.2) else t) []
  let t : State := match n with
    | 1 => { s with darkroom := { s.darkroom with secA := s.sectionA } }
    | 2 => if (s.slot 0).state = 0 then { s with darkroom := { s.darkroom with root := none, rootMask := [] } } else s.storeRoot
    | 3 => { s with darkroom := { s.darkroom with secC := held 3 } }
    | 4 => { s with darkroom := { s.darkroom with secD := held 4 } }
    | _ => s
  ({ t with darkroom := { t.darkroom with valid := putBit t.darkroom.valid n true, rewrite := putBit t.darkroom.rewrite n false } }).storeWrite

/-- Section E: the mapping and terms 1 to 4 of time base 0 (R176), in units of 2⁻¹⁶ ps. -/
def State.mapping (s : State) (count : Nat) : SectionE :=
  { value := s.tai, count := count, terms := (s.tableSet 0).b.map fun (n : Nat) => (n : Int) }

/-- The per-reel transfer to the darkroom (R176, R389, R421): the mapping and the model, then every marked section; the third failure
in a row latches a darkroom fault, and the third success in a row with every section valid clears it. The learned TCXO frequency has
no stated law (log 5). -/
def State.darkroomReel (s : State) (railError : Bool) (count : Nat) : State :=
  if railError then
    let d : Darkroom := { s.darkroom with failures := s.darkroom.failures + 1, successes := 0 }
    let t : State := { s with darkroom := d }
    if d.failures = 3 then t.darkroomFault else t
  else
    let (y, a0) := s.drawInt
    let a := a0.setObj 0x2407 2 y
    let b := ([1, 2, 3, 4, 5, 6, 7, 8, 9, 10].map (fun k => okey 0 0 0x2401 k) ++ [okey 0 0 0x2407 2]).foldl State.storeKey
      { a with darkroom := { a.darkroom with count := count, secE := some (a.mapping count), secEOld := a.darkroom.secE, secDOld := a.darkroom.secD,
                                             historyOld := a.darkroom.history, failures := 0, successes := a.darkroom.successes + 1 } }
    let c := b.storeWrite
    let marked := (List.range 7).filter fun n => !bit c.darkroom.valid n || bit c.darkroom.rewrite n
    let e := marked.foldl State.writeSection c
    if e.darkroom.fault ∧ 3 ≤ e.darkroom.successes ∧ e.darkroom.valid = 0x7F then { e with darkroom := { e.darkroom with fault := false } } else e

/-! ### Node ID and NMT (R77 to R80) -/

/-- Straps and node ID as a Reset Communication or a power-up reads them; 0x1014 follows while no record holds it (R433), and the
data-phase rate comes into force (R79). -/
def State.readNode (s : State) (straps : Nat) : State :=
  let v := straps % 128
  let n := if v ≠ 0 then v else s.obj 0x2002 1
  let a := (({ s with mgmt := { s.mgmt with straps := v, bitRate := s.obj 0x2003 1 } } : State).setObj 0x2002 2 v).setObj 0x2002 3 n
  let k := okey 0 0 0x1014 0
  if (a.darkroom.secA.look noneOf k).isNone && !a.mgmt.copies.contains k then a.setKey k (0x80 + n : Nat) else a

/-- The boot-up message, then Pre-operational (R79); the count of lost EMCY frames follows it (R97). -/
def State.bootUp (s : State) : State :=
  let f := OutFrame.bootUp s.node
  let a := (s.pushCan f).pushSpi f
  ({ a with mgmt := { a.mgmt with nmt := 0x7F } } : State).reportLost

/-- EMCY frames among those waiting for the SPI host. -/
def OutFrame.isEmcy : OutFrame → Bool
  | .emcy .. => true
  | _ => false

/-- A transfer ends; a plan image half received is discarded (R62, R80). -/
def State.endTransfer (s : State) : State :=
  let t : State := { s with mgmt := { s.mgmt with transfer := none } }
  if s.plans.status = 1 then { t with plans := { t.plans with status := 0 } } else t

/-- Reset Communication (R79, R80): controllers, server and queues are reset, waiting frames are lost, each lost EMCY counted. DESIGN
CHOICE: an EMCY lost from both the hold and the SPI queue counts once, and one that waited for SPI alone joins the count of 0xFF00
although it has left on CAN (log 78). -/
def State.resetComm (s : State) (straps : Nat) : State :=
  let only := s.mgmt.emcyHold.foldl List.erase (s.mgmt.spiQueue.filter OutFrame.isEmcy)
  let n := s.mgmt.emcyHold.length + only.length
  let a := s.endTransfer.bumpBy 0x2004 5 n
  let m : Mgmt := { a.mgmt with nmt := 0, canState := 0, canTx := [], emcyHold := [], spiQueue := [], miso := [], canSent := none, requests := [],
                                lost := a.mgmt.lost + n }
  (({ a with mgmt := m } : State).readNode straps).bootUp

/-- An NMT command for this node (R78, R79). Before the boot-up message the management unit does not run. -/
def State.nmtCommand (s : State) (cmd node straps : Nat) : State :=
  if s.mgmt.nmt = 0 ∨ ¬(node = 0 ∨ node = s.node) then s
  else match cmd with
    | 0x01 => ({ s with mgmt := { s.mgmt with nmt := 0x05 } } : State).reportLost
    | 0x02 => { s with mgmt := { s.mgmt with nmt := 0x04 } }
    | 0x80 => ({ s with mgmt := { s.mgmt with nmt := 0x7F } } : State).reportLost
    | 0x81 => settleRegister s (s.resetComm straps)
    | 0x82 => settleRegister s (s.resetComm straps)
    | _ => s

end Sys2Proof.Machine
end

