-- ==== Sys2Proof/Machine/References.lean ====
section
/-! DEFINITION. Meanings of the reference and selector commands (R123 to R143). -/

namespace Sys2Proof.Machine

/-- The enable as it will stand at the next cycle 0 (R125). -/
def State.willEnable (s : State) (r : Nat) : Bool := (s.loupe r).pendEnable.getD (decide (s.obj (0x3100 + r) 1 = 1))

/-- Whether a virtual source names an instance in range (Table 5.1). -/
def sourceInRange (src inst : Nat) : Bool :=
  match src with
  | 1 => decide (inst ≤ 1)
  | 2 => decide (inst ≤ 7)
  | 3 => decide (inst ≤ 7)
  | 4 => decide (inst ≤ 23)
  | _ => false

/-- The refusals of an enable (R125), on the source, kind and nominal frequency as they will stand. -/
def State.enableRefused (s : State) (r : Nat) : Bool :=
  let w := s.will (0x3100 + r) 2
  let src := w / 256
  let inst := w % 256
  let kind := s.will (0x3100 + r) 3
  let f := s.will (0x3100 + r) 4
  let virt := decide (16 ≤ r)
  (virt && !sourceInRange src inst)
    || (virt && (refNumbers.any fun k => decide (16 ≤ k ∧ k ≠ r) && s.willEnable k && decide (s.will (0x3100 + k) 2 = w)))
    || (virt && decide (src = 2) && decide (s.obj (0x2320 + inst) 1 ≠ 1))
    || (virt && decide (src = 3) && decide (s.obj (0x2320 + inst) 1 ≠ 2))
    || (virt && decide (src = 1) && decide (s.obj 0x2010 1 ≠ 1))
    || (!virt && decide (kind = 2) && decide (f ≠ 1000000))
    || (!virt && decide (kind = 1) && decide (f < 1000000000 ∨ 1250000000000000 < f))

/-- An enable or disable of a reference, effective at the next exposure boundary (R125). -/
def referenceEnableOp (r value : Nat) (s : State) : Except Nat State :=
  if 1 < value then .error 0x06090030
  else if value = 1 then
    if s.enableRefused r then .error 0x0A1E0028
    else if s.willEnable r then .ok s
    else .ok (s.setLoupe r { s.loupe r with pendEnable := some true })
  else .ok (s.setLoupe r { s.loupe r with pendEnable := some false })

/-- REFERENCE_ENABLE (R125). -/
def execReferenceEnable (t : Transport) (r value : Nat) (s : State) : Host.Outcome State Fault Refusal :=
  .next (s.command t (0x3100 + r) 1 (referenceEnableOp r value))

/-- The number of the prescaler *P* of a REFIN input (R124): kind 2 inputs are timestamped on every edge. -/
def State.prescaler (s : State) (r : Nat) : Nat := if s.refKind r = 2 then 1 else Nat.max 1 (prescale (s.nominal r))

/-- The TDC of a REFIN front end among the event inputs' TDCs. -/
def refinTdc (r : Nat) : Nat := 48 + r

/-- The timestamp of a REFIN edge on time base 0 (R115, R124, R127): `fine` in units of 0.5 ps, *d*_board = .09, *d*_skew of its TDC. -/
def State.refStamp (s : State) (r : Nat) (fine : Int) : Int :=
  let v := fine - 2 * s.objI (0x3100 + r) 9 - 2 * (s.input (refinTdc r)).skew
  roundDivI (s.tai * 2000 + v * s.increment 0) (2000 * 2 ^ 28)

/-- An edge at the pad (R124): the activity detector counts it, the prescaler passes every *P*-th, and the TDC converts one that comes at
least 100 ns after the last it converted (R116). -/
def State.refEdge (s : State) (r : Nat) (fine : Int) : State :=
  let l := s.loupe r
  let pass := decide (l.scaled = 0)
  let l1 : Loupe := { l with active := true, pads := (l.pads + 1) % 2 ^ 32, lastPad := some s.now, scaled := (l.scaled + 1) % s.prescaler r }
  let dead := match l.lastEdge with | none => false | some c => decide (s.now - c < 100)
  if pass && !dead then (s.setLoupe r { l1 with lastEdge := some s.now }).tagItem (24 + r) tdcCycles (.refEdge s.now (s.refStamp r fine))
  else s.setLoupe r l1

/-- REFIN_EDGE (R124): `fine` is the calibrated phase in units of 0.5 ps after the start of the event cycle. -/
def execRefinEdge (r : Nat) (fine : Int) (s : State) : Host.Outcome State Fault Refusal :=
  .next (s.whenServing fun s =>
    if (s.loupe r).state = 0 ∨ bit s.intake.faults (24 + r) then s else s.refEdge r fine)

/-- Measured periods between two timestamps of a kind 1 reference, nearest: `P` pad periods of `f` µHz each (R127). -/
def periodsBetween (P f : Nat) (d : Int) : Int := roundDivI (d * f) (Nat.max 1 (P * 10 ^ 15 * 2 ^ 32))

/-- A kind 1 edge delivered: its phase, accumulated since the reference last entered Qualifying and unwrapped over measured periods
(R127). A count of pad edges other than *P* in a measured period is a phase hit, short of a loss (R130). -/
def State.deliverPeriod (s : State) (r cycle : Nat) (stamp : Int) : State :=
  let l := s.loupe r
  let f := s.nominal r
  let P := s.prescaler r
  match l.stamp, l.origin with
  | some t0, some o =>
    let n := l.periods + periodsBetween P f (stamp - t0)
    let x := roundDivI (n * ((P * 10 ^ 18 * 2 ^ 32 : Nat) : Int) - (stamp - o) * 1000 * (f : Int)) (Nat.max 1 (f * 2 ^ 32))
    let s1 := s.setLoupe r { l with stamp := some stamp, periods := n, waiting := [(cycle, x)] }
    if periodsBetween 1 f (stamp - t0) ≠ (P : Int) then s1.phaseHit r else s1
  | _, _ => s.setLoupe r { l with stamp := some stamp, origin := some stamp, periods := 0, waiting := [(cycle, 0)] }

/-- The predicted second to which a kind 2 edge belongs (R130): that whose predicted instant lies nearest; none without a prediction. -/
def State.predictedSecond (s : State) (r cycle : Nat) (stamp : Int) : Option Int :=
  (s.predicted r cycle).map fun x => roundDivI (stamp + psTo32 x) (1000000000 * 2 ^ 32)

/-- A kind 2 edge delivered: one more in the second of another is an extra edge, a phase hit once in a second (R130). -/
def State.deliverPps (s : State) (r cycle : Nat) (stamp : Int) : State :=
  let l := s.loupe r
  let g := s.predictedSecond r cycle stamp
  let l1 : Loupe := { l with stamp := some stamp, second := g, waiting := l.waiting ++ [(cycle, stamp)] }
  if g.isSome ∧ l.second = g ∧ l.extraIn ≠ g then (s.setLoupe r { l1 with extraIn := g }).phaseHit r else s.setLoupe r l1

/-- A REFIN edge delivered to the plates (R15). -/
def State.deliverEdge (s : State) (r cycle : Nat) (stamp : Int) : State :=
  if (s.loupe r).state = 0 then s else if s.refKind r = 2 then s.deliverPps r cycle stamp else s.deliverPeriod r cycle stamp

/-- The phase of a kind 2 edge, ps (R127): the nearest TAI second minus the timestamp. -/
def ppsPhase (stamp : Int) : Int := roundDivI ((roundDivI stamp (1000000000 * 2 ^ 32) * second32 - stamp) * 1000) (2 ^ 32)

/-- The edge of a list whose timestamp lies nearest an instant. -/
def nearestEdge (at32 : Int) : List (Nat × Int) → Option (Nat × Int)
  | [] => none
  | e :: r => match nearestEdge at32 r with
    | none => some e
    | some f => if (f.2 - at32).natAbs < (e.2 - at32).natAbs then some f else some e

/-- The measurement of a kind 2 reference (R127, R130). Without a prediction every edge is one; with it the edge nearest the predicted
instant is, once its period of 1 s has ended, and the others in that period are never labelled. -/
def State.measurePps (s : State) (r : Nat) : State :=
  let l := s.loupe r
  match l.waiting with
  | [] => s
  | e :: rest =>
    let next (t : State) (w : List (Nat × Int)) : State := t.setLoupe r { t.loupe r with waiting := w }
    match s.predictedSecond r e.1 e.2, s.predicted r e.1 with
    | some g, some x =>
      let at32 := g * second32 - psTo32 x
      if 2 * (s.base32 0 - at32) < second32 then s
      else
        let mine (k : Nat × Int) : Bool := decide (2 * (k.2 - at32).natAbs ≤ second32.toNat)
        match nearestEdge at32 (l.waiting.filter mine) with
        | none => next s rest
        | some k => (next s (rest.filter fun j => !mine j)).measuredPps r k.1 k.2 (ppsPhase k.2)
    | _, _ => (next s rest).measuredPps r e.1 e.2 (ppsPhase e.2)

/-- The measurement of a physical kind 1 reference: the phase at its last edge. -/
def State.measurePeriod (s : State) (r : Nat) : State :=
  let l := s.loupe r
  match l.waiting, l.stamp with
  | e :: _, some t => (s.setLoupe r { l with waiting := [] }).measuredAt r e.1 t e.2
  | _, _ => s

/-- LOUPE_MEASUREMENT (R127): `x` is the phase that a SyncE lane's clock has accumulated, or the offset that a kind 3 source reports,
in ps; a physical reference is measured by its edges. -/
def execLoupeMeasurement (r : Nat) (x : Int) (s : State) : Host.Outcome State Fault Refusal :=
  .next (s.whenServing fun s =>
    if (s.loupe r).state = 0 ∨ (r < 16 ∧ bit s.intake.faults (24 + r)) ∨ s.time.gate ∨ s.refUnitOn r = false then s
    else match s.refKind r with
      | 1 => if r < 16 then s.measurePeriod r else s.measured r x
      | 2 => s.measurePps r
      | _ => s.measured r (x - s.objI (0x3100 + r) 9))

/-- Cycles without a pad edge that make a kind 1 reference Lost (Table 5.5): four nominal periods, at least 2 µs. -/
def State.lossTime (s : State) (r : Nat) : Nat := Nat.max (ceilDiv (4 * 10 ^ 15) (Nat.max 1 (s.nominal r))) 2000

/-- An instance's log interval as cycles. -/
def logCycles (l : Int) : Nat := if 0 ≤ l then 1000000000 * 2 ^ l.toNat else 1000000000 / 2 ^ (-l).toNat

/-- The loss of an upstream instance (Table 5.5): 3 announce intervals without an Announce or 4 Syncs missing; 3 polls without a
reply. -/
def State.upstreamSilent (s : State) (r : Nat) : Bool :=
  let i := s.refInstance r
  let u := s.refs.upstream.look (fun _ => {}) i
  if s.refSource r = 3 then decide (3 ≤ u.missed)
  else decide (u.announceAt + 3 * logCycles u.announceLog ≤ s.now) || decide (u.syncAt + 4 * logCycles (s.objI (0x2320 + i) 5) ≤ s.now)

/-- The detection of a loss (Table 5.5). A SyncE lane's loss is what its receive CDR reports. -/
def State.lossDetected (s : State) (r : Nat) : Bool :=
  let l := s.loupe r
  let quiet (n : Nat) : Bool := match l.lastPad with | none => true | some t => decide (t + n ≤ s.now)
  match s.refSource r with
  | 0 => if s.refKind r = 2 then quiet 1200000000 else quiet (s.lossTime r)
  | 1 => decide (2 ≤ l.misses)
  | 4 => true
  | _ => s.upstreamSilent r

/-- REFERENCE_LOSS (R131): the detection time has passed without activity; a registration gate is no part of it (R173). -/
def execReferenceLoss (r : Nat) (s : State) : Host.Outcome State Fault Refusal :=
  .next (s.whenServing fun s => if s.time.gate || !s.lossDetected r then s else s.refLost r 1)

/-- FREQUENCY_OUT_OF_WINDOW (R131): `y` is the sliding 10 ms count of a kind 1 reference, 10⁻¹⁸. -/
def execFrequencyOutOfWindow (r : Nat) (y : Int) (s : State) : Host.Outcome State Fault Refusal :=
  .next (s.whenServing fun s => if s.refKind r = 1 ∧ s.obj (0x3100 + r) 0x0A < y.natAbs then s.disqualify r 2 else s)

/-- HOLD_OFF_END (R131, R134). -/
def execHoldOffEnd (r : Nat) (s : State) : Host.Outcome State Fault Refusal :=
  .next (s.whenServing fun s => if (s.loupe r).state = 4 ∧ (s.loupe r).holdEnd ≤ s.now then s.requalify r else s)

/-- A manual selection (R137). -/
def manualSelectionOp (value : Nat) (s : State) : Except Nat State :=
  if value = 0xFF then .ok ({ s with refs := { s.refs with armed := false } }.takeEffect (okey 0 0 0x2300 1) 0xFF)
  else if 31 < value then .error 0x06090030
  else if s.obj (0x3100 + value) 1 = 0 ∨ s.rank value = 0 then .error 0x0A1E0029
  else .ok ({ s with refs := { s.refs with armed := true } }.takeEffect (okey 0 0 0x2300 1) value)

/-- MANUAL_SELECTION (R137). -/
def execManualSelection (t : Transport) (value : Nat) (s : State) : Host.Outcome State Fault Refusal :=
  .next (s.command t 0x2300 1 (manualSelectionOp value))

/-- Challenges named are cleared (R143). -/
def clearChallengeOp (mask : Nat) (s : State) : Except Nat State :=
  .ok { s with refs := { s.refs with challenges := s.refs.challenges.filter fun c => !bit mask c.ref } }

/-- CLEAR_CHALLENGE (R143). -/
def execClearChallenge (t : Transport) (mask : Nat) (s : State) : Host.Outcome State Fault Refusal :=
  .next (s.command t 0x2300 0x0A (clearChallengeOp mask))

end Sys2Proof.Machine
end

