-- ==== Sys2Proof/Machine/Switch.lean ====
section
/-! DEFINITION. Intake and switch: received frames, delivery, classification, best-effort egress, the host path, the forwarding
table, ESMC and upstream requests (R13 to R18, R145 to R148, R253 to R261, R267 to R286, R362 to R367). -/

namespace Sys2Proof.Machine

/-! ### Intake faults (R17, R131, R362) -/

/-- An intake unit stops: the reference of a REFIN unit, or a SyncE reference's lane, is lost with reason 0x0A. -/
def State.unitFault (s : State) (src : Nat) : State :=
  let t := s.intakeFault src
  refNumbers.foldl (fun (s : State) r =>
    let hit := decide (r < 16 ∧ src = 24 + r) || (decide (16 ≤ r) && ((decide (s.refSource r = 4) && decide (s.refInstance r = src))
      || (decide (s.refSource r = 1) && decide (88 + s.refInstance r = src))))
    if hit then s.refLost r 0x0A else s) t

/-- INTAKE_FAULT (R17). -/
def execIntakeFault (source : Nat) (s : State) : Host.Outcome State Fault Refusal :=
  .next (s.whenServing fun s => s.unitFault source)

/-- An item that a rail error keeps from both plates (R362). -/
def State.railDrop (s : State) (src : Nat) : State :=
  let t := s.bump 0x2C20 3
  let l := s.now :: (t.intake.railErrors.look (fun _ => []) src).filter fun i => decide (s.now - i < 1000000000)
  let u : State := { t with intake := { t.intake with railErrors := t.intake.railErrors.put (fun _ => []) src l } }
  if 3 ≤ l.length then u.unitFault src else u

/-! ### Received frames (R253 to R255, R261, R366) -/

/-- The length of R254. -/
def rxLength (f : RxFrame) : Nat := f.octets - 4 * Nat.min f.tags 2

/-- The first check of R255 that a frame fails: the sub-index of its counter. -/
def State.rxCheck (s : State) (lane : Nat) (f : RxFrame) : Option Nat :=
  if f.codeError then some 0x1A
  else if f.octets < 64 then some 0x16
  else if s.obj (0x3400 + s.portNumber lane) 4 < rxLength f then some 0x17
  else if !f.fcsOk then some 0x19
  else none

/-- Entries older than the forget time leave the discard table (R366). -/
def State.forget (s : State) : State :=
  let w := s.obj 0x2C30 1 * 1000000
  { s with intake := { s.intake with discard := s.intake.discard.filter fun e => decide (s.now - e.arrival ≤ w) } }

/-- A new entry; a full table evicts its oldest (R366). -/
def State.discardEntry (s : State) (e : DiscardEntry) : State :=
  if s.intake.discard.length < 65536 then { s with intake := { s.intake with discard := s.intake.discard ++ [e] } }
  else
    let t := ({ s with intake := { s.intake with discard := s.intake.discard.drop 1 ++ [e] } }).bump 0x2C30 3
    let due := match t.intake.evictionSent with
      | none => true
      | some i => decide (1000000000 ≤ t.now - i)
    if due then ({ t with intake := { t.intake with evictionSent := some t.now } }).emcy 0xFFA5 0xFF (t.obj 0x2C30 3) else t

/-- Side B's copy, complete earlier in this cycle, gives way to the copy of side A: its item leaves the queue, and the drop and the
unique frame are counted as if A's had come first (R16). -/
def State.copyYields (s : State) (pos : Nat) (f : RxFrame) (seq : Nat) : State :=
  let mine (i : Item) : Bool := decide (i.source = pos + 12) && decide (i.tag = s.now) && (match i.body with
    | .frame g => decide (g.src = f.src) && (match g.trailer with | some tr => decide (tr.sequence = seq) | none => false)
    | _ => false)
  let t := (s.bump (0x2C40 + pos) 3).bump (0x2C40 + pos) 4
  ({ t with intake := { t.intake with items := t.intake.items.filter fun i => !mine i } } : State).bumpBy (0x2C40 + pos) 5 (2 ^ 32 - 1)

/-- The duplicate discard: the state, and whether the frame is delivered (R16, R366). -/
def State.duplicate (s : State) (lane : Nat) (f : RxFrame) : State × Bool :=
  let pos := lane % 12
  let side := lane / 12
  if !s.isPrp pos then (s, true)
  else match f.trailer with
    | none => (s.bump (0x2C40 + pos) 7, true)
    | some tr =>
      let s1 := if tr.lan = 0xA + side then s else s.bump (0x2C40 + pos) 6
      let s2 := s1.forget
      let hit (e : DiscardEntry) : Bool := decide (e.pos = pos ∧ e.mac = f.src ∧ e.seq = tr.sequence ∧ e.side ≠ side)
      if s2.intake.discard.any hit then
        let s3 : State := { s2 with intake := { s2.intake with discard := s2.intake.discard.filter fun e => !hit e } }
        if side = 0 ∧ (s2.intake.discard.any fun e => hit e && decide (e.arrival = s.now)) = true then (s3.copyYields pos f tr.sequence, true)
        else (s3.bump (0x2C40 + pos) 3, false)
      else ((s2.discardEntry ⟨pos, f.src, tr.sequence, side, s2.now⟩).bump (0x2C40 + pos) (4 + side), true)

/-- Whether an upstream reply is for the engine. -/
def isUpstreamReply (f : RxFrame) : Bool :=
  match f.payload with
  | .ntp (some _) _ => true
  | .ptp _ (some _) _ => true
  | _ => false

/-- A UDP frame whose checksum does not hold (R253): 0x0000 stands for "not computed" in IPv4 and is a failure in IPv6. -/
def udpFails (f : RxFrame) : Bool :=
  match f.udp with
  | none => false
  | some (v6, _) => if f.udpChecksum = 0 then v6 else !f.udpChecksumOk

/-- A lane receives frames in hold, up, or in loopback modes 2 and 3. -/
def State.laneReceives (s : State) (lane : Nat) : Bool :=
  let p := s.port (s.portNumber lane)
  decide (p.link = 4 ∨ p.link = 5) || (decide (p.link = 6) && decide (p.loop = 2 ∨ p.loop = 3))

/-- FRAME_RECEIVE_COMPLETE (R253 to R255, R261, R366). -/
def execFrameReceiveComplete (lane : Nat) (f : RxFrame) (s : State) : Host.Outcome State Fault Refusal :=
  .next (s.whenServing fun s =>
    if bit s.intake.faults lane || !s.laneReceives lane then s
    else match s.rxCheck lane f with
      | some sub => s.bump (0x3400 + lane) sub
      | none =>
        let s1 := (s.bump (0x3400 + lane) 0x15).wakePatterns lane f.head
        let (s2, keep) := s1.duplicate lane f
        if !keep then s2
        else if udpFails f && (s2.isServiceAddress f || isUpstreamReply f) then (s2.bump (0x3400 + lane) 0x1B).classify f.address lane
        else s2.tagItem lane 0 (.frame f))

/-- ENTRY_FORGET (R366). -/
def execEntryForget (s : State) : Host.Outcome State Fault Refusal := .next (s.whenServing State.forget)

/-! ### Classification (R272) -/

/-- The instant at which a pause of `q` quanta ends on a port: 512 bit times each at its MAC rate (R258). -/
def State.pauseEnd (s : State) (n q : Nat) : Nat := s.now + ceilDiv (q * 512 * bitTime (s.laneMode n)) 100

/-- Whether a queue of a port, or the whole port as 255, is paused. -/
def State.isPaused (s : State) (n q : Nat) : Bool := (s.port n).paused.any fun e => decide (e.1 = q ∧ s.now < e.2)

/-- A received PAUSE frame (R258): 255 names the whole port. -/
def State.pauseFrame (s : State) (lane quanta : Nat) : State :=
  let n := s.portNumber lane
  let t := s.bump (0x3400 + lane) 0x1E
  if s.obj (0x3400 + n) 0x0C ≠ 1 then t
  else
    let l := (t.port n).paused.filter fun e => decide (e.1 ≠ 255)
    t.setPort n { t.port n with paused := if quanta = 0 then l else l ++ [(255, t.pauseEnd n quanta)] }

/-- A received PFC frame pauses the queue of each priority it names (R258). -/
def State.pfcFrame (s : State) (lane : Nat) (quanta : List (Option Nat)) : State :=
  let n := s.portNumber lane
  let t := s.bump (0x3400 + lane) 0x1E
  if s.obj (0x3400 + n) 0x0C ≠ 2 then t
  else (List.range 8).foldl (fun (s : State) c => match quanta.getD c none with
    | none => s
    | some q =>
      let l := (s.port n).paused.filter fun e => decide (e.1 ≠ c)
      s.setPort n { s.port n with paused := if q = 0 then l else l ++ [(c, s.pauseEnd n q)] }) t

/-- The EEE TLV of a received LLDPDU (R259, R260). -/
def State.lldpFrame (s : State) (lane : Nat) (eee : Option (Nat × Nat)) : State :=
  match eee with
  | none => s
  | some w =>
    let p := s.port lane
    (s.setPort lane { p with eeePartner := some w, wakeNs := Nat.max (1000 * w.2) p.minWake }).checkWake lane

/-- A received ESMC PDU (R145): the QL of every SyncE reference on the lane. -/
def State.esmcFrame (s : State) (lane essm ssm : Nat) : State :=
  let t : State := { s with refs := { s.refs with esmcAt := s.refs.esmcAt.put (fun _ => 0) lane s.now } }
  refNumbers.foldl (fun (s : State) r =>
    if 16 ≤ r ∧ s.refSource r = 4 ∧ s.refInstance r = lane then s.upstreamQuality r (essm % 256 * 256 + ssm % 16) (decide (ssm % 16 = 15)) else s) t

/-- The valid entry that matches a frame, lowest first (R272, Table 10.7). -/
def State.forwardEntry (s : State) (f : RxFrame) : Option Nat :=
  ((List.range 512).map fun n => s.objW n 0x2802 2).find? fun w =>
    bit w 47 && decide (field w 95 48 = f.dst) && (decide (field w 43 32 = 0xFFF) || decide (some (field w 43 32) = f.vlan))

/-- The colour that a frame's source gives it (R275). -/
def State.baseColour (s : State) (f : RxFrame) (lane : Nat) : Colour := if s.isRed f.address lane then 2 else 0

/-- The stored size of a frame in queue 96 or 97 (R267): the IP header without its addresses, the UDP header and the payload; over layer 2 the
PTP message alone. -/
def storedUdp (f : RxFrame) : Nat :=
  let message := match f.payload with
    | .ntp _ m => m.payload
    | .ptp _ _ m => m.octets.length
    | _ => 0
  match f.udp with
  | none => message
  | some (v6, _) => (if v6 then 8 else 12 + f.ipOptions) + 8 + message

/-- A request enters queue 96 or 97 and is bound to its step (R42, R272, R273). `base` is the value of time base 0 at its tag. -/
def State.admitRequest (s : State) (lane : Nat) (f : RxFrame) (base q : Nat) : State :=
  let k := cellsOf (storedUdp f)
  let (t, a, c) := s.decideEntry 0 q k (s.baseColour f lane) true
  match a with
  | .admitted =>
    let (u, room) := t.stage k
    if !room then u.stagingReport
    else
      let r : Request := { lane := lane, frame := f, cells := k, red := decide (c = 2), delivered := u.now, stamp := u.rxTime lane f.arrival base }
      let b := u.bindOne r 0
      let v : State := if q = 96 then { u with fabric := { u.fabric with nts := u.fabric.nts ++ [b] } }
        else { u with fabric := { u.fabric with ptp := u.fabric.ptp ++ [b] } }
      v.notePeak 0 q
  | _ => t

/-- A frame enters queue 98 (R284). -/
def State.admitHost (s : State) (lane : Nat) (f : RxFrame) (base : Nat) (byEntry : Bool) : State :=
  let k := cellsOf f.octets
  let (t, a, c) := s.decideEntry 0 98 k (s.baseColour f lane) true
  match a with
  | .admitted =>
    let (u, room) := t.stage k
    if !room then u.stagingReport
    else
      let h : HostFrame := { seq := u.fabric.hostSeq, lane := lane, byEntry := byEntry, stamp := toTime112 ((u.rxTime lane f.arrival base).toNat * 2 ^ 28),
                             size := f.octets, cells := k, red := decide (c = 2), octets := f.head }
      let v : State := { u with fabric := { u.fabric with hostRx := u.fabric.hostRx ++ [h], hostSeq := (u.fabric.hostSeq + 1) % 65536 } }
      v.notePeak 0 98
  | _ => t

/-- The copies of a forwarded frame, in rising position (R272, R273, R282). -/
def State.forward (s : State) (lane : Nat) (f : RxFrame) (base w : Nat) : State :=
  let ports := (bitsSet (field w 27 16) 12).filter fun p => decide (p ≠ s.portNumber lane % 12)
  let host := bit w 31
  let c := if bit w 15 then field w 10 8 else f.pcp.getD (s.obj 0x2800 7)
  let many := decide (1 < ports.length + bitNat host)
  let t := ports.foldl (fun (s : State) p =>
    let extra := s.prpOctets p
    (s.prpAdvance p).offer s.running (8 * p + c) { kind := .forwarded (f.head.take (f.head.length - 4)), cells := cellsOf (f.octets + extra),
                                                    octets := f.octets + extra, length := rxLength f + extra, copy := many,
                                                    prp := s.prpNumber p } (s.baseColour f lane) true) s
  if host then t.admitHost lane f base true else t

/-- Whether a frame carries a service protocol: 96 for NTP, 97 for PTP (R272 rule 2). -/
def serviceQueue (f : RxFrame) : Option Nat :=
  match f.payload with
  | .ntp .. => some 96
  | .ptp .. => some 97
  | _ => none

/-- A delivered frame is classified by the first rule that applies (R272). -/
def State.classifyFrame (s : State) (lane : Nat) (f : RxFrame) (base : Nat) : State :=
  match f.payload with
  | .pause q => s.pauseFrame lane q
  | .pfc l => s.pfcFrame lane l
  | .lldp w => s.lldpFrame lane w
  | .esmc e m => s.esmcFrame lane e m
  | _ =>
    let svc := if s.isServiceAddress f || isUpstreamReply f then serviceQueue f else none
    match svc with
    | some q => s.admitRequest lane f base q
    | none => match s.forwardEntry f with
      | some w => s.forward lane f base w
      | none => if s.obj 0x2800 8 = 1 then s.admitHost lane f base false else s.bump 0x2800 0x0C

/-! ### Best-effort egress (R52, R278 to R280) -/

/-- Time on the wire of a frame with preamble, minimum inter-packet gap and the guard of 16 ns, in 0.01 ns (R52). -/
def wireTime (mode octets : Nat) : Nat := (octets + 8 + 12) * 8 * bitTime mode + 1600

/-- The DEPART steps of a plan for a position, with their period. -/
def Plan.departSteps (p : Plan) (pos : Nat) : List (PlanStep × Nat) :=
  match p.row 4 pos with
  | none => []
  | some r => (r.steps.filter fun x => decide (x.opcode = 0x30)).map fun x => (x, Nat.max 1 r.period)

/-- A latched plan that takes over at the next reel (Table 2.10). -/
def State.planAfter (s : State) : Option Plan :=
  if s.plans.latched && !s.plans.swapped && decide (s.plans.swapAt = s.clock.reel + 1) then s.waitingPlan else none

/-- 0.01 ns in a reel. -/
def reelTicks100 : Nat := 100000000000

/-- Departure instants of the DEPART steps of a position, in 0.01 ns from the start of this reel: the first at or after now, and the one
after it; past the end of a reel before a swap those of the plan that takes over. -/
def State.departures (s : State) (pos mode : Nat) : List Nat :=
  let now := (s.plan.departSteps pos).flatMap fun x =>
    let q := firstFrom x.1.offset x.2 s.reelSlot
    [gridInstant mode q (field x.1.operand 31 24), gridInstant mode (q + x.2) (field x.1.operand 31 24)]
  match s.planAfter with
  | none => now
  | some p => (now.filter fun d => decide (d < reelTicks100)) ++ (p.departSteps pos).map fun x =>
      reelTicks100 + gridInstant mode x.1.offset (field x.1.operand 31 24)

/-- The time of this reel in 0.01 ns. -/
def State.reelTime (s : State) : Nat := (s.clock.exposure * 1000000 + s.clock.cycle) * 100

/-- The next scheduled departure on a lane that is not released: a departure with nothing bound is released 96 cycles before
its instant (R53). -/
def State.nextDeparture (s : State) (lane : Nat) : Option Nat :=
  let pos := lane % 12
  let t0 := s.reelTime
  let held (d : Nat) : Bool := s.plans.live.any fun f => decide (f.pos = pos ∧ f.due = s.now + (d / 100 - t0 / 100))
  ((s.departures pos (s.laneMode lane)).filter fun d => decide (t0 < d) && (decide (t0 + 9600 < d) || held d)).foldl
    (fun (b : Option Nat) d => match b with
      | none => some d
      | some x => some (Nat.min x d)) none

/-- Whether a frame fits the gap: it ends before the next departure (R52). -/
def State.fitsGap (s : State) (lane : Nat) (f : QFrame) : Bool :=
  match s.nextDeparture lane with
  | none => true
  | some d => decide (s.reelTime + wireTime (s.laneMode lane) f.octets < d)

/-- Heads longer than the egress MTU are dropped, counted in .18 (R256). -/
def State.dropLong (s : State) (lane q : Nat) : Nat → State
  | 0 => s
  | n + 1 => match s.queue (lane / 12) q with
    | [] => s
    | f :: _ =>
      if s.obj (0x3400 + lane) 4 < f.length then
        State.dropLong (((s.popQueue (lane / 12) q).bump (0x3400 + lane) 0x18).copyLost (lane / 12) q f) lane q n
      else s

/-- Under cross-drive a best-effort frame of the active plate is sent on the other lane too (R378): from its start on the active lane it
waits in the queue of that lane, whose link may refuse it (R281; log 98). -/
def State.crossFrame (s : State) (lane q : Nat) (f : QFrame) : State :=
  if !s.crossed (lane % 12) || decide (lane / 12 ≠ s.twin.active) then s
  else
    let p := 1 - s.twin.active
    if s.laneUp (laneOf p (q / 8)) then s.enqueue p q f (if f.red then 2 else 0) else s.copyLost p q f

/-- The frame leaves its queue for the wire; one with a timestamp request waits for its measured departure (R249). -/
def State.startFrame (s : State) (lane q : Nat) (f : QFrame) : State :=
  let t := (s.popQueue (lane / 12) q).crossFrame lane q f
  let l := (t.port lane).started
  t.setPort lane { t.port lane with started := if f.request.isSome then l ++ [f] else l, sending := some f, lastSent := f.wire lane, busyUntil := t.now + (f.octets + 20) * 8 * bitTime (s.laneMode lane) / 100 }

/-- The queues of a lane by falling priority: the first head that fits starts; a head that does not is counted (R52, R280). -/
def State.startBest (s : State) (lane : Nat) : List Nat → State
  | [] => s
  | c :: rest =>
    let q := 8 * (lane % 12) + c
    let t := s.dropLong lane q (s.queue (lane / 12) q).length
    if t.isPaused lane c then State.startBest t lane rest
    else match t.queue (lane / 12) q with
      | [] => State.startBest t lane rest
      | f :: _ => if t.fitsGap lane f then t.startFrame lane q f else State.startBest (t.bumpP (lane / 12) 0x2102 6) lane rest

/-- BEST_EFFORT_START (R52, R258, R280): on the port number's lane. A registration gate stops the datapath (R173). -/
def execBestEffortStart (lane : Nat) (s : State) : Host.Outcome State Fault Refusal :=
  .next (s.whenServing fun s =>
    let p := s.port lane
    let loop2 := decide (p.link = 6) && decide (p.loop = 2)
    if s.time.gate = true ∨ !(s.laneUp lane || loop2) ∨ s.portNumber lane ≠ lane ∨ s.now < p.busyUntil ∨ p.lpi = true ∨ s.isPaused lane 255 = true
        ∨ ¬ (s.running.contains (lane / 12) = true ∨ s.crossed (lane % 12) = true) then s
    else s.startBest lane [7, 6, 5, 4, 3, 2, 1, 0])

/-- HEAD_AGE_DROP (R280): a head that has waited 100 ms. -/
def execHeadAgeDrop (plate queue : Nat) (s : State) : Host.Outcome State Fault Refusal :=
  .next (s.whenServing fun s => match s.queue plate queue with
    | [] => s
    | f :: _ => match f.headAt with
      | none => s
      | some t =>
        if queue < 96 ∧ t + 100000000 ≤ s.now then ((s.popQueue plate queue).bumpKey (queueKey plate queue 0x11) 1).copyLost plate queue f
        else s)

/-- STAGING_WRITE (R278): waiting cells are written with what the allowance of this slot, 62 less the step charge, still has. -/
def execStagingWrite (s : State) : Host.Outcome State Fault Refusal :=
  .next (s.whenServing fun s =>
    if s.time.gate then s
    else
      let k := Nat.min s.fabric.staging s.slotAllowance
      let t := s.useSlot k
      { t with fabric := { t.fabric with staging := s.fabric.staging - k } })

/-! ### The host path (R256, R283, R284) -/

/-- The length of a host frame on a position: padded, with its FCS and the trailer of a PRP position (R256). -/
def State.hostLength (s : State) (pos : Nat) (f : Octets) : Nat := Nat.max f.length 60 + 4 + (if s.isPrp pos then 6 else 0) - 4 * hostTags f

/-- The MTU of a position: of its enabled lanes. -/
def State.positionMtu (s : State) (pos : Nat) : Nat :=
  if s.laneOn pos then s.obj (0x3400 + pos) 4 else s.obj (0x3400 + pos + 12) 4

/-- A host frame submitted (R283). -/
def hostTransmitOp (d : Octets) (s : State) : Except Nat State :=
  let w (a n : Nat) : Nat := beNat (slice d a n)
  let mask := w 0 2
  let flags := w 2 1
  let f := d.drop 8
  let ports := bitsSet (mask % 4096) 12
  if d.length < 8 ∨ 4096 ≤ mask ∨ field flags 6 3 ≠ 0 ∨ w 3 1 ≠ 0 ∨ w 6 2 < 14 ∨ 9602 < w 6 2 ∨ w 6 2 ≠ f.length ∨ (ports.all fun p => !s.laneOn p && !s.laneOn (p + 12)) = true then .error 0x0A1E0078
  else if 0xF000 ≤ w 4 2 then .error 0x06090030
  else if (ports.any fun p => decide (s.positionMtu p < s.hostLength p f)) = true then .error 0x0A1E0070
  else
    let many := decide (1 < ports.length)
    .ok (ports.foldl (fun (s : State) p =>
      let size := Nat.max f.length 60 + 4 + s.prpOctets p
      (s.prpAdvance p).offer s.running (8 * p + flags % 8) { kind := .host (padTo 60 f), cells := cellsOf size, octets := size,
                                                              length := s.hostLength p f, request := if bit flags 7 then some (w 4 2) else none,
                                                              copy := many, prp := s.prpNumber p } 0 false)
      (s.bump 0x2810 2))

/-- HOST_TRANSMIT (R283). -/
def execHostTransmit (t : Transport) (data : Octets) (s : State) : Host.Outcome State Fault Refusal :=
  .next (s.command t 0x2810 1 (hostTransmitOp data))

def HostFrame.record (h : HostFrame) : Octets :=
  beOctets 2 h.seq ++ beOctets 1 h.lane ++ beOctets 1 (bitNat h.byEntry) ++ beOctets 14 h.stamp ++ beOctets 2 h.size ++ h.octets

/-- Whole records of queue 98, oldest first, up to a size. -/
def takeRecords (room : Nat) : List HostFrame → Octets
  | [] => []
  | h :: r => if h.record.length ≤ room then h.record ++ takeRecords (room - h.record.length) r else []

/-- The octets of an upload of 0x2811.01 (R284). -/
def State.hostRead (s : State) : Octets := takeRecords 16384 s.fabric.hostRx

def hostReleaseOp (q : Nat) (s : State) : Except Nat State :=
  match releaseTo HostFrame.seq q s.fabric.hostRx with
  | none => .error 0x0A1E0079
  | some r => .ok { s with fabric := { s.fabric with hostRx := r } }

/-- HOST_RECEIVE_RELEASE (R284). -/
def execHostReceiveRelease (t : Transport) (seq : Nat) (s : State) : Host.Outcome State Fault Refusal :=
  .next (s.command t 0x2811 2 (hostReleaseOp seq))

/-! ### Forwarding table, peaks, profiles (R277, R285, R286) -/

/-- Check of a forwarding entry (R285). -/
def entryOk (w : Nat) : Bool :=
  !bit w 47 || (decide (field w 46 44 = 0 ∧ field w 30 28 = 0 ∧ field w 14 11 = 0 ∧ field w 7 0 = 0) && decide (field w 27 16 ≠ 0 ∨ bit w 31 = true))

def forwardingOp (v : Nat) (s : State) : Except Nat State :=
  if !entryOk v then .error 0x0A1E007A else .ok (s.later (okey 0 (s.obj 0x2802 1) 0x2802 2) v)

/-- FORWARDING_ENTRY_WRITE (R285). -/
def execForwardingEntryWrite (t : Transport) (data : Octets) (s : State) : Host.Outcome State Fault Refusal :=
  .next (s.command t 0x2802 2 fun s => if data.length ≠ 12 then .error 0x06070010 else forwardingOp (beNat data) s)

/-- A RED profile (R277). -/
def profileOk (w : Nat) : Bool :=
  decide (w < 2 ^ 30 ∧ field w 29 20 ≤ 999 ∧ field w 29 20 < field w 19 10 ∧ field w 19 10 ≤ 1000 ∧ field w 9 0 ≤ 1000)

/-- The peaks that can be cleared (Tables 10.9 and 15.11): of the selected queue, on both plates, and of the selected sensor. -/
def clearPeakOp (index : Nat) (s : State) : Except Nat State :=
  if index = 0x2801 then
    let q := s.obj 0x2801 1
    .ok ((s.setKey (queueKey 0 q 0x0A) 0).setKey (queueKey 1 q 0x0A) 0)
  else if index = 0x2E01 then
    .ok { s with faults := { s.faults with peaks := s.faults.peaks.put noneOf (s.obj 0x2E01 1) none } }
  else .error 0x06020000

/-- CLEAR_PEAK (R286, R411). -/
def execClearPeak (t : Transport) (index : Nat) (s : State) : Host.Outcome State Fault Refusal :=
  .next (s.command t index (if index = 0x2801 then 0x10 else 5) (clearPeakOp index))

/-! ### ESMC and upstream requests (R146 to R148) -/

/-- The QL that a lane sends (R146); QL-DNU is SSM code 0xF (log 13). -/
def State.qlOf (s : State) (lane : Nat) : Nat :=
  let dnu := match s.inForce with
    | none => false
    | some r => decide (16 ≤ r) && decide (s.refSource r = 4) && decide (s.refInstance r = lane)
  if dnu then 0x000F else if (s.quality 0xFF).degraded then s.obj 0x2302 2 else s.obj 0x2302 1

/-- One ESMC PDU on a lane. -/
def State.sendEsmc (s : State) (lane : Nat) : State :=
  let q := s.qlOf lane
  let t : State := { s with refs := { s.refs with qlSent := s.refs.qlSent.put (fun _ => 0) lane q, qlChanged := putBit s.refs.qlChanged lane false } }
  t.offerEngine lane (.esmc q) (Config.frameOctets 0) none

/-- `d` cycles have passed since an instant, if there was one. -/
def passed (d : Nat) (last : Option Nat) (now : Nat) : Bool :=
  match last with
  | none => true
  | some t => decide (t + d ≤ now)

/-- ESMC_INFORMATION_PDU (R146): one a second on an enabled lane, which is a lane with SyncE enabled (log 13). -/
def execEsmcInformationPdu (lane : Nat) (s : State) : Host.Outcome State Fault Refusal :=
  .next (s.whenServing fun s =>
    if s.laneOn lane && passed 1000000000 (s.refs.esmcSent.look noneOf lane) s.now then
      ({ s with refs := { s.refs with esmcSent := s.refs.esmcSent.put noneOf lane (some s.now) } } : State).sendEsmc lane
    else s)

/-- ESMC_EVENT_PDU (R146): after a change of the QL sent. -/
def execEsmcEventPdu (lane : Nat) (s : State) : Host.Outcome State Fault Refusal :=
  .next (s.whenServing fun s =>
    if s.laneOn lane = true ∧ s.qlOf lane ≠ s.refs.qlSent.look (fun _ => 0) lane then s.sendEsmc lane else s)

/-- ESMC_TIMEOUT (R131): 5 s without a valid ESMC disqualifies the SyncE references of the lane. -/
def execEsmcTimeout (lane : Nat) (s : State) : Host.Outcome State Fault Refusal :=
  .next (s.whenServing fun s =>
    refNumbers.foldl (fun (s : State) r =>
      if 16 ≤ r ∧ s.refSource r = 4 ∧ s.refInstance r = lane ∧ s.refs.esmcAt.look (fun _ => 0) lane + 5000000000 ≤ s.now then
        (s.setLoupe r { s.loupe r with badQuality := true }).disqualify r 5
      else s) s)

/-- UPSTREAM_POLL (R147, R148): once per poll interval of an NTP client, which uses a cookie; with none left its references are lost at this missed poll. -/
def execUpstreamPoll (inst : Nat) (s : State) : Host.Outcome State Fault Refusal :=
  .next (s.whenServing fun s =>
    let idx := 0x2320 + inst
    let u0 := s.upstreamInst inst
    let period := if s.obj idx 1 = 2 then 1000000000 * 2 ^ (s.objI idx 5).toNat else 0
    if s.obj idx 1 = 0 ∨ s.upstreamRefs inst = [] ∨ passed period u0.polledAt s.now = false then s
    else
      let u : Upstream := { u0 with polledAt := some s.now }
      let m := if u.outstanding then u.missed + 1 else u.missed
      if s.obj idx 1 = 2 ∧ u.cookies = [] then
        (s.upstreamRefs inst).foldl (fun (s : State) r => s.refLost r 1) (s.setUpstream inst { u with missed := m + 1, outstanding := false })
      else
        (s.setUpstream inst { u with missed := m }).upstreamRequest inst)

/-- Cookies of a load: each a 2-octet length, then the cookie. -/
def parseCookies : Nat → Octets → Option (List Octets)
  | _, [] => some []
  | 0, _ => none
  | n + 1, d =>
    let k := beNat (d.take 2)
    if d.length < 2 + k ∨ k = 0 then none
    else match parseCookies n (d.drop (2 + k)) with
      | none => none
      | some r => some (slice d 2 k :: r)

def cookieLoadOp (inst : Nat) (d : Octets) (s : State) : Except Nat State :=
  if s.obj (0x2320 + inst) 1 ≠ 2 then .error 0x06090030
  else match parseCookies 8 d with
    | none => .error 0x06090030
    | some [] => .error 0x06090030
    | some l => .ok (s.setUpstream inst { s.upstreamInst inst with cookies := l })

/-- COOKIE_LOAD (R148). -/
def execCookieLoad (t : Transport) (inst : Nat) (data : Octets) (s : State) : Host.Outcome State Fault Refusal :=
  .next (s.command t (0x2320 + inst) 7 (cookieLoadOp inst data))

/-! ### PRP supervision (R367) -/

/-- SUPERVISION_TRANSMIT (R367): one frame per interval. -/
def execSupervisionTransmit (pos : Nat) (s : State) : Host.Outcome State Fault Refusal :=
  .next (s.whenServing fun s =>
    let w := s.obj (0x2C40 + pos) 2
    if s.isPrp pos && decide (w ≠ 0) && passed (w * 1000000000) (s.fabric.supervised.look noneOf pos) s.now then
      ({ s with fabric := { s.fabric with supervised := s.fabric.supervised.put noneOf pos (some s.now) } } : State).offerPosition pos .supervision
        (Config.frameOctets 3) none
    else s)

end Sys2Proof.Machine
end

