-- ==== Sys2Proof/Machine/Startup.lean ====
section
/-! DEFINITION. Meanings of start-up, resets, the recovery ladder, flash and OTP keys, and the watchdog (R412 to R429, R443, R457). -/

namespace Sys2Proof.Machine

/-! ### Resets (R424, R441) -/

/-- A flash write that a reset or a power loss interrupts leaves its region unusable (R416). -/
def Boot.interrupted (b : Boot) : Boot :=
  if b.flashStatus ≠ 1 then b
  else match b.flashTarget with
    | some 0 => { b with slots := setAt b.slots 0 [] }
    | some 1 => { b with slots := setAt b.slots 1 [] }
    | some 2 => { b with planImages := setAt b.planImages 0 [] }
    | some 3 => { b with planImages := setAt b.planImages 1 [] }
    | _ => b

/-- The block after a reset (Table 16.5): the darkroom, flash and OTP stand; the waiting commands and the free-value counters are not
the engine's. A service gap opens at the restart or goes on (R385). -/
def State.wipe (s : State) (cause : Nat) : State :=
  let b := s.boot.interrupted
  { pending := s.pending, free := s.free, darkroom := s.darkroom,
    keys := { drawn := s.keys.drawn },
    boot := { slots := b.slots, planImages := b.planImages, revoked := b.revoked, floor := b.floor, selfTest := b.selfTest,
              testEnable := b.testEnable, cause := cause },
    twin := { resetGap := true, gapSince := s.twin.gapSince.map fun _ => 0,
              gateNs := (match s.twin.gapSince with | none => 0 | some t => s.twin.gateNs + (s.now - t)) } }

/-- Values that a restore takes from the store: sections A, C and D where valid (R421, R438). -/
def State.stored (s : State) : Table Int :=
  let take (t : Table (Option Int)) (ok : Bool) (acc : Table Int) : Table Int :=
    if !ok then acc else t.foldl (fun (acc : Table Int) (e : Nat × Option Int) => match e.2 with
      | none => acc
      | some v => if s.boot.badRecords.contains e.1 then acc else acc.put dictDefault e.1 v) acc
  take s.darkroom.secD (bit s.boot.sectionsValid 4) (take s.darkroom.secC (bit s.boot.sectionsValid 3)
    (take s.darkroom.secA (bit s.darkroom.valid 1 && bit s.boot.sectionsValid 0) []))

/-- The values of the sections that a restore found valid (`v`); the others are to be written again (R421). -/
def State.readSections (s : State) (v : Nat) (bad : List Nat) : State :=
  let a : State := { s with boot := { s.boot with sectionsValid := v, badRecords := bad },
                            darkroom := { s.darkroom with rewrite := clearBits 0x7F v } }
  { a with objs := a.stored }

/-- Without section D the ageing history is empty and the oscillator's parameters are its class's. -/
def State.readHistory (s : State) (v : Nat) : State :=
  if bit v 4 then s else ({ s with darkroom := { s.darkroom with history := [] } } : State).loadClass (s.obj 0x2401 1)

def State.readSaved (s : State) (v : Nat) : State :=
  if bit v 6 then s else { s with darkroom := { s.darkroom with secFValid := false } }

/-- The seeds and the oscillator's frequency come into force. -/
def State.readSeeds (s : State) : State :=
  { s with mgmt := { s.mgmt with copies := [] }, synth := { s.synth with oscillator := s.obj 0x2500 1 },
           faults := { s.faults with hashSeed := s.obj 0x2D20 7 },
           serve := { s.serve with hashSeed1 := s.obj 0x2941 5, hashSeed2 := s.obj 0x2941 6 },
           fabric := { s.fabric with lfsr := [0, 1, 2].foldl (fun (t : Table Nat) k => t.put (fun _ => 0) k (s.obj 0x2800 6)) [] } }

/-- The sections in force: those that pass the store's own checks, and section A without bad records. -/
def State.sectionsFound (s : State) (checks : Nat) (bad : List Nat) : Nat :=
  let v := s.darkroom.valid &&& checks
  if bit v 0 then putBit v 1 (bit v 1 && bad.isEmpty) else 0

/-- Phase 0 (Table 16.3): the sections are read; persistent values, seeds and the oscillator's frequency come into force. -/
def State.readStore (s : State) (checks : Nat) (bad : List Nat) : State :=
  let v := s.sectionsFound checks bad
  let e := (((s.readSections v bad).readHistory v).readSaved v).readSeeds
  if e.twin.resetGap then e.openGap else e

/-- The copies of sections D and E that a restore takes: the newer valid one of each (R421). -/
def Darkroom.takeOlder (d : Darkroom) (older : Nat) : Darkroom :=
  let e : Darkroom := if bit older 4 then { d with secD := d.secDOld, history := d.historyOld } else d
  if bit older 5 then { e with secE := e.secEOld } else e

/-- RESET_RELEASE (R417): RESET_N goes high with the main supplies up. After a loss of VBAT the cause reads 2. -/
def execResetRelease (pins : BootPins) (s : State) : Host.Outcome State Fault Refusal :=
  .next (if !s.boot.inReset then s
    else
      let cause := if s.boot.cause = 1 ∧ s.darkroom.vbat = false then 2 else s.boot.cause
      let a : State := { s with boot := { s.boot with inReset := false, testEnable := pins.testEnable, cause := cause },
                                darkroom := { s.darkroom.takeOlder pins.older with vbat := true } }
      a.readStore pins.sectionChecks pins.badRecords)

/-- RESET_ASSERT (R424): a device reset by RESET_N. -/
def execResetAssert (s : State) : Host.Outcome State Fault Refusal :=
  .next (if s.boot.inReset then s else s.wipe 3)

/-- SUPPLY_LOSS (R457): as a power cycle with VBAT held; the power-up self-test's results go with it. -/
def execSupplyLoss (s : State) : Host.Outcome State Fault Refusal :=
  let t := s.wipe 1
  .next { t with boot := { t.boot with selfTest := 0, testEnable := false } }

/-- 10 ms in cycles. -/
def resetDelay : Nat := 10000000

/-- A reset accepted: applied 10 ms later; one that waits already comes first. -/
def resetOp (cause : Nat) (s : State) : Except Nat State :=
  .ok (if s.boot.resetPending.isSome then s else { s with boot := { s.boot with resetPending := some cause, resetAt := s.now + resetDelay } })

/-- DEVICE_RESET (R424): accepted, and applied 10 ms after the response. -/
def execDeviceReset (t : Transport) (s : State) : Host.Outcome State Fault Refusal := .next (s.command t 0x2F21 1 (resetOp 4))
/-- DEVICE_RESET_WITH_DEFAULTS (R424). -/
def execDeviceResetWithDefaults (t : Transport) (s : State) : Host.Outcome State Fault Refusal := .next (s.command t 0x2F21 1 (resetOp 5))

/-- A write to 0x2F21.01: its value names the reset. -/
def deviceResetOp (v : Nat) (s : State) : Except Nat State :=
  if v = 0x72737464 then resetOp 4 s else if v = 0x72737466 then resetOp 5 s else .error 0x0A1E00D2

/-- DEVICE_RESET_APPLY (R424): the reset, 10 ms after the response where the cycle counter runs, and the release that follows it at once;
the store's own checks hold. With defaults, section A is emptied. -/
def execDeviceResetApply (s : State) : Host.Outcome State Fault Refusal :=
  .next (match s.boot.resetPending with
    | none => s
    | some c =>
      if s.serving = true ∧ s.now < s.boot.resetAt then s else
      let a := s.wipe c
      let b : State := if c = 5 then { a with darkroom := { a.darkroom with secA := [] } } else a
      ({ b with boot := { b.boot with inReset := false } } : State).readStore 0x7F [])

/-- COMMON_CLOCK_FAILURE (R18): event frames stop, a service gap opens, and a device reset follows. -/
def execCommonClockFailure (s : State) : Host.Outcome State Fault Refusal :=
  .next (s.whenServing fun s =>
    let g := s.openGap
    { g with intake := { g.intake with eventFramesStopped := true }, boot := { g.boot with resetPending := some 6, resetAt := g.now },
             twin := { g.twin with resetGap := true } })

/-! ### The power-up sequence (R417 to R422) -/

/-- SELF_TEST_COMPLETE (R417, R420, R443): a device reset tests the common clock section alone. In factory test the engine does not boot (R444). A failure of that section repeats
phase 0, at most three times. Else the management unit starts. -/
def execSelfTestComplete (result straps : Nat) (s : State) : Host.Outcome State Fault Refusal :=
  .next (if s.boot.inReset || s.boot.stopped || s.boot.testEnable || decide (s.boot.phase ≠ 0) then s
    else if !bit result 2 then
      (if s.boot.repeats < 3 then { s with boot := { s.boot with repeats := s.boot.repeats + 1 } }
       else { s with boot := { s.boot with stopped := true } })
    else
      let power := decide (s.boot.cause ≤ 2)
      let a : State := { s with boot := { s.boot with phase := 1, repeats := 0, selfTest := if power then result % 32 else s.boot.selfTest } }
      let b := (a.readNode straps).bootUp
      let c := b.takeEffect (okey 0 0 0x2F01 3) ((b.obj 0x2F01 3 + 1) % 2 ^ 32 : Nat)
      if c.boot.sectionsValid = 0x7F then c else c.emcy 0xFFC3 0xFF (c.boot.sectionsValid * 2 ^ 24))

/-- The rollback floor in force (R412, R415). -/
def State.rollbackFloor (s : State) : Nat := Nat.max (Config.otp 2 0 % 2 ^ 32) s.boot.floor

/-- The version of a firmware image, if it is usable (R413, R414). -/
def State.firmwareVersion (s : State) (d : Octets) : Option Nat :=
  let len := imageField d 8 4
  let body := d.take len
  let key := imageField d 6 1
  if imageField d 0 4 = 0x43584657 ∧ imageField d 4 2 = 1 ∧ imageField d 7 1 = 0 ∧ 0x80 ≤ len ∧ len ≤ 262144 ∧ len ≤ d.length
      ∧ s.planKeyOk key = true ∧ Config.ed25519Verify (otpKey key) (body.take 0x40 ++ body.drop 0x80) (slice body 0x40 64) = true
      ∧ s.rollbackFloor ≤ imageField d 12 4 then some (imageField d 12 4) else none

def State.slotVersion (s : State) (n : Nat) : Option Nat := s.firmwareVersion (s.boot.slots.getD n [])

/-- FIRMWARE_APPLIED (R414, R417): the usable slot of the higher version runs, slot 0 on a tie; both plates enter Proof. -/
def execFirmwareApplied (s : State) : Host.Outcome State Fault Refusal :=
  .next (if s.boot.inReset || decide (s.boot.phase ≠ 1) then s
    else
      let run (n v : Nat) : State :=
        let a : State := { s with boot := { s.boot with phase := 2, slotInUse := n, version := v, patches := s.boot.slots.getD n [] } }
        let b := if (s.slotVersion (1 - n)).isNone then a.emcy 0xFFC1 0xFF ((1 - n) * 2 ^ 24) else a
        (b.plateState 0 3 5).plateState 1 3 5
      match s.slotVersion 0, s.slotVersion 1 with
      | some a, some b => if b ≤ a then run 0 a else run 1 b
      | some a, none => run 0 a
      | none, some b => run 1 b
      | none, none => { s with boot := { s.boot with phase := 6 } })

/-- The ROM plan (R419): its rows are those of `romSteps`; every position is declared 0x00; AES-SIV cluster 0 is awake. -/
def romPlan : Plan := { identifier := 0xFFFFFFFF, modes := List.replicate 12 0, wakes := List.replicate 12 0, entry := 2 ^ 8, rom := true }

/-- A boot plan that passes the checker takes bank 0. -/
def State.bootPlan (s : State) (p : Plan) (source phase : Nat) : State :=
  let q : Plan := { p with peak := if p.rom then p.peak else p.peakPower }
  let a : State := { s with boot := { s.boot with planSource := source, phase := phase },
                            plans := { s.plans with active := 0, activeId := q.identifier } }
  (a.setBank 0 (some q)).setBank 1 none

/-- An image of the flash: present unless its first four octets are all ones or it is absent (R413). -/
def present (d : Octets) : Bool := !d.isEmpty && decide (imageField d 0 4 ≠ 0xFFFFFFFF)

/-- An image tried at boot: none if it passes, else its abort code; an absent one has none of its own (R419). -/
def State.tryImage (s : State) (d : Octets) : Option Nat :=
  if !present d then some 0 else (s.checkPlan d).map Prod.fst

/-- BOOT_PLAN_CHECKED (R419): the normal image below 125 °C, else or on refusal the hot image, else the ROM plan with EMCY 0xFFC2. -/
def execBootPlanChecked (s : State) : Host.Outcome State Fault Refusal :=
  .next (if s.boot.inReset || decide (s.boot.phase ≠ 3) then s
    else
      let n := s.boot.planImages.getD 0 []
      let h := s.boot.planImages.getD 1 []
      let hot := s.junctionHot
      let first := if hot then some 0 else s.tryImage n
      match first with
      | none => s.bootPlan (parsePlan n) 0 4
      | some c1 =>
        let t : State := { s with boot := { s.boot with second := !hot && present n, lastRefusal := c1 } }
        match s.tryImage h with
        | none => t.bootPlan (parsePlan h) 1 4
        | some c2 =>
          let code := if c2 = 0 then c1 else c2
          ({ t with boot := { t.boot with lastRefusal := code } } : State).bootPlan romPlan 2 4 |>.emcy 0xFFC2 0xFF code)

/-- The mapping's time after `d` periods of the darkroom's oscillator at its learned offset `y` (R176). -/
def restoredValue (value d : Nat) (y : Int) : Nat :=
  let ns := d * 1000000000 / 32768
  value / nsUnit * nsUnit + (value % nsUnit + ns * nsUnit - ((ns : Int) * y / 10 ^ 18 * nsUnit).toNat) / nsUnit * nsUnit

/-- The hold term at the restore: what it was, and the oscillator's own uncertainty over the outage (R176). -/
def restoredHold (hold w d : Nat) : Nat := hold + 61035157 * psUnit + ceilDiv (w * d * psUnit) (32768 * 1000000)

/-- Time base 0 as the mapping gives it (R176, R421). The darkroom's count at this instant and the uncertainties of terms 1 to 3, which
the store does not hold, are open (log 5). -/
def State.restoreTime (s : State) : State :=
  match (if bit s.boot.sectionsValid 5 then s.darkroom.secE else none) with
  | none => s
  | some e =>
    let (d, t0) := s.drawNat
    let (u1, t1) := t0.drawNat
    let (u2, t2) := t1.drawNat
    let (u3, t) := t2.drawNat
    let x : Steer := { xhat := 0, known := true, b := (e.terms.take 3).map Int.toNat, u := [u1, u2, u3],
                       carried := restoredHold (e.terms.getD 3 0).toNat (t.obj 0x2407 1) d, holdSince := t.now }
    (({ t with boot := { t.boot with outage := d / 32768 } } : State).setBase 0
      { t.base 0 with value := restoredValue e.value d (t.objI 0x2407 2) }).setSteer 0 x

/-- The root returns to slot 0 (R324, R421): under new masks on each plate. -/
def State.restoreRoot (s : State) : State :=
  match (if bit s.boot.sectionsValid 2 then s.darkroom.root else none) with
  | none => s
  | some k =>
    let (ma, s1) := s.drawMask
    let (mb, s2) := s1.drawMask
    s2.setSlot 0 { state := 1, mask := 8, generation := nextGeneration (s.slot 0).generation, key := k, maskA := ma, maskB := mb }

/-- TIME_BASE_RESTORE (R421): phase 4. -/
def execTimeBaseRestore (s : State) : Host.Outcome State Fault Refusal :=
  .next (if s.boot.inReset || s.boot.loaded || decide (s.boot.phase ≠ 4) then s
    else
      let t := s.restoreRoot.restoreTime
      { t with boot := { t.boot with loaded := true } })

/-- Every enabled function starts as R422 states it at *T*₀. -/
def State.startFunctions (s : State) : State :=
  let a := refNumbers.foldl (fun (s : State) r =>
    if s.obj (0x3100 + r) 1 = 1 then (if s.obj (0x3100 + r) 0x18 = 1 then s.setRef r 6 8 else s.setRef r 1 0) else s) s
  let b : State := { a with refs := { a.refs with armed := decide (a.obj 0x2300 1 ≠ 0xFF) } }
  let c := (List.range 24).foldl (fun (s : State) n => s.seekLink n) b
  let d := (List.range 16).foldl (fun (s : State) d => s.dpllApplied d false) c
  let e := (List.range 12).foldl (fun (s : State) c =>
    if s.obj (0x3220 + c) 1 = 1 then
      let t := s.setChannel c { enabled := true, onB := decide (s.obj (0x3220 + c) 4 ≠ 0 ∧ s.twin.active = 1) }
      if s.obj (0x3220 + c) 2 ≤ 3 then t.gateChannel c else t
    else s) d
  let f := (List.range 4).foldl (fun (s : State) o => if s.obj (0x3210 + o) 1 = 1 ∧ s.opllUsed o = true then s.relock o true else s) e
  let g := (List.range 8).foldl (fun (s : State) i =>
    if s.ptpOn i then (bitsSet (s.obj (ptpIdx i) 3) 12).foldl (fun (s : State) p => s.listen i p) (s.startStreams i) else s) f
  (List.range 8).foldl State.mediaRefresh g

/-- The entry set of the plan is awake at reel slot 0 (R55). -/
def State.startDomains (s : State) : State :=
  allDomains.foldl (fun (s : State) d => s.setDomain d.1 d.2 { awake := s.plan.entryAwake d.1 d.2 && s.mayWake d.1 d.2 }) s

/-- The plates' states at *T*₀, plate A's change first (R417, R420). -/
def State.startPlates (s : State) : State :=
  let ok (p : Nat) : Bool := (s.plate p).waiting
  let act := if ok 0 then 0 else 1
  let a : State := { s with twin := { s.twin with active := act } }
  let b := if ok act then ((a.setPlate act { a.plate act with waiting := false, inStepSince := a.taiSecond }).plateState act 0 5) else a
  if act = 0 ∧ ok 1 = true then (b.setPlate 1 { b.plate 1 with waiting := false, inStepSince := b.taiSecond }).plateState 1 1 5 else b

/-- *T*₀: the first whole second at least 1 ms after the load (R417). -/
def wholeSecondAfter (v : Nat) : Nat := ceilDiv (v + 1000000 * nsUnit) secondUnit * secondUnit

/-- The time from release to *T*₀ in ms: a free value within the limit of Table 16.3. -/
def releaseTime (second : Bool) (v : Nat) : Nat := v % (if second then 7200 else 5616)

/-- Service-gap time of the restart: what had accrued, the power-up and what preceded it (R385). -/
def gapAtStart (g ms w : Nat) : Nat := g + ms * 1000000 + w

/-- The state at *T*₀, before any function starts. -/
def State.atStart (s : State) (ms w : Nat) : State :=
  let v := wholeSecondAfter (s.base 0).value
  let b := (List.range 32).foldl (fun (s : State) n => s.setBase n { s.base n with value := v, prev := v }) s
  let a := b.leapReel
  { a with clock := {}, boot := { a.boot with phase := 5, releaseMs := ms },
           twin := { a.twin with gateNs := gapAtStart a.twin.gateNs ms w, gapSince := a.twin.gapSince.map fun _ => 0 } }

/-- SERVICE_START (R417, R422): *T*₀, the first whole second of time base 0 at least 1 ms after the load. The time from release is
within its limit and otherwise open (log 5), and so is what the gap lasted before it. -/
def execServiceStart (s : State) : Host.Outcome State Fault Refusal :=
  .next (if s.boot.inReset || !s.boot.loaded || decide (s.boot.phase ≠ 4) then s
    else
      let (v, s0) := s.drawNat
      let (w, s1) := s0.drawNat
      let c := (s1.atStart (releaseTime s.boot.second v) w).startDomains.startPlates
      let m := (c.running.map fun p => 2 ^ p).sum
      (c.emcy 0xFFC0 0xFF (c.boot.cause * 2 ^ 24 + c.boot.planSource * 2 ^ 16 + c.boot.slotInUse * 2 ^ 8 + m)).startFunctions)

/-! ### Function re-initialisation (R425, R426, R383) -/

/-- A function of Table 16.7; a 4-lane port answers to its port number only. -/
def State.functionOk (s : State) (fn : Nat) : Bool :=
  let i := fn % 256
  match fn / 256 with
  | 1 => decide (i < 24) && decide (s.portNumber i = i)
  | 2 => decide (i < 32)
  | 3 => decide (i < 16)
  | 4 => decide (i < 4)
  | 5 => decide (i = 0)
  | 6 => decide (i < 8)
  | 7 => decide (i < 8)
  | 8 => decide (i < 2)
  | 9 => decide (i = 0)
  | _ => false

/-- A host's re-initialisation. A plate's acts among the plates' changes of the next exposure boundary (R383); a second plate is refused
while one waits, since it would have no standby (log 99). -/
def reinitOp (fn : Nat) (s : State) : Except Nat State :=
  if !s.functionOk fn then .error 0x0A1E00D0
  else if s.boot.reinit.contains fn || s.boot.reinitPending.contains fn then .error 0x0A1E00D1
  else if fn / 256 = 8 ∧ ((s.twin.active = fn % 256 ∧ s.paired = false) ∨ s.twin.resetAfterSwap.isSome = true) then .error 0x0A1E00B2
  else
    let t : State := { s with boot := { s.boot with reinitPending := s.boot.reinitPending ++ [fn] } }
    .ok (if fn / 256 = 8 then { t with twin := { t.twin with resetAfterSwap := some (fn % 256) } } else t)

/-- REINITIALISE_PORT (R426). -/
def execReinitialisePort (t : Transport) (inst : Nat) (s : State) : Host.Outcome State Fault Refusal := .next (s.command t 0x2F20 1 (reinitOp (0x100 + inst)))
/-- REINITIALISE_LOUPE (R426). -/
def execReinitialiseLoupe (t : Transport) (inst : Nat) (s : State) : Host.Outcome State Fault Refusal := .next (s.command t 0x2F20 1 (reinitOp (0x200 + inst)))
/-- REINITIALISE_DPLL (R426). -/
def execReinitialiseDpll (t : Transport) (inst : Nat) (s : State) : Host.Outcome State Fault Refusal := .next (s.command t 0x2F20 1 (reinitOp (0x300 + inst)))
/-- REINITIALISE_OUTPUT_PLL (R426). -/
def execReinitialiseOutputPll (t : Transport) (inst : Nat) (s : State) : Host.Outcome State Fault Refusal := .next (s.command t 0x2F20 1 (reinitOp (0x400 + inst)))
/-- REINITIALISE_GNSS (R426). -/
def execReinitialiseGnss (t : Transport) (s : State) : Host.Outcome State Fault Refusal := .next (s.command t 0x2F20 1 (reinitOp 0x500))
/-- REINITIALISE_MEDIA_PORT (R426). -/
def execReinitialiseMediaPort (t : Transport) (inst : Nat) (s : State) : Host.Outcome State Fault Refusal := .next (s.command t 0x2F20 1 (reinitOp (0x600 + inst)))
/-- REINITIALISE_SERVING_GROUP (R426). -/
def execReinitialiseServingGroup (t : Transport) (inst : Nat) (s : State) : Host.Outcome State Fault Refusal := .next (s.command t 0x2F20 1 (reinitOp (0x700 + inst)))
/-- REINITIALISE_PLATE (R383, R426). -/
def execReinitialisePlate (t : Transport) (inst : Nat) (s : State) : Host.Outcome State Fault Refusal := .next (s.command t 0x2F20 1 (reinitOp (0x800 + inst)))
/-- REINITIALISE_DEVELOPER (R426). -/
def execReinitialiseDeveloper (t : Transport) (s : State) : Host.Outcome State Fault Refusal := .next (s.command t 0x2F20 1 (reinitOp 0x900))

/-- A lane of a port that restarts: pending TX-timestamp entries end with status 0x03, and the link looks for a partner again. -/
def State.restartLane (s : State) (n : Nat) : State :=
  if !s.laneOn n then s
  else
    let a := if (s.port n).link = 4 ∨ (s.port n).link = 5 then s.declareDown n 1 else s
    let p := a.port n
    let b := a.setPort n { p with confirm := [], started := [], sending := none }
    let c := p.confirm.foldl (fun (t : State) (e : Nat × Nat) => t.txComplete n e.1 3 false 0) b
    let d := (p.started.filterMap fun f => f.request.map fun id => (id, f.copy)).foldl (fun (t : State) (e : Nat × Bool) => t.txComplete n e.1 3 e.2 0) c
    d.seekLink n

/-- A loupe that restarts (Table 16.7): history cleared, the reference Lost with reason 0, or Disqualified while its unit is off (R6). -/
def State.restartLoupe (s : State) (r : Nat) : State :=
  if (s.loupe r).state = 0 then s
  else
    let t := (s.holdTrackers r).setRef r 1 0
    let l := t.loupe r
    t.setLoupe r { state := l.state, disq := l.disq, since := t.now, lostAt := t.clock.reel }

/-- The receiver of a sample port is re-armed (Table 16.7): no fault, no block seen. -/
def State.rearmPort (s : State) (p : Nat) : State :=
  s.setGnssPort p { s.gnssPort p with status := 0, framing := false, first := none, latest := 0, blocks := 0 }

/-- The reset of a function at the cycle 0 at which its re-initialisation begins (Table 16.7). -/
def State.resetFunction (s : State) (fn : Nat) : State :=
  let i := fn % 256
  match fn / 256 with
  | 1 => s.restartLane i
  | 2 => s.restartLoupe i
  | 3 =>
    if (s.dpll i).running then
      let t := s.dpllStart i
      t.setDpll i { t.dpll i with rebuild := true, ftw := (s.dpll i).ftw }
    else s
  | 4 =>
    let t := s.setOpll i { s.opll i with recipes := [], state := if (s.opll i).state = 6 then 0 else (s.opll i).state }
    if t.obj (0x3210 + i) 1 = 1 ∧ t.opllUsed i = true then t.relock i true else t
  | 5 => ([0, 1].foldl State.rearmPort (s.gnssUsed.foldl (fun (s : State) c => s.channelTo c 0) s)).clearFilm
  | 6 =>
    let t := s.setMport i { (s.mport i).clear with combinerFault := false }
    if (t.mport i).state = 1 ∨ (t.mport i).state = 2 ∨ (t.mport i).state = 3 then t.mediaStart i else t
  | 7 => (List.range 8).foldl (fun (s : State) k => s.spoilEngine (8 * i + k)) s
  | _ => s

/-- A re-initialisation begins: counted in 0x2F20.04, status 1. -/
def State.beginReinit (s : State) (fn : Nat) : State :=
  let t : State := { s with boot := { s.boot with reinit := s.boot.reinit ++ [fn], lastFunction := fn, reinitStatus := 1,
                                                  reinitSince := s.boot.reinitSince.put (fun _ => 0) fn s.clock.exposures } }
  (t.bump 0x2F20 4).resetFunction fn

/-- The intake sources and error lines of a function (R363, R394): what its completed re-initialisation returns to service. -/
def functionUnits (s : State) (fn : Nat) : List Nat × List Nat :=
  let i := fn % 256
  match fn / 256 with
  | 1 => ((s.portLanes i), (s.portLanes i).map fun n => 144 + n % 12)
  | 2 => (if i < 16 then [24 + i] else [], [135])
  | 3 => ([], [80 + i])
  | 4 => ([], [96 + i])
  | 5 => ([88, 89], (List.range 13).map (120 + ·))
  | 6 => ([90 + i], [232 + i])
  | 7 => ([], (List.range 8).map (8 * i + ·))
  | 9 => ([], [133])
  | _ => ([], [])

/-- The bit of 0x2F22.03 of a function that the watchdog may hold. -/
def heldBit (fn : Nat) : Option Nat := if fn = 0x900 then some 0 else if fn / 256 = 7 then some (8 + fn % 256) else none

def State.releaseHeld (s : State) (fn : Nat) : State :=
  match heldBit fn with
  | none => s
  | some b => s.setObj 0x2F22 3 (putBit (s.obj 0x2F22 3) b false)

/-- Exposures that a re-initialisation lasts, where Table 16.7 gives them. -/
def reinitLength (fn : Nat) : Nat :=
  match fn / 256 with
  | 2 => 1
  | 3 => 1
  | 5 => 1
  | 7 => 2
  | _ => 0

/-- REINITIALISATION_END (R426, R363): EMCY 0xFFC6 with status 2 or 3, once the function's duration has passed. -/
def execReinitialisationEnd (fn : Nat) (ok : Bool) (s : State) : Host.Outcome State Fault Refusal :=
  .next (s.whenServing fun s =>
    if !s.boot.reinit.contains fn || decide (s.clock.exposures < s.boot.reinitSince.look (fun _ => 0) fn + reinitLength fn) then s
    else
      let st := if ok then 2 else 3
      let a : State := { s with boot := { s.boot with reinit := s.boot.reinit.filter (· ≠ fn), lastFunction := fn, reinitStatus := st } }
      let u := functionUnits a fn
      let b : State := if ok then { a with intake := { a.intake with faults := u.1.foldl (fun m n => putBit m n false) a.intake.faults },
                                           faults := { a.faults with notReadyLines := a.faults.notReadyLines.filter fun n => !u.2.contains n } }
        else a
      let c := if ok ∧ fn / 256 = 7 then b.rebind else b
      settleRegister s (c.emcy 0xFFC6 0xFF (fn * 2 ^ 16 + st * 2 ^ 8)))

/-- Accepted re-initialisations begin at cycle 0 of the next exposure; a host's write returns a function that the watchdog holds
(R426, R428). -/
def State.startReinits (s : State) : State :=
  let t : State := { s with boot := { s.boot with reinitPending := [] } }
  s.boot.reinitPending.foldl (fun (s : State) fn => (s.releaseHeld fn).beginReinit fn) t

/-! ### The watchdog (R427, R428) -/

/-- One action on a function; the third within 60 s holds the function not ready. -/
def State.watchdogAct (s : State) (fn sub : Nat) : State :=
  let l := s.now :: (s.boot.actions.look (fun _ => []) fn).filter fun t => decide (s.now - t < 60000000000)
  let n := s.obj 0x2F22 sub + 1
  let a : State := ({ s with boot := { s.boot with actions := s.boot.actions.put (fun _ => []) fn l } } : State).bump 0x2F22 sub
  let b := (a.beginReinit fn).report 0xFF 0x06 0xFFFF 0xFFC4 0xFF (fn * 2 ^ 16 + n % 65536)
  if 3 ≤ l.length then
    match heldBit fn with
    | none => b
    | some k => (b.setObj 0x2F22 3 (putBit (b.obj 0x2F22 3) k true)).emcy 0xFFC5 0xFF (fn * 2 ^ 16)
  else b

/-- A function on which the watchdog does not act: held, or being re-initialised. -/
def State.watchdogOff (s : State) (fn : Nat) : Bool :=
  s.boot.reinit.contains fn || (match heldBit fn with | none => true | some k => bit (s.obj 0x2F22 3) k)

/-- The watchdog at an exposure boundary (R427). -/
def State.watchdog (s : State) : State :=
  let skipped := s.boot.groupSkippedNow
  let skips := (List.range 8).foldl (fun (t : Table Nat) g =>
    t.put (fun _ => 0) g (if bit skipped g && !s.watchdogOff (0x700 + g) then s.boot.groupSkips.look (fun _ => 0) g + 1 else 0)) s.boot.groupSkips
  let dev := decide (2 ≤ s.boot.missedUpdates) && !s.watchdogOff 0x900
  let a : State := { s with boot := { s.boot with groupSkippedNow := 0, groupSkips := skips, missedUpdates := if dev then 0 else s.boot.missedUpdates } }
  let b := if dev then a.watchdogAct 0x900 1 else a
  (List.range 8).foldl (fun (s : State) g =>
    if 2 ≤ s.boot.groupSkips.look (fun _ => 0) g then
      ({ s with boot := { s.boot with groupSkips := s.boot.groupSkips.put (fun _ => 0) g 0 } } : State).watchdogAct (0x700 + g) 2
    else s) b

/-! ### Flash and keys (R415, R416) -/

/-- The abort code of an image refused for a region: a firmware image by R414, a plan image by rules 1 to 3. -/
def State.flashRefusal (s : State) (target : Nat) (d : Octets) : Option Nat :=
  if target < 2 then (if 262144 < d.length ∨ (s.firmwareVersion d).isNone then some 0x0A1E00D4 else none)
  else if (rule1 d).isSome then some 0x0A1E0030
  else if (rule2 d).isSome then some 0x0A1E0031
  else if (s.rule3 d).isSome then some 0x0A1E0032
  else none

/-- A flash target that takes no download: the slot in use, or while a write is in progress. -/
def State.flashBusy (s : State) : Bool := decide (s.boot.flashStatus = 1) || decide (s.obj 0x2F30 1 = s.boot.slotInUse)

def flashOp (d : Octets) (s : State) : Attempt :=
  let target := s.obj 0x2F30 1
  if s.flashBusy then (s, some 0x0A1E00D3)
  else match s.flashRefusal target d with
    | some c => ({ s with boot := { s.boot with flashStatus := 3 } }, some c)
    | none => ({ s with boot := { s.boot with flashStatus := 1, flashTarget := some target, flashData := d } }, none)

/-- FLASH_IMAGE_DOWNLOAD (R416). -/
def execFlashImageDownload (t : Transport) (data : Octets) (s : State) : Host.Outcome State Fault Refusal :=
  .next (s.commandA t 0x2F30 2 (flashOp data))

/-- FLASH_WRITE_COMPLETE (R416): a read-back that fails leaves the region unusable. -/
def execFlashWriteComplete (ok : Bool) (s : State) : Host.Outcome State Fault Refusal :=
  .next (if s.boot.inReset || decide (s.boot.flashStatus ≠ 1) then s
    else match s.boot.flashTarget with
      | none => s
      | some n =>
        let d := if ok then s.boot.flashData else []
        let b := s.boot
        let c : Boot := if n < 2 then { b with slots := setAt b.slots n d } else { b with planImages := setAt b.planImages (n - 2) d }
        let st := if ok then 2 else 4
        ({ s with boot := { c with flashStatus := st, flashTarget := none, flashData := [] } } : State).emcy 0xFFC7 0xFF (n * 2 ^ 24 + st * 2 ^ 16))

/-- A plan checked under a revoked key is discarded unless its swap has latched. -/
def State.dropRevoked (s : State) (k : Nat) : State :=
  match s.waitingPlan with
  | none => s
  | some p =>
    if p.key = k ∧ p.rom = false ∧ s.plans.latched = false then
      ({ s with plans := { s.plans with status := 0, pendingId := 0, swapReel := 0 } } : State).setBank (1 - s.plans.active) none
    else s

def revokeOp (v : Nat) (s : State) : Except Nat State :=
  let k := v % 4
  let left := (List.range 4).any fun n => decide (n ≠ k) && s.planKeyOk n
  if v < 0x72657600 ∨ 0x72657603 < v ∨ left = false then .error 0x0A1E00D6
  else .ok (({ s with boot := { s.boot with revoked := putBit s.boot.revoked k true } } : State).dropRevoked k)

/-- REVOKE (R415). -/
def execRevoke (t : Transport) (value : Nat) (s : State) : Host.Outcome State Fault Refusal :=
  .next (s.command t 0x2F40 4 (revokeOp value))

def raiseFloorOp (v : Nat) (s : State) : Except Nat State :=
  if v < s.rollbackFloor ∨ s.boot.version < v then .error 0x0A1E00D7
  else .ok { s with boot := { s.boot with floor := v } }

/-- RAISE_FLOOR (R415). -/
def execRaiseFloor (t : Transport) (value : Nat) (s : State) : Host.Outcome State Fault Refusal :=
  .next (s.command t 0x2F40 6 (raiseFloorOp value))

end Sys2Proof.Machine
end

