-- ==== Sys2Proof/Machine/Objects.lean ====
section
/-! DEFINITION. Reading the object dictionary (R85, R90, R435 to R437, R469): stored values, values that the state holds elsewhere, and
the octets of DOMAIN objects. -/

namespace Sys2Proof.Machine

/-! ### The latency sheet (R45) -/

/-- Entries of Table 2.2: constant term, variable term, memory charge. -/
def sheetEntry : Nat → Option (Nat × Nat × Nat)
  | 0x01 => some (28, 1, 0)
  | 0x02 => some (6, 64, 0)
  | 0x03 => some (16, 0, 0x10000)
  | 0x04 => some (16, 0, 0x10000)
  | 0x05 => some (12, 0, 0x100)
  | 0x06 => some (14, 0, 0x100)
  | 0x07 => some (20, 0, 1)
  | 0x08 => some (36, 0, 1)
  | 0x09 => some (24, 0, 0)
  | 0x0A => some (32, 8, 0)
  | 0x0B => some (8, 0, 0)
  | 0x0C => some (4, 0, 0)
  | 0x0D => some (4, 0, 0)
  | 0x0E => some (0, 0, 0)
  | 0x0F => some (96, 0, 0)
  | 0x10 => some (12800, 0, 0)
  | 0x11 => some (576000, 0, 0)
  | 0x12 => some (64, 0, 0)
  | 0x13 => some (134, 0, 0)
  | _ => none

/-- A value that 0x2111.01 may select: an entry, or a mode of Table 2.5. -/
def sheetSelector (v : Nat) : Bool := (sheetEntry v).isSome || (decide (0x101 ≤ v) && decide (v ≤ 0x105))

def State.readSheet (s : State) (sub : Nat) : Option Nat :=
  let v := s.obj 0x2111 1
  let e := (sheetEntry v).getD (0, 0, 0)
  match sub with
  | 2 => some e.1
  | 3 => some e.2.1
  | 4 => some e.2.2
  | 5 => some (if 0x100 ≤ v then Config.gridPattern (v - 0x100) else 0)
  | 6 => some (if 0x100 ≤ v then 2 else if v = 0x0F then 1 else 0)
  | _ => none

/-! ### Values by chapter: `b` is the first index of the record, `n` the instance, `p` the plate -/

/-- Upper-case hexadecimal digits. -/
def hexDigits : Nat → Nat → Nat
  | 0, _ => 0
  | k + 1, v => hexDigits k (v / 16) * 256 + (if v % 16 < 10 then 48 + v % 16 else 55 + v % 16)

/-- The darkroom count at this instant: no command brings it between transfers (log 7). -/
def State.darkCount (s : State) : Nat := (s.darkroom.count + Config.reading 0x2F02 3 0 s.now) % 2 ^ 64

/-- Time base 0 as the darkroom maps it (0x2F02.02). -/
def State.darkTime (s : State) : Nat :=
  match s.darkroom.secE with
  | none => 0
  | some e => toTime112 (e.value + (s.darkCount - e.count) * 1000000000 / 32768 * nsUnit)

/-- Chapters 03, 16 and 17. -/
def State.readSystem (s : State) (b n sub : Nat) : Option Int :=
  match b, sub with
  | 0x1001, 0 => some s.errorRegister
  | 0x100A, 0 => some (hexDigits 8 s.boot.version)
  | 0x1018, 3 => some (0x00B00000 + s.boot.version % 65536 : Nat)
  | 0x1200, 1 => some (0x600 + s.node : Nat)
  | 0x1200, 2 => some (0x580 + s.node : Nat)
  | 0x2000, 5 => some (Nat.min (s.clock.exposures / 1000) 0xFFFFFFFF)
  | 0x2020, 1 => some (s.faults.volts.getD 14 0)
  | 0x2020, 2 => some (bitNat s.darkroom.fault)
  | 0x2020, 3 => some s.sectionUsed
  | 0x2020, 4 => some s.sectionFree
  | 0x2020, 7 => some (Nat.min s.mgmt.copies.length 0xFFFF)
  | 0x2080, 3 => some (s.pendingMask n)
  | 0x2080, 4 => some (s.waitingMask n)
  | 0x2080, 5 => some (s.refusedMask n)
  | 0x2F01, 1 => some s.boot.phase
  | 0x2F01, 2 => some s.boot.cause
  | 0x2F01, 4 => some s.boot.slotInUse
  | 0x2F01, 5 => some s.boot.version
  | 0x2F01, 6 => some s.boot.planSource
  | 0x2F01, 7 => some s.boot.outage
  | 0x2F01, 8 => some s.boot.releaseMs
  | 0x2F01, 9 => some s.boot.sectionsValid
  | 0x2F02, 2 => some s.darkTime
  | 0x2F02, 3 => some s.darkCount
  | 0x2F20, 2 => some s.boot.lastFunction
  | 0x2F20, 3 => some s.boot.reinitStatus
  | 0x2F30, 3 => some s.boot.flashStatus
  | 0x2F30, 4 => some ((s.slotVersion 0).getD 0)
  | 0x2F30, 5 => some ((s.slotVersion 1).getD 0)
  | 0x2F40, 3 => some ((Config.otp 1 0 % 16) ||| s.boot.revoked : Nat)
  | 0x2F40, 5 => some s.rollbackFloor
  | _, _ => none

/-- Chapters 02 and 04. -/
def State.readTime (s : State) (b n sub : Nat) : Option Int :=
  match b, sub with
  | 0x2100, 2 => some s.plans.status
  | 0x2100, 3 => some s.plans.lastCode
  | 0x2100, 4 => some s.plans.failRow
  | 0x2100, 5 => some s.plans.failSlot
  | 0x2100, 7 => some s.shownBank
  | 0x2100, 8 => some s.plans.activeId
  | 0x2100, 9 => some s.plans.pendingId
  | 0x2100, 0x0A => some s.plans.swapReel
  | 0x2101, 2 => some ((s.bank s.shownBank).getD {}).peakPower
  | 0x2111, _ => (s.readSheet sub).map Int.ofNat
  | 0x2201, 3 => some (match s.leapWords with | [] => 0 | w :: _ => leapSecond w)
  | 0x2201, 4 => some s.secondsToLeap
  | 0x2201, 5 => some s.leapState
  | 0x2204, 2 => some (Int.ofNat (s.time.captured.look (fun _ => 0) (s.obj 0x2204 1)))
  | 0x2210, 8 => some (s.comp n).status
  | 0x2210, 9 => some (s.comp n).lastFire
  | 0x3000, 1 => some (toTime112 (s.base n).value)
  | 0x3000, 3 => if n = 0 then some s.dev.yc else none
  | 0x3020, 6 => some (s.input n).calibration
  | 0x3020, 7 => some (s.input n).fifo.length
  | 0x3020, 0x0D => some (s.input n).sticky
  | _, _ => none

/-- Whether a path is a clock channel that carries a by-pass: its bound reads unknown (R407). -/
def State.bypassed (s : State) (path : Nat) : Bool :=
  decide (0x20 ≤ path) && decide (path ≤ 0x2B) && decide (16 ≤ s.obj (0x3220 + (path - 0x20)) 2)

/-- The weight of an ensemble member in units of 2⁻¹⁶ (0x2408.02). -/
def State.weightOf (s : State) (r : Nat) : Nat :=
  let l := capped s.dev.members
  match l.find? fun m => decide (m.ref = r) with
  | none => 0
  | some m => Nat.min (m.raw * 65536 / Nat.max 1 (l.map Member.raw).sum) 0xFFFF

/-- Chapters 05 and 06. -/
def State.readReference (s : State) (b n sub : Nat) : Option Int :=
  let path := s.obj 0x2405 2
  let tb := s.obj 0x2405 1
  match b, sub with
  | 0x3100, 3 => if n < 16 then none else some (s.refKind n)
  | 0x3100, 0x0E => some (s.loupe n).state
  | 0x3100, 0x10 => some (satPs (s.loupe n).x)
  | 0x3100, 0x12 => some (s.adevAt n (tauOf (s.obj (0x3100 + n) 0x11)))
  | 0x3100, 0x13 => some (s.tdevAt n (tauOf (s.obj (0x3100 + n) 0x11)))
  | 0x3100, 0x1A => some (Nat.min ((s.now - (s.loupe n).since) / 1000000000) 0xFFFFFFFF)
  | 0x3100, 0x1C => some (wholeSeconds (s.loupe n).x)
  | 0x2320, 8 => some (s.upstreamInst n).cookies.length
  | 0x2400, 1 => some (s.steer 0).refStatus
  | 0x2400, 2 => some (s.steer 0).reg
  | 0x2400, 3 => some (satPs (s.steer 0).xhat)
  | 0x2400, 4 => some s.dev.yosc
  | 0x2400, 5 => some s.dev.yc
  | 0x2400, 6 => some (s.sinceCompared (s.steer 0).compared)
  | 0x2400, 0x0B => some (wholeSeconds (s.steer 0).xhat)
  | 0x2405, 3 => some (if s.bypassed path then 0xFFFFFFFFFFFF else (s.fetch tb path [] []).b)
  | 0x2405, 4 => some (if s.bypassed path then 0xFFFFFFFF else (s.fetch tb path [] []).u)
  | 0x2405, 5 => some (s.fetch tb path [] []).dominant
  | 0x2405, 6 => some (bitNat (s.fetch tb path [] []).holdover + 2 * bitNat (s.fetch tb path [] []).unregistered : Nat)
  | 0x2405, 8 => some (ceilDiv ((s.pathTerms tb path).1.getD (s.obj 0x2405 7 - 1) 0) psUnit)
  | 0x2405, 9 => some (ceilDiv ((s.pathTerms tb path).2.getD (s.obj 0x2405 7 - 1) 0) psUnit)
  | 0x2406, 2 => some ((s.darkroom.history.map Prod.snd).getD (s.obj 0x2406 1) (-(2 ^ 31)))
  | 0x2406, 3 => some ((s.darkroom.history.map Prod.fst).getD (s.obj 0x2406 1) 0)
  | 0x2406, 4 => some (validDays s.darkroom.history).length
  | 0x2406, 5 => some (driftPerYear s.darkroom.history)
  | 0x2406, 6 => some (bitNat (driftValid s.darkroom.history))
  | 0x2408, 2 => some (s.weightOf (s.obj 0x2408 1))
  | 0x2408, 3 => some (match s.dev.members.find? fun m => decide (m.ref = s.obj 0x2408 1) with | none => 0 | some m => m.obs)
  | 0x2410, 3 => some (beNat (s.chainId (s.obj 0x2410 1)))
  | 0x2410, 4 => some (bitNat (decide (s.objW (s.obj 0x2410 1) 0x2410 2 ≠ 0)))
  | _, _ => none

/-- Chapter 07. The master PLL is unlocked only while the common clock section has not passed its self-test (R185). -/
def State.readSynthesis (s : State) (b n sub p : Nat) : Option Int :=
  match b, sub with
  | 0x2500, 2 => some (bitNat (decide (s.boot.phase = 0)))
  | 0x2502, 3 => some (beNat (recipeOctets ((s.opll (s.obj 0x2502 1)).recipes.look (fun _ => none) (32 * p + s.obj 0x2502 2))))
  | 0x3200, 7 => some (s.dpll n).stage
  | 0x3200, 8 => some (s.dpllState n)
  | 0x3200, 9 => some (satPs (s.dpll n).error)
  | 0x3200, 0x0A => some (s.dcoWord n)
  | 0x3210, 9 => some (s.opll n).state
  | 0x3210, 0x0A => some (Int.ofNat ((s.opll n).band.look (fun _ => 0) p))
  | 0x3210, 0x0B => some (Int.ofNat ((s.opll n).tuning.look (fun _ => 0) p))
  | 0x3210, 0x0F => some ((s.opll n).sense p s.now)
  | 0x3220, 9 => some (s.channelStatus n)
  | 0x3220, 0x0B => some (s.channelHz n)
  | 0x3230, 9 => some (s.ppsChannel n).status
  | _, _ => none

/-- Chapter 08. -/
def State.readGnss (s : State) (b n sub : Nat) : Option Int :=
  let c := s.gnssChannel (s.obj 0x2608 1)
  match b, sub with
  | 0x2600, 2 => some s.continuousBanks.length
  | 0x2600, 3 => some s.gnssUsed.length
  | 0x2601, 7 => some (s.gnssPort n).status
  | 0x2601, 8 => some (s.gnssPort n).rate
  | 0x2601, 0x0A => some (s.gnssPort n).blanked
  | 0x2601, 0x0B => some ((s.gnssPort n).count false + 256 * (s.gnssPort n).count true : Nat)
  | 0x2601, 0x0C => some (clampI (-32768) 32767 (s.gnssPort n).upper.power)
  | 0x2601, 0x0D => some (clampI (-32768) 32767 (s.gnssPort n).lower.power)
  | 0x2606, 2 => some (s.gnssPort (s.obj 0x2606 1)).solution
  | 0x2608, 2 => some c.state
  | 0x2608, 3 => some (c.signal * 65536 + c.satellite * 256 + c.port : Nat)
  | 0x2608, 4 => some (Nat.min c.cn0 0xFFFF : Nat)
  | 0x2608, 5 => some ((if c.state = 0 then none else s.elevation c.port c.signal c.satellite).getD 0 : Nat)
  | 0x2608, 6 => some c.test
  | 0x2609, 2 => some (toTime112 s.gnss.shownAt)
  | 0x260A, 5 => some s.gnss.film
  | 0x260B, 5 => some s.gnss.tracks.length
  | 0x260B, 7 => some s.nextTrack
  | _, _ => none

/-- Chapters 09 and 10. -/
def State.readPorts (s : State) (b n sub p : Nat) : Option Int :=
  let q := s.obj 0x2801 1
  match b, sub with
  | 0x3400, 6 => some (s.port n).link
  | 0x3400, 0x0B => some (if s.eeeActive n then (s.port n).wakeNs else 0)
  | 0x3400, 0x0E => some (((s.port n).prbs + if (s.port n).loop = 1 then Config.reading 0x3400 0x0E n s.now else 0) % 2 ^ 32 : Nat)
  | 0x3400, 0x11 => some (s.port n).txQueue.length
  | 0x3400, 0x13 => some (s.port n).sticky
  | 0x2800, 0x0A => some (s.poolUse 0 false)
  | 0x2800, 0x0B => some (s.poolUse p true)
  | 0x2801, 9 => some (s.cellsIn p q false + s.cellsIn p q true : Nat)
  | 0x2811, 3 => some s.fabric.hostRx.length
  | _, _ => none

/-- The bound an instance declares where none is sent: on the lowest position of its mask (log 20). -/
def State.instanceBound (s : State) (i : Nat) : Fetched :=
  s.replyBound (s.obj (ptpIdx i) 0x0A) (((bitsSet (s.obj (ptpIdx i) 3) 12).headD 0) + 12 * s.twin.active) false

/-- Chapter 11. -/
def State.readServing (s : State) (b n sub : Nat) : Option Int :=
  let pos := s.obj 0x2900 3
  let count (f : ClientRecord → Bool) : Int := ((s.serve.records.filter fun (e : Nat × ClientRecord) => f e.2).length : Nat)
  match b, sub with
  | 0x2900, 4 => some (s.plan.stepsFor 0x11 pos * 2 ^ 42 + s.plan.stepsFor 0x12 pos * 2 ^ 21 + s.plan.stepsFor 0x10 pos / 4 : Nat)
  | 0x2900, 5 => some (ceilDiv (s.committed pos false) 128)
  | 0x2900, 7 => some (ceilDiv (s.committed pos true) 128)
  | 0x2910, 0x15 => some (s.positionWord n)
  | 0x2910, 0x16 => some (if s.ptpOn n then (s.ptpQuality n (s.instanceBound n)).getD 0 248 else 248)
  | 0x2910, 0x17 => some (if s.ptpOn n then (s.ptpQuality n (s.instanceBound n)).getD 1 0xFE else 0xFE)
  | 0x2910, 0x18 => some (if s.ptpOn n then (s.ptpQuality n (s.instanceBound n)).getD 2 0xFFFF else 0xFFFF)
  | 0x2910, 0x19 => some (count fun r => r.valid && decide (r.inst = n))
  | 0x2910, 0x20 => some (bitNat (s.quality n).degraded)
  | 0x2920, 0x0F => some (bitNat (s.quality (16 + n)).degraded)
  | 0x2940, 2 => some (beNat (s.client (s.obj 0x2940 1)).octets)
  | 0x2940, 4 => some (count fun r => r.valid)
  | 0x2940, 5 => some (count fun r => r.quarantined)
  | _, _ => none

/-- Chapter 12. -/
def State.readKeys (s : State) (b sub p : Nat) : Option Int :=
  let n := s.obj 0x2A01 1
  let x := s.slot n
  let slots (f : Nat → Bool) : Int := ((s.keys.slots.keys.filter fun k => f (s.slotState k)).length : Nat)
  match b, sub with
  | 0x2A00, 3 => some (slots fun v => decide (v = 1))
  | 0x2A00, 4 => some (slots fun v => decide (v = 3 ∨ v = 4))
  | 0x2A00, 0x0A => some (bitNat (decide ((s.slot 0).state ≠ 0)))
  | 0x2A01, 2 => some (s.slotState n)
  | 0x2A01, 3 => some x.mask
  | 0x2A01, 4 => some x.parent
  | 0x2A01, 5 => some x.generation
  | 0x2A01, 6 => some x.expiry
  | 0x2A01, 7 => some x.uses
  | 0x2A01, 8 => some x.depth
  | 0x2A01, 9 => some (if x.state = 0 then 0 else Nat.min ((s.now - (if p = 0 then x.maskedA else x.maskedB)) / 1000000) 0xFFFFFFFF)
  | 0x2A01, 0x0A => some x.refused
  | 0x2A20, 2 => some (beNat (s.association (s.obj 0x2A20 1)).octets)
  | 0x2A30, 5 => some s.keys.tamper
  | _, _ => none

/-- The tests of Table 15.9 that run (0x2E00.01). -/
def State.testsRunning (s : State) : Nat :=
  let proof := s.twin.testPlate.isSome
  let loop := (List.range 24).any fun n => decide ((s.port n).loop ≠ 0)
  let byp := (List.range 12).any fun c => (s.channel c).enabled && decide (16 ≤ s.obj (0x3220 + c) 2)
  let gnss := decide (s.obj 0x2010 1 = 1) && [0, 1].any fun p => decide (s.obj (0x2601 + p) 1 = 0)
  bitNat proof + 2 * bitNat loop + 4 * bitNat byp + 8 * bitNat gnss + 16 * bitNat s.mediaLooped

/-- Chapters 13 to 15. -/
def State.readPlates (s : State) (b n sub p : Nat) : Option Int :=
  let ln := s.line p (s.obj 0x2D11 1)
  let tracked (f : Source → Bool) : Int := ((s.faults.addresses.filter fun (e : Nat × Source) => e.2.tracked && f e.2).length : Nat)
  let tn := s.obj 0x2E01 1
  match b, sub with
  | 0x3500, 0x0C => some (s.mport n).state
  | 0x3500, 0x0E => some (s.mport n).asrc
  | 0x2B01, 8 => some (s.mchannel s.selectedChannel).state
  | 0x2C00, 1 => some s.twin.active
  | 0x2C00, 2 => some (s.plate 0).state
  | 0x2C00, 3 => some (s.plate 1).state
  | 0x2C10, 1 => some (beNat s.twin.sheet)
  | 0x2C20, 1 => some (s.intake.faults % 2 ^ 64 : Nat)
  | 0x2C20, 2 => some (s.intake.faults / 2 ^ 64 : Nat)
  | 0x2C30, 4 => some s.intake.discard.length
  | 0x2C40, 9 => some (s.crossStatus n)
  | 0x2D10, _ => if 1 ≤ sub ∧ sub ≤ 8 then some (s.statusWord p sub) else none
  | 0x2D11, 2 => some ln.last
  | 0x2D11, 3 => some ln.corrected
  | 0x2D11, 4 => some ln.contained
  | 0x2D11, 5 => some ln.fatal
  | 0x2D11, 6 => some ln.lastTime
  | 0x2D20, 5 => some (tracked fun _ => true)
  | 0x2D20, 6 => some (tracked fun x => x.severeUntil.isSome)
  | 0x2D20, 0x0B => some (maskOf ((List.range 24).filter fun k => (s.laneSource k).severeUntil.isSome))
  | 0x2D20, 0x0F => some s.addressQuery.1
  | 0x2D20, 0x10 => some s.addressQuery.2
  | 0x2D30, 2 => some s.faults.sheet.length
  | 0x2D30, 3 => some (bitNat s.faults.frozen)
  | 0x2D31, 2 => some (bitNat s.darkroom.secFValid)
  | 0x2E00, 1 => some s.testsRunning
  | 0x2E01, 2 => some (s.temp tn)
  | 0x2E01, 3 => some (bitNat (bit s.faults.faultedSensors tn))
  | 0x2E01, 4 => some ((s.faults.peaks.look noneOf tn).getD (s.temp tn))
  | 0x2E02, 2 => some s.hottest
  | 0x2E02, 3 => some s.faults.faultedSensors
  | 0x2E02, 4 => some (bitNat s.faults.shedding)
  | 0x2E03, 2 => some (s.faults.volts.getD (s.obj 0x2E03 1) 0)
  | 0x2E03, 5 => some (Int.ofNat (s.faults.voltState.look (fun _ => 0) (s.obj 0x2E03 1)))
  | 0x2E04, 2 => some (s.faults.procs.getD (s.obj 0x2E04 1) 0)
  | 0x2E30, 1 => some s.boot.selfTest
  | _, _ => none

/-- A value that the state holds outside the object store. -/
def State.readHeld (s : State) (b n sub p : Nat) : Option Int :=
  (s.readSystem b n sub).orElse fun _ => (s.readTime b n sub).orElse fun _ => (s.readReference b n sub).orElse fun _ =>
  (s.readSynthesis b n sub p).orElse fun _ => (s.readGnss b n sub).orElse fun _ => (s.readPorts b n sub p).orElse fun _ =>
  (s.readServing b n sub).orElse fun _ => (s.readKeys b sub p).orElse fun _ => s.readPlates b n sub p

/-- Stored values that exist once a plate (R436). -/
def perPlateStored (b sub item : Nat) : Bool :=
  match b with
  | 0x2102 => decide (1 ≤ sub)
  | 0x2801 => decide (0x0A ≤ sub) && decide (item < 96)
  | 0x2A00 => decide (sub = 9) || decide (sub = 0x0B)
  | 0x3220 => decide (sub = 0x0A) || decide (sub = 0x0E)
  | _ => false

/-- The value of an object that is not a DOMAIN, as a read returns it: the shadow for a member of an agreement group (R90). -/
def State.readValue (s : State) (idx sub : Nat) : Int :=
  match dictRecord idx with
  | none => 0
  | some (r, n) =>
    let p := s.chosenPlate
    match s.readHeld r.index n sub p with
    | some v => v
    | none =>
      let item := s.itemOf idx sub
      let k := okey (if perPlateStored r.index sub item then p else 0) item idx sub
      if (memberOf idx sub).isSome then s.shadowKey k else s.objKey k

/-- Whole records of `n` octets, up to `limit` octets. -/
def upTo (n limit : Nat) (l : List Octets) : Octets := (l.take (limit / n)).flatten

/-- The octets of a DOMAIN upload, at the management point (R120, R220, R231, R237, R251, R284, R400, R401). -/
def State.readDomain (s : State) (idx sub : Nat) : Octets :=
  match dictRecord idx with
  | none => []
  | some (r, n) => match r.index, sub with
    | 0x3020, 8 => upTo 16 4096 ((s.input n).fifo.map fun e => beOctets 14 e.time ++ beOctets 2 (e.flags + e.seq))
    | 0x2609, 1 => s.gnss.shown.flatten
    | 0x260A, 7 => (s.gnss.data.drop (s.obj 0x260A 6)).take 65536
    | 0x260B, 3 => upTo 64 4096 (s.gnss.tracks.map Prod.snd)
    | 0x3400, 0x0F => s.txRead n
    | 0x2811, 1 => s.hostRead
    | 0x2D30, 1 => upTo 32 2048 (s.faults.sheet.map sheetOctets)
    | 0x2D31, 1 => s.darkroom.secF.flatten
    | _, _ => []

/-! ### The checks of an access (R469) -/

/-- The access code of an entry where its row's depends on the instance or on another value (R101, R223, Table 5.2). -/
def State.accessOf (s : State) (b n sub : Nat) (a : OAccess) : OAccess :=
  match b, sub with
  | 0x3000, 2 => if n = 0 then .const else a
  | 0x3000, 3 => if n = 0 then .ro else a
  | 0x3000, 4 => if n = 0 then .const else a
  | 0x3100, 2 => if n < 16 then .const else a
  | 0x3100, 3 => if n < 16 then a else .ro
  | 0x2606, 8 => if s.objW (s.itemOf 0x2606 8) 0x2606 0x0B % 4 = 2 then .rw else a
  | 0x2606, 9 => if s.objW (s.itemOf 0x2606 9) 0x2606 0x0B / 4 % 4 = 2 then .rw else a
  | 0x2606, 0x0A => if s.objW (s.itemOf 0x2606 0x0A) 0x2606 0x0B / 16 % 4 = 2 then .rw else a
  | _, _ => a

/-- Steps 1 to 3: the row of an entry, or the abort code. -/
def State.reach (s : State) (idx sub : Nat) (write : Bool) : Except Nat DictEntry :=
  match dictRecord idx with
  | none => .error 0x06020000
  | some (r, n) => match r.row sub with
    | none => .error 0x06090011
    | some e =>
      if s.boot.phase ≠ 5 ∧ servedEarly idx sub write = false then .error 0x0A1E00D5
      else match s.accessOf r.index n sub e.access, write with
        | .wo, false => .error 0x06010001
        | .ro, true => .error 0x06010002
        | .const, true => .error 0x06010002
        | _, _ => .ok e

/-- A read: its octets in transfer order, or the abort code. -/
def State.readObject (s : State) (idx sub : Nat) : Except Nat Octets :=
  match s.reach idx sub false with
  | .error c => .error c
  | .ok e => .ok (if e.ty = .domain then s.readDomain idx sub else e.ty.encode (s.readValue idx sub))

end Sys2Proof.Machine
end

