-- ==== Sys2Proof/Machine/Writes.lean ====
section
/-! DEFINITION. Writing the object dictionary: agreement and commits (R91, R92), the checks of a write in the order of R469, and the
routing of each value to its family's own rule. -/

namespace Sys2Proof.Machine

/-! ### Commits (R91, R92) -/

/-- The state as the named instances' pending shadows would leave it: the ground on which their agreement is judged. -/
def State.asCommitted (s : State) (g mask : Nat) : State :=
  ((List.range (groupCount g)).filter fun n => bit mask n && s.isPending g n).foldl (fun (t : State) n =>
    (members g n).foldl (fun (t : State) k => match s.groups.shadow.look noneOf k with
      | none => t
      | some v => t.setKey k v) t) s

/-- Whether an instance's set agrees (R100, R183, R187, R191, R202, R208, R211, R241, R274, R343, R364). -/
def State.agrees (s : State) (g n : Nat) : Bool :=
  match g with
  | 0 => incrementAgrees (s.objI (0x3000 + n) 2) (s.objI (0x3000 + n) 3)
  | 1 => dpllAgrees (s.objI (0x3200 + n) 5) (s.objI (0x3200 + n) 6)
  | 2 => let o (k : Nat) : Nat := s.obj (0x3210 + n) k
         s.opllAgrees n (o 2) (o 3) (o 4) (o 5) (o 6) (o 7) (o 8)
  | 3 => s.channelAgrees n (s.obj (0x3220 + n) 3) (s.obj (0x3220 + n) 4)
  | 4 => let o (k : Nat) : Int := s.objI (0x3230 + n) k
         ppsAgrees (o 2) (o 3) (o 4) (o 5) (o 6) (o 7)
  | 5 => lanesAgree (fun k => s.objI (0x3400 + k) 2) (fun k => s.objI (0x3400 + k) 3) (fun k => s.objI (0x3400 + k) 4) n
  | 6 => let side := s.obj (0x2C40 + n) 1
         let every := s.obj (0x2C40 + n) 2
         decide (side = 0 ∧ every = 0)
           || (decide (side = 1 ∧ every ≤ 10) && decide (s.laneMode n ≠ 0) && decide (s.laneMode n = s.laneMode (n + 12)))
  | 7 => let o (k : Nat) : Int := s.objI (0x3500 + n) k
         mediaAgrees (s.obj (0x3500 + n) 3) (s.obj (0x3500 + n) 4) (o 5) (o 6) (o 7)
  | 8 => s.buffersAgree (s.objI 0x2800 3) (s.objI 0x2800 4) (fun q => s.objWI q 0x2801 2) (fun q => s.objWI q 0x2801 3)
  | 9 => profileAgrees (s.objI (0x3240 + n) 1) ((subRange 2 0x11).map (s.objI (0x3240 + n)))
  | 10 => let o (k : Nat) : Int := s.objI (0x2601 + n) k
          gnssAgrees (o 2) (o 3) (o 4) (o 5) (o 6)
  | _ => false

/-- The named instances that have something pending. -/
def State.named (s : State) (g mask : Nat) : List Nat := (List.range (groupCount g)).filter fun n => bit mask n && s.isPending g n

/-- A commit of the named instances, all or none (R65, R91, R92, R187). -/
def commitOp (g mask : Nat) (s : State) : Attempt :=
  let named := s.named g mask
  let t := s.asCommitted g mask
  let failing := named.filter fun n => !t.agrees g n
  if 2 ^ groupCount g ≤ mask then (s, some 0x06090030)
  else if mask &&& s.waitingMask g ≠ 0 then (s, some 0x0A1E0011)
  else if g = 2 ∧ ((List.range 4).any fun o => bit mask o && s.opllBusy o) = true then (s, some 0x0A1E0050)
  else if failing ≠ [] then (s.setRefused g (maskOf failing), some 0x0A1E0012)
  else if g = 5 ∧ (named.any fun n => s.modeRefused n (t.laneMode n)) = true then (s, some 0x0A1E003D)
  else (named.foldl (fun (s : State) n => s.commitOne g n) s, none)

/-- A discard of the named instances (R89, R92). -/
def discardOp (g mask : Nat) (s : State) : Except Nat State :=
  if 2 ^ groupCount g ≤ mask then .error 0x06090030
  else if mask &&& s.waitingMask g ≠ 0 then .error 0x0A1E0011
  else .ok ((s.named g mask).foldl (fun (s : State) n => s.dropShadow g n) s)

/-- A write to a member of instance `n` of group `g` (R90, R92, R102). -/
def memberWriteOp (g n k : Nat) (v : Int) (s : State) : Except Nat State :=
  if g = 0 ∧ (s.base n).steered = true then .error 0x0A1E0020
  else if s.isWaiting g n then .error 0x0A1E0011
  else .ok (s.writeShadow g n k v)

/-! ### When a value takes effect -/

/-- Window selectors, which act in the order of the requests (R437). -/
def isSelector (b sub : Nat) : Bool :=
  match b with
  | 0x2405 => decide (sub = 1 ∨ sub = 2 ∨ sub = 7)
  | 0x2406 => decide (sub = 1)
  | 0x2408 => decide (sub = 1)
  | 0x2410 => decide (sub = 1)
  | 0x2606 => decide (sub = 1)
  | 0x2608 => decide (sub = 1)
  | 0x260A => decide (sub = 6)
  | 0x2701 => decide (sub = 1 ∨ sub = 2)
  | 0x2801 => decide (sub = 1)
  | 0x2802 => decide (sub = 1)
  | 0x2900 => decide (sub = 3)
  | 0x2940 => decide (sub = 1)
  | 0x2B01 => decide (sub = 1 ∨ sub = 2)
  | 0x2C01 => true
  | 0x2D11 => decide (sub = 1)
  | 0x2E01 => decide (sub = 1)
  | 0x2E03 => decide (sub = 1)
  | 0x2E04 => decide (sub = 1)
  | _ => false

/-- Where a value with no rule of its own takes effect: 0 at the management point, 1 at cycle 0 of the next exposure (chapters 05,
06, 08, 09, 11, 13, 14, 15, and R118, R179, R277), 2 at cycle 0 of the next reel (R4, R159, R225). -/
def effectAt (b sub : Nat) : Nat :=
  if isSelector b sub then 0
  else if b = 0x2401 ∧ sub ≤ 0x0A then 2
  else if b = 0x2010 then 2
  else if b = 0x2A00 ∧ sub = 2 then 2
  else if b = 0x2603 ∧ 9 ≤ sub ∧ sub ≤ 0x0D then 2
  else if b = 0x3020 ∧ (sub = 2 ∨ sub = 3) then 1
  else if b = 0x3200 ∧ 1 ≤ sub ∧ sub ≤ 3 then 1
  else if b = 0x2801 ∧ 6 ≤ sub ∧ sub ≤ 8 then 1
  else if b = 0x3100 ∨ (0x2402 ≤ b ∧ b ≤ 0x2410) ∨ (0x2600 ≤ b ∧ b ≤ 0x2702) ∨ b = 0x3400 ∨ (0x2900 ≤ b ∧ b ≤ 0x2941)
      ∨ b = 0x3500 ∨ b = 0x2B01 ∨ b = 0x2C00 ∨ b = 0x2C30 ∨ (0x2D01 ≤ b ∧ b ≤ 0x2E20) then 1
  else 0

/-- A value with no rule of its own. -/
def plainWrite (b idx sub : Nat) (v : Int) (s : State) : State :=
  let k := okey 0 (s.itemOf idx sub) idx sub
  if effectAt b sub = 0 then s.takeEffect k v else s.pendWrite (effectAt b sub) k v

/-! ### Values that need more than the table's range (R469 step 6) -/

/-- A compare action of Table 4.5. -/
def compareActionOk (w : Nat) : Bool :=
  match w / 256 with
  | 0 => decide (w % 256 = 0)
  | 1 => decide (w % 256 ≤ 7)
  | 2 => decide (w % 256 ≤ 7)
  | 3 => decide (w % 256 ≤ 7)
  | 4 => decide (w % 256 = 0)
  | _ => false

/-- A source number of a DPLL above 31: refused by R179 where an enabled DPLL in mode 0 would follow it, else out of range. -/
def State.sourceBeyond (s : State) (d : Nat) : Nat :=
  if s.will (0x3200 + d) 1 = 1 ∧ s.will (0x3200 + d) 2 = 0 then 0x0A1E0055 else 0x06090030

/-- The abort code of a value that its table or rule does not take. -/
def State.valueError (s : State) (b n sub : Nat) (v : Int) : Option Nat :=
  let bad (ok : Bool) (c : Nat) : Option Nat := if ok then none else some c
  match b, sub with
  | 0x2111, 1 => bad (sheetSelector v.toNat) 0x06090030
  | 0x2210, 5 => bad (compareActionOk v.toNat) 0x06090030
  | 0x2401, 1 => bad (decide (1 ≤ v ∧ v ≤ 4)) 0x06090030
  | 0x2404, _ => bad (decide (v ≤ 0x20)) 0x06090030
  | 0x2600, 6 => bad (bit (s.will 0x2600 5) v.toNat) 0x06090030
  | 0x260B, 2 => bad (decide (v ≤ 0x10)) 0x06090030
  | 0x2801, 6 => bad (profileOk v.toNat) 0x06090030
  | 0x2801, 7 => bad (profileOk v.toNat) 0x06090030
  | 0x2801, 8 => bad (profileOk v.toNat) 0x06090030
  | 0x2910, 2 => bad (decide (1 ≤ v ∧ v ≤ 6)) 0x06090030
  | 0x3100, 2 => bad (decide (1 ≤ v / 256 ∧ v / 256 ≤ 4)) 0x06090030
  | 0x3100, 4 => bad (decide (v = 1000000 ∨ (1000000000 ≤ v ∧ v ≤ 1250000000000000))) 0x06090030
  | 0x3100, 8 => bad (decide (v ≤ 15 ∨ v = 0xFF)) 0x06090030
  | 0x3200, 2 => bad (decide (v ≤ 2)) 0x06090030
  | 0x3200, 0x0C => bad (decide (v ≠ 0)) 0x0A1E0054
  | 0x3220, 7 => bad (decide (2 * v.natAbs * s.channelHz n ≤ 10 ^ 18)) 0x06090030
  | 0x3200, 3 => bad (decide (v ≤ 31)) (s.sourceBeyond n)
  | 0x3500, 3 => bad (decide (v ≤ 2)) 0x06090030
  | _, _ => none

/-! ### Routing, chapter by chapter: `b` is the first index of the record, `n` the instance -/

/-- Refuses when `c` holds, else makes the change. -/
def orRefuse (c : Bool) (code : Nat) (t : State) : Except Nat State := if c then .error code else .ok t

/-- An event input switched on starts without a table (R118). -/
def inputEnableOp (i : Nat) (v : Int) (s : State) : State :=
  let t := s.takeEffect (okey 0 0 (0x3020 + i) 1) v
  if v = 1 ∧ s.obj (0x3020 + i) 1 = 0 then
    t.setInput i { t.input i with calibration := 0, passed := none, failures := 0, lastEdge := none }
  else t

/-- A write to an interval unit's settings (R121, R122). -/
def intervalWriteOp (n sub : Nat) (v : Int) (s : State) : Except Nat State :=
  let x := s.interval n
  let other : Nat := s.obj (0x2240 + n) (5 - sub)
  if x.mode ≠ 0 ∨ ((sub = 2 ∨ sub = 3) ∧ x.pendMode = some 1 ∧ v = other) then .error 0x0A1E0025
  else .ok (s.takeEffect (okey 0 0 (0x2240 + n) sub) v)

/-- Chapters 00 to 04. -/
def State.writeTime (s : State) (b n sub : Nat) (v : Int) : Option Attempt :=
  let w := v.toNat
  let idx := b + n
  match b, sub with
  | 0x2010, _ => some (attempt s (orRefuse (s.unitScheduled sub w) 0x0A1E0015 (s.pendWrite 2 (okey 0 0 0x2010 sub) v)))
  | 0x2080, 1 => some (commitOp n w s)
  | 0x2080, 2 => some (attempt s (discardOp n w s))
  | 0x2100, 6 => some (attempt s (swapRequestOp w s))
  | 0x2100, 0x0B => some (attempt s (cancelSwapOp w s))
  | 0x2101, 1 => some (attempt s (orRefuse (s.capRefused false w) 0x0A1E003A (s.takeEffect (okey 0 0 0x2101 1) v)))
  | 0x2101, 3 => some (attempt s (orRefuse (s.capRefused true w) 0x0A1E003A (s.takeEffect (okey 0 0 0x2101 3) v)))
  | 0x2201, _ => some (attempt s (leapWriteOp idx sub v s))
  | 0x2202, _ => some (attempt s (leapWriteOp idx sub v s))
  | 0x2203, 1 => some (attempt s (captureOp w s))
  | 0x2210, 6 => some (attempt s (if v = 1 then armOp n s else disarmOp n s))
  | 0x2210, _ => some (attempt s (orRefuse (s.countsArmed n) 0x0A1E0025 (s.takeEffect (okey 0 0 idx sub) v)))
  | 0x2240, 1 => some (attempt s (intervalModeOp n w s))
  | 0x2240, _ => some (attempt s (intervalWriteOp n sub v s))
  | 0x3000, 4 => some (attempt s (baseModeOp n w s))
  | 0x3000, 5 => some (attempt s (setBaseOp n w s))
  | 0x3000, 6 => some (attempt s (stepBaseOp n v s))
  | 0x3020, 1 => some (inputEnableOp n v s, none)
  | 0x3020, 9 => some (attempt s (fifoReleaseOp n w s))
  | 0x3020, 0x0E => some (attempt s (clearFlagsOp idx w s))
  | _, _ => none

/-- An enabled reference, or one about to be, uses an upstream instance (Table 5.7). -/
def State.upstreamUsed (s : State) (i : Nat) : Bool :=
  refNumbers.any fun r => decide (16 ≤ r) && s.willEnable r
    && (decide (s.will (0x3100 + r) 2 = 0x200 + i) || decide (s.will (0x3100 + r) 2 = 0x300 + i))

/-- A model write refused (R159). -/
def State.modelRefused (s : State) (sub : Nat) : Bool :=
  decide ((s.steer 0).refStatus = 1) || decide ((s.steer 0).reg ≠ 0)
    || (decide (sub = 3 ∨ (5 ≤ sub ∧ sub ≤ 9)) && decide (s.obj 0x2401 2 = 0))

/-- A steered source that cannot be used (R156). -/
def State.sourceUnusable (s : State) (w : Nat) : Bool :=
  decide (w ≠ 0) && (decide (s.obj (0x3100 + (w - 1)) 1 ≠ 1) || decide (s.refKind (w - 1) = 1) || decide (s.rank (w - 1) = 0))

/-- Registration commands (R171). -/
def registrationOp (w : Nat) (s : State) : Except Nat State :=
  match w with
  | 1 => registrationStepOp s
  | 2 => slowSlewOp s
  | 3 => registrationCancelOp s
  | _ => .error 0x06090030

/-- Chapters 05 and 06. -/
def State.writeReference (s : State) (b n sub : Nat) (v : Int) : Option Attempt :=
  let w := v.toNat
  let idx := b + n
  match b, sub with
  | 0x3100, 1 => some (attempt s (referenceEnableOp n w s))
  | 0x3100, 2 => some (attempt s (orRefuse (s.willEnable n) 0x0A1E0027 (s.later (okey 0 0 idx 2) v)))
  | 0x3100, 3 => some (attempt s (orRefuse (s.willEnable n) 0x0A1E0027 (s.later (okey 0 0 idx 3) v)))
  | 0x3100, 4 => some (attempt s (orRefuse (s.willEnable n) 0x0A1E0027 (s.later (okey 0 0 idx 4) v)))
  | 0x2320, 1 => some (attempt s (orRefuse (s.upstreamUsed n) 0x0A1E0027 (s.takeEffect (okey 0 0 idx 1) v)))
  | 0x2300, 1 => some (attempt s (manualSelectionOp w s))
  | 0x2300, 0x0A => some (attempt s (clearChallengeOp w s))
  | 0x2401, _ => some (attempt s (orRefuse (s.modelRefused sub) 0x0A1E002C (s.pendWrite 2 (okey 0 0 0x2401 sub) v)))
  | 0x2403, 1 => some (attempt s (registrationOp w s))
  | 0x2404, _ => some (attempt s (orRefuse (s.sourceUnusable w) 0x0A1E002E (s.later (okey 0 0 0x2404 sub) v)))
  | 0x2410, 2 => some (attempt s (orRefuse
      (match s.inForce with | none => false | some r => decide (s.obj (0x3100 + r) 8 = s.obj 0x2410 1)) 0x0A1E002D
      (s.later (okey 0 (s.obj 0x2410 1) 0x2410 2) v)))
  | _, _ => none

/-- A DPLL's nominal frequency (R180): the seed is loaded again and the word follows. -/
def retuneOp (d : Nat) (v : Int) (s : State) : State := (s.retune d v.toNat).takeEffect (okey 0 0 (0x3200 + d) 4) v

/-- A PPS channel's enable; one switched off owes nothing. -/
def ppsEnableOp (p : Nat) (v : Int) (s : State) : State :=
  let t := s.takeEffect (okey 0 0 (0x3230 + p) 1) v
  if v = 0 then t.setPps p { t.ppsChannel p with running := false, waitingBound := false, due := none, sending := none, pulseAt := none } else t

/-- Chapter 07. -/
def State.writeSynthesis (s : State) (b n sub : Nat) (v : Int) : Option Attempt :=
  let w := v.toNat
  let idx := b + n
  match b, sub with
  | 0x2502, 4 => some (attempt s (invalidateRecipesOp w s))
  | 0x3200, 1 => some (attempt s (orRefuse (!dpllWriteOk n 1 w s) 0x0A1E0055 (s.later (okey 0 0 idx 1) v)))
  | 0x3200, 2 => some (attempt s (orRefuse (!dpllWriteOk n 2 w s) 0x0A1E0055 (s.later (okey 0 0 idx 2) v)))
  | 0x3200, 3 => some (attempt s (orRefuse (!dpllWriteOk n 3 w s) 0x0A1E0055 (s.later (okey 0 0 idx 3) v)))
  | 0x3200, 4 => some (attempt s (orRefuse (s.dcoOwned n) 0x0A1E0051 (retuneOp n v s)))
  | 0x3210, 1 => some (attempt s (orRefuse (decide (v = 1) && decide (s.will (0x3200 + s.obj idx 2) 1 = 0)) 0x0A1E0056
      (s.setOpll n { s.opll n with pendEnable := some (decide (v = 1)), pendIn := s.clock.exposures })))
  | 0x3220, 1 => some (s.setChannel n { s.channel n with pendEnable := some (decide (v = 1)), pendIn := s.clock.exposures }, none)
  | 0x3220, 2 => some (attempt s (orRefuse (decide (s.obj idx 1 = 1)) 0x0A1E0052 (s.takeEffect (okey 0 0 idx 2) v)))
  | 0x3220, 8 => some (attempt s (outputRegistrationOp n w s))
  | 0x3230, 1 => some (ppsEnableOp n v s, none)
  | _, _ => none

/-- An enabled reference, or one about to be, takes its solutions from a sample port (R234). -/
def State.gnssReferenceOn (s : State) (p : Nat) : Bool :=
  refNumbers.any fun r => decide (16 ≤ r) && s.willEnable r && decide (s.will (0x3100 + r) 2 = 0x100 + p)

/-- Snapshot commands (R233). -/
def snapshotCommandOp (w : Nat) (s : State) : Except Nat State :=
  match w with
  | 1 => snapshotArmOp s
  | 2 => snapshotCancelOp s
  | 3 => snapshotProcessOp s
  | 4 => snapshotReleaseOp s
  | _ => .error 0x06090030

/-- Chapter 08. -/
def State.writeGnss (s : State) (b n sub : Nat) (v : Int) : Option Attempt :=
  let w := v.toNat
  let idx := b + n
  match b, sub with
  | 0x2601, 1 => some (attempt s (orRefuse (decide (v ≠ 1) && s.gnssReferenceOn n) 0x0A1E0061 (s.later (okey 0 0 idx 1) v)))
  | 0x2603, _ =>
    if 9 ≤ sub ∧ sub ≤ 0x0C then some (attempt s (orRefuse (!s.positionOk n sub v) 0x0A1E0063 (s.pendWrite 2 (okey 0 0 idx sub) v)))
    else none
  | 0x2605, 6 => some (attempt s (clearExclusionOp w s))
  | 0x260A, 4 => some (attempt s (snapshotCommandOp w s))
  | 0x260B, 4 => some (attempt s (trackReleaseOp w s))
  | _, _ => none

/-- Chapters 09 and 10. -/
def State.writePorts (s : State) (b n sub : Nat) (v : Int) : Option Attempt :=
  let w := v.toNat
  let idx := b + n
  match b, sub with
  | 0x2701, 3 => some (attempt s (patternWriteOp 3 v s))
  | 0x2701, 4 => some (attempt s (patternWriteOp 4 v s))
  | 0x2701, 5 => some (attempt s (patternWriteOp 5 v s))
  | 0x2702, _ => some (attempt s (macWriteOp sub v s))
  | 0x3400, 0x10 => some (attempt s (txReleaseOp n w s))
  | 0x3400, 0x14 => some (attempt s (clearFlagsOp idx w s))
  | 0x3400, _ => some (attempt s (laneWriteOp n sub v s))
  | 0x2801, 0x10 => some (attempt s (if v = 1 then clearPeakOp 0x2801 s else .error 0x06090030))
  | 0x2802, 2 => some (attempt s (forwardingOp w s))
  | 0x2811, 2 => some (attempt s (hostReleaseOp w s))
  | _, _ => none

/-- Chapters 11 and 12. -/
def State.writeServing (s : State) (b n sub : Nat) (v : Int) (data : Octets) : Option Attempt :=
  let w := v.toNat
  let idx := b + n
  match b, sub with
  | 0x2910, 1 => some (attempt s (instanceEnableOp idx w s))
  | 0x2910, _ => some (attempt s (instanceWriteOp idx sub v s))
  | 0x2920, 1 => some (attempt s (instanceEnableOp idx w s))
  | 0x2920, _ => some (attempt s (instanceWriteOp idx sub v s))
  | 0x2940, 3 => some (attempt s (if v = 1 then cancelGrantsOp s else clearQuarantineOp s))
  | 0x2A00, 5 => some (attempt s (signedPolicyOp w s))
  | 0x2A03, 0 => some (attempt s (invalidateOp w s))
  | 0x2A10, _ => some (attempt s (cookieGenerationOp sub w s))
  | 0x2A20, 2 => some (attempt s (associationOp data s))
  | 0x2A30, 1 => some (attempt s (tamperEnableOp w s))
  | _, _ => none

/-- A voltage limit that would leave the low limit at or above the high one (R405). -/
def State.limitsBad (s : State) (sub : Nat) (v : Int) : Bool :=
  let m := s.obj 0x2E03 1
  let lo := if sub = 3 then v else s.willKey (okey 0 m 0x2E03 3)
  let hi := if sub = 4 then v else s.willKey (okey 0 m 0x2E03 4)
  decide (hi ≤ lo)

/-- Chapters 13 to 16. -/
def State.writePlates (s : State) (b n sub : Nat) (v : Int) : Option Attempt :=
  let w := v.toNat
  match b, sub with
  | 0x3500, _ => some (attempt s (mediaWriteOp n sub v s))
  | 0x2B01, 4 => some (attempt s (channelEnableOp w s))
  | 0x2B01, _ => if 3 ≤ sub then some (attempt s (channelWriteOp s.selectedChannel sub v s)) else none
  | 0x2E10, _ => some (attempt s (mediaLoopbackOp (sub - 1) w s))
  | 0x2C00, 4 => some (attempt s (if v = 1 then roleSwapOp s else standbyToProofOp s))
  | 0x2D12, _ => some (attempt s (statusClearOp sub w s))
  | 0x2D20, 0x0C => some (attempt s (clearAddressOp w s))
  | 0x2D20, 0x0E => some (attempt s (clearLanesOp w s))
  | 0x2D30, 5 => some (attempt s (contactClearOp w s))
  | 0x2E01, 5 => some (attempt s (if v = 1 then clearPeakOp 0x2E01 s else .error 0x06090030))
  | 0x2E03, 3 => some (attempt s (orRefuse (s.limitsBad 3 v) 0x0A1E00C2 (s.later (okey 0 (s.obj 0x2E03 1) 0x2E03 3) v)))
  | 0x2E03, 4 => some (attempt s (orRefuse (s.limitsBad 4 v) 0x0A1E00C2 (s.later (okey 0 (s.obj 0x2E03 1) 0x2E03 4) v)))
  | 0x2E20, 3 => some (attempt s (injectOp w s))
  | 0x2F20, 1 => some (attempt s (reinitOp w s))
  | 0x2F21, 1 => some (attempt s (deviceResetOp w s))
  | 0x2F40, 4 => some (attempt s (revokeOp w s))
  | 0x2F40, 6 => some (attempt s (raiseFloorOp w s))
  | _, _ => none

/-- A value that passed steps 1 to 6: the refusals of its own rule, and its effect. -/
def State.writeValue (s : State) (b n sub : Nat) (v : Int) (data : Octets) : Attempt :=
  match memberOf (b + n) sub with
  | some (g, i) => attempt s (memberWriteOp g i (okey 0 (s.itemOf (b + n) sub) (b + n) sub) v s)
  | none =>
    (((s.writeTime b n sub v).orElse fun _ => (s.writeReference b n sub v).orElse fun _ => (s.writeSynthesis b n sub v).orElse fun _ =>
      (s.writeGnss b n sub v).orElse fun _ => (s.writePorts b n sub v).orElse fun _ => (s.writeServing b n sub v data).orElse fun _ =>
      s.writePlates b n sub v)).getD (plainWrite b (b + n) sub v s, none)

/-- The complete value of a DOMAIN download (R62, R148, R219, R283, R324 to R326, R416). -/
def State.writeDomain (s : State) (b n : Nat) (data : Octets) : Attempt :=
  match b with
  | 0x2100 => planDownloadOp data s
  | 0x2320 => attempt s (cookieLoadOp n data s)
  | 0x2600 => attempt s (navigationUploadOp data s)
  | 0x2810 => attempt s (hostTransmitOp data s)
  | 0x2A02 => keyImportOp data s
  | 0x2A04 => attempt s (rootLoadOp data s)
  | 0x2A05 => attempt s (policyReleaseOp data s)
  | _ => flashOp data s

/-- A write, checked in the order of R469. -/
def State.writeObject (s : State) (idx sub : Nat) (data : Octets) : Attempt :=
  match s.reach idx sub true with
  | .error c => (s, some c)
  | .ok e =>
    match dictRecord idx with
    | none => (s, some 0x06020000)
    | some (r, n) =>
      if e.ty = .domain then s.writeDomain r.index n data
      else if e.ty.size ≠ some data.length then (s, some 0x06070010)
      else if s.plateRefused idx sub then (s, some 0x0A1E0003)
      else
        let v := e.ty.decode data
        if !e.range.ok v then (s, some 0x06090030)
        else match s.valueError r.index n sub v with
          | some c => (s, some c)
          | none => s.writeValue r.index n sub v data

end Sys2Proof.Machine
end

