-- ==== Sys2Proof/Machine/Management.lean ====
section
/-! DEFINITION. Meanings of the management commands: transports, NMT, the USDO server, commits and writes (R72 to R98, R469 to R472). -/

namespace Sys2Proof.Machine

/-! ### Sizes of DOMAIN downloads (Table 3.15) -/

/-- The maximum size of a DOMAIN download and the code when it is exceeded (R471). -/
def State.domainLimit (s : State) (idx : Nat) : Nat × Nat :=
  match idx with
  | 0x2100 => (4194304, 0x0A1E0031)
  | 0x2600 => (65536, 0x05040005)
  | 0x2810 => (9610, 0x05040005)
  | 0x2A02 => (128, 0x0A1E0090)
  | 0x2A04 => (32, 0x0A1E0096)
  | 0x2A05 => (128, 0x0A1E0094)
  | 0x2F30 => if s.obj 0x2F30 1 < 2 then (262144, 0x0A1E00D4) else (4194304, 0x0A1E0031)
  | _ => (2064, 0x05040005)

/-! ### Segmented transfers (R81, R98, R470 to R472) -/

/-- A segment's excess over the limit of a plan image is recorded as its refusal (R63). -/
def State.noteOversize (s : State) (idx code : Nat) (open_ : Bool) : State :=
  if idx = 0x2100 ∧ code = 0x0A1E0031 then
    let t := s.planOversize
    if open_ then { t with plans := { t.plans with status := 4 } } else t
  else s

/-- The open transfer ends with an abort on its own transport; an abort of the engine's own accord answers no request. -/
def State.failTransfer (s : State) (code : Nat) (served : Bool) : State :=
  match s.mgmt.transfer with
  | none => s
  | some x =>
    let t := s.endTransfer
    if served then t.abort x.transport x.index x.sub code
    else
      let u := t.bump 0x2004 2
      let f := OutFrame.usdo u.node (.abort x.index x.sub code)
      match x.transport with
      | .can => u.pushCan f
      | .spi => u.pushSpi f

/-- A newer initiation supersedes the open transfer (R98). -/
def State.supersede (s : State) : State :=
  if s.mgmt.transfer.isSome then (s.failTransfer 0x0A1E0002 false).bump 0x2004 3 else s

/-- What refuses a segmented download at its initiation (R62, R416, R470, R471). -/
def State.initiateError (s : State) (idx sub : Nat) (size : Option Nat) : Option Nat :=
  match s.reach idx sub true with
  | .error c => some c
  | .ok e =>
    let (limit, code) := s.domainLimit idx
    match e.ty.size, size with
    | some n, some m => if n = m then none else some 0x06070010
    | none, some m =>
      if limit < m then some code
      else if idx = 0x2100 ∧ s.plans.latched = true then some 0x0A1E0043
      else if idx = 0x2F30 ∧ s.flashBusy = true then some 0x0A1E00D3 else none
    | none, none =>
      if idx = 0x2100 ∧ s.plans.latched = true then some 0x0A1E0043
      else if idx = 0x2F30 ∧ s.flashBusy = true then some 0x0A1E00D3 else none
    | some _, none => none

/-- A plan image's download starts: a plan checked and waiting is discarded, its swap with it (R62). -/
def State.startPlanDownload (s : State) : State :=
  ({ s with plans := { s.plans with status := 1, image := [], pendingId := 0, swapReel := 0 } } : State).setBank (1 - s.plans.active) none

/-- A download initiated (R98, R470): a transfer already open is superseded. -/
def State.openDownload (s0 : State) (t : Transport) (idx sub : Nat) (size : Option Nat) : State :=
  let s := s0.supersede
  match s.initiateError idx sub size with
  | some c => (s.noteOversize idx c false).abort t idx sub c
  | none =>
    let a := if idx = 0x2100 then s.startPlanDownload else s
    ({ a with mgmt := { a.mgmt with transfer := some ⟨t, true, idx, sub, size, [], 0, a.now⟩ } } : State).respond t (.downloadOpened idx sub)

/-- An answer 0x0504_0001 on a transport: it ends the transfer that is open there (R95). -/
def State.invalidFrame (s : State) (t : Transport) (idx sub : Nat) : State :=
  if s.mgmt.transfer.any fun x => decide (x.transport = t) then s.failTransfer 0x05040001 true else s.abort t idx sub 0x05040001

/-- The complete value of a download: applied, and its final segment confirmed or aborted (R470). -/
def State.applyValue (s : State) (t : Transport) (idx sub : Nat) (data : Octets) : State :=
  match s.writeObject idx sub data with
  | (u, none) => u.respond t .lastSegment
  | (u, some c) => u.abort t idx sub c

/-- The limit on the octets of an open download: the size announced, with 0x06070010 beyond it, or the maximum of Table 3.15. -/
def State.transferLimit (s : State) (x : Transfer) : Option (Nat × Nat) :=
  match x.size with
  | some n => some (n, 0x06070010)
  | none => match s.reach x.index x.sub true with
    | .ok e => if e.ty = .domain then some (s.domainLimit x.index) else none
    | .error _ => none

/-- A download segment (R81, R470, R471): its checks on receipt; the last one leaves the complete value. DESIGN CHOICE: a segment on a
transport whose open transfer is an upload is answered with 0x0504_0001, which ends the upload (log 74). -/
def State.segmentIn (s : State) (t : Transport) (seq : Nat) (last : Bool) (declared : Nat) (data : Octets) : State × Option Job :=
  match s.mgmt.transfer with
  | none => (s.abort t 0 0 0x05040001, none)
  | some x =>
    if x.transport ≠ t ∨ x.download = false then (s.invalidFrame t 0 0, none)
    else if seq ≠ x.next then (s.failTransfer 0x05030000 true, none)
    else if data.length < declared then (s.failTransfer 0x05040001 true, none)
    else
      let all := x.data ++ data.take declared
      let excess := match s.transferLimit x with
        | none => none
        | some (n, c) => if n < all.length then some c else none
      match excess with
      | some c => ((s.failTransfer c true).noteOversize x.index c true, none)
      | none =>
        if !last then ({ s with mgmt := { s.mgmt with transfer := some { x with data := all, next := seq + 1, since := s.now } } }, none)
        else if x.size.isSome ∧ x.size ≠ some all.length then (s.failTransfer 0x06070010 true, none)
        else ({ s with mgmt := { s.mgmt with transfer := none } }, some (.value x.index x.sub all))

/-- An upload (R81, R470): expedited for up to 56 octets, else segmented; always segmented for a DOMAIN object. -/
def State.upload (s : State) (t : Transport) (idx sub : Nat) : State :=
  match s.readObject idx sub with
  | .error c => s.abort t idx sub c
  | .ok d =>
    let domain := match dictRow idx sub with
      | some e => decide (e.ty = .domain)
      | none => false
    if !domain && decide (d.length ≤ 56) then s.respond t (.uploaded idx sub d)
    else
      let a := s.supersede
      ({ a with mgmt := { a.mgmt with transfer := some ⟨t, false, idx, sub, some d.length, d, 0, a.now⟩ } } : State).respond t (.uploadOpened idx sub d.length)

/-- A segment of the open upload: up to 63 octets; the last ends the transfer. -/
def State.uploadNext (s : State) (t : Transport) (seq : Nat) : State :=
  match s.mgmt.transfer with
  | none => s.abort t 0 0 0x05040001
  | some x =>
    if x.transport ≠ t ∨ x.download = true then s.invalidFrame t 0 0
    else if seq ≠ x.next then s.failTransfer 0x05030000 true
    else
      let rest := x.data.drop 63
      let last := rest.isEmpty
      let m := if last then none else some { x with data := rest, next := seq + 1, since := s.now }
      ({ s with mgmt := { s.mgmt with transfer := m } } : State).respond t (.uploadSegment seq last (x.data.take 63))

/-- An expedited download (R81, R470): up to 56 octets, and never to a DOMAIN object. -/
def State.expedited (s : State) (t : Transport) (idx sub : Nat) (data : Octets) : State :=
  match s.reach idx sub true with
  | .error c => s.abort t idx sub c
  | .ok e =>
    if e.ty = .domain ∨ 56 < data.length then s.abort t idx sub 0x05040001
    else match s.writeObject idx sub data with
      | (u, none) => u.respond t (.downloaded idx sub)
      | (u, some c) => u.abort t idx sub c

/-! ### The request queue (R82, R83, R418) -/

/-- A request served. -/
def State.serveJob (s : State) (t : Transport) (j : Job) : State :=
  settleRegister s (match j with
  | .value idx sub data => s.applyValue t idx sub data
  | .invalid idx sub => s.invalidFrame t idx sub
  | .request (.expedited idx sub data) => s.expedited t idx sub data
  | .request (.initiate idx sub size) => s.openDownload t idx sub size
  | .request (.uploadInitiate idx sub) => s.upload t idx sub
  | .request (.uploadSegment seq) => s.uploadNext t seq
  | .request _ => s)

/-- The exposure of the management point of a request complete now: the next one from cycle 999,872 on (R83). -/
def State.dueExposure (s : State) : Nat := if 999872 ≤ s.clock.cycle then s.clock.exposures + 1 else s.clock.exposures

def Job.target : Job → Nat × Nat
  | .value i k _ => (i, k)
  | .invalid i k => (i, k)
  | .request (.expedited i k _) => (i, k)
  | .request (.initiate i k _) => (i, k)
  | .request (.uploadInitiate i k) => (i, k)
  | .request _ => (0, 0)

/-- A job joins the queue of 64; before phase 5 it is served as it is received (R82, R418). -/
def State.enqueueJob (s : State) (t : Transport) (j : Job) : State :=
  if s.boot.phase ≠ 5 then s.serveJob t j
  else if 64 ≤ s.mgmt.requests.length then s.abort t j.target.1 j.target.2 0x0A1E0001
  else { s with mgmt := { s.mgmt with requests := s.mgmt.requests ++ [⟨t, j, s.dueExposure⟩] } }

/-- A complete value of a download: a plan image is taken on receipt (R88), any other waits for its management point. -/
def State.takeValue (s : State) (t : Transport) (j : Option Job) : State :=
  match j with
  | none => s
  | some (.value 0x2100 sub data) => s.applyValue t 0x2100 sub data
  | some j => s.enqueueJob t j

/-- A request frame for this node (R73, R81, R82). Every request waits its turn; the segments of an open download, which are not
answered one by one, are taken on receipt (R470, R471), and so is the client's own abort (log 8). -/
def State.receive (s : State) (t : Transport) (short : Bool) (r : UsdoRequest) : State :=
  if !s.listens then s
  else match short, r with
    | false, .segment seq last declared data => let (u, j) := s.segmentIn t seq last declared data; u.takeValue t j
    | false, .clientAbort => (match s.mgmt.transfer with
      | none => s
      | some x => if x.transport = t then s.endTransfer else s)
    | false, .unknown => s.enqueueJob t (.invalid 0 0)
    | false, r => s.enqueueJob t (.request r)
    | true, r => s.enqueueJob t (.invalid (Job.request r).target.1 (Job.request r).target.2)

/-- CAN_FRAME_RECEIVED (R73, R81, R82): frames for another node, or with a data length code below 8 octets, are ignored. -/
def execCanFrameReceived (frame : CanRequest) (s : State) : Host.Outcome State Fault Refusal :=
  .next (if frame.node ≠ s.node ∨ frame.length < 8 then s else s.receive .can frame.short frame.request)

/-! ### The SPI tunnel (R74 to R76) -/

/-- The check of Table 3.2 over the first two header octets and the frame. -/
def spiCheckOk (x : SpiTransaction) : Bool :=
  decide (crc16 (BitVec.ofNat 8 x.kind :: BitVec.ofNat 8 x.length :: x.octets) = x.check) && decide (x.octets.length = x.length)

/-- The length that a type takes. -/
def spiLengthOk (x : SpiTransaction) : Bool :=
  match x.kind with
  | 1 => decide (x.length = 2)
  | 2 => decide (1 ≤ x.length ∧ x.length ≤ 64)
  | 3 => decide (x.length = 0)
  | 4 => decide (x.length = 0)
  | _ => false

/-- SPI_MISO through the header and frame that a transaction sends: 0x00 (R75). -/
def misoIdle (x : SpiTransaction) : Octets := List.replicate (4 + x.octets.length) 0

/-- A transaction of a type, or its discard (R75). DESIGN CHOICE: before the boot-up message, a time on which R75 is silent, a
transaction is ignored and not counted (log 79). -/
def State.spi (s : State) (kind : Nat) (x : SpiTransaction) (f : State → State) : State :=
  if s.boot.inReset ∨ s.mgmt.nmt = 0 then s
  else
    let t : State := { s with mgmt := { s.mgmt with miso := misoIdle x } }
    if x.kind = kind ∧ spiLengthOk x = true ∧ spiCheckOk x = true then f t else t.bump 0x2004 4

/-- The type octet of a frame for the host (Table 3.2). -/
def OutFrame.kind : OutFrame → Nat
  | .usdo .. => 0x81
  | .emcy .. => 0x82
  | .heartbeat .. => 0x83
  | .bootUp _ => 0x83

/-- A header and its frame, from the engine to the host: type, length, check and frame octets (Table 3.2). -/
def spiFrame (kind : Nat) (d : Octets) : Octets :=
  let h := [BitVec.ofNat 8 kind, BitVec.ofNat 8 d.length]
  h ++ beOctets 2 (crc16 (h ++ d)) ++ d

/-- What a read of the head frame returns. -/
def State.spiHead (s : State) : Octets :=
  match s.mgmt.spiQueue.head? with
  | none => spiFrame 0x80 []
  | some f => spiFrame f.kind f.dataField

/-- The level of SPI_ATTN_N: low while frames wait for the host (R76). -/
def State.spiAttnN (s : State) : Bool := s.mgmt.spiQueue.isEmpty

/-- SPI_NMT_COMMAND (R74, R78): the command octet and the node it is for. -/
def execSpiNmtCommand (x : SpiTransaction) (s : State) : Host.Outcome State Fault Refusal :=
  .next (s.spi 1 x fun s => s.nmtCommand (x.octets.headD 0).toNat ((x.octets.drop 1).headD 0).toNat x.straps)

/-- SPI_USDO_REQUEST (R74, R81). -/
def execSpiUsdoRequest (x : SpiTransaction) (s : State) : Host.Outcome State Fault Refusal :=
  .next (s.spi 2 x fun s => s.receive .spi x.short x.request)

/-- SPI_READ_HEAD_FRAME (R76): the head frame stays in the queue. -/
def execSpiReadHeadFrame (x : SpiTransaction) (s : State) : Host.Outcome State Fault Refusal :=
  .next (s.spi 3 x fun s => { s with mgmt := { s.mgmt with miso := s.mgmt.miso ++ s.spiHead } })

/-- SPI_REMOVE_HEAD_FRAME (R76). -/
def execSpiRemoveHeadFrame (x : SpiTransaction) (s : State) : Host.Outcome State Fault Refusal :=
  .next (s.spi 4 x fun s => { s with mgmt := { s.mgmt with spiQueue := s.mgmt.spiQueue.drop 1 } })

/-- SPI_INVALID_TRANSACTION (R75): an unknown type, or one whose check or length fails, is counted; a valid one is none of these. -/
def execSpiInvalidTransaction (x : SpiTransaction) (s : State) : Host.Outcome State Fault Refusal :=
  .next (if s.boot.inReset ∨ s.mgmt.nmt = 0 ∨ (spiLengthOk x = true ∧ spiCheckOk x = true) then s
    else ({ s with mgmt := { s.mgmt with miso := misoIdle x } } : State).bump 0x2004 4)

/-! ### NMT and the heartbeat (R72, R78 to R80) -/

/-- HEARTBEAT (R72, R78): on CAN and for SPI, in every state after the boot-up message, unless 0x1017 disables it. -/
def execHeartbeat (s : State) : Host.Outcome State Fault Refusal :=
  .next (if s.mgmt.nmt = 0 ∨ s.obj 0x1017 0 = 0 then s
    else
      let f := OutFrame.heartbeat s.node s.mgmt.nmt
      (s.pushCan f).pushSpi f)

/-- START_REMOTE_NODE (R79). -/
def execStartRemoteNode (node : Nat) (s : State) : Host.Outcome State Fault Refusal := .next (s.nmtCommand 0x01 node s.mgmt.straps)

/-- STOP_REMOTE_NODE (R79). -/
def execStopRemoteNode (node : Nat) (s : State) : Host.Outcome State Fault Refusal := .next (s.nmtCommand 0x02 node s.mgmt.straps)

/-- ENTER_PRE_OPERATIONAL (R79). -/
def execEnterPreOperational (node : Nat) (s : State) : Host.Outcome State Fault Refusal := .next (s.nmtCommand 0x80 node s.mgmt.straps)

/-- RESET_COMMUNICATION (R79): the straps are read again. -/
def execResetCommunication (node straps : Nat) (s : State) : Host.Outcome State Fault Refusal := .next (s.nmtCommand 0x82 node straps)

/-- RESET_NODE (R79). -/
def execResetNode (node straps : Nat) (s : State) : Host.Outcome State Fault Refusal := .next (s.nmtCommand 0x81 node straps)

/-- CAN error state (R402): 0 active, 1 passive, 2 bus-off. -/
def execCanErrorStateChange (state : Nat) (s : State) : Host.Outcome State Fault Refusal :=
  .next (if s.boot.inReset then s
    else settleRegister s { s with mgmt := { s.mgmt with canState := state % 3 } })

/-- EMCY_LOST_REPORT (R97): once a place in the hold is free. -/
def execEmcyLostReport (s : State) : Host.Outcome State Fault Refusal := .next s.reportLost

/-! ### The server's own commands -/

/-- A request served as at its management point. -/
def State.request (s : State) (f : State → State) : State := if s.listens then settleRegister s (f s) else s

/-- USDO_EXPEDITED_DOWNLOAD (R81, R470). -/
def execUsdoExpeditedDownload (t : Transport) (index sub : Nat) (data : Octets) (s : State) : Host.Outcome State Fault Refusal :=
  .next (s.request fun s => s.expedited t index sub data)

/-- USDO_DOWNLOAD_INITIATE (R98, R470). -/
def execUsdoDownloadInitiate (t : Transport) (index sub : Nat) (size : Option Nat) (s : State) : Host.Outcome State Fault Refusal :=
  .next (s.request fun s => s.openDownload t index sub size)

/-- USDO_DOWNLOAD_SEGMENT (R81, R470, R471). -/
def execUsdoDownloadSegment (t : Transport) (seq : Nat) (last : Bool) (declared : Nat) (data : Octets) (s : State) :
    Host.Outcome State Fault Refusal :=
  .next (if s.listens then (let (u, j) := s.segmentIn t seq last declared data; u.takeValue t j) else s)

/-- USDO_UPLOAD_INITIATE (R81, R470). -/
def execUsdoUploadInitiate (t : Transport) (index sub : Nat) (s : State) : Host.Outcome State Fault Refusal :=
  .next (s.request fun s => s.upload t index sub)

/-- USDO_UPLOAD_SEGMENT (R81). -/
def execUsdoUploadSegment (t : Transport) (seq : Nat) (s : State) : Host.Outcome State Fault Refusal :=
  .next (s.request fun s => s.uploadNext t seq)

/-- 1,000 ms have passed since the last segment of the open transfer (R81); before phase 5 the model's clock does not run, and the sender's
timer stands (log 70). -/
def State.segmentLate (s : State) : Bool :=
  s.mgmt.transfer.any fun x => decide (s.boot.phase ≠ 5) || decide (x.since + 1000000000 ≤ s.now)

/-- SEGMENT_TIMEOUT (R81). DESIGN CHOICE: in Stopped nothing happens and the transfer stays open, the spec does not say what becomes of
it there (log 80). -/
def execSegmentTimeout (s : State) : Host.Outcome State Fault Refusal :=
  .next (s.request fun s => if s.segmentLate then s.failTransfer 0x05040000 false else s)

/-- TRANSFER_ENDED_BY_ENGINE (R472). -/
def execTransferEndedByEngine (s : State) : Host.Outcome State Fault Refusal := .next (s.request fun s => s.failTransfer 0x08000022 false)

/-- A write, its checks, its effect and its response (R83, R469). -/
def State.write (s : State) (t : Transport) (idx sub : Nat) (data : Octets) : State :=
  s.request fun s => match s.writeObject idx sub data with
    | (u, none) => u.respond t (.downloaded idx sub)
    | (u, some c) => u.abort t idx sub c

/-- REGISTER_WRITE (R469). -/
def execRegisterWrite (t : Transport) (index sub : Nat) (data : Octets) (s : State) : Host.Outcome State Fault Refusal :=
  .next (s.write t index sub data)

/-- SHADOW_WRITE (R90, R92). -/
def execShadowWrite (t : Transport) (index sub : Nat) (data : Octets) (s : State) : Host.Outcome State Fault Refusal :=
  .next (s.write t index sub data)

/-- UNIT_ENABLE_WRITE (R4, R5). -/
def execUnitEnableWrite (t : Transport) (sub : Nat) (data : Octets) (s : State) : Host.Outcome State Fault Refusal :=
  .next (s.write t 0x2010 sub data)

/-- COMMIT (R91, R92). -/
def execCommit (t : Transport) (group mask : Nat) (s : State) : Host.Outcome State Fault Refusal :=
  .next (s.request fun s => s.commandA t (0x2080 + group) 1 (commitOp group mask))

/-- DISCARD (R89, R92). -/
def execDiscard (t : Transport) (group mask : Nat) (s : State) : Host.Outcome State Fault Refusal :=
  .next (s.request fun s => s.command t (0x2080 + group) 2 (discardOp group mask))

/-- SHADOW_TIMEOUT (R94): once for an instance whose shadow has waited 60 s. -/
def execShadowTimeout (group inst : Nat) (s : State) : Host.Outcome State Fault Refusal :=
  .next (s.whenServing fun s =>
    let seen := s.groups.reported.look (fun _ => 0) group
    if !s.isPending group inst ∨ bit seen inst ∨ s.now < s.groups.since.look (fun _ => 0) (32 * group + inst) + minute then s
    else ({ s with groups := { s.groups with reported := s.groups.reported.put (fun _ => 0) group (putBit seen inst true) } } : State).emcy
      0xFF10 0xFF (group * 2 ^ 24 + inst * 2 ^ 16))

/-! ### The test access port (R444) -/

/-- An instruction reaches the TAP (0 BYPASS, 1 IDCODE, others boundary scan; log 8): with RESET_N high it accepts BYPASS and IDCODE only. -/
def execTapInstruction (ir : Nat) (s : State) : Host.Outcome State Fault Refusal :=
  .next (if s.boot.inReset ∨ ir ≤ 1 then { s with boot := { s.boot with tap := ir } } else s)

end Sys2Proof.Machine
end

