-- ==== Sys2Proof/Machine/Clock.lean ====
section
/-! DEFINITION. Work that the engine's own clock starts: the engine cycle, cycle 0 of an exposure and of a reel, the management
point, and the CAN controller. At a cycle 0 that begins a reel the exposure boundary comes first (log 1). -/

namespace Sys2Proof.Machine

/-! ### The engine cycle (R8, R99) -/

/-- The cycle that follows: 1,000,000 to an exposure, 1,000 exposures to a reel. A cycle 0 has its work due. -/
def Clock.next (c : Clock) : Clock :=
  if c.cycle + 1 < 1000000 then { c with cycle := c.cycle + 1 }
  else if c.exposure + 1 < 1000 then { c with cycle := 0, exposure := c.exposure + 1, exposures := c.exposures + 1, exposureDue := true }
  else { cycle := 0, exposure := 0, exposures := c.exposures + 1, reel := c.reel + 1, exposureDue := true, reelDue := true }

/-- ENGINE_CYCLE: every time base adds its increment; none during a registration gate, while the datapath receives no cycles (R173), and
no cycle follows a cycle 0 whose boundary work is still to come (log 1). The table of the exposure's update comes into force at slot
256 (R165). -/
def execEngineCycle (s : State) : Host.Outcome State Fault Refusal :=
  .next (s.whenServing fun s =>
    if s.time.gate || s.clock.exposureDue || s.clock.reelDue then s
    else
      let a := s.advanceBases.advanceDcos
      let b : State := { a with clock := a.clock.next }
      if b.clock.cycle = tableSlot then b.adoptTable else b)

/-! ### Values that wait for a boundary -/

/-- One value takes effect. A re-key of PTP serving writes bit 0 of 0x2910+i.1F alone. -/
def State.takePending (s : State) (p : PendingWrite) : State :=
  let idx := okeyIndex p.key
  if 0x2910 ≤ idx ∧ idx < 0x2918 ∧ okeySub p.key = 0x1F then
    s.takeEffect p.key ((s.objKey p.key).toNat / 256 * 256 + p.value.toNat : Nat)
  else s.takeEffect p.key p.value

/-- GNSS is enabled or disabled (R3, R6): its references are disqualified, its channels leave, its banks sleep. -/
def State.gnssUnit (s : State) : State :=
  if s.obj 0x2010 1 = 1 then s
  else
    let a := refNumbers.foldl (fun (s : State) r =>
      if s.refSource r = 1 ∧ 1 ≤ (s.loupe r).state ∧ (s.loupe r).state ≤ 4 then (s.holdTrackers r).setRef r 5 7 else s) s
    let b := (a.portChannelsTo 0 0).portChannelsTo 1 0
    (List.range 12).foldl (fun (s : State) k => s.sleepDomain 4 k) b

/-- Media ports are enabled or disabled (R3, R6). -/
def State.mediaUnits (s : State) : State :=
  (List.range 8).foldl (fun (s : State) m => (if s.mediaUnit m then s else s.sleepDomain 6 m).mediaRefresh m) s

/-- A sample port leaves or takes up tracking (R211, R234, Table 15.9). -/
def State.gnssModeTaken (s : State) (p : Nat) (old : Int) : State :=
  let m := s.objI (0x2601 + p) 1
  let a := if m = 1 then s else s.portChannelsTo p 0
  if (old = 0) = (m = 0) then a else a.testEvent 3 (decide (m = 0)) (0x2601 + p)

/-- A class write that takes effect: the learning time starts over, and a learned model loads the class values (R158, Table 6.8). -/
def State.classWritten (s : State) : State :=
  let t := s.setObj 0x2401 0x0B 0
  if t.obj 0x2401 2 = 0 then t.loadClass (t.obj 0x2401 1) else t

/-- A steered time base takes a new source: it starts unregistered at the frequency in force (R156). -/
def State.restartSteer (s : State) (n : Nat) : State := s.setSteer n { freq := s.objI (0x3000 + n) 3 }

/-- What a value does when it comes into force, beyond standing there; `before` is the state at the boundary. -/
def State.pendingDone (before s : State) (p : PendingWrite) : State :=
  let idx := okeyIndex p.key
  let sub := okeySub p.key
  if 0x3200 ≤ idx ∧ idx < 0x3210 then s.dpllApplied (idx - 0x3200) (decide (before.obj idx 2 ≠ s.obj idx 2 ∨ before.obj idx 3 ≠ s.obj idx 3))
  else if idx = 0x2010 ∧ sub = 1 then s.gnssUnit
  else if idx = 0x2010 ∧ sub = 2 then s.mediaUnits
  else if 0x2601 ≤ idx ∧ idx ≤ 0x2602 ∧ sub = 1 then s.gnssModeTaken (idx - 0x2601) (before.objKey p.key)
  else if 0x2603 ≤ idx ∧ idx ≤ 0x2604 ∧ sub = 0x0D ∧ p.value = 0 ∧ before.objKey p.key ≠ 0 then
    let g := s.gnssPort (idx - 0x2603)
    (s.setGnssPort (idx - 0x2603) { g with surveyN := 0, surveySum := (0, 0, 0), surveySq := 0 }).setObj idx 0x0F 0
  else if idx = 0x2401 ∧ sub = 1 then s.classWritten
  else if idx = 0x2401 ∧ sub = 2 then (if s.obj 0x2401 2 = 0 then s.loadClass (s.obj 0x2401 1) else s)
  else if idx = 0x2404 then s.restartSteer sub
  else s

/-- The values of a boundary take effect together; a DPLL acts once on all of its own. -/
def State.applyPending (s : State) (boundary : Nat) : State :=
  let due := s.mgmt.pendWrites.filter fun p => decide (p.boundary = boundary)
  let a : State := { s with mgmt := { s.mgmt with pendWrites := s.mgmt.pendWrites.filter fun p => decide (p.boundary ≠ boundary) } }
  let t := due.foldl State.takePending a
  let b := State.endCross s (State.realign s t)
  let first := due.filter fun p =>
    !(decide (0x3200 ≤ okeyIndex p.key) && decide (okeyIndex p.key < 0x3210))
      || decide ((due.find? fun q => decide (okeyIndex q.key = okeyIndex p.key)) = some p)
  first.foldl (State.pendingDone s) b

/-! ### Cycle 0 of an exposure -/

/-- A group's waiting sets take effect (R91). -/
def State.applySets (s : State) (g : Nat) (done : State → Nat → State) : State :=
  (List.range (groupCount g)).foldl (fun (s : State) n => if s.isWaiting g n then done (s.applyGroup g n) n else s) s

/-- The agreement groups whose sets wait for an exposure boundary (Table 3.7). A committed increment counts in 0x3000+n.07
(Table 4.2); a new format of a sample port sends its channels to Search (R211). -/
def State.applyAllSets (s : State) : State :=
  let keep (s : State) (_ : Nat) : State := s
  let a := ((s.applySets 0 fun s n => s.bump (0x3000 + n) 7).applySets 1 State.dpllCommitted).applySets 4 keep
  let b := (List.range 24).foldl (fun (s : State) n => if s.isWaiting 5 n then s.applyPortSet n else s) a
  (((b.applySets 6 keep).applySets 8 keep).applySets 9 keep).applySets 10 fun s p => s.portChannelsTo p 1

/-- A time base's mode, set and step (R102, R103); one that becomes steered starts unregistered (R156). -/
def State.moveBase (s : State) (n : Nat) : State :=
  let b := s.base n
  let t := s.applyBase n
  if b.pendMode = some 1 ∧ !b.steered then t.restartSteer n else t

def State.overEach (s : State) (n : Nat) (f : State → Nat → State) : State := (List.range n).foldl f s

/-- What the previous exposure left for cycle 0: the contact sheet, the readings, the plates and the blocks. -/
def State.boundaryPlates (s : State) (r : Readings) : State :=
  ((((((s.refreshRed).enterSheet.takeReadings r).plateExposure).containedActions).holdLines).releaseClusters)

/-- Sets, values and adjustments in force from this cycle, and what watches the time bases: every time base moves, then the compare
units act in ascending number (R113), then the grids on moved bases restart (R345), then a capture (R114). -/
def State.boundaryValues (s : State) : State :=
  let a := (s.passEvents.applyPending 1).applyAllSets
  let moved := a.movedBases
  let b := (a.overEach 32 State.moveBase).overEach 32 State.applySteered
  let c := (b.overEach 8 State.applyInterval).overEach 32 (State.compareBoundary moved)
  let d := moved.foldl (fun (s : State) n => (s.regrid n).misalign n) c
  if d.time.capturePending then ({ d with time := { d.time with capturePending := false } } : State).capture else d

/-- The selector, the references, GNSS and the Developer (R136, R125, R215, Table 6.1). -/
def State.boundaryReferences (s : State) : State :=
  let a := (s.selector).overEach 32 State.refExposure
  (((a.gnssExposure).devExposure.pruneEnsemble).overEach 16 State.dpllExposure).see

/-- Ports, media and serving (R241, R248, R265, R266, R275, R288, R358). -/
def State.boundaryPorts (s : State) : State :=
  let a := ((((s.overEach 24 State.applyLane).overEach 24 State.applyLoop).overEach 24 State.endHold).overEach 24 State.negotiate).overEach 24 State.checkWake
  ((a.applyMedia.applyInstances).refillMeters).overEach 12 State.registerChannel

/-- Recovery (R173, R426, R427, R467). -/
def State.boundaryRecovery (s : State) : State := ((s.closeGateGap.startReinits).watchdog).shedExposure

/-- The offers of the exposure before are compared (Table 14.3, point 0x02), and a new digest begins. -/
def State.boundaryCompare (s : State) : State :=
  let t := s.comparedDigest 2 0 s.fabric.offered
  { t with fabric := { t.fabric with offered := 0 } }

/-- EXPOSURE_BOUNDARY (R8, R91, R103, R361): the work of cycle 0 of an exposure, once. Before service the readings alone are taken. -/
def execExposureBoundary (readings : Readings) (s : State) : Host.Outcome State Fault Refusal :=
  .next (
    if s.serving then
      if !s.clock.exposureDue || s.gateAhead then s else
      let a : State := { s with clock := { s.clock with exposureDue := false } }
      let b := (((a.boundaryPlates readings).boundaryValues.boundaryReferences).boundaryPorts).boundaryRecovery
      settleRegister s b.boundaryCompare
    else if s.boot.inReset ∨ s.boot.phase = 0 then s
    else { s with faults := { s.faults with temps := readings.temps } })

/-! ### Cycle 0 of a reel -/

/-- Per-reel counts start over. -/
def State.reelCounts (s : State) : State :=
  let keys := s.faults.lines.keys
  let lines := keys.foldl (fun (t : Table Line) k =>
    t.put (fun _ => {}) k { t.look (fun _ => {}) k with reelCorrected := 0, logged := false }) s.faults.lines
  { s with faults := { s.faults with lines := lines }, serve := { s.serve with skips := [] },
           fabric := { s.fabric with reelDrops := 0, stagingSent := false } }

/-- Loupes, the disagreement test and the Developer's ensemble (R128, R141, R151). -/
def State.reelReferences (s : State) : State := (((s.overEach 32 State.loupeReel).testPairs).devReel).see

/-- Leaps, event inputs and interval gates (R108, R117, R122). -/
def State.reelTimes (s : State) : State := ((s.passEvents.leapReel).overEach 74 State.swapTable).overEach 8 State.startGate

/-- Keys, clients, instances and ports (R329, R304, R293, R246). -/
def State.reelServing (s : State) : State := (((((s.keysReel).releaseRecords).clearDegraded).portsReel).mediaReel).sensorReel

/-- REEL_BOUNDARY (R8, R40): the work of cycle 0 of a reel, once, after its exposure boundary. -/
def execReelBoundary (inputs : ReelInputs) (s : State) : Host.Outcome State Fault Refusal :=
  .next (s.whenServing fun s =>
    if s.clock.exposureDue || !s.clock.reelDue then s else
    let a : State := { s with clock := { s.clock with reelDue := false } }
    let b := (((a.refreshSheet.reelCounts).applyPending 2).reelTimes.reelReferences).gnssReel inputs.lines
    let c := inputs.channelErrors.foldl (fun (s : State) e => s.checkChannel e.1 e.2.1 e.2.2) b.reelServing
    settleRegister s (c.darkroomReel inputs.darkroomRailError inputs.darkroomCount))

/-! ### The management point and the CAN controller -/

/-- Requests complete in time for this point, in order (R82, R83). -/
def State.serveRequests (s : State) : State :=
  let due := s.mgmt.requests.filter fun w => decide (w.due ≤ s.clock.exposures)
  let a : State := { s with mgmt := { s.mgmt with requests := s.mgmt.requests.filter fun w => decide (s.clock.exposures < w.due) } }
  due.foldl (fun (s : State) w => s.serveJob w.transport w.job) a

/-- The management point of an exposure (R83). -/
def managementCycle : Nat := 999936

/-- MANAGEMENT_POINT (R83, R250): at its cycle. -/
def execManagementPoint (s : State) : Host.Outcome State Fault Refusal :=
  .next (s.whenServing fun s => if s.clock.cycle = managementCycle then (s.serveRequests).consumeTx else s)

/-- A frame on the CAN bus (R73). -/
def State.sendCan (s : State) (f : OutFrame) : State :=
  { s with mgmt := { s.mgmt with canSent := some ⟨f.busOrder, true, s.mgmt.bitRate, f.dataField⟩ } }

/-- A frame that leaves in Stopped: the heartbeat only (Table 3.3). -/
def OutFrame.isHeartbeat : OutFrame → Bool
  | .heartbeat .. => true
  | _ => false

/-- The list without its first heartbeat. -/
def dropHeartbeat : List OutFrame → List OutFrame
  | [] => []
  | f :: r => if f.isHeartbeat then r else f :: dropHeartbeat r

/-- The CAN controller sends one frame when nothing is commanded (log 2): of the EMCY at the head of its hold and the other frames the lower identifier
first; in Stopped a heartbeat only. None leaves in bus-off or before the boot-up message; a freed place in the hold reports the frames
lost (R97). -/
def State.idle (s : State) : State :=
  if s.mgmt.canState = 2 ∨ s.mgmt.nmt = 0 then s
  else if s.mgmt.nmt = 4 then (match s.mgmt.canTx.find? OutFrame.isHeartbeat with
    | none => s
    | some f => ({ s with mgmt := { s.mgmt with canTx := dropHeartbeat s.mgmt.canTx } } : State).sendCan f)
  else
    let sendEmcy (e : OutFrame) : State := (({ s with mgmt := { s.mgmt with emcyHold := s.mgmt.emcyHold.drop 1 } } : State).sendCan e).reportLost
    let sendOther (f : OutFrame) : State := ({ s with mgmt := { s.mgmt with canTx := s.mgmt.canTx.drop 1 } } : State).sendCan f
    match s.mgmt.emcyHold.head?, s.mgmt.canTx.head? with
    | none, none => s
    | none, some f => sendOther f
    | some e, none => sendEmcy e
    | some e, some f => if e.busOrder ≤ f.busOrder then sendEmcy e else sendOther f

end Sys2Proof.Machine
end

