-- ==== Sys2Proof/Machine/Intake.lean ====
section
/-! DEFINITION. Delivery of the intake's items to the plates (R13 to R15, R17, R362). -/

namespace Sys2Proof.Machine

/-- What the plates do with an item, by the unit it comes from (Table 1.2). -/
def State.deliver (s : State) (i : Item) : State :=
  match i.body with
  | .frame f => s.classifyFrame i.source f i.base
  | .refEdge cycle stamp => s.deliverEdge (i.source - 24) cycle stamp
  | .event rising time time0 passed => s.deliverEvent (i.source - 40) rising time time0 passed
  | .gnssBlock start samples => s.deliverBlock (i.source - 88) start samples
  | .media cycle stamp bclks slots => s.deliverMedia (i.source - 90) cycle stamp bclks slots

/-- ITEM_DELIVERY (R15): 256 cycles after its tag the oldest item, of the lowest source among those of one tag, reaches both plates,
unless a rail error keeps it from both (R362) or its unit has stopped (R17). None in a registration gate, while the datapath receives no
cycles (R173). -/
def execItemDelivery (railError : Bool) (s : State) : Host.Outcome State Fault Refusal :=
  .next (s.whenServing fun s => match (sortItems s.intake.items).head? with
    | none => s
    | some i =>
      if s.now < i.tag + 256 ∨ s.time.gate = true then s
      else
        let t : State := { s with intake := { s.intake with items := s.intake.items.erase i } }
        if railError then t.railDrop i.source
        else if bit s.intake.faults i.source then t
        else t.deliver i)

end Sys2Proof.Machine
end

