-- ==== Sys2Proof/Machine/Dispatch.lean ====
section
/-! DEFINITION. One arm for each command: a direct call of its meaning, or a refusal by name. -/

namespace Sys2Proof.Machine

def exec (i : Instr) (s : State) : Host.Outcome State Fault Refusal :=
  match i with
  | .engineCycle => Sys2Proof.Machine.execEngineCycle s
  | .exposureBoundary readings => Sys2Proof.Machine.execExposureBoundary readings s
  | .reelBoundary inputs => Sys2Proof.Machine.execReelBoundary inputs s
  | .managementPoint => Sys2Proof.Machine.execManagementPoint s
  | .heartbeat => Sys2Proof.Machine.execHeartbeat s
  | .canFrameReceived frame => Sys2Proof.Machine.execCanFrameReceived frame s
  | .spiNmtCommand x => Sys2Proof.Machine.execSpiNmtCommand x s
  | .spiUsdoRequest x => Sys2Proof.Machine.execSpiUsdoRequest x s
  | .spiReadHeadFrame x => Sys2Proof.Machine.execSpiReadHeadFrame x s
  | .spiRemoveHeadFrame x => Sys2Proof.Machine.execSpiRemoveHeadFrame x s
  | .startRemoteNode node => Sys2Proof.Machine.execStartRemoteNode node s
  | .stopRemoteNode node => Sys2Proof.Machine.execStopRemoteNode node s
  | .enterPreOperational node => Sys2Proof.Machine.execEnterPreOperational node s
  | .resetCommunication node straps => Sys2Proof.Machine.execResetCommunication node straps s
  | .resetNode node straps => Sys2Proof.Machine.execResetNode node straps s
  | .usdoExpeditedDownload t index sub data => Sys2Proof.Machine.execUsdoExpeditedDownload t index sub data s
  | .usdoDownloadInitiate t index sub size => Sys2Proof.Machine.execUsdoDownloadInitiate t index sub size s
  | .usdoDownloadSegment t seq last declared data => Sys2Proof.Machine.execUsdoDownloadSegment t seq last declared data s
  | .usdoUploadInitiate t index sub => Sys2Proof.Machine.execUsdoUploadInitiate t index sub s
  | .usdoUploadSegment t seq => Sys2Proof.Machine.execUsdoUploadSegment t seq s
  | .segmentTimeout => Sys2Proof.Machine.execSegmentTimeout s
  | .transferEndedByEngine => Sys2Proof.Machine.execTransferEndedByEngine s
  | .registerWrite t index sub data => Sys2Proof.Machine.execRegisterWrite t index sub data s
  | .persistenceCopy index sub item ok => Sys2Proof.Machine.execPersistenceCopy index sub item ok s
  | .shadowTimeout group inst => Sys2Proof.Machine.execShadowTimeout group inst s
  | .emcyLostReport => Sys2Proof.Machine.execEmcyLostReport s
  | .commit t group mask => Sys2Proof.Machine.execCommit t group mask s
  | .discard t group mask => Sys2Proof.Machine.execDiscard t group mask s
  | .shadowWrite t index sub data => Sys2Proof.Machine.execShadowWrite t index sub data s
  | .unitEnableWrite t sub data => Sys2Proof.Machine.execUnitEnableWrite t sub data s
  | .planImageDownload t image => Sys2Proof.Machine.execPlanImageDownload t image s
  | .planCheckComplete => Sys2Proof.Machine.execPlanCheckComplete s
  | .swapRequest t second => Sys2Proof.Machine.execSwapRequest t second s
  | .cancelSwap t value => Sys2Proof.Machine.execCancelSwap t value s
  | .swapLatch => Sys2Proof.Machine.execSwapLatch s
  | .swapEntryWake => Sys2Proof.Machine.execSwapEntryWake s
  | .planSwap => Sys2Proof.Machine.execPlanSwap s
  | .swapComplete => Sys2Proof.Machine.execSwapComplete s
  | .ntsReply eng => Sys2Proof.Machine.execNtsReply eng s
  | .ptpEvent eng => Sys2Proof.Machine.execPtpEvent eng s
  | .ptpGeneral eng => Sys2Proof.Machine.execPtpGeneral eng s
  | .beWindow eng => Sys2Proof.Machine.execBeWindow eng s
  | .aesSivPass cluster => Sys2Proof.Machine.execAesSivPass cluster s
  | .hmacPass cluster => Sys2Proof.Machine.execHmacPass cluster s
  | .knownAnswerTest kind cluster passA passB => Sys2Proof.Machine.execKnownAnswerTest kind cluster passA passB s
  | .fixer kind cluster healthA healthB => Sys2Proof.Machine.execFixer kind cluster healthA healthB s
  | .depart pos => Sys2Proof.Machine.execDepart pos s
  | .fastTermUpdate => Sys2Proof.Machine.execFastTermUpdate s
  | .ensemblePart => Sys2Proof.Machine.execEnsemblePart s
  | .wake => Sys2Proof.Machine.execWake s
  | .sleep => Sys2Proof.Machine.execSleep s
  | .handoffDeadline pos digestsEqual => Sys2Proof.Machine.execHandoffDeadline pos digestsEqual s
  | .departureMeasured lane residualFs => Sys2Proof.Machine.execDepartureMeasured lane residualFs s
  | .alignmentLoss lane => Sys2Proof.Machine.execAlignmentLoss lane s
  | .alignerRelock lane => Sys2Proof.Machine.execAlignerRelock lane s
  | .requestExpire => Sys2Proof.Machine.execRequestExpire s
  | .frameReceiveComplete lane f => Sys2Proof.Machine.execFrameReceiveComplete lane f s
  | .entryForget => Sys2Proof.Machine.execEntryForget s
  | .refinEdge r fine => Sys2Proof.Machine.execRefinEdge r fine s
  | .evinEdge input rising fine => Sys2Proof.Machine.execEvinEdge input rising fine s
  | .gnssSampleBlock port framed age fine samples => Sys2Proof.Machine.execGnssSampleBlock port framed age fine samples s
  | .mediaFrameReceive m age fine bclks slots => Sys2Proof.Machine.execMediaFrameReceive m age fine bclks slots s
  | .itemDelivery railError => Sys2Proof.Machine.execItemDelivery railError s
  | .intakeFault source => Sys2Proof.Machine.execIntakeFault source s
  | .commonClockFailure => Sys2Proof.Machine.execCommonClockFailure s
  | .timeBaseSet t n value => Sys2Proof.Machine.execTimeBaseSet t n value s
  | .timeBaseStep t n ps => Sys2Proof.Machine.execTimeBaseStep t n ps s
  | .arm t c => Sys2Proof.Machine.execArm t c s
  | .disarm t c => Sys2Proof.Machine.execDisarm t c s
  | .compareFire c => Sys2Proof.Machine.execCompareFire c s
  | .todMessage p => Sys2Proof.Machine.execTodMessage p s
  | .crossCapture t value => Sys2Proof.Machine.execCrossCapture t value s
  | .leapTableWrite t index sub data => Sys2Proof.Machine.execLeapTableWrite t index sub data s
  | .eventFifoRelease t input seq => Sys2Proof.Machine.execEventFifoRelease t input seq s
  | .clearFlags t index mask => Sys2Proof.Machine.execClearFlags t index mask s
  | .tdcCalibrationComplete input bins skew => Sys2Proof.Machine.execTdcCalibrationComplete input bins skew s
  | .intervalModeWrite t unit mode => Sys2Proof.Machine.execIntervalModeWrite t unit mode s
  | .gateEnd unit => Sys2Proof.Machine.execGateEnd unit s
  | .referenceEnable t r value => Sys2Proof.Machine.execReferenceEnable t r value s
  | .loupeMeasurement r x => Sys2Proof.Machine.execLoupeMeasurement r x s
  | .referenceLoss r => Sys2Proof.Machine.execReferenceLoss r s
  | .frequencyOutOfWindow r y => Sys2Proof.Machine.execFrequencyOutOfWindow r y s
  | .holdOffEnd r => Sys2Proof.Machine.execHoldOffEnd r s
  | .manualSelection t value => Sys2Proof.Machine.execManualSelection t value s
  | .clearChallenge t mask => Sys2Proof.Machine.execClearChallenge t mask s
  | .esmcInformationPdu lane => Sys2Proof.Machine.execEsmcInformationPdu lane s
  | .esmcEventPdu lane => Sys2Proof.Machine.execEsmcEventPdu lane s
  | .upstreamPoll inst => Sys2Proof.Machine.execUpstreamPoll inst s
  | .cookieLoad t inst data => Sys2Proof.Machine.execCookieLoad t inst data s
  | .registrationStep t => Sys2Proof.Machine.execRegistrationStep t s
  | .slowSlew t => Sys2Proof.Machine.execSlowSlew t s
  | .registrationCancel t => Sys2Proof.Machine.execRegistrationCancel t s
  | .registrationLatch => Sys2Proof.Machine.execRegistrationLatch s
  | .gateStart => Sys2Proof.Machine.execGateStart s
  | .gateRelease => Sys2Proof.Machine.execGateRelease s
  | .registrationComplete => Sys2Proof.Machine.execRegistrationComplete s
  | .dpllUpdate d error => Sys2Proof.Machine.execDpllUpdate d error s
  | .dpllStageEnd d => Sys2Proof.Machine.execDpllStageEnd d s
  | .opllSafePoint o inRangeA inRangeB => Sys2Proof.Machine.execOpllSafePoint o inRangeA inRangeB s
  | .rampUpdate => Sys2Proof.Machine.execRampUpdate s
  | .lockDetected o a b => Sys2Proof.Machine.execLockDetected o a b s
  | .recipeLockTimeout o => Sys2Proof.Machine.execRecipeLockTimeout o s
  | .alignmentCorrection c measuredA measuredB => Sys2Proof.Machine.execAlignmentCorrection c measuredA measuredB s
  | .lockQualified o ns => Sys2Proof.Machine.execLockQualified o ns s
  | .searchTimeout o => Sys2Proof.Machine.execSearchTimeout o s
  | .lockLoss o a b => Sys2Proof.Machine.execLockLoss o a b s
  | .lockSenseMismatch o plate => Sys2Proof.Machine.execLockSenseMismatch o plate s
  | .outputRegistration t c value => Sys2Proof.Machine.execOutputRegistration t c value s
  | .channelSafePoint c => Sys2Proof.Machine.execChannelSafePoint c s
  | .recipeInvalidate t mask => Sys2Proof.Machine.execRecipeInvalidate t mask s
  | .samplePortFault p noDclk => Sys2Proof.Machine.execSamplePortFault p noDclk s
  | .acquisitionCaptureEnd => Sys2Proof.Machine.execAcquisitionCaptureEnd s
  | .acquisitionComplete => Sys2Proof.Machine.execAcquisitionComplete s
  | .navigationUpload t data => Sys2Proof.Machine.execNavigationUpload t data s
  | .solutionDelivery p => Sys2Proof.Machine.execSolutionDelivery p s
  | .clearExclusion t mask => Sys2Proof.Machine.execClearExclusion t mask s
  | .surveyComplete p => Sys2Proof.Machine.execSurveyComplete p s
  | .snapshotArm t => Sys2Proof.Machine.execSnapshotArm t s
  | .snapshotCancel t => Sys2Proof.Machine.execSnapshotCancel t s
  | .snapshotProcess t => Sys2Proof.Machine.execSnapshotProcess t s
  | .snapshotRelease t => Sys2Proof.Machine.execSnapshotRelease t s
  | .snapshotCaptured => Sys2Proof.Machine.execSnapshotCaptured s
  | .snapshotProcessed => Sys2Proof.Machine.execSnapshotProcessed s
  | .trackEnd => Sys2Proof.Machine.execTrackEnd s
  | .trackFifoRelease t seq => Sys2Proof.Machine.execTrackFifoRelease t seq s
  | .linkDown lane => Sys2Proof.Machine.execLinkDown lane s
  | .negotiationComplete lane outcome => Sys2Proof.Machine.execNegotiationComplete lane outcome s
  | .linkUp lane => Sys2Proof.Machine.execLinkUp lane s
  | .calibrationComplete lane tx rx pass => Sys2Proof.Machine.execCalibrationComplete lane tx rx pass s
  | .loopback t lane value => Sys2Proof.Machine.execLoopback t lane value s
  | .txTimestampComplete lane status => Sys2Proof.Machine.execTxTimestampComplete lane status s
  | .txTimestampRelease t lane seq => Sys2Proof.Machine.execTxTimestampRelease t lane seq s
  | .pauseExpire lane queue => Sys2Proof.Machine.execPauseExpire lane queue s
  | .lldpTransmit lane => Sys2Proof.Machine.execLldpTransmit lane s
  | .bestEffortStart lane => Sys2Proof.Machine.execBestEffortStart lane s
  | .headAgeDrop plate queue => Sys2Proof.Machine.execHeadAgeDrop plate queue s
  | .stagingWrite => Sys2Proof.Machine.execStagingWrite s
  | .hostTransmit t data => Sys2Proof.Machine.execHostTransmit t data s
  | .hostReceiveRelease t seq => Sys2Proof.Machine.execHostReceiveRelease t seq s
  | .forwardingEntryWrite t data => Sys2Proof.Machine.execForwardingEntryWrite t data s
  | .clearPeak t index => Sys2Proof.Machine.execClearPeak t index s
  | .instanceEnable t index value => Sys2Proof.Machine.execInstanceEnable t index value s
  | .listeningEnd inst pos => Sys2Proof.Machine.execListeningEnd inst pos s
  | .grantExpire record kind => Sys2Proof.Machine.execGrantExpire record kind s
  | .pdelayReqTransmit inst pos => Sys2Proof.Machine.execPdelayReqTransmit inst pos s
  | .recordQuarantine record => Sys2Proof.Machine.execRecordQuarantine record s
  | .cancelGrants t => Sys2Proof.Machine.execCancelGrants t s
  | .clearQuarantine t => Sys2Proof.Machine.execClearQuarantine t s
  | .keyImport t data => Sys2Proof.Machine.execKeyImport t data s
  | .rootLoad t data => Sys2Proof.Machine.execRootLoad t data s
  | .signedPolicyRelease t data => Sys2Proof.Machine.execSignedPolicyRelease t data s
  | .invalidate t value => Sys2Proof.Machine.execInvalidate t value s
  | .orphanErase => Sys2Proof.Machine.execOrphanErase s
  | .cookieGenerationWrite t sub value => Sys2Proof.Machine.execCookieGenerationWrite t sub value s
  | .associationEntryWrite t data => Sys2Proof.Machine.execAssociationEntryWrite t data s
  | .tamperEnableWrite t value => Sys2Proof.Machine.execTamperEnableWrite t value s
  | .zeroisation cause => Sys2Proof.Machine.execZeroisation cause s
  | .rootRemask => Sys2Proof.Machine.execRootRemask s
  | .clockLoss m => Sys2Proof.Machine.execClockLoss m s
  | .clockStable m => Sys2Proof.Machine.execClockStable m s
  | .mediaFrameStart m => Sys2Proof.Machine.execMediaFrameStart m s
  | .mediaSafePoint m => Sys2Proof.Machine.execMediaSafePoint m s
  | .channelEnable t value => Sys2Proof.Machine.execChannelEnable t value s
  | .gateSwitch m c => Sys2Proof.Machine.execGateSwitch m c s
  | .gateTimeout m c => Sys2Proof.Machine.execGateTimeout m c s
  | .gridRestart m => Sys2Proof.Machine.execGridRestart m s
  | .combinerFault m => Sys2Proof.Machine.execCombinerFault m s
  | .mediaLoopback t m value => Sys2Proof.Machine.execMediaLoopback t m value s
  | .roleSwap t => Sys2Proof.Machine.execRoleSwap t s
  | .standbyToProof t => Sys2Proof.Machine.execStandbyToProof t s
  | .divergence point detail => Sys2Proof.Machine.execDivergence point detail s
  | .proofComplete plate pass test ms => Sys2Proof.Machine.execProofComplete plate pass test ms s
  | .resyncStart plate => Sys2Proof.Machine.execResyncStart plate s
  | .resyncSnapshot => Sys2Proof.Machine.execResyncSnapshot s
  | .digestCompare equal => Sys2Proof.Machine.execDigestCompare equal s
  | .join => Sys2Proof.Machine.execJoin s
  | .mirrorStop => Sys2Proof.Machine.execMirrorStop s
  | .plateResetEnd plate => Sys2Proof.Machine.execPlateResetEnd plate s
  | .supervisionTransmit pos => Sys2Proof.Machine.execSupervisionTransmit pos s
  | .errorLineEvent events => Sys2Proof.Machine.execErrorLineEvent events s
  | .contactSheetSave => Sys2Proof.Machine.execContactSheetSave s
  | .statusClear t word mask => Sys2Proof.Machine.execStatusClear t word mask s
  | .severeHoldEnd source => Sys2Proof.Machine.execSevereHoldEnd source s
  | .clearAddress t address => Sys2Proof.Machine.execClearAddress t address s
  | .clearLanes t mask => Sys2Proof.Machine.execClearLanes t mask s
  | .contactSheetClear t value => Sys2Proof.Machine.execContactSheetClear t value s
  | .injectCorrected t => Sys2Proof.Machine.execInjectCorrected t s
  | .injectContained t => Sys2Proof.Machine.execInjectContained t s
  | .injectFatal t => Sys2Proof.Machine.execInjectFatal t s
  | .resetRelease pins => Sys2Proof.Machine.execResetRelease pins s
  | .selfTestComplete result straps => Sys2Proof.Machine.execSelfTestComplete result straps s
  | .firmwareApplied => Sys2Proof.Machine.execFirmwareApplied s
  | .bootPlanChecked => Sys2Proof.Machine.execBootPlanChecked s
  | .timeBaseRestore => Sys2Proof.Machine.execTimeBaseRestore s
  | .serviceStart => Sys2Proof.Machine.execServiceStart s
  | .supplyLoss => Sys2Proof.Machine.execSupplyLoss s
  | .resetAssert => Sys2Proof.Machine.execResetAssert s
  | .deviceReset t => Sys2Proof.Machine.execDeviceReset t s
  | .deviceResetWithDefaults t => Sys2Proof.Machine.execDeviceResetWithDefaults t s
  | .deviceResetApply => Sys2Proof.Machine.execDeviceResetApply s
  | .reinitialisePort t inst => Sys2Proof.Machine.execReinitialisePort t inst s
  | .reinitialiseLoupe t inst => Sys2Proof.Machine.execReinitialiseLoupe t inst s
  | .reinitialiseDpll t inst => Sys2Proof.Machine.execReinitialiseDpll t inst s
  | .reinitialiseOutputPll t inst => Sys2Proof.Machine.execReinitialiseOutputPll t inst s
  | .reinitialiseGnss t => Sys2Proof.Machine.execReinitialiseGnss t s
  | .reinitialiseMediaPort t inst => Sys2Proof.Machine.execReinitialiseMediaPort t inst s
  | .reinitialiseServingGroup t inst => Sys2Proof.Machine.execReinitialiseServingGroup t inst s
  | .reinitialisePlate t inst => Sys2Proof.Machine.execReinitialisePlate t inst s
  | .reinitialiseDeveloper t => Sys2Proof.Machine.execReinitialiseDeveloper t s
  | .reinitialisationEnd fn ok => Sys2Proof.Machine.execReinitialisationEnd fn ok s
  | .flashImageDownload t data => Sys2Proof.Machine.execFlashImageDownload t data s
  | .flashWriteComplete ok => Sys2Proof.Machine.execFlashWriteComplete ok s
  | .revoke t value => Sys2Proof.Machine.execRevoke t value s
  | .raiseFloor t value => Sys2Proof.Machine.execRaiseFloor t value s
  | .linkFault lane => Sys2Proof.Machine.execLinkFault lane s
  | .blockLockReturn lane => Sys2Proof.Machine.execBlockLockReturn lane s
  | .esmcTimeout lane => Sys2Proof.Machine.execEsmcTimeout lane s
  | .canErrorStateChange state => Sys2Proof.Machine.execCanErrorStateChange state s
  | .spiInvalidTransaction x => Sys2Proof.Machine.execSpiInvalidTransaction x s
  | .tapInstruction ir => Sys2Proof.Machine.execTapInstruction ir s
  | .asleepDomainProof cls idx pass => Sys2Proof.Machine.execAsleepDomainProof cls idx pass s

end Sys2Proof.Machine
end

