-- ==== Sys2Proof/Machine/Pins.lean ====
section
/-! DEFINITION. What the clock, PPS, time-of-day, lock, lane and CAN pins carry (R24, R25, R192, R198, R204 to R207, R443). -/

namespace Sys2Proof.Machine

/-- What a clock pin pair carries: static logic 0, or a clock of one plate's channel: its divided VCO, its safelight source, or the REFIN
that it by-passes. -/
inductive ClockPin where
  | idle
  | divided (plate : Nat)
  | safelight (plate : Nat)
  | bypass (plate r : Nat)
deriving DecidableEq, Repr

/-- A plate that drives its pins: one that runs while the block serves (R24, R205). -/
def State.drives (s : State) (p : Nat) : Bool := s.serving && s.running.contains p

/-- What plate `p` gives for clock channel `c` (R192, R202); a channel gated without its safelight source is held low. -/
def State.channelPin (s : State) (c p : Nat) : ClockPin :=
  let x := s.channel c
  let src := s.obj (0x3220 + c) 2
  if !x.enabled || !s.drives p then .idle
  else if x.gated then (if x.safelight then .safelight p else .idle)
  else if 16 ≤ src then .bypass p (src - 16) else .divided p

/-- The clock pin of channel `c` on a side (R204, R205): in A/B mode each plate's own, in the merged modes the combiner's choice on pin A
and plate B's, or idle in mode 2, on pin B. -/
def State.clockPin (s : State) (c side : Nat) : ClockPin :=
  let mode := s.obj (0x3220 + c) 4
  if side = 0 then s.channelPin c (if mode = 0 then 0 else if (s.channel c).onB then 1 else 0)
  else if mode = 2 then .idle else s.channelPin c 1

/-- The on-time pulse of a PPS channel is in progress (R206). -/
def Pps.pulsing (x : Pps) (now : Nat) : Bool :=
  match x.pulseAt with
  | none => false
  | some t => decide (now < t + x.width)

/-- The level of the PPS pin of channel `p` on a plate's side (R205, R206, R443): low before phase 3 of start-up; the inactive level of its
polarity while its plate does not drive it, the channel is off or no pulse is in progress. -/
def State.ppsPin (s : State) (p plate : Nat) : Bool :=
  if !s.serving && (s.boot.inReset || decide (s.boot.phase < 3)) then false
  else
    let inactive := decide (s.obj (0x3230 + p) 3 = 1)
    let pulse := s.drives plate && decide (s.obj (0x3230 + p) 1 = 1) && (s.ppsChannel p).pulsing s.now
    if pulse then !inactive else inactive

/-- The level of bit `k` of a character (R207): start bit, eight data bits from the least significant, parity where there is one, stop bit. -/
def charBit (framing : Nat) (o : BitVec 8) (k : Nat) : Bool :=
  let ones := ((List.range 8).filter fun i => o.getLsbD i).length
  if k = 0 then false
  else if k ≤ 8 then o.getLsbD (k - 1)
  else if k = 9 ∧ framing = 1 then decide (ones % 2 = 1)
  else if k = 9 ∧ framing = 2 then decide (ones % 2 = 0)
  else true

/-- The level of the time-of-day pin of channel `p` on a plate's side (R205, R207): high at idle, else the bit of the message now. -/
def State.todPin (s : State) (p plate : Nat) : Bool :=
  let x := s.ppsChannel p
  match (if s.drives plate && x.busyAt s.now then x.sending else none) with
  | none => true
  | some (t, rate, framing) =>
    let k := (s.now - t) * rate / 1000000000
    charBit framing (x.message.getD (k / charBits framing) 0xFF) (k % charBits framing)

/-- A lane's transmitter is in electrical idle: the lane is off, or phase 5 has not come (R443). -/
def State.laneIdle (s : State) (n : Nat) : Bool := !s.serving || decide (s.obj (0x3400 + n) 1 ≠ 1)

/-- CAN_TXD is held recessive before phase 1 (R443). -/
def State.canHeld (s : State) : Bool := s.boot.inReset || decide (s.boot.phase = 0)

/-- The level of the lock pin of an output PLL on a plate (R198). -/
def State.lockPin (s : State) (o plate : Nat) : Bool := ((s.opll o).pins.look (fun _ => {}) plate).high

end Sys2Proof.Machine
end

