-- ==== Sys2Proof/Safety.lean ====
section
/-! DEFINITION. The terms in which claims are stated: a step that completes, what a command answers, and which parts of the
state it keeps. A safe step answers a next state, no fault and no refusal. -/

namespace Sys2Proof.Machine

/-- The step at `s` answers the next state `t`. -/
def StepsTo (s t : State) : Prop := step s = .next t

/-- The command completes at `s` with a next state of which `P` holds. -/
def CompletesWith (c : Instr) (s : State) (P : State → Prop) : Prop := ∃ t, exec c s = .next t ∧ P t

/-- The parts of the state, one a field. -/
inductive Part where
  | pending | objs | clock | intake | mgmt | groups | darkroom | boot | twin | faults | time | plans | synth | refs | dev | ports | fabric | gnss | serve | keys | media | free
deriving DecidableEq, Repr

/-- The part of two states is the same. -/
def Part.same (s t : State) : Part → Prop
  | .pending => t.pending = s.pending
  | .objs => t.objs = s.objs
  | .clock => t.clock = s.clock
  | .intake => t.intake = s.intake
  | .mgmt => t.mgmt = s.mgmt
  | .groups => t.groups = s.groups
  | .darkroom => t.darkroom = s.darkroom
  | .boot => t.boot = s.boot
  | .twin => t.twin = s.twin
  | .faults => t.faults = s.faults
  | .time => t.time = s.time
  | .plans => t.plans = s.plans
  | .synth => t.synth = s.synth
  | .refs => t.refs = s.refs
  | .dev => t.dev = s.dev
  | .ports => t.ports = s.ports
  | .fabric => t.fabric = s.fabric
  | .gnss => t.gnss = s.gnss
  | .serve => t.serve = s.serve
  | .keys => t.keys = s.keys
  | .media => t.media = s.media
  | .free => t.free = s.free

/-- Every part is the same but those listed: the frame of a command. -/
def KeepsAllBut (l : List Part) (s t : State) : Prop := ∀ p, p ∉ l → p.same s t

/-- Every object value is the same but those of the keys listed. -/
def ObjectsBut (l : List Nat) (s t : State) : Prop := ∀ k, k ∉ l → t.objKey k = s.objKey k

/-- The block is in service and its management unit takes commands (R417, Table 3.3). -/
def InService (s : State) : Prop := s.boot.phase = 5 ∧ s.boot.inReset = false ∧ s.mgmt.nmt ≠ 0 ∧ s.mgmt.nmt ≠ 4

/-- The counters that sending an emergency message and answering a command may change: frames lost and requests served (0x2004). -/
def lostKey : Nat := okey 0 0 0x2004 5
def servedKey : Nat := okey 0 0 0x2004 1

/-- The command completes at `s`: of its next state `P` holds, and every other part and object value than those named is unchanged. -/
def Turns (c : Instr) (s : State) (parts : List Part) (keys : List Nat) (P : State → Prop) : Prop :=
  CompletesWith c s fun t => P t ∧ ObjectsBut keys s t ∧ KeepsAllBut parts s t

/-- The host command is confirmed: it completes, and beside what it changes there are only the queued response, its count, and the
comparison of the plates' responses (R81, R370). -/
def Confirms (c : Instr) (s : State) (parts : List Part) (keys : List Nat) (P : State → Prop) : Prop :=
  Turns c s (.mgmt :: .objs :: .twin :: parts) (servedKey :: lostKey :: keys) P

/-- The host command is refused with an abort code, and changes nothing else (R86). -/
def Refuses (c : Instr) (s : State) (t : Transport) (index sub code : Nat) : Prop := exec c s = .next (s.abort t index sub code)

/-- A serving step of engine `eng` begins now and works: its step `x`, the request `r` bound to it, the state `t` without that request
(R31, R42, R467). -/
def StepWorks (s : State) (eng op : Nat) (x : PlanStep) (r : Option Request) (t : State) : Prop :=
  s.stepNow 1 eng op = some x ∧ s.takeBound eng = (t, r) ∧ ¬(t.faults.shedding = true ∧ 32 ≤ eng) ∧ t.engineReady eng = true ∧ t.obj 0x2900 1 ≠ 0

end Sys2Proof.Machine
end

