-- ==== Sys2Proof/Certificates/Slice0/Obligations.lean ====
section
/-! DEFINITION. The statements for the provers. Each docstring names the rules that its statement rests on. -/

section
open Sys2Proof Sys2Proof.Machine

/-- A step runs the command at the front of the queue with the queue's rest (the queue is the model's: log 1, log 2). -/
def Obligations.AStepRunsTheFrontCommand : Prop := ∀ (c : Instr) (s : State), step { s with pending := c :: s.pending } = exec c s

/-- With nothing commanded the CAN controller sends one frame (the model's choice, log 2): of the EMCY at the head of its hold and its other
frames the one with the lower identifier, in Stopped the first heartbeat alone; nothing in bus-off or before the boot-up message; with nothing
to send the block idles. -/
def Obligations.WithNothingCommandedOneFrameIsSent : Prop := ∀ s : State, s.pending = [] → ∃ t, step s = .next t ∧ t.pending = [] ∧
  ObjectsBut [lostKey] s t ∧ KeepsAllBut [.mgmt, .objs] s t ∧
  (s.mgmt.canState = 2 ∨ s.mgmt.nmt = 0 → t = s) ∧
  (s.mgmt.emcyHold = [] → s.mgmt.canTx = [] → t = s) ∧
  (∀ f m, s.mgmt.canState ≠ 2 → s.mgmt.nmt ≠ 0 → s.mgmt.nmt ≠ 4 → s.mgmt.emcyHold = [] → s.mgmt.canTx = f :: m →
    t.mgmt = { s.mgmt with canTx := m, canSent := some ⟨f.busOrder, true, s.mgmt.bitRate, f.dataField⟩ }) ∧
  (∀ e l f m, s.mgmt.canState ≠ 2 → s.mgmt.nmt ≠ 0 → s.mgmt.nmt ≠ 4 → s.mgmt.emcyHold = e :: l → s.mgmt.canTx = f :: m → f.busOrder < e.busOrder →
    t.mgmt = { s.mgmt with canTx := m, canSent := some ⟨f.busOrder, true, s.mgmt.bitRate, f.dataField⟩ }) ∧
  (∀ e l, s.mgmt.canState ≠ 2 → s.mgmt.nmt ≠ 0 → s.mgmt.nmt ≠ 4 → s.mgmt.emcyHold = e :: l →
    (∀ f m, s.mgmt.canTx = f :: m → e.busOrder ≤ f.busOrder) → s.mgmt.lost = 0 →
    t.mgmt = { s.mgmt with emcyHold := l, canSent := some ⟨e.busOrder, true, s.mgmt.bitRate, e.dataField⟩ } ∧ t.objs = s.objs) ∧
  (s.mgmt.nmt = 4 → (∀ f ∈ s.mgmt.canTx, f.isHeartbeat = false) → t = s) ∧
  (∀ a f m, s.mgmt.canState ≠ 2 → s.mgmt.nmt = 4 → s.mgmt.canTx = a ++ f :: m → (∀ g ∈ a, g.isHeartbeat = false) → f.isHeartbeat = true →
    t.mgmt = { s.mgmt with canTx := a ++ m, canSent := some ⟨f.busOrder, true, s.mgmt.bitRate, f.dataField⟩ })

/-- Every step answers a next state and takes one command off the queue; no command, the resets among them, loses one that waits (the queue is the model's: log 1). -/
def Obligations.AStepTakesOneCommandOffTheQueue : Prop := ∀ (s : State) (c : Instr) (rest : List Instr), s.pending = c :: rest → ∃ t, step s = .next t ∧ t.pending = rest

/-- The count of engine cycles stays below 1,000,000 and the exposure number below 1,000 (R8): every step keeps both. -/
def Obligations.TheClockStaysInItsRanges : Prop := ∀ s t : State, s.clock.cycle < 1000000 ∧ s.clock.exposure < 1000 → step s = .next t →
  t.clock.cycle < 1000000 ∧ t.clock.exposure < 1000

/-- After reset the block is in reset with nothing stored and nothing waiting; the clock is in its ranges. Registers for which the spec gives no reset value are
zero (log 3, the model's choice). -/
def Obligations.ResetHoldsTheClockAtZero : Prop := State.reset.boot.inReset = true ∧ State.reset.boot.phase = 0 ∧ State.reset.boot.cause = 1 ∧ State.reset.clock = {} ∧
  State.reset.objs = [] ∧ State.reset.pending = [] ∧ State.reset.mgmt.nmt = 0 ∧ State.reset.keys.slots = [] ∧ State.reset.boot.revoked = 0 ∧
  State.reset.clock.cycle < 1000000 ∧ State.reset.clock.exposure < 1000

/-- Only the clock's own commands and the resets move the clock (R8): for any other command it stands. -/
def Obligations.OnlyTheClocksCommandsMoveTheClock : Prop := ∀ (c : Instr) (s t : State), exec c s = .next t →
  c ≠ .engineCycle → c ≠ .serviceStart → c ≠ .supplyLoss → c ≠ .resetAssert → c ≠ .deviceResetApply →
  (∀ r, c ≠ .exposureBoundary r) → (∀ i, c ≠ .reelBoundary i) → t.clock = s.clock

/-- What OTP records of the host is never undone (R412, R415): no step clears a revocation bit or lowers the rollback floor. -/
def Obligations.RevocationsAndTheFloorAreNeverUndone : Prop := ∀ s t : State, step s = .next t →
  (∀ k, bit s.boot.revoked k = true → bit t.boot.revoked k = true) ∧ s.boot.floor ≤ t.boot.floor

/-- Loading a plan (R62, R63, R66, R70): a downloaded image waits for its check, a check refuses it with a code or leaves the plan
checked in the other bank, a swap is scheduled for a whole second, and a scheduled swap can be cancelled. -/
def Obligations.PlansAreLoadedCheckedAndScheduled : Prop := ∀ (s : State) (tr : Transport), InService s → s.plans.latched = false →
  (∀ image, image.length ≤ 4194304 → CompletesWith (.planImageDownload tr image) s fun t =>
    t.plans.status = 2 ∧ t.plans.image = image ∧ t.plans.pendingId = 0 ∧ t.plans.swapReel = 0 ∧
    t.bank (1 - s.plans.active) = none ∧ t.plan = s.plan ∧
    ObjectsBut [servedKey, lostKey] s t ∧ KeepsAllBut [.mgmt, .objs, .twin, .plans] s t) ∧
  (∀ c, s.plans.status = 2 →
    ({ s with boot := { s.boot with revoked := s.plans.revokedAtStart } } : State).checkPlan s.plans.image = c →
    CompletesWith .planCheckComplete s fun t => (match c with
      | some (code, row, slot) => t.plans.status = 4 ∧ t.plans.lastCode = code ∧ t.plans.failRow = row ∧ t.plans.failSlot = slot ∧
          t.plans.banks = s.plans.banks
      | none => t.plans.status = 3 ∧ t.plans.pendingId = (parsePlan s.plans.image).identifier ∧
          t.waitingPlan = some { parsePlan s.plans.image with peak := (parsePlan s.plans.image).peakPower }) ∧
      t.plans.active = s.plans.active ∧ ObjectsBut [lostKey] s t ∧ KeepsAllBut [.mgmt, .objs, .plans] s t) ∧
  (∀ p second, s.waitingPlan = some p → s.tooHot p = false → (second = 0 ∨ s.earliestSwap ≤ second) →
    CompletesWith (.swapRequest tr second) s fun t =>
      t.plans.status = 5 ∧ t.plans.swapReel = (if second = 0 then s.earliestSwap else second) ∧ t.plans.banks = s.plans.banks ∧
      ObjectsBut [servedKey, lostKey] s t ∧ KeepsAllBut [.mgmt, .objs, .twin, .plans] s t) ∧
  (s.plans.status = 5 → CompletesWith (.cancelSwap tr 1) s fun t =>
      t.plans.status = 3 ∧ t.plans.swapReel = 0 ∧ t.plans.banks = s.plans.banks ∧
      ObjectsBut [servedKey, lostKey] s t ∧ KeepsAllBut [.mgmt, .objs, .twin, .plans] s t)

/-- The swap (R66, R67, R71): it latches at cycle 0 of exposure 997 of the reel before its target unless the plan has become too hot, wakes
the new plan's entry domains at that of exposure 999, takes the other bank at cycle 0 of the target reel, and is complete an exposure later. -/
def Obligations.TheSwapRunsInItsFourSteps : Prop := ∀ (s : State) (p : Plan), InService s → s.waitingPlan = some p →
  (s.plans.status = 5 → s.plans.latched = false → s.atStartOf 997 = true → s.plans.swapReel = s.nextReelSecond →
    (s.tooHot p = false → exec .swapLatch s = .next { s with plans := { s.plans with latched := true, swapAt := s.clock.reel + 1 } }) ∧
    (s.tooHot p = true → CompletesWith .swapLatch s fun t =>
      t.plans.status = 3 ∧ t.plans.latched = false ∧ t.plans.swapReel = 0 ∧ t.plans.lastCode = 0x0A1E0046 ∧
      t.plans.banks = s.plans.banks ∧ ObjectsBut [lostKey] s t ∧ KeepsAllBut [.mgmt, .objs, .plans] s t)) ∧
  (s.plans.latched = true → s.plans.entryWoken = false → s.atStartOf 999 = true → s.plans.swapAt = s.clock.reel + 1 →
    CompletesWith .swapEntryWake s fun t =>
    t.plans.entryWoken = true ∧ t.plans.active = s.plans.active ∧ t.plans.banks = s.plans.banks ∧
    (∀ d ∈ allDomains, p.entryAwake d.1 d.2 = true → s.mayWake d.1 d.2 = true → (t.domain d.1 d.2).awake = true) ∧
    (∀ cls idx, (s.domain cls idx).awake = true → (t.domain cls idx).awake = true)) ∧
  (s.plans.latched = true → s.plans.entryWoken = true → s.plans.swapped = false → s.atStartOf 0 = true → s.clock.reel = s.plans.swapAt →
    CompletesWith .planSwap s fun t =>
    t.plans.active = 1 - s.plans.active ∧ t.plans.swapped = true ∧ t.plans.banks = s.plans.banks ∧ t.clock = s.clock) ∧
  (s.plans.swapped = true → s.atStartOf 1 = true → CompletesWith .swapComplete s fun t =>
    t.plans.status = 0 ∧ t.plans.latched = false ∧ t.plans.entryWoken = false ∧ t.plans.swapped = false ∧ t.plans.swapReel = 0 ∧
    t.plans.pendingId = 0 ∧ t.plans.activeId = s.plan.identifier ∧ t.plan = s.plan ∧ t.bank (1 - s.plans.active) = none ∧
    ObjectsBut [lostKey] s t ∧ KeepsAllBut [.mgmt, .objs, .plans] s t)

/-- Domains (R30, R48, R49): a wake step makes a sleeping domain awake, ready after its latency; a sleep step ends the waking of a
domain that no latched swap wants awake, its sleep taking its entry time. -/
def Obligations.DomainsWakeAndSleepByStep : Prop := ∀ (s : State) (x : PlanStep) (cls idx : Nat), InService s →
  field x.operand 31 24 = cls → field x.operand 23 16 = idx → cls < 5 →
  (s.stepNow 6 0 0x50 = some x → s.mayWake cls idx = true → (s.domain cls idx).awake = false →
    exec .wake s = .next (s.setDomain cls idx { s.domain cls idx with awake := true, readyAt := s.now + s.wakeCycles cls idx })) ∧
  (s.stepNow 6 0 0x51 = some x → s.plans.entryWoken = false → (s.domain cls idx).awake = true →
    exec .sleep s = .next (s.setDomain cls idx { s.domain cls idx with awake := false, sleptAt := s.now + 64 * sleepSlots cls })) ∧
  (s.stepNow 6 0 0x51 = some x → s.plans.entryWoken = true → s.plans.swapped = false →
    (∀ p, s.waitingPlan = some p → p.entryAwake cls idx = true) → s.waitingPlan.isSome = true → exec .sleep s = .next s)

/-- The transports (R74 to R76, R97, R402, R444): reading and removing the head frame of the SPI output queue, a transaction that is
not valid, in each SPI_MISO at 0x00 while it is received, a heartbeat, the CAN controller's error state, the report of lost frames and a TAP instruction. -/
def Obligations.TransportCommandsComplete : Prop := ∀ (s : State) (x : SpiTransaction) (n : Nat),
  s.boot.inReset = false → s.mgmt.nmt ≠ 0 →
  (x.kind = 3 → spiLengthOk x = true → spiCheckOk x = true → exec (.spiReadHeadFrame x) s = .next { s with mgmt := { s.mgmt with
    miso := List.replicate (4 + x.octets.length) 0 ++ (match s.mgmt.spiQueue with | [] => spiFrame 0x80 [] | f :: _ => spiFrame f.kind f.dataField) } }) ∧
  (x.kind = 4 → spiLengthOk x = true → spiCheckOk x = true →
    exec (.spiRemoveHeadFrame x) s = .next { s with mgmt := { s.mgmt with
      miso := List.replicate (4 + x.octets.length) 0, spiQueue := s.mgmt.spiQueue.tail } }) ∧
  ((spiLengthOk x = false ∨ spiCheckOk x = false) → CompletesWith (.spiInvalidTransaction x) s fun t =>
    t.obj 0x2004 4 = (s.obj 0x2004 4 + 1) % 2 ^ 32 ∧ t.mgmt = { s.mgmt with miso := List.replicate (4 + x.octets.length) 0 } ∧
    ObjectsBut [okey 0 0 0x2004 4] s t ∧ KeepsAllBut [.mgmt, .objs] s t) ∧
  (s.obj 0x1017 0 ≠ 0 → s.mgmt.spiQueue.length < 32 → exec .heartbeat s = .next { s with mgmt := { s.mgmt with
    canTx := s.mgmt.canTx ++ [.heartbeat s.node s.mgmt.nmt], spiQueue := s.mgmt.spiQueue ++ [.heartbeat s.node s.mgmt.nmt] } }) ∧
  (CompletesWith (.canErrorStateChange n) s fun t => t.mgmt.canState = n % 3 ∧ t.mgmt.nmt = s.mgmt.nmt ∧ t.mgmt.canTx = s.mgmt.canTx ∧
    ObjectsBut [okey 0 0 0x2004 5] s t ∧ KeepsAllBut [.mgmt, .objs] s t) ∧
  (0 < s.mgmt.lost → s.mgmt.emcyHold.length < 32 → s.mgmt.nmt ≠ 4 → bit (s.obj 0x1014 0) 31 = false →
    CompletesWith .emcyLostReport s fun t => t.mgmt.lost = 0 ∧
      t.mgmt.emcyHold = s.mgmt.emcyHold ++ [.emcy (s.obj 0x1014 0 % 2048) 0xFF00 s.errorRegister 0xFF (s.mgmt.lost % 2 ^ 32)] ∧
      ObjectsBut [okey 0 0 0x2004 5] s t ∧ KeepsAllBut [.mgmt, .objs] s t) ∧
  (exec (.tapInstruction n) s = .next (if n ≤ 1 then { s with boot := { s.boot with tap := n } } else s))

/-- NMT commands for this node (R79, R80): state octets 0x05, 0x04 and 0x7F; the SPI tunnel carries the same commands (R74). At Reset Communication and Reset
Node the straps and the bit rate are read again, waiting requests, the open transfer and waiting frames are lost, and the node boots up Pre-operational. -/
def Obligations.NmtCommandsSetTheState : Prop := ∀ (s : State) (node : Nat), s.mgmt.nmt ≠ 0 → (node = 0 ∨ node = s.node) →
  (CompletesWith (.startRemoteNode node) s fun t => t.mgmt.nmt = 0x05 ∧ t.mgmt.requests = s.mgmt.requests ∧
    t.mgmt.transfer = s.mgmt.transfer ∧ t.mgmt.canTx = s.mgmt.canTx ∧ ObjectsBut [okey 0 0 0x2004 5] s t ∧ KeepsAllBut [.mgmt, .objs] s t) ∧
  (exec (.stopRemoteNode node) s = .next { s with mgmt := { s.mgmt with nmt := 0x04 } }) ∧
  (CompletesWith (.enterPreOperational node) s fun t => t.mgmt.nmt = 0x7F ∧ t.mgmt.requests = s.mgmt.requests ∧
    t.mgmt.transfer = s.mgmt.transfer ∧ t.mgmt.canTx = s.mgmt.canTx ∧ ObjectsBut [okey 0 0 0x2004 5] s t ∧ KeepsAllBut [.mgmt, .objs] s t) ∧
  (∀ x : SpiTransaction, s.boot.inReset = false → x.kind = 1 → spiLengthOk x = true → spiCheckOk x = true →
    ∀ u : State, u = { s with mgmt := { s.mgmt with miso := List.replicate (4 + x.octets.length) 0 } } →
    (x.octets.map BitVec.toNat = [0x01, node] → exec (.spiNmtCommand x) s = exec (.startRemoteNode node) u) ∧
    (x.octets.map BitVec.toNat = [0x02, node] → exec (.spiNmtCommand x) s = exec (.stopRemoteNode node) u) ∧
    (x.octets.map BitVec.toNat = [0x80, node] → exec (.spiNmtCommand x) s = exec (.enterPreOperational node) u) ∧
    (x.octets.map BitVec.toNat = [0x81, node] → exec (.spiNmtCommand x) s = exec (.resetNode node x.straps) u) ∧
    (x.octets.map BitVec.toNat = [0x82, node] → exec (.spiNmtCommand x) s = exec (.resetCommunication node x.straps) u)) ∧
  (∀ straps : Nat,
    exec (.resetNode node straps) s = exec (.resetCommunication node straps) s ∧
    CompletesWith (.resetCommunication node straps) s fun t =>
      t.mgmt.nmt = 0x7F ∧ t.mgmt.canState = 0 ∧ t.mgmt.transfer = none ∧ t.mgmt.requests = [] ∧ t.mgmt.miso = [] ∧
      t.mgmt.straps = straps % 128 ∧ t.mgmt.bitRate = s.obj 0x2003 1 ∧
      t.mgmt.canTx = [.bootUp (if straps % 128 ≠ 0 then straps % 128 else s.obj 0x2002 1)] ∧
      (t.obj 0x2002 3 = if straps % 128 ≠ 0 then straps % 128 else s.obj 0x2002 1) ∧
      ObjectsBut [okey 0 0 0x2004 5, okey 0 0 0x2002 2, okey 0 0 0x2002 3, okey 0 0 0x1014 0] s t ∧ KeepsAllBut [.mgmt, .objs, .plans] s t)

/-- Requests (R81 to R83): one that completes on CAN or through SPI joins the queue with the exposure of its management point, and
the management point, at cycle 999,936, serves a due upload and leaves one that is not due (where no departure of the engine's own
exchanges waits in a TX-timestamp queue). -/
def Obligations.RequestsWaitForTheManagementPoint : Prop := ∀ s : State,
  (∀ r : UsdoRequest, s.boot.phase = 5 → s.mgmt.nmt ≠ 0 → s.mgmt.nmt ≠ 4 → s.mgmt.requests.length < 64 →
    ((∃ i j d, r = .expedited i j d) ∨ (∃ i j n, r = .initiate i j n) ∨ (∃ i j, r = .uploadInitiate i j)) →
    (∀ length, 8 ≤ length → exec (.canFrameReceived ⟨s.node, length, false, r⟩) s = .next { s with mgmt := { s.mgmt with
      requests := s.mgmt.requests ++ [⟨.can, .request r, if 999872 ≤ s.clock.cycle then s.clock.exposures + 1 else s.clock.exposures⟩] } }) ∧
    (∀ x : SpiTransaction, s.boot.inReset = false → x.kind = 2 → spiLengthOk x = true → spiCheckOk x = true → x.short = false →
      x.request = r → exec (.spiUsdoRequest x) s = .next { s with mgmt := { s.mgmt with
        miso := List.replicate (4 + x.octets.length) 0,
        requests := s.mgmt.requests ++ [⟨.spi, .request r, if 999872 ≤ s.clock.cycle then s.clock.exposures + 1 else s.clock.exposures⟩] } })) ∧
  (∀ i j d due, s.serving = true → s.clock.cycle = 999936 → (∀ n, ∀ e ∈ (s.port n).txQueue, e.seq = none → e.id < 0xF000) → s.mgmt.requests = [⟨.can, .request (.uploadInitiate i j), due⟩] →
    (due ≤ s.clock.exposures → ({ s with mgmt := { s.mgmt with requests := [] } } : State).readObject i j = .ok d → d.length ≤ 56 →
      (∀ e, dictRow i j = some e → e.ty ≠ .domain) → CompletesWith .managementPoint s fun t =>
        t.mgmt.requests = [] ∧ t.mgmt.canTx = s.mgmt.canTx ++ [.usdo s.node (.uploaded i j d)]) ∧
    (s.clock.exposures < due → CompletesWith .managementPoint s fun t =>
      t.mgmt = s.mgmt ∧ ObjectsBut [] s t ∧ KeepsAllBut [.ports] s t))

/-- Segmented transfers (R81, R470, R472): an initiation opens the transfer, a segment in sequence extends it, an upload answers an
object or its next segment, and a time-out 1,000 ms after its last segment or an end by the engine closes it with its abort. -/
def Obligations.SegmentedTransfersAdvance : Prop := ∀ (s : State) (x : Transfer), s.mgmt.nmt ≠ 0 → s.mgmt.nmt ≠ 4 →
  (∀ tr i j size, s.mgmt.transfer = none → s.initiateError i j size = none → i ≠ 0x2100 →
    CompletesWith (.usdoDownloadInitiate tr i j size) s fun t => t.mgmt.transfer = some ⟨tr, true, i, j, size, [], 0, s.now⟩ ∧
      t.mgmt.requests = s.mgmt.requests ∧ ObjectsBut [okey 0 0 0x2004 1, okey 0 0 0x2004 5] s t ∧ KeepsAllBut [.mgmt, .objs, .twin] s t) ∧
  (∀ declared data n, s.mgmt.transfer = some x → x.download = true → x.size = some n → declared ≤ data.length →
    (x.data ++ data.take declared).length ≤ n →
    exec (.usdoDownloadSegment x.transport x.next false declared data) s = .next { s with mgmt := { s.mgmt with
      transfer := some { x with data := x.data ++ data.take declared, next := x.next + 1, since := s.now } } }) ∧
  (∀ i j d, s.readObject i j = .ok d → d.length ≤ 56 → (∀ e, dictRow i j = some e → e.ty ≠ .domain) →
    CompletesWith (.usdoUploadInitiate .can i j) s fun t => t.mgmt.canTx = s.mgmt.canTx ++ [.usdo s.node (.uploaded i j d)] ∧
      t.mgmt.transfer = s.mgmt.transfer ∧ ObjectsBut [okey 0 0 0x2004 1, okey 0 0 0x2004 5] s t ∧ KeepsAllBut [.mgmt, .objs, .twin] s t) ∧
  (s.mgmt.transfer = some x → x.transport = .can → x.download = false → CompletesWith (.usdoUploadSegment .can x.next) s fun t =>
    t.mgmt.transfer = (if x.data.length ≤ 63 then none else some { x with data := x.data.drop 63, next := x.next + 1, since := s.now }) ∧
    t.mgmt.canTx = s.mgmt.canTx ++ [.usdo s.node (.uploadSegment x.next (decide (x.data.length ≤ 63)) (x.data.take 63))] ∧
    ObjectsBut [okey 0 0 0x2004 1, okey 0 0 0x2004 5] s t ∧ KeepsAllBut [.mgmt, .objs, .twin] s t) ∧
  (s.mgmt.transfer = some x → x.transport = .can →
    (s.boot.phase = 5 → x.since + 1000000000 ≤ s.now → CompletesWith .segmentTimeout s fun t => t.mgmt.transfer = none ∧
      t.mgmt.canTx = s.mgmt.canTx ++ [.usdo s.node (.abort x.index x.sub 0x05040000)] ∧ t.obj 0x2004 2 = (s.obj 0x2004 2 + 1) % 2 ^ 32 ∧
      ObjectsBut [okey 0 0 0x2004 2, okey 0 0 0x2004 5] s t ∧ KeepsAllBut [.mgmt, .objs, .plans] s t) ∧
    (CompletesWith .transferEndedByEngine s fun t => t.mgmt.transfer = none ∧
      t.mgmt.canTx = s.mgmt.canTx ++ [.usdo s.node (.abort x.index x.sub 0x08000022)] ∧ t.obj 0x2004 2 = (s.obj 0x2004 2 + 1) % 2 ^ 32 ∧
      ObjectsBut [okey 0 0 0x2004 2, okey 0 0 0x2004 5] s t ∧ KeepsAllBut [.mgmt, .objs, .plans] s t))

/-- Writes (R5, R83, R90, R469, R470): a heartbeat period of 0 or at least 100 ms, written by a register write or an expedited download,
is in force at once and marked for its copy; an expedited download does what the register write does; a unit enable waits for the reel
boundary; a write to a member of an agreement group changes its shadow alone and makes its instance pending. -/
def Obligations.WritesTakeEffectWhereTheirRuleSays : Prop := ∀ (s : State) (tr : Transport), s.mgmt.nmt ≠ 0 → s.mgmt.nmt ≠ 4 →
  (∀ a b : Octet, a.toNat + 256 * b.toNat = 0 ∨ 100 ≤ a.toNat + 256 * b.toNat →
    (CompletesWith (.registerWrite tr 0x1017 0 [a, b]) s fun t => t.obj 0x1017 0 = a.toNat + 256 * b.toNat ∧
      okey 0 0 0x1017 0 ∈ t.mgmt.copies ∧
      ObjectsBut [okey 0 0 0x1017 0, okey 0 0 0x2004 1, okey 0 0 0x2004 5] s t ∧ KeepsAllBut [.mgmt, .objs, .twin] s t) ∧
    (CompletesWith (.usdoExpeditedDownload tr 0x1017 0 [a, b]) s fun t => t.obj 0x1017 0 = a.toNat + 256 * b.toNat ∧
      okey 0 0 0x1017 0 ∈ t.mgmt.copies ∧
      ObjectsBut [okey 0 0 0x1017 0, okey 0 0 0x2004 1, okey 0 0 0x2004 5] s t ∧ KeepsAllBut [.mgmt, .objs, .twin] s t)) ∧
  (∀ i j data, data.length ≤ 56 → (∀ e, s.reach i j true = .ok e → e.ty ≠ .domain) →
    exec (.usdoExpeditedDownload tr i j data) s = exec (.registerWrite tr i j data) s) ∧
  (∀ j data e, s.reach 0x2010 j true = .ok e → e.ty ≠ .domain → e.ty.size = some data.length → e.range.ok (e.ty.decode data) = true →
    s.unitScheduled j (e.ty.decode data).toNat = false →
    CompletesWith (.unitEnableWrite tr j data) s fun t => ⟨okey 0 0 0x2010 j, e.ty.decode data, 2⟩ ∈ t.mgmt.pendWrites ∧
      ObjectsBut [okey 0 0 0x2004 1, okey 0 0 0x2004 5] s t ∧ KeepsAllBut [.mgmt, .objs, .twin] s t) ∧
  (∀ i j data e r m g n, s.reach i j true = .ok e → dictRecord i = some (r, m) → r.index + m = i → e.ty ≠ .domain →
    e.ty.size = some data.length → s.plateRefused i j = false → e.range.ok (e.ty.decode data) = true →
    s.valueError r.index m j (e.ty.decode data) = none → memberOf i j = some (g, n) → (g = 0 → (s.base n).steered = false) →
    s.isWaiting g n = false → CompletesWith (.shadowWrite tr i j data) s fun t => t.isPending g n = true ∧
      t.shadowKey (okey 0 (s.itemOf i j) i j) = e.ty.decode data ∧
      ObjectsBut [okey 0 0 0x2004 1, okey 0 0 0x2004 5] s t ∧ KeepsAllBut [.mgmt, .objs, .twin, .groups] s t)

/-- Agreement groups (R89 to R92, R94): a commit of the one pending instance that its mask names leaves it waiting if the set agrees and
refuses it whole if it does not, a discard drops its shadow, and a shadow that has waited a minute is reported once. -/
def Obligations.AgreementGroupsCommitWhole : Prop := ∀ (s : State) (tr : Transport) (g n mask : Nat),
  s.mgmt.nmt ≠ 0 → s.mgmt.nmt ≠ 4 → s.boot.phase = 5 → g ≤ 10 → mask < 2 ^ groupCount g → mask &&& s.waitingMask g = 0 →
  s.named g mask = [n] →
  ((s.asCommitted g mask).agrees g n = true → (g = 2 → ∀ o < 4, bit mask o = true → s.opllBusy o = false) →
    (g = 5 → s.modeRefused n ((s.asCommitted g mask).laneMode n) = false) →
    CompletesWith (.commit tr g mask) s fun t => t.isWaiting g n = true ∧ t.isPending g n = false ∧
      (∀ k ∈ members g n, t.groups.shadow.look noneOf k = none ∧
        ∀ v, s.groups.shadow.look noneOf k = some v → t.groups.waiting.look noneOf k = some v) ∧
      ObjectsBut [okey 0 0 0x2004 1, okey 0 0 0x2004 5] s t ∧ KeepsAllBut [.mgmt, .objs, .twin, .groups] s t) ∧
  ((s.asCommitted g mask).agrees g n = false → (g = 2 → ∀ o < 4, bit mask o = true → s.opllBusy o = false) →
    CompletesWith (.commit tr g mask) s fun t => t.refusedMask g = maskOf [n] ∧ t.groups.shadow = s.groups.shadow ∧
      t.groups.waiting = s.groups.waiting ∧ t.groups.pending = s.groups.pending ∧ t.groups.committed = s.groups.committed ∧
      ObjectsBut [okey 0 0 0x2004 1, okey 0 0 0x2004 2, okey 0 0 0x2004 5] s t ∧ KeepsAllBut [.mgmt, .objs, .twin, .groups] s t) ∧
  (CompletesWith (.discard tr g mask) s fun t => t.isPending g n = false ∧ (∀ k ∈ members g n, t.groups.shadow.look noneOf k = none) ∧
    t.groups.waiting = s.groups.waiting ∧
    ObjectsBut [okey 0 0 0x2004 1, okey 0 0 0x2004 5] s t ∧ KeepsAllBut [.mgmt, .objs, .twin, .groups] s t) ∧
  (s.boot.inReset = false → s.isPending g n = true → bit (s.groups.reported.look (fun _ => 0) g) n = false →
    s.groups.since.look (fun _ => 0) (32 * g + n) + minute ≤ s.now →
    CompletesWith (.shadowTimeout g n) s fun t => bit (t.groups.reported.look (fun _ => 0) g) n = true ∧
      exec (.shadowTimeout g n) t = .next t ∧ t.groups.shadow = s.groups.shadow ∧
      ObjectsBut [okey 0 0 0x2004 5] s t ∧ KeepsAllBut [.mgmt, .objs, .groups] s t)

/-- The copy of a changed persistent value to section A of the darkroom (R84, R439): a value at its default leaves no record; a copy
that fails or does not fit is counted. The clock: a cycle of the engine adds each time base's increment to it (R99); none follows in a registration gate (R173), nor at a cycle 0
whose boundary work is still to come (log 1, the model's choice). -/
def Obligations.PersistenceCopiesAndEngineCycles : Prop := ∀ s : State, s.boot.inReset = false →
  (∀ index sub item, okey 0 item index sub ∈ s.mgmt.copies → index ≠ 0x2A04 → sectionOf (okey 0 item index sub) = 1 →
    (s.copyFits (okey 0 item index sub) = true → CompletesWith (.persistenceCopy index sub item true) s fun t =>
      t.darkroom.secA.look noneOf (okey 0 item index sub) =
        (if s.objKey (okey 0 item index sub) = s.storeDefault (okey 0 item index sub) then none else some (s.objKey (okey 0 item index sub))) ∧
      okey 0 item index sub ∉ t.mgmt.copies ∧ t.obj 0x2020 5 = (s.obj 0x2020 5 + 1) % 2 ^ 32 ∧
      ObjectsBut [okey 0 0 0x2020 5, okey 0 0 0x2020 6] s t ∧ KeepsAllBut [.mgmt, .objs, .darkroom] s t) ∧
    (CompletesWith (.persistenceCopy index sub item false) s fun t => t.obj 0x2004 6 = (s.obj 0x2004 6 + 1) % 2 ^ 32 ∧
      okey 0 item index sub ∉ t.mgmt.copies ∧
      ObjectsBut [okey 0 0 0x2004 6, okey 0 0 0x2004 5] s t ∧ KeepsAllBut [.mgmt, .objs] s t)) ∧
  (s.boot.phase = 5 → s.clock.cycle < 999999 → s.clock.cycle + 1 ≠ tableSlot →
    (s.time.gate = false → s.clock.exposureDue = false → s.clock.reelDue = false →
      CompletesWith .engineCycle s fun t => t.clock = { s.clock with cycle := s.clock.cycle + 1 } ∧
        (∀ n, (t.base n) = if n < 32 then { s.base n with value := (s.base n).value + s.obj (0x3000 + n) 2, prev := (s.base n).value } else s.base n) ∧
        t.objs = s.objs ∧ KeepsAllBut [.clock, .time, .synth] s t) ∧
    (s.time.gate = true ∨ s.clock.exposureDue = true ∨ s.clock.reelDue = true → exec .engineCycle s = .next s))

/-- Sets and steps of a time base (R102, R103): one waits for the next cycle 0 and leaves the count as it is; base 0 and a steered base
refuse, as do a second adjustment and a step out of range. -/
def Obligations.TimeBasesTakeSetsAndSteps : Prop := ∀ (s : State) (tr : Transport) (n value : Nat) (ps : Int), InService s → n < 32 →
  (n ≠ 0 → (s.base n).steered = false → (s.base n).adjust = none →
    (time112Ns value < 1000000000 → Confirms (.timeBaseSet tr n value) s [.time] [] fun t =>
      t.base n = { s.base n with adjust := some (.set (ofTime112 value)) } ∧ ∀ m, m ≠ n → t.base m = s.base m) ∧
    (stepFits ((s.base n).value + (1000000 - s.clock.cycle) * s.increment n) ps = true → Confirms (.timeBaseStep tr n ps) s [.time] [] fun t =>
      t.base n = { s.base n with adjust := some (.step ps) } ∧ ∀ m, m ≠ n → t.base m = s.base m) ∧
    (stepFits ((s.base n).value + (1000000 - s.clock.cycle) * s.increment n) ps = false →
      Refuses (.timeBaseStep tr n ps) s tr (0x3000 + n) 6 0x0A1E0022)) ∧
  (n = 0 ∨ (s.base n).steered = true → Refuses (.timeBaseStep tr n ps) s tr (0x3000 + n) 6 0x0A1E0020 ∧
    (time112Ns value < 1000000000 → Refuses (.timeBaseSet tr n value) s tr (0x3000 + n) 5 0x0A1E0020)) ∧
  (n ≠ 0 → (s.base n).steered = false → (s.base n).adjust ≠ none → Refuses (.timeBaseStep tr n ps) s tr (0x3000 + n) 6 0x0A1E0021)

/-- Compare units (R109 to R113, R207): an arm waits for the next exposure and is refused 2³¹ s away; a disarm acts at once; a one-shot
unit without an action fires once, late if it had passed its target before the cycle, and records its target; none fires in a registration
gate; a time-of-day message starts at its instant with the next sequence number and the rate and framing in force. -/
def Obligations.ComparesArmFireAndDisarm : Prop := ∀ (s : State) (tr : Transport) (c p : Nat), InService s → c < 32 →
  (s.countsArmed c = true → Confirms (.arm tr c) s [] [] fun t => t.comp c = s.comp c) ∧
  (s.countsArmed c = false → ∀ tg, s.onCounter c (ofTime112 (s.obj (0x2210 + c) 3) / 2 ^ 28 * 1000) = tg →
    (((s.base32 (s.obj (0x2210 + c) 1) - (tg : Int)).natAbs : Int) < 2 ^ 31 * second32 → Confirms (.arm tr c) s [.time] [] fun t =>
      t.comp c = { s.comp c with armPending := true } ∧ ∀ d, d ≠ c → t.comp d = s.comp d) ∧
    (2 ^ 31 * second32 ≤ ((s.base32 (s.obj (0x2210 + c) 1) - (tg : Int)).natAbs : Int) → Refuses (.arm tr c) s tr (0x2210 + c) 6 0x0A1E0022)) ∧
  (Confirms (.disarm tr c) s [.time] [] fun t =>
    t.comp c = { s.comp c with armed := false, armPending := false, overdue := false } ∧ ∀ d, d ≠ c → t.comp d = s.comp d) ∧
  ((s.comp c).armed = true → 0 ≤ s.compDelta c → s.time.gate = false → s.obj (0x2210 + c) 4 = 0 → s.obj (0x2210 + c) 5 < 256 →
    Turns (.compareFire c) s [.time] [] fun t =>
      t.comp c = { s.comp c with
        fired := true, armed := false, overdue := false, lastFire := toTime112 ((s.comp c).counterTarget * 2 ^ 28),
        late := (s.comp c).overdue || decide (0 ≤ deltaOf ((s.base (s.obj (0x2210 + c) 1)).prev / 2 ^ 28) (s.comp c).counterTarget) } ∧
      ∀ d, d ≠ c → t.comp d = s.comp d) ∧
  (s.compDelta c < 0 ∨ s.time.gate = true → exec (.compareFire c) s = .next s) ∧
  (∀ e m, (s.ppsChannel p).due = some (e, m) → e ≤ s.now → s.time.gate = false → Turns (.todMessage p) s [.objs, .synth, .twin] [okey 0 0 (0x3230 + p) 0x0A, okey 0 0 (0x3230 + p) 0x0B] fun t =>
    t.ppsChannel p = { s.ppsChannel p with
      due := none, message := withSequence m (s.obj (0x3230 + p) 0x0B), sending := some (s.now, s.obj (0x3230 + p) 4, s.obj (0x3230 + p) 5) } ∧
    t.obj (0x3230 + p) 0x0B = (s.obj (0x3230 + p) 0x0B + 1) % 65536 ∧ t.obj (0x3230 + p) 0x0A = (s.obj (0x3230 + p) 0x0A + 1) % 2 ^ 32)

/-- Event inputs (R115 to R120): an edge is counted; an input without a calibration, or an edge within 100 ns of the last converted one,
gives no timestamp; another is tagged at the end of its conversion, 8 cycles on, with its timestamps, and in a registration gate it is
dropped and counted (log 82, the model's choice of the counter). Records are removed in order up to one held; flags clear by mask; a passing calibration waits for its swap. -/
def Obligations.EventsAreTimestampedAndReleased : Prop := ∀ (s : State) (tr : Transport) (i q mask : Nat) (rising : Bool) (fine skew : Int)
    (bins : List Nat), InService s → i < 48 →
  (s.obj (0x3020 + i) 1 = 1 → bit s.intake.faults (40 + i) = false → edgeSelected (s.obj (0x3020 + i) 2) rising = true →
    ((s.input i).calibration = 0 → Turns (.evinEdge i rising fine) s [.objs] [okey 0 0 (0x3020 + i) 0x0C, okey 0 0 (0x3020 + i) 0x0B] fun t =>
      t.obj (0x3020 + i) 0x0C = (s.obj (0x3020 + i) 0x0C + 1) % 2 ^ 32 ∧ t.obj (0x3020 + i) 0x0B = (s.obj (0x3020 + i) 0x0B + 1) % 2 ^ 32) ∧
    (∀ c, (s.input i).calibration ≠ 0 → (s.input i).lastEdge = some c → s.now - c < 100 →
      Turns (.evinEdge i rising fine) s [.objs, .time] [okey 0 0 (0x3020 + i) 0x0C, okey 0 0 (0x3020 + i) 0x0B] fun t =>
        t.input i = { s.input i with sticky := putBit (s.input i).sticky 1 true } ∧
        t.obj (0x3020 + i) 0x0C = (s.obj (0x3020 + i) 0x0C + 1) % 2 ^ 32 ∧ t.obj (0x3020 + i) 0x0B = (s.obj (0x3020 + i) 0x0B + 1) % 2 ^ 32) ∧
    ((s.input i).calibration ≠ 0 → (∀ c, (s.input i).lastEdge = some c → 100 ≤ s.now - c) →
      (s.time.gate = false → Turns (.evinEdge i rising fine) s [.objs, .time, .intake] [okey 0 0 (0x3020 + i) 0x0C] fun t =>
        t.input i = { s.input i with lastEdge := some s.now } ∧ t.intake = { s.intake with items := s.intake.items ++
          [⟨40 + i, s.now + 8, s.tai, .event rising (s.eventTime i (s.obj (0x3020 + i) 3) fine) (s.eventTime i 0 fine) false⟩] }) ∧
      (s.time.gate = true → Turns (.evinEdge i rising fine) s [.objs, .time] [okey 0 0 (0x3020 + i) 0x0C, okey 0 0 0x2C20 3] fun t =>
        t.input i = { s.input i with lastEdge := some s.now } ∧ t.obj 0x2C20 3 = (s.obj 0x2C20 3 + 1) % 2 ^ 32))) ∧
  (∀ r, releaseTo EventRecord.seq (q % 8192) (s.input i).fifo = some r →
    Confirms (.eventFifoRelease tr i q) s [.time] [] fun t => t.input i = { s.input i with fifo := r }) ∧
  (releaseTo EventRecord.seq (q % 8192) (s.input i).fifo = none → Refuses (.eventFifoRelease tr i q) s tr (0x3020 + i) 9 0x0A1E0026) ∧
  (Confirms (.clearFlags tr (0x3020 + i) mask) s [.time] [] fun t => t.input i = { s.input i with sticky := clearBits (s.input i).sticky mask }) ∧
  (i < 24 → Confirms (.clearFlags tr (0x3400 + i) mask) s [.ports] [] fun t => t.port i = { s.port i with sticky := clearBits (s.port i).sticky mask }) ∧
  (∀ j, s.tdcOn j = true →
    (tableOk bins = true → exec (.tdcCalibrationComplete j bins skew) s = .next (s.setInput j { s.input j with passed := some skew, failures := 0 })) ∧
    (tableOk bins = false → (s.input j).failures ≠ 9 →
      exec (.tdcCalibrationComplete j bins skew) s = .next (s.setInput j { s.input j with failures := (s.input j).failures + 1 })))

/-- Interval units, captures and the leap table (R107, R114, R121, R122): a mode waits for the next exposure, a start and stop on one input
are refused; a gate that has run its reels leaves the results of all that was converted before its end and starts
empty; a capture waits for its boundary; an entry that keeps the
rules of the table is held. -/
def Obligations.IntervalsCapturesAndLeapsFollowTheirRules : Prop := ∀ (s : State) (tr : Transport) (u m sub w value : Nat), InService s → u < 8 →
  (m ≤ 2 → (m = 1 → s.obj (0x2240 + u) 2 ≠ s.obj (0x2240 + u) 3) → Confirms (.intervalModeWrite tr u m) s [.time] [] fun t =>
    t.interval u = { s.interval u with pendMode := some m }) ∧
  (s.obj (0x2240 + u) 2 = s.obj (0x2240 + u) 3 → Refuses (.intervalModeWrite tr u 1) s tr (0x2240 + u) 1 0x0A1E0025) ∧
  ((s.interval u).gateOpen = true → s.obj (0x2240 + u) 4 ≠ 0 → s.obj (0x2240 + u) 4 ≤ s.clock.reel - (s.interval u).gateReel →
    ∀ y, (s.passEvents.interval u).expire (s.base32 0) (s.obj (0x2240 + u) 5) = y →
    Turns (.gateEnd u) s [.objs, .time, .intake] ([7, 8, 9, 10, 11, 12, 13].map fun k => okey 0 0 (0x2240 + u) k) fun t =>
      t.obj (0x2240 + u) 7 = y.count % 2 ^ 32 ∧
      t.objI (0x2240 + u) 8 = (if y.count = 0 then 0 else roundDivI y.sum (y.count * 2 ^ 32)) ∧
      t.obj (0x2240 + u) 0x0C = y.unpaired % 2 ^ 32 ∧
      (t.interval u).count = 0 ∧ (t.interval u).unpaired = 0 ∧ (t.interval u).gateReel = s.clock.reel) ∧
  (Confirms (.crossCapture tr 1) s [.time] [] fun t => t.time.capturePending = true) ∧
  (value ≠ 1 → Refuses (.crossCapture tr value) s tr 0x2203 1 0x06090030) ∧
  (2 ≤ sub → sub ≤ 4 → w < 2 ^ 64 →
    leapTableOk (s.time.pendOffset.getD s.offset0) (s.obj 0x2201 2) s.nextReelSecond (fun i => decide (i = sub)) 1 none (s.leapWordsWith sub w) = true →
    Confirms (.leapTableWrite tr 0x2202 sub (leOctets 8 w)) s [.time, .objs] [okey 0 0 0x2202 sub] fun t => t.obj 0x2202 sub = w)

/-- Host commands of the references and the selector (R125, R137, R143): an enable that its configuration allows, and a disable, wait for
the next exposure; a manual selection of an enabled reference with a rank arms it; challenges are cleared by mask. -/
def Obligations.ReferencesAreEnabledAndSelectedByTheHost : Prop := ∀ (s : State) (tr : Transport) (r mask : Nat), InService s → r < 32 →
  (s.enableRefused r = false → s.willEnable r = false → Confirms (.referenceEnable tr r 1) s [.refs] [] fun t =>
    t.loupe r = { s.loupe r with pendEnable := some true } ∧ ∀ k, k ≠ r → t.loupe k = s.loupe k) ∧
  (s.enableRefused r = true → Refuses (.referenceEnable tr r 1) s tr (0x3100 + r) 1 0x0A1E0028) ∧
  (Confirms (.referenceEnable tr r 0) s [.refs] [] fun t =>
    t.loupe r = { s.loupe r with pendEnable := some false } ∧ ∀ k, k ≠ r → t.loupe k = s.loupe k) ∧
  (s.obj (0x3100 + r) 1 ≠ 0 → s.rank r ≠ 0 → Confirms (.manualSelection tr r) s [.refs] [okey 0 0 0x2300 1] fun t =>
    t.refs = { s.refs with armed := true } ∧ t.obj 0x2300 1 = r) ∧
  (s.obj (0x3100 + r) 1 = 0 ∨ s.rank r = 0 → Refuses (.manualSelection tr r) s tr 0x2300 1 0x0A1E0029) ∧
  (Confirms (.manualSelection tr 0xFF) s [.refs] [okey 0 0 0x2300 1] fun t =>
    t.refs = { s.refs with armed := false } ∧ t.obj 0x2300 1 = 0xFF) ∧
  (Confirms (.clearChallenge tr mask) s [.refs] [] fun t => ∀ c, c ∈ t.refs.challenges ↔ c ∈ s.refs.challenges ∧ bit mask c.ref = false)

/-- Measurements and reference states (R124, R127, R131, R134). An edge of an enabled reference is counted at its pad; the one in *P* that the
prescaler passes, 100 ns or more after the last converted one, is timestamped and tagged 8 cycles on. A first offset of a kind 3
reference, less .09, and a first edge of a physical kind 1 or kind 2 reference enter the loupe. A loss whose detection condition holds, a frequency out of
the window and the end of a hold-off move the reference to Lost, Disqualified and Qualified, and each does nothing where its condition
does not hold. -/
def Obligations.LoupesMeasureAndReferencesChangeState : Prop := ∀ (s : State) (r : Nat) (x : Int), InService s →
  ((s.loupe r).state ≠ 0 → bit s.intake.faults (24 + r) = false → ∀ l : Loupe, l = { s.loupe r with
      active := true, pads := ((s.loupe r).pads + 1) % 2 ^ 32, lastPad := some s.now, scaled := ((s.loupe r).scaled + 1) % s.prescaler r } →
    ((s.loupe r).scaled = 0 → (∀ c, (s.loupe r).lastEdge = some c → 100 ≤ s.now - c) → s.time.gate = false →
      Turns (.refinEdge r x) s [.intake, .refs] [] fun t => t.loupe r = { l with lastEdge := some s.now } ∧ (∀ k, k ≠ r → t.loupe k = s.loupe k) ∧
        t.intake = { s.intake with items := s.intake.items ++ [⟨24 + r, s.now + 8, s.tai, .refEdge s.now (roundDivI (s.tai * 2000 +
          (x - 2 * s.objI (0x3100 + r) 9 - 2 * (s.input (48 + r)).skew) * s.increment 0) (2000 * 2 ^ 28))⟩] }) ∧
    ((s.loupe r).scaled ≠ 0 ∨ (∃ c, (s.loupe r).lastEdge = some c ∧ s.now - c < 100) →
      Turns (.refinEdge r x) s [.refs] [] fun t => t.loupe r = l ∧ ∀ k, k ≠ r → t.loupe k = s.loupe k)) ∧
  ((s.loupe r).state = 0 → exec (.refinEdge r x) s = .next s) ∧
  ((s.loupe r).state ≠ 0 → (r < 16 → bit s.intake.faults (24 + r) = false) → s.time.gate = false → s.refUnitOn r = true → (s.loupe r).meas = [] →
    (s.refKind r = 3 → ∀ y, y = x - s.objI (0x3100 + r) 9 → Turns (.loupeMeasurement r x) s [.refs] [] fun t =>
      t.loupe r = { s.loupe r with meas := [(s.now, y)], x := y, xAt := s.base32 0, active := true, misses := 0 } ∧ ∀ k, k ≠ r → t.loupe k = s.loupe k) ∧
    (s.refKind r = 1 → 16 ≤ r → Turns (.loupeMeasurement r x) s [.refs] [] fun t =>
      t.loupe r = { s.loupe r with meas := [(s.now, x)], x := x, xAt := s.base32 0, active := true, misses := 0 } ∧ ∀ k, k ≠ r → t.loupe k = s.loupe k) ∧
    (∀ c y st, s.refKind r = 1 → r < 16 → (s.loupe r).waiting = [(c, y)] → (s.loupe r).stamp = some st →
      Turns (.loupeMeasurement r x) s [.refs] [] fun t =>
        t.loupe r = { s.loupe r with waiting := [], meas := [(c, y)], x := y, xAt := st, active := true, misses := 0 } ∧ ∀ k, k ≠ r → t.loupe k = s.loupe k) ∧
    (∀ c st, s.refKind r = 2 → (s.loupe r).waiting = [(c, st)] → (ppsPhase st).natAbs < 400000000000 → (s.steer 0).known = true →
      Turns (.loupeMeasurement r x) s [.refs] [] fun t =>
        t.loupe r = { s.loupe r with waiting := [], meas := [(c, ppsPhase st)], x := ppsPhase st, xAt := st, active := true, misses := 0 } ∧
        ∀ k, k ≠ r → t.loupe k = s.loupe k)) ∧
  (s.time.gate = false → s.lossDetected r = true → s.refUnitOn r = true →
    (s.loupe r).state = 2 ∨ (s.loupe r).state = 3 ∨ (s.loupe r).state = 4 ∨ (s.loupe r).state = 5 →
    CompletesWith (.referenceLoss r) s fun t => (t.loupe r).state = 1 ∧ (t.loupe r).active = false ∧ (t.loupe r).samples = [] ∧
      (t.loupe r).since = s.now ∧ (∀ k, k ≠ r → t.loupe k = s.loupe k) ∧ t.clock = s.clock ∧ t.time.bases = s.time.bases) ∧
  (s.time.gate = true ∨ s.lossDetected r = false → exec (.referenceLoss r) s = .next s) ∧
  (s.refKind r = 1 → s.obj (0x3100 + r) 0x0A < x.natAbs → (s.loupe r).state = 2 ∨ (s.loupe r).state = 3 ∨ (s.loupe r).state = 4 →
    CompletesWith (.frequencyOutOfWindow r x) s fun t => (t.loupe r).state = 5 ∧ (t.loupe r).disq = 2 ∧
      (t.loupe r).meas = (s.loupe r).meas ∧ (∀ k, k ≠ r → t.loupe k = s.loupe k) ∧ t.clock = s.clock ∧ t.time.bases = s.time.bases) ∧
  (x.natAbs ≤ s.obj (0x3100 + r) 0x0A → exec (.frequencyOutOfWindow r x) s = .next s) ∧
  ((s.loupe r).state = 4 → (s.loupe r).holdEnd ≤ s.now → s.refUnitOn r = true → CompletesWith (.holdOffEnd r) s fun t =>
    (t.loupe r).state = 3 ∧ (t.loupe r).meas = (s.loupe r).meas ∧
    (∀ k, k ≠ r → t.loupe k = s.loupe k) ∧ t.clock = s.clock ∧ t.time.bases = s.time.bases) ∧
  ((s.loupe r).state ≠ 4 ∨ s.now < (s.loupe r).holdEnd → exec (.holdOffEnd r) s = .next s)

/-- Registration by the host (R171, R174): a step of time base 0 takes the first reel that it can reach and waits for it, a step of another
base waits for its next cycle 0, a slow slew begins, each only while the base is registrable; a slew, and a step until its latch, can be
cancelled. -/
def Obligations.RegistrationFollowsItsCommands : Prop := ∀ (s : State) (tr : Transport), InService s →
  ((s.steer s.regBase).busy = false → s.registrable s.regBase = true →
    (s.regBase = 0 → s.obj 0x2403 2 = 0 → CompletesWith (.registrationStep tr) s fun t =>
      t.dev.target = some (s.deferStep (s.nextReelSecond + 1)) ∧ t.obj 0x2403 2 = s.deferStep (s.nextReelSecond + 1) ∧ (t.steer 0).reg = 3 ∧
      t.time = s.time) ∧
    (s.regBase ≠ 0 → Confirms (.registrationStep tr) s [.dev] [] fun t =>
      t.steer s.regBase = { s.steer s.regBase with reg := 3, pendStep := true } ∧ ∀ n, n ≠ s.regBase → t.steer n = s.steer n) ∧
    (CompletesWith (.slowSlew tr) s fun t => t.steer s.regBase = { s.steer s.regBase with reg := 2 } ∧
      (∀ n, n ≠ s.regBase → t.steer n = s.steer n) ∧ t.time = s.time)) ∧
  ((s.steer s.regBase).busy = true → Refuses (.registrationStep tr) s tr 0x2403 1 0x0A1E002B ∧ Refuses (.slowSlew tr) s tr 0x2403 1 0x0A1E002B) ∧
  ((s.steer s.regBase).busy = false → s.registrable s.regBase = false →
    Refuses (.registrationStep tr) s tr 0x2403 1 0x0A1E002A ∧ Refuses (.slowSlew tr) s tr 0x2403 1 0x0A1E002A) ∧
  ((s.steer s.regBase).reg = 2 → CompletesWith (.registrationCancel tr) s fun t => (t.steer s.regBase).reg = 1 ∧ t.time = s.time) ∧
  ((s.steer s.regBase).reg = 3 → s.regBase ≠ 0 → Confirms (.registrationCancel tr) s [.dev] [] fun t =>
    t.steer s.regBase = { s.steer s.regBase with reg := 1, pendStep := false } ∧ ∀ n, n ≠ s.regBase → t.steer n = s.steer n) ∧
  ((s.steer s.regBase).reg = 3 → s.regBase = 0 → s.dev.latch = none → s.clock.exposure ≠ 999 ∨ s.dev.target ≠ some s.nextReelSecond →
    CompletesWith (.registrationCancel tr) s fun t => (t.steer 0).reg = 1 ∧ t.dev.target = none ∧ t.time = s.time) ∧
  ((s.steer s.regBase).reg = 3 → s.regBase = 0 → s.dev.latch ≠ none ∨ (s.clock.exposure = 999 ∧ s.dev.target = some s.nextReelSecond) →
    Refuses (.registrationCancel tr) s tr 0x2403 1 0x0A1E002B) ∧
  ((s.steer s.regBase).reg ≠ 2 → (s.steer s.regBase).reg ≠ 3 → Confirms (.registrationCancel tr) s [] [] fun t => t.dev = s.dev)

/-- The step of time base 0 (Table 6.5, R172, R173, R175): at the start of exposure 999 before its reel the offset is latched, or the step is
put off where a plan swaps there; its whole seconds re-label the base as the gate starts, the gate's end registers it with the residual
left to steer, and the figures follow at the start of exposure 1. -/
def Obligations.TheRegistrationStepRunsThroughItsGate : Prop := ∀ (s : State), InService s →
  (∀ g, s.dev.target = some g → s.atStartOf 999 = true → g = s.nextReelSecond → s.dev.latch = none →
    (s.deferStep g = g → Turns .registrationLatch s [.dev] [] fun t => t.dev = { s.dev with latch := some (splitOffset (s.steer 0).xhat) }) ∧
    (s.deferStep g ≠ g → Turns .registrationLatch s [.dev, .objs] [okey 0 0 0x2403 2] fun t =>
      t.dev = { s.dev with target := some (s.deferStep g) } ∧ t.obj 0x2403 2 = s.deferStep g)) ∧
  (s.clock.reelDue = true → s.clock.exposureDue = true → s.dev.latch ≠ none → s.dev.target ≠ none → s.time.gate = false →
    CompletesWith .gateStart s fun t => t.time.gate = true ∧ t.twin.gateGap = true ∧
    t.dev.latch = some (splitOffset (s.steer 0).xhat) ∧
    (t.base 0).value = ((((s.base 0).value : Int) - (splitOffset (s.steer 0).xhat).1 * secondUnit) % (reach : Int)).toNat ∧
    ∀ n, n ≠ 0 → t.base n = s.base n) ∧
  (∀ n q r, s.time.gate = true → s.dev.latch = some (n, q, r) → CompletesWith .gateRelease s fun t => t.time.gate = false ∧
    t.dev.target = none ∧ (t.steer 0).xhat = r ∧ (t.steer 0).reg = 0 ∧ (t.steer 0).freq = (s.steer 0).freq ∧ t.clock = s.clock) ∧
  (∀ n q r, s.dev.latch = some (n, q, r) → s.time.gate = false → s.dev.target = none → s.atStartOf 1 = true →
    CompletesWith .registrationComplete s fun t =>
    t.dev = { s.dev with latch := none } ∧ t.objI 0x2403 4 = satPs (stepPs n q) ∧ t.obj 0x2403 5 = q ∧
    t.obj 0x2403 6 = (s.obj 0x2403 6 + 1) % 2 ^ 32 ∧ t.objI 0x2403 7 = wholeSeconds (stepPs n q) ∧ t.time = s.time)

/-- The Developer's steps (R149, R151, R153, R165, R166): an update of a ready Developer leaves a steering value within ±10 ppm for the
next cycle 0 and a table of bounds for the next exposure's slot 256; an ensemble part counts; an update missed is counted and leaves the
tables as they are. -/
def Obligations.TheDeveloperUpdatesEveryExposure : Prop := ∀ (s : State) (x : PlanStep), InService s →
  (s.stepNow 5 0 0x40 = some x → s.devReady = true → CompletesWith .fastTermUpdate s fun t => t.boot.missedUpdates = 0 ∧ t.dev.ran = true ∧
    (∃ y, t.dev.pendYc = some y ∧ -10000000000000 ≤ y ∧ y ≤ 10000000000000) ∧
    (∃ b, t.dev.tableNext = some b ∧ b.endAt = (s.clock.exposures + 1) * 1000000 + 16384) ∧ t.clock = s.clock) ∧
  (s.stepNow 5 0 0x40 = some x → s.devReady = false → CompletesWith .fastTermUpdate s fun t =>
    t.boot.missedUpdates = s.boot.missedUpdates + 1 ∧ t.dev = s.dev ∧ t.obj 0x2400 9 = ((s.skip 133).obj 0x2400 9 + 1) % 2 ^ 32 ∧ t.clock = s.clock) ∧
  (s.stepNow 5 0 0x41 = some x → s.devReady = true → Turns .ensemblePart s [.dev] [] fun t => t.dev = { s.dev with parts := s.dev.parts + 1 }) ∧
  (s.stepNow 5 0 0x41 = some x → s.devReady = false → CompletesWith .ensemblePart s fun t => t.dev = s.dev ∧ t.clock = s.clock)

/-- DPLLs (R181, R182, R184): one update an exposure from a usable reference moves the integral and the frequency word by the stage's gains,
or absorbs the error as a build-out offset; the first after a start begins the acquisition at its first stage. None while holding over, or
twice. When its dwell is over a stage gives way to a narrower one. -/
def Obligations.DpllsUpdateAndNarrow : Prop := ∀ (s : State) (d r : Nat) (e : Int) (x : Dpll), InService s → s.tracked d = some r →
  x = (if (s.dpll d).lastUpdate = none then
    { s.dpll d with stage := s.firstStage d, last := decide (s.firstStage d = s.obj (0x3200 + d) 5), dwellAt := s.now } else s.dpll d) →
  ((s.dpll d).holdover = false → (s.dpll d).lastUpdate ≠ some s.clock.exposures → s.usable r = true →
    (∀ g, (s.dpll d).rebuild = false → loopGain x.stage (s.obj (0x3200 + d) 6) (s.dpllInterval r) = g → Turns (.dpllUpdate d e) s [.synth] [] fun t =>
      t.dpll d = { x with
        error := e - x.buildOut, integral := x.integral + g.2 * (e - x.buildOut), lastUpdate := some s.clock.exposures,
        ftw := ftwOf (s.obj (0x3200 + d) 4) ((x.integral + g.2 * (e - x.buildOut) + g.1 * (e - x.buildOut)) / 2 ^ 32) } ∧
      ∀ k, k ≠ d → t.dpll k = s.dpll k) ∧
    ((s.dpll d).rebuild = true → Turns (.dpllUpdate d e) s [.synth] [] fun t =>
      t.dpll d = { x with rebuild := false, buildOut := e, error := 0, lastUpdate := some s.clock.exposures } ∧
      ∀ k, k ≠ d → t.dpll k = s.dpll k)) ∧
  ((s.dpll d).holdover = true ∨ (s.dpll d).lastUpdate = some s.clock.exposures ∨ s.usable r = false → exec (.dpllUpdate d e) s = .next s) ∧
  ((s.dpll d).last = false → (s.dpll d).holdover = false → (s.dpll d).lastUpdate ≠ none → (s.dpll d).dwellAt + dwellNs (s.dpll d).stage ≤ s.now →
    Turns (.dpllStageEnd d) s [.synth] [] fun t =>
      t.dpll d = { s.dpll d with
        stage := nextStage (s.dpll d).stage (s.obj (0x3200 + d) 5), dwellAt := s.now,
        last := decide (nextStage (s.dpll d).stage (s.obj (0x3200 + d) 5) = s.obj (0x3200 + d) 5) } ∧
      ∀ k, k ≠ d → t.dpll k = s.dpll k) ∧
  ((s.dpll d).last = true ∨ (s.dpll d).holdover = true ∨ s.now < (s.dpll d).dwellAt + dwellNs (s.dpll d).stage →
    exec (.dpllStageEnd d) s = .next s)

/-- Output PLLs (R187 to R198): a disable at the safe point gates every channel fed; a detected lock is qualified, and its release after
100 µs ungates the channels; a recipe that gives no lock in 18 µs, a search that gives none in 500 µs, and a loss of lock on both plates
lead to another search, and a fourth search's end to state 6; the lock pins follow; a lock-sense mismatch of more than 5 ms is noted and
gates nothing. -/
def Obligations.OutputPllsLockAndRelock : Prop := ∀ (s : State) (o ns p : Nat) (a b : BandResult), InService s →
  (s.safeDue 2 o = false → (s.opll o).pendEnable = none ∨ s.clock.cycle ≠ 0 → ∀ x y, exec (.opllSafePoint o x y) s = .next s) ∧
  (s.safeDue 2 o = false → (s.opll o).pendEnable = some false → (s.opll o).pendIn < s.clock.exposures → s.clock.cycle = 0 → s.clock.exposureDue = false →
    s.obj (0x3210 + o) 1 = 1 → ∀ x y, CompletesWith (.opllSafePoint o x y) s fun t =>
    (t.opll o).state = 0 ∧ (t.opll o).ramp = none ∧ (t.opll o).pendEnable = none ∧ t.obj (0x3210 + o) 1 = 0 ∧
    (∀ c, c < 12 → s.obj (0x3220 + c) 2 = o → (s.channel c).enabled = true → (t.channel c).gated = true) ∧ t.clock = s.clock) ∧
  ((s.opll o).state = 1 ∨ (s.opll o).state = 2 → ∀ of, of = (fun p : Nat => if p = 0 then a else b) → Turns (.lockDetected o a b) s [.synth] [] fun t =>
    t.opll o = s.running.foldl (fun (x : Opll) p => x.setPin p true s.now) { s.opll o with
      state := 3, found := some (a, b), qualAt := s.now,
      band := s.running.foldl (fun t p => t.put (fun _ => 0) p (of p).band) (s.opll o).band,
      tuning := s.running.foldl (fun t p => t.put (fun _ => 0) p (of p).tuningMv) (s.opll o).tuning } ∧ ∀ k, k ≠ o → t.opll k = s.opll k) ∧
  ((s.opll o).state = 2 → (s.opll o).byRecipe = true → (s.opll o).searchAt + 18000 ≤ s.now →
    Turns (.recipeLockTimeout o) s [.synth, .objs] [okey 0 0 (0x3210 + o) 0x0D] fun t =>
    t.opll o = { s.opll o with state := 1, byRecipe := false, searchAt := s.now } ∧
    t.obj (0x3210 + o) 0x0D = (s.obj (0x3210 + o) 0x0D + 1) % 2 ^ 32) ∧
  ((s.opll o).state = 3 → (s.opll o).found = some (a, b) → (s.opll o).qualAt + 100000 ≤ s.now → CompletesWith (.lockQualified o ns) s fun t =>
    (t.opll o).state = 4 ∧ (t.opll o).found = none ∧ t.obj (0x3210 + o) 0x10 = ns % 2 ^ 32 ∧ t.clock = s.clock ∧
    ∀ c, c < 12 → s.obj (0x3220 + c) 2 = o → (t.channel c).gated = false ∧ (t.channel c).safelight = false) ∧
  ((s.opll o).state = 1 ∨ (s.opll o).state = 2 ∨ (s.opll o).state = 3 → (s.opll o).searchAt + 500000 ≤ s.now →
    ((s.opll o).searches < 3 → Turns (.searchTimeout o) s [.synth, .objs] [okey 0 0 (0x3210 + o) 0x0D] fun t =>
      t.opll o = [0, 1].foldl (fun (x : Opll) p => x.setPin p false s.now)
        { s.opll o with state := 1, byRecipe := false, searches := (s.opll o).searches + 1, found := none, searchAt := s.now }) ∧
    (3 ≤ (s.opll o).searches → CompletesWith (.searchTimeout o) s fun t =>
      t.opll o = [0, 1].foldl (fun (x : Opll) p => x.setPin p false s.now) { s.opll o with state := 6, found := none } ∧ t.clock = s.clock)) ∧
  ((s.opll o).state = 4 ∨ (s.opll o).state = 5 →
    (CompletesWith (.lockLoss o true true) s fun t => ((t.opll o).state = 1 ∨ (t.opll o).state = 2) ∧ (t.opll o).searches = 0 ∧
      (t.opll o).found = none ∧ (t.opll o).ramp = none ∧ t.clock = s.clock) ∧ exec (.lockLoss o false false) s = .next s ∧
    (((s.opll o).pins.look (fun _ => {}) (p % 2)).since + 5000000 < s.now → CompletesWith (.lockSenseMismatch o p) s fun t =>
      t.opll o = { s.opll o with pins := (s.opll o).pins.put (fun _ => {}) (p % 2) { (s.opll o).pins.look (fun _ => {}) (p % 2) with broken := true } } ∧
      t.clock = s.clock) ∧
    (s.now ≤ ((s.opll o).pins.look (fun _ => {}) (p % 2)).since + 5000000 → exec (.lockSenseMismatch o p) s = .next s))

/-- Ramps and channels (R189, R194, R199, R201, R203, R205): a ramp advances once a thousand cycles and is held through a registration gate; a
gated channel of a locking PLL is aligned on each running plate by its own delay, which adds to what stands there; output registration
waits for its exposure and needs an alignable channel; a disable at the safe point takes the channel out and leaves its pins idle;
recipes named are invalidated on both plates. -/
def Obligations.RampsAndChannelsFollowTheirRules : Prop := ∀ (s : State) (tr : Transport) (o c mask : Nat) (a b : Int), InService s →
  (s.time.gate = true → exec .rampUpdate s = .next s) ∧
  (∀ r, s.time.gate = false → o < 4 → (∀ k, k < 4 → k ≠ o → (s.opll k).ramp = none) → (s.opll o).ramp = some r →
    (s.now < r.updated + 1000 → exec .rampUpdate s = .next s) ∧
    (r.updated + 1000 ≤ s.now → r.tick.done = false →
      Turns .rampUpdate s [.synth] [] fun t => t.opll o = { s.opll o with ramp := some { r.tick with updated := s.now } } ∧
        ∀ k, k ≠ o → t.opll k = s.opll k)) ∧
  ((s.channel c).gated = true → s.alignable c = true → (s.opll (s.obj (0x3220 + c) 2)).state = 3 →
    Turns (.alignmentCorrection c a b) s [.synth, .objs] [okey 0 0 (0x3220 + c) 0x0E, okey 1 0 (0x3220 + c) 0x0E] fun t =>
      t.channel c = { s.channel c with aligned := true, lost := false } ∧ (∀ k, k ≠ c → t.channel k = s.channel k) ∧
      t.objKey (okey 0 0 (0x3220 + c) 0x0E) = (if 0 ∈ s.running then ((fineDelay (s.vco (s.obj (0x3220 + c) 2))
        ((s.objKey (okey 0 0 (0x3220 + c) 0x0E)).toNat * psUnit + correction (s.channelHz c) (s.edgeError c a)) : Nat) : Int) else s.objKey (okey 0 0 (0x3220 + c) 0x0E)) ∧
      t.objKey (okey 1 0 (0x3220 + c) 0x0E) = (if 1 ∈ s.running then ((fineDelay (s.vco (s.obj (0x3220 + c) 2))
        ((s.objKey (okey 1 0 (0x3220 + c) 0x0E)).toNat * psUnit + correction (s.channelHz c) (s.edgeError c b)) : Nat) : Int) else s.objKey (okey 1 0 (0x3220 + c) 0x0E))) ∧
  (c < 12 → s.alignable c = true → (s.channel c).gated = false → Confirms (.outputRegistration tr c 1) s [.synth] [] fun t =>
    t.channel c = { s.channel c with register := true } ∧ ∀ k, k ≠ c → t.channel k = s.channel k) ∧
  (c < 12 → s.alignable c = false ∨ (s.channel c).gated = true → Refuses (.outputRegistration tr c 1) s tr (0x3220 + c) 8 0x0A1E0053) ∧
  (s.safeDue 3 c = false → (s.channel c).pendEnable = none ∨ s.clock.exposures ≤ (s.channel c).pendIn → exec (.channelSafePoint c) s = .next s) ∧
  (s.safeDue 3 c = false → (s.channel c).pendEnable = some false → (s.channel c).pendIn < s.clock.exposures →
    (s.channel c).aligned = false ∨ s.atAlignBoundary c = true → s.obj (0x3220 + c) 2 < 16 → CompletesWith (.channelSafePoint c) s fun t =>
    (t.channel c).enabled = false ∧ (t.channel c).gated = false ∧ (t.channel c).aligned = false ∧ (t.channel c).pendEnable = none ∧
    t.obj (0x3220 + c) 1 = 0 ∧ (∀ side, t.clockPin c side = .idle) ∧ t.clock = s.clock) ∧
  ((s.plate s.chosenPlate).state ≤ 1 → Confirms (.recipeInvalidate tr mask) s [.synth] [] fun t =>
    ∀ k, k < 32 → bit mask k = true →
      (t.opll (s.obj 0x2502 1)).recipes.look (fun _ => none) k = none ∧ (t.opll (s.obj 0x2502 1)).recipes.look (fun _ => none) (32 + k) = none)

/-- Sample ports and acquisition (R212, R214, R216, R217, R219, R232): a block is tagged with its first sample's timestamp and the port's
clock is present, a block out of step is tagged as zeros and counted; DCLK absent or a rate in error puts the port's channels in Lost;
after 10 ms the film is free of a capture, which a snapshot armed meanwhile takes; when the FFT engine has run its passes a detection
above the limits starts Pull-in on its searching channel or on a free one; an upload is kept record by record or refused whole. -/
def Obligations.GnssPortsAcquireAndTakeUploads : Prop := ∀ (s : State) (tr : Transport) (p c age : Nat) (fine : Int) (samples : List GnssSample)
    (data : Octets), InService s →
  (bit s.intake.faults (88 + p) = false → s.obj 0x2010 1 = 1 → s.obj (0x2601 + p) 1 ≠ 0 → s.time.gate = false →
    ∀ x, x = (fun out => { s.gnssPort p with
      status := putBit (s.gnssPort p).status 0 true, framing := (s.gnssPort p).framing || out,
      first := some ((s.gnssPort p).first.getD (s.blockStart p age fine)), latest := s.blockStart p age fine,
      blocks := if (s.gnssPort p).first.isSome then (s.gnssPort p).blocks + 1 else 0 : GnssPort }) →
    Turns (.gnssSampleBlock p true age fine samples) s [.gnss, .intake] [] (fun t =>
      t.intake = { s.intake with items := s.intake.items ++ [⟨88 + p, s.now, s.tai, .gnssBlock (s.blockStart p age fine) samples⟩] } ∧
      t.gnssPort p = x false ∧ ∀ k, k ≠ p → t.gnssPort k = s.gnssPort k) ∧
    Turns (.gnssSampleBlock p false age fine samples) s [.gnss, .intake, .objs] [okey 0 0 (0x2601 + p) 0x0E] (fun t =>
      t.intake = { s.intake with items := s.intake.items ++ [⟨88 + p, s.now, s.tai,
        .gnssBlock (s.blockStart p age fine) (samples.map fun _ => zeroSample (s.obj (0x2601 + p) 6))⟩] } ∧
      t.gnssPort p = x true ∧ t.obj (0x2601 + p) 0x0E = (s.obj (0x2601 + p) 0x0E + 1) % 2 ^ 32)) ∧
  (s.gnssMode p 0 = false → s.obj 0x2010 1 ≠ 0 →
    (s.gnssUsed = [c] → (s.gnssChannel c).port = p → (s.gnssChannel c).state ≠ 6 →
      ∀ noDclk, noDclk = true ∨ s.rateError p = true → Turns (.samplePortFault p noDclk) s [.gnss, .mgmt, .objs] [lostKey] fun t =>
        (t.gnssPort p).status = putBit (putBit (s.gnssPort p).status 0 (!noDclk)) 1 (s.rateError p) ∧ (t.gnssChannel c).state = 6 ∧
        (t.gnssChannel c).since = s.now ∧ (t.gnssChannel c).signal = (s.gnssChannel c).signal ∧
        (t.gnssChannel c).satellite = (s.gnssChannel c).satellite) ∧
    (s.rateError p = false → exec (.samplePortFault p false) s = .next s)) ∧
  (s.gnss.acq = 1 → ∀ g, g = { s.gnss with
      acq := 2, fftLeft := ((s.searchList s.gnss.acqPort).map fun e => (searchRow e.1).2.2.2 * fftPass).sum, armPend := none } →
    (s.now < s.gnss.acqFrom + 10000000 → exec .acquisitionCaptureEnd s = .next s) ∧
    (s.gnss.acqFrom + 10000000 ≤ s.now → s.gnss.armPend = none → Turns .acquisitionCaptureEnd s [.gnss] [] fun t => t.gnss = g) ∧
    (s.gnss.acqFrom + 10000000 ≤ s.now → ∀ q ms at_, s.gnss.armPend = some (q, ms, at_) → Turns .acquisitionCaptureEnd s [.gnss] [] fun t =>
      t.gnss = { g with film := 1, filmPort := q, filmMs := ms, armAt := some at_ })) ∧
  (s.gnss.acq = 2 → s.gnss.fftLeft ≤ s.clock.cycle → s.bankAwake = true → ∀ sig sat, s.searchList s.gnss.acqPort = [(sig, sat)] →
    Turns .acquisitionComplete s [.gnss] [] fun t => t.gnss.acq = 0 ∧ t.gnss.acqData = [] ∧ t.gnss.fftLeft = 0 ∧
      match Config.acquire s.gnss.acqData sig sat (s.searchWindow sig sat).1 (s.searchWindow sig sat).2
          ((searchRow sig).1, (searchRow sig).2.1 * 1000, (searchRow sig).2.2.1) with
      | none => ∀ k, t.gnssChannel k = s.gnssChannel k
      | some d =>
        (d.ratioTenths < 25 ∨ d.cn0 < 3200 → ∀ k, t.gnssChannel k = s.gnssChannel k) ∧
        (25 ≤ d.ratioTenths → 3200 ≤ d.cn0 →
          (s.channelOf s.gnss.acqPort sig sat = some c ∧ (s.gnssChannel c).state = 1) ∨
            (s.channelOf s.gnss.acqPort sig sat = none ∧ s.freeChannel = some c) →
          t.gnssChannel c = { state := 2, signal := sig, satellite := sat, port := s.gnss.acqPort, cn0 := d.cn0, codePhase := d.codePhase,
                              doppler := d.doppler, since := s.now } ∧ ∀ k, k ≠ c → t.gnssChannel k = s.gnssChannel k)) ∧
  (s.gnss.acq ≠ 2 ∨ s.clock.cycle < s.gnss.fftLeft ∨ s.bankAwake = false → exec .acquisitionComplete s = .next s) ∧
  (65536 < data.length → Refuses (.navigationUpload tr data) s tr 0x2600 9 0x05040005) ∧
  (data.length ≤ 65536 → match Config.navRecords data with
    | none => Refuses (.navigationUpload tr data) s tr 0x2600 9 0x0A1E0064
    | some r => Confirms (.navigationUpload tr data) s [.gnss] [okey 0 0 0x2600 8] fun t =>
        t.gnss.navigation = r.foldl (fun n x => (n.filter fun k => !sameRecord k x) ++ [x]) s.gnss.navigation ∧
        (r ≠ [] → t.obj 0x2600 8 = Nat.min t.gnss.navigation.length 0xFFFF))

/-- Snapshots (R231 to R234): each command is confirmed in its film state alone, and refused with the unit disabled; one armed during an
acquisition waits for it; a capture has its length; a result is reported with state 4 where the film gives satellites enough for a solution. -/
def Obligations.SnapshotsFollowTheFilm : Prop := ∀ (s : State) (tr : Transport), InService s →
  (s.obj 0x2010 1 = 0 → ∀ c, c ∈ [Instr.snapshotArm tr, .snapshotCancel tr, .snapshotProcess tr, .snapshotRelease tr] →
    Refuses c s tr 0x260A 4 0x0A1E0060) ∧
  (s.obj 0x2010 1 = 1 →
    (s.gnss.film = 0 → s.gnss.armPend = none →
      (s.gnss.acq ≠ 1 → Confirms (.snapshotArm tr) s [.gnss] [] fun t =>
        t.gnss = { s.gnss with film := 1, filmPort := s.obj 0x260A 1, filmMs := s.obj 0x260A 2, armAt := some (s.obj 0x260A 3) }) ∧
      (s.gnss.acq = 1 → Confirms (.snapshotArm tr) s [.gnss] [] fun t =>
        t.gnss = { s.gnss with armPend := some (s.obj 0x260A 1, s.obj 0x260A 2, s.obj 0x260A 3) })) ∧
    (s.gnss.film ≠ 0 ∨ s.gnss.armPend ≠ none → Refuses (.snapshotArm tr) s tr 0x260A 4 0x0A1E0062) ∧
    (s.gnss.film = 1 ∨ s.gnss.armPend ≠ none → Confirms (.snapshotCancel tr) s [.gnss] [] fun t =>
      t.gnss = { s.gnss with film := 0, armAt := none, armPend := none }) ∧
    (s.gnss.film ≠ 1 → s.gnss.armPend = none → Refuses (.snapshotCancel tr) s tr 0x260A 4 0x0A1E0062) ∧
    (s.gnss.film = 3 → Confirms (.snapshotProcess tr) s [.gnss] [] fun t => t.gnss = { s.gnss with film := 4 }) ∧
    (s.gnss.film ≠ 3 → Refuses (.snapshotProcess tr) s tr 0x260A 4 0x0A1E0062) ∧
    (s.gnss.film = 3 ∨ s.gnss.film = 5 → Confirms (.snapshotRelease tr) s [.gnss] [] fun t => t.gnss = { s.gnss with film := 0, data := [] }) ∧
    (s.gnss.film ≠ 3 → s.gnss.film ≠ 5 → Refuses (.snapshotRelease tr) s tr 0x260A 4 0x0A1E0062)) ∧
  (s.gnss.film = 2 → s.gnss.filmFrom + s.gnss.filmMs * 1000000 ≤ s.now →
    Turns .snapshotCaptured s [.gnss, .mgmt, .objs] [lostKey] fun t => t.gnss = { s.gnss with film := 3 }) ∧
  (s.gnss.film = 2 → s.now < s.gnss.filmFrom + s.gnss.filmMs * 1000000 → exec .snapshotCaptured s = .next s) ∧
  (s.gnss.film = 4 → ∀ u, u = { s with gnss := { s.gnss with film := 5 } } → ∀ p, p = s.gnss.filmPort → ∀ l, l = u.filmObservations p →
    (l.length < u.unknowns p l + 3 → Turns .snapshotProcessed s [.gnss, .mgmt, .objs] [lostKey] fun t => t.gnss = { s.gnss with film := 5 }) ∧
    CompletesWith .snapshotProcessed s fun t => t.gnss.film = 5 ∧ t.clock = s.clock ∧
      (u.unknowns p l + 3 ≤ l.length → match (State.solveWith (fun s _ => s) p (l.length + 1) u l).2 with
        | none => t.gnss = { s.gnss with film := 5 }
        | some (f, _) => (t.gnssPort p).solution = 4 ∧ t.objKey (okey 0 p 0x2606 0x0D) = wholeSeconds (u.solutionOffset f)))

/-- Solutions, surveys and tracks (R221, R225, R229, R236, R237): at cycle 0 of exposure 100 the latch is solved, tested by the satellite checks
and solved again without what they exclude; a latch without a solution counts against the port's references; a solution is kept, and
one that passes the reference tests is a fix; an exclusion of a port ends at the host's clearing, refused for a port that has none; a
survey ends with its mean position in force; a broken track leaves no record, and a complete one as many as the FIFO has room for, the
others counted; records are removed up to the sequence. -/
def Obligations.SolutionsSurveysAndTracks : Prop := ∀ (s : State) (tr : Transport) (p mask q : Nat), InService s →
  (s.gnssMode p 1 = true → (s.gnssPort p).solveDue = true → s.clock.exposure = 100 → s.clock.cycle = 0 → s.clock.exposureDue = false →
    ∀ u, u = s.setGnssPort p { s.gnssPort p with solveDue := false } →
    ∀ v, v = ((u.solve p).1.satelliteTests p).1 → ∀ w, w = (if ((u.solve p).1.satelliteTests p).2 = 0 then (v, (u.solve p).2) else v.solve p) →
    (CompletesWith (.solutionDelivery p) s fun t => t.clock = s.clock ∧ match w.2 with
      | none => (t.gnssPort p).solution = 0
      | some (f, l) => (t.gnssPort p).last = some (w.1.solutionOffset f) ∧ (t.gnssPort p).lastReel = w.1.clock.reel ∧
          (w.1.referenceTests p (w.1.solutionOffset f) (u.goneSince w.1 p) (u.inView p) = [] → (w.1.gnssPort p).excluded = 0 → w.1.obj (0x2603 + p) 0x0D = 1 →
            (t.gnssPort p).solution = 2)) ∧
    (s.measOf p = [] → (s.gnssPort p).solution = 0 → (∀ r ∈ s.gnssRefs p, (s.loupe r).misses = 0) →
      Turns (.solutionDelivery p) s [.gnss, .refs] [] fun t => t.gnssPort p = { s.gnssPort p with solveDue := false } ∧
        ∀ r, t.loupe r = if r ∈ s.gnssRefs p then { s.loupe r with misses := 1 } else s.loupe r)) ∧
  ((s.gnssPort p).solveDue = false → exec (.solutionDelivery p) s = .next s) ∧
  ((∃ k, k < 8 ∧ bit mask k = true ∧ (1 < k ∨ (s.gnssPort k).excluded = 0)) → Refuses (.clearExclusion tr mask) s tr 0x2605 6 0x0A1E0066) ∧
  ((∀ k, k < 8 → bit mask k = true → k ≤ 1 ∧ (s.gnssPort k).excluded ≠ 0) → CompletesWith (.clearExclusion tr mask) s fun t => t.clock = s.clock ∧
    ∀ k, t.gnssPort k = if k < 2 ∧ bit mask k = true then { s.gnssPort k with excluded := 0, passes := 0 } else s.gnssPort k) ∧
  (s.obj (0x2603 + p) 0x0D = 0 → (s.gnssPort p).surveyN ≠ 0 → s.obj (0x2603 + p) 0x0E ≤ s.obj (0x2603 + p) 0x0F →
    CompletesWith (.surveyComplete p) s fun t =>
    t.gnssPort p = { s.gnssPort p with surveyN := 0, surveySum := (0, 0, 0), surveySq := 0 } ∧ t.obj (0x2603 + p) 0x0D = 1 ∧
    t.objI (0x2603 + p) 9 = roundDivI (s.gnssPort p).surveySum.1 (s.gnssPort p).surveyN ∧
    t.objI (0x2603 + p) 0x0A = roundDivI (s.gnssPort p).surveySum.2.1 (s.gnssPort p).surveyN ∧
    t.objI (0x2603 + p) 0x0B = roundDivI (s.gnssPort p).surveySum.2.2 (s.gnssPort p).surveyN ∧ t.clock = s.clock) ∧
  (∀ t0, s.gnss.track = some t0 →
    (s.gnss.trackBroken = false → s.taiSecond < t0 + 780 → exec .trackEnd s = .next s) ∧
    (s.gnss.trackBroken = true → Turns .trackEnd s [.gnss] [] fun t =>
      t.gnss = { s.gnss with track := none, trackData := [], trackBroken := false, trackRefBad := false }) ∧
    (s.gnss.trackBroken = false → t0 + 780 ≤ s.taiSecond → ∀ kept, kept = (s.trackRecords t0).take (1024 - s.gnss.tracks.length) →
      Turns .trackEnd s [.gnss, .mgmt, .objs] [okey 0 0 0x260B 6, lostKey] fun t =>
        t.gnss = { s.gnss with
          track := none, trackData := [], trackRefBad := false,
          tracks := s.gnss.tracks ++ kept.zipIdx.map fun e =>
            ((s.gnss.trackSeq + e.2) % 65536, e.1.2 ++ beOctets 2 ((s.gnss.trackSeq + e.2) % 65536)),
          trackSeq := if kept = [] then s.gnss.trackSeq else (s.gnss.trackSeq + kept.length) % 65536 } ∧
        (s.obj 0x260B 6 < 2 ^ 32 → t.obj 0x260B 6 = (s.obj 0x260B 6 + ((s.trackRecords t0).length - kept.length)) % 2 ^ 32))) ∧
  (∀ l, releaseTo Prod.fst q s.gnss.tracks = some l → Confirms (.trackFifoRelease tr q) s [.gnss] [] fun t => t.gnss = { s.gnss with tracks := l }) ∧
  (releaseTo Prod.fst q s.gnss.tracks = none → Refuses (.trackFifoRelease tr q) s tr 0x260B 4 0x0A1E0065)

/-- Link states (R242, R247, R262, R263), of every lane of the port at once: a fault starts its persistence and restarts the debounce; with the
port free of faults a return leads to the debounce, to negotiation, or within the persistence to calibration hold; a fault of 2 ms is a
link-down, and ends the debounce; negotiation leads to the debounce or, failing or resolving another technology, keeps the lane down; a
debounce of 50 ms leads to hold. -/
def Obligations.LinksFollowTheirStates : Prop := ∀ (s : State) (n : Nat) (r : NegotiationResult), InService s →
  ∀ lanes, lanes = s.portLanes n →
  ((s.port n).link ≠ 0 → (s.port n).link ≠ 6 → Turns (.linkFault n) s [.ports] [] fun t => ∀ k, t.port k =
    if k = n then { s.port n with cleanSince := none, faultSince := some ((s.port n).faultSince.getD s.now) }
    else if k ∈ lanes then { s.port k with cleanSince := none } else s.port k) ∧
  ((s.port n).link ≠ 0 → (s.port n).link ≠ 6 →
    ((∃ k ∈ lanes, s.laneOn k = false ∨ (k ≠ n ∧ (s.port k).faultSince ≠ none)) → Turns (.blockLockReturn n) s [.ports] [] fun t =>
      ∀ k, t.port k = if k = n then { s.port n with faultSince := none } else s.port k) ∧
    ((∀ k ∈ lanes, s.laneOn k = true ∧ (k ≠ n → (s.port k).faultSince = none)) →
      ((s.port n).link = 1 ∧ s.obj (0x3400 + n) 5 = 0 ∨ (s.port n).link = 3 → Turns (.blockLockReturn n) s [.ports, .mgmt, .objs] [lostKey] fun t =>
        ∀ k, t.port k = if k ∈ lanes then { s.port k with link := 3, faultSince := none, cleanSince := some s.now } else s.port k) ∧
      ((s.port n).link = 1 → s.obj (0x3400 + n) 5 ≠ 0 → s.negWaits n = false → Turns (.blockLockReturn n) s [.ports, .mgmt, .objs] [lostKey] fun t =>
        ∀ k, t.port k = if k = n then { s.port n with link := 2, faultSince := none } else s.port k) ∧
      ((s.port n).link = 4 ∨ (s.port n).link = 5 → (s.port n).faultSince ≠ none →
        Turns (.blockLockReturn n) s [.ports, .mgmt, .objs, .serve] [lostKey] fun t => ∀ k, t.port k =
          if k ∈ lanes then { s.port k with link := 4, faultSince := none, holdSince := some s.now, calSince := s.now, passed := none, calFails := 0 }
          else s.port k))) ∧
  (∀ t0, (s.port n).faultSince = some t0 →
    (t0 + 2000000 ≤ s.now → (s.port n).link = 3 → Turns (.linkDown n) s [.ports, .mgmt, .objs] [lostKey] fun t =>
      ∀ k, t.port k = if k ∈ lanes then { s.port k with link := 1 } else s.port k) ∧
    (t0 + 2000000 ≤ s.now → (s.port n).link = 4 ∨ (s.port n).link = 5 → exec (.linkDown n) s = .next (s.declareDown n 1) ∧
      (s.declareDown n 1).clock = s.clock) ∧
    (s.now < t0 + 2000000 → exec (.linkDown n) s = .next s)) ∧
  (s.obj (0x3400 + n) 5 ≠ 0 → (s.port n).link = 1 ∨ (s.port n).link = 2 → s.negWaits n = false →
    (s.resolvesMode n r = true → (∀ k ∈ lanes, s.laneOn k = true ∧ (k ≠ n → (s.port k).faultSince = none)) →
      Turns (.negotiationComplete n (some r)) s [.ports, .mgmt, .objs] [lostKey] fun t => ∀ k, t.port k =
        if k = n then { s.port n with
          link := 3, faultSince := none, cleanSince := some s.now, negFails := 0, negAt := none, rsFec := r.rsFec, pauseResolved := r.pause,
          eeeResolved := r.eee, wakeNs := r.wakeNs, minWake := r.wakeNs, wakeSent := false }
        else if k ∈ lanes then { s.port k with link := 3, faultSince := none, cleanSince := some s.now } else s.port k) ∧
    (∀ o, o = none ∨ (o = some r ∧ s.resolvesMode n r = false) → Turns (.negotiationComplete n o) s [.ports, .mgmt, .objs] [lostKey] fun t =>
      ∀ k, t.port k = if k = n then { s.port n with
        link := 1, negFails := (s.port n).negFails + 1, negAt := some s.now,
        sticky := if (s.port n).negFails + 1 = 10 then putBit (s.port n).sticky 2 true else (s.port n).sticky } else s.port k)) ∧
  (∀ t0, (s.port n).cleanSince = some t0 → (s.port n).link = 3 →
    (t0 + 50000000 ≤ s.now → Turns (.linkUp n) s [.ports, .mgmt, .objs, .serve] [lostKey] fun t => ∀ k, t.port k =
      if k ∈ lanes then { s.port k with link := 4, cleanSince := none, holdSince := some s.now, calSince := s.now, passed := none, calFails := 0 }
      else s.port k) ∧
    (s.now < t0 + 50000000 → exec (.linkUp n) s = .next s))

/-- Calibration and departures (R246 to R249): a calibration of 100 ms that passes waits for the end of the hold, one that fails is repeated, and
the third failure in a row is a contained fault; a departure within 0.2 ns is confirmed, one outside leads the port to hold; loss of
alignment and the re-lock after it lead to hold. -/
def Obligations.CalibrationsAndDeparturesAreChecked : Prop := ∀ (s : State) (n m : Nat) (a b x : Int), InService s → m = s.portNumber n →
  ((s.port n).holdSince ≠ none → (s.port n).passed = none →
    ((s.port n).calSince + 100000000 ≤ s.now →
      (Turns (.calibrationComplete n a b true) s [.ports] [] fun t => t.port n = { s.port n with passed := some (a.toNat, b.toNat), calFails := 0 } ∧
        ∀ k, k ≠ n → t.port k = s.port k) ∧
      ((s.port n).calFails ≠ 2 → Turns (.calibrationComplete n a b false) s [.ports] [] fun t =>
        t.port n = { s.port n with calFails := (s.port n).calFails + 1, calSince := s.now } ∧ ∀ k, k ≠ n → t.port k = s.port k) ∧
      ((s.port n).calFails = 2 → CompletesWith (.calibrationComplete n a b false) s fun t => t.clock = s.clock ∧ t =
        ((s.setPort n { s.port n with calFails := 3, calSince := s.now, sticky := putBit (s.port n).sticky 1 true }).containedOn (n / 12)
          (144 + n % 12) 0).emcy 0xFF61 (n / 12) (n * 2 ^ 24))) ∧
    (s.now < (s.port n).calSince + 100000000 → ∀ ok, exec (.calibrationComplete n a b ok) s = .next s)) ∧
  ((s.port m).confirm = [] → x.natAbs ≤ 200000 → Turns (.departureMeasured n x) s [.ports] [] fun t =>
    t.port m = { s.port m with residual := Nat.max (s.port m).residual x.natAbs } ∧ ∀ k, k ≠ m → t.port k = s.port k) ∧
  (∀ id time l, (s.port m).confirm = (id, time) :: l → x.natAbs ≤ 200000 → (s.port m).txQueue.length < 64 → id < 0xF000 →
    Turns (.departureMeasured n x) s [.ports] [] fun t => t.port m = { s.port m with
      residual := Nat.max (s.port m).residual x.natAbs, confirm := l, gap := false, txSeq := ((s.port m).txSeq + 1) % 65536,
      txQueue := (s.port m).txQueue ++ [⟨id, 1, 128 * bitNat (s.port m).gap + n % 64, time, some (s.port m).txSeq⟩] } ∧
      ∀ k, k ≠ m → t.port k = s.port k) ∧
  ((s.port m).confirm = [] → 200000 < x.natAbs → CompletesWith (.departureMeasured n x) s fun t => t.clock = s.clock ∧
    (t.port m).link = 4 ∧ (t.port m).holdSince = some s.now) ∧
  (Turns (.alignmentLoss n) s [.ports] [] fun t => t.port m = { s.port m with unaligned := true } ∧ ∀ k, k ≠ m → t.port k = s.port k) ∧
  ((s.port m).unaligned = true → (s.port m).link = 4 ∨ (s.port m).link = 5 → Turns (.alignerRelock n) s [.ports, .mgmt, .objs, .serve] [lostKey] fun t =>
    ∀ k, k ∈ s.portLanes m → t.port k =
      { s.port k with link := 4, unaligned := if k = m then false else (s.port k).unaligned, holdSince := some s.now, calSince := s.now, passed := none,
                      calFails := 0 }) ∧
  ((s.port m).unaligned = false → exec (.alignerRelock n) s = .next s)

/-- Loopbacks, TX timestamps and pauses (R249 to R251, R258, R265): a loopback is taken for the next exposure; the oldest frame sent completes its entry
in the queue of 64 with the instant measured, or without one where it was not sent, and with 64 held is lost and counted; entries are removed up to
the sequence; a pause that has run out ends for its queue. -/
def Obligations.LoopbacksTimestampsAndPauses : Prop := ∀ (s : State) (tr : Transport) (n m v q : Nat) (f : QFrame) (rest : List QFrame), InService s →
  (n < 24 → s.laneOn n = true → v ≤ 3 → Confirms (.loopback tr n v) s [.ports] [] fun t =>
    t.port n = { s.port n with pendLoop := some v } ∧ ∀ k, k ≠ n → t.port k = s.port k) ∧
  (n < 24 → s.laneOn n = false → v ≤ 3 → Refuses (.loopback tr n v) s tr (0x3400 + n) 0x0D 0x0A1E0074) ∧
  (m = s.portNumber n → (s.port m).started = f :: rest →
    (f.request = none → Turns (.txTimestampComplete n v) s [.ports] [] fun t =>
      t.port m = { s.port m with started := rest } ∧ ∀ k, k ≠ m → t.port k = s.port k) ∧
    (∀ id, f.request = some id → 2 < v → v ≤ 5 → (s.port m).txQueue.length < 64 → id < 0xF000 → Turns (.txTimestampComplete n v) s [.ports] [] fun t =>
      t.port m = { s.port m with
        started := rest, gap := false, txSeq := ((s.port m).txSeq + 1) % 65536,
        txQueue := (s.port m).txQueue ++ [⟨id, v, 128 * bitNat (s.port m).gap + 64 * bitNat f.copy + n % 64, 0, some (s.port m).txSeq⟩] }) ∧
    (∀ id, f.request = some id → v ≤ 2 → (s.port m).txQueue.length < 64 → id < 0xF000 → Turns (.txTimestampComplete n v) s [.ports, .free] [] fun t =>
      t.port m = { s.port m with
        started := rest, gap := false, txSeq := ((s.port m).txSeq + 1) % 65536,
        txQueue := (s.port m).txQueue ++ [⟨id, if (s.port m).holdSince.isSome then 2 else 1, 128 * bitNat (s.port m).gap + 64 * bitNat f.copy + n % 64,
          (s.departStamp m (s.port m).holdSince.isSome).1, some (s.port m).txSeq⟩] }) ∧
    (∀ id, f.request = some id → 2 < v → 64 ≤ (s.port m).txQueue.length →
      Turns (.txTimestampComplete n v) s [.ports, .mgmt, .objs] [lostKey, okey 0 0 (0x3400 + m) 0x12] fun t =>
        t.port m = { s.port m with started := rest, gap := true, sticky := putBit (s.port m).sticky 0 true } ∧
        t.obj (0x3400 + m) 0x12 = (s.obj (0x3400 + m) 0x12 + 1) % 2 ^ 32)) ∧
  (n < 24 → (∃ e ∈ (s.port n).txQueue, e.seq = some q) → Confirms (.txTimestampRelease tr n q) s [.ports] [] fun t =>
    t.port n = { s.port n with txQueue := releaseTx q (s.port n).txQueue } ∧ ∀ k, k ≠ n → t.port k = s.port k) ∧
  (n < 24 → (∀ e ∈ (s.port n).txQueue, e.seq ≠ some q) → Refuses (.txTimestampRelease tr n q) s tr (0x3400 + n) 0x10 0x0A1E0072) ∧
  (Turns (.pauseExpire n q) s [.ports] [] fun t =>
    t.port n = { s.port n with paused := (s.port n).paused.filter fun e => decide (e.1 ≠ q ∨ s.now < e.2) } ∧ ∀ k, k ≠ n → t.port k = s.port k)

/-- Intake (R14 to R17, R173, R253 to R255, R258, R272, R362, R366): a frame that fails a check is counted by it, one that passes is counted and tagged, or
in a registration gate discarded with a count; a faulted unit delivers nothing; the oldest item is delivered 256 cycles after its tag,
not in a gate: a PAUSE frame is counted, an event enters its FIFO; a rail error drops it with a count; entries past the forget time leave. -/
def Obligations.ReceivedFramesAreCheckedAndDelivered : Prop := ∀ (s : State) (n src : Nat) (f : RxFrame) (i : Item), InService s →
  (bit s.intake.faults n = false → s.laneReceives n = true →
    (∀ sub, s.rxCheck n f = some sub → Turns (.frameReceiveComplete n f) s [.objs] [okey 0 0 (0x3400 + n) sub] fun t =>
      t.obj (0x3400 + n) sub = (s.obj (0x3400 + n) sub + 1) % 2 ^ 32) ∧
    (s.rxCheck n f = none → s.isPrp (n % 12) = false → s.obj (0x3400 + n) 0x24 = 0 → udpFails f = false →
      (s.time.gate = false → Turns (.frameReceiveComplete n f) s [.objs, .intake] [okey 0 0 (0x3400 + n) 0x15] fun t =>
        t.obj (0x3400 + n) 0x15 = (s.obj (0x3400 + n) 0x15 + 1) % 2 ^ 32 ∧
        t.intake = { s.intake with items := s.intake.items ++ [⟨n, s.now, s.tai, .frame f⟩] }) ∧
      (s.time.gate = true → Turns (.frameReceiveComplete n f) s [.objs] [okey 0 0 (0x3400 + n) 0x15, okey 0 0 0x2C20 3] fun t =>
        t.obj (0x3400 + n) 0x15 = (s.obj (0x3400 + n) 0x15 + 1) % 2 ^ 32 ∧ t.obj 0x2C20 3 = (s.obj 0x2C20 3 + 1) % 2 ^ 32))) ∧
  (bit s.intake.faults n = true → exec (.frameReceiveComplete n f) s = .next s) ∧
  (Turns .entryForget s [.intake] [] fun t => t.intake =
    { s.intake with discard := s.intake.discard.filter fun e => s.now - e.arrival ≤ s.obj 0x2C30 1 * 1000000 }) ∧
  (s.intake.items = [] → ∀ b, exec (.itemDelivery b) s = .next s) ∧
  ((sortItems s.intake.items).head? = some i → ∀ left, left = s.intake.items.erase i →
    (s.now < i.tag + 256 ∨ s.time.gate = true → ∀ b, exec (.itemDelivery b) s = .next s) ∧
    (i.tag + 256 ≤ s.now → s.time.gate = false →
      (bit s.intake.faults i.source = true → Turns (.itemDelivery false) s [.intake] [] fun t => t.intake = { s.intake with items := left }) ∧
      (bit s.intake.faults i.source = false →
        (∀ u, u = { s with intake := { s.intake with items := left } } → exec (.itemDelivery false) s = .next (u.deliver i) ∧ (u.deliver i).clock = s.clock) ∧
        (∀ q, i.body = .frame f → f.payload = .pause q → s.obj (0x3400 + s.portNumber i.source) 0x0C ≠ 1 →
          Turns (.itemDelivery false) s [.intake, .objs] [okey 0 0 (0x3400 + i.source) 0x1E] fun t =>
            t.intake = { s.intake with items := left } ∧
            t.obj (0x3400 + i.source) 0x1E = (s.obj (0x3400 + i.source) 0x1E + 1) % 2 ^ 32) ∧
        (∀ rising time time0 e, i.body = .event rising time time0 true → e = i.source - 40 → s.obj (0x3020 + e) 0x0F ≤ (s.input e).phase + 1 →
          (s.input e).fifo.length < 256 → Turns (.itemDelivery false) s [.intake, .time] [] fun t => t.intake = { s.intake with items := left } ∧
            (t.input e).seq = ((s.input e).seq + 1) % 8192 ∧ ∃ r, (t.input e).fifo = (s.input e).fifo ++ [r] ∧ r.seq = (s.input e).seq)) ∧
      (s.intake.railErrors.look (fun _ => []) i.source = [] → Turns (.itemDelivery true) s [.intake, .objs] [okey 0 0 0x2C20 3] fun t =>
        t.obj 0x2C20 3 = (s.obj 0x2C20 3 + 1) % 2 ^ 32 ∧ t.intake.items = left ∧ t.intake.railErrors.look (fun _ => []) i.source = [s.now]))) ∧
  (bit s.intake.faults src = false → CompletesWith (.intakeFault src) s fun t => t.clock = s.clock ∧
    t.intake = { s.intake with faults := putBit s.intake.faults src true, items := s.intake.items.filter fun j => j.source ≠ src }) ∧
  (bit s.intake.faults src = true → (∀ r, r < 32 → (s.loupe r).state = 0) → exec (.intakeFault src) s = .next s)

/-- The switch (R52, R173, R256, R278, R280, R283 to R286): the head of the highest queue that fits starts, but not in a registration gate nor before the
last frame has ended; a head of 100 ms is dropped and counted; waiting cells are written with what the slot's allowance still has; a host frame
is checked and counted; received frames leave up to the sequence; an entry is checked and waits for its exposure; a peak is cleared on both plates. -/
def Obligations.QueuesDrainAndTheHostPathIsChecked : Prop := ∀ (s : State) (tr : Transport) (n p q : Nat) (f : QFrame) (r : List QFrame) (d : Octets), InService s →
  (s.time.gate = false → s.laneUp n = true → s.portNumber n = n → (s.port n).busyUntil ≤ s.now → (s.port n).lpi = false →
    s.isPaused n 255 = false → s.isPaused n 7 = false → n / 12 ∈ s.running → s.crossed (n % 12) = false ∨ n / 12 ≠ s.twin.active →
    s.queue (n / 12) (8 * (n % 12) + 7) = f :: r → f.length ≤ s.obj (0x3400 + n) 4 → s.fitsGap n f = true →
    Turns (.bestEffortStart n) s [.ports, .fabric] [] fun t =>
      t.port n = { s.port n with
        started := if f.request.isSome then (s.port n).started ++ [f] else (s.port n).started, sending := some f, lastSent := f.wire n,
        busyUntil := s.now + (f.octets + 20) * 8 * bitTime (s.laneMode n) / 100 } ∧
      t.queue (n / 12) (8 * (n % 12) + 7) = r.modifyHead fun g => { g with headAt := some s.now }) ∧
  (s.now < (s.port n).busyUntil ∨ s.time.gate = true → exec (.bestEffortStart n) s = .next s) ∧
  (q < 96 → s.queue p q = f :: r → f.request = none → ∀ t0, f.headAt = some t0 →
    (t0 + 100000000 ≤ s.now → Turns (.headAgeDrop p q) s [.fabric, .objs] [queueKey p q 0x11] fun t =>
      t.objKey (queueKey p q 0x11) = (((s.objKey (queueKey p q 0x11)).toNat + 1) % 2 ^ 32 : Nat) ∧
      t.queue p q = r.modifyHead fun g => { g with headAt := some s.now }) ∧
    (s.now < t0 + 100000000 → exec (.headAgeDrop p q) s = .next s)) ∧
  (s.time.gate = false → ∀ k, k = Nat.min s.fabric.staging s.slotAllowance → Turns .stagingWrite s [.fabric] [] fun t =>
    t.fabric = { s.fabric with
      staging := s.fabric.staging - k, written := (s.absSlot, (if s.fabric.written.1 = s.absSlot then s.fabric.written.2 else 0) + k) }) ∧
  (s.time.gate = true → exec .stagingWrite s = .next s) ∧
  (d.length < 8 → Refuses (.hostTransmit tr d) s tr 0x2810 1 0x0A1E0078) ∧
  (d.length = 8 + 14 → beNat (slice d 0 2) = 1 → beNat (slice d 2 1) < 8 → beNat (slice d 3 1) = 0 → beNat (slice d 4 2) < 0xF000 →
    beNat (slice d 6 2) = 14 → s.laneOn 0 = true → s.hostLength 0 (d.drop 8) ≤ s.positionMtu 0 →
    CompletesWith (.hostTransmit tr d) s fun t => t.obj 0x2810 2 = (s.obj 0x2810 2 + 1) % 2 ^ 32 ∧ t.clock = s.clock) ∧
  (∀ l, releaseTo HostFrame.seq q s.fabric.hostRx = some l → Confirms (.hostReceiveRelease tr q) s [.fabric] [] fun t => t.fabric = { s.fabric with hostRx := l }) ∧
  (releaseTo HostFrame.seq q s.fabric.hostRx = none → Refuses (.hostReceiveRelease tr q) s tr 0x2811 2 0x0A1E0079) ∧
  (d.length ≠ 12 → Refuses (.forwardingEntryWrite tr d) s tr 0x2802 2 0x06070010) ∧
  (d.length = 12 → entryOk (beNat d) = false → Refuses (.forwardingEntryWrite tr d) s tr 0x2802 2 0x0A1E007A) ∧
  (d.length = 12 → entryOk (beNat d) = true → Confirms (.forwardingEntryWrite tr d) s [] [] fun t =>
    t.willKey (okey 0 (s.obj 0x2802 1) 0x2802 2) = beNat d) ∧
  ((s.plate s.chosenPlate).state ≤ 1 → Confirms (.clearPeak tr 0x2801) s [] [queueKey 0 (s.obj 0x2801 1) 0x0A, queueKey 1 (s.obj 0x2801 1) 0x0A] fun t =>
    t.objKey (queueKey 0 (s.obj 0x2801 1) 0x0A) = 0 ∧ t.objKey (queueKey 1 (s.obj 0x2801 1) 0x0A) = 0) ∧
  (Confirms (.clearPeak tr 0x2E01) s [.faults] [] fun t => t.faults.peaks.look noneOf (s.obj 0x2E01 1) = none)

/-- Frames of the engine's own (R131, R146 to R148, R260, R365, R367): an enabled lane's LLDPDU enters its queue once an interval while its reservation and
the staging area hold it; an ESMC PDU once a second, and after a change of the QL, records the QL it sends; 5 s without a PDU is a bad
quality; a poll when its period has passed counts a request that stands and uses a cookie; cookies are taken whole; a supervision frame,
once an interval, advances its pair's sequence. -/
def Obligations.TheEnginesOwnFramesAreOffered : Prop := ∀ (s : State) (tr : Transport) (n i : Nat) (d : Octets), InService s →
  (n < 24 → s.laneOn n = true → s.laneUp n = true → s.isPrp (n % 12) = false → s.obj 0x2800 7 < 8 →
    (∀ t0, (s.port n).lldpAt = some t0 → t0 + s.obj 0x2700 5 * 1000000000 ≤ s.now) →
    ∀ pl q g, pl = n / 12 → q = 8 * (n % 12) + s.obj 0x2800 7 →
    g = engineFrame (.lldp (s.lldpNow n)) ((s.lldpNow n).length + 4) none → s.objW q 0x2801 4 = 0 →
    s.cellsIn pl q false + g.cells ≤ s.reservation q → CompletesWith (.lldpTransmit n) s fun t => t.clock = s.clock ∧
      t.queue pl q = s.queue pl q ++
        (if s.fabric.staging + (g.cells - if s.fabric.staging = 0 then Nat.min g.cells s.slotAllowance else 0) ≤ 1024 then
          [{ g with headAt := if (s.queue pl q).isEmpty then some s.now else none }] else [])) ∧
  (s.laneOn n = false → exec (.lldpTransmit n) s = .next s ∧ exec (.esmcInformationPdu n) s = .next s ∧ exec (.esmcEventPdu n) s = .next s) ∧
  (s.laneOn n = true → passed 1000000000 (s.refs.esmcSent.look noneOf n) s.now = true → CompletesWith (.esmcInformationPdu n) s fun t =>
    t.clock = s.clock ∧ t.refs = { s.refs with
      esmcSent := s.refs.esmcSent.put noneOf n (some s.now), qlSent := s.refs.qlSent.put (fun _ => 0) n (s.qlOf n),
      qlChanged := putBit s.refs.qlChanged n false }) ∧
  (passed 1000000000 (s.refs.esmcSent.look noneOf n) s.now = false → exec (.esmcInformationPdu n) s = .next s) ∧
  (s.laneOn n = true → s.qlOf n ≠ s.refs.qlSent.look (fun _ => 0) n → CompletesWith (.esmcEventPdu n) s fun t =>
    t.clock = s.clock ∧ t.refs = { s.refs with
      qlSent := s.refs.qlSent.put (fun _ => 0) n (s.qlOf n), qlChanged := putBit s.refs.qlChanged n false }) ∧
  (s.qlOf n = s.refs.qlSent.look (fun _ => 0) n → exec (.esmcEventPdu n) s = .next s) ∧
  (s.refs.esmcAt.look (fun _ => 0) n + 5000000000 ≤ s.now → ∀ r, 16 ≤ r → r < 32 → s.refSource r = 4 → s.refInstance r = n →
    (∀ k, 16 ≤ k → k < r → s.refSource k = 4 → s.refInstance k = n → ¬((s.loupe k).state = 2 ∨ (s.loupe k).state = 3 ∨ (s.loupe k).state = 4)) →
    CompletesWith (.esmcTimeout n) s fun t => t.clock = s.clock ∧ (t.loupe r).badQuality = true ∧
      ((s.loupe r).state = 2 ∨ (s.loupe r).state = 3 ∨ (s.loupe r).state = 4 → (t.loupe r).state = 5 ∧ (t.loupe r).disq = 5)) ∧
  (s.now < s.refs.esmcAt.look (fun _ => 0) n + 5000000000 → exec (.esmcTimeout n) s = .next s) ∧
  (s.upstreamRefs i ≠ [] →
    (s.obj (0x2320 + i) 1 = 1 → passed 0 (s.upstreamInst i).polledAt s.now = true → CompletesWith (.upstreamPoll i) s fun t => t.clock = s.clock ∧
      t.upstreamInst i = { s.upstreamInst i with
        polledAt := some s.now, missed := (s.upstreamInst i).missed + bitNat (s.upstreamInst i).outstanding, outstanding := true,
        sequence := (s.upstreamInst i).sequence + 1, sent := none, reply := none }) ∧
    (s.obj (0x2320 + i) 1 = 2 →
      (passed (1000000000 * 2 ^ (s.objI (0x2320 + i) 5).toNat) (s.upstreamInst i).polledAt s.now = true → (s.upstreamInst i).cookies ≠ [] →
        CompletesWith (.upstreamPoll i) s fun t => t.clock = s.clock ∧
          (t.upstreamInst i).cookies = (s.upstreamInst i).cookies.drop 1 ∧ (t.upstreamInst i).outstanding = true ∧
          (t.upstreamInst i).sequence = (s.upstreamInst i).sequence + 1 ∧ (t.upstreamInst i).polledAt = some s.now) ∧
      (passed (1000000000 * 2 ^ (s.objI (0x2320 + i) 5).toNat) (s.upstreamInst i).polledAt s.now = false → exec (.upstreamPoll i) s = .next s))) ∧
  (i < 16 → s.obj (0x2320 + i) 1 ≠ 2 → Refuses (.cookieLoad tr i d) s tr (0x2320 + i) 7 0x06090030) ∧
  (i < 16 → s.obj (0x2320 + i) 1 = 2 → ∀ l, parseCookies 8 d = some l → l ≠ [] → Confirms (.cookieLoad tr i d) s [.refs] [] fun t =>
    t.upstreamInst i = { s.upstreamInst i with cookies := l }) ∧
  (n < 12 → s.isPrp n = true → s.obj (0x2C40 + n) 2 ≠ 0 →
    passed (s.obj (0x2C40 + n) 2 * 1000000000) (s.fabric.supervised.look noneOf n) s.now = true → CompletesWith (.supervisionTransmit n) s fun t =>
      t.clock = s.clock ∧ t.obj (0x2C40 + n) 8 = (s.obj (0x2C40 + n) 8 + 1) % 65536) ∧
  (s.isPrp n = false → exec (.supervisionTransmit n) s = .next s)

/-- NTS_REPLY, PTP_EVENT and PTP_GENERAL (R43, R308, R314): a well-formed request whose cookie no generation issued is answered with a
NAK for each plate's lane, a due stream of the position sends its Sync or its Announce and takes its next due time and sequence,
a follow-up owed is sent, and a step with nothing to do leaves the state as it is without its request. -/
def Obligations.ServingStepsBuildTheirFrames : Prop := ∀ (s t : State) (eng : Nat) (x : PlanStep) (d : Departure), InService s →
  d = t.departureOf eng x →
  (∀ (r : Request) (m : NtpMessage) (j ph : Nat) (uid cookie : Octets), StepWorks s eng 0x10 x (some r) t → r.frame.payload = .ntp none m →
    t.ntpInstance x.pos r.frame = some j → 48 ≤ m.payload → m.payload ≤ 1280 → m.payload % 4 = 0 → m.version = 4 → m.mode = 3 →
    ntsFields m.fields = some (uid, cookie, ph) → t.checkCurrent.cookieEntry (beNat (cookie.take 4)) = none →
    CompletesWith (.ntsReply eng) s fun u => ∃ f, u.plans.live = t.plans.live ++ [f] ∧ f.eng = eng ∧ f.pos = x.pos ∧ f.due = t.dueCycle d ∧
      f.whole = true ∧ f.frames.map (fun g => (g.message, g.inst, g.client, g.udpPorts, g.echo, g.quality, g.uniqueId)) =
        List.replicate 2 (7, j, r.frame.address, r.ntpPorts, m.transmit, [0, 0, 0, m.poll, 0, 0x4E54534E], uid)) ∧
  (StepWorks s eng 0x10 x none t → exec (.ntsReply eng) s = .next t) ∧
  (∀ i, StepWorks s eng 0x11 x none t → t.earliestDue x.pos 0 = some (.stream i) → t.authOn i = false →
    (t.afterBinding (t.stream i x.pos).sync).2 = 0 →
    CompletesWith (.ptpEvent eng) s fun u => ∃ f, u.plans.live = t.plans.live ++ [f] ∧ f.eng = eng ∧ f.pos = x.pos ∧ f.due = t.dueCycle d ∧
      f.frames.map (fun g => (g.message, g.inst, g.sequence)) = List.replicate 2 (0, i, (t.stream i x.pos).sync.sequence) ∧
      u.stream i x.pos = { t.stream i x.pos with sync := (t.afterBinding (t.stream i x.pos).sync).1 } ∧
      ObjectsBut [] t u ∧ KeepsAllBut [.serve, .plans] t u) ∧
  (StepWorks s eng 0x11 x none t → t.earliestDue x.pos 0 = none → exec (.ptpEvent eng) s = .next t) ∧
  (∀ i, StepWorks s eng 0x12 x none t → t.serve.owed.look (fun _ => []) x.pos = [] → t.earliestDue x.pos 1 = some (.stream i) → t.authOn i = false →
    (t.afterBinding (t.stream i x.pos).announce).2 = 0 →
    CompletesWith (.ptpGeneral eng) s fun u => ∃ f, u.plans.live = t.plans.live ++ [f] ∧ f.eng = eng ∧ f.pos = x.pos ∧ f.due = t.dueCycle d ∧
      f.frames.map (fun g => (g.message, g.inst, g.sequence)) = List.replicate 2 (1, i, (t.stream i x.pos).announce.sequence) ∧
      u.stream i x.pos = { t.stream i x.pos with announce := (t.afterBinding (t.stream i x.pos).announce).1 } ∧
      u.serve.owed.look (fun _ => []) x.pos = (if t.l1Runs i x.pos = true then [.l1sync i 0] else []) ∧
      ObjectsBut [] t u ∧ KeepsAllBut [.serve, .plans] t u) ∧
  (∀ i echo seq tx rest, StepWorks s eng 0x12 x none t → t.serve.owed.look (fun _ => []) x.pos = .followUp i echo seq tx :: rest →
    t.authOn i = false →
    CompletesWith (.ptpGeneral eng) s fun u => ∃ f, u.plans.live = t.plans.live ++ [f] ∧ f.eng = eng ∧ f.pos = x.pos ∧
      f.frames.map (fun g => (g.message, g.inst, g.sequence, g.echo)) = List.replicate 2 (4, i, seq, echo) ∧
      u.serve.owed.look (fun _ => []) x.pos = rest ∧ ObjectsBut [] t u ∧ KeepsAllBut [.serve, .plans] t u)

/-- Best-effort windows and crypto passes (R31, R43, R44, R47, R467): in a group or cluster that is ready they leave the state as it is,
since their results are part of the frames; a window shed is counted; the pass of an idle step is not run; a pass that its cluster cannot
do leaves the frames of its serving step not whole, and every other frame as it is. -/
def Obligations.WindowsAndPassesFillTheirSlots : Prop := ∀ (s : State) (n : Nat) (x : PlanStep), InService s →
  (s.stepNow 1 n 0x13 = some x → s.faults.shedding = false → s.engineReady n = true → exec (.beWindow n) s = .next s) ∧
  (s.stepNow 1 n 0x13 = some x → s.faults.shedding = true → 32 ≤ n → exec (.beWindow n) s = .next (s.bump 0x2E02 6)) ∧
  (s.stepNow 2 n 0x20 = some x → s.domainReady 2 n = true → bit s.keys.heldClusters n = false → exec (.aesSivPass n) s = .next s) ∧
  (s.stepNow 3 n 0x21 = some x → s.domainReady 3 n = true → bit s.keys.heldClusters (8 + n) = false → exec (.hmacPass n) s = .next s) ∧
  (s.stepNow 2 n 0x20 = some x → (∀ f ∈ s.plans.live, f.fromStep (field x.operand 31 24) (passDelay x) s.now = false) →
    exec (.aesSivPass n) s = .next s) ∧
  (s.stepNow 3 n 0x21 = some x → (∀ f ∈ s.plans.live, f.fromStep (field x.operand 31 24) (passDelay x) s.now = false) →
    exec (.hmacPass n) s = .next s) ∧
  (s.stepNow 2 n 0x20 = some x → s.domainReady 2 n = false →
    (∃ f ∈ s.plans.live, f.fromStep (field x.operand 31 24) (passDelay x) s.now = true) → CompletesWith (.aesSivPass n) s fun t =>
    t.plans.live = s.plans.live.map fun f => if f.fromStep (field x.operand 31 24) (passDelay x) s.now then { f with whole := false } else f) ∧
  (s.stepNow 3 n 0x21 = some x → s.domainReady 3 n = false →
    (∃ f ∈ s.plans.live, f.fromStep (field x.operand 31 24) (passDelay x) s.now = true) → CompletesWith (.hmacPass n) s fun t =>
    t.plans.live = s.plans.live.map fun f => if f.fromStep (field x.operand 31 24) (passDelay x) s.now then { f with whole := false } else f)

/-- Known-answer tests and the fixer (R328, R337): a test that both running plates pass is counted on each; a visit re-masks a live slot
whose interval would end before its next one, on each plate whose noise source is healthy, and leaves one whose interval would not. -/
def Obligations.ClustersAreTestedAndKeysRemasked : Prop := ∀ (s : State) (kind cluster : Nat) (x : PlanStep), InService s →
  s.domainReady (clusterRow kind) cluster = true → bit s.keys.heldClusters (8 * kind + cluster) = false →
  (s.stepNow (clusterRow kind) cluster 0x22 = some x → s.running = [0, 1] →
    CompletesWith (.knownAnswerTest kind cluster true true) s fun t =>
      (∀ p, p < 2 → t.plate p = { s.plate p with katPassReel := (s.plate p).katPassReel + 1 }) ∧
      ObjectsBut [] s t ∧ KeepsAllBut [.twin] s t) ∧
  (s.stepNow (clusterRow kind) cluster 0x23 = some x → s.running = [0] → field x.operand 15 0 = 1 →
    (s.slot (field x.operand 31 16)).state = 1 →
    (s.obj 0x2A00 2 * 1000000 < s.now - (s.slot (field x.operand 31 16)).maskedA + s.plan.cover * 1000000 →
      s.now - (s.slot (field x.operand 31 16)).maskedA ≤ s.obj 0x2A00 2 * 1000000 →
      CompletesWith (.fixer kind cluster true true) s fun t =>
        t.slot (field x.operand 31 16) = { s.slot (field x.operand 31 16) with
          maskA := xorOctets (s.slot (field x.operand 31 16)).maskA s.drawMask.1, maskedA := s.now } ∧
        t.keys.drawn = s.keys.drawn + 1 ∧ ObjectsBut [] s t ∧ KeepsAllBut [.keys] s t) ∧
    (s.now - (s.slot (field x.operand 31 16)).maskedA + s.plan.cover * 1000000 ≤ s.obj 0x2A00 2 * 1000000 →
      exec (.fixer kind cluster true true) s = .next s))

/-- Hand-off, departure and expiry (R42, R51, R53, R252, R371): a whole frame on which the plates agree is handed to every lane that can
carry it, one on which they differ is withheld; a handed frame departs with its UDP checksum and stays as the last one sent on its lanes; a
request unbound 50,000,000 cycles after its delivery is discarded and counted (the model's reading of 50 exposures, log 72). -/
def Obligations.FramesAreHandedOffAndDepart : Prop := ∀ (s : State) (pos : Nat) (f : Scheduled), InService s →
  (s.plans.live.find? (fun f => decide (f.pos = pos ∧ f.handed = false ∧ f.due ≤ s.now + 96)) = some f → f.whole = true →
    s.intake.eventFramesStopped = false → s.time.gate = false → s.beforeJoin f = false →
    (s.copyLanes f.pos ≠ [] → (∀ e ∈ s.copyLanes f.pos, s.withheldFor f e.1 = none) →
      CompletesWith (.handoffDeadline pos true) s fun t =>
        t.plans.live = s.plans.live.map (fun g => if g = f then { f with handed := true, lanes := (s.copyLanes f.pos).map Prod.fst } else g) ∧
        ObjectsBut [] s t ∧ KeepsAllBut [.plans, .twin] s t) ∧
    (s.paired = true → f.request = none → CompletesWith (.handoffDeadline pos false) s fun t =>
        t.plans.live = s.plans.live.filter (fun g => decide (g ≠ f)) ∧ t.twin.diverged = true ∧
        t.obj 0x2C00 6 = (s.obj 0x2C00 6 + 1) % 2 ^ 32)) ∧
  (s.time.gate = true → exec (.handoffDeadline pos true) s = .next s) ∧
  (∀ x, s.stepNow 4 pos 0x30 = some x → s.domainReady 5 pos = true → s.twin.resetGap = false → s.isPrp pos = false → f.request = none →
    f.regrants = [] → s.plans.live.find? (fun f => decide (f.pos = pos ∧ f.handed = true ∧ f.due < s.now + 64)) = some f →
    CompletesWith (.depart pos) s fun t => t.plans.live = s.plans.live.filter (fun g => decide (g ≠ f)) ∧
      (∀ n ∈ f.lanes, t.plans.sent.look noneOf n = some (f.due, none,
        (f.frames.getD (if s.crossed f.pos = true then s.twin.active else n / 12) { message := 0, inst := 0 }).checked)) ∧
      ObjectsBut [] s t ∧ KeepsAllBut [.plans, .ports] s t) ∧
  (CompletesWith .requestExpire s fun t =>
    t.fabric.nts = s.fabric.nts.filter (fun r => !decide (r.bound = none ∧ r.delivered + requestLife ≤ s.now)) ∧
    t.fabric.ptp = s.fabric.ptp.filter (fun r => !decide (r.bound = none ∧ r.delivered + requestLife ≤ s.now)) ∧
    t.obj 0x2900 8 = (s.obj 0x2900 8 + (s.fabric.nts.filter fun r => decide (r.bound = none ∧ r.delivered + requestLife ≤ s.now)).length) % 2 ^ 32 ∧
    t.obj 0x2900 9 = (s.obj 0x2900 9 + (s.fabric.ptp.filter fun r => decide (r.bound = none ∧ r.delivered + requestLife ≤ s.now)).length) % 2 ^ 32 ∧
    ObjectsBut [okey 0 0 0x2900 8, okey 0 0 0x2900 9] s t ∧ KeepsAllBut [.objs, .fabric] s t)

/-- Instances, grants and client records (R288, R289, R301, R304, R310, R311, R334): an enable that overlaps no other instance waits for its
boundary, of NTP with a current cookie generation only; a position that has listened three Announce intervals with a lane up becomes MASTER;
a grant past its expiry ends; a record that fails is quarantined without grants; the host cancels the grants of a record and clears a
quarantined one; a peer-delay exchange begins with its next sequence a second after the last one. -/
def Obligations.InstancesGrantsAndRecordsChange : Prop := ∀ (s : State) (tr : Transport) (i pos n k : Nat), InService s →
  (∀ v, i < 8 → v ≤ 1 → (v = 1 → s.overlaps i = false) → CompletesWith (.instanceEnable tr (0x2910 + i) v) s fun t =>
      t.serve.pendEnable.look noneOf i = some (decide (v = 1)) ∧
      ObjectsBut [servedKey, lostKey] s t ∧ KeepsAllBut [.mgmt, .objs, .twin, .serve] s t) ∧
  (∀ v, i < 8 → v ≤ 1 → (v = 1 → s.overlaps (16 + i) = false ∧ s.currentEntry ≠ none) → CompletesWith (.instanceEnable tr (0x2920 + i) v) s fun t =>
      t.serve.pendEnable.look noneOf (16 + i) = some (decide (v = 1)) ∧
      ObjectsBut [servedKey, lostKey] s t ∧ KeepsAllBut [.mgmt, .objs, .twin, .serve] s t) ∧
  ((s.position i pos).state = 1 → (∀ u, (s.position i pos).upAt = some u → u + s.listenCycles i ≤ s.now →
      exec (.listeningEnd i pos) s = .next (s.setPosition i pos { s.position i pos with state := 2, entered := s.now })) ∧
    ((s.position i pos).upAt = none → exec (.listeningEnd i pos) s = .next s)) ∧
  (((s.client n).grant k).live = true → k < 3 →
    0 ≤ signed 32 ((s.taiSecond % 2 ^ 32 + 2 ^ 32 - ((s.client n).grant k).expiry) % 2 ^ 32) → CompletesWith (.grantExpire n k) s fun t =>
      t.client n = (s.client n).withGrant k {} ∧ ((t.client n).grant k).live = false ∧ ObjectsBut [] s t ∧ KeepsAllBut [.serve] s t) ∧
  (CompletesWith (.recordQuarantine n) s fun t => (t.client n).quarantined = true ∧ (t.client n).anyLive = false ∧
      (t.client n).address = (s.client n).address ∧ t.clock = s.clock) ∧
  (s.obj 0x2940 1 = n → (s.client n).valid = true → CompletesWith (.cancelGrants tr) s fun t =>
      (t.client n).anyLive = false ∧ (t.client n).valid = true ∧
      ObjectsBut [servedKey, lostKey] s t ∧ KeepsAllBut [.mgmt, .objs, .twin, .serve] s t) ∧
  (s.obj 0x2940 1 = n → (s.client n).quarantined = true → CompletesWith (.clearQuarantine tr) s fun t => t.client n = {} ∧
      ObjectsBut [servedKey, lostKey] s t ∧ KeepsAllBut [.mgmt, .objs, .twin, .serve] s t) ∧
  (s.ptpOn i = true → s.profile i = 6 → (s.position i pos).state = 2 → s.obj 0x2900 1 ≠ 0 →
    (∀ t, (s.position i pos).pdelayAt = some t → t + 1000000000 ≤ s.now) → CompletesWith (.pdelayReqTransmit i pos) s fun t =>
      t.position i pos = { s.position i pos with
        pending := true, pdelayAt := some s.now, pdelaySent := [], pdelayResp := none, pdelayOrigin := none,
        pdelaySeq := ((s.position i pos).pdelaySeq + 1) % 65536,
        failed := if (s.position i pos).pending = true then (s.position i pos).failed + 1 else (s.position i pos).failed })

/-- Keys (R320, R324 to R327): a record that passes its checks puts its key into the target slot with fresh masks, and a refusal is counted; a root enters an
empty slot 0; an invalidated slot and its descendants are orphaned, and orphans are erased; a release signed under a verifier key ends the signing
policy and counts a fetch of that key, any other is refused. -/
def Obligations.KeysAreImportedInvalidatedAndErased : Prop := ∀ (s : State) (tr : Transport) (d : Octets) (n : Nat), InService s →
  ((parseImport d).formOk = false → exec (.keyImport tr d) s = .next ((s.bump 0x2A00 7).abort tr 0x2A02 0 0x0A1E0090)) ∧
  ((parseImport d).formOk = true → (parseImport d).target ≠ 0 → s.slotState (parseImport d).target = 0 ∨ s.slotState (parseImport d).target = 4 →
    s.slotState (parseImport d).parent = 1 → bit (s.slot (parseImport d).parent).mask unitWrap = true → (s.slot (parseImport d).parent).depth ≤ 6 →
    bit (parseImport d).flags 1 = false → s.obj 0x2A00 5 = 0 → s.wrapUnitOk = true →
    (bit (parseImport d).flags 0 = true → Confirms (.keyImport tr d) s [.keys] [okey 0 0 0x2A00 6] fun t =>
      t.obj 0x2A00 6 = (s.obj 0x2A00 6 + 1) % 2 ^ 32 ∧ t.slot (parseImport d).target = {
        state := 1, mask := (parseImport d).mask, parent := (parseImport d).parent, depth := (s.slot (parseImport d).parent).depth + 1,
        generation := nextGeneration (s.slot (parseImport d).target).generation, expiry := (parseImport d).expiry, key := (parseImport d).body.take 32,
        maskA := Config.drbg s.keys.drawn, maskB := Config.drbg (s.keys.drawn + 1), maskedA := s.now, maskedB := s.now } ∧
      ∀ k, k ≠ (parseImport d).target → t.slot k = s.slot k) ∧
    (bit (parseImport d).flags 0 = false → CompletesWith (.keyImport tr d) s fun t => t.clock = s.clock ∧
      (t.slot (parseImport d).parent).uses = Nat.min ((s.slot (parseImport d).parent).uses + 1) 0xFFFFFFFF ∧
      match Config.aesKwUnwrap (s.slot (parseImport d).parent).key (parseImport d).body with
      | none => t.slot (parseImport d).target = s.slot (parseImport d).target
      | some key => (t.slot (parseImport d).target).key = key ∧ (t.slot (parseImport d).target).state = 1)) ∧
  (s.slotState 0 = 0 → d.length = 32 → Confirms (.rootLoad tr d) s [.keys] [] fun t => t.slot 0 = {
    state := 1, mask := 8, generation := nextGeneration (s.slot 0).generation, key := d, maskA := Config.drbg s.keys.drawn,
    maskB := Config.drbg (s.keys.drawn + 1), maskedA := s.now, maskedB := s.now } ∧ okey 0 0 0x2A04 0 ∈ t.mgmt.copies) ∧
  (s.slotState 0 ≠ 0 ∨ d.length ≠ 32 → Refuses (.rootLoad tr d) s tr 0x2A04 0 0x0A1E0096) ∧
  (match (if d.length = 128 ∧ d.take 64 = releaseMessage then
      s.verifiers.find? (fun n => Config.ed25519Verify (s.slot n).key (d.take 64) (d.drop 64)) else none) with
    | some v => Confirms (.signedPolicyRelease tr d) s [.keys] [okey 0 0 0x2A00 5] fun t => t.obj 0x2A00 5 = 0 ∧
        ∀ k, t.slot k = if k = v then { s.slot v with uses := Nat.min ((s.slot v).uses + 1) 0xFFFFFFFF } else s.slot k
    | none => Refuses (.signedPolicyRelease tr d) s tr 0x2A05 0 0x0A1E0094) ∧
  (0 < n → n < 4096 → s.slotState n = 1 ∨ s.slotState n = 2 → CompletesWith (.invalidate tr n) s fun t => t.clock = s.clock ∧ ∀ k, t.slot k =
    if s.descends n 8 k = true ∧ (s.slot k).state ≠ 0 ∧ (s.slot k).state ≠ 4 then { s.slot k with state := 3 } else s.slot k) ∧
  (n < 4096 → n = 0 ∨ s.slotState n = 0 ∨ s.slotState n = 3 ∨ s.slotState n = 4 → Refuses (.invalidate tr n) s tr 0x2A03 0 0x0A1E0095) ∧
  (Turns .orphanErase s [.keys] [] fun t => ∀ k, t.slot k =
    if (s.slot k).state = 3 then { s.slot k with state := 4, key := [], maskA := [], maskB := [] } else s.slot k)

/-- Tables and tamper (R330, R331, R334, R336, R447): a generation entry is written with its checks and a current one takes the mark from
the others; an association is written with its checks; a tamper event that is enabled, or a loss of VBAT, erases every key, and in service
counts once in a period of the 32.768 kHz clock; the root's mask is renewed. -/
def Obligations.TablesAreCheckedAndTamperErasesKeys : Prop := ∀ (s : State) (tr : Transport) (d : Octets) (k v c : Nat) (a : Association),
  (InService s → 1 ≤ k → k ≤ 16 → v < 2 ^ 32 → field v 29 28 = 0 →
    (entryValid v = true → s.slotState (entrySlot v) ≠ 1 → Refuses (.cookieGenerationWrite tr k v) s tr 0x2A10 k 0x0A1E0097) ∧
    (entryValid v = true → s.slotState (entrySlot v) = 1 → bit (s.slot (entrySlot v)).mask unitAes = true → (s.slot (entrySlot v)).generation = v % 65536 →
      (∀ i, 1 ≤ i → i ≤ 16 → i ≠ k → entryValid (s.generationEntry i) = true → entrySlot (s.generationEntry i) ≠ entrySlot v) → s.ntpEnabled = false →
      CompletesWith (.cookieGenerationWrite tr k v) s fun t => t.clock = s.clock ∧ t.generationEntry k = v ∧ ∀ i, 1 ≤ i → i ≤ 16 → i ≠ k →
        t.generationEntry i = if entryCurrent v = true ∧ entryCurrent (s.generationEntry i) = true then putBit (s.generationEntry i) 30 false
          else s.generationEntry i)) ∧
  (InService s → d.length ≠ 10 → Refuses (.associationEntryWrite tr d) s tr 0x2A20 2 0x06070010) ∧
  (InService s → d.length = 10 → beNat (slice d 0 1) = 128 * bitNat a.valid → beNat (slice d 1 1) = a.spp → beNat (slice d 2 4) = a.keyId →
    beNat (slice d 6 2) = a.slot → beNat (slice d 8 2) = a.generation → a.slot < 4096 →
    (a.valid = true → s.slotState a.slot = 1 ∧ bit (s.slot a.slot).mask unitHmac = true ∧ (s.slot a.slot).generation = a.generation) →
    (a.valid = true → ∀ i, i < 64 → i ≠ s.obj 0x2A20 1 → (s.association i).valid = true → (s.association i).spp = a.spp → (s.association i).keyId ≠ a.keyId) →
    Confirms (.associationEntryWrite tr d) s [.keys] [] fun t => t.association (s.obj 0x2A20 1) = a) ∧
  (c = 1 ∨ c = 2 → bit (s.obj 0x2A30 1) (c - 1) = true → CompletesWith (.zeroisation c) s fun t => t.clock = s.clock ∧
    (∀ n, ∃ g, t.slot n = { generation := g }) ∧ (∀ i, t.association i = {}) ∧ t.darkroom.root = none ∧ t.darkroom.rootMask = [] ∧
    (s.serving = true ∧ s.keys.erasedIn = some s.slowPeriod → ObjectsBut [] s t) ∧
    (¬(s.serving = true ∧ s.keys.erasedIn = some s.slowPeriod) →
      t.obj 0x2A30 3 = (s.obj 0x2A30 3 + 1) % 2 ^ 32 ∧ ∀ i, 1 ≤ i → i ≤ 16 → t.generationEntry i = 0)) ∧
  (c = 1 ∨ c = 2 → bit (s.obj 0x2A30 1) (c - 1) = false → Turns (.zeroisation c) s [.keys] [] fun t =>
    t.keys = { s.keys with tamper := putBit s.keys.tamper (c - 1) true }) ∧
  (CompletesWith (.zeroisation 3) s fun t => t.clock = s.clock ∧ t.darkroom = { valid := 0, vbat := false } ∧ ∀ n, ∃ g, t.slot n = { generation := g }) ∧
  (s.darkroom.root ≠ none → Turns .rootRemask s [.darkroom, .keys] [] fun t =>
    t.darkroom = { s.darkroom with rootMask := xorOctets s.darkroom.rootMask (Config.drbg s.keys.drawn) } ∧ t.keys = { s.keys with drawn := s.keys.drawn + 1 })

/-- Media ports (R15, R31, R345 to R348, R350, R353, R354, R356, R357): at a frame start that is due a master whose domain is ready sends the
oldest whole frame of its FIFO, or zeros and counts an underrun; a received frame waits with its timestamp until its delivery, where it enters
its FIFO whole or is an overrun; a slave that has lost its edges or its rate loses its clock and mutes the channels that take its slots, and
becomes stable again; a slot set is captured at its frame start; a grid restarts at its second; a combiner's fault idles the pins. -/
def Obligations.MediaPortsRunLoseAndRegainTheirClocks : Prop := ∀ (s : State) (m age bclks : Nat) (fine : Int) (f : List Int) (rest : List (List Int)),
  InService s → m < 8 →
  (s.time.gate = true → exec (.mediaFrameStart m) s = .next s) ∧
  (s.time.gate = false → (s.mport m).state ≠ 1 ∨ (s.mport m).combinerFault = true → Turns (.mediaFrameStart m) s [.media] [] fun t =>
    t.mport m = { s.mport m with pins := [] } ∧ ∀ k, k ≠ m → t.mport k = s.mport k) ∧
  (s.time.gate = false → (s.mport m).state = 1 → (s.mport m).combinerFault = false →
    (s.frameDue m = false → exec (.mediaFrameStart m) s = .next s) ∧
    (s.frameDue m = true → s.domainReady 6 m = false → (s.mport m).restartAt = none → CompletesWith (.mediaFrameStart m) s fun t =>
      (t.mport m).pins = [] ∧ (t.mport m).tx = (s.mport m).tx) ∧
    (s.frameDue m = true → s.domainReady 6 m = true → (s.mport m).restartAt = none → s.mediaSlave m = false → (s.mport m).loop = false →
      s.obj 0x2E10 (m + 1) ≠ 1 → (s.mport m).refill = false → (s.mport m).framing = 0 →
      let u := (s.setMport m { s.mport m with sentFrame := some (s.gridFrame m) }).mediaCatchUp m
      ((u.mport m).tx = f :: rest → Turns (.mediaFrameStart m) s [.media, .objs, .twin] [okey 0 0 (mediaIdx m) 0x10] fun t =>
        t.mport m = { u.mport m with tx := rest, pins := s.sdo m f } ∧ ∀ k, k ≠ m → t.mport k = s.mport k) ∧
      ((u.mport m).tx = [] → CompletesWith (.mediaFrameStart m) s fun t => (t.mport m).pins = s.sdo m (List.replicate 32 0) ∧
        (t.mport m).late = (u.mport m).late + 1 ∧ t.obj (mediaIdx m) 0x0F = (s.obj (mediaIdx m) 0x0F + 1) % 2 ^ 32))) ∧
  (bit s.intake.faults (90 + m) = false → (s.mport m).state ≠ 0 → (s.mport m).state ≠ 4 → s.time.gate = false →
    Turns (.mediaFrameReceive m age fine bclks f) s [.intake] [] fun t => t.intake = { s.intake with items := s.intake.items ++
      [⟨90 + m, s.now, s.tai, .media (s.now - age) (roundDivI (((s.tai : Int) - (age * s.increment 0 : Nat)) * 2000 +
        (fine - 2 * (s.input (mediaTdc m)).skew) * s.increment 0) (2000 * 2 ^ 28)) bclks f⟩] }) ∧
  (∀ (tag base cycle : Nat) (stamp : Int), (sortItems s.intake.items).head? = some ⟨90 + m, tag, base, .media cycle stamp bclks f⟩ → tag + 256 ≤ s.now →
    s.time.gate = false → bit s.intake.faults (90 + m) = false → (s.mport m).state ≠ 0 → (s.mport m).state ≠ 4 →
    (s.mediaSlave m = false → (s.mport m).loop = false → (s.mport m).rx.length < 16 → Turns (.itemDelivery false) s [.media, .intake] [] fun t =>
      t.mport m = { s.mport m with rx := (s.mport m).rx ++ [f.map (slotSample (s.obj (mediaIdx m) 6))] } ∧ ∀ k, k ≠ m → t.mport k = s.mport k) ∧
    (s.mediaSlave m = false → (s.mport m).loop = false → 16 ≤ (s.mport m).rx.length → CompletesWith (.itemDelivery false) s fun t =>
      (t.mport m).rx = (s.mport m).rx ∧ t.obj (mediaIdx m) 0x10 = (s.obj (mediaIdx m) 0x10 + 1) % 2 ^ 32 ∧ t.clock = s.clock) ∧
    (s.mediaSlave m = true → (s.mport m).state = 2 → (s.mport m).rx.length < 16 → bclks = s.obj (mediaIdx m) 5 * s.obj (mediaIdx m) 6 →
      Turns (.itemDelivery false) s [.media, .intake, .objs] [okey 0 0 (mediaIdx m) 0x0D] fun t => (t.mport m).state = 3 ∧ (t.mport m).framing = 0 ∧
        (t.mport m).rx = (s.mport m).rx ++ [f.map (slotSample (s.obj (mediaIdx m) 6))] ∧ ∃ r l, (t.mport m).edges = (cycle, stamp, r) :: l)) ∧
  (s.mediaSlave m = true → (s.mport m).state = 1 ∨ (s.mport m).state = 3 →
    (s.edgesLost m = true ∨ s.rateLost m = true → Turns (.clockLoss m) s [.media, .objs, .mgmt] [okey 0 0 (mediaIdx m) 0x11, lostKey] fun t =>
      t.mport m = { (s.mport m).clear.noEdges with state := 2, asrc := 1, pins := [] } ∧
      t.obj (mediaIdx m) 0x11 = (s.obj (mediaIdx m) 0x11 + 1) % 2 ^ 32 ∧ ∀ k, k < 256 → t.mchannel k =
        if sourcePort (s.channelSource k) = some m ∧ (s.mchannel k).state ≠ 0 then { s.mchannel k with state := 4, ramp := 0 } else s.mchannel k) ∧
    (s.edgesLost m = false → s.rateLost m = false → exec (.clockLoss m) s = .next s)) ∧
  (s.mediaSlave m = true → (s.mport m).state = 3 → (s.mport m).asrc = 2 → heldFor (s.mport m).lockAt 50000000 s.now = true → s.edgesLost m = false →
    s.rateLost m = false → Turns (.clockStable m) s [.media, .objs, .mgmt] [lostKey] fun t =>
    t.mport m = { s.mport m with state := 1, refill := true } ∧ ∀ k, k < 256 → t.mchannel k =
      if sourcePort (s.channelSource k) = some m ∧ (s.mchannel k).state = 4 ∧ s.objW k 0x2B01 4 = 1 then
        { s.mchannel k with state := 1, since := s.now } else s.mchannel k) ∧
  (s.safeDue 7 m = true → (s.mport m).state = 1 → s.frameDue m = true → CompletesWith (.mediaSafePoint m) s fun t => t.isWaiting 7 m = false ∧
    ObjectsBut (lostKey :: members 7 m) s t ∧ KeepsAllBut [.mgmt, .objs, .groups] s t ∧
    ∀ k ∈ members 7 m, t.objKey k = (s.groups.waiting.look noneOf k).getD (s.objKey k)) ∧
  (∀ n, (s.mport m).restartAt = some n →
    ((n * secondUnit : Nat) ≤ s.gridTime m + nsUnit → Turns (.gridRestart m) s [.media] [] fun t =>
      t.mport m = { s.mport m with restartAt := none, grid := none, sentFrame := none, late := 0 } ∧ ∀ k, k ≠ m → t.mport k = s.mport k) ∧
    (s.gridTime m + nsUnit < (n * secondUnit : Nat) → exec (.gridRestart m) s = .next s)) ∧
  (Turns (.combinerFault m) s [.media, .objs, .mgmt] [lostKey] fun t => t.mport m = { s.mport m with combinerFault := true, pins := [] } ∧
    ∀ k, k ≠ m → t.mport k = s.mport k)

/-- Channels and loopback (R351, R408): a channel's enable waits for the exposure, its reversal cancels it, its repetition changes nothing; the
gate switches where the channel's next sample is a crossing, or with a ramp of 64 samples when its timeout has run; a media loop needs an
enabled master. -/
def Obligations.ChannelsPassTheirGates : Prop := ∀ (s : State) (tr : Transport) (m c v : Nat) (b : Bool), InService s → m < 8 →
  ((s.mchannel s.selectedChannel).pend = none → s.objW s.selectedChannel 0x2B01 4 = bitNat (!b) →
    Confirms (.channelEnable tr (bitNat b)) s [.media] [] fun t =>
      t.mchannel s.selectedChannel = { s.mchannel s.selectedChannel with pend := some b } ∧ ∀ k, k ≠ s.selectedChannel → t.mchannel k = s.mchannel k) ∧
  ((s.mchannel s.selectedChannel).pend = some (!b) → Confirms (.channelEnable tr (bitNat b)) s [.media] [] fun t =>
    t.mchannel s.selectedChannel = { s.mchannel s.selectedChannel with pend := none } ∧ ∀ k, k ≠ s.selectedChannel → t.mchannel k = s.mchannel k) ∧
  ((s.mchannel s.selectedChannel).pend = some b → Confirms (.channelEnable tr (bitNat b)) s [] [] fun t => t.media = s.media) ∧
  (1 < v → Refuses (.channelEnable tr v) s tr 0x2B01 4 0x06090030) ∧
  ((s.mchannel (32 * m + c)).state = 1 ∨ (s.mchannel (32 * m + c)).state = 3 →
    (∀ n, n = (match (s.mport m).grid with | none => s.gridFrame m | some g => g + 1) →
      (s.crosses (32 * m + c) n = true → Turns (.gateSwitch m c) s [.media] [] fun t => t.mchannel (32 * m + c) = { s.mchannel (32 * m + c) with
        state := if (s.mchannel (32 * m + c)).state = 1 then 2 else 0 } ∧ ∀ k, k ≠ 32 * m + c → t.mchannel k = s.mchannel k) ∧
      (s.crosses (32 * m + c) n = false → exec (.gateSwitch m c) s = .next s)) ∧
    (if (s.mchannel (32 * m + c)).since + s.objW (32 * m + c) 0x2B01 7 * 1000000 ≤ s.now then
      Turns (.gateTimeout m c) s [.media, .mgmt, .objs] [lostKey] fun t => t.mchannel (32 * m + c) = { s.mchannel (32 * m + c) with
        state := if (s.mchannel (32 * m + c)).state = 1 then 2 else 0, ramp := 64 } ∧ ∀ k, k ≠ 32 * m + c → t.mchannel k = s.mchannel k
      else exec (.gateTimeout m c) s = .next s)) ∧
  (¬ ((s.mchannel (32 * m + c)).state = 1 ∨ (s.mchannel (32 * m + c)).state = 3) → exec (.gateSwitch m c) s = .next s ∧ exec (.gateTimeout m c) s = .next s) ∧
  (v ≤ 1 → v = 0 ∨ s.mediaSlave m = false ∧ s.mediaOn m = true → Confirms (.mediaLoopback tr m v) s [] [] fun t =>
    ⟨okey 0 0 0x2E10 (m + 1), v, 1⟩ ∈ t.mgmt.pendWrites) ∧
  (s.mediaSlave m = true ∨ s.mediaOn m = false → Refuses (.mediaLoopback tr m 1) s tr 0x2E10 (m + 1) 0x0A1E00C3)

/-- Roles and proofs (R369, R370, R372, R375, R377, R383, R420): role commands need a plate in standby; a divergence of a pair is counted against both
plates, and one without a pair changes nothing; a proof's end leads to waiting or to Failed, and in phase 2 two results end the phase; a plate's reset ends in
full proof; the end of a domain's self-test that fits its gap in sleep is counted, and its failure demotes the standby. -/
def Obligations.RolesChangeAndPlatesAreProved : Prop := ∀ (s : State) (tr : Transport) (p pt dt test ms cls idx t0 : Nat) (b : Bool),
  (InService s → s.paired = true → (Confirms (.roleSwap tr) s [] [] fun t => t.twin.swapPending = true) ∧
    Confirms (.standbyToProof tr) s [] [] fun t => t.twin.proofPending = true) ∧
  (InService s → s.paired = false → Refuses (.roleSwap tr) s tr 0x2C00 4 0x0A1E00B0 ∧ Refuses (.standbyToProof tr) s tr 0x2C00 4 0x0A1E00B1 ∧
    exec (.divergence pt dt) s = .next s) ∧
  (InService s → s.paired = true → s.twin.joinedAt = none ∨ pt ≠ 2 ∧ pt ≠ 7 →
    Turns (.divergence pt dt) s [.twin, .objs, .faults, .mgmt] [okey 0 0 0x2C00 6, okey 0 0 0x2C00 0x0C, lostKey] fun t =>
      t.obj 0x2C00 6 = (s.obj 0x2C00 6 + 1) % 2 ^ 32 ∧ t.obj 0x2C00 0x0C = pt % 256 * 2 ^ 24 + dt % 256 * 2 ^ 16 + s.clock.exposure % 65536 ∧
      t.twin.diverged = true ∧ t.twin.divergenceSent = true ∧ ∀ k, k < 2 → t.plate k = { s.plate k with divergences := (s.plate k).divergences + 1 }) ∧
  (InService s → s.paired = true → s.twin.joinedAt ≠ none → pt = 2 ∨ pt = 7 → exec (.divergence pt dt) s = .next s) ∧
  (InService s → p < 2 → (s.plate p).state = 3 → (s.plate p).waiting = false → s.twin.testPlate ≠ some p →
    (Turns (.proofComplete p true test ms) s [.twin, .objs] [okey 0 0 0x2C00 0x0E] fun t => t.obj 0x2C00 0x0E = ms ∧
      t.plate p = { s.plate p with proofPassed := true, waiting := true, proofEnded := s.taiSecond, firstFailing := 0 }) ∧
    (Turns (.proofComplete p false test ms) s [.twin, .objs, .faults, .mgmt] [okey 0 0 0x2C00 0x0E, lostKey] fun t => t.obj 0x2C00 0x0E = ms ∧
      t.plate p = { s.plate p with state := 6, proofPassed := false, waiting := false, proofEnded := s.taiSecond, firstFailing := test })) ∧
  (s.boot.phase = 2 → p < 2 → (s.plate p).state = 3 → (s.plate p).waiting = false →
    ((s.plate (1 - p)).waiting = true → (s.plate (1 - p)).state ≠ 6 → CompletesWith (.proofComplete p b test ms) s fun t => t.boot.phase = 3 ∧ t.clock = s.clock) ∧
    ((s.plate (1 - p)).state = 6 → CompletesWith (.proofComplete p b test ms) s fun t => t.boot.phase = (if b then 3 else 6) ∧ t.clock = s.clock)) ∧
  (InService s → (s.plate p).state = 5 → (s.plate p).resetAt = some t0 →
    (t0 + 10000000 ≤ s.now → Turns (.plateResetEnd p) s [.twin, .objs, .faults, .mgmt] [lostKey] fun t =>
      t.plate p = { s.plate p with state := 3, waiting := false, resetAt := none }) ∧
    (s.now < t0 + 10000000 → exec (.plateResetEnd p) s = .next s)) ∧
  (InService s → s.proofFits cls idx = false → exec (.asleepDomainProof cls idx b) s = .next s) ∧
  (InService s → s.paired = true → idx < 16 → s.proofFits cls idx = true →
    (Turns (.asleepDomainProof cls idx true) s [.twin] [] fun t => t.plate (1 - s.twin.active) = { s.plate (1 - s.twin.active) with
      asleepReel := (s.plate (1 - s.twin.active)).asleepReel + 1, asleepRan := true }) ∧
    (s.twin.active < 2 → CompletesWith (.asleepDomainProof cls idx false) s fun t => (t.plate (1 - s.twin.active)).state = 2 ∧
      (t.plate (1 - s.twin.active)).asleepFail = (s.plate (1 - s.twin.active)).asleepFail + 1 ∧ t.clock = s.clock))

/-- A plate rejoins (R377, R380, R382, Table 14.5): a waiting plate begins at a cycle 0 with its masks renewed, the snapshot is taken at cycle 0
of the eighth exposure after it, its digests are compared in the last cycle of the tenth, once more after a mismatch, the plate is standby at
cycle 0 of the eleventh, or of the twelfth where an ensemble part runs at the eleventh, and the mirror stops an exposure after that. -/
def Obligations.APlateRejoins : Prop := ∀ (s : State) (p r j : Nat) (a : Bool), InService s → p < 2 →
  (s.clock.cycle = 0 → s.clock.exposureDue = false → (s.plate (1 - p)).state = 0 → (s.plate (1 - p)).fatalLast = false →
    ((s.plate p).state = 3 → (s.plate p).waiting = true → CompletesWith (.resyncStart p) s fun t =>
      t.plate p = { s.plate p with state := 4, waiting := false } ∧ t.twin.mirror = true ∧ t.twin.resync = some (p, s.clock.exposures, false) ∧
      t.twin.snapshot = false ∧ t.twin.digestsEqual = false ∧ t.clock = s.clock) ∧
    ((s.plate p).state = 4 → s.twin.resync = some (p, r, true) → s.twin.mirror = false → CompletesWith (.resyncStart p) s fun t =>
      t.twin = { s.twin with mirror := true, resync := some (p, s.clock.exposures, true), snapshot := false, digestsEqual := false } ∧ t.clock = s.clock)) ∧
  ((s.plate (1 - p)).state ≠ 0 ∨ (s.plate (1 - p)).fatalLast = true ∨ s.clock.cycle ≠ 0 ∨ s.clock.exposureDue = true → exec (.resyncStart p) s = .next s) ∧
  (s.twin.resync = some (p, r, a) →
    (s.twin.mirror = true → s.clock.exposures = r + 8 → s.clock.cycle = 0 → s.clock.exposureDue = false →
      Turns .resyncSnapshot s [.twin] [] fun t => t.twin = { s.twin with snapshot := true }) ∧
    (s.clock.exposures ≠ r + 8 ∨ s.clock.cycle ≠ 0 → exec .resyncSnapshot s = .next s) ∧
    (s.twin.snapshot = true → s.twin.digestsEqual = false → s.clock.exposures = r + 10 → s.clock.cycle = 999999 →
      (Turns (.digestCompare true) s [.twin] [] fun t => t.twin = { s.twin with digestsEqual := true }) ∧
      (a = false → Turns (.digestCompare false) s [.twin] [] fun t => t.twin = { s.twin with mirror := false, snapshot := false, resync := some (p, r, true) }) ∧
      (a = true → (s.plate p).state = 4 → Turns (.digestCompare false) s [.twin, .objs, .faults, .mgmt] [okey 0 0 0x2C00 8, lostKey] fun t =>
        t.plate p = { s.plate p with state := 6 } ∧ t.twin.resync = none ∧ t.twin.mirror = false ∧ t.obj 0x2C00 8 = (s.obj 0x2C00 8 + 1) % 2 ^ 32)) ∧
    (s.twin.digestsEqual = true → s.clock.exposures = r + 11 ∧ s.ensembleRuns = false ∨ s.clock.exposures = r + 12 → s.clock.cycle = 0 →
      s.clock.exposureDue = false → s.twin.joinedAt = none → (s.plate p).state = 4 → CompletesWith .join s fun t =>
      t.plate p = { s.plate p with state := 1, inStepSince := s.taiSecond, divergences := 0, katFail := 0, asleepFail := 0, scrubAt := s.now } ∧
      t.plate (1 - p) = s.plate (1 - p) ∧ t.twin.joinedAt = some s.clock.exposures ∧ t.twin.lastPlateGap = false ∧
      t.obj 0x2C00 7 = (s.obj 0x2C00 7 + 1) % 2 ^ 32 ∧ t.obj 0x2C00 0x0D = s.taiSecond ∧ t.clock = s.clock) ∧
    (s.clock.exposures = r + 11 ∧ s.ensembleRuns = true → exec .join s = .next s)) ∧
  (s.twin.joinedAt = some j → s.clock.exposures = j + 1 → s.clock.cycle = 0 → s.clock.exposureDue = false → Turns .mirrorStop s [.twin] [] fun t =>
    t.twin = { s.twin with mirror := false, resync := none, snapshot := false, joinedAt := none }) ∧
  (s.twin.joinedAt = none → exec .mirrorStop s = .next s)

/-- Error lines (R33, R387, R388, R390, R393, R409): a corrected event is counted, a contained one latches on its line and plate, a fatal one
on the standby demotes it, but on the darkroom's line marks the store invalid and demotes no plate; an injected event acts as one raised, on a
plate and line that 0x2E20 names. -/
def Obligations.ErrorLinesLatchAndAct : Prop := ∀ (s : State) (tr : Transport) (p n d : Nat),
  (s.boot.inReset = true → exec (.errorLineEvent [⟨p, n, d, d⟩]) s = .next s) ∧
  (s.boot.inReset = false → p < 2 → n ≤ 240 →
    ((s.line p n).reelCorrected + 1 ≤ s.obj 0x2D01 1 → (s.line p n).reelCorrected + 1 ≠ s.obj 0x2D01 2 →
      Turns (.errorLineEvent [⟨p, n, 1, d⟩]) s [.faults] [] fun t => t.line p n = { s.line p n with
          status := true
          last := 1
          lastTime := toTime112 s.tai
          corrected := ((s.line p n).corrected + 1) % 2 ^ 32
          reelCorrected := (s.line p n).reelCorrected + 1 }) ∧
    (s.escalated p n = 2 → Turns (.errorLineEvent [⟨p, n, 2, d⟩]) s [.faults, .twin, .mgmt, .objs] [lostKey] fun t =>
      t.line p n = { s.line p n with
          status := true
          last := 2
          lastTime := toTime112 s.tai
          contained := ((s.line p n).contained + 1) % 2 ^ 32
          recent := s.now :: (s.line p n).recent } ∧ t.plate p = { s.plate p with containedNow := true }) ∧
    (n ≠ 158 → s.paired = true → s.twin.active = 1 - p → CompletesWith (.errorLineEvent [⟨p, n, 3, d⟩]) s fun t => t.clock = s.clock ∧
      t.plate p = { s.plate p with state := 2, fatalNow := true } ∧ t.plate (1 - p) = s.plate (1 - p) ∧ t.twin.active = s.twin.active) ∧
    (s.darkroom.fault = false → CompletesWith (.errorLineEvent [⟨p, 158, 3, d⟩]) s fun t => t.clock = s.clock ∧ t.darkroom.valid = 0 ∧
      t.darkroom.fault = true ∧ ∀ k, (t.plate k).state = (s.plate k).state)) ∧
  (InService s → s.obj 0x2E20 1 = p → s.obj 0x2E20 2 = n → p < 2 →
    (n ≤ 240 → (s.line p n).reelCorrected + 1 ≤ s.obj 0x2D01 1 → (s.line p n).reelCorrected + 1 ≠ s.obj 0x2D01 2 →
      Confirms (.injectCorrected tr) s [.faults] [] fun t => t.line p n = { s.line p n with
          status := true
          last := 1
          lastTime := toTime112 s.tai
          corrected := ((s.line p n).corrected + 1) % 2 ^ 32
          reelCorrected := (s.line p n).reelCorrected + 1 }) ∧
    (n ≤ 240 → s.escalated p n = 2 → CompletesWith (.injectContained tr) s fun t => t.clock = s.clock ∧
      t.line p n = { s.line p n with
          status := true
          last := 2
          lastTime := toTime112 s.tai
          contained := ((s.line p n).contained + 1) % 2 ^ 32
          recent := s.now :: (s.line p n).recent } ∧ (t.plate p).containedNow = true) ∧
    (n ≤ 240 → (s.plate p).state = 1 → s.twin.active ≠ p → CompletesWith (.injectFatal tr) s fun t => t.clock = s.clock ∧ (t.plate p).state = 2) ∧
    ((s.plate p).state ≠ 1 → Refuses (.injectFatal tr) s tr 0x2E20 3 0x0A1E00C0) ∧
    (240 < n → Refuses (.injectCorrected tr) s tr 0x2E20 3 0x0A1E00C0 ∧ Refuses (.injectContained tr) s tr 0x2E20 3 0x0A1E00C0 ∧
      Refuses (.injectFatal tr) s tr 0x2E20 3 0x0A1E00C0))

/-- Clears of the record and of the classifier (R388, R396, R398, R401): the last 16 entries of a sheet as it froze are saved, and the sheet is cleared; status bits
of both plates are cleared by their mask, but for a line that latched in this very cycle; a severe source returns when its hold has run, or when the host clears it. -/
def Obligations.TheContactSheetAndTheClassifierAreCleared : Prop := ∀ (s : State) (tr : Transport) (w mask n t0 a v : Nat),
  (s.faults.saveDue = true → s.boot.inReset = false → Turns .contactSheetSave s [.faults, .darkroom, .objs] [okey 0 0 0x2020 5, okey 0 0 0x2020 6] fun t =>
    t.darkroom = { s.darkroom with
      secF := s.faults.frozenTail
      secFValid := true
      valid := putBit s.darkroom.valid 6 true } ∧ t.faults = { s.faults with saveDue := false } ∧ t.obj 0x2020 5 = (s.obj 0x2020 5 + 1) % 2 ^ 32) ∧
  (s.faults.saveDue = false → exec .contactSheetSave s = .next s) ∧
  (InService s →
    (Confirms (.contactSheetClear tr 1) s [.faults] [] fun t => t.faults = { s.faults with sheet := [], frozen := false }) ∧
    (v ≠ 1 → Refuses (.contactSheetClear tr v) s tr 0x2D30 5 0x06090030) ∧
    ((s.plate s.chosenPlate).state ≤ 1 → 1 ≤ w → w ≤ 8 → Confirms (.statusClear tr w mask) s [.faults] [] fun t => ∀ p k, p < 2 → k < 256 →
      t.line p k = if k / 32 = w - 1 ∧ bit mask (k % 32) = true then { s.line p k with
        status := (s.line p k).status && decide ((s.line p k).lastTime = toTime112 s.tai) } else s.line p k) ∧
    ((s.laneSource n).severeUntil = some t0 →
      (t0 ≤ s.now → Turns (.severeHoldEnd (65536 + n)) s [.faults] [] fun t => t.laneSource n = { s.laneSource n with severeUntil := none } ∧
        ∀ k, k ≠ n → t.laneSource k = s.laneSource k) ∧
      (s.now < t0 → exec (.severeHoldEnd (65536 + n)) s = .next s)) ∧
    (n < 65536 → (s.addressSource n).severeUntil = some t0 →
      (t0 ≤ s.now → Turns (.severeHoldEnd n) s [.faults] [] fun t => t.addressSource n = { s.addressSource n with severeUntil := none } ∧
        ∀ k, k ≠ n → t.addressSource k = s.addressSource k) ∧
      (s.now < t0 → exec (.severeHoldEnd n) s = .next s)) ∧
    ((s.addressSource (s.addressEntry a)).tracked = true → (s.addressSource (s.addressEntry a)).address = a →
      Confirms (.clearAddress tr a) s [.faults] [] fun t =>
        t.addressSource (s.addressEntry a) = { s.addressSource (s.addressEntry a) with severeUntil := none, count := 0 } ∧
        ∀ k, k ≠ s.addressEntry a → t.addressSource k = s.addressSource k) ∧
    ((s.addressSource (s.addressEntry a)).tracked = false ∨ (s.addressSource (s.addressEntry a)).address ≠ a →
      Refuses (.clearAddress tr a) s tr 0x2D20 0x0C 0x0A1E00C1) ∧
    (mask < 2 ^ 24 → Confirms (.clearLanes tr mask) s [.faults] [] fun t => ∀ k, k < 24 →
      t.laneSource k = if bit mask k = true then { s.laneSource k with severeUntil := none, count := 0 } else s.laneSource k) ∧
    (2 ^ 24 ≤ mask → Refuses (.clearLanes tr mask) s tr 0x2D20 0x0E 0x06090030))

/-- The power-up sequence (R412, R414, R417, R419, R420, R421): release reads the store, the common clock section's test is repeated three times at most, the
usable firmware of the higher version runs, the boot plan below 125 °C is the normal image, the hot image or the ROM's, and the time base and the root are loaded. -/
def Obligations.ThePowerUpSequenceRunsInItsPhases : Prop := ∀ (s : State) (pins : BootPins) (res straps : Nat),
  (s.boot.inReset = true → CompletesWith (.resetRelease pins) s fun t => t.boot.inReset = false ∧ t.boot.testEnable = pins.testEnable ∧
    t.boot.cause = (if s.boot.cause = 1 ∧ s.darkroom.vbat = false then 2 else s.boot.cause) ∧ t.boot.phase = s.boot.phase ∧ t.darkroom.vbat = true ∧
    t.boot.sectionsValid = s.sectionsFound pins.sectionChecks pins.badRecords ∧ t.clock = s.clock) ∧
  (s.boot.inReset = false → exec (.resetRelease pins) s = .next s) ∧
  (s.boot.inReset = false → s.boot.stopped = false → s.boot.phase = 0 → s.boot.testEnable = false →
    (bit res 2 = false → s.boot.repeats < 3 → Turns (.selfTestComplete res straps) s [.boot] [] fun t => t.boot = { s.boot with repeats := s.boot.repeats + 1 }) ∧
    (bit res 2 = false → 3 ≤ s.boot.repeats → Turns (.selfTestComplete res straps) s [.boot] [] fun t => t.boot = { s.boot with stopped := true }) ∧
    (bit res 2 = true → CompletesWith (.selfTestComplete res straps) s fun t => t.clock = s.clock ∧ t.mgmt.nmt = 0x7F ∧ t.mgmt.straps = straps % 128 ∧
      t.boot = { s.boot with phase := 1, repeats := 0, selfTest := if s.boot.cause ≤ 2 then res % 32 else s.boot.selfTest } ∧
      t.obj 0x2F01 3 = (s.obj 0x2F01 3 + 1) % 2 ^ 32)) ∧
  (s.boot.inReset = false → s.boot.phase = 1 → match s.slotVersion 0, s.slotVersion 1 with
    | none, none => Turns .firmwareApplied s [.boot] [] fun t => t.boot = { s.boot with phase := 6 }
    | v0, v1 => CompletesWith .firmwareApplied s fun t => t.clock = s.clock ∧ (t.plate 0).state = 3 ∧ (t.plate 1).state = 3 ∧ t.boot = { s.boot with
        phase := 2, slotInUse := if v0.isSome = true ∧ v1.getD 0 ≤ v0.getD 0 then 0 else 1, version := Nat.max (v0.getD 0) (v1.getD 0),
        patches := s.boot.slots.getD (if v0.isSome = true ∧ v1.getD 0 ≤ v0.getD 0 then 0 else 1) [] }) ∧
  (s.boot.inReset = false → s.boot.phase = 3 → s.junctionHot = false →
    match s.tryImage (s.boot.planImages.getD 0 []), s.tryImage (s.boot.planImages.getD 1 []) with
    | none, _ => Turns .bootPlanChecked s [.boot, .plans] [] fun t =>
        t.boot = { s.boot with phase := 4, planSource := 0 } ∧ t.plans.active = 0 ∧ t.plans.activeId = (parsePlan (s.boot.planImages.getD 0 [])).identifier
    | some c1, none => CompletesWith .bootPlanChecked s fun t => t.clock = s.clock ∧ t.boot.phase = 4 ∧ t.boot.planSource = 1 ∧ t.boot.lastRefusal = c1 ∧
        t.plans.activeId = (parsePlan (s.boot.planImages.getD 1 [])).identifier
    | some c1, some c2 => CompletesWith .bootPlanChecked s fun t => t.clock = s.clock ∧ t.boot.phase = 4 ∧ t.boot.planSource = 2 ∧
        t.boot.lastRefusal = (if c2 = 0 then c1 else c2) ∧ t.plans.activeId = 0xFFFFFFFF) ∧
  (s.boot.inReset = false → s.boot.phase = 4 → s.boot.loaded = false →
    (bit s.boot.sectionsValid 2 = false → bit s.boot.sectionsValid 5 = false → Turns .timeBaseRestore s [.boot] [] fun t =>
      t.boot = { s.boot with loaded := true }) ∧
    (∀ k, bit s.boot.sectionsValid 2 = true → s.darkroom.root = some k → CompletesWith .timeBaseRestore s fun t => t.clock = s.clock ∧
      t.boot.loaded = true ∧ (t.slot 0).key = k ∧ (t.slot 0).state = 1 ∧ (t.slot 0).mask = 8) ∧
    (∀ e, bit s.boot.sectionsValid 5 = true → s.darkroom.secE = some e → CompletesWith .timeBaseRestore s fun t => t.clock = s.clock ∧
      t.boot.loaded = true ∧ (t.steer 0).known = true ∧ (t.steer 0).xhat = 0 ∧ (t.steer 0).b = (e.terms.take 3).map Int.toNat))

/-- Service starts (R104, R417, R420): at a whole second of time base 0 at least 1 ms after its load, within the limit of Table 16.3, at exposure 0 of
reel 0; every time base starts at that second. The plates that wait serve, plate A active if it waits. -/
def Obligations.ServiceStartsAtAWholeSecond : Prop := ∀ s : State, s.boot.inReset = false → s.boot.phase = 4 →
  (s.boot.loaded = true → CompletesWith .serviceStart s fun t => t.clock = {} ∧ t.pending = s.pending ∧
    (∀ n < 32, t.base n = { s.base n with value := wholeSecondAfter (s.base 0).value, prev := wholeSecondAfter (s.base 0).value }) ∧
    t.boot = { s.boot with phase := 5, releaseMs := t.boot.releaseMs } ∧ t.boot.releaseMs < (if s.boot.second = true then 7200 else 5616) ∧
    ((s.plate 0).waiting = true → t.twin.active = 0 ∧ (t.plate 0).state = 0 ∧ (t.plate 0).waiting = false ∧
      ((s.plate 1).waiting = true → (t.plate 1).state = 1 ∧ (t.plate 1).waiting = false) ∧
      ((s.plate 1).waiting = false → t.plate 1 = s.plate 1)) ∧
    ((s.plate 0).waiting = false → (s.plate 1).waiting = true → t.twin.active = 1 ∧ (t.plate 1).state = 0 ∧ t.plate 0 = s.plate 0)) ∧
  (s.boot.loaded = false → exec .serviceStart s = .next s)

/-- Resets (R18, R416, R424, R441, R457): RESET_N and a loss of supply act at once, clear the registers and leave the darkroom and what OTP holds; the flash stands
unless a write to it is in progress, and a write to region 2 leaves that region empty at a loss of supply. The host's reset is accepted and applied 10 ms later while
the block serves, the one with defaults empties section A, and a reset that waits comes first. A common clock failure stops event frames, opens the service gap and
asks for a reset. -/
def Obligations.ResetsLeaveTheDarkroomAndTheFlash : Prop := ∀ (s : State) (tr : Transport) (c : Nat),
  (s.boot.inReset = false → s.boot.flashStatus ≠ 1 → CompletesWith .resetAssert s fun t => t.boot.inReset = true ∧ t.boot.phase = 0 ∧ t.boot.cause = 3 ∧
    t.boot.slots = s.boot.slots ∧ t.boot.planImages = s.boot.planImages ∧ t.boot.revoked = s.boot.revoked ∧ t.boot.floor = s.boot.floor ∧
    t.boot.selfTest = s.boot.selfTest ∧ t.darkroom = s.darkroom ∧ t.objs = [] ∧ t.clock = {} ∧ t.keys.slots = [] ∧ t.mgmt.requests = [] ∧
    t.twin.resetGap = true ∧ t.pending = s.pending) ∧
  (s.boot.inReset = true → exec .resetAssert s = .next s) ∧
  (s.boot.flashStatus = 1 → s.boot.flashTarget = some 2 → CompletesWith .supplyLoss s fun t => t.boot.planImages = setAt s.boot.planImages 0 [] ∧
    t.boot.slots = s.boot.slots) ∧
  (s.boot.flashStatus ≠ 1 → CompletesWith .supplyLoss s fun t => t.boot.inReset = true ∧ t.boot.cause = 1 ∧ t.boot.selfTest = 0 ∧ t.boot.testEnable = false ∧
    t.boot.slots = s.boot.slots ∧ t.boot.planImages = s.boot.planImages ∧ t.boot.revoked = s.boot.revoked ∧ t.boot.floor = s.boot.floor ∧ t.darkroom = s.darkroom ∧ t.objs = [] ∧ t.clock = {} ∧ t.pending = s.pending) ∧
  (InService s → s.boot.resetPending = none →
    (Confirms (.deviceReset tr) s [.boot] [] fun t => t.boot = { s.boot with resetPending := some 4, resetAt := s.now + 10000000 }) ∧
    (Confirms (.deviceResetWithDefaults tr) s [.boot] [] fun t => t.boot = { s.boot with resetPending := some 5, resetAt := s.now + 10000000 })) ∧
  (InService s → ∀ q, s.boot.resetPending = some q → Confirms (.deviceReset tr) s [.boot] [] fun t => t.boot = s.boot) ∧
  (s.boot.resetPending = none → exec .deviceResetApply s = .next s) ∧
  (s.boot.resetPending = some c → s.serving = true → s.now < s.boot.resetAt → exec .deviceResetApply s = .next s) ∧
  (s.boot.resetPending = some c → s.serving = false ∨ s.boot.resetAt ≤ s.now → CompletesWith .deviceResetApply s fun t => t.boot.inReset = false ∧ t.boot.phase = 0 ∧ t.boot.cause = c ∧
    t.boot.resetPending = none ∧ t.clock = {} ∧ t.pending = s.pending ∧ t.keys.slots = [] ∧ (c = 5 → t.darkroom.secA = [])) ∧
  (InService s → CompletesWith .commonClockFailure s fun t => t.intake.eventFramesStopped = true ∧ t.boot = { s.boot with resetPending := some 6, resetAt := s.now } ∧
    t.twin.resetGap = true ∧ t.clock = s.clock ∧ (s.twin.gapSince = none → t.twin.gapSince = some s.now ∧ t.obj 0x2C00 0x0B = (s.obj 0x2C00 0x0B + 1) % 2 ^ 32))

/-- Re-initialisations (R383, R426): each names its function, waits for the exposure if the function exists and is free, and is refused else, the only plate
in service among them; one that ends after the time of Table 16.7 reports its status, and with status 2 its intake units and lines return to service. A second plate
is refused while one waits (log 99, the model's choice). -/
def Obligations.ReinitialisationsAreAcceptedAndEnd : Prop := ∀ (s : State) (tr : Transport) (i : Nat), InService s →
  (∀ p ∈ [(Instr.reinitialisePort tr i, 0x100 + i), (.reinitialiseLoupe tr i, 0x200 + i), (.reinitialiseDpll tr i, 0x300 + i),
      (.reinitialiseOutputPll tr i, 0x400 + i), (.reinitialiseGnss tr, 0x500), (.reinitialiseMediaPort tr i, 0x600 + i),
      (.reinitialiseServingGroup tr i, 0x700 + i), (.reinitialisePlate tr i, 0x800 + i), (.reinitialiseDeveloper tr, 0x900)],
    (s.functionOk p.2 = false → Refuses p.1 s tr 0x2F20 1 0x0A1E00D0) ∧
    (s.functionOk p.2 = true → p.2 ∈ s.boot.reinit ∨ p.2 ∈ s.boot.reinitPending → Refuses p.1 s tr 0x2F20 1 0x0A1E00D1) ∧
    (s.functionOk p.2 = true → p.2 ∉ s.boot.reinit → p.2 ∉ s.boot.reinitPending →
      (p.2 / 256 = 8 → (s.twin.active = p.2 % 256 ∧ s.paired = false) ∨ s.twin.resetAfterSwap.isSome = true → Refuses p.1 s tr 0x2F20 1 0x0A1E00B2) ∧
      (p.2 / 256 = 8 → s.twin.active ≠ p.2 % 256 ∨ s.paired = true → s.twin.resetAfterSwap = none →
        Confirms p.1 s [.boot, .twin] [] fun t => t.boot = { s.boot with reinitPending := s.boot.reinitPending ++ [p.2] } ∧
          t.twin.resetAfterSwap = some (p.2 % 256) ∧ t.twin.active = s.twin.active) ∧
      (p.2 / 256 ≠ 8 → Confirms p.1 s [.boot] [] fun t => t.boot = { s.boot with reinitPending := s.boot.reinitPending ++ [p.2] }))) ∧
  (i ∈ s.boot.reinit → s.clock.exposures < s.boot.reinitSince.look (fun _ => 0) i + reinitLength i → ∀ ok, exec (.reinitialisationEnd i ok) s = .next s) ∧
  (i ∈ s.boot.reinit → s.boot.reinitSince.look (fun _ => 0) i + reinitLength i ≤ s.clock.exposures →
    (Turns (.reinitialisationEnd i false) s [.boot, .mgmt, .objs] [lostKey] fun t =>
      t.boot = { s.boot with reinit := s.boot.reinit.filter (· ≠ i), lastFunction := i, reinitStatus := 3 }) ∧
    (i / 256 ≠ 7 → Turns (.reinitialisationEnd i true) s [.boot, .intake, .faults, .mgmt, .objs] [lostKey] fun t =>
      t.boot = { s.boot with reinit := s.boot.reinit.filter (· ≠ i), lastFunction := i, reinitStatus := 2 } ∧
      t.intake = { s.intake with faults := (functionUnits s i).1.foldl (fun m n => putBit m n false) s.intake.faults } ∧
      t.faults = { s.faults with notReadyLines := s.faults.notReadyLines.filter fun n => !(functionUnits s i).2.contains n })) ∧
  (i ∉ s.boot.reinit → ∀ ok, exec (.reinitialisationEnd i ok) s = .next s)

/-- Flash (R414, R416): an image that passes its rules is written and its write ends with the region filled, one that fails leaves the region as it is, a
read-back that fails leaves it empty. -/
def Obligations.FlashIsWrittenAndReadBack : Prop := ∀ (s : State) (tr : Transport) (d : Octets) (n : Nat) (ok : Bool),
  (InService s →
    (s.flashBusy = true → Refuses (.flashImageDownload tr d) s tr 0x2F30 2 0x0A1E00D3) ∧
    (s.flashBusy = false → match s.flashRefusal (s.obj 0x2F30 1) d with
      | some _ => CompletesWith (.flashImageDownload tr d) s fun t => t.clock = s.clock ∧
          t.boot = { s.boot with flashStatus := 3 } ∧ t.obj 0x2004 2 = (s.obj 0x2004 2 + 1) % 2 ^ 32
      | none => CompletesWith (.flashImageDownload tr d) s fun t => t.clock = s.clock ∧
          t.boot = { s.boot with flashStatus := 1, flashTarget := some (s.obj 0x2F30 1), flashData := d })) ∧
  (s.boot.inReset = false → s.boot.flashStatus = 1 → s.boot.flashTarget = some n →
    Turns (.flashWriteComplete ok) s [.boot, .mgmt, .objs] [lostKey] fun t => t.boot.flashStatus = (if ok then 2 else 4) ∧ t.boot.flashTarget = none ∧
      t.boot.slots = (if n < 2 then setAt s.boot.slots n (if ok then s.boot.flashData else []) else s.boot.slots) ∧
      t.boot.planImages = (if n < 2 then s.boot.planImages else setAt s.boot.planImages (n - 2) (if ok then s.boot.flashData else []))) ∧
  (s.boot.inReset = false → s.boot.flashStatus ≠ 1 → exec (.flashWriteComplete ok) s = .next s)

/-- The count is whole (R8): while the block serves, a cycle is followed by the next one, the last of an exposure by cycle 0 of the next exposure and the last
exposure of a reel by exposure 0 of the next reel, each cycle 0 with its work due; no cycle follows while that work is due or a registration gate is in force. The
work of a boundary runs once, the exposure's before the reel's, and moves nothing else of the clock; no command that waits is lost. Every step keeps the work of an
exposure due at its cycle 0 alone, and that of a reel at its first. -/
def Obligations.BoundariesCountExposuresAndReels : Prop := (∀ s : State, InService s →
  CompletesWith .engineCycle s fun t =>
    (s.clock.exposureDue = true ∨ s.clock.reelDue = true ∨ s.time.gate = true → t = s) ∧
    (s.clock.exposureDue = false → s.clock.reelDue = false → s.time.gate = false →
      (s.clock.cycle < 999999 → t.clock = { s.clock with cycle := s.clock.cycle + 1 }) ∧
      (s.clock.cycle = 999999 → s.clock.exposure < 999 →
        t.clock = { s.clock with cycle := 0, exposure := s.clock.exposure + 1, exposures := s.clock.exposures + 1, exposureDue := true }) ∧
      (s.clock.cycle = 999999 → s.clock.exposure = 999 →
        t.clock = { cycle := 0, exposure := 0, exposures := s.clock.exposures + 1, reel := s.clock.reel + 1, exposureDue := true, reelDue := true }))) ∧
  (∀ s t : State, (s.clock.exposureDue = true → s.clock.cycle = 0) ∧ (s.clock.reelDue = true → s.clock.cycle = 0 ∧ s.clock.exposure = 0) →
    step s = .next t → (t.clock.exposureDue = true → t.clock.cycle = 0) ∧ (t.clock.reelDue = true → t.clock.cycle = 0 ∧ t.clock.exposure = 0)) ∧
  (∀ (s : State) (r : Readings) (i : ReelInputs),
    (InService s → s.clock.exposureDue = true → s.gateAhead = false → CompletesWith (.exposureBoundary r) s fun t =>
      t.clock = { s.clock with exposureDue := false } ∧ t.pending = s.pending) ∧
    (InService s → s.clock.exposureDue = false → exec (.exposureBoundary r) s = .next s) ∧
    (InService s → s.clock.exposureDue = false → s.clock.reelDue = true → CompletesWith (.reelBoundary i) s fun t =>
      t.clock = { s.clock with reelDue := false } ∧ t.pending = s.pending) ∧
    (InService s → s.clock.exposureDue = true ∨ s.clock.reelDue = false → exec (.reelBoundary i) s = .next s) ∧
    (s.boot.phase ≠ 5 → s.boot.inReset = false → s.boot.phase ≠ 0 → Turns (.exposureBoundary r) s [.faults] [] fun t => t.faults = { s.faults with temps := r.temps }) ∧
    (s.boot.inReset = true → exec (.exposureBoundary r) s = .next s) ∧
    (s.boot.inReset = true ∨ s.boot.phase ≠ 5 → exec (.reelBoundary i) s = .next s))

/-- R92: while an instance's committed bit is set, a write to one of its members, or a commit or discard naming it, is refused. The checks that come before (R469,
and R102 for a steered time base) pass here. -/
def Obligations.ACommittedInstanceRefusesChanges : Prop := ∀ (s : State) (tr : Transport) (g n : Nat), InService s → s.isWaiting g n = true →
  (∀ mask, mask < 2 ^ groupCount g → bit mask n = true → Refuses (.commit tr g mask) s tr (0x2080 + g) 1 0x0A1E0011 ∧
    Refuses (.discard tr g mask) s tr (0x2080 + g) 2 0x0A1E0011) ∧
  (∀ i j data e r m, s.reach i j true = .ok e → dictRecord i = some (r, m) → r.index + m = i → e.ty ≠ .domain → e.ty.size = some data.length →
    s.plateRefused i j = false → e.range.ok (e.ty.decode data) = true → s.valueError r.index m j (e.ty.decode data) = none → memberOf i j = some (g, n) →
    (g = 0 → (s.base n).steered = false) →
    Refuses (.shadowWrite tr i j data) s tr i j 0x0A1E0011 ∧ Refuses (.registerWrite tr i j data) s tr i j 0x0A1E0011 ∧
    (data.length ≤ 56 → Refuses (.usdoExpeditedDownload tr i j data) s tr i j 0x0A1E0011))

/-- R333: a write to 0x2A30.01, within its range, that clears an enable bit is refused while slot 0 is in state 1; any other is accepted, one that only enables
among them. -/
def Obligations.TamperInputsCannotBeDisabledUnderARoot : Prop := ∀ (s : State) (tr : Transport) (v : Nat), InService s → v ≤ 3 →
  (s.slotState 0 = 1 → (∃ k, bit (s.obj 0x2A30 1) k = true ∧ bit v k = false) → Refuses (.tamperEnableWrite tr v) s tr 0x2A30 1 0x0A1E0099) ∧
  (s.slotState 0 ≠ 1 ∨ (∀ k, bit (s.obj 0x2A30 1) k = true → bit v k = true) →
    Confirms (.tamperEnableWrite tr v) s [] [okey 0 0 0x2A30 1] fun t => t.obj 0x2A30 1 = v)

/-- R415: the write of 0x72657600 + n revokes OTP key n for every later verification and discards a checked plan signed under it unless its swap has latched,
and what is in force stands; another form, or the last usable key, is refused. The floor is raised to at most the running version, and never lowered. -/
def Obligations.RevocationAndTheFloorFollowTheirWrites : Prop := ∀ (s : State) (tr : Transport) (n v : Nat), InService s →
  (n < 4 → if ((List.range 4).any fun j => decide (j ≠ n) && s.planKeyOk j) = true then CompletesWith (.revoke tr (0x72657600 + n)) s fun t =>
    t.planKeyOk n = false ∧ (∀ k, k ≠ n → t.planKeyOk k = s.planKeyOk k) ∧
    (∀ p, s.waitingPlan = some p → p.key = n → p.rom = false → s.plans.latched = false → t.waitingPlan = none) ∧
    ((∀ p, s.waitingPlan = some p → p.key ≠ n ∨ p.rom = true ∨ s.plans.latched = true) → t.plans = s.plans) ∧
    t.plan = s.plan ∧ t.boot = { s.boot with revoked := putBit s.boot.revoked n true } ∧ t.clock = s.clock
    else Refuses (.revoke tr (0x72657600 + n)) s tr 0x2F40 4 0x0A1E00D6) ∧
  (v < 0x72657600 ∨ 0x72657603 < v → Refuses (.revoke tr v) s tr 0x2F40 4 0x0A1E00D6) ∧
  (s.rollbackFloor ≤ v → v ≤ s.boot.version → Confirms (.raiseFloor tr v) s [.boot] [] fun t => t.rollbackFloor = v ∧ t.boot = { s.boot with floor := v }) ∧
  (v < s.rollbackFloor ∨ s.boot.version < v → Refuses (.raiseFloor tr v) s tr 0x2F40 6 0x0A1E00D7)

end
end

