-- ==== Sys2Proof/Laws/Bits.lean ====
section
/-! SUPPORT. Bits of words: what setting and clearing one bit leaves. -/

namespace Sys2Proof.Machine

theorem bit_putBit_true (v n : Nat) : bit (putBit v n true) n = true := by
  simp [bit, putBit, Nat.testBit_or]

theorem bit_putBit_false (v n : Nat) : bit (putBit v n false) n = false := by
  unfold putBit
  simp only [Bool.false_eq_true, if_false]
  split
  · rename_i h
    unfold bit at h ⊢
    rw [Nat.testBit_eq_decide_div_mod_eq] at h ⊢
    have hp : 0 < 2 ^ n := Nat.two_pow_pos n
    have h1 : v / 2 ^ n % 2 = 1 := by simpa using h
    have h2 : (v - 2 ^ n) / 2 ^ n = v / 2 ^ n - 1 := by
      have := Nat.sub_mul_div v (2 ^ n) 1
      simpa using this
    rw [h2]
    simp only [decide_eq_false_iff_not]
    omega
  · rename_i h
    simpa using h

/-- The bit that was put is read back. -/
@[simp] theorem bit_putBit (v n : Nat) (b : Bool) : bit (putBit v n b) n = b := by
  cases b
  · exact bit_putBit_false v n
  · exact bit_putBit_true v n

/-! ### Octets -/

@[simp] theorem leOctets_length (n v : Nat) : (leOctets n v).length = n := by
  induction n generalizing v with
  | zero => rfl
  | succ n ih => simp [leOctets, ih]

/-- The octets of a number read back as it. -/
theorem leNat_leOctets (n v : Nat) : leNat (leOctets n v) = v % 256 ^ n := by
  induction n generalizing v with
  | zero => simp [leOctets, leNat, Nat.mod_one]
  | succ n ih =>
    have h : v % 256 ^ (n + 1) = v % 256 + 256 * (v / 256 % 256 ^ n) := by
      rw [Nat.pow_succ, Nat.mul_comm (256 ^ n) 256, Nat.mod_mul]
    rw [h]
    simp only [leOctets, leNat, ih, BitVec.toNat_ofNat]

end Sys2Proof.Machine
end

