-- ==== Sys2Proof/Laws/Table.lean ====
section
/-! SUPPORT. What a sparse table answers after a write, and that a write keeps its canonical form. -/

namespace Sys2Proof.Machine

variable {α : Type}

theorem Table.look_drop (d : Nat → α) (k j : Nat) (t : Table α) :
    Table.look d j (Table.drop k t) = if j = k then d j else Table.look d j t := by
  induction t with
  | nil => simp [Table.drop, Table.look]
  | cons e r ih =>
    unfold Table.drop
    split
    · rw [ih]; split
      · rfl
      · rename_i h1 h2
        have h3 : ¬ e.1 = j := fun h => h2 (h ▸ h1)
        simp [Table.look, h3]
    · rename_i h1
      simp only [Table.look, ih]
      by_cases h : j = k
      · have h3 : ¬ e.1 = j := fun h' => h1 (h' ▸ h)
        simp [h, h1]
      · simp [h]

theorem Table.look_place (d : Nat → α) (k j : Nat) (v : α) (t : Table α) (ht : ∀ e ∈ t, e.1 ≠ k) :
    Table.look d j (Table.place k v t) = if j = k then v else Table.look d j t := by
  induction t with
  | nil => simp [Table.place, Table.look, eq_comm]
  | cons e r ih =>
    have h1 : e.1 ≠ k := ht e (by simp)
    have h2 : ∀ x ∈ r, x.1 ≠ k := fun x hx => ht x (by simp [hx])
    unfold Table.place
    split
    · by_cases h : j = k
      · simp [Table.look, h]
      · have : ¬ k = j := fun h' => h h'.symm
        simp [Table.look, h, this]
    · simp only [Table.look, ih h2]
      by_cases h : j = k
      · subst h; simp [h1]
      · simp [h]

theorem Table.drop_ne (k : Nat) (t : Table α) : ∀ e ∈ Table.drop k t, e.1 ≠ k := by
  induction t with
  | nil => simp [Table.drop]
  | cons e r ih =>
    unfold Table.drop
    split
    · exact ih
    · rename_i h
      intro x hx
      rcases List.mem_cons.mp hx with h' | h'
      · exact h' ▸ h
      · exact ih x h'

/-- A write is read back, and every other key reads as before. -/
theorem Table.look_put [DecidableEq α] (d : Nat → α) (k j : Nat) (v : α) (t : Table α) :
    Table.look d j (Table.put d k v t) = if j = k then v else Table.look d j t := by
  unfold Table.put
  split
  · rename_i h
    rw [Table.look_drop]
    split
    · rename_i h'; subst h'; exact h.symm
    · rfl
  · rw [Table.look_place d k j v _ (Table.drop_ne k t), Table.look_drop]
    split <;> rfl

@[simp] theorem Table.look_put_self [DecidableEq α] (d : Nat → α) (k : Nat) (v : α) (t : Table α) :
    Table.look d k (Table.put d k v t) = v := by simp [Table.look_put]

theorem Table.look_put_ne [DecidableEq α] (d : Nat → α) {k j : Nat} (h : j ≠ k) (v : α) (t : Table α) :
    Table.look d j (Table.put d k v t) = Table.look d j t := by simp [Table.look_put, h]

/-! ### The canonical form -/

/-- A bound that a key stays above. -/
def Table.above (lo : Option Nat) (k : Nat) : Prop := ∀ l, lo = some l → l < k

theorem Table.rising_weaken {lo lo' : Option Nat} {t : Table α} (h : Table.rising lo t = true)
    (hl : ∀ k, Table.above lo k → Table.above lo' k) : Table.rising lo' t = true := by
  cases t with
  | nil => rfl
  | cons e r =>
    simp only [Table.rising, Bool.and_eq_true] at h ⊢
    refine ⟨?_, h.2⟩
    have : Table.above lo e.1 := by
      intro l hl'; subst hl'; simpa using h.1
    have := hl _ this
    cases lo' with
    | none => rfl
    | some l => simpa using this l rfl

theorem Table.rising_drop (k : Nat) (lo : Option Nat) (t : Table α) (h : Table.rising lo t = true) :
    Table.rising lo (Table.drop k t) = true := by
  induction t generalizing lo with
  | nil => rfl
  | cons e r ih =>
    simp only [Table.rising, Bool.and_eq_true] at h
    have he : Table.above lo e.1 := by
      intro l hl'; subst hl'; simpa using h.1
    unfold Table.drop
    split
    · apply Table.rising_weaken (ih _ h.2)
      intro k' hk l hl
      have := hk _ rfl
      have := he l hl
      omega
    · simp only [Table.rising, Bool.and_eq_true]
      exact ⟨h.1, ih _ h.2⟩

theorem Table.rising_place (k : Nat) (v : α) (lo : Option Nat) (t : Table α) (h : Table.rising lo t = true)
    (hk : Table.above lo k) (hn : ∀ e ∈ t, e.1 ≠ k) : Table.rising lo (Table.place k v t) = true := by
  have hb : ∀ lo' : Option Nat, Table.above lo' k → (match lo' with | none => true | some l => decide (l < k)) = true := by
    intro lo' h'
    cases lo' with
    | none => rfl
    | some l => simpa using h' l rfl
  induction t generalizing lo with
  | nil => simp only [Table.place, Table.rising, Bool.and_true]; exact hb lo hk
  | cons e r ih =>
    simp only [Table.rising, Bool.and_eq_true] at h
    have h1 : e.1 ≠ k := hn e (by simp)
    unfold Table.place
    split
    · rename_i hlt
      simp only [Table.rising, Bool.and_eq_true]
      exact ⟨hb lo hk, by simpa using hlt, h.2⟩
    · rename_i hge
      simp only [Table.rising, Bool.and_eq_true]
      refine ⟨h.1, ih _ h.2 ?_ (fun x hx => hn x (by simp [hx]))⟩
      intro l hl
      cases hl
      omega

theorem Table.mem_drop {k : Nat} {t : Table α} {e : Nat × α} (h : e ∈ Table.drop k t) : e ∈ t := by
  induction t with
  | nil => simp [Table.drop] at h
  | cons x r ih =>
    unfold Table.drop at h
    split at h
    · exact List.mem_cons_of_mem _ (ih h)
    · rcases List.mem_cons.mp h with h' | h'
      · simp [h']
      · exact List.mem_cons_of_mem _ (ih h')

theorem Table.mem_place {k : Nat} {v : α} {t : Table α} {e : Nat × α} (h : e ∈ Table.place k v t) : e = (k, v) ∨ e ∈ t := by
  induction t with
  | nil => simpa [Table.place] using h
  | cons x r ih =>
    unfold Table.place at h
    split at h
    · rcases List.mem_cons.mp h with h' | h'
      · exact .inl h'
      · exact .inr h'
    · rcases List.mem_cons.mp h with h' | h'
      · exact .inr (by simp [h'])
      · rcases ih h' with h'' | h''
        · exact .inl h''
        · exact .inr (List.mem_cons_of_mem _ h'')

/-- Every write keeps the canonical form. -/
theorem Table.wf_put [DecidableEq α] (d : Nat → α) (k : Nat) (v : α) (t : Table α) (h : Table.wf d t = true) :
    Table.wf d (Table.put d k v t) = true := by
  simp only [Table.wf, Bool.and_eq_true, List.all_eq_true, decide_eq_true_eq] at h ⊢
  unfold Table.put
  split
  · exact ⟨Table.rising_drop k _ t h.1, fun e he => h.2 e (Table.mem_drop he)⟩
  · rename_i hv
    refine ⟨Table.rising_place k v none _ (Table.rising_drop k _ t h.1) (by intro l hl; cases hl) (Table.drop_ne k t), ?_⟩
    intro e he
    rcases Table.mem_place he with rfl | h'
    · exact hv
    · exact h.2 e (Table.mem_drop h')

end Sys2Proof.Machine
end

