-- ==== Sys2Proof/Laws/State.lean ====
section
/-! SUPPORT. One lemma for each field and each update of the state: what a setter leaves, and what reading after it answers. -/

namespace Sys2Proof.Machine

/-! ### Objects -/

@[simp] theorem State.setKey_pending (s : State) (k : Nat) (v : Int) : (s.setKey k v).pending = s.pending := rfl
@[simp] theorem State.setKey_clock (s : State) (k : Nat) (v : Int) : (s.setKey k v).clock = s.clock := rfl
@[simp] theorem State.setKey_intake (s : State) (k : Nat) (v : Int) : (s.setKey k v).intake = s.intake := rfl
@[simp] theorem State.setKey_mgmt (s : State) (k : Nat) (v : Int) : (s.setKey k v).mgmt = s.mgmt := rfl
@[simp] theorem State.setKey_groups (s : State) (k : Nat) (v : Int) : (s.setKey k v).groups = s.groups := rfl
@[simp] theorem State.setKey_darkroom (s : State) (k : Nat) (v : Int) : (s.setKey k v).darkroom = s.darkroom := rfl
@[simp] theorem State.setKey_boot (s : State) (k : Nat) (v : Int) : (s.setKey k v).boot = s.boot := rfl
@[simp] theorem State.setKey_twin (s : State) (k : Nat) (v : Int) : (s.setKey k v).twin = s.twin := rfl
@[simp] theorem State.setKey_faults (s : State) (k : Nat) (v : Int) : (s.setKey k v).faults = s.faults := rfl
@[simp] theorem State.setKey_time (s : State) (k : Nat) (v : Int) : (s.setKey k v).time = s.time := rfl
@[simp] theorem State.setKey_plans (s : State) (k : Nat) (v : Int) : (s.setKey k v).plans = s.plans := rfl
@[simp] theorem State.setKey_synth (s : State) (k : Nat) (v : Int) : (s.setKey k v).synth = s.synth := rfl
@[simp] theorem State.setKey_refs (s : State) (k : Nat) (v : Int) : (s.setKey k v).refs = s.refs := rfl
@[simp] theorem State.setKey_dev (s : State) (k : Nat) (v : Int) : (s.setKey k v).dev = s.dev := rfl
@[simp] theorem State.setKey_ports (s : State) (k : Nat) (v : Int) : (s.setKey k v).ports = s.ports := rfl
@[simp] theorem State.setKey_fabric (s : State) (k : Nat) (v : Int) : (s.setKey k v).fabric = s.fabric := rfl
@[simp] theorem State.setKey_gnss (s : State) (k : Nat) (v : Int) : (s.setKey k v).gnss = s.gnss := rfl
@[simp] theorem State.setKey_serve (s : State) (k : Nat) (v : Int) : (s.setKey k v).serve = s.serve := rfl
@[simp] theorem State.setKey_keys (s : State) (k : Nat) (v : Int) : (s.setKey k v).keys = s.keys := rfl
@[simp] theorem State.setKey_media (s : State) (k : Nat) (v : Int) : (s.setKey k v).media = s.media := rfl
@[simp] theorem State.setKey_free (s : State) (k : Nat) (v : Int) : (s.setKey k v).free = s.free := rfl

/-- Reading an object value after a write. -/
theorem State.objKey_setKey (s : State) (k j : Nat) (v : Int) : (s.setKey k v).objKey j = if j = k then v else s.objKey j :=
  Table.look_put _ _ _ _ _

@[simp] theorem State.objKey_setKey_self (s : State) (k : Nat) (v : Int) : (s.setKey k v).objKey k = v := by
  simp [State.objKey_setKey]

theorem State.objKey_setKey_ne (s : State) {k j : Nat} (h : j ≠ k) (v : Int) : (s.setKey k v).objKey j = s.objKey j := by
  simp [State.objKey_setKey, h]

/-- Object keys with sub-index below 256 and index below 65,536 differ where a part differs. -/
theorem okey_inj {p i x n p' i' x' n' : Nat} (hp : p < 2) (hx : x < 65536) (hn : n < 256) (hp' : p' < 2) (hx' : x' < 65536)
    (hn' : n' < 256) : okey p i x n = okey p' i' x' n' ↔ p = p' ∧ i = i' ∧ x = x' ∧ n = n' := by
  unfold okey; omega

@[simp] theorem State.setObj_pending (s : State) (idx sub : Nat) (v : Int) : (s.setObj idx sub v).pending = s.pending := State.setKey_pending _ _ _
@[simp] theorem State.setObj_clock (s : State) (idx sub : Nat) (v : Int) : (s.setObj idx sub v).clock = s.clock := State.setKey_clock _ _ _
@[simp] theorem State.setObj_intake (s : State) (idx sub : Nat) (v : Int) : (s.setObj idx sub v).intake = s.intake := State.setKey_intake _ _ _
@[simp] theorem State.setObj_mgmt (s : State) (idx sub : Nat) (v : Int) : (s.setObj idx sub v).mgmt = s.mgmt := State.setKey_mgmt _ _ _
@[simp] theorem State.setObj_groups (s : State) (idx sub : Nat) (v : Int) : (s.setObj idx sub v).groups = s.groups := State.setKey_groups _ _ _
@[simp] theorem State.setObj_darkroom (s : State) (idx sub : Nat) (v : Int) : (s.setObj idx sub v).darkroom = s.darkroom := State.setKey_darkroom _ _ _
@[simp] theorem State.setObj_boot (s : State) (idx sub : Nat) (v : Int) : (s.setObj idx sub v).boot = s.boot := State.setKey_boot _ _ _
@[simp] theorem State.setObj_twin (s : State) (idx sub : Nat) (v : Int) : (s.setObj idx sub v).twin = s.twin := State.setKey_twin _ _ _
@[simp] theorem State.setObj_faults (s : State) (idx sub : Nat) (v : Int) : (s.setObj idx sub v).faults = s.faults := State.setKey_faults _ _ _
@[simp] theorem State.setObj_time (s : State) (idx sub : Nat) (v : Int) : (s.setObj idx sub v).time = s.time := State.setKey_time _ _ _
@[simp] theorem State.setObj_plans (s : State) (idx sub : Nat) (v : Int) : (s.setObj idx sub v).plans = s.plans := State.setKey_plans _ _ _
@[simp] theorem State.setObj_synth (s : State) (idx sub : Nat) (v : Int) : (s.setObj idx sub v).synth = s.synth := State.setKey_synth _ _ _
@[simp] theorem State.setObj_refs (s : State) (idx sub : Nat) (v : Int) : (s.setObj idx sub v).refs = s.refs := State.setKey_refs _ _ _
@[simp] theorem State.setObj_dev (s : State) (idx sub : Nat) (v : Int) : (s.setObj idx sub v).dev = s.dev := State.setKey_dev _ _ _
@[simp] theorem State.setObj_ports (s : State) (idx sub : Nat) (v : Int) : (s.setObj idx sub v).ports = s.ports := State.setKey_ports _ _ _
@[simp] theorem State.setObj_fabric (s : State) (idx sub : Nat) (v : Int) : (s.setObj idx sub v).fabric = s.fabric := State.setKey_fabric _ _ _
@[simp] theorem State.setObj_gnss (s : State) (idx sub : Nat) (v : Int) : (s.setObj idx sub v).gnss = s.gnss := State.setKey_gnss _ _ _
@[simp] theorem State.setObj_serve (s : State) (idx sub : Nat) (v : Int) : (s.setObj idx sub v).serve = s.serve := State.setKey_serve _ _ _
@[simp] theorem State.setObj_keys (s : State) (idx sub : Nat) (v : Int) : (s.setObj idx sub v).keys = s.keys := State.setKey_keys _ _ _
@[simp] theorem State.setObj_media (s : State) (idx sub : Nat) (v : Int) : (s.setObj idx sub v).media = s.media := State.setKey_media _ _ _
@[simp] theorem State.setObj_free (s : State) (idx sub : Nat) (v : Int) : (s.setObj idx sub v).free = s.free := State.setKey_free _ _ _
theorem State.objKey_setObj (s : State) (idx sub : Nat) (j : Nat) (v : Int) :
    (s.setObj idx sub v).objKey j = if j = okey 0 0 idx sub then v else s.objKey j := State.objKey_setKey _ _ _ _

@[simp] theorem State.setObjW_pending (s : State) (item idx sub : Nat) (v : Int) : (s.setObjW item idx sub v).pending = s.pending := State.setKey_pending _ _ _
@[simp] theorem State.setObjW_clock (s : State) (item idx sub : Nat) (v : Int) : (s.setObjW item idx sub v).clock = s.clock := State.setKey_clock _ _ _
@[simp] theorem State.setObjW_intake (s : State) (item idx sub : Nat) (v : Int) : (s.setObjW item idx sub v).intake = s.intake := State.setKey_intake _ _ _
@[simp] theorem State.setObjW_mgmt (s : State) (item idx sub : Nat) (v : Int) : (s.setObjW item idx sub v).mgmt = s.mgmt := State.setKey_mgmt _ _ _
@[simp] theorem State.setObjW_groups (s : State) (item idx sub : Nat) (v : Int) : (s.setObjW item idx sub v).groups = s.groups := State.setKey_groups _ _ _
@[simp] theorem State.setObjW_darkroom (s : State) (item idx sub : Nat) (v : Int) : (s.setObjW item idx sub v).darkroom = s.darkroom := State.setKey_darkroom _ _ _
@[simp] theorem State.setObjW_boot (s : State) (item idx sub : Nat) (v : Int) : (s.setObjW item idx sub v).boot = s.boot := State.setKey_boot _ _ _
@[simp] theorem State.setObjW_twin (s : State) (item idx sub : Nat) (v : Int) : (s.setObjW item idx sub v).twin = s.twin := State.setKey_twin _ _ _
@[simp] theorem State.setObjW_faults (s : State) (item idx sub : Nat) (v : Int) : (s.setObjW item idx sub v).faults = s.faults := State.setKey_faults _ _ _
@[simp] theorem State.setObjW_time (s : State) (item idx sub : Nat) (v : Int) : (s.setObjW item idx sub v).time = s.time := State.setKey_time _ _ _
@[simp] theorem State.setObjW_plans (s : State) (item idx sub : Nat) (v : Int) : (s.setObjW item idx sub v).plans = s.plans := State.setKey_plans _ _ _
@[simp] theorem State.setObjW_synth (s : State) (item idx sub : Nat) (v : Int) : (s.setObjW item idx sub v).synth = s.synth := State.setKey_synth _ _ _
@[simp] theorem State.setObjW_refs (s : State) (item idx sub : Nat) (v : Int) : (s.setObjW item idx sub v).refs = s.refs := State.setKey_refs _ _ _
@[simp] theorem State.setObjW_dev (s : State) (item idx sub : Nat) (v : Int) : (s.setObjW item idx sub v).dev = s.dev := State.setKey_dev _ _ _
@[simp] theorem State.setObjW_ports (s : State) (item idx sub : Nat) (v : Int) : (s.setObjW item idx sub v).ports = s.ports := State.setKey_ports _ _ _
@[simp] theorem State.setObjW_fabric (s : State) (item idx sub : Nat) (v : Int) : (s.setObjW item idx sub v).fabric = s.fabric := State.setKey_fabric _ _ _
@[simp] theorem State.setObjW_gnss (s : State) (item idx sub : Nat) (v : Int) : (s.setObjW item idx sub v).gnss = s.gnss := State.setKey_gnss _ _ _
@[simp] theorem State.setObjW_serve (s : State) (item idx sub : Nat) (v : Int) : (s.setObjW item idx sub v).serve = s.serve := State.setKey_serve _ _ _
@[simp] theorem State.setObjW_keys (s : State) (item idx sub : Nat) (v : Int) : (s.setObjW item idx sub v).keys = s.keys := State.setKey_keys _ _ _
@[simp] theorem State.setObjW_media (s : State) (item idx sub : Nat) (v : Int) : (s.setObjW item idx sub v).media = s.media := State.setKey_media _ _ _
@[simp] theorem State.setObjW_free (s : State) (item idx sub : Nat) (v : Int) : (s.setObjW item idx sub v).free = s.free := State.setKey_free _ _ _
theorem State.objKey_setObjW (s : State) (item idx sub : Nat) (j : Nat) (v : Int) :
    (s.setObjW item idx sub v).objKey j = if j = okey 0 item idx sub then v else s.objKey j := State.objKey_setKey _ _ _ _

@[simp] theorem State.setObjP_pending (s : State) (plate idx sub : Nat) (v : Int) : (s.setObjP plate idx sub v).pending = s.pending := State.setKey_pending _ _ _
@[simp] theorem State.setObjP_clock (s : State) (plate idx sub : Nat) (v : Int) : (s.setObjP plate idx sub v).clock = s.clock := State.setKey_clock _ _ _
@[simp] theorem State.setObjP_intake (s : State) (plate idx sub : Nat) (v : Int) : (s.setObjP plate idx sub v).intake = s.intake := State.setKey_intake _ _ _
@[simp] theorem State.setObjP_mgmt (s : State) (plate idx sub : Nat) (v : Int) : (s.setObjP plate idx sub v).mgmt = s.mgmt := State.setKey_mgmt _ _ _
@[simp] theorem State.setObjP_groups (s : State) (plate idx sub : Nat) (v : Int) : (s.setObjP plate idx sub v).groups = s.groups := State.setKey_groups _ _ _
@[simp] theorem State.setObjP_darkroom (s : State) (plate idx sub : Nat) (v : Int) : (s.setObjP plate idx sub v).darkroom = s.darkroom := State.setKey_darkroom _ _ _
@[simp] theorem State.setObjP_boot (s : State) (plate idx sub : Nat) (v : Int) : (s.setObjP plate idx sub v).boot = s.boot := State.setKey_boot _ _ _
@[simp] theorem State.setObjP_twin (s : State) (plate idx sub : Nat) (v : Int) : (s.setObjP plate idx sub v).twin = s.twin := State.setKey_twin _ _ _
@[simp] theorem State.setObjP_faults (s : State) (plate idx sub : Nat) (v : Int) : (s.setObjP plate idx sub v).faults = s.faults := State.setKey_faults _ _ _
@[simp] theorem State.setObjP_time (s : State) (plate idx sub : Nat) (v : Int) : (s.setObjP plate idx sub v).time = s.time := State.setKey_time _ _ _
@[simp] theorem State.setObjP_plans (s : State) (plate idx sub : Nat) (v : Int) : (s.setObjP plate idx sub v).plans = s.plans := State.setKey_plans _ _ _
@[simp] theorem State.setObjP_synth (s : State) (plate idx sub : Nat) (v : Int) : (s.setObjP plate idx sub v).synth = s.synth := State.setKey_synth _ _ _
@[simp] theorem State.setObjP_refs (s : State) (plate idx sub : Nat) (v : Int) : (s.setObjP plate idx sub v).refs = s.refs := State.setKey_refs _ _ _
@[simp] theorem State.setObjP_dev (s : State) (plate idx sub : Nat) (v : Int) : (s.setObjP plate idx sub v).dev = s.dev := State.setKey_dev _ _ _
@[simp] theorem State.setObjP_ports (s : State) (plate idx sub : Nat) (v : Int) : (s.setObjP plate idx sub v).ports = s.ports := State.setKey_ports _ _ _
@[simp] theorem State.setObjP_fabric (s : State) (plate idx sub : Nat) (v : Int) : (s.setObjP plate idx sub v).fabric = s.fabric := State.setKey_fabric _ _ _
@[simp] theorem State.setObjP_gnss (s : State) (plate idx sub : Nat) (v : Int) : (s.setObjP plate idx sub v).gnss = s.gnss := State.setKey_gnss _ _ _
@[simp] theorem State.setObjP_serve (s : State) (plate idx sub : Nat) (v : Int) : (s.setObjP plate idx sub v).serve = s.serve := State.setKey_serve _ _ _
@[simp] theorem State.setObjP_keys (s : State) (plate idx sub : Nat) (v : Int) : (s.setObjP plate idx sub v).keys = s.keys := State.setKey_keys _ _ _
@[simp] theorem State.setObjP_media (s : State) (plate idx sub : Nat) (v : Int) : (s.setObjP plate idx sub v).media = s.media := State.setKey_media _ _ _
@[simp] theorem State.setObjP_free (s : State) (plate idx sub : Nat) (v : Int) : (s.setObjP plate idx sub v).free = s.free := State.setKey_free _ _ _
theorem State.objKey_setObjP (s : State) (plate idx sub : Nat) (j : Nat) (v : Int) :
    (s.setObjP plate idx sub v).objKey j = if j = okey plate 0 idx sub then v else s.objKey j := State.objKey_setKey _ _ _ _

@[simp] theorem State.bumpKey_pending (s : State) (k n : Nat) : (s.bumpKey k n).pending = s.pending := State.setKey_pending _ _ _
@[simp] theorem State.bumpKey_clock (s : State) (k n : Nat) : (s.bumpKey k n).clock = s.clock := State.setKey_clock _ _ _
@[simp] theorem State.bumpKey_intake (s : State) (k n : Nat) : (s.bumpKey k n).intake = s.intake := State.setKey_intake _ _ _
@[simp] theorem State.bumpKey_mgmt (s : State) (k n : Nat) : (s.bumpKey k n).mgmt = s.mgmt := State.setKey_mgmt _ _ _
@[simp] theorem State.bumpKey_groups (s : State) (k n : Nat) : (s.bumpKey k n).groups = s.groups := State.setKey_groups _ _ _
@[simp] theorem State.bumpKey_darkroom (s : State) (k n : Nat) : (s.bumpKey k n).darkroom = s.darkroom := State.setKey_darkroom _ _ _
@[simp] theorem State.bumpKey_boot (s : State) (k n : Nat) : (s.bumpKey k n).boot = s.boot := State.setKey_boot _ _ _
@[simp] theorem State.bumpKey_twin (s : State) (k n : Nat) : (s.bumpKey k n).twin = s.twin := State.setKey_twin _ _ _
@[simp] theorem State.bumpKey_faults (s : State) (k n : Nat) : (s.bumpKey k n).faults = s.faults := State.setKey_faults _ _ _
@[simp] theorem State.bumpKey_time (s : State) (k n : Nat) : (s.bumpKey k n).time = s.time := State.setKey_time _ _ _
@[simp] theorem State.bumpKey_plans (s : State) (k n : Nat) : (s.bumpKey k n).plans = s.plans := State.setKey_plans _ _ _
@[simp] theorem State.bumpKey_synth (s : State) (k n : Nat) : (s.bumpKey k n).synth = s.synth := State.setKey_synth _ _ _
@[simp] theorem State.bumpKey_refs (s : State) (k n : Nat) : (s.bumpKey k n).refs = s.refs := State.setKey_refs _ _ _
@[simp] theorem State.bumpKey_dev (s : State) (k n : Nat) : (s.bumpKey k n).dev = s.dev := State.setKey_dev _ _ _
@[simp] theorem State.bumpKey_ports (s : State) (k n : Nat) : (s.bumpKey k n).ports = s.ports := State.setKey_ports _ _ _
@[simp] theorem State.bumpKey_fabric (s : State) (k n : Nat) : (s.bumpKey k n).fabric = s.fabric := State.setKey_fabric _ _ _
@[simp] theorem State.bumpKey_gnss (s : State) (k n : Nat) : (s.bumpKey k n).gnss = s.gnss := State.setKey_gnss _ _ _
@[simp] theorem State.bumpKey_serve (s : State) (k n : Nat) : (s.bumpKey k n).serve = s.serve := State.setKey_serve _ _ _
@[simp] theorem State.bumpKey_keys (s : State) (k n : Nat) : (s.bumpKey k n).keys = s.keys := State.setKey_keys _ _ _
@[simp] theorem State.bumpKey_media (s : State) (k n : Nat) : (s.bumpKey k n).media = s.media := State.setKey_media _ _ _
@[simp] theorem State.bumpKey_free (s : State) (k n : Nat) : (s.bumpKey k n).free = s.free := State.setKey_free _ _ _
theorem State.objKey_bumpKey (s : State) (k n : Nat) (j : Nat) :
    (s.bumpKey k n).objKey j = if j = k then ((((s.objKey (k)).toNat + n) % 2 ^ 32 : Nat) : Int) else s.objKey j :=
  State.objKey_setKey _ _ _ _

@[simp] theorem State.bumpBy_pending (s : State) (idx sub n : Nat) : (s.bumpBy idx sub n).pending = s.pending := State.setKey_pending _ _ _
@[simp] theorem State.bumpBy_clock (s : State) (idx sub n : Nat) : (s.bumpBy idx sub n).clock = s.clock := State.setKey_clock _ _ _
@[simp] theorem State.bumpBy_intake (s : State) (idx sub n : Nat) : (s.bumpBy idx sub n).intake = s.intake := State.setKey_intake _ _ _
@[simp] theorem State.bumpBy_mgmt (s : State) (idx sub n : Nat) : (s.bumpBy idx sub n).mgmt = s.mgmt := State.setKey_mgmt _ _ _
@[simp] theorem State.bumpBy_groups (s : State) (idx sub n : Nat) : (s.bumpBy idx sub n).groups = s.groups := State.setKey_groups _ _ _
@[simp] theorem State.bumpBy_darkroom (s : State) (idx sub n : Nat) : (s.bumpBy idx sub n).darkroom = s.darkroom := State.setKey_darkroom _ _ _
@[simp] theorem State.bumpBy_boot (s : State) (idx sub n : Nat) : (s.bumpBy idx sub n).boot = s.boot := State.setKey_boot _ _ _
@[simp] theorem State.bumpBy_twin (s : State) (idx sub n : Nat) : (s.bumpBy idx sub n).twin = s.twin := State.setKey_twin _ _ _
@[simp] theorem State.bumpBy_faults (s : State) (idx sub n : Nat) : (s.bumpBy idx sub n).faults = s.faults := State.setKey_faults _ _ _
@[simp] theorem State.bumpBy_time (s : State) (idx sub n : Nat) : (s.bumpBy idx sub n).time = s.time := State.setKey_time _ _ _
@[simp] theorem State.bumpBy_plans (s : State) (idx sub n : Nat) : (s.bumpBy idx sub n).plans = s.plans := State.setKey_plans _ _ _
@[simp] theorem State.bumpBy_synth (s : State) (idx sub n : Nat) : (s.bumpBy idx sub n).synth = s.synth := State.setKey_synth _ _ _
@[simp] theorem State.bumpBy_refs (s : State) (idx sub n : Nat) : (s.bumpBy idx sub n).refs = s.refs := State.setKey_refs _ _ _
@[simp] theorem State.bumpBy_dev (s : State) (idx sub n : Nat) : (s.bumpBy idx sub n).dev = s.dev := State.setKey_dev _ _ _
@[simp] theorem State.bumpBy_ports (s : State) (idx sub n : Nat) : (s.bumpBy idx sub n).ports = s.ports := State.setKey_ports _ _ _
@[simp] theorem State.bumpBy_fabric (s : State) (idx sub n : Nat) : (s.bumpBy idx sub n).fabric = s.fabric := State.setKey_fabric _ _ _
@[simp] theorem State.bumpBy_gnss (s : State) (idx sub n : Nat) : (s.bumpBy idx sub n).gnss = s.gnss := State.setKey_gnss _ _ _
@[simp] theorem State.bumpBy_serve (s : State) (idx sub n : Nat) : (s.bumpBy idx sub n).serve = s.serve := State.setKey_serve _ _ _
@[simp] theorem State.bumpBy_keys (s : State) (idx sub n : Nat) : (s.bumpBy idx sub n).keys = s.keys := State.setKey_keys _ _ _
@[simp] theorem State.bumpBy_media (s : State) (idx sub n : Nat) : (s.bumpBy idx sub n).media = s.media := State.setKey_media _ _ _
@[simp] theorem State.bumpBy_free (s : State) (idx sub n : Nat) : (s.bumpBy idx sub n).free = s.free := State.setKey_free _ _ _
theorem State.objKey_bumpBy (s : State) (idx sub n : Nat) (j : Nat) :
    (s.bumpBy idx sub n).objKey j = if j = okey 0 0 idx sub then ((((s.objKey (okey 0 0 idx sub)).toNat + n) % 2 ^ 32 : Nat) : Int) else s.objKey j :=
  State.objKey_setKey _ _ _ _

@[simp] theorem State.bump_pending (s : State) (idx sub : Nat) : (s.bump idx sub).pending = s.pending := State.setKey_pending _ _ _
@[simp] theorem State.bump_clock (s : State) (idx sub : Nat) : (s.bump idx sub).clock = s.clock := State.setKey_clock _ _ _
@[simp] theorem State.bump_intake (s : State) (idx sub : Nat) : (s.bump idx sub).intake = s.intake := State.setKey_intake _ _ _
@[simp] theorem State.bump_mgmt (s : State) (idx sub : Nat) : (s.bump idx sub).mgmt = s.mgmt := State.setKey_mgmt _ _ _
@[simp] theorem State.bump_groups (s : State) (idx sub : Nat) : (s.bump idx sub).groups = s.groups := State.setKey_groups _ _ _
@[simp] theorem State.bump_darkroom (s : State) (idx sub : Nat) : (s.bump idx sub).darkroom = s.darkroom := State.setKey_darkroom _ _ _
@[simp] theorem State.bump_boot (s : State) (idx sub : Nat) : (s.bump idx sub).boot = s.boot := State.setKey_boot _ _ _
@[simp] theorem State.bump_twin (s : State) (idx sub : Nat) : (s.bump idx sub).twin = s.twin := State.setKey_twin _ _ _
@[simp] theorem State.bump_faults (s : State) (idx sub : Nat) : (s.bump idx sub).faults = s.faults := State.setKey_faults _ _ _
@[simp] theorem State.bump_time (s : State) (idx sub : Nat) : (s.bump idx sub).time = s.time := State.setKey_time _ _ _
@[simp] theorem State.bump_plans (s : State) (idx sub : Nat) : (s.bump idx sub).plans = s.plans := State.setKey_plans _ _ _
@[simp] theorem State.bump_synth (s : State) (idx sub : Nat) : (s.bump idx sub).synth = s.synth := State.setKey_synth _ _ _
@[simp] theorem State.bump_refs (s : State) (idx sub : Nat) : (s.bump idx sub).refs = s.refs := State.setKey_refs _ _ _
@[simp] theorem State.bump_dev (s : State) (idx sub : Nat) : (s.bump idx sub).dev = s.dev := State.setKey_dev _ _ _
@[simp] theorem State.bump_ports (s : State) (idx sub : Nat) : (s.bump idx sub).ports = s.ports := State.setKey_ports _ _ _
@[simp] theorem State.bump_fabric (s : State) (idx sub : Nat) : (s.bump idx sub).fabric = s.fabric := State.setKey_fabric _ _ _
@[simp] theorem State.bump_gnss (s : State) (idx sub : Nat) : (s.bump idx sub).gnss = s.gnss := State.setKey_gnss _ _ _
@[simp] theorem State.bump_serve (s : State) (idx sub : Nat) : (s.bump idx sub).serve = s.serve := State.setKey_serve _ _ _
@[simp] theorem State.bump_keys (s : State) (idx sub : Nat) : (s.bump idx sub).keys = s.keys := State.setKey_keys _ _ _
@[simp] theorem State.bump_media (s : State) (idx sub : Nat) : (s.bump idx sub).media = s.media := State.setKey_media _ _ _
@[simp] theorem State.bump_free (s : State) (idx sub : Nat) : (s.bump idx sub).free = s.free := State.setKey_free _ _ _
theorem State.objKey_bump (s : State) (idx sub : Nat) (j : Nat) :
    (s.bump idx sub).objKey j = if j = okey 0 0 idx sub then ((((s.objKey (okey 0 0 idx sub)).toNat + 1) % 2 ^ 32 : Nat) : Int) else s.objKey j :=
  State.objKey_setKey _ _ _ _

@[simp] theorem State.bumpP_pending (s : State) (plate idx sub : Nat) : (s.bumpP plate idx sub).pending = s.pending := State.setKey_pending _ _ _
@[simp] theorem State.bumpP_clock (s : State) (plate idx sub : Nat) : (s.bumpP plate idx sub).clock = s.clock := State.setKey_clock _ _ _
@[simp] theorem State.bumpP_intake (s : State) (plate idx sub : Nat) : (s.bumpP plate idx sub).intake = s.intake := State.setKey_intake _ _ _
@[simp] theorem State.bumpP_mgmt (s : State) (plate idx sub : Nat) : (s.bumpP plate idx sub).mgmt = s.mgmt := State.setKey_mgmt _ _ _
@[simp] theorem State.bumpP_groups (s : State) (plate idx sub : Nat) : (s.bumpP plate idx sub).groups = s.groups := State.setKey_groups _ _ _
@[simp] theorem State.bumpP_darkroom (s : State) (plate idx sub : Nat) : (s.bumpP plate idx sub).darkroom = s.darkroom := State.setKey_darkroom _ _ _
@[simp] theorem State.bumpP_boot (s : State) (plate idx sub : Nat) : (s.bumpP plate idx sub).boot = s.boot := State.setKey_boot _ _ _
@[simp] theorem State.bumpP_twin (s : State) (plate idx sub : Nat) : (s.bumpP plate idx sub).twin = s.twin := State.setKey_twin _ _ _
@[simp] theorem State.bumpP_faults (s : State) (plate idx sub : Nat) : (s.bumpP plate idx sub).faults = s.faults := State.setKey_faults _ _ _
@[simp] theorem State.bumpP_time (s : State) (plate idx sub : Nat) : (s.bumpP plate idx sub).time = s.time := State.setKey_time _ _ _
@[simp] theorem State.bumpP_plans (s : State) (plate idx sub : Nat) : (s.bumpP plate idx sub).plans = s.plans := State.setKey_plans _ _ _
@[simp] theorem State.bumpP_synth (s : State) (plate idx sub : Nat) : (s.bumpP plate idx sub).synth = s.synth := State.setKey_synth _ _ _
@[simp] theorem State.bumpP_refs (s : State) (plate idx sub : Nat) : (s.bumpP plate idx sub).refs = s.refs := State.setKey_refs _ _ _
@[simp] theorem State.bumpP_dev (s : State) (plate idx sub : Nat) : (s.bumpP plate idx sub).dev = s.dev := State.setKey_dev _ _ _
@[simp] theorem State.bumpP_ports (s : State) (plate idx sub : Nat) : (s.bumpP plate idx sub).ports = s.ports := State.setKey_ports _ _ _
@[simp] theorem State.bumpP_fabric (s : State) (plate idx sub : Nat) : (s.bumpP plate idx sub).fabric = s.fabric := State.setKey_fabric _ _ _
@[simp] theorem State.bumpP_gnss (s : State) (plate idx sub : Nat) : (s.bumpP plate idx sub).gnss = s.gnss := State.setKey_gnss _ _ _
@[simp] theorem State.bumpP_serve (s : State) (plate idx sub : Nat) : (s.bumpP plate idx sub).serve = s.serve := State.setKey_serve _ _ _
@[simp] theorem State.bumpP_keys (s : State) (plate idx sub : Nat) : (s.bumpP plate idx sub).keys = s.keys := State.setKey_keys _ _ _
@[simp] theorem State.bumpP_media (s : State) (plate idx sub : Nat) : (s.bumpP plate idx sub).media = s.media := State.setKey_media _ _ _
@[simp] theorem State.bumpP_free (s : State) (plate idx sub : Nat) : (s.bumpP plate idx sub).free = s.free := State.setKey_free _ _ _
theorem State.objKey_bumpP (s : State) (plate idx sub : Nat) (j : Nat) :
    (s.bumpP plate idx sub).objKey j = if j = okey plate 0 idx sub then ((((s.objKey (okey plate 0 idx sub)).toNat + 1) % 2 ^ 32 : Nat) : Int) else s.objKey j :=
  State.objKey_setKey _ _ _ _

@[simp] theorem State.bumpW_pending (s : State) (item idx sub : Nat) : (s.bumpW item idx sub).pending = s.pending := State.setKey_pending _ _ _
@[simp] theorem State.bumpW_clock (s : State) (item idx sub : Nat) : (s.bumpW item idx sub).clock = s.clock := State.setKey_clock _ _ _
@[simp] theorem State.bumpW_intake (s : State) (item idx sub : Nat) : (s.bumpW item idx sub).intake = s.intake := State.setKey_intake _ _ _
@[simp] theorem State.bumpW_mgmt (s : State) (item idx sub : Nat) : (s.bumpW item idx sub).mgmt = s.mgmt := State.setKey_mgmt _ _ _
@[simp] theorem State.bumpW_groups (s : State) (item idx sub : Nat) : (s.bumpW item idx sub).groups = s.groups := State.setKey_groups _ _ _
@[simp] theorem State.bumpW_darkroom (s : State) (item idx sub : Nat) : (s.bumpW item idx sub).darkroom = s.darkroom := State.setKey_darkroom _ _ _
@[simp] theorem State.bumpW_boot (s : State) (item idx sub : Nat) : (s.bumpW item idx sub).boot = s.boot := State.setKey_boot _ _ _
@[simp] theorem State.bumpW_twin (s : State) (item idx sub : Nat) : (s.bumpW item idx sub).twin = s.twin := State.setKey_twin _ _ _
@[simp] theorem State.bumpW_faults (s : State) (item idx sub : Nat) : (s.bumpW item idx sub).faults = s.faults := State.setKey_faults _ _ _
@[simp] theorem State.bumpW_time (s : State) (item idx sub : Nat) : (s.bumpW item idx sub).time = s.time := State.setKey_time _ _ _
@[simp] theorem State.bumpW_plans (s : State) (item idx sub : Nat) : (s.bumpW item idx sub).plans = s.plans := State.setKey_plans _ _ _
@[simp] theorem State.bumpW_synth (s : State) (item idx sub : Nat) : (s.bumpW item idx sub).synth = s.synth := State.setKey_synth _ _ _
@[simp] theorem State.bumpW_refs (s : State) (item idx sub : Nat) : (s.bumpW item idx sub).refs = s.refs := State.setKey_refs _ _ _
@[simp] theorem State.bumpW_dev (s : State) (item idx sub : Nat) : (s.bumpW item idx sub).dev = s.dev := State.setKey_dev _ _ _
@[simp] theorem State.bumpW_ports (s : State) (item idx sub : Nat) : (s.bumpW item idx sub).ports = s.ports := State.setKey_ports _ _ _
@[simp] theorem State.bumpW_fabric (s : State) (item idx sub : Nat) : (s.bumpW item idx sub).fabric = s.fabric := State.setKey_fabric _ _ _
@[simp] theorem State.bumpW_gnss (s : State) (item idx sub : Nat) : (s.bumpW item idx sub).gnss = s.gnss := State.setKey_gnss _ _ _
@[simp] theorem State.bumpW_serve (s : State) (item idx sub : Nat) : (s.bumpW item idx sub).serve = s.serve := State.setKey_serve _ _ _
@[simp] theorem State.bumpW_keys (s : State) (item idx sub : Nat) : (s.bumpW item idx sub).keys = s.keys := State.setKey_keys _ _ _
@[simp] theorem State.bumpW_media (s : State) (item idx sub : Nat) : (s.bumpW item idx sub).media = s.media := State.setKey_media _ _ _
@[simp] theorem State.bumpW_free (s : State) (item idx sub : Nat) : (s.bumpW item idx sub).free = s.free := State.setKey_free _ _ _
theorem State.objKey_bumpW (s : State) (item idx sub : Nat) (j : Nat) :
    (s.bumpW item idx sub).objKey j = if j = okey 0 item idx sub then ((((s.objKey (okey 0 item idx sub)).toNat + 1) % 2 ^ 32 : Nat) : Int) else s.objKey j :=
  State.objKey_setKey _ _ _ _


/-- A counter reads one more, wrapped. -/
@[simp] theorem State.obj_bump_self (s : State) (idx sub : Nat) : (s.bump idx sub).obj idx sub = (s.obj idx sub + 1) % 2 ^ 32 := by
  simp only [State.obj, State.objI, State.objKey_bump, if_true, Int.toNat_natCast]

@[simp] theorem State.objI_setObj_self (s : State) (idx sub : Nat) (v : Int) : (s.setObj idx sub v).objI idx sub = v := by
  simp [State.objI, State.objKey_setObj]

@[simp] theorem State.obj_setObj_self (s : State) (idx sub : Nat) (v : Int) : (s.setObj idx sub v).obj idx sub = v.toNat := by
  simp [State.obj]

/-- An object read by its key: what a change of other keys leaves. -/
theorem State.obj_congr {s t : State} {idx sub : Nat} (h : t.objKey (okey 0 0 idx sub) = s.objKey (okey 0 0 idx sub)) :
    t.obj idx sub = s.obj idx sub := by
  simp only [State.obj, State.objI, h]

/-! ### Banks -/

@[simp] theorem State.setBase_pending (s : State) (n : Nat) (x : TimeBase) : (s.setBase n x).pending = s.pending := rfl
@[simp] theorem State.setBase_objs (s : State) (n : Nat) (x : TimeBase) : (s.setBase n x).objs = s.objs := rfl
@[simp] theorem State.setBase_clock (s : State) (n : Nat) (x : TimeBase) : (s.setBase n x).clock = s.clock := rfl
@[simp] theorem State.setBase_intake (s : State) (n : Nat) (x : TimeBase) : (s.setBase n x).intake = s.intake := rfl
@[simp] theorem State.setBase_mgmt (s : State) (n : Nat) (x : TimeBase) : (s.setBase n x).mgmt = s.mgmt := rfl
@[simp] theorem State.setBase_groups (s : State) (n : Nat) (x : TimeBase) : (s.setBase n x).groups = s.groups := rfl
@[simp] theorem State.setBase_darkroom (s : State) (n : Nat) (x : TimeBase) : (s.setBase n x).darkroom = s.darkroom := rfl
@[simp] theorem State.setBase_boot (s : State) (n : Nat) (x : TimeBase) : (s.setBase n x).boot = s.boot := rfl
@[simp] theorem State.setBase_twin (s : State) (n : Nat) (x : TimeBase) : (s.setBase n x).twin = s.twin := rfl
@[simp] theorem State.setBase_faults (s : State) (n : Nat) (x : TimeBase) : (s.setBase n x).faults = s.faults := rfl
@[simp] theorem State.setBase_plans (s : State) (n : Nat) (x : TimeBase) : (s.setBase n x).plans = s.plans := rfl
@[simp] theorem State.setBase_synth (s : State) (n : Nat) (x : TimeBase) : (s.setBase n x).synth = s.synth := rfl
@[simp] theorem State.setBase_refs (s : State) (n : Nat) (x : TimeBase) : (s.setBase n x).refs = s.refs := rfl
@[simp] theorem State.setBase_dev (s : State) (n : Nat) (x : TimeBase) : (s.setBase n x).dev = s.dev := rfl
@[simp] theorem State.setBase_ports (s : State) (n : Nat) (x : TimeBase) : (s.setBase n x).ports = s.ports := rfl
@[simp] theorem State.setBase_fabric (s : State) (n : Nat) (x : TimeBase) : (s.setBase n x).fabric = s.fabric := rfl
@[simp] theorem State.setBase_gnss (s : State) (n : Nat) (x : TimeBase) : (s.setBase n x).gnss = s.gnss := rfl
@[simp] theorem State.setBase_serve (s : State) (n : Nat) (x : TimeBase) : (s.setBase n x).serve = s.serve := rfl
@[simp] theorem State.setBase_keys (s : State) (n : Nat) (x : TimeBase) : (s.setBase n x).keys = s.keys := rfl
@[simp] theorem State.setBase_media (s : State) (n : Nat) (x : TimeBase) : (s.setBase n x).media = s.media := rfl
@[simp] theorem State.setBase_free (s : State) (n : Nat) (x : TimeBase) : (s.setBase n x).free = s.free := rfl
theorem State.base_setBase (s : State) (n m : Nat) (x : TimeBase) : (s.setBase n x).base m = if m = n then x else s.base m :=
  Table.look_put _ _ _ _ _
@[simp] theorem State.base_setBase_self (s : State) (n : Nat) (x : TimeBase) : (s.setBase n x).base n = x :=
  Table.look_put_self _ _ _ _
@[simp] theorem State.objKey_setBase (s : State) (n : Nat) (x : TimeBase) (k : Nat) : (s.setBase n x).objKey k = s.objKey k := rfl
@[simp] theorem State.obj_setBase (s : State) (n : Nat) (x : TimeBase) (i j : Nat) : (s.setBase n x).obj i j = s.obj i j := rfl
@[simp] theorem State.objI_setBase (s : State) (n : Nat) (x : TimeBase) (i j : Nat) : (s.setBase n x).objI i j = s.objI i j := rfl

@[simp] theorem State.setComp_pending (s : State) (n : Nat) (x : Compare) : (s.setComp n x).pending = s.pending := rfl
@[simp] theorem State.setComp_objs (s : State) (n : Nat) (x : Compare) : (s.setComp n x).objs = s.objs := rfl
@[simp] theorem State.setComp_clock (s : State) (n : Nat) (x : Compare) : (s.setComp n x).clock = s.clock := rfl
@[simp] theorem State.setComp_intake (s : State) (n : Nat) (x : Compare) : (s.setComp n x).intake = s.intake := rfl
@[simp] theorem State.setComp_mgmt (s : State) (n : Nat) (x : Compare) : (s.setComp n x).mgmt = s.mgmt := rfl
@[simp] theorem State.setComp_groups (s : State) (n : Nat) (x : Compare) : (s.setComp n x).groups = s.groups := rfl
@[simp] theorem State.setComp_darkroom (s : State) (n : Nat) (x : Compare) : (s.setComp n x).darkroom = s.darkroom := rfl
@[simp] theorem State.setComp_boot (s : State) (n : Nat) (x : Compare) : (s.setComp n x).boot = s.boot := rfl
@[simp] theorem State.setComp_twin (s : State) (n : Nat) (x : Compare) : (s.setComp n x).twin = s.twin := rfl
@[simp] theorem State.setComp_faults (s : State) (n : Nat) (x : Compare) : (s.setComp n x).faults = s.faults := rfl
@[simp] theorem State.setComp_plans (s : State) (n : Nat) (x : Compare) : (s.setComp n x).plans = s.plans := rfl
@[simp] theorem State.setComp_synth (s : State) (n : Nat) (x : Compare) : (s.setComp n x).synth = s.synth := rfl
@[simp] theorem State.setComp_refs (s : State) (n : Nat) (x : Compare) : (s.setComp n x).refs = s.refs := rfl
@[simp] theorem State.setComp_dev (s : State) (n : Nat) (x : Compare) : (s.setComp n x).dev = s.dev := rfl
@[simp] theorem State.setComp_ports (s : State) (n : Nat) (x : Compare) : (s.setComp n x).ports = s.ports := rfl
@[simp] theorem State.setComp_fabric (s : State) (n : Nat) (x : Compare) : (s.setComp n x).fabric = s.fabric := rfl
@[simp] theorem State.setComp_gnss (s : State) (n : Nat) (x : Compare) : (s.setComp n x).gnss = s.gnss := rfl
@[simp] theorem State.setComp_serve (s : State) (n : Nat) (x : Compare) : (s.setComp n x).serve = s.serve := rfl
@[simp] theorem State.setComp_keys (s : State) (n : Nat) (x : Compare) : (s.setComp n x).keys = s.keys := rfl
@[simp] theorem State.setComp_media (s : State) (n : Nat) (x : Compare) : (s.setComp n x).media = s.media := rfl
@[simp] theorem State.setComp_free (s : State) (n : Nat) (x : Compare) : (s.setComp n x).free = s.free := rfl
theorem State.comp_setComp (s : State) (n m : Nat) (x : Compare) : (s.setComp n x).comp m = if m = n then x else s.comp m :=
  Table.look_put _ _ _ _ _
@[simp] theorem State.comp_setComp_self (s : State) (n : Nat) (x : Compare) : (s.setComp n x).comp n = x :=
  Table.look_put_self _ _ _ _
@[simp] theorem State.objKey_setComp (s : State) (n : Nat) (x : Compare) (k : Nat) : (s.setComp n x).objKey k = s.objKey k := rfl
@[simp] theorem State.obj_setComp (s : State) (n : Nat) (x : Compare) (i j : Nat) : (s.setComp n x).obj i j = s.obj i j := rfl
@[simp] theorem State.objI_setComp (s : State) (n : Nat) (x : Compare) (i j : Nat) : (s.setComp n x).objI i j = s.objI i j := rfl

@[simp] theorem State.setInput_pending (s : State) (n : Nat) (x : EventInput) : (s.setInput n x).pending = s.pending := rfl
@[simp] theorem State.setInput_objs (s : State) (n : Nat) (x : EventInput) : (s.setInput n x).objs = s.objs := rfl
@[simp] theorem State.setInput_clock (s : State) (n : Nat) (x : EventInput) : (s.setInput n x).clock = s.clock := rfl
@[simp] theorem State.setInput_intake (s : State) (n : Nat) (x : EventInput) : (s.setInput n x).intake = s.intake := rfl
@[simp] theorem State.setInput_mgmt (s : State) (n : Nat) (x : EventInput) : (s.setInput n x).mgmt = s.mgmt := rfl
@[simp] theorem State.setInput_groups (s : State) (n : Nat) (x : EventInput) : (s.setInput n x).groups = s.groups := rfl
@[simp] theorem State.setInput_darkroom (s : State) (n : Nat) (x : EventInput) : (s.setInput n x).darkroom = s.darkroom := rfl
@[simp] theorem State.setInput_boot (s : State) (n : Nat) (x : EventInput) : (s.setInput n x).boot = s.boot := rfl
@[simp] theorem State.setInput_twin (s : State) (n : Nat) (x : EventInput) : (s.setInput n x).twin = s.twin := rfl
@[simp] theorem State.setInput_faults (s : State) (n : Nat) (x : EventInput) : (s.setInput n x).faults = s.faults := rfl
@[simp] theorem State.setInput_plans (s : State) (n : Nat) (x : EventInput) : (s.setInput n x).plans = s.plans := rfl
@[simp] theorem State.setInput_synth (s : State) (n : Nat) (x : EventInput) : (s.setInput n x).synth = s.synth := rfl
@[simp] theorem State.setInput_refs (s : State) (n : Nat) (x : EventInput) : (s.setInput n x).refs = s.refs := rfl
@[simp] theorem State.setInput_dev (s : State) (n : Nat) (x : EventInput) : (s.setInput n x).dev = s.dev := rfl
@[simp] theorem State.setInput_ports (s : State) (n : Nat) (x : EventInput) : (s.setInput n x).ports = s.ports := rfl
@[simp] theorem State.setInput_fabric (s : State) (n : Nat) (x : EventInput) : (s.setInput n x).fabric = s.fabric := rfl
@[simp] theorem State.setInput_gnss (s : State) (n : Nat) (x : EventInput) : (s.setInput n x).gnss = s.gnss := rfl
@[simp] theorem State.setInput_serve (s : State) (n : Nat) (x : EventInput) : (s.setInput n x).serve = s.serve := rfl
@[simp] theorem State.setInput_keys (s : State) (n : Nat) (x : EventInput) : (s.setInput n x).keys = s.keys := rfl
@[simp] theorem State.setInput_media (s : State) (n : Nat) (x : EventInput) : (s.setInput n x).media = s.media := rfl
@[simp] theorem State.setInput_free (s : State) (n : Nat) (x : EventInput) : (s.setInput n x).free = s.free := rfl
theorem State.input_setInput (s : State) (n m : Nat) (x : EventInput) : (s.setInput n x).input m = if m = n then x else s.input m :=
  Table.look_put _ _ _ _ _
@[simp] theorem State.input_setInput_self (s : State) (n : Nat) (x : EventInput) : (s.setInput n x).input n = x :=
  Table.look_put_self _ _ _ _
@[simp] theorem State.objKey_setInput (s : State) (n : Nat) (x : EventInput) (k : Nat) : (s.setInput n x).objKey k = s.objKey k := rfl
@[simp] theorem State.obj_setInput (s : State) (n : Nat) (x : EventInput) (i j : Nat) : (s.setInput n x).obj i j = s.obj i j := rfl
@[simp] theorem State.objI_setInput (s : State) (n : Nat) (x : EventInput) (i j : Nat) : (s.setInput n x).objI i j = s.objI i j := rfl

@[simp] theorem State.setInterval_pending (s : State) (n : Nat) (x : Interval) : (s.setInterval n x).pending = s.pending := rfl
@[simp] theorem State.setInterval_objs (s : State) (n : Nat) (x : Interval) : (s.setInterval n x).objs = s.objs := rfl
@[simp] theorem State.setInterval_clock (s : State) (n : Nat) (x : Interval) : (s.setInterval n x).clock = s.clock := rfl
@[simp] theorem State.setInterval_intake (s : State) (n : Nat) (x : Interval) : (s.setInterval n x).intake = s.intake := rfl
@[simp] theorem State.setInterval_mgmt (s : State) (n : Nat) (x : Interval) : (s.setInterval n x).mgmt = s.mgmt := rfl
@[simp] theorem State.setInterval_groups (s : State) (n : Nat) (x : Interval) : (s.setInterval n x).groups = s.groups := rfl
@[simp] theorem State.setInterval_darkroom (s : State) (n : Nat) (x : Interval) : (s.setInterval n x).darkroom = s.darkroom := rfl
@[simp] theorem State.setInterval_boot (s : State) (n : Nat) (x : Interval) : (s.setInterval n x).boot = s.boot := rfl
@[simp] theorem State.setInterval_twin (s : State) (n : Nat) (x : Interval) : (s.setInterval n x).twin = s.twin := rfl
@[simp] theorem State.setInterval_faults (s : State) (n : Nat) (x : Interval) : (s.setInterval n x).faults = s.faults := rfl
@[simp] theorem State.setInterval_plans (s : State) (n : Nat) (x : Interval) : (s.setInterval n x).plans = s.plans := rfl
@[simp] theorem State.setInterval_synth (s : State) (n : Nat) (x : Interval) : (s.setInterval n x).synth = s.synth := rfl
@[simp] theorem State.setInterval_refs (s : State) (n : Nat) (x : Interval) : (s.setInterval n x).refs = s.refs := rfl
@[simp] theorem State.setInterval_dev (s : State) (n : Nat) (x : Interval) : (s.setInterval n x).dev = s.dev := rfl
@[simp] theorem State.setInterval_ports (s : State) (n : Nat) (x : Interval) : (s.setInterval n x).ports = s.ports := rfl
@[simp] theorem State.setInterval_fabric (s : State) (n : Nat) (x : Interval) : (s.setInterval n x).fabric = s.fabric := rfl
@[simp] theorem State.setInterval_gnss (s : State) (n : Nat) (x : Interval) : (s.setInterval n x).gnss = s.gnss := rfl
@[simp] theorem State.setInterval_serve (s : State) (n : Nat) (x : Interval) : (s.setInterval n x).serve = s.serve := rfl
@[simp] theorem State.setInterval_keys (s : State) (n : Nat) (x : Interval) : (s.setInterval n x).keys = s.keys := rfl
@[simp] theorem State.setInterval_media (s : State) (n : Nat) (x : Interval) : (s.setInterval n x).media = s.media := rfl
@[simp] theorem State.setInterval_free (s : State) (n : Nat) (x : Interval) : (s.setInterval n x).free = s.free := rfl
theorem State.interval_setInterval (s : State) (n m : Nat) (x : Interval) : (s.setInterval n x).interval m = if m = n then x else s.interval m :=
  Table.look_put _ _ _ _ _
@[simp] theorem State.interval_setInterval_self (s : State) (n : Nat) (x : Interval) : (s.setInterval n x).interval n = x :=
  Table.look_put_self _ _ _ _
@[simp] theorem State.objKey_setInterval (s : State) (n : Nat) (x : Interval) (k : Nat) : (s.setInterval n x).objKey k = s.objKey k := rfl
@[simp] theorem State.obj_setInterval (s : State) (n : Nat) (x : Interval) (i j : Nat) : (s.setInterval n x).obj i j = s.obj i j := rfl
@[simp] theorem State.objI_setInterval (s : State) (n : Nat) (x : Interval) (i j : Nat) : (s.setInterval n x).objI i j = s.objI i j := rfl

@[simp] theorem State.setPlate_pending (s : State) (n : Nat) (x : Plate) : (s.setPlate n x).pending = s.pending := rfl
@[simp] theorem State.setPlate_objs (s : State) (n : Nat) (x : Plate) : (s.setPlate n x).objs = s.objs := rfl
@[simp] theorem State.setPlate_clock (s : State) (n : Nat) (x : Plate) : (s.setPlate n x).clock = s.clock := rfl
@[simp] theorem State.setPlate_intake (s : State) (n : Nat) (x : Plate) : (s.setPlate n x).intake = s.intake := rfl
@[simp] theorem State.setPlate_mgmt (s : State) (n : Nat) (x : Plate) : (s.setPlate n x).mgmt = s.mgmt := rfl
@[simp] theorem State.setPlate_groups (s : State) (n : Nat) (x : Plate) : (s.setPlate n x).groups = s.groups := rfl
@[simp] theorem State.setPlate_darkroom (s : State) (n : Nat) (x : Plate) : (s.setPlate n x).darkroom = s.darkroom := rfl
@[simp] theorem State.setPlate_boot (s : State) (n : Nat) (x : Plate) : (s.setPlate n x).boot = s.boot := rfl
@[simp] theorem State.setPlate_faults (s : State) (n : Nat) (x : Plate) : (s.setPlate n x).faults = s.faults := rfl
@[simp] theorem State.setPlate_time (s : State) (n : Nat) (x : Plate) : (s.setPlate n x).time = s.time := rfl
@[simp] theorem State.setPlate_plans (s : State) (n : Nat) (x : Plate) : (s.setPlate n x).plans = s.plans := rfl
@[simp] theorem State.setPlate_synth (s : State) (n : Nat) (x : Plate) : (s.setPlate n x).synth = s.synth := rfl
@[simp] theorem State.setPlate_refs (s : State) (n : Nat) (x : Plate) : (s.setPlate n x).refs = s.refs := rfl
@[simp] theorem State.setPlate_dev (s : State) (n : Nat) (x : Plate) : (s.setPlate n x).dev = s.dev := rfl
@[simp] theorem State.setPlate_ports (s : State) (n : Nat) (x : Plate) : (s.setPlate n x).ports = s.ports := rfl
@[simp] theorem State.setPlate_fabric (s : State) (n : Nat) (x : Plate) : (s.setPlate n x).fabric = s.fabric := rfl
@[simp] theorem State.setPlate_gnss (s : State) (n : Nat) (x : Plate) : (s.setPlate n x).gnss = s.gnss := rfl
@[simp] theorem State.setPlate_serve (s : State) (n : Nat) (x : Plate) : (s.setPlate n x).serve = s.serve := rfl
@[simp] theorem State.setPlate_keys (s : State) (n : Nat) (x : Plate) : (s.setPlate n x).keys = s.keys := rfl
@[simp] theorem State.setPlate_media (s : State) (n : Nat) (x : Plate) : (s.setPlate n x).media = s.media := rfl
@[simp] theorem State.setPlate_free (s : State) (n : Nat) (x : Plate) : (s.setPlate n x).free = s.free := rfl
theorem State.plate_setPlate (s : State) (n m : Nat) (x : Plate) : (s.setPlate n x).plate m = if m = n then x else s.plate m :=
  Table.look_put _ _ _ _ _
@[simp] theorem State.plate_setPlate_self (s : State) (n : Nat) (x : Plate) : (s.setPlate n x).plate n = x :=
  Table.look_put_self _ _ _ _
@[simp] theorem State.objKey_setPlate (s : State) (n : Nat) (x : Plate) (k : Nat) : (s.setPlate n x).objKey k = s.objKey k := rfl
@[simp] theorem State.obj_setPlate (s : State) (n : Nat) (x : Plate) (i j : Nat) : (s.setPlate n x).obj i j = s.obj i j := rfl
@[simp] theorem State.objI_setPlate (s : State) (n : Nat) (x : Plate) (i j : Nat) : (s.setPlate n x).objI i j = s.objI i j := rfl

@[simp] theorem State.setLoupe_pending (s : State) (n : Nat) (x : Loupe) : (s.setLoupe n x).pending = s.pending := rfl
@[simp] theorem State.setLoupe_objs (s : State) (n : Nat) (x : Loupe) : (s.setLoupe n x).objs = s.objs := rfl
@[simp] theorem State.setLoupe_clock (s : State) (n : Nat) (x : Loupe) : (s.setLoupe n x).clock = s.clock := rfl
@[simp] theorem State.setLoupe_intake (s : State) (n : Nat) (x : Loupe) : (s.setLoupe n x).intake = s.intake := rfl
@[simp] theorem State.setLoupe_mgmt (s : State) (n : Nat) (x : Loupe) : (s.setLoupe n x).mgmt = s.mgmt := rfl
@[simp] theorem State.setLoupe_groups (s : State) (n : Nat) (x : Loupe) : (s.setLoupe n x).groups = s.groups := rfl
@[simp] theorem State.setLoupe_darkroom (s : State) (n : Nat) (x : Loupe) : (s.setLoupe n x).darkroom = s.darkroom := rfl
@[simp] theorem State.setLoupe_boot (s : State) (n : Nat) (x : Loupe) : (s.setLoupe n x).boot = s.boot := rfl
@[simp] theorem State.setLoupe_twin (s : State) (n : Nat) (x : Loupe) : (s.setLoupe n x).twin = s.twin := rfl
@[simp] theorem State.setLoupe_faults (s : State) (n : Nat) (x : Loupe) : (s.setLoupe n x).faults = s.faults := rfl
@[simp] theorem State.setLoupe_time (s : State) (n : Nat) (x : Loupe) : (s.setLoupe n x).time = s.time := rfl
@[simp] theorem State.setLoupe_plans (s : State) (n : Nat) (x : Loupe) : (s.setLoupe n x).plans = s.plans := rfl
@[simp] theorem State.setLoupe_synth (s : State) (n : Nat) (x : Loupe) : (s.setLoupe n x).synth = s.synth := rfl
@[simp] theorem State.setLoupe_dev (s : State) (n : Nat) (x : Loupe) : (s.setLoupe n x).dev = s.dev := rfl
@[simp] theorem State.setLoupe_ports (s : State) (n : Nat) (x : Loupe) : (s.setLoupe n x).ports = s.ports := rfl
@[simp] theorem State.setLoupe_fabric (s : State) (n : Nat) (x : Loupe) : (s.setLoupe n x).fabric = s.fabric := rfl
@[simp] theorem State.setLoupe_gnss (s : State) (n : Nat) (x : Loupe) : (s.setLoupe n x).gnss = s.gnss := rfl
@[simp] theorem State.setLoupe_serve (s : State) (n : Nat) (x : Loupe) : (s.setLoupe n x).serve = s.serve := rfl
@[simp] theorem State.setLoupe_keys (s : State) (n : Nat) (x : Loupe) : (s.setLoupe n x).keys = s.keys := rfl
@[simp] theorem State.setLoupe_media (s : State) (n : Nat) (x : Loupe) : (s.setLoupe n x).media = s.media := rfl
@[simp] theorem State.setLoupe_free (s : State) (n : Nat) (x : Loupe) : (s.setLoupe n x).free = s.free := rfl
theorem State.loupe_setLoupe (s : State) (n m : Nat) (x : Loupe) : (s.setLoupe n x).loupe m = if m = n then x else s.loupe m :=
  Table.look_put _ _ _ _ _
@[simp] theorem State.loupe_setLoupe_self (s : State) (n : Nat) (x : Loupe) : (s.setLoupe n x).loupe n = x :=
  Table.look_put_self _ _ _ _
@[simp] theorem State.objKey_setLoupe (s : State) (n : Nat) (x : Loupe) (k : Nat) : (s.setLoupe n x).objKey k = s.objKey k := rfl
@[simp] theorem State.obj_setLoupe (s : State) (n : Nat) (x : Loupe) (i j : Nat) : (s.setLoupe n x).obj i j = s.obj i j := rfl
@[simp] theorem State.objI_setLoupe (s : State) (n : Nat) (x : Loupe) (i j : Nat) : (s.setLoupe n x).objI i j = s.objI i j := rfl

@[simp] theorem State.setUpstream_pending (s : State) (n : Nat) (x : Upstream) : (s.setUpstream n x).pending = s.pending := rfl
@[simp] theorem State.setUpstream_objs (s : State) (n : Nat) (x : Upstream) : (s.setUpstream n x).objs = s.objs := rfl
@[simp] theorem State.setUpstream_clock (s : State) (n : Nat) (x : Upstream) : (s.setUpstream n x).clock = s.clock := rfl
@[simp] theorem State.setUpstream_intake (s : State) (n : Nat) (x : Upstream) : (s.setUpstream n x).intake = s.intake := rfl
@[simp] theorem State.setUpstream_mgmt (s : State) (n : Nat) (x : Upstream) : (s.setUpstream n x).mgmt = s.mgmt := rfl
@[simp] theorem State.setUpstream_groups (s : State) (n : Nat) (x : Upstream) : (s.setUpstream n x).groups = s.groups := rfl
@[simp] theorem State.setUpstream_darkroom (s : State) (n : Nat) (x : Upstream) : (s.setUpstream n x).darkroom = s.darkroom := rfl
@[simp] theorem State.setUpstream_boot (s : State) (n : Nat) (x : Upstream) : (s.setUpstream n x).boot = s.boot := rfl
@[simp] theorem State.setUpstream_twin (s : State) (n : Nat) (x : Upstream) : (s.setUpstream n x).twin = s.twin := rfl
@[simp] theorem State.setUpstream_faults (s : State) (n : Nat) (x : Upstream) : (s.setUpstream n x).faults = s.faults := rfl
@[simp] theorem State.setUpstream_time (s : State) (n : Nat) (x : Upstream) : (s.setUpstream n x).time = s.time := rfl
@[simp] theorem State.setUpstream_plans (s : State) (n : Nat) (x : Upstream) : (s.setUpstream n x).plans = s.plans := rfl
@[simp] theorem State.setUpstream_synth (s : State) (n : Nat) (x : Upstream) : (s.setUpstream n x).synth = s.synth := rfl
@[simp] theorem State.setUpstream_dev (s : State) (n : Nat) (x : Upstream) : (s.setUpstream n x).dev = s.dev := rfl
@[simp] theorem State.setUpstream_ports (s : State) (n : Nat) (x : Upstream) : (s.setUpstream n x).ports = s.ports := rfl
@[simp] theorem State.setUpstream_fabric (s : State) (n : Nat) (x : Upstream) : (s.setUpstream n x).fabric = s.fabric := rfl
@[simp] theorem State.setUpstream_gnss (s : State) (n : Nat) (x : Upstream) : (s.setUpstream n x).gnss = s.gnss := rfl
@[simp] theorem State.setUpstream_serve (s : State) (n : Nat) (x : Upstream) : (s.setUpstream n x).serve = s.serve := rfl
@[simp] theorem State.setUpstream_keys (s : State) (n : Nat) (x : Upstream) : (s.setUpstream n x).keys = s.keys := rfl
@[simp] theorem State.setUpstream_media (s : State) (n : Nat) (x : Upstream) : (s.setUpstream n x).media = s.media := rfl
@[simp] theorem State.setUpstream_free (s : State) (n : Nat) (x : Upstream) : (s.setUpstream n x).free = s.free := rfl
theorem State.upstreamInst_setUpstream (s : State) (n m : Nat) (x : Upstream) : (s.setUpstream n x).upstreamInst m = if m = n then x else s.upstreamInst m :=
  Table.look_put _ _ _ _ _
@[simp] theorem State.upstreamInst_setUpstream_self (s : State) (n : Nat) (x : Upstream) : (s.setUpstream n x).upstreamInst n = x :=
  Table.look_put_self _ _ _ _
@[simp] theorem State.objKey_setUpstream (s : State) (n : Nat) (x : Upstream) (k : Nat) : (s.setUpstream n x).objKey k = s.objKey k := rfl
@[simp] theorem State.obj_setUpstream (s : State) (n : Nat) (x : Upstream) (i j : Nat) : (s.setUpstream n x).obj i j = s.obj i j := rfl
@[simp] theorem State.objI_setUpstream (s : State) (n : Nat) (x : Upstream) (i j : Nat) : (s.setUpstream n x).objI i j = s.objI i j := rfl

@[simp] theorem State.setSteer_pending (s : State) (n : Nat) (x : Steer) : (s.setSteer n x).pending = s.pending := rfl
@[simp] theorem State.setSteer_objs (s : State) (n : Nat) (x : Steer) : (s.setSteer n x).objs = s.objs := rfl
@[simp] theorem State.setSteer_clock (s : State) (n : Nat) (x : Steer) : (s.setSteer n x).clock = s.clock := rfl
@[simp] theorem State.setSteer_intake (s : State) (n : Nat) (x : Steer) : (s.setSteer n x).intake = s.intake := rfl
@[simp] theorem State.setSteer_mgmt (s : State) (n : Nat) (x : Steer) : (s.setSteer n x).mgmt = s.mgmt := rfl
@[simp] theorem State.setSteer_groups (s : State) (n : Nat) (x : Steer) : (s.setSteer n x).groups = s.groups := rfl
@[simp] theorem State.setSteer_darkroom (s : State) (n : Nat) (x : Steer) : (s.setSteer n x).darkroom = s.darkroom := rfl
@[simp] theorem State.setSteer_boot (s : State) (n : Nat) (x : Steer) : (s.setSteer n x).boot = s.boot := rfl
@[simp] theorem State.setSteer_twin (s : State) (n : Nat) (x : Steer) : (s.setSteer n x).twin = s.twin := rfl
@[simp] theorem State.setSteer_faults (s : State) (n : Nat) (x : Steer) : (s.setSteer n x).faults = s.faults := rfl
@[simp] theorem State.setSteer_time (s : State) (n : Nat) (x : Steer) : (s.setSteer n x).time = s.time := rfl
@[simp] theorem State.setSteer_plans (s : State) (n : Nat) (x : Steer) : (s.setSteer n x).plans = s.plans := rfl
@[simp] theorem State.setSteer_synth (s : State) (n : Nat) (x : Steer) : (s.setSteer n x).synth = s.synth := rfl
@[simp] theorem State.setSteer_refs (s : State) (n : Nat) (x : Steer) : (s.setSteer n x).refs = s.refs := rfl
@[simp] theorem State.setSteer_ports (s : State) (n : Nat) (x : Steer) : (s.setSteer n x).ports = s.ports := rfl
@[simp] theorem State.setSteer_fabric (s : State) (n : Nat) (x : Steer) : (s.setSteer n x).fabric = s.fabric := rfl
@[simp] theorem State.setSteer_gnss (s : State) (n : Nat) (x : Steer) : (s.setSteer n x).gnss = s.gnss := rfl
@[simp] theorem State.setSteer_serve (s : State) (n : Nat) (x : Steer) : (s.setSteer n x).serve = s.serve := rfl
@[simp] theorem State.setSteer_keys (s : State) (n : Nat) (x : Steer) : (s.setSteer n x).keys = s.keys := rfl
@[simp] theorem State.setSteer_media (s : State) (n : Nat) (x : Steer) : (s.setSteer n x).media = s.media := rfl
@[simp] theorem State.setSteer_free (s : State) (n : Nat) (x : Steer) : (s.setSteer n x).free = s.free := rfl
theorem State.steer_setSteer (s : State) (n m : Nat) (x : Steer) : (s.setSteer n x).steer m = if m = n then x else s.steer m :=
  Table.look_put _ _ _ _ _
@[simp] theorem State.steer_setSteer_self (s : State) (n : Nat) (x : Steer) : (s.setSteer n x).steer n = x :=
  Table.look_put_self _ _ _ _
@[simp] theorem State.objKey_setSteer (s : State) (n : Nat) (x : Steer) (k : Nat) : (s.setSteer n x).objKey k = s.objKey k := rfl
@[simp] theorem State.obj_setSteer (s : State) (n : Nat) (x : Steer) (i j : Nat) : (s.setSteer n x).obj i j = s.obj i j := rfl
@[simp] theorem State.objI_setSteer (s : State) (n : Nat) (x : Steer) (i j : Nat) : (s.setSteer n x).objI i j = s.objI i j := rfl

@[simp] theorem State.setPort_pending (s : State) (n : Nat) (x : Port) : (s.setPort n x).pending = s.pending := rfl
@[simp] theorem State.setPort_objs (s : State) (n : Nat) (x : Port) : (s.setPort n x).objs = s.objs := rfl
@[simp] theorem State.setPort_clock (s : State) (n : Nat) (x : Port) : (s.setPort n x).clock = s.clock := rfl
@[simp] theorem State.setPort_intake (s : State) (n : Nat) (x : Port) : (s.setPort n x).intake = s.intake := rfl
@[simp] theorem State.setPort_mgmt (s : State) (n : Nat) (x : Port) : (s.setPort n x).mgmt = s.mgmt := rfl
@[simp] theorem State.setPort_groups (s : State) (n : Nat) (x : Port) : (s.setPort n x).groups = s.groups := rfl
@[simp] theorem State.setPort_darkroom (s : State) (n : Nat) (x : Port) : (s.setPort n x).darkroom = s.darkroom := rfl
@[simp] theorem State.setPort_boot (s : State) (n : Nat) (x : Port) : (s.setPort n x).boot = s.boot := rfl
@[simp] theorem State.setPort_twin (s : State) (n : Nat) (x : Port) : (s.setPort n x).twin = s.twin := rfl
@[simp] theorem State.setPort_faults (s : State) (n : Nat) (x : Port) : (s.setPort n x).faults = s.faults := rfl
@[simp] theorem State.setPort_time (s : State) (n : Nat) (x : Port) : (s.setPort n x).time = s.time := rfl
@[simp] theorem State.setPort_plans (s : State) (n : Nat) (x : Port) : (s.setPort n x).plans = s.plans := rfl
@[simp] theorem State.setPort_synth (s : State) (n : Nat) (x : Port) : (s.setPort n x).synth = s.synth := rfl
@[simp] theorem State.setPort_refs (s : State) (n : Nat) (x : Port) : (s.setPort n x).refs = s.refs := rfl
@[simp] theorem State.setPort_dev (s : State) (n : Nat) (x : Port) : (s.setPort n x).dev = s.dev := rfl
@[simp] theorem State.setPort_fabric (s : State) (n : Nat) (x : Port) : (s.setPort n x).fabric = s.fabric := rfl
@[simp] theorem State.setPort_gnss (s : State) (n : Nat) (x : Port) : (s.setPort n x).gnss = s.gnss := rfl
@[simp] theorem State.setPort_serve (s : State) (n : Nat) (x : Port) : (s.setPort n x).serve = s.serve := rfl
@[simp] theorem State.setPort_keys (s : State) (n : Nat) (x : Port) : (s.setPort n x).keys = s.keys := rfl
@[simp] theorem State.setPort_media (s : State) (n : Nat) (x : Port) : (s.setPort n x).media = s.media := rfl
@[simp] theorem State.setPort_free (s : State) (n : Nat) (x : Port) : (s.setPort n x).free = s.free := rfl
theorem State.port_setPort (s : State) (n m : Nat) (x : Port) : (s.setPort n x).port m = if m = n then x else s.port m :=
  Table.look_put _ _ _ _ _
@[simp] theorem State.port_setPort_self (s : State) (n : Nat) (x : Port) : (s.setPort n x).port n = x :=
  Table.look_put_self _ _ _ _
@[simp] theorem State.objKey_setPort (s : State) (n : Nat) (x : Port) (k : Nat) : (s.setPort n x).objKey k = s.objKey k := rfl
@[simp] theorem State.obj_setPort (s : State) (n : Nat) (x : Port) (i j : Nat) : (s.setPort n x).obj i j = s.obj i j := rfl
@[simp] theorem State.objI_setPort (s : State) (n : Nat) (x : Port) (i j : Nat) : (s.setPort n x).objI i j = s.objI i j := rfl

@[simp] theorem State.setAddressSource_pending (s : State) (n : Nat) (x : Source) : (s.setAddressSource n x).pending = s.pending := rfl
@[simp] theorem State.setAddressSource_objs (s : State) (n : Nat) (x : Source) : (s.setAddressSource n x).objs = s.objs := rfl
@[simp] theorem State.setAddressSource_clock (s : State) (n : Nat) (x : Source) : (s.setAddressSource n x).clock = s.clock := rfl
@[simp] theorem State.setAddressSource_intake (s : State) (n : Nat) (x : Source) : (s.setAddressSource n x).intake = s.intake := rfl
@[simp] theorem State.setAddressSource_mgmt (s : State) (n : Nat) (x : Source) : (s.setAddressSource n x).mgmt = s.mgmt := rfl
@[simp] theorem State.setAddressSource_groups (s : State) (n : Nat) (x : Source) : (s.setAddressSource n x).groups = s.groups := rfl
@[simp] theorem State.setAddressSource_darkroom (s : State) (n : Nat) (x : Source) : (s.setAddressSource n x).darkroom = s.darkroom := rfl
@[simp] theorem State.setAddressSource_boot (s : State) (n : Nat) (x : Source) : (s.setAddressSource n x).boot = s.boot := rfl
@[simp] theorem State.setAddressSource_twin (s : State) (n : Nat) (x : Source) : (s.setAddressSource n x).twin = s.twin := rfl
@[simp] theorem State.setAddressSource_time (s : State) (n : Nat) (x : Source) : (s.setAddressSource n x).time = s.time := rfl
@[simp] theorem State.setAddressSource_plans (s : State) (n : Nat) (x : Source) : (s.setAddressSource n x).plans = s.plans := rfl
@[simp] theorem State.setAddressSource_synth (s : State) (n : Nat) (x : Source) : (s.setAddressSource n x).synth = s.synth := rfl
@[simp] theorem State.setAddressSource_refs (s : State) (n : Nat) (x : Source) : (s.setAddressSource n x).refs = s.refs := rfl
@[simp] theorem State.setAddressSource_dev (s : State) (n : Nat) (x : Source) : (s.setAddressSource n x).dev = s.dev := rfl
@[simp] theorem State.setAddressSource_ports (s : State) (n : Nat) (x : Source) : (s.setAddressSource n x).ports = s.ports := rfl
@[simp] theorem State.setAddressSource_fabric (s : State) (n : Nat) (x : Source) : (s.setAddressSource n x).fabric = s.fabric := rfl
@[simp] theorem State.setAddressSource_gnss (s : State) (n : Nat) (x : Source) : (s.setAddressSource n x).gnss = s.gnss := rfl
@[simp] theorem State.setAddressSource_serve (s : State) (n : Nat) (x : Source) : (s.setAddressSource n x).serve = s.serve := rfl
@[simp] theorem State.setAddressSource_keys (s : State) (n : Nat) (x : Source) : (s.setAddressSource n x).keys = s.keys := rfl
@[simp] theorem State.setAddressSource_media (s : State) (n : Nat) (x : Source) : (s.setAddressSource n x).media = s.media := rfl
@[simp] theorem State.setAddressSource_free (s : State) (n : Nat) (x : Source) : (s.setAddressSource n x).free = s.free := rfl
theorem State.addressSource_setAddressSource (s : State) (n m : Nat) (x : Source) : (s.setAddressSource n x).addressSource m = if m = n then x else s.addressSource m :=
  Table.look_put _ _ _ _ _
@[simp] theorem State.addressSource_setAddressSource_self (s : State) (n : Nat) (x : Source) : (s.setAddressSource n x).addressSource n = x :=
  Table.look_put_self _ _ _ _
@[simp] theorem State.objKey_setAddressSource (s : State) (n : Nat) (x : Source) (k : Nat) : (s.setAddressSource n x).objKey k = s.objKey k := rfl
@[simp] theorem State.obj_setAddressSource (s : State) (n : Nat) (x : Source) (i j : Nat) : (s.setAddressSource n x).obj i j = s.obj i j := rfl
@[simp] theorem State.objI_setAddressSource (s : State) (n : Nat) (x : Source) (i j : Nat) : (s.setAddressSource n x).objI i j = s.objI i j := rfl

@[simp] theorem State.setLaneSource_pending (s : State) (n : Nat) (x : Source) : (s.setLaneSource n x).pending = s.pending := rfl
@[simp] theorem State.setLaneSource_objs (s : State) (n : Nat) (x : Source) : (s.setLaneSource n x).objs = s.objs := rfl
@[simp] theorem State.setLaneSource_clock (s : State) (n : Nat) (x : Source) : (s.setLaneSource n x).clock = s.clock := rfl
@[simp] theorem State.setLaneSource_intake (s : State) (n : Nat) (x : Source) : (s.setLaneSource n x).intake = s.intake := rfl
@[simp] theorem State.setLaneSource_mgmt (s : State) (n : Nat) (x : Source) : (s.setLaneSource n x).mgmt = s.mgmt := rfl
@[simp] theorem State.setLaneSource_groups (s : State) (n : Nat) (x : Source) : (s.setLaneSource n x).groups = s.groups := rfl
@[simp] theorem State.setLaneSource_darkroom (s : State) (n : Nat) (x : Source) : (s.setLaneSource n x).darkroom = s.darkroom := rfl
@[simp] theorem State.setLaneSource_boot (s : State) (n : Nat) (x : Source) : (s.setLaneSource n x).boot = s.boot := rfl
@[simp] theorem State.setLaneSource_twin (s : State) (n : Nat) (x : Source) : (s.setLaneSource n x).twin = s.twin := rfl
@[simp] theorem State.setLaneSource_time (s : State) (n : Nat) (x : Source) : (s.setLaneSource n x).time = s.time := rfl
@[simp] theorem State.setLaneSource_plans (s : State) (n : Nat) (x : Source) : (s.setLaneSource n x).plans = s.plans := rfl
@[simp] theorem State.setLaneSource_synth (s : State) (n : Nat) (x : Source) : (s.setLaneSource n x).synth = s.synth := rfl
@[simp] theorem State.setLaneSource_refs (s : State) (n : Nat) (x : Source) : (s.setLaneSource n x).refs = s.refs := rfl
@[simp] theorem State.setLaneSource_dev (s : State) (n : Nat) (x : Source) : (s.setLaneSource n x).dev = s.dev := rfl
@[simp] theorem State.setLaneSource_ports (s : State) (n : Nat) (x : Source) : (s.setLaneSource n x).ports = s.ports := rfl
@[simp] theorem State.setLaneSource_fabric (s : State) (n : Nat) (x : Source) : (s.setLaneSource n x).fabric = s.fabric := rfl
@[simp] theorem State.setLaneSource_gnss (s : State) (n : Nat) (x : Source) : (s.setLaneSource n x).gnss = s.gnss := rfl
@[simp] theorem State.setLaneSource_serve (s : State) (n : Nat) (x : Source) : (s.setLaneSource n x).serve = s.serve := rfl
@[simp] theorem State.setLaneSource_keys (s : State) (n : Nat) (x : Source) : (s.setLaneSource n x).keys = s.keys := rfl
@[simp] theorem State.setLaneSource_media (s : State) (n : Nat) (x : Source) : (s.setLaneSource n x).media = s.media := rfl
@[simp] theorem State.setLaneSource_free (s : State) (n : Nat) (x : Source) : (s.setLaneSource n x).free = s.free := rfl
theorem State.laneSource_setLaneSource (s : State) (n m : Nat) (x : Source) : (s.setLaneSource n x).laneSource m = if m = n then x else s.laneSource m :=
  Table.look_put _ _ _ _ _
@[simp] theorem State.laneSource_setLaneSource_self (s : State) (n : Nat) (x : Source) : (s.setLaneSource n x).laneSource n = x :=
  Table.look_put_self _ _ _ _
@[simp] theorem State.objKey_setLaneSource (s : State) (n : Nat) (x : Source) (k : Nat) : (s.setLaneSource n x).objKey k = s.objKey k := rfl
@[simp] theorem State.obj_setLaneSource (s : State) (n : Nat) (x : Source) (i j : Nat) : (s.setLaneSource n x).obj i j = s.obj i j := rfl
@[simp] theorem State.objI_setLaneSource (s : State) (n : Nat) (x : Source) (i j : Nat) : (s.setLaneSource n x).objI i j = s.objI i j := rfl

@[simp] theorem State.setGnssPort_pending (s : State) (n : Nat) (x : GnssPort) : (s.setGnssPort n x).pending = s.pending := rfl
@[simp] theorem State.setGnssPort_objs (s : State) (n : Nat) (x : GnssPort) : (s.setGnssPort n x).objs = s.objs := rfl
@[simp] theorem State.setGnssPort_clock (s : State) (n : Nat) (x : GnssPort) : (s.setGnssPort n x).clock = s.clock := rfl
@[simp] theorem State.setGnssPort_intake (s : State) (n : Nat) (x : GnssPort) : (s.setGnssPort n x).intake = s.intake := rfl
@[simp] theorem State.setGnssPort_mgmt (s : State) (n : Nat) (x : GnssPort) : (s.setGnssPort n x).mgmt = s.mgmt := rfl
@[simp] theorem State.setGnssPort_groups (s : State) (n : Nat) (x : GnssPort) : (s.setGnssPort n x).groups = s.groups := rfl
@[simp] theorem State.setGnssPort_darkroom (s : State) (n : Nat) (x : GnssPort) : (s.setGnssPort n x).darkroom = s.darkroom := rfl
@[simp] theorem State.setGnssPort_boot (s : State) (n : Nat) (x : GnssPort) : (s.setGnssPort n x).boot = s.boot := rfl
@[simp] theorem State.setGnssPort_twin (s : State) (n : Nat) (x : GnssPort) : (s.setGnssPort n x).twin = s.twin := rfl
@[simp] theorem State.setGnssPort_faults (s : State) (n : Nat) (x : GnssPort) : (s.setGnssPort n x).faults = s.faults := rfl
@[simp] theorem State.setGnssPort_time (s : State) (n : Nat) (x : GnssPort) : (s.setGnssPort n x).time = s.time := rfl
@[simp] theorem State.setGnssPort_plans (s : State) (n : Nat) (x : GnssPort) : (s.setGnssPort n x).plans = s.plans := rfl
@[simp] theorem State.setGnssPort_synth (s : State) (n : Nat) (x : GnssPort) : (s.setGnssPort n x).synth = s.synth := rfl
@[simp] theorem State.setGnssPort_refs (s : State) (n : Nat) (x : GnssPort) : (s.setGnssPort n x).refs = s.refs := rfl
@[simp] theorem State.setGnssPort_dev (s : State) (n : Nat) (x : GnssPort) : (s.setGnssPort n x).dev = s.dev := rfl
@[simp] theorem State.setGnssPort_ports (s : State) (n : Nat) (x : GnssPort) : (s.setGnssPort n x).ports = s.ports := rfl
@[simp] theorem State.setGnssPort_fabric (s : State) (n : Nat) (x : GnssPort) : (s.setGnssPort n x).fabric = s.fabric := rfl
@[simp] theorem State.setGnssPort_serve (s : State) (n : Nat) (x : GnssPort) : (s.setGnssPort n x).serve = s.serve := rfl
@[simp] theorem State.setGnssPort_keys (s : State) (n : Nat) (x : GnssPort) : (s.setGnssPort n x).keys = s.keys := rfl
@[simp] theorem State.setGnssPort_media (s : State) (n : Nat) (x : GnssPort) : (s.setGnssPort n x).media = s.media := rfl
@[simp] theorem State.setGnssPort_free (s : State) (n : Nat) (x : GnssPort) : (s.setGnssPort n x).free = s.free := rfl
theorem State.gnssPort_setGnssPort (s : State) (n m : Nat) (x : GnssPort) : (s.setGnssPort n x).gnssPort m = if m = n then x else s.gnssPort m :=
  Table.look_put _ _ _ _ _
@[simp] theorem State.gnssPort_setGnssPort_self (s : State) (n : Nat) (x : GnssPort) : (s.setGnssPort n x).gnssPort n = x :=
  Table.look_put_self _ _ _ _
@[simp] theorem State.objKey_setGnssPort (s : State) (n : Nat) (x : GnssPort) (k : Nat) : (s.setGnssPort n x).objKey k = s.objKey k := rfl
@[simp] theorem State.obj_setGnssPort (s : State) (n : Nat) (x : GnssPort) (i j : Nat) : (s.setGnssPort n x).obj i j = s.obj i j := rfl
@[simp] theorem State.objI_setGnssPort (s : State) (n : Nat) (x : GnssPort) (i j : Nat) : (s.setGnssPort n x).objI i j = s.objI i j := rfl

@[simp] theorem State.setGnssChannel_pending (s : State) (n : Nat) (x : GnssChannel) : (s.setGnssChannel n x).pending = s.pending := rfl
@[simp] theorem State.setGnssChannel_objs (s : State) (n : Nat) (x : GnssChannel) : (s.setGnssChannel n x).objs = s.objs := rfl
@[simp] theorem State.setGnssChannel_clock (s : State) (n : Nat) (x : GnssChannel) : (s.setGnssChannel n x).clock = s.clock := rfl
@[simp] theorem State.setGnssChannel_intake (s : State) (n : Nat) (x : GnssChannel) : (s.setGnssChannel n x).intake = s.intake := rfl
@[simp] theorem State.setGnssChannel_mgmt (s : State) (n : Nat) (x : GnssChannel) : (s.setGnssChannel n x).mgmt = s.mgmt := rfl
@[simp] theorem State.setGnssChannel_groups (s : State) (n : Nat) (x : GnssChannel) : (s.setGnssChannel n x).groups = s.groups := rfl
@[simp] theorem State.setGnssChannel_darkroom (s : State) (n : Nat) (x : GnssChannel) : (s.setGnssChannel n x).darkroom = s.darkroom := rfl
@[simp] theorem State.setGnssChannel_boot (s : State) (n : Nat) (x : GnssChannel) : (s.setGnssChannel n x).boot = s.boot := rfl
@[simp] theorem State.setGnssChannel_twin (s : State) (n : Nat) (x : GnssChannel) : (s.setGnssChannel n x).twin = s.twin := rfl
@[simp] theorem State.setGnssChannel_faults (s : State) (n : Nat) (x : GnssChannel) : (s.setGnssChannel n x).faults = s.faults := rfl
@[simp] theorem State.setGnssChannel_time (s : State) (n : Nat) (x : GnssChannel) : (s.setGnssChannel n x).time = s.time := rfl
@[simp] theorem State.setGnssChannel_plans (s : State) (n : Nat) (x : GnssChannel) : (s.setGnssChannel n x).plans = s.plans := rfl
@[simp] theorem State.setGnssChannel_synth (s : State) (n : Nat) (x : GnssChannel) : (s.setGnssChannel n x).synth = s.synth := rfl
@[simp] theorem State.setGnssChannel_refs (s : State) (n : Nat) (x : GnssChannel) : (s.setGnssChannel n x).refs = s.refs := rfl
@[simp] theorem State.setGnssChannel_dev (s : State) (n : Nat) (x : GnssChannel) : (s.setGnssChannel n x).dev = s.dev := rfl
@[simp] theorem State.setGnssChannel_ports (s : State) (n : Nat) (x : GnssChannel) : (s.setGnssChannel n x).ports = s.ports := rfl
@[simp] theorem State.setGnssChannel_fabric (s : State) (n : Nat) (x : GnssChannel) : (s.setGnssChannel n x).fabric = s.fabric := rfl
@[simp] theorem State.setGnssChannel_serve (s : State) (n : Nat) (x : GnssChannel) : (s.setGnssChannel n x).serve = s.serve := rfl
@[simp] theorem State.setGnssChannel_keys (s : State) (n : Nat) (x : GnssChannel) : (s.setGnssChannel n x).keys = s.keys := rfl
@[simp] theorem State.setGnssChannel_media (s : State) (n : Nat) (x : GnssChannel) : (s.setGnssChannel n x).media = s.media := rfl
@[simp] theorem State.setGnssChannel_free (s : State) (n : Nat) (x : GnssChannel) : (s.setGnssChannel n x).free = s.free := rfl
theorem State.gnssChannel_setGnssChannel (s : State) (n m : Nat) (x : GnssChannel) : (s.setGnssChannel n x).gnssChannel m = if m = n then x else s.gnssChannel m :=
  Table.look_put _ _ _ _ _
@[simp] theorem State.gnssChannel_setGnssChannel_self (s : State) (n : Nat) (x : GnssChannel) : (s.setGnssChannel n x).gnssChannel n = x :=
  Table.look_put_self _ _ _ _
@[simp] theorem State.objKey_setGnssChannel (s : State) (n : Nat) (x : GnssChannel) (k : Nat) : (s.setGnssChannel n x).objKey k = s.objKey k := rfl
@[simp] theorem State.obj_setGnssChannel (s : State) (n : Nat) (x : GnssChannel) (i j : Nat) : (s.setGnssChannel n x).obj i j = s.obj i j := rfl
@[simp] theorem State.objI_setGnssChannel (s : State) (n : Nat) (x : GnssChannel) (i j : Nat) : (s.setGnssChannel n x).objI i j = s.objI i j := rfl

@[simp] theorem State.setSlot_pending (s : State) (n : Nat) (x : Slot) : (s.setSlot n x).pending = s.pending := rfl
@[simp] theorem State.setSlot_objs (s : State) (n : Nat) (x : Slot) : (s.setSlot n x).objs = s.objs := rfl
@[simp] theorem State.setSlot_clock (s : State) (n : Nat) (x : Slot) : (s.setSlot n x).clock = s.clock := rfl
@[simp] theorem State.setSlot_intake (s : State) (n : Nat) (x : Slot) : (s.setSlot n x).intake = s.intake := rfl
@[simp] theorem State.setSlot_mgmt (s : State) (n : Nat) (x : Slot) : (s.setSlot n x).mgmt = s.mgmt := rfl
@[simp] theorem State.setSlot_groups (s : State) (n : Nat) (x : Slot) : (s.setSlot n x).groups = s.groups := rfl
@[simp] theorem State.setSlot_darkroom (s : State) (n : Nat) (x : Slot) : (s.setSlot n x).darkroom = s.darkroom := rfl
@[simp] theorem State.setSlot_boot (s : State) (n : Nat) (x : Slot) : (s.setSlot n x).boot = s.boot := rfl
@[simp] theorem State.setSlot_twin (s : State) (n : Nat) (x : Slot) : (s.setSlot n x).twin = s.twin := rfl
@[simp] theorem State.setSlot_faults (s : State) (n : Nat) (x : Slot) : (s.setSlot n x).faults = s.faults := rfl
@[simp] theorem State.setSlot_time (s : State) (n : Nat) (x : Slot) : (s.setSlot n x).time = s.time := rfl
@[simp] theorem State.setSlot_plans (s : State) (n : Nat) (x : Slot) : (s.setSlot n x).plans = s.plans := rfl
@[simp] theorem State.setSlot_synth (s : State) (n : Nat) (x : Slot) : (s.setSlot n x).synth = s.synth := rfl
@[simp] theorem State.setSlot_refs (s : State) (n : Nat) (x : Slot) : (s.setSlot n x).refs = s.refs := rfl
@[simp] theorem State.setSlot_dev (s : State) (n : Nat) (x : Slot) : (s.setSlot n x).dev = s.dev := rfl
@[simp] theorem State.setSlot_ports (s : State) (n : Nat) (x : Slot) : (s.setSlot n x).ports = s.ports := rfl
@[simp] theorem State.setSlot_fabric (s : State) (n : Nat) (x : Slot) : (s.setSlot n x).fabric = s.fabric := rfl
@[simp] theorem State.setSlot_gnss (s : State) (n : Nat) (x : Slot) : (s.setSlot n x).gnss = s.gnss := rfl
@[simp] theorem State.setSlot_serve (s : State) (n : Nat) (x : Slot) : (s.setSlot n x).serve = s.serve := rfl
@[simp] theorem State.setSlot_media (s : State) (n : Nat) (x : Slot) : (s.setSlot n x).media = s.media := rfl
@[simp] theorem State.setSlot_free (s : State) (n : Nat) (x : Slot) : (s.setSlot n x).free = s.free := rfl
theorem State.slot_setSlot (s : State) (n m : Nat) (x : Slot) : (s.setSlot n x).slot m = if m = n then x else s.slot m :=
  Table.look_put _ _ _ _ _
@[simp] theorem State.slot_setSlot_self (s : State) (n : Nat) (x : Slot) : (s.setSlot n x).slot n = x :=
  Table.look_put_self _ _ _ _
@[simp] theorem State.objKey_setSlot (s : State) (n : Nat) (x : Slot) (k : Nat) : (s.setSlot n x).objKey k = s.objKey k := rfl
@[simp] theorem State.obj_setSlot (s : State) (n : Nat) (x : Slot) (i j : Nat) : (s.setSlot n x).obj i j = s.obj i j := rfl
@[simp] theorem State.objI_setSlot (s : State) (n : Nat) (x : Slot) (i j : Nat) : (s.setSlot n x).objI i j = s.objI i j := rfl

@[simp] theorem State.setMport_pending (s : State) (n : Nat) (x : MediaPort) : (s.setMport n x).pending = s.pending := rfl
@[simp] theorem State.setMport_objs (s : State) (n : Nat) (x : MediaPort) : (s.setMport n x).objs = s.objs := rfl
@[simp] theorem State.setMport_clock (s : State) (n : Nat) (x : MediaPort) : (s.setMport n x).clock = s.clock := rfl
@[simp] theorem State.setMport_intake (s : State) (n : Nat) (x : MediaPort) : (s.setMport n x).intake = s.intake := rfl
@[simp] theorem State.setMport_mgmt (s : State) (n : Nat) (x : MediaPort) : (s.setMport n x).mgmt = s.mgmt := rfl
@[simp] theorem State.setMport_groups (s : State) (n : Nat) (x : MediaPort) : (s.setMport n x).groups = s.groups := rfl
@[simp] theorem State.setMport_darkroom (s : State) (n : Nat) (x : MediaPort) : (s.setMport n x).darkroom = s.darkroom := rfl
@[simp] theorem State.setMport_boot (s : State) (n : Nat) (x : MediaPort) : (s.setMport n x).boot = s.boot := rfl
@[simp] theorem State.setMport_twin (s : State) (n : Nat) (x : MediaPort) : (s.setMport n x).twin = s.twin := rfl
@[simp] theorem State.setMport_faults (s : State) (n : Nat) (x : MediaPort) : (s.setMport n x).faults = s.faults := rfl
@[simp] theorem State.setMport_time (s : State) (n : Nat) (x : MediaPort) : (s.setMport n x).time = s.time := rfl
@[simp] theorem State.setMport_plans (s : State) (n : Nat) (x : MediaPort) : (s.setMport n x).plans = s.plans := rfl
@[simp] theorem State.setMport_synth (s : State) (n : Nat) (x : MediaPort) : (s.setMport n x).synth = s.synth := rfl
@[simp] theorem State.setMport_refs (s : State) (n : Nat) (x : MediaPort) : (s.setMport n x).refs = s.refs := rfl
@[simp] theorem State.setMport_dev (s : State) (n : Nat) (x : MediaPort) : (s.setMport n x).dev = s.dev := rfl
@[simp] theorem State.setMport_ports (s : State) (n : Nat) (x : MediaPort) : (s.setMport n x).ports = s.ports := rfl
@[simp] theorem State.setMport_fabric (s : State) (n : Nat) (x : MediaPort) : (s.setMport n x).fabric = s.fabric := rfl
@[simp] theorem State.setMport_gnss (s : State) (n : Nat) (x : MediaPort) : (s.setMport n x).gnss = s.gnss := rfl
@[simp] theorem State.setMport_serve (s : State) (n : Nat) (x : MediaPort) : (s.setMport n x).serve = s.serve := rfl
@[simp] theorem State.setMport_keys (s : State) (n : Nat) (x : MediaPort) : (s.setMport n x).keys = s.keys := rfl
@[simp] theorem State.setMport_free (s : State) (n : Nat) (x : MediaPort) : (s.setMport n x).free = s.free := rfl
theorem State.mport_setMport (s : State) (n m : Nat) (x : MediaPort) : (s.setMport n x).mport m = if m = n then x else s.mport m :=
  Table.look_put _ _ _ _ _
@[simp] theorem State.mport_setMport_self (s : State) (n : Nat) (x : MediaPort) : (s.setMport n x).mport n = x :=
  Table.look_put_self _ _ _ _
@[simp] theorem State.objKey_setMport (s : State) (n : Nat) (x : MediaPort) (k : Nat) : (s.setMport n x).objKey k = s.objKey k := rfl
@[simp] theorem State.obj_setMport (s : State) (n : Nat) (x : MediaPort) (i j : Nat) : (s.setMport n x).obj i j = s.obj i j := rfl
@[simp] theorem State.objI_setMport (s : State) (n : Nat) (x : MediaPort) (i j : Nat) : (s.setMport n x).objI i j = s.objI i j := rfl

@[simp] theorem State.setMchannel_pending (s : State) (n : Nat) (x : MediaChannel) : (s.setMchannel n x).pending = s.pending := rfl
@[simp] theorem State.setMchannel_objs (s : State) (n : Nat) (x : MediaChannel) : (s.setMchannel n x).objs = s.objs := rfl
@[simp] theorem State.setMchannel_clock (s : State) (n : Nat) (x : MediaChannel) : (s.setMchannel n x).clock = s.clock := rfl
@[simp] theorem State.setMchannel_intake (s : State) (n : Nat) (x : MediaChannel) : (s.setMchannel n x).intake = s.intake := rfl
@[simp] theorem State.setMchannel_mgmt (s : State) (n : Nat) (x : MediaChannel) : (s.setMchannel n x).mgmt = s.mgmt := rfl
@[simp] theorem State.setMchannel_groups (s : State) (n : Nat) (x : MediaChannel) : (s.setMchannel n x).groups = s.groups := rfl
@[simp] theorem State.setMchannel_darkroom (s : State) (n : Nat) (x : MediaChannel) : (s.setMchannel n x).darkroom = s.darkroom := rfl
@[simp] theorem State.setMchannel_boot (s : State) (n : Nat) (x : MediaChannel) : (s.setMchannel n x).boot = s.boot := rfl
@[simp] theorem State.setMchannel_twin (s : State) (n : Nat) (x : MediaChannel) : (s.setMchannel n x).twin = s.twin := rfl
@[simp] theorem State.setMchannel_faults (s : State) (n : Nat) (x : MediaChannel) : (s.setMchannel n x).faults = s.faults := rfl
@[simp] theorem State.setMchannel_time (s : State) (n : Nat) (x : MediaChannel) : (s.setMchannel n x).time = s.time := rfl
@[simp] theorem State.setMchannel_plans (s : State) (n : Nat) (x : MediaChannel) : (s.setMchannel n x).plans = s.plans := rfl
@[simp] theorem State.setMchannel_synth (s : State) (n : Nat) (x : MediaChannel) : (s.setMchannel n x).synth = s.synth := rfl
@[simp] theorem State.setMchannel_refs (s : State) (n : Nat) (x : MediaChannel) : (s.setMchannel n x).refs = s.refs := rfl
@[simp] theorem State.setMchannel_dev (s : State) (n : Nat) (x : MediaChannel) : (s.setMchannel n x).dev = s.dev := rfl
@[simp] theorem State.setMchannel_ports (s : State) (n : Nat) (x : MediaChannel) : (s.setMchannel n x).ports = s.ports := rfl
@[simp] theorem State.setMchannel_fabric (s : State) (n : Nat) (x : MediaChannel) : (s.setMchannel n x).fabric = s.fabric := rfl
@[simp] theorem State.setMchannel_gnss (s : State) (n : Nat) (x : MediaChannel) : (s.setMchannel n x).gnss = s.gnss := rfl
@[simp] theorem State.setMchannel_serve (s : State) (n : Nat) (x : MediaChannel) : (s.setMchannel n x).serve = s.serve := rfl
@[simp] theorem State.setMchannel_keys (s : State) (n : Nat) (x : MediaChannel) : (s.setMchannel n x).keys = s.keys := rfl
@[simp] theorem State.setMchannel_free (s : State) (n : Nat) (x : MediaChannel) : (s.setMchannel n x).free = s.free := rfl
theorem State.mchannel_setMchannel (s : State) (n m : Nat) (x : MediaChannel) : (s.setMchannel n x).mchannel m = if m = n then x else s.mchannel m :=
  Table.look_put _ _ _ _ _
@[simp] theorem State.mchannel_setMchannel_self (s : State) (n : Nat) (x : MediaChannel) : (s.setMchannel n x).mchannel n = x :=
  Table.look_put_self _ _ _ _
@[simp] theorem State.objKey_setMchannel (s : State) (n : Nat) (x : MediaChannel) (k : Nat) : (s.setMchannel n x).objKey k = s.objKey k := rfl
@[simp] theorem State.obj_setMchannel (s : State) (n : Nat) (x : MediaChannel) (i j : Nat) : (s.setMchannel n x).obj i j = s.obj i j := rfl
@[simp] theorem State.objI_setMchannel (s : State) (n : Nat) (x : MediaChannel) (i j : Nat) : (s.setMchannel n x).objI i j = s.objI i j := rfl

@[simp] theorem State.setBank_pending (s : State) (n : Nat) (x : Option Plan) : (s.setBank n x).pending = s.pending := rfl
@[simp] theorem State.setBank_objs (s : State) (n : Nat) (x : Option Plan) : (s.setBank n x).objs = s.objs := rfl
@[simp] theorem State.setBank_clock (s : State) (n : Nat) (x : Option Plan) : (s.setBank n x).clock = s.clock := rfl
@[simp] theorem State.setBank_intake (s : State) (n : Nat) (x : Option Plan) : (s.setBank n x).intake = s.intake := rfl
@[simp] theorem State.setBank_mgmt (s : State) (n : Nat) (x : Option Plan) : (s.setBank n x).mgmt = s.mgmt := rfl
@[simp] theorem State.setBank_groups (s : State) (n : Nat) (x : Option Plan) : (s.setBank n x).groups = s.groups := rfl
@[simp] theorem State.setBank_darkroom (s : State) (n : Nat) (x : Option Plan) : (s.setBank n x).darkroom = s.darkroom := rfl
@[simp] theorem State.setBank_boot (s : State) (n : Nat) (x : Option Plan) : (s.setBank n x).boot = s.boot := rfl
@[simp] theorem State.setBank_twin (s : State) (n : Nat) (x : Option Plan) : (s.setBank n x).twin = s.twin := rfl
@[simp] theorem State.setBank_faults (s : State) (n : Nat) (x : Option Plan) : (s.setBank n x).faults = s.faults := rfl
@[simp] theorem State.setBank_time (s : State) (n : Nat) (x : Option Plan) : (s.setBank n x).time = s.time := rfl
@[simp] theorem State.setBank_synth (s : State) (n : Nat) (x : Option Plan) : (s.setBank n x).synth = s.synth := rfl
@[simp] theorem State.setBank_refs (s : State) (n : Nat) (x : Option Plan) : (s.setBank n x).refs = s.refs := rfl
@[simp] theorem State.setBank_dev (s : State) (n : Nat) (x : Option Plan) : (s.setBank n x).dev = s.dev := rfl
@[simp] theorem State.setBank_ports (s : State) (n : Nat) (x : Option Plan) : (s.setBank n x).ports = s.ports := rfl
@[simp] theorem State.setBank_fabric (s : State) (n : Nat) (x : Option Plan) : (s.setBank n x).fabric = s.fabric := rfl
@[simp] theorem State.setBank_gnss (s : State) (n : Nat) (x : Option Plan) : (s.setBank n x).gnss = s.gnss := rfl
@[simp] theorem State.setBank_serve (s : State) (n : Nat) (x : Option Plan) : (s.setBank n x).serve = s.serve := rfl
@[simp] theorem State.setBank_keys (s : State) (n : Nat) (x : Option Plan) : (s.setBank n x).keys = s.keys := rfl
@[simp] theorem State.setBank_media (s : State) (n : Nat) (x : Option Plan) : (s.setBank n x).media = s.media := rfl
@[simp] theorem State.setBank_free (s : State) (n : Nat) (x : Option Plan) : (s.setBank n x).free = s.free := rfl
theorem State.bank_setBank (s : State) (n m : Nat) (x : Option Plan) : (s.setBank n x).bank m = if m = n then x else s.bank m :=
  Table.look_put _ _ _ _ _
@[simp] theorem State.bank_setBank_self (s : State) (n : Nat) (x : Option Plan) : (s.setBank n x).bank n = x :=
  Table.look_put_self _ _ _ _
@[simp] theorem State.objKey_setBank (s : State) (n : Nat) (x : Option Plan) (k : Nat) : (s.setBank n x).objKey k = s.objKey k := rfl
@[simp] theorem State.obj_setBank (s : State) (n : Nat) (x : Option Plan) (i j : Nat) : (s.setBank n x).obj i j = s.obj i j := rfl
@[simp] theorem State.objI_setBank (s : State) (n : Nat) (x : Option Plan) (i j : Nat) : (s.setBank n x).objI i j = s.objI i j := rfl

@[simp] theorem State.setQuality_pending (s : State) (n : Nat) (x : Quality) : (s.setQuality n x).pending = s.pending := rfl
@[simp] theorem State.setQuality_objs (s : State) (n : Nat) (x : Quality) : (s.setQuality n x).objs = s.objs := rfl
@[simp] theorem State.setQuality_clock (s : State) (n : Nat) (x : Quality) : (s.setQuality n x).clock = s.clock := rfl
@[simp] theorem State.setQuality_intake (s : State) (n : Nat) (x : Quality) : (s.setQuality n x).intake = s.intake := rfl
@[simp] theorem State.setQuality_mgmt (s : State) (n : Nat) (x : Quality) : (s.setQuality n x).mgmt = s.mgmt := rfl
@[simp] theorem State.setQuality_groups (s : State) (n : Nat) (x : Quality) : (s.setQuality n x).groups = s.groups := rfl
@[simp] theorem State.setQuality_darkroom (s : State) (n : Nat) (x : Quality) : (s.setQuality n x).darkroom = s.darkroom := rfl
@[simp] theorem State.setQuality_boot (s : State) (n : Nat) (x : Quality) : (s.setQuality n x).boot = s.boot := rfl
@[simp] theorem State.setQuality_twin (s : State) (n : Nat) (x : Quality) : (s.setQuality n x).twin = s.twin := rfl
@[simp] theorem State.setQuality_faults (s : State) (n : Nat) (x : Quality) : (s.setQuality n x).faults = s.faults := rfl
@[simp] theorem State.setQuality_time (s : State) (n : Nat) (x : Quality) : (s.setQuality n x).time = s.time := rfl
@[simp] theorem State.setQuality_plans (s : State) (n : Nat) (x : Quality) : (s.setQuality n x).plans = s.plans := rfl
@[simp] theorem State.setQuality_synth (s : State) (n : Nat) (x : Quality) : (s.setQuality n x).synth = s.synth := rfl
@[simp] theorem State.setQuality_refs (s : State) (n : Nat) (x : Quality) : (s.setQuality n x).refs = s.refs := rfl
@[simp] theorem State.setQuality_dev (s : State) (n : Nat) (x : Quality) : (s.setQuality n x).dev = s.dev := rfl
@[simp] theorem State.setQuality_ports (s : State) (n : Nat) (x : Quality) : (s.setQuality n x).ports = s.ports := rfl
@[simp] theorem State.setQuality_fabric (s : State) (n : Nat) (x : Quality) : (s.setQuality n x).fabric = s.fabric := rfl
@[simp] theorem State.setQuality_gnss (s : State) (n : Nat) (x : Quality) : (s.setQuality n x).gnss = s.gnss := rfl
@[simp] theorem State.setQuality_keys (s : State) (n : Nat) (x : Quality) : (s.setQuality n x).keys = s.keys := rfl
@[simp] theorem State.setQuality_media (s : State) (n : Nat) (x : Quality) : (s.setQuality n x).media = s.media := rfl
@[simp] theorem State.setQuality_free (s : State) (n : Nat) (x : Quality) : (s.setQuality n x).free = s.free := rfl
theorem State.quality_setQuality (s : State) (n m : Nat) (x : Quality) : (s.setQuality n x).quality m = if m = n then x else s.quality m :=
  Table.look_put _ _ _ _ _
@[simp] theorem State.quality_setQuality_self (s : State) (n : Nat) (x : Quality) : (s.setQuality n x).quality n = x :=
  Table.look_put_self _ _ _ _
@[simp] theorem State.objKey_setQuality (s : State) (n : Nat) (x : Quality) (k : Nat) : (s.setQuality n x).objKey k = s.objKey k := rfl
@[simp] theorem State.obj_setQuality (s : State) (n : Nat) (x : Quality) (i j : Nat) : (s.setQuality n x).obj i j = s.obj i j := rfl
@[simp] theorem State.objI_setQuality (s : State) (n : Nat) (x : Quality) (i j : Nat) : (s.setQuality n x).objI i j = s.objI i j := rfl

@[simp] theorem State.setClient_pending (s : State) (n : Nat) (x : ClientRecord) : (s.setClient n x).pending = s.pending := rfl
@[simp] theorem State.setClient_objs (s : State) (n : Nat) (x : ClientRecord) : (s.setClient n x).objs = s.objs := rfl
@[simp] theorem State.setClient_clock (s : State) (n : Nat) (x : ClientRecord) : (s.setClient n x).clock = s.clock := rfl
@[simp] theorem State.setClient_intake (s : State) (n : Nat) (x : ClientRecord) : (s.setClient n x).intake = s.intake := rfl
@[simp] theorem State.setClient_mgmt (s : State) (n : Nat) (x : ClientRecord) : (s.setClient n x).mgmt = s.mgmt := rfl
@[simp] theorem State.setClient_groups (s : State) (n : Nat) (x : ClientRecord) : (s.setClient n x).groups = s.groups := rfl
@[simp] theorem State.setClient_darkroom (s : State) (n : Nat) (x : ClientRecord) : (s.setClient n x).darkroom = s.darkroom := rfl
@[simp] theorem State.setClient_boot (s : State) (n : Nat) (x : ClientRecord) : (s.setClient n x).boot = s.boot := rfl
@[simp] theorem State.setClient_twin (s : State) (n : Nat) (x : ClientRecord) : (s.setClient n x).twin = s.twin := rfl
@[simp] theorem State.setClient_faults (s : State) (n : Nat) (x : ClientRecord) : (s.setClient n x).faults = s.faults := rfl
@[simp] theorem State.setClient_time (s : State) (n : Nat) (x : ClientRecord) : (s.setClient n x).time = s.time := rfl
@[simp] theorem State.setClient_plans (s : State) (n : Nat) (x : ClientRecord) : (s.setClient n x).plans = s.plans := rfl
@[simp] theorem State.setClient_synth (s : State) (n : Nat) (x : ClientRecord) : (s.setClient n x).synth = s.synth := rfl
@[simp] theorem State.setClient_refs (s : State) (n : Nat) (x : ClientRecord) : (s.setClient n x).refs = s.refs := rfl
@[simp] theorem State.setClient_dev (s : State) (n : Nat) (x : ClientRecord) : (s.setClient n x).dev = s.dev := rfl
@[simp] theorem State.setClient_ports (s : State) (n : Nat) (x : ClientRecord) : (s.setClient n x).ports = s.ports := rfl
@[simp] theorem State.setClient_fabric (s : State) (n : Nat) (x : ClientRecord) : (s.setClient n x).fabric = s.fabric := rfl
@[simp] theorem State.setClient_gnss (s : State) (n : Nat) (x : ClientRecord) : (s.setClient n x).gnss = s.gnss := rfl
@[simp] theorem State.setClient_keys (s : State) (n : Nat) (x : ClientRecord) : (s.setClient n x).keys = s.keys := rfl
@[simp] theorem State.setClient_media (s : State) (n : Nat) (x : ClientRecord) : (s.setClient n x).media = s.media := rfl
@[simp] theorem State.setClient_free (s : State) (n : Nat) (x : ClientRecord) : (s.setClient n x).free = s.free := rfl
theorem State.client_setClient (s : State) (n m : Nat) (x : ClientRecord) : (s.setClient n x).client m = if m = n then x else s.client m :=
  Table.look_put _ _ _ _ _
@[simp] theorem State.client_setClient_self (s : State) (n : Nat) (x : ClientRecord) : (s.setClient n x).client n = x :=
  Table.look_put_self _ _ _ _
@[simp] theorem State.objKey_setClient (s : State) (n : Nat) (x : ClientRecord) (k : Nat) : (s.setClient n x).objKey k = s.objKey k := rfl
@[simp] theorem State.obj_setClient (s : State) (n : Nat) (x : ClientRecord) (i j : Nat) : (s.setClient n x).obj i j = s.obj i j := rfl
@[simp] theorem State.objI_setClient (s : State) (n : Nat) (x : ClientRecord) (i j : Nat) : (s.setClient n x).objI i j = s.objI i j := rfl

@[simp] theorem State.setDpll_pending (s : State) (n : Nat) (x : Dpll) : (s.setDpll n x).pending = s.pending := rfl
@[simp] theorem State.setDpll_objs (s : State) (n : Nat) (x : Dpll) : (s.setDpll n x).objs = s.objs := rfl
@[simp] theorem State.setDpll_clock (s : State) (n : Nat) (x : Dpll) : (s.setDpll n x).clock = s.clock := rfl
@[simp] theorem State.setDpll_intake (s : State) (n : Nat) (x : Dpll) : (s.setDpll n x).intake = s.intake := rfl
@[simp] theorem State.setDpll_mgmt (s : State) (n : Nat) (x : Dpll) : (s.setDpll n x).mgmt = s.mgmt := rfl
@[simp] theorem State.setDpll_groups (s : State) (n : Nat) (x : Dpll) : (s.setDpll n x).groups = s.groups := rfl
@[simp] theorem State.setDpll_darkroom (s : State) (n : Nat) (x : Dpll) : (s.setDpll n x).darkroom = s.darkroom := rfl
@[simp] theorem State.setDpll_boot (s : State) (n : Nat) (x : Dpll) : (s.setDpll n x).boot = s.boot := rfl
@[simp] theorem State.setDpll_twin (s : State) (n : Nat) (x : Dpll) : (s.setDpll n x).twin = s.twin := rfl
@[simp] theorem State.setDpll_faults (s : State) (n : Nat) (x : Dpll) : (s.setDpll n x).faults = s.faults := rfl
@[simp] theorem State.setDpll_time (s : State) (n : Nat) (x : Dpll) : (s.setDpll n x).time = s.time := rfl
@[simp] theorem State.setDpll_plans (s : State) (n : Nat) (x : Dpll) : (s.setDpll n x).plans = s.plans := rfl
@[simp] theorem State.setDpll_refs (s : State) (n : Nat) (x : Dpll) : (s.setDpll n x).refs = s.refs := rfl
@[simp] theorem State.setDpll_dev (s : State) (n : Nat) (x : Dpll) : (s.setDpll n x).dev = s.dev := rfl
@[simp] theorem State.setDpll_ports (s : State) (n : Nat) (x : Dpll) : (s.setDpll n x).ports = s.ports := rfl
@[simp] theorem State.setDpll_fabric (s : State) (n : Nat) (x : Dpll) : (s.setDpll n x).fabric = s.fabric := rfl
@[simp] theorem State.setDpll_gnss (s : State) (n : Nat) (x : Dpll) : (s.setDpll n x).gnss = s.gnss := rfl
@[simp] theorem State.setDpll_serve (s : State) (n : Nat) (x : Dpll) : (s.setDpll n x).serve = s.serve := rfl
@[simp] theorem State.setDpll_keys (s : State) (n : Nat) (x : Dpll) : (s.setDpll n x).keys = s.keys := rfl
@[simp] theorem State.setDpll_media (s : State) (n : Nat) (x : Dpll) : (s.setDpll n x).media = s.media := rfl
@[simp] theorem State.setDpll_free (s : State) (n : Nat) (x : Dpll) : (s.setDpll n x).free = s.free := rfl
theorem State.dpll_setDpll (s : State) (n m : Nat) (x : Dpll) : (s.setDpll n x).dpll m = if m = n then x else s.dpll m :=
  Table.look_put _ _ _ _ _
@[simp] theorem State.dpll_setDpll_self (s : State) (n : Nat) (x : Dpll) : (s.setDpll n x).dpll n = x :=
  Table.look_put_self _ _ _ _
@[simp] theorem State.objKey_setDpll (s : State) (n : Nat) (x : Dpll) (k : Nat) : (s.setDpll n x).objKey k = s.objKey k := rfl
@[simp] theorem State.obj_setDpll (s : State) (n : Nat) (x : Dpll) (i j : Nat) : (s.setDpll n x).obj i j = s.obj i j := rfl
@[simp] theorem State.objI_setDpll (s : State) (n : Nat) (x : Dpll) (i j : Nat) : (s.setDpll n x).objI i j = s.objI i j := rfl

@[simp] theorem State.setOpll_pending (s : State) (n : Nat) (x : Opll) : (s.setOpll n x).pending = s.pending := rfl
@[simp] theorem State.setOpll_objs (s : State) (n : Nat) (x : Opll) : (s.setOpll n x).objs = s.objs := rfl
@[simp] theorem State.setOpll_clock (s : State) (n : Nat) (x : Opll) : (s.setOpll n x).clock = s.clock := rfl
@[simp] theorem State.setOpll_intake (s : State) (n : Nat) (x : Opll) : (s.setOpll n x).intake = s.intake := rfl
@[simp] theorem State.setOpll_mgmt (s : State) (n : Nat) (x : Opll) : (s.setOpll n x).mgmt = s.mgmt := rfl
@[simp] theorem State.setOpll_groups (s : State) (n : Nat) (x : Opll) : (s.setOpll n x).groups = s.groups := rfl
@[simp] theorem State.setOpll_darkroom (s : State) (n : Nat) (x : Opll) : (s.setOpll n x).darkroom = s.darkroom := rfl
@[simp] theorem State.setOpll_boot (s : State) (n : Nat) (x : Opll) : (s.setOpll n x).boot = s.boot := rfl
@[simp] theorem State.setOpll_twin (s : State) (n : Nat) (x : Opll) : (s.setOpll n x).twin = s.twin := rfl
@[simp] theorem State.setOpll_faults (s : State) (n : Nat) (x : Opll) : (s.setOpll n x).faults = s.faults := rfl
@[simp] theorem State.setOpll_time (s : State) (n : Nat) (x : Opll) : (s.setOpll n x).time = s.time := rfl
@[simp] theorem State.setOpll_plans (s : State) (n : Nat) (x : Opll) : (s.setOpll n x).plans = s.plans := rfl
@[simp] theorem State.setOpll_refs (s : State) (n : Nat) (x : Opll) : (s.setOpll n x).refs = s.refs := rfl
@[simp] theorem State.setOpll_dev (s : State) (n : Nat) (x : Opll) : (s.setOpll n x).dev = s.dev := rfl
@[simp] theorem State.setOpll_ports (s : State) (n : Nat) (x : Opll) : (s.setOpll n x).ports = s.ports := rfl
@[simp] theorem State.setOpll_fabric (s : State) (n : Nat) (x : Opll) : (s.setOpll n x).fabric = s.fabric := rfl
@[simp] theorem State.setOpll_gnss (s : State) (n : Nat) (x : Opll) : (s.setOpll n x).gnss = s.gnss := rfl
@[simp] theorem State.setOpll_serve (s : State) (n : Nat) (x : Opll) : (s.setOpll n x).serve = s.serve := rfl
@[simp] theorem State.setOpll_keys (s : State) (n : Nat) (x : Opll) : (s.setOpll n x).keys = s.keys := rfl
@[simp] theorem State.setOpll_media (s : State) (n : Nat) (x : Opll) : (s.setOpll n x).media = s.media := rfl
@[simp] theorem State.setOpll_free (s : State) (n : Nat) (x : Opll) : (s.setOpll n x).free = s.free := rfl
theorem State.opll_setOpll (s : State) (n m : Nat) (x : Opll) : (s.setOpll n x).opll m = if m = n then x else s.opll m :=
  Table.look_put _ _ _ _ _
@[simp] theorem State.opll_setOpll_self (s : State) (n : Nat) (x : Opll) : (s.setOpll n x).opll n = x :=
  Table.look_put_self _ _ _ _
@[simp] theorem State.objKey_setOpll (s : State) (n : Nat) (x : Opll) (k : Nat) : (s.setOpll n x).objKey k = s.objKey k := rfl
@[simp] theorem State.obj_setOpll (s : State) (n : Nat) (x : Opll) (i j : Nat) : (s.setOpll n x).obj i j = s.obj i j := rfl
@[simp] theorem State.objI_setOpll (s : State) (n : Nat) (x : Opll) (i j : Nat) : (s.setOpll n x).objI i j = s.objI i j := rfl

@[simp] theorem State.setPps_pending (s : State) (n : Nat) (x : Pps) : (s.setPps n x).pending = s.pending := rfl
@[simp] theorem State.setPps_objs (s : State) (n : Nat) (x : Pps) : (s.setPps n x).objs = s.objs := rfl
@[simp] theorem State.setPps_clock (s : State) (n : Nat) (x : Pps) : (s.setPps n x).clock = s.clock := rfl
@[simp] theorem State.setPps_intake (s : State) (n : Nat) (x : Pps) : (s.setPps n x).intake = s.intake := rfl
@[simp] theorem State.setPps_mgmt (s : State) (n : Nat) (x : Pps) : (s.setPps n x).mgmt = s.mgmt := rfl
@[simp] theorem State.setPps_groups (s : State) (n : Nat) (x : Pps) : (s.setPps n x).groups = s.groups := rfl
@[simp] theorem State.setPps_darkroom (s : State) (n : Nat) (x : Pps) : (s.setPps n x).darkroom = s.darkroom := rfl
@[simp] theorem State.setPps_boot (s : State) (n : Nat) (x : Pps) : (s.setPps n x).boot = s.boot := rfl
@[simp] theorem State.setPps_twin (s : State) (n : Nat) (x : Pps) : (s.setPps n x).twin = s.twin := rfl
@[simp] theorem State.setPps_faults (s : State) (n : Nat) (x : Pps) : (s.setPps n x).faults = s.faults := rfl
@[simp] theorem State.setPps_time (s : State) (n : Nat) (x : Pps) : (s.setPps n x).time = s.time := rfl
@[simp] theorem State.setPps_plans (s : State) (n : Nat) (x : Pps) : (s.setPps n x).plans = s.plans := rfl
@[simp] theorem State.setPps_refs (s : State) (n : Nat) (x : Pps) : (s.setPps n x).refs = s.refs := rfl
@[simp] theorem State.setPps_dev (s : State) (n : Nat) (x : Pps) : (s.setPps n x).dev = s.dev := rfl
@[simp] theorem State.setPps_ports (s : State) (n : Nat) (x : Pps) : (s.setPps n x).ports = s.ports := rfl
@[simp] theorem State.setPps_fabric (s : State) (n : Nat) (x : Pps) : (s.setPps n x).fabric = s.fabric := rfl
@[simp] theorem State.setPps_gnss (s : State) (n : Nat) (x : Pps) : (s.setPps n x).gnss = s.gnss := rfl
@[simp] theorem State.setPps_serve (s : State) (n : Nat) (x : Pps) : (s.setPps n x).serve = s.serve := rfl
@[simp] theorem State.setPps_keys (s : State) (n : Nat) (x : Pps) : (s.setPps n x).keys = s.keys := rfl
@[simp] theorem State.setPps_media (s : State) (n : Nat) (x : Pps) : (s.setPps n x).media = s.media := rfl
@[simp] theorem State.setPps_free (s : State) (n : Nat) (x : Pps) : (s.setPps n x).free = s.free := rfl
theorem State.ppsChannel_setPps (s : State) (n m : Nat) (x : Pps) : (s.setPps n x).ppsChannel m = if m = n then x else s.ppsChannel m :=
  Table.look_put _ _ _ _ _
@[simp] theorem State.ppsChannel_setPps_self (s : State) (n : Nat) (x : Pps) : (s.setPps n x).ppsChannel n = x :=
  Table.look_put_self _ _ _ _
@[simp] theorem State.objKey_setPps (s : State) (n : Nat) (x : Pps) (k : Nat) : (s.setPps n x).objKey k = s.objKey k := rfl
@[simp] theorem State.obj_setPps (s : State) (n : Nat) (x : Pps) (i j : Nat) : (s.setPps n x).obj i j = s.obj i j := rfl
@[simp] theorem State.objI_setPps (s : State) (n : Nat) (x : Pps) (i j : Nat) : (s.setPps n x).objI i j = s.objI i j := rfl

@[simp] theorem State.setChannel_pending (s : State) (n : Nat) (x : Channel) : (s.setChannel n x).pending = s.pending := rfl
@[simp] theorem State.setChannel_objs (s : State) (n : Nat) (x : Channel) : (s.setChannel n x).objs = s.objs := rfl
@[simp] theorem State.setChannel_clock (s : State) (n : Nat) (x : Channel) : (s.setChannel n x).clock = s.clock := rfl
@[simp] theorem State.setChannel_intake (s : State) (n : Nat) (x : Channel) : (s.setChannel n x).intake = s.intake := rfl
@[simp] theorem State.setChannel_mgmt (s : State) (n : Nat) (x : Channel) : (s.setChannel n x).mgmt = s.mgmt := rfl
@[simp] theorem State.setChannel_groups (s : State) (n : Nat) (x : Channel) : (s.setChannel n x).groups = s.groups := rfl
@[simp] theorem State.setChannel_darkroom (s : State) (n : Nat) (x : Channel) : (s.setChannel n x).darkroom = s.darkroom := rfl
@[simp] theorem State.setChannel_boot (s : State) (n : Nat) (x : Channel) : (s.setChannel n x).boot = s.boot := rfl
@[simp] theorem State.setChannel_twin (s : State) (n : Nat) (x : Channel) : (s.setChannel n x).twin = s.twin := rfl
@[simp] theorem State.setChannel_faults (s : State) (n : Nat) (x : Channel) : (s.setChannel n x).faults = s.faults := rfl
@[simp] theorem State.setChannel_time (s : State) (n : Nat) (x : Channel) : (s.setChannel n x).time = s.time := rfl
@[simp] theorem State.setChannel_plans (s : State) (n : Nat) (x : Channel) : (s.setChannel n x).plans = s.plans := rfl
@[simp] theorem State.setChannel_refs (s : State) (n : Nat) (x : Channel) : (s.setChannel n x).refs = s.refs := rfl
@[simp] theorem State.setChannel_dev (s : State) (n : Nat) (x : Channel) : (s.setChannel n x).dev = s.dev := rfl
@[simp] theorem State.setChannel_ports (s : State) (n : Nat) (x : Channel) : (s.setChannel n x).ports = s.ports := rfl
@[simp] theorem State.setChannel_fabric (s : State) (n : Nat) (x : Channel) : (s.setChannel n x).fabric = s.fabric := rfl
@[simp] theorem State.setChannel_gnss (s : State) (n : Nat) (x : Channel) : (s.setChannel n x).gnss = s.gnss := rfl
@[simp] theorem State.setChannel_serve (s : State) (n : Nat) (x : Channel) : (s.setChannel n x).serve = s.serve := rfl
@[simp] theorem State.setChannel_keys (s : State) (n : Nat) (x : Channel) : (s.setChannel n x).keys = s.keys := rfl
@[simp] theorem State.setChannel_media (s : State) (n : Nat) (x : Channel) : (s.setChannel n x).media = s.media := rfl
@[simp] theorem State.setChannel_free (s : State) (n : Nat) (x : Channel) : (s.setChannel n x).free = s.free := rfl
theorem State.channel_setChannel (s : State) (n m : Nat) (x : Channel) : (s.setChannel n x).channel m = if m = n then x else s.channel m :=
  Table.look_put _ _ _ _ _
@[simp] theorem State.channel_setChannel_self (s : State) (n : Nat) (x : Channel) : (s.setChannel n x).channel n = x :=
  Table.look_put_self _ _ _ _
@[simp] theorem State.objKey_setChannel (s : State) (n : Nat) (x : Channel) (k : Nat) : (s.setChannel n x).objKey k = s.objKey k := rfl
@[simp] theorem State.obj_setChannel (s : State) (n : Nat) (x : Channel) (i j : Nat) : (s.setChannel n x).obj i j = s.obj i j := rfl
@[simp] theorem State.objI_setChannel (s : State) (n : Nat) (x : Channel) (i j : Nat) : (s.setChannel n x).objI i j = s.objI i j := rfl

@[simp] theorem State.setPending_pending (s : State) (n : Nat) (x : Nat) : (s.setPending n x).pending = s.pending := rfl
@[simp] theorem State.setPending_objs (s : State) (n : Nat) (x : Nat) : (s.setPending n x).objs = s.objs := rfl
@[simp] theorem State.setPending_clock (s : State) (n : Nat) (x : Nat) : (s.setPending n x).clock = s.clock := rfl
@[simp] theorem State.setPending_intake (s : State) (n : Nat) (x : Nat) : (s.setPending n x).intake = s.intake := rfl
@[simp] theorem State.setPending_mgmt (s : State) (n : Nat) (x : Nat) : (s.setPending n x).mgmt = s.mgmt := rfl
@[simp] theorem State.setPending_darkroom (s : State) (n : Nat) (x : Nat) : (s.setPending n x).darkroom = s.darkroom := rfl
@[simp] theorem State.setPending_boot (s : State) (n : Nat) (x : Nat) : (s.setPending n x).boot = s.boot := rfl
@[simp] theorem State.setPending_twin (s : State) (n : Nat) (x : Nat) : (s.setPending n x).twin = s.twin := rfl
@[simp] theorem State.setPending_faults (s : State) (n : Nat) (x : Nat) : (s.setPending n x).faults = s.faults := rfl
@[simp] theorem State.setPending_time (s : State) (n : Nat) (x : Nat) : (s.setPending n x).time = s.time := rfl
@[simp] theorem State.setPending_plans (s : State) (n : Nat) (x : Nat) : (s.setPending n x).plans = s.plans := rfl
@[simp] theorem State.setPending_synth (s : State) (n : Nat) (x : Nat) : (s.setPending n x).synth = s.synth := rfl
@[simp] theorem State.setPending_refs (s : State) (n : Nat) (x : Nat) : (s.setPending n x).refs = s.refs := rfl
@[simp] theorem State.setPending_dev (s : State) (n : Nat) (x : Nat) : (s.setPending n x).dev = s.dev := rfl
@[simp] theorem State.setPending_ports (s : State) (n : Nat) (x : Nat) : (s.setPending n x).ports = s.ports := rfl
@[simp] theorem State.setPending_fabric (s : State) (n : Nat) (x : Nat) : (s.setPending n x).fabric = s.fabric := rfl
@[simp] theorem State.setPending_gnss (s : State) (n : Nat) (x : Nat) : (s.setPending n x).gnss = s.gnss := rfl
@[simp] theorem State.setPending_serve (s : State) (n : Nat) (x : Nat) : (s.setPending n x).serve = s.serve := rfl
@[simp] theorem State.setPending_keys (s : State) (n : Nat) (x : Nat) : (s.setPending n x).keys = s.keys := rfl
@[simp] theorem State.setPending_media (s : State) (n : Nat) (x : Nat) : (s.setPending n x).media = s.media := rfl
@[simp] theorem State.setPending_free (s : State) (n : Nat) (x : Nat) : (s.setPending n x).free = s.free := rfl
theorem State.pendingMask_setPending (s : State) (n m : Nat) (x : Nat) : (s.setPending n x).pendingMask m = if m = n then x else s.pendingMask m :=
  Table.look_put _ _ _ _ _
@[simp] theorem State.pendingMask_setPending_self (s : State) (n : Nat) (x : Nat) : (s.setPending n x).pendingMask n = x :=
  Table.look_put_self _ _ _ _
@[simp] theorem State.objKey_setPending (s : State) (n : Nat) (x : Nat) (k : Nat) : (s.setPending n x).objKey k = s.objKey k := rfl
@[simp] theorem State.obj_setPending (s : State) (n : Nat) (x : Nat) (i j : Nat) : (s.setPending n x).obj i j = s.obj i j := rfl
@[simp] theorem State.objI_setPending (s : State) (n : Nat) (x : Nat) (i j : Nat) : (s.setPending n x).objI i j = s.objI i j := rfl

@[simp] theorem State.setWaiting_pending (s : State) (n : Nat) (x : Nat) : (s.setWaiting n x).pending = s.pending := rfl
@[simp] theorem State.setWaiting_objs (s : State) (n : Nat) (x : Nat) : (s.setWaiting n x).objs = s.objs := rfl
@[simp] theorem State.setWaiting_clock (s : State) (n : Nat) (x : Nat) : (s.setWaiting n x).clock = s.clock := rfl
@[simp] theorem State.setWaiting_intake (s : State) (n : Nat) (x : Nat) : (s.setWaiting n x).intake = s.intake := rfl
@[simp] theorem State.setWaiting_mgmt (s : State) (n : Nat) (x : Nat) : (s.setWaiting n x).mgmt = s.mgmt := rfl
@[simp] theorem State.setWaiting_darkroom (s : State) (n : Nat) (x : Nat) : (s.setWaiting n x).darkroom = s.darkroom := rfl
@[simp] theorem State.setWaiting_boot (s : State) (n : Nat) (x : Nat) : (s.setWaiting n x).boot = s.boot := rfl
@[simp] theorem State.setWaiting_twin (s : State) (n : Nat) (x : Nat) : (s.setWaiting n x).twin = s.twin := rfl
@[simp] theorem State.setWaiting_faults (s : State) (n : Nat) (x : Nat) : (s.setWaiting n x).faults = s.faults := rfl
@[simp] theorem State.setWaiting_time (s : State) (n : Nat) (x : Nat) : (s.setWaiting n x).time = s.time := rfl
@[simp] theorem State.setWaiting_plans (s : State) (n : Nat) (x : Nat) : (s.setWaiting n x).plans = s.plans := rfl
@[simp] theorem State.setWaiting_synth (s : State) (n : Nat) (x : Nat) : (s.setWaiting n x).synth = s.synth := rfl
@[simp] theorem State.setWaiting_refs (s : State) (n : Nat) (x : Nat) : (s.setWaiting n x).refs = s.refs := rfl
@[simp] theorem State.setWaiting_dev (s : State) (n : Nat) (x : Nat) : (s.setWaiting n x).dev = s.dev := rfl
@[simp] theorem State.setWaiting_ports (s : State) (n : Nat) (x : Nat) : (s.setWaiting n x).ports = s.ports := rfl
@[simp] theorem State.setWaiting_fabric (s : State) (n : Nat) (x : Nat) : (s.setWaiting n x).fabric = s.fabric := rfl
@[simp] theorem State.setWaiting_gnss (s : State) (n : Nat) (x : Nat) : (s.setWaiting n x).gnss = s.gnss := rfl
@[simp] theorem State.setWaiting_serve (s : State) (n : Nat) (x : Nat) : (s.setWaiting n x).serve = s.serve := rfl
@[simp] theorem State.setWaiting_keys (s : State) (n : Nat) (x : Nat) : (s.setWaiting n x).keys = s.keys := rfl
@[simp] theorem State.setWaiting_media (s : State) (n : Nat) (x : Nat) : (s.setWaiting n x).media = s.media := rfl
@[simp] theorem State.setWaiting_free (s : State) (n : Nat) (x : Nat) : (s.setWaiting n x).free = s.free := rfl
theorem State.waitingMask_setWaiting (s : State) (n m : Nat) (x : Nat) : (s.setWaiting n x).waitingMask m = if m = n then x else s.waitingMask m :=
  Table.look_put _ _ _ _ _
@[simp] theorem State.waitingMask_setWaiting_self (s : State) (n : Nat) (x : Nat) : (s.setWaiting n x).waitingMask n = x :=
  Table.look_put_self _ _ _ _
@[simp] theorem State.objKey_setWaiting (s : State) (n : Nat) (x : Nat) (k : Nat) : (s.setWaiting n x).objKey k = s.objKey k := rfl
@[simp] theorem State.obj_setWaiting (s : State) (n : Nat) (x : Nat) (i j : Nat) : (s.setWaiting n x).obj i j = s.obj i j := rfl
@[simp] theorem State.objI_setWaiting (s : State) (n : Nat) (x : Nat) (i j : Nat) : (s.setWaiting n x).objI i j = s.objI i j := rfl

@[simp] theorem State.setRefused_pending (s : State) (n : Nat) (x : Nat) : (s.setRefused n x).pending = s.pending := rfl
@[simp] theorem State.setRefused_objs (s : State) (n : Nat) (x : Nat) : (s.setRefused n x).objs = s.objs := rfl
@[simp] theorem State.setRefused_clock (s : State) (n : Nat) (x : Nat) : (s.setRefused n x).clock = s.clock := rfl
@[simp] theorem State.setRefused_intake (s : State) (n : Nat) (x : Nat) : (s.setRefused n x).intake = s.intake := rfl
@[simp] theorem State.setRefused_mgmt (s : State) (n : Nat) (x : Nat) : (s.setRefused n x).mgmt = s.mgmt := rfl
@[simp] theorem State.setRefused_darkroom (s : State) (n : Nat) (x : Nat) : (s.setRefused n x).darkroom = s.darkroom := rfl
@[simp] theorem State.setRefused_boot (s : State) (n : Nat) (x : Nat) : (s.setRefused n x).boot = s.boot := rfl
@[simp] theorem State.setRefused_twin (s : State) (n : Nat) (x : Nat) : (s.setRefused n x).twin = s.twin := rfl
@[simp] theorem State.setRefused_faults (s : State) (n : Nat) (x : Nat) : (s.setRefused n x).faults = s.faults := rfl
@[simp] theorem State.setRefused_time (s : State) (n : Nat) (x : Nat) : (s.setRefused n x).time = s.time := rfl
@[simp] theorem State.setRefused_plans (s : State) (n : Nat) (x : Nat) : (s.setRefused n x).plans = s.plans := rfl
@[simp] theorem State.setRefused_synth (s : State) (n : Nat) (x : Nat) : (s.setRefused n x).synth = s.synth := rfl
@[simp] theorem State.setRefused_refs (s : State) (n : Nat) (x : Nat) : (s.setRefused n x).refs = s.refs := rfl
@[simp] theorem State.setRefused_dev (s : State) (n : Nat) (x : Nat) : (s.setRefused n x).dev = s.dev := rfl
@[simp] theorem State.setRefused_ports (s : State) (n : Nat) (x : Nat) : (s.setRefused n x).ports = s.ports := rfl
@[simp] theorem State.setRefused_fabric (s : State) (n : Nat) (x : Nat) : (s.setRefused n x).fabric = s.fabric := rfl
@[simp] theorem State.setRefused_gnss (s : State) (n : Nat) (x : Nat) : (s.setRefused n x).gnss = s.gnss := rfl
@[simp] theorem State.setRefused_serve (s : State) (n : Nat) (x : Nat) : (s.setRefused n x).serve = s.serve := rfl
@[simp] theorem State.setRefused_keys (s : State) (n : Nat) (x : Nat) : (s.setRefused n x).keys = s.keys := rfl
@[simp] theorem State.setRefused_media (s : State) (n : Nat) (x : Nat) : (s.setRefused n x).media = s.media := rfl
@[simp] theorem State.setRefused_free (s : State) (n : Nat) (x : Nat) : (s.setRefused n x).free = s.free := rfl
theorem State.refusedMask_setRefused (s : State) (n m : Nat) (x : Nat) : (s.setRefused n x).refusedMask m = if m = n then x else s.refusedMask m :=
  Table.look_put _ _ _ _ _
@[simp] theorem State.refusedMask_setRefused_self (s : State) (n : Nat) (x : Nat) : (s.setRefused n x).refusedMask n = x :=
  Table.look_put_self _ _ _ _
@[simp] theorem State.objKey_setRefused (s : State) (n : Nat) (x : Nat) (k : Nat) : (s.setRefused n x).objKey k = s.objKey k := rfl
@[simp] theorem State.obj_setRefused (s : State) (n : Nat) (x : Nat) (i j : Nat) : (s.setRefused n x).obj i j = s.obj i j := rfl
@[simp] theorem State.objI_setRefused (s : State) (n : Nat) (x : Nat) (i j : Nat) : (s.setRefused n x).objI i j = s.objI i j := rfl

@[simp] theorem State.setLine_pending (s : State) (p n : Nat) (x : Line) : (s.setLine p n x).pending = s.pending := rfl
@[simp] theorem State.setLine_objs (s : State) (p n : Nat) (x : Line) : (s.setLine p n x).objs = s.objs := rfl
@[simp] theorem State.setLine_clock (s : State) (p n : Nat) (x : Line) : (s.setLine p n x).clock = s.clock := rfl
@[simp] theorem State.setLine_intake (s : State) (p n : Nat) (x : Line) : (s.setLine p n x).intake = s.intake := rfl
@[simp] theorem State.setLine_mgmt (s : State) (p n : Nat) (x : Line) : (s.setLine p n x).mgmt = s.mgmt := rfl
@[simp] theorem State.setLine_groups (s : State) (p n : Nat) (x : Line) : (s.setLine p n x).groups = s.groups := rfl
@[simp] theorem State.setLine_darkroom (s : State) (p n : Nat) (x : Line) : (s.setLine p n x).darkroom = s.darkroom := rfl
@[simp] theorem State.setLine_boot (s : State) (p n : Nat) (x : Line) : (s.setLine p n x).boot = s.boot := rfl
@[simp] theorem State.setLine_twin (s : State) (p n : Nat) (x : Line) : (s.setLine p n x).twin = s.twin := rfl
@[simp] theorem State.setLine_time (s : State) (p n : Nat) (x : Line) : (s.setLine p n x).time = s.time := rfl
@[simp] theorem State.setLine_plans (s : State) (p n : Nat) (x : Line) : (s.setLine p n x).plans = s.plans := rfl
@[simp] theorem State.setLine_synth (s : State) (p n : Nat) (x : Line) : (s.setLine p n x).synth = s.synth := rfl
@[simp] theorem State.setLine_refs (s : State) (p n : Nat) (x : Line) : (s.setLine p n x).refs = s.refs := rfl
@[simp] theorem State.setLine_dev (s : State) (p n : Nat) (x : Line) : (s.setLine p n x).dev = s.dev := rfl
@[simp] theorem State.setLine_ports (s : State) (p n : Nat) (x : Line) : (s.setLine p n x).ports = s.ports := rfl
@[simp] theorem State.setLine_fabric (s : State) (p n : Nat) (x : Line) : (s.setLine p n x).fabric = s.fabric := rfl
@[simp] theorem State.setLine_gnss (s : State) (p n : Nat) (x : Line) : (s.setLine p n x).gnss = s.gnss := rfl
@[simp] theorem State.setLine_serve (s : State) (p n : Nat) (x : Line) : (s.setLine p n x).serve = s.serve := rfl
@[simp] theorem State.setLine_keys (s : State) (p n : Nat) (x : Line) : (s.setLine p n x).keys = s.keys := rfl
@[simp] theorem State.setLine_media (s : State) (p n : Nat) (x : Line) : (s.setLine p n x).media = s.media := rfl
@[simp] theorem State.setLine_free (s : State) (p n : Nat) (x : Line) : (s.setLine p n x).free = s.free := rfl
@[simp] theorem State.line_setLine_self (s : State) (p n : Nat) (x : Line) : (s.setLine p n x).line p n = x :=
  Table.look_put_self _ _ _ _
@[simp] theorem State.objKey_setLine (s : State) (p n : Nat) (x : Line) (k : Nat) : (s.setLine p n x).objKey k = s.objKey k := rfl
@[simp] theorem State.obj_setLine (s : State) (p n : Nat) (x : Line) (i j : Nat) : (s.setLine p n x).obj i j = s.obj i j := rfl
@[simp] theorem State.objI_setLine (s : State) (p n : Nat) (x : Line) (i j : Nat) : (s.setLine p n x).objI i j = s.objI i j := rfl

@[simp] theorem State.setQueue_pending (s : State) (p n : Nat) (x : List QFrame) : (s.setQueue p n x).pending = s.pending := rfl
@[simp] theorem State.setQueue_objs (s : State) (p n : Nat) (x : List QFrame) : (s.setQueue p n x).objs = s.objs := rfl
@[simp] theorem State.setQueue_clock (s : State) (p n : Nat) (x : List QFrame) : (s.setQueue p n x).clock = s.clock := rfl
@[simp] theorem State.setQueue_intake (s : State) (p n : Nat) (x : List QFrame) : (s.setQueue p n x).intake = s.intake := rfl
@[simp] theorem State.setQueue_mgmt (s : State) (p n : Nat) (x : List QFrame) : (s.setQueue p n x).mgmt = s.mgmt := rfl
@[simp] theorem State.setQueue_groups (s : State) (p n : Nat) (x : List QFrame) : (s.setQueue p n x).groups = s.groups := rfl
@[simp] theorem State.setQueue_darkroom (s : State) (p n : Nat) (x : List QFrame) : (s.setQueue p n x).darkroom = s.darkroom := rfl
@[simp] theorem State.setQueue_boot (s : State) (p n : Nat) (x : List QFrame) : (s.setQueue p n x).boot = s.boot := rfl
@[simp] theorem State.setQueue_twin (s : State) (p n : Nat) (x : List QFrame) : (s.setQueue p n x).twin = s.twin := rfl
@[simp] theorem State.setQueue_faults (s : State) (p n : Nat) (x : List QFrame) : (s.setQueue p n x).faults = s.faults := rfl
@[simp] theorem State.setQueue_time (s : State) (p n : Nat) (x : List QFrame) : (s.setQueue p n x).time = s.time := rfl
@[simp] theorem State.setQueue_plans (s : State) (p n : Nat) (x : List QFrame) : (s.setQueue p n x).plans = s.plans := rfl
@[simp] theorem State.setQueue_synth (s : State) (p n : Nat) (x : List QFrame) : (s.setQueue p n x).synth = s.synth := rfl
@[simp] theorem State.setQueue_refs (s : State) (p n : Nat) (x : List QFrame) : (s.setQueue p n x).refs = s.refs := rfl
@[simp] theorem State.setQueue_dev (s : State) (p n : Nat) (x : List QFrame) : (s.setQueue p n x).dev = s.dev := rfl
@[simp] theorem State.setQueue_ports (s : State) (p n : Nat) (x : List QFrame) : (s.setQueue p n x).ports = s.ports := rfl
@[simp] theorem State.setQueue_gnss (s : State) (p n : Nat) (x : List QFrame) : (s.setQueue p n x).gnss = s.gnss := rfl
@[simp] theorem State.setQueue_serve (s : State) (p n : Nat) (x : List QFrame) : (s.setQueue p n x).serve = s.serve := rfl
@[simp] theorem State.setQueue_keys (s : State) (p n : Nat) (x : List QFrame) : (s.setQueue p n x).keys = s.keys := rfl
@[simp] theorem State.setQueue_media (s : State) (p n : Nat) (x : List QFrame) : (s.setQueue p n x).media = s.media := rfl
@[simp] theorem State.setQueue_free (s : State) (p n : Nat) (x : List QFrame) : (s.setQueue p n x).free = s.free := rfl
@[simp] theorem State.queue_setQueue_self (s : State) (p n : Nat) (x : List QFrame) : (s.setQueue p n x).queue p n = x :=
  Table.look_put_self _ _ _ _
@[simp] theorem State.objKey_setQueue (s : State) (p n : Nat) (x : List QFrame) (k : Nat) : (s.setQueue p n x).objKey k = s.objKey k := rfl
@[simp] theorem State.obj_setQueue (s : State) (p n : Nat) (x : List QFrame) (i j : Nat) : (s.setQueue p n x).obj i j = s.obj i j := rfl
@[simp] theorem State.objI_setQueue (s : State) (p n : Nat) (x : List QFrame) (i j : Nat) : (s.setQueue p n x).objI i j = s.objI i j := rfl

@[simp] theorem State.setDomain_pending (s : State) (p n : Nat) (x : Domain) : (s.setDomain p n x).pending = s.pending := rfl
@[simp] theorem State.setDomain_objs (s : State) (p n : Nat) (x : Domain) : (s.setDomain p n x).objs = s.objs := rfl
@[simp] theorem State.setDomain_clock (s : State) (p n : Nat) (x : Domain) : (s.setDomain p n x).clock = s.clock := rfl
@[simp] theorem State.setDomain_intake (s : State) (p n : Nat) (x : Domain) : (s.setDomain p n x).intake = s.intake := rfl
@[simp] theorem State.setDomain_mgmt (s : State) (p n : Nat) (x : Domain) : (s.setDomain p n x).mgmt = s.mgmt := rfl
@[simp] theorem State.setDomain_groups (s : State) (p n : Nat) (x : Domain) : (s.setDomain p n x).groups = s.groups := rfl
@[simp] theorem State.setDomain_darkroom (s : State) (p n : Nat) (x : Domain) : (s.setDomain p n x).darkroom = s.darkroom := rfl
@[simp] theorem State.setDomain_boot (s : State) (p n : Nat) (x : Domain) : (s.setDomain p n x).boot = s.boot := rfl
@[simp] theorem State.setDomain_twin (s : State) (p n : Nat) (x : Domain) : (s.setDomain p n x).twin = s.twin := rfl
@[simp] theorem State.setDomain_faults (s : State) (p n : Nat) (x : Domain) : (s.setDomain p n x).faults = s.faults := rfl
@[simp] theorem State.setDomain_time (s : State) (p n : Nat) (x : Domain) : (s.setDomain p n x).time = s.time := rfl
@[simp] theorem State.setDomain_synth (s : State) (p n : Nat) (x : Domain) : (s.setDomain p n x).synth = s.synth := rfl
@[simp] theorem State.setDomain_refs (s : State) (p n : Nat) (x : Domain) : (s.setDomain p n x).refs = s.refs := rfl
@[simp] theorem State.setDomain_dev (s : State) (p n : Nat) (x : Domain) : (s.setDomain p n x).dev = s.dev := rfl
@[simp] theorem State.setDomain_ports (s : State) (p n : Nat) (x : Domain) : (s.setDomain p n x).ports = s.ports := rfl
@[simp] theorem State.setDomain_fabric (s : State) (p n : Nat) (x : Domain) : (s.setDomain p n x).fabric = s.fabric := rfl
@[simp] theorem State.setDomain_gnss (s : State) (p n : Nat) (x : Domain) : (s.setDomain p n x).gnss = s.gnss := rfl
@[simp] theorem State.setDomain_serve (s : State) (p n : Nat) (x : Domain) : (s.setDomain p n x).serve = s.serve := rfl
@[simp] theorem State.setDomain_keys (s : State) (p n : Nat) (x : Domain) : (s.setDomain p n x).keys = s.keys := rfl
@[simp] theorem State.setDomain_media (s : State) (p n : Nat) (x : Domain) : (s.setDomain p n x).media = s.media := rfl
@[simp] theorem State.setDomain_free (s : State) (p n : Nat) (x : Domain) : (s.setDomain p n x).free = s.free := rfl
@[simp] theorem State.domain_setDomain_self (s : State) (p n : Nat) (x : Domain) : (s.setDomain p n x).domain p n = x :=
  Table.look_put_self _ _ _ _
@[simp] theorem State.objKey_setDomain (s : State) (p n : Nat) (x : Domain) (k : Nat) : (s.setDomain p n x).objKey k = s.objKey k := rfl
@[simp] theorem State.obj_setDomain (s : State) (p n : Nat) (x : Domain) (i j : Nat) : (s.setDomain p n x).obj i j = s.obj i j := rfl
@[simp] theorem State.objI_setDomain (s : State) (p n : Nat) (x : Domain) (i j : Nat) : (s.setDomain p n x).objI i j = s.objI i j := rfl

@[simp] theorem State.setPosition_pending (s : State) (p n : Nat) (x : Position) : (s.setPosition p n x).pending = s.pending := rfl
@[simp] theorem State.setPosition_objs (s : State) (p n : Nat) (x : Position) : (s.setPosition p n x).objs = s.objs := rfl
@[simp] theorem State.setPosition_clock (s : State) (p n : Nat) (x : Position) : (s.setPosition p n x).clock = s.clock := rfl
@[simp] theorem State.setPosition_intake (s : State) (p n : Nat) (x : Position) : (s.setPosition p n x).intake = s.intake := rfl
@[simp] theorem State.setPosition_mgmt (s : State) (p n : Nat) (x : Position) : (s.setPosition p n x).mgmt = s.mgmt := rfl
@[simp] theorem State.setPosition_groups (s : State) (p n : Nat) (x : Position) : (s.setPosition p n x).groups = s.groups := rfl
@[simp] theorem State.setPosition_darkroom (s : State) (p n : Nat) (x : Position) : (s.setPosition p n x).darkroom = s.darkroom := rfl
@[simp] theorem State.setPosition_boot (s : State) (p n : Nat) (x : Position) : (s.setPosition p n x).boot = s.boot := rfl
@[simp] theorem State.setPosition_twin (s : State) (p n : Nat) (x : Position) : (s.setPosition p n x).twin = s.twin := rfl
@[simp] theorem State.setPosition_faults (s : State) (p n : Nat) (x : Position) : (s.setPosition p n x).faults = s.faults := rfl
@[simp] theorem State.setPosition_time (s : State) (p n : Nat) (x : Position) : (s.setPosition p n x).time = s.time := rfl
@[simp] theorem State.setPosition_plans (s : State) (p n : Nat) (x : Position) : (s.setPosition p n x).plans = s.plans := rfl
@[simp] theorem State.setPosition_synth (s : State) (p n : Nat) (x : Position) : (s.setPosition p n x).synth = s.synth := rfl
@[simp] theorem State.setPosition_refs (s : State) (p n : Nat) (x : Position) : (s.setPosition p n x).refs = s.refs := rfl
@[simp] theorem State.setPosition_dev (s : State) (p n : Nat) (x : Position) : (s.setPosition p n x).dev = s.dev := rfl
@[simp] theorem State.setPosition_ports (s : State) (p n : Nat) (x : Position) : (s.setPosition p n x).ports = s.ports := rfl
@[simp] theorem State.setPosition_fabric (s : State) (p n : Nat) (x : Position) : (s.setPosition p n x).fabric = s.fabric := rfl
@[simp] theorem State.setPosition_gnss (s : State) (p n : Nat) (x : Position) : (s.setPosition p n x).gnss = s.gnss := rfl
@[simp] theorem State.setPosition_keys (s : State) (p n : Nat) (x : Position) : (s.setPosition p n x).keys = s.keys := rfl
@[simp] theorem State.setPosition_media (s : State) (p n : Nat) (x : Position) : (s.setPosition p n x).media = s.media := rfl
@[simp] theorem State.setPosition_free (s : State) (p n : Nat) (x : Position) : (s.setPosition p n x).free = s.free := rfl
@[simp] theorem State.position_setPosition_self (s : State) (p n : Nat) (x : Position) : (s.setPosition p n x).position p n = x :=
  Table.look_put_self _ _ _ _
@[simp] theorem State.objKey_setPosition (s : State) (p n : Nat) (x : Position) (k : Nat) : (s.setPosition p n x).objKey k = s.objKey k := rfl
@[simp] theorem State.obj_setPosition (s : State) (p n : Nat) (x : Position) (i j : Nat) : (s.setPosition p n x).obj i j = s.obj i j := rfl
@[simp] theorem State.objI_setPosition (s : State) (p n : Nat) (x : Position) (i j : Nat) : (s.setPosition p n x).objI i j = s.objI i j := rfl

@[simp] theorem State.setStream_pending (s : State) (p n : Nat) (x : Stream) : (s.setStream p n x).pending = s.pending := rfl
@[simp] theorem State.setStream_objs (s : State) (p n : Nat) (x : Stream) : (s.setStream p n x).objs = s.objs := rfl
@[simp] theorem State.setStream_clock (s : State) (p n : Nat) (x : Stream) : (s.setStream p n x).clock = s.clock := rfl
@[simp] theorem State.setStream_intake (s : State) (p n : Nat) (x : Stream) : (s.setStream p n x).intake = s.intake := rfl
@[simp] theorem State.setStream_mgmt (s : State) (p n : Nat) (x : Stream) : (s.setStream p n x).mgmt = s.mgmt := rfl
@[simp] theorem State.setStream_groups (s : State) (p n : Nat) (x : Stream) : (s.setStream p n x).groups = s.groups := rfl
@[simp] theorem State.setStream_darkroom (s : State) (p n : Nat) (x : Stream) : (s.setStream p n x).darkroom = s.darkroom := rfl
@[simp] theorem State.setStream_boot (s : State) (p n : Nat) (x : Stream) : (s.setStream p n x).boot = s.boot := rfl
@[simp] theorem State.setStream_twin (s : State) (p n : Nat) (x : Stream) : (s.setStream p n x).twin = s.twin := rfl
@[simp] theorem State.setStream_faults (s : State) (p n : Nat) (x : Stream) : (s.setStream p n x).faults = s.faults := rfl
@[simp] theorem State.setStream_time (s : State) (p n : Nat) (x : Stream) : (s.setStream p n x).time = s.time := rfl
@[simp] theorem State.setStream_plans (s : State) (p n : Nat) (x : Stream) : (s.setStream p n x).plans = s.plans := rfl
@[simp] theorem State.setStream_synth (s : State) (p n : Nat) (x : Stream) : (s.setStream p n x).synth = s.synth := rfl
@[simp] theorem State.setStream_refs (s : State) (p n : Nat) (x : Stream) : (s.setStream p n x).refs = s.refs := rfl
@[simp] theorem State.setStream_dev (s : State) (p n : Nat) (x : Stream) : (s.setStream p n x).dev = s.dev := rfl
@[simp] theorem State.setStream_ports (s : State) (p n : Nat) (x : Stream) : (s.setStream p n x).ports = s.ports := rfl
@[simp] theorem State.setStream_fabric (s : State) (p n : Nat) (x : Stream) : (s.setStream p n x).fabric = s.fabric := rfl
@[simp] theorem State.setStream_gnss (s : State) (p n : Nat) (x : Stream) : (s.setStream p n x).gnss = s.gnss := rfl
@[simp] theorem State.setStream_keys (s : State) (p n : Nat) (x : Stream) : (s.setStream p n x).keys = s.keys := rfl
@[simp] theorem State.setStream_media (s : State) (p n : Nat) (x : Stream) : (s.setStream p n x).media = s.media := rfl
@[simp] theorem State.setStream_free (s : State) (p n : Nat) (x : Stream) : (s.setStream p n x).free = s.free := rfl
@[simp] theorem State.stream_setStream_self (s : State) (p n : Nat) (x : Stream) : (s.setStream p n x).stream p n = x :=
  Table.look_put_self _ _ _ _
@[simp] theorem State.objKey_setStream (s : State) (p n : Nat) (x : Stream) (k : Nat) : (s.setStream p n x).objKey k = s.objKey k := rfl
@[simp] theorem State.obj_setStream (s : State) (p n : Nat) (x : Stream) (i j : Nat) : (s.setStream p n x).obj i j = s.obj i j := rfl
@[simp] theorem State.objI_setStream (s : State) (p n : Nat) (x : Stream) (i j : Nat) : (s.setStream p n x).objI i j = s.objI i j := rfl

end Sys2Proof.Machine
end

