-- ==== Sys2Proof/Laws/Ops.lean ====
section
/-! SUPPORT. What the shared operations leave: frames to the host, emergency messages, records of events, responses. -/

namespace Sys2Proof.Machine

set_option linter.all false

@[simp] theorem State.pushSpi_pending (s : State) (f : OutFrame) : (s.pushSpi f).pending = s.pending := by
  unfold State.pushSpi; repeat' split
  all_goals simp
@[simp] theorem State.pushSpi_clock (s : State) (f : OutFrame) : (s.pushSpi f).clock = s.clock := by
  unfold State.pushSpi; repeat' split
  all_goals simp
@[simp] theorem State.pushSpi_intake (s : State) (f : OutFrame) : (s.pushSpi f).intake = s.intake := by
  unfold State.pushSpi; repeat' split
  all_goals simp
@[simp] theorem State.pushSpi_groups (s : State) (f : OutFrame) : (s.pushSpi f).groups = s.groups := by
  unfold State.pushSpi; repeat' split
  all_goals simp
@[simp] theorem State.pushSpi_darkroom (s : State) (f : OutFrame) : (s.pushSpi f).darkroom = s.darkroom := by
  unfold State.pushSpi; repeat' split
  all_goals simp
@[simp] theorem State.pushSpi_boot (s : State) (f : OutFrame) : (s.pushSpi f).boot = s.boot := by
  unfold State.pushSpi; repeat' split
  all_goals simp
@[simp] theorem State.pushSpi_twin (s : State) (f : OutFrame) : (s.pushSpi f).twin = s.twin := by
  unfold State.pushSpi; repeat' split
  all_goals simp
@[simp] theorem State.pushSpi_faults (s : State) (f : OutFrame) : (s.pushSpi f).faults = s.faults := by
  unfold State.pushSpi; repeat' split
  all_goals simp
@[simp] theorem State.pushSpi_time (s : State) (f : OutFrame) : (s.pushSpi f).time = s.time := by
  unfold State.pushSpi; repeat' split
  all_goals simp
@[simp] theorem State.pushSpi_plans (s : State) (f : OutFrame) : (s.pushSpi f).plans = s.plans := by
  unfold State.pushSpi; repeat' split
  all_goals simp
@[simp] theorem State.pushSpi_synth (s : State) (f : OutFrame) : (s.pushSpi f).synth = s.synth := by
  unfold State.pushSpi; repeat' split
  all_goals simp
@[simp] theorem State.pushSpi_refs (s : State) (f : OutFrame) : (s.pushSpi f).refs = s.refs := by
  unfold State.pushSpi; repeat' split
  all_goals simp
@[simp] theorem State.pushSpi_dev (s : State) (f : OutFrame) : (s.pushSpi f).dev = s.dev := by
  unfold State.pushSpi; repeat' split
  all_goals simp
@[simp] theorem State.pushSpi_ports (s : State) (f : OutFrame) : (s.pushSpi f).ports = s.ports := by
  unfold State.pushSpi; repeat' split
  all_goals simp
@[simp] theorem State.pushSpi_fabric (s : State) (f : OutFrame) : (s.pushSpi f).fabric = s.fabric := by
  unfold State.pushSpi; repeat' split
  all_goals simp
@[simp] theorem State.pushSpi_gnss (s : State) (f : OutFrame) : (s.pushSpi f).gnss = s.gnss := by
  unfold State.pushSpi; repeat' split
  all_goals simp
@[simp] theorem State.pushSpi_serve (s : State) (f : OutFrame) : (s.pushSpi f).serve = s.serve := by
  unfold State.pushSpi; repeat' split
  all_goals simp
@[simp] theorem State.pushSpi_keys (s : State) (f : OutFrame) : (s.pushSpi f).keys = s.keys := by
  unfold State.pushSpi; repeat' split
  all_goals simp
@[simp] theorem State.pushSpi_media (s : State) (f : OutFrame) : (s.pushSpi f).media = s.media := by
  unfold State.pushSpi; repeat' split
  all_goals simp
@[simp] theorem State.pushSpi_free (s : State) (f : OutFrame) : (s.pushSpi f).free = s.free := by
  unfold State.pushSpi; repeat' split
  all_goals simp

@[simp] theorem State.pushCan_pending (s : State) (f : OutFrame) : (s.pushCan f).pending = s.pending := by
  rfl
@[simp] theorem State.pushCan_objs (s : State) (f : OutFrame) : (s.pushCan f).objs = s.objs := by
  rfl
@[simp] theorem State.pushCan_clock (s : State) (f : OutFrame) : (s.pushCan f).clock = s.clock := by
  rfl
@[simp] theorem State.pushCan_intake (s : State) (f : OutFrame) : (s.pushCan f).intake = s.intake := by
  rfl
@[simp] theorem State.pushCan_groups (s : State) (f : OutFrame) : (s.pushCan f).groups = s.groups := by
  rfl
@[simp] theorem State.pushCan_darkroom (s : State) (f : OutFrame) : (s.pushCan f).darkroom = s.darkroom := by
  rfl
@[simp] theorem State.pushCan_boot (s : State) (f : OutFrame) : (s.pushCan f).boot = s.boot := by
  rfl
@[simp] theorem State.pushCan_twin (s : State) (f : OutFrame) : (s.pushCan f).twin = s.twin := by
  rfl
@[simp] theorem State.pushCan_faults (s : State) (f : OutFrame) : (s.pushCan f).faults = s.faults := by
  rfl
@[simp] theorem State.pushCan_time (s : State) (f : OutFrame) : (s.pushCan f).time = s.time := by
  rfl
@[simp] theorem State.pushCan_plans (s : State) (f : OutFrame) : (s.pushCan f).plans = s.plans := by
  rfl
@[simp] theorem State.pushCan_synth (s : State) (f : OutFrame) : (s.pushCan f).synth = s.synth := by
  rfl
@[simp] theorem State.pushCan_refs (s : State) (f : OutFrame) : (s.pushCan f).refs = s.refs := by
  rfl
@[simp] theorem State.pushCan_dev (s : State) (f : OutFrame) : (s.pushCan f).dev = s.dev := by
  rfl
@[simp] theorem State.pushCan_ports (s : State) (f : OutFrame) : (s.pushCan f).ports = s.ports := by
  rfl
@[simp] theorem State.pushCan_fabric (s : State) (f : OutFrame) : (s.pushCan f).fabric = s.fabric := by
  rfl
@[simp] theorem State.pushCan_gnss (s : State) (f : OutFrame) : (s.pushCan f).gnss = s.gnss := by
  rfl
@[simp] theorem State.pushCan_serve (s : State) (f : OutFrame) : (s.pushCan f).serve = s.serve := by
  rfl
@[simp] theorem State.pushCan_keys (s : State) (f : OutFrame) : (s.pushCan f).keys = s.keys := by
  rfl
@[simp] theorem State.pushCan_media (s : State) (f : OutFrame) : (s.pushCan f).media = s.media := by
  rfl
@[simp] theorem State.pushCan_free (s : State) (f : OutFrame) : (s.pushCan f).free = s.free := by
  rfl

@[simp] theorem State.loseEmcy_pending (s : State)  : (s.loseEmcy ).pending = s.pending := by
  simp [State.loseEmcy]
@[simp] theorem State.loseEmcy_clock (s : State)  : (s.loseEmcy ).clock = s.clock := by
  simp [State.loseEmcy]
@[simp] theorem State.loseEmcy_intake (s : State)  : (s.loseEmcy ).intake = s.intake := by
  simp [State.loseEmcy]
@[simp] theorem State.loseEmcy_groups (s : State)  : (s.loseEmcy ).groups = s.groups := by
  simp [State.loseEmcy]
@[simp] theorem State.loseEmcy_darkroom (s : State)  : (s.loseEmcy ).darkroom = s.darkroom := by
  simp [State.loseEmcy]
@[simp] theorem State.loseEmcy_boot (s : State)  : (s.loseEmcy ).boot = s.boot := by
  simp [State.loseEmcy]
@[simp] theorem State.loseEmcy_twin (s : State)  : (s.loseEmcy ).twin = s.twin := by
  simp [State.loseEmcy]
@[simp] theorem State.loseEmcy_faults (s : State)  : (s.loseEmcy ).faults = s.faults := by
  simp [State.loseEmcy]
@[simp] theorem State.loseEmcy_time (s : State)  : (s.loseEmcy ).time = s.time := by
  simp [State.loseEmcy]
@[simp] theorem State.loseEmcy_plans (s : State)  : (s.loseEmcy ).plans = s.plans := by
  simp [State.loseEmcy]
@[simp] theorem State.loseEmcy_synth (s : State)  : (s.loseEmcy ).synth = s.synth := by
  simp [State.loseEmcy]
@[simp] theorem State.loseEmcy_refs (s : State)  : (s.loseEmcy ).refs = s.refs := by
  simp [State.loseEmcy]
@[simp] theorem State.loseEmcy_dev (s : State)  : (s.loseEmcy ).dev = s.dev := by
  simp [State.loseEmcy]
@[simp] theorem State.loseEmcy_ports (s : State)  : (s.loseEmcy ).ports = s.ports := by
  simp [State.loseEmcy]
@[simp] theorem State.loseEmcy_fabric (s : State)  : (s.loseEmcy ).fabric = s.fabric := by
  simp [State.loseEmcy]
@[simp] theorem State.loseEmcy_gnss (s : State)  : (s.loseEmcy ).gnss = s.gnss := by
  simp [State.loseEmcy]
@[simp] theorem State.loseEmcy_serve (s : State)  : (s.loseEmcy ).serve = s.serve := by
  simp [State.loseEmcy]
@[simp] theorem State.loseEmcy_keys (s : State)  : (s.loseEmcy ).keys = s.keys := by
  simp [State.loseEmcy]
@[simp] theorem State.loseEmcy_media (s : State)  : (s.loseEmcy ).media = s.media := by
  simp [State.loseEmcy]
@[simp] theorem State.loseEmcy_free (s : State)  : (s.loseEmcy ).free = s.free := by
  simp [State.loseEmcy]

@[simp] theorem State.emcy_pending (s : State) (c p d : Nat) : (s.emcy c p d).pending = s.pending := by
  unfold State.emcy; dsimp only; repeat' split
  all_goals simp
@[simp] theorem State.emcy_clock (s : State) (c p d : Nat) : (s.emcy c p d).clock = s.clock := by
  unfold State.emcy; dsimp only; repeat' split
  all_goals simp
@[simp] theorem State.emcy_intake (s : State) (c p d : Nat) : (s.emcy c p d).intake = s.intake := by
  unfold State.emcy; dsimp only; repeat' split
  all_goals simp
@[simp] theorem State.emcy_groups (s : State) (c p d : Nat) : (s.emcy c p d).groups = s.groups := by
  unfold State.emcy; dsimp only; repeat' split
  all_goals simp
@[simp] theorem State.emcy_darkroom (s : State) (c p d : Nat) : (s.emcy c p d).darkroom = s.darkroom := by
  unfold State.emcy; dsimp only; repeat' split
  all_goals simp
@[simp] theorem State.emcy_boot (s : State) (c p d : Nat) : (s.emcy c p d).boot = s.boot := by
  unfold State.emcy; dsimp only; repeat' split
  all_goals simp
@[simp] theorem State.emcy_twin (s : State) (c p d : Nat) : (s.emcy c p d).twin = s.twin := by
  unfold State.emcy; dsimp only; repeat' split
  all_goals simp
@[simp] theorem State.emcy_faults (s : State) (c p d : Nat) : (s.emcy c p d).faults = s.faults := by
  unfold State.emcy; dsimp only; repeat' split
  all_goals simp
@[simp] theorem State.emcy_time (s : State) (c p d : Nat) : (s.emcy c p d).time = s.time := by
  unfold State.emcy; dsimp only; repeat' split
  all_goals simp
@[simp] theorem State.emcy_plans (s : State) (c p d : Nat) : (s.emcy c p d).plans = s.plans := by
  unfold State.emcy; dsimp only; repeat' split
  all_goals simp
@[simp] theorem State.emcy_synth (s : State) (c p d : Nat) : (s.emcy c p d).synth = s.synth := by
  unfold State.emcy; dsimp only; repeat' split
  all_goals simp
@[simp] theorem State.emcy_refs (s : State) (c p d : Nat) : (s.emcy c p d).refs = s.refs := by
  unfold State.emcy; dsimp only; repeat' split
  all_goals simp
@[simp] theorem State.emcy_dev (s : State) (c p d : Nat) : (s.emcy c p d).dev = s.dev := by
  unfold State.emcy; dsimp only; repeat' split
  all_goals simp
@[simp] theorem State.emcy_ports (s : State) (c p d : Nat) : (s.emcy c p d).ports = s.ports := by
  unfold State.emcy; dsimp only; repeat' split
  all_goals simp
@[simp] theorem State.emcy_fabric (s : State) (c p d : Nat) : (s.emcy c p d).fabric = s.fabric := by
  unfold State.emcy; dsimp only; repeat' split
  all_goals simp
@[simp] theorem State.emcy_gnss (s : State) (c p d : Nat) : (s.emcy c p d).gnss = s.gnss := by
  unfold State.emcy; dsimp only; repeat' split
  all_goals simp
@[simp] theorem State.emcy_serve (s : State) (c p d : Nat) : (s.emcy c p d).serve = s.serve := by
  unfold State.emcy; dsimp only; repeat' split
  all_goals simp
@[simp] theorem State.emcy_keys (s : State) (c p d : Nat) : (s.emcy c p d).keys = s.keys := by
  unfold State.emcy; dsimp only; repeat' split
  all_goals simp
@[simp] theorem State.emcy_media (s : State) (c p d : Nat) : (s.emcy c p d).media = s.media := by
  unfold State.emcy; dsimp only; repeat' split
  all_goals simp
@[simp] theorem State.emcy_free (s : State) (c p d : Nat) : (s.emcy c p d).free = s.free := by
  unfold State.emcy; dsimp only; repeat' split
  all_goals simp

@[simp] theorem State.reportLost_pending (s : State)  : (s.reportLost ).pending = s.pending := by
  unfold State.reportLost; split <;> simp
@[simp] theorem State.reportLost_clock (s : State)  : (s.reportLost ).clock = s.clock := by
  unfold State.reportLost; split <;> simp
@[simp] theorem State.reportLost_intake (s : State)  : (s.reportLost ).intake = s.intake := by
  unfold State.reportLost; split <;> simp
@[simp] theorem State.reportLost_groups (s : State)  : (s.reportLost ).groups = s.groups := by
  unfold State.reportLost; split <;> simp
@[simp] theorem State.reportLost_darkroom (s : State)  : (s.reportLost ).darkroom = s.darkroom := by
  unfold State.reportLost; split <;> simp
@[simp] theorem State.reportLost_boot (s : State)  : (s.reportLost ).boot = s.boot := by
  unfold State.reportLost; split <;> simp
@[simp] theorem State.reportLost_twin (s : State)  : (s.reportLost ).twin = s.twin := by
  unfold State.reportLost; split <;> simp
@[simp] theorem State.reportLost_faults (s : State)  : (s.reportLost ).faults = s.faults := by
  unfold State.reportLost; split <;> simp
@[simp] theorem State.reportLost_time (s : State)  : (s.reportLost ).time = s.time := by
  unfold State.reportLost; split <;> simp
@[simp] theorem State.reportLost_plans (s : State)  : (s.reportLost ).plans = s.plans := by
  unfold State.reportLost; split <;> simp
@[simp] theorem State.reportLost_synth (s : State)  : (s.reportLost ).synth = s.synth := by
  unfold State.reportLost; split <;> simp
@[simp] theorem State.reportLost_refs (s : State)  : (s.reportLost ).refs = s.refs := by
  unfold State.reportLost; split <;> simp
@[simp] theorem State.reportLost_dev (s : State)  : (s.reportLost ).dev = s.dev := by
  unfold State.reportLost; split <;> simp
@[simp] theorem State.reportLost_ports (s : State)  : (s.reportLost ).ports = s.ports := by
  unfold State.reportLost; split <;> simp
@[simp] theorem State.reportLost_fabric (s : State)  : (s.reportLost ).fabric = s.fabric := by
  unfold State.reportLost; split <;> simp
@[simp] theorem State.reportLost_gnss (s : State)  : (s.reportLost ).gnss = s.gnss := by
  unfold State.reportLost; split <;> simp
@[simp] theorem State.reportLost_serve (s : State)  : (s.reportLost ).serve = s.serve := by
  unfold State.reportLost; split <;> simp
@[simp] theorem State.reportLost_keys (s : State)  : (s.reportLost ).keys = s.keys := by
  unfold State.reportLost; split <;> simp
@[simp] theorem State.reportLost_media (s : State)  : (s.reportLost ).media = s.media := by
  unfold State.reportLost; split <;> simp
@[simp] theorem State.reportLost_free (s : State)  : (s.reportLost ).free = s.free := by
  unfold State.reportLost; split <;> simp

@[simp] theorem State.record_pending (s : State) (p k l c d : Nat) : (s.record p k l c d).pending = s.pending := by
  rfl
@[simp] theorem State.record_objs (s : State) (p k l c d : Nat) : (s.record p k l c d).objs = s.objs := by
  rfl
@[simp] theorem State.record_clock (s : State) (p k l c d : Nat) : (s.record p k l c d).clock = s.clock := by
  rfl
@[simp] theorem State.record_intake (s : State) (p k l c d : Nat) : (s.record p k l c d).intake = s.intake := by
  rfl
@[simp] theorem State.record_mgmt (s : State) (p k l c d : Nat) : (s.record p k l c d).mgmt = s.mgmt := by
  rfl
@[simp] theorem State.record_groups (s : State) (p k l c d : Nat) : (s.record p k l c d).groups = s.groups := by
  rfl
@[simp] theorem State.record_darkroom (s : State) (p k l c d : Nat) : (s.record p k l c d).darkroom = s.darkroom := by
  rfl
@[simp] theorem State.record_boot (s : State) (p k l c d : Nat) : (s.record p k l c d).boot = s.boot := by
  rfl
@[simp] theorem State.record_twin (s : State) (p k l c d : Nat) : (s.record p k l c d).twin = s.twin := by
  rfl
@[simp] theorem State.record_time (s : State) (p k l c d : Nat) : (s.record p k l c d).time = s.time := by
  rfl
@[simp] theorem State.record_plans (s : State) (p k l c d : Nat) : (s.record p k l c d).plans = s.plans := by
  rfl
@[simp] theorem State.record_synth (s : State) (p k l c d : Nat) : (s.record p k l c d).synth = s.synth := by
  rfl
@[simp] theorem State.record_refs (s : State) (p k l c d : Nat) : (s.record p k l c d).refs = s.refs := by
  rfl
@[simp] theorem State.record_dev (s : State) (p k l c d : Nat) : (s.record p k l c d).dev = s.dev := by
  rfl
@[simp] theorem State.record_ports (s : State) (p k l c d : Nat) : (s.record p k l c d).ports = s.ports := by
  rfl
@[simp] theorem State.record_fabric (s : State) (p k l c d : Nat) : (s.record p k l c d).fabric = s.fabric := by
  rfl
@[simp] theorem State.record_gnss (s : State) (p k l c d : Nat) : (s.record p k l c d).gnss = s.gnss := by
  rfl
@[simp] theorem State.record_serve (s : State) (p k l c d : Nat) : (s.record p k l c d).serve = s.serve := by
  rfl
@[simp] theorem State.record_keys (s : State) (p k l c d : Nat) : (s.record p k l c d).keys = s.keys := by
  rfl
@[simp] theorem State.record_media (s : State) (p k l c d : Nat) : (s.record p k l c d).media = s.media := by
  rfl
@[simp] theorem State.record_free (s : State) (p k l c d : Nat) : (s.record p k l c d).free = s.free := by
  rfl

@[simp] theorem State.report_pending (s : State) (q k l c p d : Nat) : (s.report q k l c p d).pending = s.pending := by
  simp [State.report]
@[simp] theorem State.report_clock (s : State) (q k l c p d : Nat) : (s.report q k l c p d).clock = s.clock := by
  simp [State.report]
@[simp] theorem State.report_intake (s : State) (q k l c p d : Nat) : (s.report q k l c p d).intake = s.intake := by
  simp [State.report]
@[simp] theorem State.report_groups (s : State) (q k l c p d : Nat) : (s.report q k l c p d).groups = s.groups := by
  simp [State.report]
@[simp] theorem State.report_darkroom (s : State) (q k l c p d : Nat) : (s.report q k l c p d).darkroom = s.darkroom := by
  simp [State.report]
@[simp] theorem State.report_boot (s : State) (q k l c p d : Nat) : (s.report q k l c p d).boot = s.boot := by
  simp [State.report]
@[simp] theorem State.report_twin (s : State) (q k l c p d : Nat) : (s.report q k l c p d).twin = s.twin := by
  simp [State.report]
@[simp] theorem State.report_time (s : State) (q k l c p d : Nat) : (s.report q k l c p d).time = s.time := by
  simp [State.report]
@[simp] theorem State.report_plans (s : State) (q k l c p d : Nat) : (s.report q k l c p d).plans = s.plans := by
  simp [State.report]
@[simp] theorem State.report_synth (s : State) (q k l c p d : Nat) : (s.report q k l c p d).synth = s.synth := by
  simp [State.report]
@[simp] theorem State.report_refs (s : State) (q k l c p d : Nat) : (s.report q k l c p d).refs = s.refs := by
  simp [State.report]
@[simp] theorem State.report_dev (s : State) (q k l c p d : Nat) : (s.report q k l c p d).dev = s.dev := by
  simp [State.report]
@[simp] theorem State.report_ports (s : State) (q k l c p d : Nat) : (s.report q k l c p d).ports = s.ports := by
  simp [State.report]
@[simp] theorem State.report_fabric (s : State) (q k l c p d : Nat) : (s.report q k l c p d).fabric = s.fabric := by
  simp [State.report]
@[simp] theorem State.report_gnss (s : State) (q k l c p d : Nat) : (s.report q k l c p d).gnss = s.gnss := by
  simp [State.report]
@[simp] theorem State.report_serve (s : State) (q k l c p d : Nat) : (s.report q k l c p d).serve = s.serve := by
  simp [State.report]
@[simp] theorem State.report_keys (s : State) (q k l c p d : Nat) : (s.report q k l c p d).keys = s.keys := by
  simp [State.report]
@[simp] theorem State.report_media (s : State) (q k l c p d : Nat) : (s.report q k l c p d).media = s.media := by
  simp [State.report]
@[simp] theorem State.report_free (s : State) (q k l c p d : Nat) : (s.report q k l c p d).free = s.free := by
  simp [State.report]

@[simp] theorem State.testEvent_pending (s : State) (b : Nat) (st : Bool) (i : Nat) : (s.testEvent b st i).pending = s.pending := by
  simp [State.testEvent]
@[simp] theorem State.testEvent_clock (s : State) (b : Nat) (st : Bool) (i : Nat) : (s.testEvent b st i).clock = s.clock := by
  simp [State.testEvent]
@[simp] theorem State.testEvent_intake (s : State) (b : Nat) (st : Bool) (i : Nat) : (s.testEvent b st i).intake = s.intake := by
  simp [State.testEvent]
@[simp] theorem State.testEvent_groups (s : State) (b : Nat) (st : Bool) (i : Nat) : (s.testEvent b st i).groups = s.groups := by
  simp [State.testEvent]
@[simp] theorem State.testEvent_darkroom (s : State) (b : Nat) (st : Bool) (i : Nat) : (s.testEvent b st i).darkroom = s.darkroom := by
  simp [State.testEvent]
@[simp] theorem State.testEvent_boot (s : State) (b : Nat) (st : Bool) (i : Nat) : (s.testEvent b st i).boot = s.boot := by
  simp [State.testEvent]
@[simp] theorem State.testEvent_twin (s : State) (b : Nat) (st : Bool) (i : Nat) : (s.testEvent b st i).twin = s.twin := by
  simp [State.testEvent]
@[simp] theorem State.testEvent_time (s : State) (b : Nat) (st : Bool) (i : Nat) : (s.testEvent b st i).time = s.time := by
  simp [State.testEvent]
@[simp] theorem State.testEvent_plans (s : State) (b : Nat) (st : Bool) (i : Nat) : (s.testEvent b st i).plans = s.plans := by
  simp [State.testEvent]
@[simp] theorem State.testEvent_synth (s : State) (b : Nat) (st : Bool) (i : Nat) : (s.testEvent b st i).synth = s.synth := by
  simp [State.testEvent]
@[simp] theorem State.testEvent_refs (s : State) (b : Nat) (st : Bool) (i : Nat) : (s.testEvent b st i).refs = s.refs := by
  simp [State.testEvent]
@[simp] theorem State.testEvent_dev (s : State) (b : Nat) (st : Bool) (i : Nat) : (s.testEvent b st i).dev = s.dev := by
  simp [State.testEvent]
@[simp] theorem State.testEvent_ports (s : State) (b : Nat) (st : Bool) (i : Nat) : (s.testEvent b st i).ports = s.ports := by
  simp [State.testEvent]
@[simp] theorem State.testEvent_fabric (s : State) (b : Nat) (st : Bool) (i : Nat) : (s.testEvent b st i).fabric = s.fabric := by
  simp [State.testEvent]
@[simp] theorem State.testEvent_gnss (s : State) (b : Nat) (st : Bool) (i : Nat) : (s.testEvent b st i).gnss = s.gnss := by
  simp [State.testEvent]
@[simp] theorem State.testEvent_serve (s : State) (b : Nat) (st : Bool) (i : Nat) : (s.testEvent b st i).serve = s.serve := by
  simp [State.testEvent]
@[simp] theorem State.testEvent_keys (s : State) (b : Nat) (st : Bool) (i : Nat) : (s.testEvent b st i).keys = s.keys := by
  simp [State.testEvent]
@[simp] theorem State.testEvent_media (s : State) (b : Nat) (st : Bool) (i : Nat) : (s.testEvent b st i).media = s.media := by
  simp [State.testEvent]
@[simp] theorem State.testEvent_free (s : State) (b : Nat) (st : Bool) (i : Nat) : (s.testEvent b st i).free = s.free := by
  simp [State.testEvent]

@[simp] theorem State.comparedDigest_pending (s : State) (p d v : Nat) : (s.comparedDigest p d v).pending = s.pending := by
  unfold State.comparedDigest; split <;> simp
@[simp] theorem State.comparedDigest_objs (s : State) (p d v : Nat) : (s.comparedDigest p d v).objs = s.objs := by
  unfold State.comparedDigest; split <;> simp
@[simp] theorem State.comparedDigest_clock (s : State) (p d v : Nat) : (s.comparedDigest p d v).clock = s.clock := by
  unfold State.comparedDigest; split <;> simp
@[simp] theorem State.comparedDigest_intake (s : State) (p d v : Nat) : (s.comparedDigest p d v).intake = s.intake := by
  unfold State.comparedDigest; split <;> simp
@[simp] theorem State.comparedDigest_mgmt (s : State) (p d v : Nat) : (s.comparedDigest p d v).mgmt = s.mgmt := by
  unfold State.comparedDigest; split <;> simp
@[simp] theorem State.comparedDigest_groups (s : State) (p d v : Nat) : (s.comparedDigest p d v).groups = s.groups := by
  unfold State.comparedDigest; split <;> simp
@[simp] theorem State.comparedDigest_darkroom (s : State) (p d v : Nat) : (s.comparedDigest p d v).darkroom = s.darkroom := by
  unfold State.comparedDigest; split <;> simp
@[simp] theorem State.comparedDigest_boot (s : State) (p d v : Nat) : (s.comparedDigest p d v).boot = s.boot := by
  unfold State.comparedDigest; split <;> simp
@[simp] theorem State.comparedDigest_faults (s : State) (p d v : Nat) : (s.comparedDigest p d v).faults = s.faults := by
  unfold State.comparedDigest; split <;> simp
@[simp] theorem State.comparedDigest_time (s : State) (p d v : Nat) : (s.comparedDigest p d v).time = s.time := by
  unfold State.comparedDigest; split <;> simp
@[simp] theorem State.comparedDigest_plans (s : State) (p d v : Nat) : (s.comparedDigest p d v).plans = s.plans := by
  unfold State.comparedDigest; split <;> simp
@[simp] theorem State.comparedDigest_synth (s : State) (p d v : Nat) : (s.comparedDigest p d v).synth = s.synth := by
  unfold State.comparedDigest; split <;> simp
@[simp] theorem State.comparedDigest_refs (s : State) (p d v : Nat) : (s.comparedDigest p d v).refs = s.refs := by
  unfold State.comparedDigest; split <;> simp
@[simp] theorem State.comparedDigest_dev (s : State) (p d v : Nat) : (s.comparedDigest p d v).dev = s.dev := by
  unfold State.comparedDigest; split <;> simp
@[simp] theorem State.comparedDigest_ports (s : State) (p d v : Nat) : (s.comparedDigest p d v).ports = s.ports := by
  unfold State.comparedDigest; split <;> simp
@[simp] theorem State.comparedDigest_fabric (s : State) (p d v : Nat) : (s.comparedDigest p d v).fabric = s.fabric := by
  unfold State.comparedDigest; split <;> simp
@[simp] theorem State.comparedDigest_gnss (s : State) (p d v : Nat) : (s.comparedDigest p d v).gnss = s.gnss := by
  unfold State.comparedDigest; split <;> simp
@[simp] theorem State.comparedDigest_serve (s : State) (p d v : Nat) : (s.comparedDigest p d v).serve = s.serve := by
  unfold State.comparedDigest; split <;> simp
@[simp] theorem State.comparedDigest_keys (s : State) (p d v : Nat) : (s.comparedDigest p d v).keys = s.keys := by
  unfold State.comparedDigest; split <;> simp
@[simp] theorem State.comparedDigest_media (s : State) (p d v : Nat) : (s.comparedDigest p d v).media = s.media := by
  unfold State.comparedDigest; split <;> simp
@[simp] theorem State.comparedDigest_free (s : State) (p d v : Nat) : (s.comparedDigest p d v).free = s.free := by
  unfold State.comparedDigest; split <;> simp

@[simp] theorem State.compared_pending (s : State) (p d : Nat) (o : Octets) : (s.compared p d o).pending = s.pending := State.comparedDigest_pending _ _ _ _
@[simp] theorem State.compared_objs (s : State) (p d : Nat) (o : Octets) : (s.compared p d o).objs = s.objs := State.comparedDigest_objs _ _ _ _
@[simp] theorem State.compared_clock (s : State) (p d : Nat) (o : Octets) : (s.compared p d o).clock = s.clock := State.comparedDigest_clock _ _ _ _
@[simp] theorem State.compared_intake (s : State) (p d : Nat) (o : Octets) : (s.compared p d o).intake = s.intake := State.comparedDigest_intake _ _ _ _
@[simp] theorem State.compared_mgmt (s : State) (p d : Nat) (o : Octets) : (s.compared p d o).mgmt = s.mgmt := State.comparedDigest_mgmt _ _ _ _
@[simp] theorem State.compared_groups (s : State) (p d : Nat) (o : Octets) : (s.compared p d o).groups = s.groups := State.comparedDigest_groups _ _ _ _
@[simp] theorem State.compared_darkroom (s : State) (p d : Nat) (o : Octets) : (s.compared p d o).darkroom = s.darkroom := State.comparedDigest_darkroom _ _ _ _
@[simp] theorem State.compared_boot (s : State) (p d : Nat) (o : Octets) : (s.compared p d o).boot = s.boot := State.comparedDigest_boot _ _ _ _
@[simp] theorem State.compared_faults (s : State) (p d : Nat) (o : Octets) : (s.compared p d o).faults = s.faults := State.comparedDigest_faults _ _ _ _
@[simp] theorem State.compared_time (s : State) (p d : Nat) (o : Octets) : (s.compared p d o).time = s.time := State.comparedDigest_time _ _ _ _
@[simp] theorem State.compared_plans (s : State) (p d : Nat) (o : Octets) : (s.compared p d o).plans = s.plans := State.comparedDigest_plans _ _ _ _
@[simp] theorem State.compared_synth (s : State) (p d : Nat) (o : Octets) : (s.compared p d o).synth = s.synth := State.comparedDigest_synth _ _ _ _
@[simp] theorem State.compared_refs (s : State) (p d : Nat) (o : Octets) : (s.compared p d o).refs = s.refs := State.comparedDigest_refs _ _ _ _
@[simp] theorem State.compared_dev (s : State) (p d : Nat) (o : Octets) : (s.compared p d o).dev = s.dev := State.comparedDigest_dev _ _ _ _
@[simp] theorem State.compared_ports (s : State) (p d : Nat) (o : Octets) : (s.compared p d o).ports = s.ports := State.comparedDigest_ports _ _ _ _
@[simp] theorem State.compared_fabric (s : State) (p d : Nat) (o : Octets) : (s.compared p d o).fabric = s.fabric := State.comparedDigest_fabric _ _ _ _
@[simp] theorem State.compared_gnss (s : State) (p d : Nat) (o : Octets) : (s.compared p d o).gnss = s.gnss := State.comparedDigest_gnss _ _ _ _
@[simp] theorem State.compared_serve (s : State) (p d : Nat) (o : Octets) : (s.compared p d o).serve = s.serve := State.comparedDigest_serve _ _ _ _
@[simp] theorem State.compared_keys (s : State) (p d : Nat) (o : Octets) : (s.compared p d o).keys = s.keys := State.comparedDigest_keys _ _ _ _
@[simp] theorem State.compared_media (s : State) (p d : Nat) (o : Octets) : (s.compared p d o).media = s.media := State.comparedDigest_media _ _ _ _
@[simp] theorem State.compared_free (s : State) (p d : Nat) (o : Octets) : (s.compared p d o).free = s.free := State.comparedDigest_free _ _ _ _

@[simp] theorem State.respond_pending (s : State) (t : Transport) (r : UsdoResponse) : (s.respond t r).pending = s.pending := by
  cases t <;> simp [State.respond] <;> split <;> simp
@[simp] theorem State.respond_clock (s : State) (t : Transport) (r : UsdoResponse) : (s.respond t r).clock = s.clock := by
  cases t <;> simp [State.respond] <;> split <;> simp
@[simp] theorem State.respond_intake (s : State) (t : Transport) (r : UsdoResponse) : (s.respond t r).intake = s.intake := by
  cases t <;> simp [State.respond] <;> split <;> simp
@[simp] theorem State.respond_groups (s : State) (t : Transport) (r : UsdoResponse) : (s.respond t r).groups = s.groups := by
  cases t <;> simp [State.respond] <;> split <;> simp
@[simp] theorem State.respond_darkroom (s : State) (t : Transport) (r : UsdoResponse) : (s.respond t r).darkroom = s.darkroom := by
  cases t <;> simp [State.respond] <;> split <;> simp
@[simp] theorem State.respond_boot (s : State) (t : Transport) (r : UsdoResponse) : (s.respond t r).boot = s.boot := by
  cases t <;> simp [State.respond] <;> split <;> simp
@[simp] theorem State.respond_faults (s : State) (t : Transport) (r : UsdoResponse) : (s.respond t r).faults = s.faults := by
  cases t <;> simp [State.respond] <;> split <;> simp
@[simp] theorem State.respond_time (s : State) (t : Transport) (r : UsdoResponse) : (s.respond t r).time = s.time := by
  cases t <;> simp [State.respond] <;> split <;> simp
@[simp] theorem State.respond_plans (s : State) (t : Transport) (r : UsdoResponse) : (s.respond t r).plans = s.plans := by
  cases t <;> simp [State.respond] <;> split <;> simp
@[simp] theorem State.respond_synth (s : State) (t : Transport) (r : UsdoResponse) : (s.respond t r).synth = s.synth := by
  cases t <;> simp [State.respond] <;> split <;> simp
@[simp] theorem State.respond_refs (s : State) (t : Transport) (r : UsdoResponse) : (s.respond t r).refs = s.refs := by
  cases t <;> simp [State.respond] <;> split <;> simp
@[simp] theorem State.respond_dev (s : State) (t : Transport) (r : UsdoResponse) : (s.respond t r).dev = s.dev := by
  cases t <;> simp [State.respond] <;> split <;> simp
@[simp] theorem State.respond_ports (s : State) (t : Transport) (r : UsdoResponse) : (s.respond t r).ports = s.ports := by
  cases t <;> simp [State.respond] <;> split <;> simp
@[simp] theorem State.respond_fabric (s : State) (t : Transport) (r : UsdoResponse) : (s.respond t r).fabric = s.fabric := by
  cases t <;> simp [State.respond] <;> split <;> simp
@[simp] theorem State.respond_gnss (s : State) (t : Transport) (r : UsdoResponse) : (s.respond t r).gnss = s.gnss := by
  cases t <;> simp [State.respond] <;> split <;> simp
@[simp] theorem State.respond_serve (s : State) (t : Transport) (r : UsdoResponse) : (s.respond t r).serve = s.serve := by
  cases t <;> simp [State.respond] <;> split <;> simp
@[simp] theorem State.respond_keys (s : State) (t : Transport) (r : UsdoResponse) : (s.respond t r).keys = s.keys := by
  cases t <;> simp [State.respond] <;> split <;> simp
@[simp] theorem State.respond_media (s : State) (t : Transport) (r : UsdoResponse) : (s.respond t r).media = s.media := by
  cases t <;> simp [State.respond] <;> split <;> simp
@[simp] theorem State.respond_free (s : State) (t : Transport) (r : UsdoResponse) : (s.respond t r).free = s.free := by
  cases t <;> simp [State.respond] <;> split <;> simp

@[simp] theorem State.abort_pending (s : State) (t : Transport) (i j c : Nat) : (s.abort t i j c).pending = s.pending := by
  simp [State.abort]
@[simp] theorem State.abort_clock (s : State) (t : Transport) (i j c : Nat) : (s.abort t i j c).clock = s.clock := by
  simp [State.abort]
@[simp] theorem State.abort_intake (s : State) (t : Transport) (i j c : Nat) : (s.abort t i j c).intake = s.intake := by
  simp [State.abort]
@[simp] theorem State.abort_groups (s : State) (t : Transport) (i j c : Nat) : (s.abort t i j c).groups = s.groups := by
  simp [State.abort]
@[simp] theorem State.abort_darkroom (s : State) (t : Transport) (i j c : Nat) : (s.abort t i j c).darkroom = s.darkroom := by
  simp [State.abort]
@[simp] theorem State.abort_boot (s : State) (t : Transport) (i j c : Nat) : (s.abort t i j c).boot = s.boot := by
  simp [State.abort]
@[simp] theorem State.abort_faults (s : State) (t : Transport) (i j c : Nat) : (s.abort t i j c).faults = s.faults := by
  simp [State.abort]
@[simp] theorem State.abort_time (s : State) (t : Transport) (i j c : Nat) : (s.abort t i j c).time = s.time := by
  simp [State.abort]
@[simp] theorem State.abort_plans (s : State) (t : Transport) (i j c : Nat) : (s.abort t i j c).plans = s.plans := by
  simp [State.abort]
@[simp] theorem State.abort_synth (s : State) (t : Transport) (i j c : Nat) : (s.abort t i j c).synth = s.synth := by
  simp [State.abort]
@[simp] theorem State.abort_refs (s : State) (t : Transport) (i j c : Nat) : (s.abort t i j c).refs = s.refs := by
  simp [State.abort]
@[simp] theorem State.abort_dev (s : State) (t : Transport) (i j c : Nat) : (s.abort t i j c).dev = s.dev := by
  simp [State.abort]
@[simp] theorem State.abort_ports (s : State) (t : Transport) (i j c : Nat) : (s.abort t i j c).ports = s.ports := by
  simp [State.abort]
@[simp] theorem State.abort_fabric (s : State) (t : Transport) (i j c : Nat) : (s.abort t i j c).fabric = s.fabric := by
  simp [State.abort]
@[simp] theorem State.abort_gnss (s : State) (t : Transport) (i j c : Nat) : (s.abort t i j c).gnss = s.gnss := by
  simp [State.abort]
@[simp] theorem State.abort_serve (s : State) (t : Transport) (i j c : Nat) : (s.abort t i j c).serve = s.serve := by
  simp [State.abort]
@[simp] theorem State.abort_keys (s : State) (t : Transport) (i j c : Nat) : (s.abort t i j c).keys = s.keys := by
  simp [State.abort]
@[simp] theorem State.abort_media (s : State) (t : Transport) (i j c : Nat) : (s.abort t i j c).media = s.media := by
  simp [State.abort]
@[simp] theorem State.abort_free (s : State) (t : Transport) (i j c : Nat) : (s.abort t i j c).free = s.free := by
  simp [State.abort]

@[simp] theorem State.markCopy_pending (s : State) (k : Nat) : (s.markCopy k).pending = s.pending := by
  unfold State.markCopy; split <;> rfl
@[simp] theorem State.markCopy_objs (s : State) (k : Nat) : (s.markCopy k).objs = s.objs := by
  unfold State.markCopy; split <;> rfl
@[simp] theorem State.markCopy_clock (s : State) (k : Nat) : (s.markCopy k).clock = s.clock := by
  unfold State.markCopy; split <;> rfl
@[simp] theorem State.markCopy_intake (s : State) (k : Nat) : (s.markCopy k).intake = s.intake := by
  unfold State.markCopy; split <;> rfl
@[simp] theorem State.markCopy_groups (s : State) (k : Nat) : (s.markCopy k).groups = s.groups := by
  unfold State.markCopy; split <;> rfl
@[simp] theorem State.markCopy_darkroom (s : State) (k : Nat) : (s.markCopy k).darkroom = s.darkroom := by
  unfold State.markCopy; split <;> rfl
@[simp] theorem State.markCopy_boot (s : State) (k : Nat) : (s.markCopy k).boot = s.boot := by
  unfold State.markCopy; split <;> rfl
@[simp] theorem State.markCopy_twin (s : State) (k : Nat) : (s.markCopy k).twin = s.twin := by
  unfold State.markCopy; split <;> rfl
@[simp] theorem State.markCopy_faults (s : State) (k : Nat) : (s.markCopy k).faults = s.faults := by
  unfold State.markCopy; split <;> rfl
@[simp] theorem State.markCopy_time (s : State) (k : Nat) : (s.markCopy k).time = s.time := by
  unfold State.markCopy; split <;> rfl
@[simp] theorem State.markCopy_plans (s : State) (k : Nat) : (s.markCopy k).plans = s.plans := by
  unfold State.markCopy; split <;> rfl
@[simp] theorem State.markCopy_synth (s : State) (k : Nat) : (s.markCopy k).synth = s.synth := by
  unfold State.markCopy; split <;> rfl
@[simp] theorem State.markCopy_refs (s : State) (k : Nat) : (s.markCopy k).refs = s.refs := by
  unfold State.markCopy; split <;> rfl
@[simp] theorem State.markCopy_dev (s : State) (k : Nat) : (s.markCopy k).dev = s.dev := by
  unfold State.markCopy; split <;> rfl
@[simp] theorem State.markCopy_ports (s : State) (k : Nat) : (s.markCopy k).ports = s.ports := by
  unfold State.markCopy; split <;> rfl
@[simp] theorem State.markCopy_fabric (s : State) (k : Nat) : (s.markCopy k).fabric = s.fabric := by
  unfold State.markCopy; split <;> rfl
@[simp] theorem State.markCopy_gnss (s : State) (k : Nat) : (s.markCopy k).gnss = s.gnss := by
  unfold State.markCopy; split <;> rfl
@[simp] theorem State.markCopy_serve (s : State) (k : Nat) : (s.markCopy k).serve = s.serve := by
  unfold State.markCopy; split <;> rfl
@[simp] theorem State.markCopy_keys (s : State) (k : Nat) : (s.markCopy k).keys = s.keys := by
  unfold State.markCopy; split <;> rfl
@[simp] theorem State.markCopy_media (s : State) (k : Nat) : (s.markCopy k).media = s.media := by
  unfold State.markCopy; split <;> rfl
@[simp] theorem State.markCopy_free (s : State) (k : Nat) : (s.markCopy k).free = s.free := by
  unfold State.markCopy; split <;> rfl

@[simp] theorem State.takeEffect_pending (s : State) (k : Nat) (v : Int) : (s.takeEffect k v).pending = s.pending := by
  simp [State.takeEffect]
@[simp] theorem State.takeEffect_clock (s : State) (k : Nat) (v : Int) : (s.takeEffect k v).clock = s.clock := by
  simp [State.takeEffect]
@[simp] theorem State.takeEffect_intake (s : State) (k : Nat) (v : Int) : (s.takeEffect k v).intake = s.intake := by
  simp [State.takeEffect]
@[simp] theorem State.takeEffect_groups (s : State) (k : Nat) (v : Int) : (s.takeEffect k v).groups = s.groups := by
  simp [State.takeEffect]
@[simp] theorem State.takeEffect_darkroom (s : State) (k : Nat) (v : Int) : (s.takeEffect k v).darkroom = s.darkroom := by
  simp [State.takeEffect]
@[simp] theorem State.takeEffect_boot (s : State) (k : Nat) (v : Int) : (s.takeEffect k v).boot = s.boot := by
  simp [State.takeEffect]
@[simp] theorem State.takeEffect_twin (s : State) (k : Nat) (v : Int) : (s.takeEffect k v).twin = s.twin := by
  simp [State.takeEffect]
@[simp] theorem State.takeEffect_faults (s : State) (k : Nat) (v : Int) : (s.takeEffect k v).faults = s.faults := by
  simp [State.takeEffect]
@[simp] theorem State.takeEffect_time (s : State) (k : Nat) (v : Int) : (s.takeEffect k v).time = s.time := by
  simp [State.takeEffect]
@[simp] theorem State.takeEffect_plans (s : State) (k : Nat) (v : Int) : (s.takeEffect k v).plans = s.plans := by
  simp [State.takeEffect]
@[simp] theorem State.takeEffect_synth (s : State) (k : Nat) (v : Int) : (s.takeEffect k v).synth = s.synth := by
  simp [State.takeEffect]
@[simp] theorem State.takeEffect_refs (s : State) (k : Nat) (v : Int) : (s.takeEffect k v).refs = s.refs := by
  simp [State.takeEffect]
@[simp] theorem State.takeEffect_dev (s : State) (k : Nat) (v : Int) : (s.takeEffect k v).dev = s.dev := by
  simp [State.takeEffect]
@[simp] theorem State.takeEffect_ports (s : State) (k : Nat) (v : Int) : (s.takeEffect k v).ports = s.ports := by
  simp [State.takeEffect]
@[simp] theorem State.takeEffect_fabric (s : State) (k : Nat) (v : Int) : (s.takeEffect k v).fabric = s.fabric := by
  simp [State.takeEffect]
@[simp] theorem State.takeEffect_gnss (s : State) (k : Nat) (v : Int) : (s.takeEffect k v).gnss = s.gnss := by
  simp [State.takeEffect]
@[simp] theorem State.takeEffect_serve (s : State) (k : Nat) (v : Int) : (s.takeEffect k v).serve = s.serve := by
  simp [State.takeEffect]
@[simp] theorem State.takeEffect_keys (s : State) (k : Nat) (v : Int) : (s.takeEffect k v).keys = s.keys := by
  simp [State.takeEffect]
@[simp] theorem State.takeEffect_media (s : State) (k : Nat) (v : Int) : (s.takeEffect k v).media = s.media := by
  simp [State.takeEffect]
@[simp] theorem State.takeEffect_free (s : State) (k : Nat) (v : Int) : (s.takeEffect k v).free = s.free := by
  simp [State.takeEffect]

@[simp] theorem State.pendWrite_pending (s : State) (b k : Nat) (v : Int) : (s.pendWrite b k v).pending = s.pending := by
  rfl
@[simp] theorem State.pendWrite_objs (s : State) (b k : Nat) (v : Int) : (s.pendWrite b k v).objs = s.objs := by
  rfl
@[simp] theorem State.pendWrite_clock (s : State) (b k : Nat) (v : Int) : (s.pendWrite b k v).clock = s.clock := by
  rfl
@[simp] theorem State.pendWrite_intake (s : State) (b k : Nat) (v : Int) : (s.pendWrite b k v).intake = s.intake := by
  rfl
@[simp] theorem State.pendWrite_groups (s : State) (b k : Nat) (v : Int) : (s.pendWrite b k v).groups = s.groups := by
  rfl
@[simp] theorem State.pendWrite_darkroom (s : State) (b k : Nat) (v : Int) : (s.pendWrite b k v).darkroom = s.darkroom := by
  rfl
@[simp] theorem State.pendWrite_boot (s : State) (b k : Nat) (v : Int) : (s.pendWrite b k v).boot = s.boot := by
  rfl
@[simp] theorem State.pendWrite_twin (s : State) (b k : Nat) (v : Int) : (s.pendWrite b k v).twin = s.twin := by
  rfl
@[simp] theorem State.pendWrite_faults (s : State) (b k : Nat) (v : Int) : (s.pendWrite b k v).faults = s.faults := by
  rfl
@[simp] theorem State.pendWrite_time (s : State) (b k : Nat) (v : Int) : (s.pendWrite b k v).time = s.time := by
  rfl
@[simp] theorem State.pendWrite_plans (s : State) (b k : Nat) (v : Int) : (s.pendWrite b k v).plans = s.plans := by
  rfl
@[simp] theorem State.pendWrite_synth (s : State) (b k : Nat) (v : Int) : (s.pendWrite b k v).synth = s.synth := by
  rfl
@[simp] theorem State.pendWrite_refs (s : State) (b k : Nat) (v : Int) : (s.pendWrite b k v).refs = s.refs := by
  rfl
@[simp] theorem State.pendWrite_dev (s : State) (b k : Nat) (v : Int) : (s.pendWrite b k v).dev = s.dev := by
  rfl
@[simp] theorem State.pendWrite_ports (s : State) (b k : Nat) (v : Int) : (s.pendWrite b k v).ports = s.ports := by
  rfl
@[simp] theorem State.pendWrite_fabric (s : State) (b k : Nat) (v : Int) : (s.pendWrite b k v).fabric = s.fabric := by
  rfl
@[simp] theorem State.pendWrite_gnss (s : State) (b k : Nat) (v : Int) : (s.pendWrite b k v).gnss = s.gnss := by
  rfl
@[simp] theorem State.pendWrite_serve (s : State) (b k : Nat) (v : Int) : (s.pendWrite b k v).serve = s.serve := by
  rfl
@[simp] theorem State.pendWrite_keys (s : State) (b k : Nat) (v : Int) : (s.pendWrite b k v).keys = s.keys := by
  rfl
@[simp] theorem State.pendWrite_media (s : State) (b k : Nat) (v : Int) : (s.pendWrite b k v).media = s.media := by
  rfl
@[simp] theorem State.pendWrite_free (s : State) (b k : Nat) (v : Int) : (s.pendWrite b k v).free = s.free := by
  rfl

@[simp] theorem State.later_pending (s : State) (k : Nat) (v : Int) : (s.later k v).pending = s.pending := by
  rfl
@[simp] theorem State.later_objs (s : State) (k : Nat) (v : Int) : (s.later k v).objs = s.objs := by
  rfl
@[simp] theorem State.later_clock (s : State) (k : Nat) (v : Int) : (s.later k v).clock = s.clock := by
  rfl
@[simp] theorem State.later_intake (s : State) (k : Nat) (v : Int) : (s.later k v).intake = s.intake := by
  rfl
@[simp] theorem State.later_groups (s : State) (k : Nat) (v : Int) : (s.later k v).groups = s.groups := by
  rfl
@[simp] theorem State.later_darkroom (s : State) (k : Nat) (v : Int) : (s.later k v).darkroom = s.darkroom := by
  rfl
@[simp] theorem State.later_boot (s : State) (k : Nat) (v : Int) : (s.later k v).boot = s.boot := by
  rfl
@[simp] theorem State.later_twin (s : State) (k : Nat) (v : Int) : (s.later k v).twin = s.twin := by
  rfl
@[simp] theorem State.later_faults (s : State) (k : Nat) (v : Int) : (s.later k v).faults = s.faults := by
  rfl
@[simp] theorem State.later_time (s : State) (k : Nat) (v : Int) : (s.later k v).time = s.time := by
  rfl
@[simp] theorem State.later_plans (s : State) (k : Nat) (v : Int) : (s.later k v).plans = s.plans := by
  rfl
@[simp] theorem State.later_synth (s : State) (k : Nat) (v : Int) : (s.later k v).synth = s.synth := by
  rfl
@[simp] theorem State.later_refs (s : State) (k : Nat) (v : Int) : (s.later k v).refs = s.refs := by
  rfl
@[simp] theorem State.later_dev (s : State) (k : Nat) (v : Int) : (s.later k v).dev = s.dev := by
  rfl
@[simp] theorem State.later_ports (s : State) (k : Nat) (v : Int) : (s.later k v).ports = s.ports := by
  rfl
@[simp] theorem State.later_fabric (s : State) (k : Nat) (v : Int) : (s.later k v).fabric = s.fabric := by
  rfl
@[simp] theorem State.later_gnss (s : State) (k : Nat) (v : Int) : (s.later k v).gnss = s.gnss := by
  rfl
@[simp] theorem State.later_serve (s : State) (k : Nat) (v : Int) : (s.later k v).serve = s.serve := by
  rfl
@[simp] theorem State.later_keys (s : State) (k : Nat) (v : Int) : (s.later k v).keys = s.keys := by
  rfl
@[simp] theorem State.later_media (s : State) (k : Nat) (v : Int) : (s.later k v).media = s.media := by
  rfl
@[simp] theorem State.later_free (s : State) (k : Nat) (v : Int) : (s.later k v).free = s.free := by
  rfl


/-- The object in which frames lost are counted. -/
theorem State.objKey_pushSpi (s : State) (f : OutFrame) (k : Nat) (h : k ≠ okey 0 0 0x2004 5) :
    (s.pushSpi f).objKey k = s.objKey k := by
  unfold State.pushSpi
  repeat' split
  all_goals simp [State.objKey_bump, h]
  all_goals rfl

theorem State.objKey_loseEmcy (s : State) (k : Nat) (h : k ≠ okey 0 0 0x2004 5) : s.loseEmcy.objKey k = s.objKey k := by
  simp only [State.loseEmcy, State.objKey_bump, h, if_false]; rfl

/-- An emergency message changes no object but the count of frames lost (R78, R97). -/
theorem State.objKey_emcy (s : State) (c p d k : Nat) (h : k ≠ okey 0 0 0x2004 5) : (s.emcy c p d).objKey k = s.objKey k := by
  unfold State.emcy
  dsimp only
  repeat' split
  · rfl
  · exact State.objKey_loseEmcy s k h
  · exact State.objKey_pushSpi _ _ k h
  · rw [State.objKey_pushSpi _ _ k h, State.objKey_loseEmcy s k h]

@[simp] theorem State.objKey_record (s : State) (p q l c d k : Nat) : (s.record p q l c d).objKey k = s.objKey k := rfl

theorem State.objKey_report (s : State) (q k l c p d j : Nat) (h : j ≠ okey 0 0 0x2004 5) :
    (s.report q k l c p d).objKey j = s.objKey j := by
  simp [State.report, State.objKey_emcy _ _ _ _ _ h]

@[simp] theorem State.objKey_comparedDigest (s : State) (p d v k : Nat) : (s.comparedDigest p d v).objKey k = s.objKey k := by
  simp [State.objKey]
@[simp] theorem State.objKey_compared (s : State) (p d : Nat) (o : Octets) (k : Nat) : (s.compared p d o).objKey k = s.objKey k := by
  simp [State.objKey]
@[simp] theorem State.objKey_pushCan (s : State) (f : OutFrame) (k : Nat) : (s.pushCan f).objKey k = s.objKey k := rfl

/-- A response changes no object but the counts of served requests and lost frames (R76, R81). -/
theorem State.objKey_respond (s : State) (t : Transport) (r : UsdoResponse) (k : Nat) (h1 : k ≠ okey 0 0 0x2004 1)
    (h5 : k ≠ okey 0 0 0x2004 5) : (s.respond t r).objKey k = s.objKey k := by
  cases t <;> simp only [State.respond] <;> split <;>
    simp [State.objKey_pushSpi _ _ _ h5, State.objKey_bump, h1]

theorem State.objKey_abort (s : State) (t : Transport) (i j c k : Nat) (h1 : k ≠ okey 0 0 0x2004 1) (h2 : k ≠ okey 0 0 0x2004 2)
    (h5 : k ≠ okey 0 0 0x2004 5) : (s.abort t i j c).objKey k = s.objKey k := by
  simp [State.abort, State.objKey_respond _ _ _ _ h1 h5, State.objKey_bump, h2]


@[simp] theorem State.objKey_markCopy (s : State) (k j : Nat) : (s.markCopy k).objKey j = s.objKey j := by
  simp [State.objKey]
theorem State.objKey_takeEffect (s : State) (k j : Nat) (v : Int) :
    (s.takeEffect k v).objKey j = if j = k then v else s.objKey j := by
  simp [State.takeEffect, State.objKey_setKey]
@[simp] theorem State.objKey_pendWrite (s : State) (b k j : Nat) (v : Int) : (s.pendWrite b k v).objKey j = s.objKey j := rfl
@[simp] theorem State.objKey_later (s : State) (k j : Nat) (v : Int) : (s.later k v).objKey j = s.objKey j := rfl

/-- A persistent value that takes effect is to be copied (R84). -/
theorem State.copies_takeEffect (s : State) (k : Nat) (v : Int) (h : isPersistent k = true) : k ∈ (s.takeEffect k v).mgmt.copies := by
  simp [State.takeEffect, State.markCopy, h]

/-! ### The management unit's own fields -/

@[simp] theorem State.pushSpi_mgmt_nmt (s : State) (f : OutFrame) : (s.pushSpi f).mgmt.nmt = s.mgmt.nmt := by
  unfold State.pushSpi; repeat' split
  all_goals simp
@[simp] theorem State.pushSpi_mgmt_canState (s : State) (f : OutFrame) : (s.pushSpi f).mgmt.canState = s.mgmt.canState := by
  unfold State.pushSpi; repeat' split
  all_goals simp
@[simp] theorem State.pushSpi_mgmt_miso (s : State) (f : OutFrame) : (s.pushSpi f).mgmt.miso = s.mgmt.miso := by
  unfold State.pushSpi; repeat' split
  all_goals simp
@[simp] theorem State.pushSpi_mgmt_requests (s : State) (f : OutFrame) : (s.pushSpi f).mgmt.requests = s.mgmt.requests := by
  unfold State.pushSpi; repeat' split
  all_goals simp
@[simp] theorem State.pushSpi_mgmt_transfer (s : State) (f : OutFrame) : (s.pushSpi f).mgmt.transfer = s.mgmt.transfer := by
  unfold State.pushSpi; repeat' split
  all_goals simp
@[simp] theorem State.pushSpi_mgmt_straps (s : State) (f : OutFrame) : (s.pushSpi f).mgmt.straps = s.mgmt.straps := by
  unfold State.pushSpi; repeat' split
  all_goals simp
@[simp] theorem State.pushSpi_mgmt_bitRate (s : State) (f : OutFrame) : (s.pushSpi f).mgmt.bitRate = s.mgmt.bitRate := by
  unfold State.pushSpi; repeat' split
  all_goals simp
@[simp] theorem State.pushSpi_mgmt_pendWrites (s : State) (f : OutFrame) : (s.pushSpi f).mgmt.pendWrites = s.mgmt.pendWrites := by
  unfold State.pushSpi; repeat' split
  all_goals simp
@[simp] theorem State.pushSpi_mgmt_copies (s : State) (f : OutFrame) : (s.pushSpi f).mgmt.copies = s.mgmt.copies := by
  unfold State.pushSpi; repeat' split
  all_goals simp
@[simp] theorem State.pushSpi_mgmt_canTx (s : State) (f : OutFrame) : (s.pushSpi f).mgmt.canTx = s.mgmt.canTx := by
  unfold State.pushSpi; repeat' split
  all_goals simp
@[simp] theorem State.pushSpi_mgmt_emcyHold (s : State) (f : OutFrame) : (s.pushSpi f).mgmt.emcyHold = s.mgmt.emcyHold := by
  unfold State.pushSpi; repeat' split
  all_goals simp
@[simp] theorem State.pushSpi_mgmt_lost (s : State) (f : OutFrame) : (s.pushSpi f).mgmt.lost = s.mgmt.lost := by
  unfold State.pushSpi; repeat' split
  all_goals simp

@[simp] theorem State.pushCan_mgmt_nmt (s : State) (f : OutFrame) : (s.pushCan f).mgmt.nmt = s.mgmt.nmt := by
  rfl
@[simp] theorem State.pushCan_mgmt_canState (s : State) (f : OutFrame) : (s.pushCan f).mgmt.canState = s.mgmt.canState := by
  rfl
@[simp] theorem State.pushCan_mgmt_miso (s : State) (f : OutFrame) : (s.pushCan f).mgmt.miso = s.mgmt.miso := by
  rfl
@[simp] theorem State.pushCan_mgmt_requests (s : State) (f : OutFrame) : (s.pushCan f).mgmt.requests = s.mgmt.requests := by
  rfl
@[simp] theorem State.pushCan_mgmt_transfer (s : State) (f : OutFrame) : (s.pushCan f).mgmt.transfer = s.mgmt.transfer := by
  rfl
@[simp] theorem State.pushCan_mgmt_straps (s : State) (f : OutFrame) : (s.pushCan f).mgmt.straps = s.mgmt.straps := by
  rfl
@[simp] theorem State.pushCan_mgmt_bitRate (s : State) (f : OutFrame) : (s.pushCan f).mgmt.bitRate = s.mgmt.bitRate := by
  rfl
@[simp] theorem State.pushCan_mgmt_pendWrites (s : State) (f : OutFrame) : (s.pushCan f).mgmt.pendWrites = s.mgmt.pendWrites := by
  rfl
@[simp] theorem State.pushCan_mgmt_copies (s : State) (f : OutFrame) : (s.pushCan f).mgmt.copies = s.mgmt.copies := by
  rfl
@[simp] theorem State.pushCan_mgmt_emcyHold (s : State) (f : OutFrame) : (s.pushCan f).mgmt.emcyHold = s.mgmt.emcyHold := by
  rfl
@[simp] theorem State.pushCan_mgmt_lost (s : State) (f : OutFrame) : (s.pushCan f).mgmt.lost = s.mgmt.lost := by
  rfl
@[simp] theorem State.pushCan_mgmt_spiQueue (s : State) (f : OutFrame) : (s.pushCan f).mgmt.spiQueue = s.mgmt.spiQueue := by
  rfl

@[simp] theorem State.loseEmcy_mgmt_nmt (s : State)  : (s.loseEmcy ).mgmt.nmt = s.mgmt.nmt := by
  simp [State.loseEmcy]
@[simp] theorem State.loseEmcy_mgmt_canState (s : State)  : (s.loseEmcy ).mgmt.canState = s.mgmt.canState := by
  simp [State.loseEmcy]
@[simp] theorem State.loseEmcy_mgmt_miso (s : State)  : (s.loseEmcy ).mgmt.miso = s.mgmt.miso := by
  simp [State.loseEmcy]
@[simp] theorem State.loseEmcy_mgmt_requests (s : State)  : (s.loseEmcy ).mgmt.requests = s.mgmt.requests := by
  simp [State.loseEmcy]
@[simp] theorem State.loseEmcy_mgmt_transfer (s : State)  : (s.loseEmcy ).mgmt.transfer = s.mgmt.transfer := by
  simp [State.loseEmcy]
@[simp] theorem State.loseEmcy_mgmt_straps (s : State)  : (s.loseEmcy ).mgmt.straps = s.mgmt.straps := by
  simp [State.loseEmcy]
@[simp] theorem State.loseEmcy_mgmt_bitRate (s : State)  : (s.loseEmcy ).mgmt.bitRate = s.mgmt.bitRate := by
  simp [State.loseEmcy]
@[simp] theorem State.loseEmcy_mgmt_pendWrites (s : State)  : (s.loseEmcy ).mgmt.pendWrites = s.mgmt.pendWrites := by
  simp [State.loseEmcy]
@[simp] theorem State.loseEmcy_mgmt_copies (s : State)  : (s.loseEmcy ).mgmt.copies = s.mgmt.copies := by
  simp [State.loseEmcy]
@[simp] theorem State.loseEmcy_mgmt_canTx (s : State)  : (s.loseEmcy ).mgmt.canTx = s.mgmt.canTx := by
  simp [State.loseEmcy]
@[simp] theorem State.loseEmcy_mgmt_emcyHold (s : State)  : (s.loseEmcy ).mgmt.emcyHold = s.mgmt.emcyHold := by
  simp [State.loseEmcy]
@[simp] theorem State.loseEmcy_mgmt_spiQueue (s : State)  : (s.loseEmcy ).mgmt.spiQueue = s.mgmt.spiQueue := by
  simp [State.loseEmcy]

@[simp] theorem State.emcy_mgmt_nmt (s : State) (c p d : Nat) : (s.emcy c p d).mgmt.nmt = s.mgmt.nmt := by
  unfold State.emcy; dsimp only; repeat' split
  all_goals simp
@[simp] theorem State.emcy_mgmt_canState (s : State) (c p d : Nat) : (s.emcy c p d).mgmt.canState = s.mgmt.canState := by
  unfold State.emcy; dsimp only; repeat' split
  all_goals simp
@[simp] theorem State.emcy_mgmt_miso (s : State) (c p d : Nat) : (s.emcy c p d).mgmt.miso = s.mgmt.miso := by
  unfold State.emcy; dsimp only; repeat' split
  all_goals simp
@[simp] theorem State.emcy_mgmt_requests (s : State) (c p d : Nat) : (s.emcy c p d).mgmt.requests = s.mgmt.requests := by
  unfold State.emcy; dsimp only; repeat' split
  all_goals simp
@[simp] theorem State.emcy_mgmt_transfer (s : State) (c p d : Nat) : (s.emcy c p d).mgmt.transfer = s.mgmt.transfer := by
  unfold State.emcy; dsimp only; repeat' split
  all_goals simp
@[simp] theorem State.emcy_mgmt_straps (s : State) (c p d : Nat) : (s.emcy c p d).mgmt.straps = s.mgmt.straps := by
  unfold State.emcy; dsimp only; repeat' split
  all_goals simp
@[simp] theorem State.emcy_mgmt_bitRate (s : State) (c p d : Nat) : (s.emcy c p d).mgmt.bitRate = s.mgmt.bitRate := by
  unfold State.emcy; dsimp only; repeat' split
  all_goals simp
@[simp] theorem State.emcy_mgmt_pendWrites (s : State) (c p d : Nat) : (s.emcy c p d).mgmt.pendWrites = s.mgmt.pendWrites := by
  unfold State.emcy; dsimp only; repeat' split
  all_goals simp
@[simp] theorem State.emcy_mgmt_copies (s : State) (c p d : Nat) : (s.emcy c p d).mgmt.copies = s.mgmt.copies := by
  unfold State.emcy; dsimp only; repeat' split
  all_goals simp
@[simp] theorem State.emcy_mgmt_canTx (s : State) (c p d : Nat) : (s.emcy c p d).mgmt.canTx = s.mgmt.canTx := by
  unfold State.emcy; dsimp only; repeat' split
  all_goals simp

@[simp] theorem State.report_mgmt_nmt (s : State) (q k l c p d : Nat) : (s.report q k l c p d).mgmt.nmt = s.mgmt.nmt := by
  simp [State.report]
@[simp] theorem State.report_mgmt_canState (s : State) (q k l c p d : Nat) : (s.report q k l c p d).mgmt.canState = s.mgmt.canState := by
  simp [State.report]
@[simp] theorem State.report_mgmt_miso (s : State) (q k l c p d : Nat) : (s.report q k l c p d).mgmt.miso = s.mgmt.miso := by
  simp [State.report]
@[simp] theorem State.report_mgmt_requests (s : State) (q k l c p d : Nat) : (s.report q k l c p d).mgmt.requests = s.mgmt.requests := by
  simp [State.report]
@[simp] theorem State.report_mgmt_transfer (s : State) (q k l c p d : Nat) : (s.report q k l c p d).mgmt.transfer = s.mgmt.transfer := by
  simp [State.report]
@[simp] theorem State.report_mgmt_straps (s : State) (q k l c p d : Nat) : (s.report q k l c p d).mgmt.straps = s.mgmt.straps := by
  simp [State.report]
@[simp] theorem State.report_mgmt_bitRate (s : State) (q k l c p d : Nat) : (s.report q k l c p d).mgmt.bitRate = s.mgmt.bitRate := by
  simp [State.report]
@[simp] theorem State.report_mgmt_pendWrites (s : State) (q k l c p d : Nat) : (s.report q k l c p d).mgmt.pendWrites = s.mgmt.pendWrites := by
  simp [State.report]
@[simp] theorem State.report_mgmt_copies (s : State) (q k l c p d : Nat) : (s.report q k l c p d).mgmt.copies = s.mgmt.copies := by
  simp [State.report]
@[simp] theorem State.report_mgmt_canTx (s : State) (q k l c p d : Nat) : (s.report q k l c p d).mgmt.canTx = s.mgmt.canTx := by
  simp [State.report]

@[simp] theorem State.testEvent_mgmt_nmt (s : State) (b : Nat) (st : Bool) (i : Nat) : (s.testEvent b st i).mgmt.nmt = s.mgmt.nmt := by
  simp [State.testEvent]
@[simp] theorem State.testEvent_mgmt_canState (s : State) (b : Nat) (st : Bool) (i : Nat) : (s.testEvent b st i).mgmt.canState = s.mgmt.canState := by
  simp [State.testEvent]
@[simp] theorem State.testEvent_mgmt_miso (s : State) (b : Nat) (st : Bool) (i : Nat) : (s.testEvent b st i).mgmt.miso = s.mgmt.miso := by
  simp [State.testEvent]
@[simp] theorem State.testEvent_mgmt_requests (s : State) (b : Nat) (st : Bool) (i : Nat) : (s.testEvent b st i).mgmt.requests = s.mgmt.requests := by
  simp [State.testEvent]
@[simp] theorem State.testEvent_mgmt_transfer (s : State) (b : Nat) (st : Bool) (i : Nat) : (s.testEvent b st i).mgmt.transfer = s.mgmt.transfer := by
  simp [State.testEvent]
@[simp] theorem State.testEvent_mgmt_straps (s : State) (b : Nat) (st : Bool) (i : Nat) : (s.testEvent b st i).mgmt.straps = s.mgmt.straps := by
  simp [State.testEvent]
@[simp] theorem State.testEvent_mgmt_bitRate (s : State) (b : Nat) (st : Bool) (i : Nat) : (s.testEvent b st i).mgmt.bitRate = s.mgmt.bitRate := by
  simp [State.testEvent]
@[simp] theorem State.testEvent_mgmt_pendWrites (s : State) (b : Nat) (st : Bool) (i : Nat) : (s.testEvent b st i).mgmt.pendWrites = s.mgmt.pendWrites := by
  simp [State.testEvent]
@[simp] theorem State.testEvent_mgmt_copies (s : State) (b : Nat) (st : Bool) (i : Nat) : (s.testEvent b st i).mgmt.copies = s.mgmt.copies := by
  simp [State.testEvent]
@[simp] theorem State.testEvent_mgmt_canTx (s : State) (b : Nat) (st : Bool) (i : Nat) : (s.testEvent b st i).mgmt.canTx = s.mgmt.canTx := by
  simp [State.testEvent]

@[simp] theorem State.respond_mgmt_nmt (s : State) (t : Transport) (r : UsdoResponse) : (s.respond t r).mgmt.nmt = s.mgmt.nmt := by
  cases t <;> simp [State.respond] <;> split <;> simp
@[simp] theorem State.respond_mgmt_canState (s : State) (t : Transport) (r : UsdoResponse) : (s.respond t r).mgmt.canState = s.mgmt.canState := by
  cases t <;> simp [State.respond] <;> split <;> simp
@[simp] theorem State.respond_mgmt_miso (s : State) (t : Transport) (r : UsdoResponse) : (s.respond t r).mgmt.miso = s.mgmt.miso := by
  cases t <;> simp [State.respond] <;> split <;> simp
@[simp] theorem State.respond_mgmt_requests (s : State) (t : Transport) (r : UsdoResponse) : (s.respond t r).mgmt.requests = s.mgmt.requests := by
  cases t <;> simp [State.respond] <;> split <;> simp
@[simp] theorem State.respond_mgmt_transfer (s : State) (t : Transport) (r : UsdoResponse) : (s.respond t r).mgmt.transfer = s.mgmt.transfer := by
  cases t <;> simp [State.respond] <;> split <;> simp
@[simp] theorem State.respond_mgmt_straps (s : State) (t : Transport) (r : UsdoResponse) : (s.respond t r).mgmt.straps = s.mgmt.straps := by
  cases t <;> simp [State.respond] <;> split <;> simp
@[simp] theorem State.respond_mgmt_bitRate (s : State) (t : Transport) (r : UsdoResponse) : (s.respond t r).mgmt.bitRate = s.mgmt.bitRate := by
  cases t <;> simp [State.respond] <;> split <;> simp
@[simp] theorem State.respond_mgmt_pendWrites (s : State) (t : Transport) (r : UsdoResponse) : (s.respond t r).mgmt.pendWrites = s.mgmt.pendWrites := by
  cases t <;> simp [State.respond] <;> split <;> simp
@[simp] theorem State.respond_mgmt_copies (s : State) (t : Transport) (r : UsdoResponse) : (s.respond t r).mgmt.copies = s.mgmt.copies := by
  cases t <;> simp [State.respond] <;> split <;> simp
@[simp] theorem State.respond_mgmt_emcyHold (s : State) (t : Transport) (r : UsdoResponse) : (s.respond t r).mgmt.emcyHold = s.mgmt.emcyHold := by
  cases t <;> simp [State.respond] <;> split <;> simp
@[simp] theorem State.respond_mgmt_lost (s : State) (t : Transport) (r : UsdoResponse) : (s.respond t r).mgmt.lost = s.mgmt.lost := by
  cases t <;> simp [State.respond] <;> split <;> simp

@[simp] theorem State.abort_mgmt_nmt (s : State) (t : Transport) (i j c : Nat) : (s.abort t i j c).mgmt.nmt = s.mgmt.nmt := by
  simp [State.abort]
@[simp] theorem State.abort_mgmt_canState (s : State) (t : Transport) (i j c : Nat) : (s.abort t i j c).mgmt.canState = s.mgmt.canState := by
  simp [State.abort]
@[simp] theorem State.abort_mgmt_miso (s : State) (t : Transport) (i j c : Nat) : (s.abort t i j c).mgmt.miso = s.mgmt.miso := by
  simp [State.abort]
@[simp] theorem State.abort_mgmt_requests (s : State) (t : Transport) (i j c : Nat) : (s.abort t i j c).mgmt.requests = s.mgmt.requests := by
  simp [State.abort]
@[simp] theorem State.abort_mgmt_transfer (s : State) (t : Transport) (i j c : Nat) : (s.abort t i j c).mgmt.transfer = s.mgmt.transfer := by
  simp [State.abort]
@[simp] theorem State.abort_mgmt_straps (s : State) (t : Transport) (i j c : Nat) : (s.abort t i j c).mgmt.straps = s.mgmt.straps := by
  simp [State.abort]
@[simp] theorem State.abort_mgmt_bitRate (s : State) (t : Transport) (i j c : Nat) : (s.abort t i j c).mgmt.bitRate = s.mgmt.bitRate := by
  simp [State.abort]
@[simp] theorem State.abort_mgmt_pendWrites (s : State) (t : Transport) (i j c : Nat) : (s.abort t i j c).mgmt.pendWrites = s.mgmt.pendWrites := by
  simp [State.abort]
@[simp] theorem State.abort_mgmt_copies (s : State) (t : Transport) (i j c : Nat) : (s.abort t i j c).mgmt.copies = s.mgmt.copies := by
  simp [State.abort]
@[simp] theorem State.abort_mgmt_emcyHold (s : State) (t : Transport) (i j c : Nat) : (s.abort t i j c).mgmt.emcyHold = s.mgmt.emcyHold := by
  simp [State.abort]
@[simp] theorem State.abort_mgmt_lost (s : State) (t : Transport) (i j c : Nat) : (s.abort t i j c).mgmt.lost = s.mgmt.lost := by
  simp [State.abort]

@[simp] theorem State.markCopy_mgmt_nmt (s : State) (k : Nat) : (s.markCopy k).mgmt.nmt = s.mgmt.nmt := by
  unfold State.markCopy; split <;> rfl
@[simp] theorem State.markCopy_mgmt_canState (s : State) (k : Nat) : (s.markCopy k).mgmt.canState = s.mgmt.canState := by
  unfold State.markCopy; split <;> rfl
@[simp] theorem State.markCopy_mgmt_miso (s : State) (k : Nat) : (s.markCopy k).mgmt.miso = s.mgmt.miso := by
  unfold State.markCopy; split <;> rfl
@[simp] theorem State.markCopy_mgmt_requests (s : State) (k : Nat) : (s.markCopy k).mgmt.requests = s.mgmt.requests := by
  unfold State.markCopy; split <;> rfl
@[simp] theorem State.markCopy_mgmt_transfer (s : State) (k : Nat) : (s.markCopy k).mgmt.transfer = s.mgmt.transfer := by
  unfold State.markCopy; split <;> rfl
@[simp] theorem State.markCopy_mgmt_straps (s : State) (k : Nat) : (s.markCopy k).mgmt.straps = s.mgmt.straps := by
  unfold State.markCopy; split <;> rfl
@[simp] theorem State.markCopy_mgmt_bitRate (s : State) (k : Nat) : (s.markCopy k).mgmt.bitRate = s.mgmt.bitRate := by
  unfold State.markCopy; split <;> rfl
@[simp] theorem State.markCopy_mgmt_pendWrites (s : State) (k : Nat) : (s.markCopy k).mgmt.pendWrites = s.mgmt.pendWrites := by
  unfold State.markCopy; split <;> rfl
@[simp] theorem State.markCopy_mgmt_canTx (s : State) (k : Nat) : (s.markCopy k).mgmt.canTx = s.mgmt.canTx := by
  unfold State.markCopy; split <;> rfl
@[simp] theorem State.markCopy_mgmt_emcyHold (s : State) (k : Nat) : (s.markCopy k).mgmt.emcyHold = s.mgmt.emcyHold := by
  unfold State.markCopy; split <;> rfl
@[simp] theorem State.markCopy_mgmt_lost (s : State) (k : Nat) : (s.markCopy k).mgmt.lost = s.mgmt.lost := by
  unfold State.markCopy; split <;> rfl
@[simp] theorem State.markCopy_mgmt_spiQueue (s : State) (k : Nat) : (s.markCopy k).mgmt.spiQueue = s.mgmt.spiQueue := by
  unfold State.markCopy; split <;> rfl

@[simp] theorem State.takeEffect_mgmt_nmt (s : State) (k : Nat) (v : Int) : (s.takeEffect k v).mgmt.nmt = s.mgmt.nmt := by
  simp [State.takeEffect]
@[simp] theorem State.takeEffect_mgmt_canState (s : State) (k : Nat) (v : Int) : (s.takeEffect k v).mgmt.canState = s.mgmt.canState := by
  simp [State.takeEffect]
@[simp] theorem State.takeEffect_mgmt_miso (s : State) (k : Nat) (v : Int) : (s.takeEffect k v).mgmt.miso = s.mgmt.miso := by
  simp [State.takeEffect]
@[simp] theorem State.takeEffect_mgmt_requests (s : State) (k : Nat) (v : Int) : (s.takeEffect k v).mgmt.requests = s.mgmt.requests := by
  simp [State.takeEffect]
@[simp] theorem State.takeEffect_mgmt_transfer (s : State) (k : Nat) (v : Int) : (s.takeEffect k v).mgmt.transfer = s.mgmt.transfer := by
  simp [State.takeEffect]
@[simp] theorem State.takeEffect_mgmt_straps (s : State) (k : Nat) (v : Int) : (s.takeEffect k v).mgmt.straps = s.mgmt.straps := by
  simp [State.takeEffect]
@[simp] theorem State.takeEffect_mgmt_bitRate (s : State) (k : Nat) (v : Int) : (s.takeEffect k v).mgmt.bitRate = s.mgmt.bitRate := by
  simp [State.takeEffect]
@[simp] theorem State.takeEffect_mgmt_pendWrites (s : State) (k : Nat) (v : Int) : (s.takeEffect k v).mgmt.pendWrites = s.mgmt.pendWrites := by
  simp [State.takeEffect]
@[simp] theorem State.takeEffect_mgmt_canTx (s : State) (k : Nat) (v : Int) : (s.takeEffect k v).mgmt.canTx = s.mgmt.canTx := by
  simp [State.takeEffect]
@[simp] theorem State.takeEffect_mgmt_emcyHold (s : State) (k : Nat) (v : Int) : (s.takeEffect k v).mgmt.emcyHold = s.mgmt.emcyHold := by
  simp [State.takeEffect]
@[simp] theorem State.takeEffect_mgmt_lost (s : State) (k : Nat) (v : Int) : (s.takeEffect k v).mgmt.lost = s.mgmt.lost := by
  simp [State.takeEffect]
@[simp] theorem State.takeEffect_mgmt_spiQueue (s : State) (k : Nat) (v : Int) : (s.takeEffect k v).mgmt.spiQueue = s.mgmt.spiQueue := by
  simp [State.takeEffect]

/-! ### The error register's return to 0 -/

@[simp] theorem settleRegister_pending (s t : State) : (settleRegister s t).pending = t.pending := by
  unfold settleRegister; split <;> simp
@[simp] theorem settleRegister_clock (s t : State) : (settleRegister s t).clock = t.clock := by
  unfold settleRegister; split <;> simp
@[simp] theorem settleRegister_intake (s t : State) : (settleRegister s t).intake = t.intake := by
  unfold settleRegister; split <;> simp
@[simp] theorem settleRegister_groups (s t : State) : (settleRegister s t).groups = t.groups := by
  unfold settleRegister; split <;> simp
@[simp] theorem settleRegister_darkroom (s t : State) : (settleRegister s t).darkroom = t.darkroom := by
  unfold settleRegister; split <;> simp
@[simp] theorem settleRegister_boot (s t : State) : (settleRegister s t).boot = t.boot := by
  unfold settleRegister; split <;> simp
@[simp] theorem settleRegister_twin (s t : State) : (settleRegister s t).twin = t.twin := by
  unfold settleRegister; split <;> simp
@[simp] theorem settleRegister_faults (s t : State) : (settleRegister s t).faults = t.faults := by
  unfold settleRegister; split <;> simp
@[simp] theorem settleRegister_time (s t : State) : (settleRegister s t).time = t.time := by
  unfold settleRegister; split <;> simp
@[simp] theorem settleRegister_plans (s t : State) : (settleRegister s t).plans = t.plans := by
  unfold settleRegister; split <;> simp
@[simp] theorem settleRegister_synth (s t : State) : (settleRegister s t).synth = t.synth := by
  unfold settleRegister; split <;> simp
@[simp] theorem settleRegister_refs (s t : State) : (settleRegister s t).refs = t.refs := by
  unfold settleRegister; split <;> simp
@[simp] theorem settleRegister_dev (s t : State) : (settleRegister s t).dev = t.dev := by
  unfold settleRegister; split <;> simp
@[simp] theorem settleRegister_ports (s t : State) : (settleRegister s t).ports = t.ports := by
  unfold settleRegister; split <;> simp
@[simp] theorem settleRegister_fabric (s t : State) : (settleRegister s t).fabric = t.fabric := by
  unfold settleRegister; split <;> simp
@[simp] theorem settleRegister_gnss (s t : State) : (settleRegister s t).gnss = t.gnss := by
  unfold settleRegister; split <;> simp
@[simp] theorem settleRegister_serve (s t : State) : (settleRegister s t).serve = t.serve := by
  unfold settleRegister; split <;> simp
@[simp] theorem settleRegister_keys (s t : State) : (settleRegister s t).keys = t.keys := by
  unfold settleRegister; split <;> simp
@[simp] theorem settleRegister_media (s t : State) : (settleRegister s t).media = t.media := by
  unfold settleRegister; split <;> simp
@[simp] theorem settleRegister_free (s t : State) : (settleRegister s t).free = t.free := by
  unfold settleRegister; split <;> simp
@[simp] theorem settleRegister_mgmt_nmt (s t : State) : (settleRegister s t).mgmt.nmt = t.mgmt.nmt := by
  unfold settleRegister; split <;> simp
@[simp] theorem settleRegister_mgmt_canState (s t : State) : (settleRegister s t).mgmt.canState = t.mgmt.canState := by
  unfold settleRegister; split <;> simp
@[simp] theorem settleRegister_mgmt_miso (s t : State) : (settleRegister s t).mgmt.miso = t.mgmt.miso := by
  unfold settleRegister; split <;> simp
@[simp] theorem settleRegister_mgmt_requests (s t : State) : (settleRegister s t).mgmt.requests = t.mgmt.requests := by
  unfold settleRegister; split <;> simp
@[simp] theorem settleRegister_mgmt_transfer (s t : State) : (settleRegister s t).mgmt.transfer = t.mgmt.transfer := by
  unfold settleRegister; split <;> simp
@[simp] theorem settleRegister_mgmt_straps (s t : State) : (settleRegister s t).mgmt.straps = t.mgmt.straps := by
  unfold settleRegister; split <;> simp
@[simp] theorem settleRegister_mgmt_bitRate (s t : State) : (settleRegister s t).mgmt.bitRate = t.mgmt.bitRate := by
  unfold settleRegister; split <;> simp
@[simp] theorem settleRegister_mgmt_pendWrites (s t : State) : (settleRegister s t).mgmt.pendWrites = t.mgmt.pendWrites := by
  unfold settleRegister; split <;> simp
@[simp] theorem settleRegister_mgmt_copies (s t : State) : (settleRegister s t).mgmt.copies = t.mgmt.copies := by
  unfold settleRegister; split <;> simp
@[simp] theorem settleRegister_mgmt_canTx (s t : State) : (settleRegister s t).mgmt.canTx = t.mgmt.canTx := by
  unfold settleRegister; split <;> simp
@[simp] theorem State.reportLost_mgmt_nmt (s : State) : s.reportLost.mgmt.nmt = s.mgmt.nmt := by
  unfold State.reportLost; split <;> simp
@[simp] theorem State.reportLost_mgmt_canState (s : State) : s.reportLost.mgmt.canState = s.mgmt.canState := by
  unfold State.reportLost; split <;> simp
@[simp] theorem State.reportLost_mgmt_miso (s : State) : s.reportLost.mgmt.miso = s.mgmt.miso := by
  unfold State.reportLost; split <;> simp
@[simp] theorem State.reportLost_mgmt_requests (s : State) : s.reportLost.mgmt.requests = s.mgmt.requests := by
  unfold State.reportLost; split <;> simp
@[simp] theorem State.reportLost_mgmt_transfer (s : State) : s.reportLost.mgmt.transfer = s.mgmt.transfer := by
  unfold State.reportLost; split <;> simp
@[simp] theorem State.reportLost_mgmt_straps (s : State) : s.reportLost.mgmt.straps = s.mgmt.straps := by
  unfold State.reportLost; split <;> simp
@[simp] theorem State.reportLost_mgmt_bitRate (s : State) : s.reportLost.mgmt.bitRate = s.mgmt.bitRate := by
  unfold State.reportLost; split <;> simp
@[simp] theorem State.reportLost_mgmt_pendWrites (s : State) : s.reportLost.mgmt.pendWrites = s.mgmt.pendWrites := by
  unfold State.reportLost; split <;> simp
@[simp] theorem State.reportLost_mgmt_copies (s : State) : s.reportLost.mgmt.copies = s.mgmt.copies := by
  unfold State.reportLost; split <;> simp
@[simp] theorem State.reportLost_mgmt_canTx (s : State) : s.reportLost.mgmt.canTx = s.mgmt.canTx := by
  unfold State.reportLost; split <;> simp

theorem settleRegister_objKey (s t : State) {k : Nat} (h : k ≠ okey 0 0 0x2004 5) : (settleRegister s t).objKey k = t.objKey k := by
  unfold settleRegister; split
  · exact State.objKey_emcy _ _ _ _ _ h
  · rfl

theorem settleRegister_same {s t : State} (h : t.errorRegister = s.errorRegister) : settleRegister s t = t := by
  unfold settleRegister; split
  · rename_i h'; exact absurd (h ▸ h'.2) h'.1
  · rfl

theorem State.errorRegister_congr {s t : State} (hf : t.faults = s.faults) (hm : t.mgmt.canState = s.mgmt.canState)
    (hi : t.intake = s.intake) (ht : t.twin = s.twin) : t.errorRegister = s.errorRegister := by
  unfold State.errorRegister State.anyStatus State.plate
  simp only [hf, hm, hi, ht]

theorem settleRegister_mgmt (s : State) (m : Mgmt) (h : m.canState = s.mgmt.canState) :
    settleRegister s { s with mgmt := m } = { s with mgmt := m } :=
  settleRegister_same (by simp only [State.errorRegister, h]; rfl)

/-- The node ID is an object of its own. -/
theorem State.node_congr {s t : State} (h : t.objKey (okey 0 0 0x2002 3) = s.objKey (okey 0 0 0x2002 3)) : t.node = s.node := by
  simp only [State.node, State.obj, State.objI, h]

@[simp] theorem State.node_bump_served (s : State) : (s.bump 0x2004 1).node = s.node := by
  apply State.node_congr; rw [State.objKey_bump, if_neg (by decide)]

@[simp] theorem State.node_compared (s : State) (p d : Nat) (o : Octets) : (s.compared p d o).node = s.node := by
  apply State.node_congr; simp

/-- A response to a request on CAN waits behind the frames already there; one to the SPI host leaves CAN alone. -/
@[simp] theorem State.respond_can (s : State) (r : UsdoResponse) : (s.respond .can r).mgmt.canTx = s.mgmt.canTx ++ [.usdo s.node r] := by
  simp only [State.respond, State.pushCan]
  split <;> simp

@[simp] theorem State.respond_spi (s : State) (r : UsdoResponse) : (s.respond .spi r).mgmt.canTx = s.mgmt.canTx := by
  simp only [State.respond]
  split <;> simp

theorem State.objKey_reportLost (s : State) {k : Nat} (h : k ≠ okey 0 0 0x2004 5) : s.reportLost.objKey k = s.objKey k := by
  unfold State.reportLost; split
  · exact State.objKey_emcy _ _ _ _ _ h
  · rfl


/-! ### Host commands -/

/-- A host command that is not refused first runs its own checks and effect (R469, R83). -/
theorem State.command_of_gate (s : State) (t : Transport) (i j : Nat) (op : State → Except Nat State) (hl : s.listens = true)
    (hg : s.gate i j = none) : s.command t i j op = s.answer t i j (op s) := by
  simp [State.command, hl, hg]

theorem State.answer_ok (s u : State) (t : Transport) (i j : Nat) : s.answer t i j (.ok u) = u.respond t (.downloaded i j) := rfl
theorem State.answer_error (s : State) (t : Transport) (i j c : Nat) : s.answer t i j (.error c) = s.abort t i j c := rfl

/-- Everything that a host command can do: nothing, an abort with the state unchanged, or its effect and its confirmation. -/
theorem State.command_cases (s : State) (t : Transport) (i j : Nat) (op : State → Except Nat State) :
    (s.listens = false ∧ s.command t i j op = s) ∨
    (s.listens = true ∧ ∃ c, s.gate i j = some c ∧ s.command t i j op = s.abort t i j c) ∨
    (s.listens = true ∧ s.gate i j = none ∧ ((∃ c, op s = .error c ∧ s.command t i j op = s.abort t i j c) ∨
      ∃ u, op s = .ok u ∧ s.command t i j op = u.respond t (.downloaded i j))) := by
  unfold State.command
  cases hl : s.listens with
  | false => simp
  | true =>
    cases hg : s.gate i j with
    | some c => simp
    | none => cases ho : op s <;> simp [State.answer]

theorem State.whenServing_of (s : State) (f : State → State) (h : s.serving = true) : s.whenServing f = f s := by
  simp [State.whenServing, h]

theorem State.whenServing_not (s : State) (f : State → State) (h : s.serving = false) : s.whenServing f = s := by
  simp [State.whenServing, h]

end Sys2Proof.Machine
end

