-- ==== Sys2Proof/Laws/Claims.lean ====
section
/-! SUPPORT. How a claim about a command is opened: its completion, its frame part by part. -/

namespace Sys2Proof.Machine

theorem completes_intro {c : Instr} {s t : State} {P : State → Prop} (h : exec c s = .next t) (hp : P t) : CompletesWith c s P :=
  ⟨t, h, hp⟩

/-- A frame is shown part by part. -/
theorem keeps_intro (l : List Part) (s t : State)
    (h_pending : Part.pending ∉ l → t.pending = s.pending)
    (h_objs : Part.objs ∉ l → t.objs = s.objs)
    (h_clock : Part.clock ∉ l → t.clock = s.clock)
    (h_intake : Part.intake ∉ l → t.intake = s.intake)
    (h_mgmt : Part.mgmt ∉ l → t.mgmt = s.mgmt)
    (h_groups : Part.groups ∉ l → t.groups = s.groups)
    (h_darkroom : Part.darkroom ∉ l → t.darkroom = s.darkroom)
    (h_boot : Part.boot ∉ l → t.boot = s.boot)
    (h_twin : Part.twin ∉ l → t.twin = s.twin)
    (h_faults : Part.faults ∉ l → t.faults = s.faults)
    (h_time : Part.time ∉ l → t.time = s.time)
    (h_plans : Part.plans ∉ l → t.plans = s.plans)
    (h_synth : Part.synth ∉ l → t.synth = s.synth)
    (h_refs : Part.refs ∉ l → t.refs = s.refs)
    (h_dev : Part.dev ∉ l → t.dev = s.dev)
    (h_ports : Part.ports ∉ l → t.ports = s.ports)
    (h_fabric : Part.fabric ∉ l → t.fabric = s.fabric)
    (h_gnss : Part.gnss ∉ l → t.gnss = s.gnss)
    (h_serve : Part.serve ∉ l → t.serve = s.serve)
    (h_keys : Part.keys ∉ l → t.keys = s.keys)
    (h_media : Part.media ∉ l → t.media = s.media)
    (h_free : Part.free ∉ l → t.free = s.free) : KeepsAllBut l s t := by
  intro p
  cases p
  · exact h_pending
  · exact h_objs
  · exact h_clock
  · exact h_intake
  · exact h_mgmt
  · exact h_groups
  · exact h_darkroom
  · exact h_boot
  · exact h_twin
  · exact h_faults
  · exact h_time
  · exact h_plans
  · exact h_synth
  · exact h_refs
  · exact h_dev
  · exact h_ports
  · exact h_fabric
  · exact h_gnss
  · exact h_serve
  · exact h_keys
  · exact h_media
  · exact h_free

theorem keeps_objKey {l : List Part} {s t : State} (h : KeepsAllBut l s t) (hn : Part.objs ∉ l) (k : Nat) : t.objKey k = s.objKey k := by
  have : t.objs = s.objs := h .objs hn
  simp only [State.objKey, this]

theorem keeps_refl (l : List Part) (s : State) : KeepsAllBut l s s := by
  intro p _; cases p <;> rfl

theorem keeps_trans {l : List Part} {s t u : State} (h1 : KeepsAllBut l s t) (h2 : KeepsAllBut l t u) : KeepsAllBut l s u := by
  intro p hp
  have a := h1 p hp
  have b := h2 p hp
  cases p <;> exact b.trans a

theorem keeps_weaken {l m : List Part} {s t : State} (h : KeepsAllBut l s t) (hl : ∀ p, p ∈ l → p ∈ m) : KeepsAllBut m s t :=
  fun p hp => h p fun hq => hp (hl p hq)

/-! ### What the shared operations add to a frame -/

theorem objects_refl (l : List Nat) (s : State) : ObjectsBut l s s := fun _ _ => rfl

theorem objects_trans {l : List Nat} {s t u : State} (h1 : ObjectsBut l s t) (h2 : ObjectsBut l t u) : ObjectsBut l s u :=
  fun k hk => (h2 k hk).trans (h1 k hk)

theorem objects_weaken {l m : List Nat} {s t : State} (h : ObjectsBut l s t) (hl : ∀ k, k ∈ l → k ∈ m) : ObjectsBut m s t :=
  fun k hk => h k fun hq => hk (hl k hq)

theorem objects_of_objs {l : List Nat} {s t : State} (h : t.objs = s.objs) : ObjectsBut l s t := by
  intro k _; simp only [State.objKey, h]

theorem objects_setKey (s : State) (k : Nat) (v : Int) : ObjectsBut [k] s (s.setKey k v) := by
  intro j hj; simp at hj; rw [State.objKey_setKey]; simp [hj]

theorem objects_bumpKey (s : State) (k n : Nat) : ObjectsBut [k] s (s.bumpKey k n) := objects_setKey s k _

theorem objects_bump (s : State) (i j : Nat) : ObjectsBut [okey 0 0 i j] s (s.bump i j) := objects_setKey s _ _

theorem objects_setObj (s : State) (i j : Nat) (v : Int) : ObjectsBut [okey 0 0 i j] s (s.setObj i j v) := objects_setKey s _ _

theorem objects_emcy (s : State) (c p d : Nat) : ObjectsBut [okey 0 0 0x2004 5] s (s.emcy c p d) := by
  intro k hk; simp at hk; exact State.objKey_emcy _ _ _ _ _ hk

theorem objects_report (s : State) (q k l c p d : Nat) : ObjectsBut [okey 0 0 0x2004 5] s (s.report q k l c p d) := by
  intro j hj; simp at hj; exact State.objKey_report _ _ _ _ _ _ _ _ hj

theorem objects_respond (s : State) (t : Transport) (r : UsdoResponse) :
    ObjectsBut [okey 0 0 0x2004 1, okey 0 0 0x2004 5] s (s.respond t r) := by
  intro k hk; simp at hk; exact State.objKey_respond _ _ _ _ hk.1 hk.2

theorem objects_settle (s t : State) : ObjectsBut [okey 0 0 0x2004 5] t (settleRegister s t) := by
  intro k hk; simp at hk; exact settleRegister_objKey _ _ hk

theorem keeps_setKey (s : State) (k : Nat) (v : Int) : KeepsAllBut [.objs] s (s.setKey k v) := by
  apply keeps_intro <;> simp

theorem keeps_bump (s : State) (i j : Nat) : KeepsAllBut [.objs] s (s.bump i j) := keeps_setKey s _ _

theorem keeps_emcy (s : State) (c p d : Nat) : KeepsAllBut [.mgmt, .objs] s (s.emcy c p d) := by
  apply keeps_intro <;> simp

theorem keeps_report (s : State) (q k l c p d : Nat) : KeepsAllBut [.mgmt, .objs, .faults] s (s.report q k l c p d) := by
  apply keeps_intro <;> simp

theorem keeps_respond (s : State) (t : Transport) (r : UsdoResponse) : KeepsAllBut [.mgmt, .objs, .twin] s (s.respond t r) := by
  apply keeps_intro <;> simp

theorem keeps_settle (s t : State) : KeepsAllBut [.mgmt, .objs] t (settleRegister s t) := by
  apply keeps_intro <;> simp

/-! ### Host commands and effects in service -/

theorem listens_of {s : State} (h0 : s.mgmt.nmt ≠ 0) (h4 : s.mgmt.nmt ≠ 4) : s.listens = true := by
  simp [State.listens, h0, h4]

/-- In service nothing but the plate selector refuses a host command before its own checks. -/
theorem gate_none {s : State} (hp : s.boot.phase = 5) (i j : Nat) (h1 : i ≠ 0x2D12) (h2 : i ≠ 0x2502) (h3 : i ≠ 0x2801) :
    s.gate i j = none := by
  simp [State.gate, hp, State.plateRefused, h1, h2, h3]

theorem gate_none_running {s : State} (hp : s.boot.phase = 5) (hc : (s.plate s.chosenPlate).state ≤ 1) (i j : Nat) :
    s.gate i j = none := by
  have : ¬ 1 < (s.plate s.chosenPlate).state := by omega
  simp [State.gate, hp, State.plateRefused, this]

/-- A host command whose own checks pass answers with its effect and the confirmation. -/
theorem command_ok {s u : State} {t : Transport} {i j : Nat} {op : State → Except Nat State} (hl : s.listens = true)
    (hg : s.gate i j = none) (ho : op s = .ok u) : s.command t i j op = u.respond t (.downloaded i j) := by
  rw [State.command_of_gate _ _ _ _ _ hl hg, ho, State.answer_ok]

theorem serving_of {s : State} (hp : s.boot.phase = 5) (hr : s.boot.inReset = false) : s.serving = true := by
  simp [State.serving, hp, hr]

theorem turns_of {c : Instr} {s u : State} {parts : List Part} {keys : List Nat} {P : State → Prop} (he : exec c s = .next u)
    (h : P u) (ho : ObjectsBut keys s u) (hk : KeepsAllBut parts s u) : Turns c s parts keys P := ⟨u, he, h, ho, hk⟩

/-- A host command in service whose own checks pass is confirmed. -/
theorem confirms_any {c : Instr} {s u : State} {t : Transport} {i j : Nat} {op : State → Except Nat State} {parts : List Part}
    {keys : List Nat} {P : State → Prop} (he : exec c s = .next (s.command t i j op)) (hs : InService s) (hg : s.gate i j = none)
    (ho : op s = .ok u) (h : ∀ r, P (u.respond t r)) (hob : ObjectsBut (servedKey :: lostKey :: keys) s u)
    (hk : KeepsAllBut (.mgmt :: .objs :: .twin :: parts) s u) : Confirms c s parts keys P := by
  refine ⟨u.respond t (.downloaded i j), by rw [he, command_ok (listens_of hs.2.2.1 hs.2.2.2) hg ho], h _, ?_, ?_⟩
  · exact objects_trans hob (objects_weaken (objects_respond u t _) (by
      intro k hk
      simp only [List.mem_cons, List.not_mem_nil, or_false] at hk
      rcases hk with rfl | rfl
      · exact List.mem_cons_self ..
      · exact List.mem_cons_of_mem _ (List.mem_cons_self ..)))
  · exact keeps_trans hk (keeps_weaken (keeps_respond u t _) (by
      intro p hp
      simp only [List.mem_cons, List.not_mem_nil, or_false] at hp
      rcases hp with rfl | rfl | rfl
      · exact List.mem_cons_self ..
      · exact List.mem_cons_of_mem _ (List.mem_cons_self ..)
      · exact List.mem_cons_of_mem _ (List.mem_cons_of_mem _ (List.mem_cons_self ..))))

theorem confirms_of {c : Instr} {s u : State} {t : Transport} {i j : Nat} {op : State → Except Nat State} {parts : List Part}
    {keys : List Nat} {P : State → Prop} (he : exec c s = .next (s.command t i j op)) (hs : InService s) (hg : s.gate i j = none)
    (ho : op s = .ok u) (h : ∀ r, P (u.respond t r)) (hob : ObjectsBut keys s u) (hk : KeepsAllBut parts s u) : Confirms c s parts keys P :=
  confirms_any he hs hg ho h (objects_weaken hob fun _ hk => List.mem_cons_of_mem _ (List.mem_cons_of_mem _ hk))
    (keeps_weaken hk fun _ hp => List.mem_cons_of_mem _ (List.mem_cons_of_mem _ (List.mem_cons_of_mem _ hp)))

/-- A host command in service that fails its own checks is refused. -/
theorem refuses_of {c : Instr} {s : State} {t : Transport} {i j code : Nat} {op : State → Except Nat State}
    (he : exec c s = .next (s.command t i j op)) (hs : InService s) (hg : s.gate i j = none) (ho : op s = .error code) :
    Refuses c s t i j code := by
  rw [Refuses, he, State.command_of_gate _ _ _ _ _ (listens_of hs.2.2.1 hs.2.2.2) hg, ho]
  rfl

theorem keeps_none (s : State) (l : List Part) : KeepsAllBut l s s := keeps_refl l s

theorem keeps_time (s : State) (y : Time) : KeepsAllBut [.time] s { s with time := y } := by
  intro p hp; cases p <;> first | rfl | (simp at hp)

/-! ### Reading objects after the shared updates -/

theorem okey_sub (p x i a b : Nat) : okey p x i a = okey p x i b ↔ a = b := by unfold okey; omega

theorem objKey_bumpBy' (s : State) (i j n k : Nat) :
    (s.bumpBy i j n).objKey k = if k = okey 0 0 i j then (((s.obj i j + n) % 2 ^ 32 : Nat) : Int) else s.objKey k := State.objKey_setKey _ _ _ _

theorem obj_setObj (s : State) (i j a b : Nat) (v : Int) :
    (s.setObj i j v).obj a b = if okey 0 0 a b = okey 0 0 i j then v.toNat else s.obj a b := by
  unfold State.obj State.objI State.setObj
  rw [State.objKey_setKey]
  split <;> rfl

theorem objI_setObj (s : State) (i j a b : Nat) (v : Int) :
    (s.setObj i j v).objI a b = if okey 0 0 a b = okey 0 0 i j then v else s.objI a b := by
  unfold State.objI State.setObj
  rw [State.objKey_setKey]

theorem obj_bumpBy (s : State) (i j n a b : Nat) :
    (s.bumpBy i j n).obj a b = if okey 0 0 a b = okey 0 0 i j then (s.obj i j + n) % 2 ^ 32 else s.obj a b := by
  unfold State.obj State.objI
  rw [objKey_bumpBy']
  split
  · exact Int.toNat_natCast _
  · rfl

theorem obj_bump (s : State) (i j a b : Nat) :
    (s.bump i j).obj a b = if okey 0 0 a b = okey 0 0 i j then (s.obj i j + 1) % 2 ^ 32 else s.obj a b := obj_bumpBy s i j 1 a b

theorem objI_bump (s : State) (i j a b : Nat) :
    (s.bump i j).objI a b = if okey 0 0 a b = okey 0 0 i j then (((s.obj i j + 1) % 2 ^ 32 : Nat) : Int) else s.objI a b := by
  unfold State.objI
  exact objKey_bumpBy' s i j 1 _

/-- A state with the same objects reads the same. -/
theorem obj_of_objs {s t : State} (h : t.objs = s.objs) (i j : Nat) : t.obj i j = s.obj i j := by
  unfold State.obj State.objI State.objKey; rw [h]

theorem objI_of_objs {s t : State} (h : t.objs = s.objs) (i j : Nat) : t.objI i j = s.objI i j := by
  unfold State.objI State.objKey; rw [h]

/-- Host responses and the comparison of the pair keep object values other than the two counters. -/
theorem obj_respond (s : State) (t : Transport) (r : UsdoResponse) (i j : Nat) (h1 : okey 0 0 i j ≠ servedKey) (h2 : okey 0 0 i j ≠ lostKey) :
    (s.respond t r).obj i j = s.obj i j := State.obj_congr (State.objKey_respond _ _ _ _ h1 h2)

theorem compared_frame (s : State) (p d : Nat) (o : Octets) :
    ObjectsBut [] s (s.compared p d o) ∧ KeepsAllBut [.twin] s (s.compared p d o) := by
  refine ⟨fun _ _ => by simp, ?_⟩
  intro q hq; cases q <;> first | (simp [Part.same]; done) | rfl | (simp at hq)

theorem gate_at {s : State} (hs : InService s) (i j : Nat) (h1 : i ≠ 0x2D12) (h2 : i ≠ 0x2502) (h3 : i ≠ 0x2801) : s.gate i j = none :=
  gate_none hs.1 i j h1 h2 h3

theorem serving_at {s : State} (hs : InService s) : s.serving = true := serving_of hs.1 hs.2.1

/-! ### A write of one part keeps the others -/

theorem keeps_refs (s : State) (y : Refs) : KeepsAllBut [.refs] s { s with refs := y } := by
  intro p hp; cases p <;> first | rfl | (simp at hp)
theorem keeps_dev (s : State) (y : Dev) : KeepsAllBut [.dev] s { s with dev := y } := by
  intro p hp; cases p <;> first | rfl | (simp at hp)
theorem keeps_synth (s : State) (y : Synth) : KeepsAllBut [.synth] s { s with synth := y } := by
  intro p hp; cases p <;> first | rfl | (simp at hp)
theorem keeps_gnss (s : State) (y : Gnss) : KeepsAllBut [.gnss] s { s with gnss := y } := by
  intro p hp; cases p <;> first | rfl | (simp at hp)
theorem keeps_intake (s : State) (y : Intake) : KeepsAllBut [.intake] s { s with intake := y } := by
  intro p hp; cases p <;> first | rfl | (simp at hp)
theorem keeps_ports (s : State) (y : Table Port) : KeepsAllBut [.ports] s { s with ports := y } := by
  intro p hp; cases p <;> first | rfl | (simp at hp)
theorem keeps_faults (s : State) (y : Faults) : KeepsAllBut [.faults] s { s with faults := y } := by
  intro p hp; cases p <;> first | rfl | (simp at hp)
theorem keeps_fabric (s : State) (y : Fabric) : KeepsAllBut [.fabric] s { s with fabric := y } := by
  intro p hp; cases p <;> first | rfl | (simp at hp)
theorem keeps_keys (s : State) (y : Keys) : KeepsAllBut [.keys] s { s with keys := y } := by
  intro p hp; cases p <;> first | rfl | (simp at hp)
theorem keeps_mgmt (s : State) (y : Mgmt) : KeepsAllBut [.mgmt] s { s with mgmt := y } := by
  intro p hp; cases p <;> first | rfl | (simp at hp)
theorem keeps_media (s : State) (y : Media) : KeepsAllBut [.media] s { s with media := y } := by
  intro p hp; cases p <;> first | rfl | (simp at hp)
theorem keeps_twin (s : State) (y : Twin) : KeepsAllBut [.twin] s { s with twin := y } := by
  intro p hp; cases p <;> first | rfl | (simp at hp)
theorem keeps_boot (s : State) (y : Boot) : KeepsAllBut [.boot] s { s with boot := y } := by
  intro p hp; cases p <;> first | rfl | (simp at hp)
theorem keeps_plans (s : State) (y : Plans) : KeepsAllBut [.plans] s { s with plans := y } := by
  intro p hp; cases p <;> first | rfl | (simp at hp)
theorem keeps_serve (s : State) (y : Serve) : KeepsAllBut [.serve] s { s with serve := y } := by
  intro p hp; cases p <;> first | rfl | (simp at hp)
theorem keeps_darkroom (s : State) (y : Darkroom) : KeepsAllBut [.darkroom] s { s with darkroom := y } := by
  intro p hp; cases p <;> first | rfl | (simp at hp)
theorem keeps_groups (s : State) (y : Groups) : KeepsAllBut [.groups] s { s with groups := y } := by
  intro p hp; cases p <;> first | rfl | (simp at hp)
theorem keeps_clock (s : State) (y : Clock) : KeepsAllBut [.clock] s { s with clock := y } := by
  intro p hp; cases p <;> first | rfl | (simp at hp)

/-- A value that takes effect changes its own object and the copies that are due. -/
theorem takeEffect_frame (s : State) (k : Nat) (v : Int) : (s.takeEffect k v).objKey k = v ∧ ObjectsBut [k] s (s.takeEffect k v) ∧
    KeepsAllBut [.mgmt, .objs] s (s.takeEffect k v) := by
  unfold State.takeEffect State.markCopy
  split
  · refine ⟨State.objKey_setKey_self _ _ _, objects_trans (objects_setKey _ _ _) (objects_of_objs rfl), ?_⟩
    intro p hp; cases p <;> first | rfl | (simp at hp)
  · refine ⟨State.objKey_setKey_self _ _ _, objects_setKey _ _ _, ?_⟩
    intro p hp; cases p <;> first | rfl | (simp at hp)

/-! ### Requests -/

/-- A request whose operation is accepted completes with the operation's state and its response. -/
theorem completes_of {c : Instr} {s u : State} {t : Transport} {i j : Nat} {op : State → Except Nat State} {P : State → Prop}
    (he : exec c s = .next (s.command t i j op)) (hs : InService s) (hg : s.gate i j = none) (ho : op s = .ok u) (h : ∀ r, P (u.respond t r)) :
    CompletesWith c s P := ⟨_, by rw [he, command_ok (listens_of hs.2.2.1 hs.2.2.2) hg ho], h _⟩

/-- An operation that may both act and refuse: what its request answers. -/
theorem commandA_of {s : State} {t : Transport} {i j : Nat} {op : State → Attempt} (hs : InService s) (hg : s.gate i j = none) {x : State} :
    (op s = (x, none) → s.commandA t i j op = x.respond t (.downloaded i j)) ∧ ∀ c, op s = (x, some c) → s.commandA t i j op = x.abort t i j c := by
  unfold State.commandA
  rw [if_pos (listens_of hs.2.2.1 hs.2.2.2), hg]
  exact ⟨fun h => by rw [h], fun c h => by rw [h]⟩

/-- In service an event acts. -/
theorem serving_apply {s : State} (h : s.serving = true) (f : State → State) : s.whenServing f = f s := by
  unfold State.whenServing; rw [if_pos h]

/-- What every step of a fold keeps, the fold keeps. -/
theorem foldl_keep {α β : Type} (g : State → β) (f : State → α → State) (l : List α) (s : State) (h : ∀ s a, g (f s a) = g s) :
    g (l.foldl f s) = g s := by
  induction l generalizing s with
  | nil => rfl
  | cons a r ih => exact (ih _).trans (h s a)

end Sys2Proof.Machine
end

