-- ==== Sys2Proof/Laws/TickOps.lean ====
section
/-! SUPPORT. The clock and the queue are untouched by shared operations: one lemma a function. -/

namespace Sys2Proof.Machine

set_option linter.all false

/-- The parts that few commands change: the clock, the queue, and what OTP records of the host's revocations and floor. -/
def State.tick (s : State) : Clock × List Instr × Nat × Nat := (s.clock, s.pending, s.boot.revoked, s.boot.floor)
@[simp] theorem State.tick_mk (a : List Instr) (b : Table Int) (c : Clock) (d : Intake) (e : Mgmt) (f : Groups) (g : Darkroom) (h : Boot) (i : Twin)
    (j : Faults) (k : Time) (l : Plans) (m : Synth) (n : Refs) (o : Dev) (p : Table Port) (q : Fabric) (r : Gnss) (u : Serve) (v : Keys) (w : Media) (x : Nat) :
    State.tick ⟨a, b, c, d, e, f, g, h, i, j, k, l, m, n, o, p, q, r, u, v, w, x⟩ = (c, a, h.revoked, h.floor) := (rfl)
@[simp] theorem State.tick_fold (s : State) : (s.clock, s.pending, s.boot.revoked, s.boot.floor) = s.tick := (rfl)
@[simp] theorem State.tick_ite (c : Prop) [Decidable c] (a b : State) : (if c then a else b).tick = if c then a.tick else b.tick := apply_ite _ _ _ _
@[simp] theorem foldl_tick {α : Type} (f : State → α → State) (l : List α) (s : State) (h : ∀ s a, (f s a).tick = s.tick) :
    (l.foldl f s).tick = s.tick := by
  induction l generalizing s with
  | nil => rfl
  | cons a r ih => exact (ih _).trans (h s a)
@[simp] theorem foldl_tick_fst {α β : Type} (f : State × β → α → State × β) (l : List α) (p : State × β)
    (h : ∀ p a, (f p a).1.tick = p.1.tick) : (l.foldl f p).1.tick = p.1.tick := by
  induction l generalizing p with
  | nil => rfl
  | cons a r ih => exact (ih _).trans (h p a)

/-- What every command without an effect on the clock leaves: the clock and the queue as they were; no key returns from revocation and the
floor does not fall (R412, R415). -/
def Later (s t : State) : Prop :=
  t.clock = s.clock ∧ t.pending = s.pending ∧ (∀ k, bit s.boot.revoked k = true → bit t.boot.revoked k = true) ∧ s.boot.floor ≤ t.boot.floor
theorem later_of_tick {s t : State} (h : t.tick = s.tick) : Later s t := by
  simp only [State.tick, Prod.mk.injEq] at h
  exact ⟨h.1, h.2.1, fun k hk => by rw [h.2.2.1]; exact hk, Nat.le_of_eq h.2.2.2.symm⟩
theorem later_trans {s t u : State} (h : Later s t) (g : Later t u) : Later s u :=
  ⟨g.1.trans h.1, g.2.1.trans h.2.1, fun k hk => g.2.2.1 k (h.2.2.1 k hk), Nat.le_trans h.2.2.2 g.2.2.2⟩
theorem later_to {s t u : State} (h : Later s t) (g : u.tick = t.tick) : Later s u := later_trans h (later_of_tick g)
theorem tick_clock {s t : State} (h : t.tick = s.tick) : t.clock = s.clock := (later_of_tick h).1
theorem tick_pending {s t : State} (h : t.tick = s.tick) : t.pending = s.pending := (later_of_tick h).2.1
theorem later_refl (s : State) : Later s s := later_of_tick rfl

theorem ok_tick {a t : State} (h : (Except.ok a : Except Nat State) = .ok t) : t.tick = a.tick := by
  cases h; rfl
theorem error_tick {c : Nat} {t : State} {p : Prop} (h : (Except.error c : Except Nat State) = .ok t) : p := by
  cases h
theorem State.drawNat_tick (s : State) : s.drawNat.2.tick = s.tick := by
  unfold State.drawNat; rw [State.tick_mk, State.tick_fold]
theorem State.drawInt_tick (s : State) : s.drawInt.2.tick = s.tick := by
  unfold State.drawInt; rw [State.tick_mk, State.tick_fold]
@[simp] theorem State.setKey_tick (s : State) (x1 : Nat) (x2 : Int) : (State.setKey s x1 x2).tick = s.tick := by
  (unfold State.setKey; simp; done)
@[simp] theorem State.setObj_tick (s : State) (x1 : Nat) (x2 : Nat) (x3 : Int) : (State.setObj s x1 x2 x3).tick = s.tick := by
  (unfold State.setObj; simp; done)
@[simp] theorem State.setObjW_tick (s : State) (x1 : Nat) (x2 : Nat) (x3 : Nat) (x4 : Int) : (State.setObjW s x1 x2 x3 x4).tick = s.tick := by
  (unfold State.setObjW; simp; done)
@[simp] theorem State.setObjP_tick (s : State) (x1 : Nat) (x2 : Nat) (x3 : Nat) (x4 : Int) : (State.setObjP s x1 x2 x3 x4).tick = s.tick := by
  (unfold State.setObjP; simp; done)
@[simp] theorem State.bumpKey_tick (s : State) (x1 : Nat) (x2 : Nat) : (State.bumpKey s x1 x2).tick = s.tick := by
  (unfold State.bumpKey; simp; done)
@[simp] theorem State.bumpBy_tick (s : State) (x1 : Nat) (x2 : Nat) (x3 : Nat) : (State.bumpBy s x1 x2 x3).tick = s.tick := by
  (unfold State.bumpBy; simp; done)
@[simp] theorem State.bump_tick (s : State) (x1 : Nat) (x2 : Nat) : (State.bump s x1 x2).tick = s.tick := by
  (unfold State.bump; simp; done)
@[simp] theorem State.bumpP_tick (s : State) (x1 : Nat) (x2 : Nat) (x3 : Nat) : (State.bumpP s x1 x2 x3).tick = s.tick := by
  (unfold State.bumpP; simp; done)
@[simp] theorem State.bumpW_tick (s : State) (x1 : Nat) (x2 : Nat) (x3 : Nat) : (State.bumpW s x1 x2 x3).tick = s.tick := by
  (unfold State.bumpW; simp; done)
@[simp] theorem State.markCopy_tick (s : State) (x1 : Nat) : (State.markCopy s x1).tick = s.tick := by
  (unfold State.markCopy; simp; done)
@[simp] theorem State.takeEffect_tick (s : State) (x1 : Nat) (x2 : Int) : (State.takeEffect s x1 x2).tick = s.tick := by
  (unfold State.takeEffect; simp; done)
@[simp] theorem State.pendWrite_tick (s : State) (x1 : Nat) (x2 : Nat) (x3 : Int) : (State.pendWrite s x1 x2 x3).tick = s.tick := by
  (unfold State.pendWrite; simp; done)
@[simp] theorem State.later_tick (s : State) (x1 : Nat) (x2 : Int) : (State.later s x1 x2).tick = s.tick := by
  (unfold State.later; simp; done)
@[simp] theorem State.setBase_tick (s : State) (x1 : Nat) (x2 : Sys2Proof.Machine.TimeBase) : (State.setBase s x1 x2).tick = s.tick := by
  (unfold State.setBase; simp; done)
@[simp] theorem State.setPlate_tick (s : State) (x1 : Nat) (x2 : Sys2Proof.Machine.Plate) : (State.setPlate s x1 x2).tick = s.tick := by
  (unfold State.setPlate; simp; done)
@[simp] theorem State.comparedDigest_tick (s : State) (x1 : Nat) (x2 : Nat) (x3 : Nat) : (State.comparedDigest s x1 x2 x3).tick = s.tick := by
  (unfold State.comparedDigest; simp; done)
@[simp] theorem State.compared_tick (s : State) (x1 : Nat) (x2 : Nat) (x3 : Sys2Proof.Octets) : (State.compared s x1 x2 x3).tick = s.tick := by
  (unfold State.compared; simp; done)
@[simp] theorem State.pushSpi_tick (s : State) (x1 : Sys2Proof.Machine.OutFrame) : (State.pushSpi s x1).tick = s.tick := by
  (unfold State.pushSpi; simp; done)
@[simp] theorem State.pushCan_tick (s : State) (x1 : Sys2Proof.Machine.OutFrame) : (State.pushCan s x1).tick = s.tick := by
  (unfold State.pushCan; simp; done)
@[simp] theorem State.setLine_tick (s : State) (x1 : Nat) (x2 : Nat) (x3 : Sys2Proof.Machine.Line) : (State.setLine s x1 x2 x3).tick = s.tick := by
  (unfold State.setLine; simp; done)
@[simp] theorem State.loseEmcy_tick (s : State) : (State.loseEmcy s).tick = s.tick := by
  (unfold State.loseEmcy; simp; done)
@[simp] theorem State.emcy_tick (s : State) (x1 : Nat) (x2 : Nat) (x3 : Nat) : (State.emcy s x1 x2 x3).tick = s.tick := by
  (unfold State.emcy; simp; done)
@[simp] theorem State.reportLost_tick (s : State) : (State.reportLost s).tick = s.tick := by
  (unfold State.reportLost; simp; done)
@[simp] theorem settleRegister_tick (s t : State) : (settleRegister s t).tick = t.tick := by
  (unfold settleRegister; simp; done)
@[simp] theorem State.record_tick (s : State) (x1 : Nat) (x2 : Nat) (x3 : Nat) (x4 : Nat) (x5 : Nat) : (State.record s x1 x2 x3 x4 x5).tick = s.tick := by
  (unfold State.record; simp; done)
@[simp] theorem State.report_tick (s : State) (x1 : Nat) (x2 : Nat) (x3 : Nat) (x4 : Nat) (x5 : Nat) (x6 : Nat) : (State.report s x1 x2 x3 x4 x5 x6).tick = s.tick := by
  (unfold State.report; simp; done)
@[simp] theorem State.testEvent_tick (s : State) (x1 : Nat) (x2 : Bool) (x3 : Nat) : (State.testEvent s x1 x2 x3).tick = s.tick := by
  (unfold State.testEvent; simp; done)
@[simp] theorem State.respond_tick (s : State) (x1 : Sys2Proof.Transport) (x2 : Sys2Proof.Machine.UsdoResponse) : (State.respond s x1 x2).tick = s.tick := by
  (unfold State.respond; dsimp only; (repeat' split) <;> simp; done)
@[simp] theorem State.abort_tick (s : State) (x1 : Sys2Proof.Transport) (x2 : Nat) (x3 : Nat) (x4 : Nat) : (State.abort s x1 x2 x3 x4).tick = s.tick := by
  (unfold State.abort; simp; done)

theorem State.command_tick (s : State) (t : Transport) (i j : Nat) (op : State → Except Nat State)
    (h : ∀ u, op s = .ok u → u.tick = s.tick) : (s.command t i j op).tick = s.tick := by
  rcases State.command_cases s t i j op with ⟨_, e⟩ | ⟨_, c, _, e⟩ | ⟨_, _, ⟨c, _, e⟩ | ⟨u, hu, e⟩⟩ <;> rw [e]
  · simp
  · simp
  · simpa using h u hu
theorem State.command_later (s : State) (t : Transport) (i j : Nat) (op : State → Except Nat State)
    (h : ∀ u, op s = .ok u → Later s u) : Later s (s.command t i j op) := by
  rcases State.command_cases s t i j op with ⟨_, e⟩ | ⟨_, c, _, e⟩ | ⟨_, _, ⟨c, _, e⟩ | ⟨u, hu, e⟩⟩ <;> rw [e]
  · exact later_refl s
  · exact later_of_tick (by simp)
  · exact later_of_tick (by simp)
  · exact later_to (h u hu) (by simp)
theorem State.commandA_tick (s : State) (t : Transport) (i j : Nat) (op : State → Attempt)
    (h : (op s).1.tick = s.tick) : (s.commandA t i j op).tick = s.tick := by
  unfold State.commandA
  split
  · split
    · simp
    · split <;> rename_i e <;> rw [e] at h <;> simpa using h
  · rfl
@[simp] theorem attempt_tick (s : State) (r : Except Nat State) (h : ∀ u, r = .ok u → u.tick = s.tick) : (attempt s r).1.tick = s.tick := by
  cases r with
  | error c => rfl
  | ok u => exact h u rfl
@[simp] theorem State.whenServing_tick (s : State) (f : State → State) (h : (f s).tick = s.tick) : (s.whenServing f).tick = s.tick := by
  unfold State.whenServing; split
  · exact h
  · rfl

@[simp] theorem State.setPort_tick (s : State) (x1 : Nat) (x2 : Sys2Proof.Machine.Port) : (State.setPort s x1 x2).tick = s.tick := by
  (unfold State.setPort; simp; done)
@[simp] theorem State.txComplete_tick (s : State) (x1 : Nat) (x2 : Nat) (x3 : Nat) (x4 : Bool) (x5 : Nat) : (State.txComplete s x1 x2 x3 x4 x5).tick = s.tick := by
  (unfold State.txComplete; simp; done)
@[simp] theorem State.setChannel_tick (s : State) (x1 : Nat) (x2 : Sys2Proof.Machine.Channel) : (State.setChannel s x1 x2).tick = s.tick := by
  (unfold State.setChannel; simp; done)
@[simp] theorem State.switchMerged_tick (s : State) : (State.switchMerged s).tick = s.tick := by
  (unfold State.switchMerged; simp; done)
@[simp] theorem State.dropSide_tick (s : State) (x1 : Nat) : (State.dropSide s x1).tick = s.tick := by
  (unfold State.dropSide; simp; done)
@[simp] theorem State.realign_tick (x0 : Sys2Proof.Machine.State) (s : State) : (State.realign x0 s).tick = s.tick := by
  (unfold State.realign; simp; done)
@[simp] theorem State.withholdCopies_tick (s : State) (x1 : Nat) : (State.withholdCopies s x1).tick = s.tick := by
  unfold State.withholdCopies
  apply foldl_tick
  intro t f
  cases f.request with
  | none => rfl
  | some id => dsimp only; split <;> simp
@[simp] theorem State.plateState_tick (s : State) (x1 : Nat) (x2 : Nat) (x3 : Nat) : (State.plateState s x1 x2 x3).tick = s.tick := by
  (unfold State.plateState; simp; done)
@[simp] theorem State.openGap_tick (s : State) : (State.openGap s).tick = s.tick := by
  (unfold State.openGap; dsimp only; (repeat' split) <;> simp; done)
@[simp] theorem State.closeGap_tick (s : State) : (State.closeGap s).tick = s.tick := by
  (unfold State.closeGap; dsimp only; (repeat' split) <;> simp; done)
@[simp] theorem State.stopResync_tick (s : State) : (State.stopResync s).tick = s.tick := by
  (unfold State.stopResync; simp; done)
@[simp] theorem State.lastPlateFatal_tick (s : State) (x1 : Nat) : (State.lastPlateFatal s x1).tick = s.tick := by
  (unfold State.lastPlateFatal; simp; done)
@[simp] theorem State.demote_tick (s : State) (x1 : Nat) (x2 : Nat) : (State.demote s x1 x2).tick = s.tick := by
  (unfold State.demote; simp; done)
@[simp] theorem State.fatalOn_tick (s : State) (x1 : Nat) : (State.fatalOn s x1).tick = s.tick := by
  (unfold State.fatalOn; (repeat' split) <;> first | (simp; done) | rfl)
@[simp] theorem State.latchHard_tick (s : State) (x1 : Nat) (x2 : Nat) (x3 : Nat) (x4 : Nat) (x5 : Nat) : (State.latchHard s x1 x2 x3 x4 x5).tick = s.tick := by
  (unfold State.latchHard; simp; done)
@[simp] theorem State.latch_tick (s : State) (x1 : Nat) (x2 : Nat) (x3 : Nat) (x4 : Nat) (x5 : Bool) : (State.latch s x1 x2 x3 x4 x5).1.tick = s.tick := by
  (unfold State.latch; dsimp only; (repeat' split) <;> simp; done)
@[simp] theorem State.actFatal_tick (s : State) (x1 : List Nat) (x2 : List Nat) : (State.actFatal s x1 x2).tick = s.tick := by
  (unfold State.actFatal; simp; done)
@[simp] theorem State.darkroomFault_tick (s : State) : (State.darkroomFault s).tick = s.tick := by
  (unfold State.darkroomFault; simp; done)
@[simp] theorem State.latchAll_tick (s : State) (x1 : List Sys2Proof.LineEvent) (x2 : Bool) : (State.latchAll s x1 x2).tick = s.tick := by
  (unfold State.latchAll; dsimp only; (repeat' split) <;> simp (disch := (intros; (repeat' split) <;> (try simp))); done)
@[simp] theorem State.containedBoth_tick (s : State) (x1 : Nat) (x2 : Nat) : (State.containedBoth s x1 x2).tick = s.tick := by
  (unfold State.containedBoth; simp; done)
@[simp] theorem State.containedOn_tick (s : State) (x1 : Nat) (x2 : Nat) (x3 : Nat) : (State.containedOn s x1 x2 x3).tick = s.tick := by
  (unfold State.containedOn; simp; done)
@[simp] theorem State.fatal_tick (s : State) (x1 : Nat) (x2 : Nat) (x3 : Nat) : (State.fatal s x1 x2 x3).tick = s.tick := by
  (unfold State.fatal; simp; done)
@[simp] theorem State.intakeFault_tick (s : State) (x1 : Nat) : (State.intakeFault s x1).tick = s.tick := by
  (unfold State.intakeFault; simp; done)

@[simp] theorem State.advanceBase_tick (s : State) (x1 : Nat) : (State.advanceBase s x1).tick = s.tick := by
  (unfold State.advanceBase; simp; done)
@[simp] theorem State.advanceBases_tick (s : State) : (State.advanceBases s).tick = s.tick := by
  unfold State.advanceBases; exact foldl_tick _ _ _ fun s n => State.advanceBase_tick s n
theorem State.captured_tick (s : State) (c : Table Nat) :
    (({ s with time := { s.time with captured := c, capturedAt := some s.now } } : State).bump 0x2203 2).tick = s.tick := by
  rw [State.bump_tick]
  rfl
@[simp] theorem State.capture_tick (s : State) : (State.capture s).tick = s.tick := by
  have e : State.capture s = (if s.time.capturedAt = some s.now then s
    else
      let c : Table Nat := (List.range 32).foldl (fun t n => t.put (fun _ => 0) n (toTime112 (s.base n).value)) []
      ({ s with time := { s.time with captured := c, capturedAt := some s.now } }).bump 0x2203 2) := by rw [State.capture]
  rw [e]
  by_cases hc : s.time.capturedAt = some s.now
  · rw [if_pos hc]
  · rw [if_neg hc]; apply State.captured_tick
@[simp] theorem State.setInput_tick (s : State) (x1 : Nat) (x2 : Sys2Proof.Machine.EventInput) : (State.setInput s x1 x2).tick = s.tick := by
  (unfold State.setInput; simp; done)
@[simp] theorem State.setInterval_tick (s : State) (x1 : Nat) (x2 : Sys2Proof.Machine.Interval) : (State.setInterval s x1 x2).tick = s.tick := by
  (unfold State.setInterval; simp; done)
@[simp] theorem State.latchGate_tick (s : State) (x1 : Nat) : (State.latchGate s x1).tick = s.tick := by
  (unfold State.latchGate; simp; done)
@[simp] theorem State.intervalEdge_tick (s : State) (x1 : Nat) (x2 : Int) : (State.intervalEdge s x1 x2).tick = s.tick := by
  (unfold State.intervalEdge; simp; done)
@[simp] theorem State.fifoEdge_tick (s : State) (x1 : Nat) (x2 : Bool) (x3 : Int) : (State.fifoEdge s x1 x2 x3).tick = s.tick := by
  (unfold State.fifoEdge; simp; done)

@[simp] theorem State.setDpll_tick (s : State) (x1 : Nat) (x2 : Sys2Proof.Machine.Dpll) : (State.setDpll s x1 x2).tick = s.tick := by
  (unfold State.setDpll; simp; done)
@[simp] theorem State.setOpll_tick (s : State) (x1 : Nat) (x2 : Sys2Proof.Machine.Opll) : (State.setOpll s x1 x2).tick = s.tick := by
  (unfold State.setOpll; simp; done)
@[simp] theorem State.setPps_tick (s : State) (x1 : Nat) (x2 : Sys2Proof.Machine.Pps) : (State.setPps s x1 x2).tick = s.tick := by
  (unfold State.setPps; simp; done)
@[simp] theorem State.dpllHold_tick (s : State) (x1 : Nat) : (State.dpllHold s x1).tick = s.tick := by
  (unfold State.dpllHold; simp; done)
@[simp] theorem State.dpllResume_tick (s : State) (x1 : Nat) : (State.dpllResume s x1).tick = s.tick := by
  (unfold State.dpllResume; simp; done)
@[simp] theorem State.holdTrackers_tick (s : State) (x1 : Nat) : (State.holdTrackers s x1).tick = s.tick := by
  (unfold State.holdTrackers; simp; done)
@[simp] theorem State.restartDwell_tick (s : State) (x1 : Nat) : (State.restartDwell s x1).tick = s.tick := by
  (unfold State.restartDwell; simp; done)
@[simp] theorem State.acquire_tick (s : State) (x1 : Nat) : (State.acquire s x1).tick = s.tick := by
  (unfold State.acquire; simp; done)
@[simp] theorem State.dpllStart_tick (s : State) (x1 : Nat) : (State.dpllStart s x1).tick = s.tick := by
  (unfold State.dpllStart; simp; done)
@[simp] theorem State.dpllExposure_tick (s : State) (x1 : Nat) : (State.dpllExposure s x1).tick = s.tick := by
  (unfold State.dpllExposure; simp; done)
@[simp] theorem State.gateChannel_tick (s : State) (x1 : Nat) : (State.gateChannel s x1).tick = s.tick := by
  (unfold State.gateChannel; simp; done)
@[simp] theorem State.retune_tick (s : State) (x1 : Nat) (x2 : Nat) : (State.retune s x1 x2).tick = s.tick := by
  (unfold State.retune; simp; done)
@[simp] theorem State.followDco_tick (s : State) (x1 : Nat) : (State.followDco s x1).tick = s.tick := by
  (unfold State.followDco; simp; done)
@[simp] theorem State.lockPins_tick (s : State) (x1 : Nat) (x2 : List Nat) (x3 : Bool) : (State.lockPins s x1 x2 x3).tick = s.tick := by
  (unfold State.lockPins; simp; done)
@[simp] theorem State.relock_tick (s : State) (x1 : Nat) (x2 : Bool) : (State.relock s x1 x2).tick = s.tick := by
  (unfold State.relock; simp; done)
@[simp] theorem State.rampStart_tick (s : State) (x1 : Nat) (x2 : Nat) (x3 : Nat) : (State.rampStart s x1 x2 x3).tick = s.tick := by
  (unfold State.rampStart; simp; done)
@[simp] theorem State.loseAlignment_tick (s : State) (x1 : Nat) (x2 : Int) : (State.loseAlignment s x1 x2).tick = s.tick := by
  (unfold State.loseAlignment; simp; done)
@[simp] theorem State.rampEnd_tick (s : State) (x1 : Nat) (x2 : Sys2Proof.Machine.Ramp) : (State.rampEnd s x1 x2).tick = s.tick := by
  (unfold State.rampEnd; simp; done)
@[simp] theorem State.advanceDcos_tick (s : State) : (State.advanceDcos s).tick = s.tick := by
  (unfold State.advanceDcos; simp; done)
@[simp] theorem State.runDcosOn_tick (s : State) (x1 : Nat) : (State.runDcosOn s x1).tick = s.tick := by
  unfold State.runDcosOn
  split
  · rfl
  · apply foldl_tick
    intro s d
    split
    · rfl
    · simp only [State.drawNat, State.drawInt, State.setDpll_tick, State.tick_mk, State.tick_fold]

@[simp] theorem State.setLoupe_tick (s : State) (x1 : Nat) (x2 : Sys2Proof.Machine.Loupe) : (State.setLoupe s x1 x2).tick = s.tick := by
  (unfold State.setLoupe; simp; done)
@[simp] theorem State.setSteer_tick (s : State) (x1 : Nat) (x2 : Sys2Proof.Machine.Steer) : (State.setSteer s x1 x2).tick = s.tick := by
  (unfold State.setSteer; simp; done)
@[simp] theorem State.setRef_tick (s : State) (x1 : Nat) (x2 : Nat) (x3 : Nat) : (State.setRef s x1 x2 x3).tick = s.tick := by
  (unfold State.setRef; simp; done)
@[simp] theorem State.refLost_tick (s : State) (x1 : Nat) (x2 : Nat) : (State.refLost s x1 x2).tick = s.tick := by
  (unfold State.refLost; simp; done)
@[simp] theorem State.disqualify_tick (s : State) (x1 : Nat) (x2 : Nat) : (State.disqualify s x1 x2).tick = s.tick := by
  (unfold State.disqualify; simp; done)
@[simp] theorem State.exclude_tick (s : State) (x1 : Nat) (x2 : Nat) : (State.exclude s x1 x2).tick = s.tick := by
  (unfold State.exclude; simp; done)
@[simp] theorem State.requalify_tick (s : State) (x1 : Nat) : (State.requalify s x1).tick = s.tick := by
  (unfold State.requalify; simp; done)
@[simp] theorem State.phaseHit_tick (s : State) (x1 : Nat) : (State.phaseHit s x1).tick = s.tick := by
  (unfold State.phaseHit; simp; done)
@[simp] theorem State.measuredAt_tick (s : State) (x1 : Nat) (x2 : Nat) (x3 : Int) (x4 : Int) : (State.measuredAt s x1 x2 x3 x4).tick = s.tick := by
  (unfold State.measuredAt; dsimp only; (repeat' split) <;> simp; done)
@[simp] theorem State.measured_tick (s : State) (x1 : Nat) (x2 : Int) : (State.measured s x1 x2).tick = s.tick := by
  (unfold State.measured; simp; done)
@[simp] theorem State.measuredPps_tick (s : State) (x1 : Nat) (x2 : Nat) (x3 : Int) (x4 : Int) : (State.measuredPps s x1 x2 x3 x4).tick = s.tick := by
  (unfold State.measuredPps; simp; done)
@[simp] theorem State.endExclusion_tick (s : State) (x1 : Nat) : (State.endExclusion s x1).tick = s.tick := by
  (unfold State.endExclusion; simp; done)
@[simp] theorem State.loupeReel_tick (s : State) (x1 : Nat) : (State.loupeReel s x1).tick = s.tick := by
  unfold State.loupeReel
  extract_lets l fresh y s1 l1 s2 lim s3 k
  have h1 : s1.tick = s.tick := by
    simp only [s1]
    generalize y = z
    cases z <;> simp
  have h2 : s2.tick = s.tick := by
    simp only [s2]
    split <;> simp [h1]
  have h3 : s3.tick = s.tick := by
    simp only [s3]
    split <;> simp [h2]
  (repeat' split) <;> simp [h3]
@[simp] theorem State.setFlags_tick (s : State) (x1 : List Sys2Proof.Machine.Flag) : (State.setFlags s x1).tick = s.tick := by
  (unfold State.setFlags; simp; done)
@[simp] theorem State.clearFlag_tick (s : State) (x1 : Sys2Proof.Machine.Flag) : (State.clearFlag s x1).tick = s.tick := by
  (unfold State.clearFlag; simp; done)
@[simp] theorem State.testPair_tick (s : State) (x1 : Nat) (x2 : Nat) : (State.testPair s x1 x2).tick = s.tick := by
  (unfold State.testPair; dsimp only; (repeat' split) <;> simp; done)
@[simp] theorem State.testPairs_tick (s : State) : (State.testPairs s).tick = s.tick := by
  (unfold State.testPairs; simp; done)
@[simp] theorem State.challengeStep_tick (s : State) : (State.challengeStep s).tick = s.tick := by
  (unfold State.challengeStep; dsimp only; (repeat' split) <;> simp (disch := (intros; (repeat' split) <;> (try simp))); done)
@[simp] theorem State.dropChallenges_tick (s : State) : (State.dropChallenges s).tick = s.tick := by
  (unfold State.dropChallenges; simp; done)
@[simp] theorem State.select_tick (s : State) (x1 : Option Nat) (x2 : Nat) : (State.select s x1 x2).tick = s.tick := by
  (unfold State.select; simp; done)
@[simp] theorem State.selector_tick (s : State) : (State.selector s).tick = s.tick := by
  (unfold State.selector; dsimp only; (repeat' split) <;> simp; done)
@[simp] theorem State.refExposure_tick (s : State) (x1 : Nat) : (State.refExposure s x1).tick = s.tick := by
  (unfold State.refExposure; dsimp only; (repeat' split) <;> simp; done)

@[simp] theorem State.see_tick (s : State) : (State.see s).tick = s.tick := by
  (unfold State.see; simp; done)
@[simp] theorem State.atCycle0_tick (s : State) : (State.atCycle0 s).tick = s.tick := by
  (unfold State.atCycle0; dsimp only; (repeat' split) <;> simp; done)
@[simp] theorem State.putSteer0_tick (s : State) (x1 : Sys2Proof.Machine.Steer) : (State.putSteer0 s x1).tick = s.tick := by
  (unfold State.putSteer0; simp; done)
@[simp] theorem State.returned_tick (s : State) (x1 : Nat) (x2 : Int) (x3 : Sys2Proof.Machine.Steer) : (State.returned s x1 x2 x3).1.tick = s.tick := by
  (unfold State.returned; dsimp only; (repeat' split) <;> simp; done)
@[simp] theorem State.updateSteer_tick (s : State) (x1 : Nat) : (State.updateSteer s x1).1.tick = s.tick := by
  unfold State.updateSteer
  extract_lets x v limit
  split
  · (repeat' split) <;> simp only [State.bump_tick]
  · split
    · rfl
    · extract_lets x1 xm q
      have hq : q.1.tick = s.tick := by simp only [q]; split <;> simp only [State.returned_tick]
      rw [show ∀ (a : State) (b : Steer), (a, b).1 = a from fun _ _ => rfl]
      exact hq
@[simp] theorem State.adoptTable_tick (s : State) : (State.adoptTable s).tick = s.tick := by
  (unfold State.adoptTable; dsimp only; (repeat' split) <;> simp; done)
@[simp] theorem State.updateSteered_tick (s : State) (x1 : Nat) : (State.updateSteered s x1).tick = s.tick := by
  (unfold State.updateSteered; simp; done)
@[simp] theorem State.wordLimited_tick (s : State) (x1 : Int) : (State.wordLimited s x1).tick = s.tick := by
  (unfold State.wordLimited; simp; done)
@[simp] theorem State.holdTerm3_tick (s : State) (x1 : Nat) : (State.holdTerm3 s x1).tick = s.tick := by
  (unfold State.holdTerm3; simp; done)
@[simp] theorem State.fastUpdate_tick (s : State) : (State.fastUpdate s).tick = s.tick := by
  (unfold State.fastUpdate; simp; done)
@[simp] theorem State.takePhase_tick (s : State) : (State.takePhase s).tick = s.tick := by
  (unfold State.takePhase; dsimp only; (repeat' split) <;> simp; done)
@[simp] theorem State.devExposure_tick (s : State) : (State.devExposure s).tick = s.tick := by
  (unfold State.devExposure; dsimp only; (repeat' split) <;> simp (disch := (intros; (repeat' split) <;> (try simp))); done)
@[simp] theorem State.setEnsemble_tick (s : State) (x1 : List Sys2Proof.Machine.Member) (x2 : Nat) (x3 : Int) : (State.setEnsemble s x1 x2 x3).tick = s.tick := by
  (unfold State.setEnsemble; simp; done)
@[simp] theorem State.adoptEnsemble_tick (s : State) : (State.adoptEnsemble s).tick = s.tick := by
  (unfold State.adoptEnsemble; simp; done)
@[simp] theorem State.pruneEnsemble_tick (s : State) : (State.pruneEnsemble s).tick = s.tick := by
  (unfold State.pruneEnsemble; simp; done)
@[simp] theorem State.loadClass_tick (s : State) (x1 : Nat) : (State.loadClass s x1).tick = s.tick := by
  (unfold State.loadClass; simp; done)
@[simp] theorem State.learnAgeing_tick (s : State) : (State.learnAgeing s).tick = s.tick := by
  (unfold State.learnAgeing; simp; done)
@[simp] theorem State.learn_tick (s : State) : (State.learn s).tick = s.tick := by
  (unfold State.learn; (repeat' split) <;> first | (simp; done) | rfl)
@[simp] theorem State.dailyRecord_tick (s : State) : (State.dailyRecord s).tick = s.tick := by
  (unfold State.dailyRecord; simp; done)
@[simp] theorem State.devReel_tick (s : State) : (State.devReel s).tick = s.tick := by
  (unfold State.devReel; simp; done)

@[simp] theorem State.setPending_tick (s : State) (x1 : Nat) (x2 : Nat) : (State.setPending s x1 x2).tick = s.tick := by
  (unfold State.setPending; simp; done)
@[simp] theorem State.setWaiting_tick (s : State) (x1 : Nat) (x2 : Nat) : (State.setWaiting s x1 x2).tick = s.tick := by
  (unfold State.setWaiting; simp; done)
@[simp] theorem State.setRefused_tick (s : State) (x1 : Nat) (x2 : Nat) : (State.setRefused s x1 x2).tick = s.tick := by
  (unfold State.setRefused; simp; done)
@[simp] theorem State.writeShadow_tick (s : State) (x1 : Nat) (x2 : Nat) (x3 : Nat) (x4 : Int) : (State.writeShadow s x1 x2 x3 x4).tick = s.tick := by
  (unfold State.writeShadow; simp; done)
@[simp] theorem State.dropShadow_tick (s : State) (x1 : Nat) (x2 : Nat) : (State.dropShadow s x1 x2).tick = s.tick := by
  (unfold State.dropShadow; simp; done)
@[simp] theorem State.commitOne_tick (s : State) (x1 : Nat) (x2 : Nat) : (State.commitOne s x1 x2).tick = s.tick := by
  (unfold State.commitOne; simp; done)
@[simp] theorem State.applyGroup_tick (s : State) (x1 : Nat) (x2 : Nat) : (State.applyGroup s x1 x2).tick = s.tick := by
  (unfold State.applyGroup; dsimp only; (repeat' split) <;> simp (disch := (intros; (repeat' split) <;> (try simp))); done)
@[simp] theorem State.tookEffect_tick (s : State) (x1 : Nat) (x2 : Nat) : (State.tookEffect s x1 x2).tick = s.tick := by
  (unfold State.tookEffect; simp; done)

end Sys2Proof.Machine
end

