-- ==== Sys2Proof/Laws/TickServe.lean ====
section
/-! SUPPORT. The clock and the queue are untouched by the switch, plans, keys and serving: one lemma a function. -/

namespace Sys2Proof.Machine

set_option linter.all false
@[simp] theorem State.setBank_tick (s : State) (x1 : Nat) (x2 : Option Sys2Proof.Machine.Plan) : (State.setBank s x1 x2).tick = s.tick := by
  (unfold State.setBank; simp; done)
@[simp] theorem State.setQueue_tick (s : State) (x1 : Nat) (x2 : Nat) (x3 : List Sys2Proof.Machine.QFrame) : (State.setQueue s x1 x2 x3).tick = s.tick := by
  (unfold State.setQueue; simp; done)
@[simp] theorem State.meter_tick (s : State) (x1 : Nat) (x2 : Nat) (x3 : Nat) : (State.meter s x1 x2 x3).1.tick = s.tick := by
  (unfold State.meter; dsimp only; (repeat' split) <;> simp; done)
@[simp] theorem State.refillMeters_tick (s : State) : (State.refillMeters s).tick = s.tick := by
  unfold State.refillMeters
  apply foldl_tick
  intro s q
  dsimp only
  split
  · rfl
  · apply foldl_tick
    intros
    simp only [State.tick_mk, State.tick_fold]
@[simp] theorem State.countDrop_tick (s : State) (x1 : Nat) (x2 : Nat) (x3 : Sys2Proof.Machine.Colour) (x4 : Bool) : (State.countDrop s x1 x2 x3 x4).tick = s.tick := by
  (unfold State.countDrop; dsimp only; (repeat' split) <;> simp; done)
@[simp] theorem State.decideEntry_tick (s : State) (x1 : Nat) (x2 : Nat) (x3 : Nat) (x4 : Sys2Proof.Machine.Colour) (x5 : Bool) : (State.decideEntry s x1 x2 x3 x4 x5).1.tick = s.tick := by
  (unfold State.decideEntry; dsimp only; (repeat' split) <;> simp; done)
@[simp] theorem State.notePeak_tick (s : State) (x1 : Nat) (x2 : Nat) : (State.notePeak s x1 x2).tick = s.tick := by
  (unfold State.notePeak; simp; done)
@[simp] theorem State.useSlot_tick (s : State) (x1 : Nat) : (State.useSlot s x1).tick = s.tick := by
  (unfold State.useSlot; simp; done)
@[simp] theorem State.stage_tick (s : State) (x1 : Nat) : (State.stage s x1).1.tick = s.tick := by
  (unfold State.stage; dsimp only; (repeat' split) <;> simp; done)
@[simp] theorem State.stagingReport_tick (s : State) : (State.stagingReport s).tick = s.tick := by
  (unfold State.stagingReport; simp; done)
@[simp] theorem State.enqueue_tick (s : State) (x1 : Nat) (x2 : Nat) (x3 : Sys2Proof.Machine.QFrame) (x4 : Sys2Proof.Machine.Colour) : (State.enqueue s x1 x2 x3 x4).tick = s.tick := by
  (unfold State.enqueue; simp; done)
@[simp] theorem State.copyLost_tick (s : State) (x1 : Nat) (x2 : Nat) (x3 : Sys2Proof.Machine.QFrame) : (State.copyLost s x1 x2 x3).tick = s.tick := by
  (unfold State.copyLost; (repeat' split) <;> first | (simp; done) | rfl)
@[simp] theorem State.noteOffer_tick (s : State) (x1 : List Nat) (x2 : Nat) (x3 : Sys2Proof.Machine.QFrame) (x4 : Sys2Proof.Machine.Colour) : (State.noteOffer s x1 x2 x3 x4).tick = s.tick := by
  (unfold State.noteOffer; simp; done)
@[simp] theorem State.offer_tick (s : State) (x1 : List Nat) (x2 : Nat) (x3 : Sys2Proof.Machine.QFrame) (x4 : Sys2Proof.Machine.Colour) (x5 : Bool) : (State.offer s x1 x2 x3 x4 x5).tick = s.tick := by
  (unfold State.offer; dsimp only; (repeat' split) <;> simp; done)
@[simp] theorem State.prpAdvance_tick (s : State) (x1 : Nat) : (State.prpAdvance s x1).tick = s.tick := by
  (unfold State.prpAdvance; simp; done)
@[simp] theorem State.offerEngine_tick (s : State) (x1 : Nat) (x2 : Sys2Proof.Machine.QKind) (x3 : Nat) (x4 : Option Nat) : (State.offerEngine s x1 x2 x3 x4).tick = s.tick := by
  (unfold State.offerEngine; simp; done)
@[simp] theorem State.offerPosition_tick (s : State) (x1 : Nat) (x2 : Sys2Proof.Machine.QKind) (x3 : Nat) (x4 : Option Nat) : (State.offerPosition s x1 x2 x3 x4).tick = s.tick := by
  (unfold State.offerPosition; simp; done)
@[simp] theorem State.popQueue_tick (s : State) (x1 : Nat) (x2 : Nat) : (State.popQueue s x1 x2).tick = s.tick := by
  (unfold State.popQueue; (repeat' split) <;> first | (simp; done) | rfl)
@[simp] theorem State.flushSending_tick (s : State) (x1 : Nat) : (State.flushSending s x1).tick = s.tick := by
  (unfold State.flushSending; dsimp only; (repeat' split) <;> simp; done)
@[simp] theorem State.flushLane_tick (s : State) (x1 : Nat) : (State.flushLane s x1).tick = s.tick := by
  unfold State.flushLane
  refine (foldl_tick _ _ _ ?_).trans (State.flushSending_tick s x1)
  intro s c
  refine (foldl_tick _ _ _ ?_).trans (by simp)
  intro t f
  cases f.request with
  | none => rfl
  | some id => simp
@[simp] theorem State.endCross_tick (x0 : Sys2Proof.Machine.State) (s : State) : (State.endCross x0 s).tick = s.tick := by
  unfold State.endCross
  apply foldl_tick
  intro u pos
  split
  · exact State.flushLane_tick _ _
  · rfl

@[simp] theorem State.planOversize_tick (s : State) : (State.planOversize s).tick = s.tick := by
  (unfold State.planOversize; simp; done)
@[simp] theorem State.setDomain_tick (s : State) (x1 : Nat) (x2 : Nat) (x3 : Sys2Proof.Machine.Domain) : (State.setDomain s x1 x2 x3).tick = s.tick := by
  (unfold State.setDomain; simp; done)
@[simp] theorem State.wakeDomain_tick (s : State) (x1 : Nat) (x2 : Nat) : (State.wakeDomain s x1 x2).tick = s.tick := by
  (unfold State.wakeDomain; simp; done)
@[simp] theorem State.skip_tick (s : State) (x1 : Nat) : (State.skip s x1).tick = s.tick := by
  (unfold State.skip; simp; done)
@[simp] theorem State.skipEngine_tick (s : State) (x1 : Nat) : (State.skipEngine s x1).tick = s.tick := by
  (unfold State.skipEngine; simp; done)
@[simp] theorem State.spoil_tick (s : State) (x1 : Nat) (x2 : Nat) : (State.spoil s x1 x2).tick = s.tick := by
  (unfold State.spoil; simp; done)
@[simp] theorem State.spoilEngine_tick (s : State) (x1 : Nat) : (State.spoilEngine s x1).tick = s.tick := by
  (unfold State.spoilEngine; simp; done)
@[simp] theorem State.setRequest_tick (s : State) (x1 : Nat) (x2 : Sys2Proof.Machine.Request) : (State.setRequest s x1 x2).tick = s.tick := by
  (unfold State.setRequest; simp; done)
@[simp] theorem State.rebind_tick (s : State) : (State.rebind s).tick = s.tick := by
  unfold State.rebind
  refine (foldl_tick _ _ _ ?_).trans (by simp only [State.tick_mk, State.tick_fold])
  intro s n
  split
  · rfl
  · simp
@[simp] theorem State.takeBound_tick (s : State) (x1 : Nat) : (State.takeBound s x1).1.tick = s.tick := by
  (unfold State.takeBound; dsimp only; (repeat' split) <;> simp; done)

@[simp] theorem State.setSlot_tick (s : State) (x1 : Nat) (x2 : Sys2Proof.Machine.Slot) : (State.setSlot s x1 x2).tick = s.tick := by
  (unfold State.setSlot; simp; done)
@[simp] theorem State.fetchKey_tick (s : State) (x1 : Nat) (x2 : Nat) : (State.fetchKey s x1 x2).1.tick = s.tick := by
  (unfold State.fetchKey; dsimp only; (repeat' split) <;> simp; done)
@[simp] theorem State.checkCurrent_tick (s : State) : (State.checkCurrent s).tick = s.tick := by
  (unfold State.checkCurrent; dsimp only; (repeat' split) <;> simp; done)
theorem State.drawMask_tick (s : State) : s.drawMask.2.tick = s.tick := by
  unfold State.drawMask
  first | (simp; done) | (dsimp only; rw [State.tick_mk, State.tick_fold])
@[simp] theorem State.zeroise_tick (s : State) (x1 : Nat) : (State.zeroise s x1).tick = s.tick := by
  unfold State.zeroise
  dsimp only
  split
  · simp only [State.tick_mk, State.tick_fold]
  · rw [State.report_tick, State.takeEffect_tick, State.takeEffect_tick]
    refine (foldl_tick _ _ _ ?_).trans ?_
    · intros
      rw [State.setObj_tick]
    · simp only [State.tick_mk, State.tick_fold]
@[simp] theorem State.wrapUnitFailed_tick (s : State) (x1 : Nat) : (State.wrapUnitFailed s x1).tick = s.tick := by
  (unfold State.wrapUnitFailed; simp; done)

@[simp] theorem State.diverge_tick (s : State) (x1 : Nat) (x2 : Nat) : (State.diverge s x1 x2).tick = s.tick := by
  unfold State.diverge
  extract_lets t u w v
  have ht : t.tick = s.tick := by simp only [t, State.setObj_tick, State.bump_tick]
  have hu : u.tick = s.tick := (foldl_tick _ _ _ fun s n => State.setPlate_tick s n _).trans ht
  have hv : v.tick = s.tick := by simp only [v, State.tick_mk, State.tick_fold, hu]
  split
  · exact hv
  · rw [State.report_tick, hv]
@[simp] theorem State.setAddressSource_tick (s : State) (x1 : Nat) (x2 : Sys2Proof.Machine.Source) : (State.setAddressSource s x1 x2).tick = s.tick := by
  (unfold State.setAddressSource; simp; done)
@[simp] theorem State.setLaneSource_tick (s : State) (x1 : Nat) (x2 : Sys2Proof.Machine.Source) : (State.setLaneSource s x1 x2).tick = s.tick := by
  (unfold State.setLaneSource; simp; done)
@[simp] theorem State.becomesSevere_tick (s : State) (x1 : Bool) (x2 : Nat) : (State.becomesSevere s x1 x2).tick = s.tick := by
  (unfold State.becomesSevere; simp; done)
@[simp] theorem State.addressEvent_tick (s : State) (x1 : Nat) : (State.addressEvent s x1).tick = s.tick := by
  (unfold State.addressEvent; simp; done)
@[simp] theorem State.laneEvent_tick (s : State) (x1 : Nat) : (State.laneEvent s x1).tick = s.tick := by
  (unfold State.laneEvent; simp; done)
@[simp] theorem State.classify_tick (s : State) (x1 : Nat) (x2 : Nat) : (State.classify s x1 x2).tick = s.tick := by
  (unfold State.classify; simp; done)
@[simp] theorem State.refreshRed_tick (s : State) : (State.refreshRed s).tick = s.tick := by
  (unfold State.refreshRed; simp; done)
@[simp] theorem State.released_tick (s : State) (x1 : Bool) (x2 : Nat) : (State.released s x1 x2).tick = s.tick := by
  (unfold State.released; simp; done)

@[simp] theorem State.setPosition_tick (s : State) (x1 : Nat) (x2 : Nat) (x3 : Sys2Proof.Machine.Position) : (State.setPosition s x1 x2 x3).tick = s.tick := by
  (unfold State.setPosition; simp; done)
@[simp] theorem State.setQuality_tick (s : State) (x1 : Nat) (x2 : Sys2Proof.Machine.Quality) : (State.setQuality s x1 x2).tick = s.tick := by
  (unfold State.setQuality; simp; done)
@[simp] theorem State.setClient_tick (s : State) (x1 : Nat) (x2 : Sys2Proof.Machine.ClientRecord) : (State.setClient s x1 x2).tick = s.tick := by
  (unfold State.setClient; simp; done)
@[simp] theorem State.endGrant_tick (s : State) (x1 : Nat) (x2 : Nat) : (State.endGrant s x1 x2).tick = s.tick := by
  (unfold State.endGrant; simp; done)
@[simp] theorem State.releaseRecords_tick (s : State) : (State.releaseRecords s).tick = s.tick := by
  (unfold State.releaseRecords; simp; done)
@[simp] theorem State.setStream_tick (s : State) (x1 : Nat) (x2 : Nat) (x3 : Sys2Proof.Machine.Stream) : (State.setStream s x1 x2 x3).tick = s.tick := by
  (unfold State.setStream; simp; done)
@[simp] theorem State.requestUnicast_tick (s : State) (x1 : Nat) (x2 : Nat) (x3 : Nat) (x4 : Nat) (x5 : Nat) (x6 : Nat) (x7 : Nat) (x8 : Int) (x9 : Nat) (x10 : Sys2Proof.Machine.SignalingReply) : (State.requestUnicast s x1 x2 x3 x4 x5 x6 x7 x8 x9 x10).1.tick = s.tick := by
  (unfold State.requestUnicast; dsimp only; (repeat' split) <;> simp; done)
@[simp] theorem State.shedGrants_tick (s : State) (x1 : Nat) (x2 : Nat) (x3 : Nat) : (State.shedGrants s x1 x2 x3).1.tick = s.tick := by
  induction x2 generalizing s x3 with
  | zero => rfl
  | succ n ih =>
    unfold State.shedGrants
    split
    · rfl
    · dsimp only
      split
      · rfl
      · rw [ih]; simp
@[simp] theorem State.cancelForCapacity_tick (s : State) : (State.cancelForCapacity s).tick = s.tick := by
  (unfold State.cancelForCapacity; simp; done)
@[simp] theorem State.takeToken_tick (s : State) (x1 : Nat) (x2 : Bool) : (State.takeToken s x1 x2).1.tick = s.tick := by
  (unfold State.takeToken; simp; done)
@[simp] theorem State.judge_tick (s : State) (x1 : Nat) (x2 : Nat) (x3 : Nat) : (State.judge s x1 x2 x3).tick = s.tick := by
  (unfold State.judge; simp; done)
@[simp] theorem State.judgeAll_tick (s : State) : (State.judgeAll s).tick = s.tick := by
  (unfold State.judgeAll; simp; done)
@[simp] theorem State.clearDegraded_tick (s : State) : (State.clearDegraded s).tick = s.tick := by
  (unfold State.clearDegraded; simp; done)
@[simp] theorem State.listen_tick (s : State) (x1 : Nat) (x2 : Nat) : (State.listen s x1 x2).tick = s.tick := by
  (unfold State.listen; simp; done)
@[simp] theorem State.listenersUp_tick (s : State) (x1 : Nat) : (State.listenersUp s x1).tick = s.tick := by
  (unfold State.listenersUp; simp; done)
@[simp] theorem State.startStreams_tick (s : State) (x1 : Nat) : (State.startStreams s x1).tick = s.tick := by
  (unfold State.startStreams; simp; done)
@[simp] theorem State.applyInstance_tick (s : State) (x1 : Nat) (x2 : Bool) : (State.applyInstance s x1 x2).tick = s.tick := by
  (unfold State.applyInstance; simp; done)
@[simp] theorem State.applyInstances_tick (s : State) : (State.applyInstances s).tick = s.tick := by
  unfold State.applyInstances
  apply foldl_tick
  intro t e
  cases e.2 with
  | none => rfl
  | some on => simp

@[simp] theorem State.schedule_tick (s : State) (x1 : Sys2Proof.Machine.Departure) (x2 : List Sys2Proof.Machine.Served) (x3 : Option Nat) (x4 : Bool) : (State.schedule s x1 x2 x3 x4).tick = s.tick := by
  (unfold State.schedule; simp; done)
@[simp] theorem State.scheduleSigned_tick (s : State) (x1 : Sys2Proof.Machine.Departure) (x2 : Nat) (x3 : Nat) (x4 : Nat) (x5 : List Sys2Proof.Machine.Served) (x6 : Option Nat) : (State.scheduleSigned s x1 x2 x3 x4 x5 x6).tick = s.tick := by
  unfold State.scheduleSigned
  split
  · simp
  · split
    · rfl
    · rename_i n _
      have hk := State.fetchKey_tick s n unitHmac
      generalize s.fetchKey n unitHmac = p at hk
      obtain ⟨t, _ | k⟩ := p
      · exact hk
      · simpa using hk
@[simp] theorem State.verifyPtp_tick (s : State) (x1 : Sys2Proof.PtpMessage) : (State.verifyPtp s x1).1.tick = s.tick := by
  unfold State.verifyPtp
  split
  · rfl
  · split
    · rfl
    · split
      · rfl
      · rename_i n _
        have hk := State.fetchKey_tick s n unitHmac
        generalize s.fetchKey n unitHmac = p at hk
        obtain ⟨t, _ | k⟩ := p <;> exact hk
@[simp] theorem State.owe_tick (s : State) (x1 : Nat) (x2 : Sys2Proof.Machine.Owed) : (State.owe s x1 x2).tick = s.tick := by
  (unfold State.owe; simp; done)
@[simp] theorem State.oweL1_tick (s : State) (x1 : Nat) (x2 : Nat) (x3 : Nat) (x4 : Nat) : (State.oweL1 s x1 x2 x3 x4).tick = s.tick := by
  (unfold State.oweL1; simp; done)
@[simp] theorem State.sendCalendar_tick (s : State) (x1 : Sys2Proof.Machine.Departure) (x2 : Nat) (x3 : Sys2Proof.Machine.CalendarEntry) : (State.sendCalendar s x1 x2 x3).tick = s.tick := by
  (unfold State.sendCalendar; dsimp only; (repeat' split) <;> simp; done)
@[simp] theorem State.sendOwed_tick (s : State) (x1 : Sys2Proof.Machine.Departure) (x2 : Sys2Proof.Machine.Owed) : (State.sendOwed s x1 x2).tick = s.tick := by
  (unfold State.sendOwed; dsimp only; (repeat' split) <;> simp; done)
@[simp] theorem State.ptpMalformed_tick (s : State) (x1 : Nat) (x2 : Nat) (x3 : Nat) : (State.ptpMalformed s x1 x2 x3).tick = s.tick := by
  (unfold State.ptpMalformed; simp; done)
@[simp] theorem State.signaling_tick (s : State) (x1 : Nat) (x2 : Nat) (x3 : Nat) (x4 : Nat) (x5 : Nat) (x6 : Nat) (x7 : Nat) (x8 : List Sys2Proof.SignalingTlv) : (State.signaling s x1 x2 x3 x4 x5 x6 x7 x8).1.tick = s.tick := by
  (unfold State.signaling; dsimp only; (repeat' split) <;> simp (disch := (intros; (repeat' split) <;> (try simp))); done)
@[simp] theorem State.attachRegrants_tick (s : State) (x1 : Sys2Proof.Machine.State) (x2 : List (Nat × Nat × Sys2Proof.Machine.Grant)) : (State.attachRegrants s x1 x2).tick = s.tick := by
  unfold State.attachRegrants
  split
  · rfl
  · cases s.plans.live.getLast? with
    | none => rfl
    | some f => simp only [State.tick_mk, State.tick_fold]
@[simp] theorem State.foreignMaster_tick (s : State) (x1 : Nat) (x2 : Nat) (x3 : Nat) : (State.foreignMaster s x1 x2 x3).tick = s.tick := by
  (unfold State.foreignMaster; simp; done)
@[simp] theorem State.delayRate_tick (s : State) (x1 : Nat) (x2 : Nat) (x3 : Nat) (x4 : Option Nat) : (State.delayRate s x1 x2 x3 x4).1.tick = s.tick := by
  (unfold State.delayRate; dsimp only; (repeat' split) <;> (first   | (simp; done)   | (simp (disch := (intros; (repeat' split) <;> (try simp))); done)   | (rename_i h; have hc := congrArg (fun p => p.1.tick) h; simp at hc; simp [← hc]; done)   | (rename_i h _; have hc := congrArg (fun p => p.1.tick) h; simp at hc; simp [← hc]; done)   | (rename_i h _ _; have hc := congrArg (fun p => p.1.tick) h; simp at hc; simp [← hc]; done)))
@[simp] theorem State.answerDelay_tick (s : State) (x1 : Sys2Proof.Machine.Departure) (x2 : Nat) (x3 : Nat) (x4 : Nat) (x5 : Sys2Proof.PtpMessage) (x6 : Int) (x7 : Option Nat) : (State.answerDelay s x1 x2 x3 x4 x5 x6 x7).tick = s.tick := by
  (unfold State.answerDelay; dsimp only; (repeat' split) <;> (first   | (simp; done)   | (simp (disch := (intros; (repeat' split) <;> (try simp))); done)   | (rename_i h; have hc := congrArg (fun p => p.1.tick) h; simp at hc; simp [← hc]; done)   | (rename_i h _; have hc := congrArg (fun p => p.1.tick) h; simp at hc; simp [← hc]; done)   | (rename_i h _ _; have hc := congrArg (fun p => p.1.tick) h; simp at hc; simp [← hc]; done)))
@[simp] theorem State.ptpRequest_tick (s : State) (x1 : Sys2Proof.Machine.Departure) (x2 : Nat) (x3 : Sys2Proof.Machine.Request) (x4 : Sys2Proof.PtpMessage) : (State.ptpRequest s x1 x2 x3 x4).tick = s.tick := by
  (unfold State.ptpRequest; dsimp only; (repeat' split) <;> simp; done)
@[simp] theorem State.sendNak_tick (s : State) (x1 : Sys2Proof.Machine.Departure) (x2 : Nat) (x3 : Sys2Proof.Machine.Request) (x4 : Sys2Proof.NtpMessage) (x5 : Sys2Proof.Octets) : (State.sendNak s x1 x2 x3 x4 x5).tick = s.tick := by
  (unfold State.sendNak; simp; done)
@[simp] theorem State.ntsAnswer_tick (s : State) (x1 : Sys2Proof.Machine.Departure) (x2 : Nat) (x3 : Sys2Proof.Machine.Request) (x4 : Sys2Proof.NtpMessage) (x5 : Sys2Proof.Octets) (x6 : Sys2Proof.Octets) (x7 : List Sys2Proof.Octets) : (State.ntsAnswer s x1 x2 x3 x4 x5 x6 x7).tick = s.tick := by
  (unfold State.ntsAnswer; dsimp only; (repeat' split) <;> (first   | (simp; done)   | (simp (disch := (intros; (repeat' split) <;> (try simp))); done)   | (rename_i h; have hc := congrArg (fun p => p.1.tick) h; simp at hc; simp [← hc]; done)   | (rename_i h _; have hc := congrArg (fun p => p.1.tick) h; simp at hc; simp [← hc]; done)   | (rename_i h _ _; have hc := congrArg (fun p => p.1.tick) h; simp at hc; simp [← hc]; done)))
@[simp] theorem State.openCookie_tick (s : State) (x1 : Sys2Proof.Octets) : (State.openCookie s x1).1.tick = s.tick := by
  unfold State.openCookie
  split
  · rfl
  · rename_i w _
    have hk := State.fetchKey_tick s (entrySlot w) unitAes
    generalize s.fetchKey (entrySlot w) unitAes = p at hk
    obtain ⟨t, _ | k⟩ := p
    · exact hk
    · dsimp only at hk ⊢
      split <;> exact hk
@[simp] theorem State.currentKey_tick (s : State) (x1 : Nat) : (State.currentKey s x1).1.tick = s.tick := by
  unfold State.currentKey
  split
  · rfl
  · rename_i w _
    split
    · rfl
    · have hk := State.fetchKey_tick s (entrySlot w) unitAes
      generalize s.fetchKey (entrySlot w) unitAes = p at hk
      obtain ⟨t, _ | k⟩ := p <;> exact hk
@[simp] theorem State.ntsRequest_tick (s : State) (x1 : Sys2Proof.Machine.Departure) (x2 : Nat) (x3 : Sys2Proof.Machine.Request) (x4 : Sys2Proof.NtpMessage) : (State.ntsRequest s x1 x2 x3 x4).tick = s.tick := by
  unfold State.ntsRequest
  extract_lets v addr malformed
  have hs : v.tick = s.tick := by simp only [v, State.checkCurrent_tick]
  have hm : ∀ u : State, (malformed u).tick = u.tick := fun u => by simp only [malformed, State.classify_tick, State.bump_tick]
  rw [← hs]
  clear_value v malformed
  split
  · exact hm v
  · split
    · exact hm v
    · rename_i uid cookie ph _
      have hk := State.openCookie_tick v cookie
      generalize v.openCookie cookie = p at hk
      obtain ⟨t, _ | ⟨keys, slot⟩⟩ := p
      · simpa using hk
      · dsimp only at hk ⊢
        have hc := State.currentKey_tick t slot
        generalize t.currentKey slot = q at hc
        obtain ⟨u, _ | ⟨w, master⟩⟩ := q
        · simpa [hk] using hc
        · dsimp only at hc ⊢
          rw [hk] at hc
          (repeat' split) <;> simp [hm, hc]

@[simp] theorem State.setUpstream_tick (s : State) (x1 : Nat) (x2 : Sys2Proof.Machine.Upstream) : (State.setUpstream s x1 x2).tick = s.tick := by
  (unfold State.setUpstream; simp; done)
@[simp] theorem State.upstreamFailed_tick (s : State) (x1 : Nat) : (State.upstreamFailed s x1).tick = s.tick := by
  (unfold State.upstreamFailed; simp; done)
@[simp] theorem State.upstreamQuality_tick (s : State) (x1 : Nat) (x2 : Nat) (x3 : Bool) : (State.upstreamQuality s x1 x2 x3).tick = s.tick := by
  (unfold State.upstreamQuality; simp; done)
@[simp] theorem State.completeExchange_tick (s : State) (x1 : Nat) : (State.completeExchange s x1).tick = s.tick := by
  (unfold State.completeExchange; dsimp only; (repeat' split) <;> simp; done)
@[simp] theorem State.upstreamReply_tick (s : State) (x1 : Nat) (x2 : Sys2Proof.Machine.UpstreamReply) : (State.upstreamReply s x1 x2).tick = s.tick := by
  (unfold State.upstreamReply; simp; done)
@[simp] theorem State.upstreamSent_tick (s : State) (x1 : Sys2Proof.Machine.TxEntry) : (State.upstreamSent s x1).tick = s.tick := by
  (unfold State.upstreamSent; simp; done)
@[simp] theorem State.verifyUpstream_tick (s : State) (x1 : Nat) (x2 : Sys2Proof.PtpMessage) : (State.verifyUpstream s x1 x2).1.tick = s.tick := by
  unfold State.verifyUpstream
  split
  · rfl
  · split
    · rfl
    · have hk := State.fetchKey_tick s (s.obj (0x2320 + x1) 6) unitHmac
      generalize s.fetchKey (s.obj (0x2320 + x1) 6) unitHmac = p at hk
      obtain ⟨t, _ | k⟩ := p <;> exact hk
@[simp] theorem State.upstreamPtp_tick (s : State) (x1 : Nat) (x2 : Sys2Proof.Machine.Request) (x3 : Sys2Proof.PtpMessage) : (State.upstreamPtp s x1 x2 x3).tick = s.tick := by
  unfold State.upstreamPtp
  have hk := State.verifyUpstream_tick s x1 x3
  generalize s.verifyUpstream x1 x3 = p at hk
  obtain ⟨t, _ | _⟩ := p
  · simpa using hk
  · dsimp only at hk ⊢
    (repeat' split) <;> first | (simp [hk]; done) | (refine (foldl_tick _ _ _ ?_).trans (by simp [hk]); intros; simp)
@[simp] theorem State.upstreamNtp_tick (s : State) (x1 : Nat) (x2 : Sys2Proof.Machine.Request) (x3 : Sys2Proof.NtpMessage) : (State.upstreamNtp s x1 x2 x3).tick = s.tick := by
  unfold State.upstreamNtp
  split
  · simp
  · rename_i n c _
    have hk := State.fetchKey_tick s (s.obj (0x2320 + x1) 6 + 1) unitAes
    generalize s.fetchKey (s.obj (0x2320 + x1) 6 + 1) unitAes = p at hk
    obtain ⟨t, _ | k⟩ := p
    · simpa using hk
    · dsimp only at hk ⊢
      (repeat' split) <;> simp [hk]
@[simp] theorem State.upstreamRequest_tick (s : State) (x1 : Nat) : (State.upstreamRequest s x1).tick = s.tick := by
  unfold State.upstreamRequest
  extract_lets u idx ntp u1
  have hk := State.fetchKey_tick s (s.obj idx 6) (if ntp = true then unitAes else unitHmac)
  generalize s.fetchKey (s.obj idx 6) (if ntp = true then unitAes else unitHmac) = p at hk
  obtain ⟨t, _ | k⟩ := p
  · simpa using hk
  · dsimp only at hk ⊢
    split
    · have h1 := State.drawMask_tick t
      generalize t.drawMask = q at h1
      obtain ⟨d, v⟩ := q
      dsimp only at h1 ⊢
      simp [h1, hk]
    · split <;> simp [hk]


theorem State.serve1_tick (s : State) (eng op : Nat) (work : PlanStep → Option Request → State → State)
    (h : ∀ x r t, (work x r t).tick = t.tick) : (s.serve1 eng op work).tick = s.tick := by
  unfold State.serve1; dsimp only; (repeat' split) <;> simp [h]
@[simp] theorem State.ntsStep_tick (s : State) (x1 : Nat) (x2 : Sys2Proof.Machine.PlanStep) (x3 : Sys2Proof.Machine.Request) : (State.ntsStep s x1 x2 x3).tick = s.tick := by
  (unfold State.ntsStep; (repeat' split) <;> first | (simp; done) | rfl)
@[simp] theorem State.pdelayComplete_tick (s : State) (x1 : Nat) (x2 : Nat) : (State.pdelayComplete s x1 x2).tick = s.tick := by
  (unfold State.pdelayComplete; dsimp only; (repeat' split) <;> simp; done)
@[simp] theorem State.pdelayAnswer_tick (s : State) (x1 : Nat) (x2 : Nat) (x3 : Sys2Proof.Machine.Request) (x4 : Sys2Proof.PtpMessage) : (State.pdelayAnswer s x1 x2 x3 x4).tick = s.tick := by
  (unfold State.pdelayAnswer; dsimp only; (repeat' split) <;> simp; done)
@[simp] theorem State.pdelaySent_tick (s : State) (x1 : Sys2Proof.Machine.TxEntry) : (State.pdelaySent s x1).tick = s.tick := by
  (unfold State.pdelaySent; simp; done)
@[simp] theorem State.redAllows_tick (s : State) (x1 : Nat) (x2 : Nat) (x3 : Nat) : (State.redAllows s x1 x2 x3).1.tick = s.tick := by
  unfold State.redAllows
  split
  · rfl
  · have hk := State.takeToken_tick s x2 true
    generalize s.takeToken x2 true = p at hk
    obtain ⟨t, _ | _⟩ := p
    · simpa using hk
    · exact hk
@[simp] theorem State.redFirst_tick (s : State) (x1 : Nat) (x2 : Sys2Proof.Machine.Request) (x3 : Sys2Proof.PtpMessage) : (State.redFirst s x1 x2 x3).1.tick = s.tick := by
  (unfold State.redFirst; dsimp only; (repeat' split) <;> simp; done)
@[simp] theorem State.ptpStep_tick (s : State) (x1 : Nat) (x2 : Sys2Proof.Machine.PlanStep) (x3 : Sys2Proof.Machine.Request) : (State.ptpStep s x1 x2 x3).tick = s.tick := by
  unfold State.ptpStep
  split
  · exact State.upstreamPtp_tick _ _ _ _
  · split
    · simp
    · split
      · simp
      · rename_i l2 m _ _ i _ _
        extract_lets addr
        have h1 := State.redFirst_tick s i x3 m
        generalize s.redFirst i x3 m = p at h1
        obtain ⟨t, _ | _⟩ := p
        · exact h1
        · dsimp only at h1 ⊢
          split
          · split
            · simp [h1]
            · split
              · simp [h1]
              · have h2 := State.verifyPtp_tick t m
                generalize t.verifyPtp m = q at h2
                obtain ⟨u, _ | _⟩ := q <;> (dsimp only at h2 ⊢; simp [h1, h2])
          · simp [h1]
  · rfl
@[simp] theorem State.generalIdle_tick (s : State) (x1 : Nat) (x2 : Sys2Proof.Machine.PlanStep) : (State.generalIdle s x1 x2).tick = s.tick := by
  (unfold State.generalIdle; dsimp only; (repeat' split) <;> simp; done)
@[simp] theorem State.cryptoPass_tick (s : State) (x1 : Nat) (x2 : Nat) (x3 : Nat) : (State.cryptoPass s x1 x2 x3).tick = s.tick := by
  (unfold State.cryptoPass; dsimp only; (repeat' split) <;> simp; done)
@[simp] theorem State.notSent_tick (s : State) (x1 : Sys2Proof.Machine.Scheduled) (x2 : Nat) : (State.notSent s x1 x2).tick = s.tick := by
  (unfold State.notSent; (repeat' split) <;> first | (simp; done) | rfl)
@[simp] theorem State.putLive_tick (s : State) (x1 : Sys2Proof.Machine.Scheduled) (x2 : Sys2Proof.Machine.Scheduled) : (State.putLive s x1 x2).tick = s.tick := by
  (unfold State.putLive; simp; done)
@[simp] theorem State.dropLive_tick (s : State) (x1 : Sys2Proof.Machine.Scheduled) : (State.dropLive s x1).tick = s.tick := by
  (unfold State.dropLive; simp; done)
@[simp] theorem State.handOff_tick (s : State) (x1 : Sys2Proof.Machine.Scheduled) (x2 : Bool) : (State.handOff s x1 x2).tick = s.tick := by
  (unfold State.handOff; dsimp only; (repeat' split) <;> simp (disch := (intros; (repeat' split) <;> (try simp))); done)
@[simp] theorem State.firstReply_tick (s : State) (x1 : Sys2Proof.Machine.Scheduled) : (State.firstReply s x1).tick = s.tick := by
  (unfold State.firstReply; simp; done)
@[simp] theorem State.takeRegrants_tick (s : State) (x1 : Sys2Proof.Machine.Scheduled) : (State.takeRegrants s x1).tick = s.tick := by
  (unfold State.takeRegrants; simp; done)
@[simp] theorem State.departFrame_tick (s : State) (x1 : Sys2Proof.Machine.Scheduled) (x2 : Option Nat) : (State.departFrame s x1 x2).tick = s.tick := by
  (unfold State.departFrame; dsimp only; (repeat' split) <;> simp; done)
@[simp] theorem State.missDeparture_tick (s : State) (x1 : Sys2Proof.Machine.Scheduled) : (State.missDeparture s x1).tick = s.tick := by
  (unfold State.missDeparture; simp; done)
theorem instanceEnableOp_tick (x0 : Nat) (x1 : Nat) (s : State) {t : State} (h : instanceEnableOp x0 x1 s = .ok t) : t.tick = s.tick := by
  (simp only [instanceEnableOp] at h; (repeat' split at h) <;> first | exact error_tick h | (refine (ok_tick h).trans ?_; simp; done) | (refine (ok_tick h).trans ?_; (repeat' split) <;> simp (disch := (intros; (repeat' split) <;> (try simp))); done))
theorem instanceWriteOp_tick (x0 : Nat) (x1 : Nat) (x2 : Int) (s : State) {t : State} (h : instanceWriteOp x0 x1 x2 s = .ok t) : t.tick = s.tick := by
  (simp only [instanceWriteOp] at h; (repeat' split at h) <;> first | exact error_tick h | (refine (ok_tick h).trans ?_; simp; done) | (refine (ok_tick h).trans ?_; (repeat' split) <;> simp (disch := (intros; (repeat' split) <;> (try simp))); done))
theorem cancelGrantsOp_tick (s : State) {t : State} (h : cancelGrantsOp s = .ok t) : t.tick = s.tick := by
  (simp only [cancelGrantsOp] at h; (repeat' split at h) <;> first | exact error_tick h | (refine (ok_tick h).trans ?_; simp; done) | (refine (ok_tick h).trans ?_; (repeat' split) <;> simp (disch := (intros; (repeat' split) <;> (try simp))); done))
theorem clearQuarantineOp_tick (s : State) {t : State} (h : clearQuarantineOp s = .ok t) : t.tick = s.tick := by
  (simp only [clearQuarantineOp] at h; (repeat' split at h) <;> first | exact error_tick h | (refine (ok_tick h).trans ?_; simp; done) | (refine (ok_tick h).trans ?_; (repeat' split) <;> simp (disch := (intros; (repeat' split) <;> (try simp))); done))

end Sys2Proof.Machine
end

