-- ==== Sys2Proof/Laws/TickTime.lean ====
section
/-! SUPPORT. The clock and the queue are untouched by time bases, media, GNSS, synthesis, ports and plates: one lemma a function. -/

namespace Sys2Proof.Machine

set_option linter.all false
theorem setBaseOp_tick (x0 : Nat) (x1 : Nat) (s : State) {t : State} (h : setBaseOp x0 x1 s = .ok t) : t.tick = s.tick := by
  (simp only [setBaseOp] at h; (repeat' split at h) <;> first | exact error_tick h | (refine (ok_tick h).trans ?_; simp; done) | (refine (ok_tick h).trans ?_; (repeat' split) <;> simp (disch := (intros; (repeat' split) <;> (try simp))); done))
theorem stepBaseOp_tick (x0 : Nat) (x1 : Int) (s : State) {t : State} (h : stepBaseOp x0 x1 s = .ok t) : t.tick = s.tick := by
  (simp only [stepBaseOp] at h; (repeat' split at h) <;> first | exact error_tick h | (refine (ok_tick h).trans ?_; simp; done) | (refine (ok_tick h).trans ?_; (repeat' split) <;> simp (disch := (intros; (repeat' split) <;> (try simp))); done))
theorem baseModeOp_tick (x0 : Nat) (x1 : Nat) (s : State) {t : State} (h : baseModeOp x0 x1 s = .ok t) : t.tick = s.tick := by
  (simp only [baseModeOp] at h; (repeat' split at h) <;> first | exact error_tick h | (refine (ok_tick h).trans ?_; simp; done) | (refine (ok_tick h).trans ?_; (repeat' split) <;> simp (disch := (intros; (repeat' split) <;> (try simp))); done))
@[simp] theorem State.applyBase_tick (s : State) (x1 : Nat) : (State.applyBase s x1).tick = s.tick := by
  (unfold State.applyBase; dsimp only; (repeat' split) <;> simp; done)
theorem captureOp_tick (x0 : Nat) (s : State) {t : State} (h : captureOp x0 s = .ok t) : t.tick = s.tick := by
  (simp only [captureOp] at h; (repeat' split at h) <;> first | exact error_tick h | (refine (ok_tick h).trans ?_; simp; done) | (refine (ok_tick h).trans ?_; (repeat' split) <;> simp (disch := (intros; (repeat' split) <;> (try simp))); done))
@[simp] theorem State.tagItem_tick (s : State) (x1 : Nat) (x2 : Nat) (x3 : Sys2Proof.Machine.ItemBody) : (State.tagItem s x1 x2 x3).tick = s.tick := by
  (unfold State.tagItem; simp; done)
@[simp] theorem State.eventEdge_tick (s : State) (x1 : Nat) (x2 : Bool) (x3 : Int) : (State.eventEdge s x1 x2 x3).tick = s.tick := by
  (unfold State.eventEdge; simp; done)
@[simp] theorem State.deliverEvent_tick (s : State) (x1 : Nat) (x2 : Bool) (x3 : Int) (x4 : Int) (x5 : Bool) : (State.deliverEvent s x1 x2 x3 x4 x5).tick = s.tick := by
  (unfold State.deliverEvent; simp; done)
@[simp] theorem State.passEvents_tick (s : State) : (State.passEvents s).tick = s.tick := by
  (unfold State.passEvents; dsimp only; (repeat' split) <;> simp (disch := (intros; (repeat' split) <;> (try simp))); done)
theorem fifoReleaseOp_tick (x0 : Nat) (x1 : Nat) (s : State) {t : State} (h : fifoReleaseOp x0 x1 s = .ok t) : t.tick = s.tick := by
  (simp only [fifoReleaseOp] at h; (repeat' split at h) <;> first | exact error_tick h | (refine (ok_tick h).trans ?_; simp; done) | (refine (ok_tick h).trans ?_; (repeat' split) <;> simp (disch := (intros; (repeat' split) <;> (try simp))); done))
@[simp] theorem State.calibrationRun_tick (s : State) (x1 : Nat) (x2 : Bool) (x3 : Int) : (State.calibrationRun s x1 x2 x3).tick = s.tick := by
  (unfold State.calibrationRun; simp; done)
@[simp] theorem State.swapTable_tick (s : State) (x1 : Nat) : (State.swapTable s x1).tick = s.tick := by
  (unfold State.swapTable; dsimp only; (repeat' split) <;> simp; done)
theorem intervalModeOp_tick (x0 : Nat) (x1 : Nat) (s : State) {t : State} (h : intervalModeOp x0 x1 s = .ok t) : t.tick = s.tick := by
  (simp only [intervalModeOp] at h; (repeat' split at h) <;> first | exact error_tick h | (refine (ok_tick h).trans ?_; simp; done) | (refine (ok_tick h).trans ?_; (repeat' split) <;> simp (disch := (intros; (repeat' split) <;> (try simp))); done))
@[simp] theorem State.applyInterval_tick (s : State) (x1 : Nat) : (State.applyInterval s x1).tick = s.tick := by
  (unfold State.applyInterval; dsimp only; (repeat' split) <;> simp; done)
@[simp] theorem State.startGate_tick (s : State) (x1 : Nat) : (State.startGate s x1).tick = s.tick := by
  (unfold State.startGate; simp; done)
@[simp] theorem State.openGate_tick (s : State) (x1 : Nat) : (State.openGate s x1).tick = s.tick := by
  (unfold State.openGate; simp; done)
@[simp] theorem State.shutGate_tick (s : State) (x1 : Nat) : (State.shutGate s x1).tick = s.tick := by
  (unfold State.shutGate; simp; done)

@[simp] theorem State.setGnssPort_tick (s : State) (x1 : Nat) (x2 : Sys2Proof.Machine.GnssPort) : (State.setGnssPort s x1 x2).tick = s.tick := by
  (unfold State.setGnssPort; simp; done)
@[simp] theorem State.setGnssChannel_tick (s : State) (x1 : Nat) (x2 : Sys2Proof.Machine.GnssChannel) : (State.setGnssChannel s x1 x2).tick = s.tick := by
  (unfold State.setGnssChannel; simp; done)
@[simp] theorem State.portStatusReel_tick (s : State) (x1 : Nat) : (State.portStatusReel s x1).tick = s.tick := by
  (unfold State.portStatusReel; simp; done)
@[simp] theorem State.channelTo_tick (s : State) (x1 : Nat) (x2 : Nat) : (State.channelTo s x1 x2).tick = s.tick := by
  (unfold State.channelTo; simp; done)
@[simp] theorem State.portChannelsTo_tick (s : State) (x1 : Nat) (x2 : Nat) : (State.portChannelsTo s x1 x2).tick = s.tick := by
  (unfold State.portChannelsTo; simp; done)
@[simp] theorem State.placeNotches_tick (s : State) (x1 : Nat) (x2 : List Sys2Proof.SpectralLine) : (State.placeNotches s x1 x2).tick = s.tick := by
  (unfold State.placeNotches; simp; done)
@[simp] theorem State.filmBlock_tick (s : State) (x1 : Nat) (x2 : Int) (x3 : List ((Int × Int) × Int × Int)) : (State.filmBlock s x1 x2 x3).tick = s.tick := by
  (unfold State.filmBlock; simp; done)
@[simp] theorem State.deliverBlock_tick (s : State) (x1 : Nat) (x2 : Int) (x3 : List Sys2Proof.GnssSample) : (State.deliverBlock s x1 x2 x3).tick = s.tick := by
  (unfold State.deliverBlock; simp; done)
@[simp] theorem State.armFilm_tick (s : State) (x1 : Nat) (x2 : Nat) (x3 : Nat) : (State.armFilm s x1 x2 x3).tick = s.tick := by
  (unfold State.armFilm; simp; done)
@[simp] theorem State.discardCapture_tick (s : State) : (State.discardCapture s).tick = s.tick := by
  (unfold State.discardCapture; simp; done)
@[simp] theorem State.clearFilm_tick (s : State) : (State.clearFilm s).tick = s.tick := by
  (unfold State.clearFilm; simp; done)
@[simp] theorem State.assign_tick (s : State) (x1 : Nat) (x2 : Nat) (x3 : Nat) : (State.assign s x1 x2 x3).tick = s.tick := by
  (unfold State.assign; dsimp only; (repeat' split) <;> simp; done)
@[simp] theorem State.assignChannels_tick (s : State) : (State.assignChannels s).tick = s.tick := by
  (unfold State.assignChannels; simp; done)
@[simp] theorem State.dropMasked_tick (s : State) : (State.dropMasked s).tick = s.tick := by
  (unfold State.dropMasked; simp; done)
@[simp] theorem State.releaseBanks_tick (s : State) : (State.releaseBanks s).tick = s.tick := by
  (unfold State.releaseBanks; dsimp only; (repeat' split) <;> simp (disch := (intros; (repeat' split) <;> (try simp))); done)
@[simp] theorem State.startAcquisition_tick (s : State) : (State.startAcquisition s).tick = s.tick := by
  (unfold State.startAcquisition; dsimp only; (repeat' split) <;> simp; done)
@[simp] theorem State.searchOne_tick (s : State) (x1 : Nat) (x2 : Nat × Nat) : (State.searchOne s x1 x2).tick = s.tick := by
  (unfold State.searchOne; dsimp only; (repeat' split) <;> simp; done)
@[simp] theorem State.setNavigation_tick (s : State) (x1 : List Sys2Proof.NavRecord) : (State.setNavigation s x1).tick = s.tick := by
  (unfold State.setNavigation; simp; done)
@[simp] theorem State.keepNav_tick (s : State) (x1 : Nat) (x2 : Sys2Proof.NavRecord) : (State.keepNav s x1 x2).tick = s.tick := by
  (unfold State.keepNav; simp; done)
theorem navigationUploadOp_tick (x0 : Sys2Proof.Octets) (s : State) {t : State} (h : navigationUploadOp x0 s = .ok t) : t.tick = s.tick := by
  (simp only [navigationUploadOp] at h; (repeat' split at h) <;> first | exact error_tick h | (refine (ok_tick h).trans ?_; simp; done) | (refine (ok_tick h).trans ?_; (repeat' split) <;> simp (disch := (intros; (repeat' split) <;> (try simp))); done))
@[simp] theorem State.towCheck_tick (s : State) (x1 : Sys2Proof.Machine.GnssChannel) (x2 : Int) : (State.towCheck s x1 x2).1.tick = s.tick := by
  (unfold State.towCheck; dsimp only; (repeat' split) <;> simp; done)
@[simp] theorem State.startLower_tick (s : State) (x1 : Nat) : (State.startLower s x1).tick = s.tick := by
  (unfold State.startLower; dsimp only; (repeat' split) <;> simp; done)
@[simp] theorem State.reacquire_tick (s : State) (x1 : Nat) : (State.reacquire s x1).tick = s.tick := by
  (unfold State.reacquire; dsimp only; (repeat' split) <;> simp; done)
@[simp] theorem State.channelStep_tick (s : State) (x1 : Nat) (x2 : Nat) : (State.channelStep s x1 x2).tick = s.tick := by
  (unfold State.channelStep; dsimp only; (repeat' split) <;> (first   | (simp; done)   | (simp (disch := (intros; (repeat' split) <;> (try simp))); done)   | (rename_i h; have hc := congrArg (fun p => p.1.tick) h; simp at hc; simp [← hc]; done)   | (rename_i h _; have hc := congrArg (fun p => p.1.tick) h; simp at hc; simp [← hc]; done)   | (rename_i h _ _; have hc := congrArg (fun p => p.1.tick) h; simp at hc; simp [← hc]; done)))
@[simp] theorem State.channelLoop_tick (s : State) (x1 : Nat) : (State.channelLoop s x1).tick = s.tick := by
  (unfold State.channelLoop; simp; done)
@[simp] theorem State.bankLoop_tick (s : State) (x1 : Nat) : (State.bankLoop s x1).tick = s.tick := by
  (unfold State.bankLoop; simp; done)
@[simp] theorem State.endSatellite_tick (s : State) (x1 : Nat) : (State.endSatellite s x1).tick = s.tick := by
  (unfold State.endSatellite; simp; done)
@[simp] theorem State.afterLatch_tick (s : State) (x1 : Sys2Proof.Machine.GnssMeas) : (State.afterLatch s x1).tick = s.tick := by
  (unfold State.afterLatch; simp; done)
@[simp] theorem State.latchChannels_tick (s : State) : (State.latchChannels s).tick = s.tick := by
  (unfold State.latchChannels; simp; done)
@[simp] theorem State.gnssExposure_tick (s : State) : (State.gnssExposure s).tick = s.tick := by
  (unfold State.gnssExposure; simp; done)

@[simp] theorem State.setMport_tick (s : State) (x1 : Nat) (x2 : Sys2Proof.Machine.MediaPort) : (State.setMport s x1 x2).tick = s.tick := by
  (unfold State.setMport; simp; done)
@[simp] theorem State.setMchannel_tick (s : State) (x1 : Nat) (x2 : Sys2Proof.Machine.MediaChannel) : (State.setMchannel s x1 x2).tick = s.tick := by
  (unfold State.setMchannel; simp; done)
theorem mediaWriteOp_tick (x0 : Nat) (x1 : Nat) (x2 : Int) (s : State) {t : State} (h : mediaWriteOp x0 x1 x2 s = .ok t) : t.tick = s.tick := by
  (simp only [mediaWriteOp] at h; (repeat' split at h) <;> first | exact error_tick h | (refine (ok_tick h).trans ?_; simp; done) | (refine (ok_tick h).trans ?_; (repeat' split) <;> simp (disch := (intros; (repeat' split) <;> (try simp))); done))
theorem channelWriteOp_tick (x0 : Nat) (x1 : Nat) (x2 : Int) (s : State) {t : State} (h : channelWriteOp x0 x1 x2 s = .ok t) : t.tick = s.tick := by
  (simp only [channelWriteOp] at h; (repeat' split at h) <;> first | exact error_tick h | (refine (ok_tick h).trans ?_; simp; done) | (refine (ok_tick h).trans ?_; (repeat' split) <;> simp (disch := (intros; (repeat' split) <;> (try simp))); done))
@[simp] theorem State.mediaStart_tick (s : State) (x1 : Nat) : (State.mediaStart s x1).tick = s.tick := by
  (unfold State.mediaStart; simp; done)
@[simp] theorem State.mediaSilence_tick (s : State) (x1 : Nat) : (State.mediaSilence s x1).tick = s.tick := by
  (unfold State.mediaSilence; simp; done)
@[simp] theorem State.mediaRefresh_tick (s : State) (x1 : Nat) : (State.mediaRefresh s x1).tick = s.tick := by
  (unfold State.mediaRefresh; simp; done)
@[simp] theorem State.regrid_tick (s : State) (x1 : Nat) : (State.regrid s x1).tick = s.tick := by
  (unfold State.regrid; simp; done)
@[simp] theorem State.applyMedia_tick (s : State) : (State.applyMedia s).tick = s.tick := by
  (unfold State.applyMedia; dsimp only; (repeat' split) <;> simp (disch := (intros; (repeat' split) <;> (try simp))); done)
@[simp] theorem State.switchGate_tick (s : State) (x1 : Nat) : (State.switchGate s x1).tick = s.tick := by
  (unfold State.switchGate; simp; done)
@[simp] theorem State.channelSample_tick (s : State) (x1 : Nat) (x2 : Nat) : (State.channelSample s x1 x2).1.tick = s.tick := by
  (unfold State.channelSample; dsimp only; (repeat' split) <;> simp; done)
@[simp] theorem State.mediaSlip_tick (s : State) (x1 : Nat) (x2 : Bool) : (State.mediaSlip s x1 x2).tick = s.tick := by
  (unfold State.mediaSlip; simp; done)
@[simp] theorem State.slipReport_tick (s : State) (x1 : Nat) : (State.slipReport s x1).tick = s.tick := by
  (unfold State.slipReport; simp; done)
@[simp] theorem State.mediaReel_tick (s : State) : (State.mediaReel s).tick = s.tick := by
  (unfold State.mediaReel; simp; done)
@[simp] theorem State.mediaReceive_tick (s : State) (x1 : Nat) (x2 : List Int) : (State.mediaReceive s x1 x2).tick = s.tick := by
  (unfold State.mediaReceive; simp; done)
@[simp] theorem State.mediaOffer_tick (s : State) (x1 : Nat) (x2 : List Int) : (State.mediaOffer s x1 x2).tick = s.tick := by
  (unfold State.mediaOffer; simp; done)
@[simp] theorem State.mediaTake_tick (s : State) (x1 : Nat) (x2 : Nat) : (State.mediaTake s x1 x2).tick = s.tick := by
  (unfold State.mediaTake; simp; done)
@[simp] theorem State.channelFrame_tick (s : State) (x1 : Nat) (x2 : Nat) : (State.channelFrame s x1 x2).1.tick = s.tick := by
  (unfold State.channelFrame; dsimp only; (repeat' split) <;> simp; done)
@[simp] theorem State.mediaProduce_tick (s : State) (x1 : Nat) (x2 : Nat) : (State.mediaProduce s x1 x2).tick = s.tick := by
  (unfold State.mediaProduce; simp; done)
@[simp] theorem State.mediaCatchUp_tick (s : State) (x1 : Nat) : (State.mediaCatchUp s x1).tick = s.tick := by
  (unfold State.mediaCatchUp; simp; done)
@[simp] theorem State.serialize_tick (s : State) (x1 : Nat) : (State.serialize s x1).tick = s.tick := by
  (unfold State.serialize; dsimp only; (repeat' split) <;> simp; done)
@[simp] theorem State.mediaLoopNow_tick (s : State) (x1 : Nat) : (State.mediaLoopNow s x1).tick = s.tick := by
  (unfold State.mediaLoopNow; simp; done)
@[simp] theorem State.mediaFrame_tick (s : State) (x1 : Nat) : (State.mediaFrame s x1).tick = s.tick := by
  (unfold State.mediaFrame; simp; done)
@[simp] theorem State.clockLoss_tick (s : State) (x1 : Nat) (x2 : Nat) : (State.clockLoss s x1 x2).tick = s.tick := by
  (unfold State.clockLoss; simp; done)
@[simp] theorem State.asrcEdge_tick (s : State) (x1 : Nat) (x2 : Nat) (x3 : Int) : (State.asrcEdge s x1 x2 x3).tick = s.tick := by
  (unfold State.asrcEdge; simp; done)
@[simp] theorem State.deliverMedia_tick (s : State) (x1 : Nat) (x2 : Nat) (x3 : Int) (x4 : Nat) (x5 : List Int) : (State.deliverMedia s x1 x2 x3 x4 x5).tick = s.tick := by
  (unfold State.deliverMedia; simp; done)
theorem channelEnableOp_tick (x0 : Nat) (s : State) {t : State} (h : channelEnableOp x0 s = .ok t) : t.tick = s.tick := by
  (simp only [channelEnableOp] at h; (repeat' split at h) <;> first | exact error_tick h | (refine (ok_tick h).trans ?_; simp; done) | (refine (ok_tick h).trans ?_; (repeat' split) <;> simp (disch := (intros; (repeat' split) <;> (try simp))); done))
theorem mediaLoopbackOp_tick (x0 : Nat) (x1 : Nat) (s : State) {t : State} (h : mediaLoopbackOp x0 x1 s = .ok t) : t.tick = s.tick := by
  (simp only [mediaLoopbackOp] at h; (repeat' split at h) <;> first | exact error_tick h | (refine (ok_tick h).trans ?_; simp; done) | (refine (ok_tick h).trans ?_; (repeat' split) <;> simp (disch := (intros; (repeat' split) <;> (try simp))); done))

@[simp] theorem State.excludeSatellite_tick (s : State) (x1 : Nat) (x2 : Nat) (x3 : Nat) (x4 : Nat) : (State.excludeSatellite s x1 x2 x3 x4).tick = s.tick := by
  (unfold State.excludeSatellite; simp; done)
theorem State.solveWith_tick (drop : State → SatObs → State) (p n : Nat) (s : State) (l : List SatObs)
    (hd : ∀ s o, (drop s o).tick = s.tick) : (State.solveWith drop p n s l).1.tick = s.tick := by
  induction n generalizing s l with
  | zero => rfl
  | succ n ih =>
    unfold State.solveWith
    (repeat' split) <;> first | rfl | rw [ih, hd]
@[simp] theorem State.solve_tick (s : State) (x1 : Nat) : (State.solve s x1).1.tick = s.tick := by
  unfold State.solve
  extract_lets l
  split
  · rfl
  · exact State.solveWith_tick _ _ _ _ _ fun s o => State.excludeSatellite_tick _ _ _ _ _
@[simp] theorem State.satelliteTests_tick (s : State) (x1 : Nat) : (State.satelliteTests s x1).1.tick = s.tick := by
  unfold State.satelliteTests
  refine foldl_tick_fst _ _ _ fun p a => foldl_tick_fst _ _ _ fun p b => ?_
  split
  · exact State.excludeSatellite_tick _ _ _ _ _
  · rfl
@[simp] theorem State.solutionState_tick (s : State) (x1 : Nat) (x2 : Nat) (x3 : Nat) : (State.solutionState s x1 x2 x3).tick = s.tick := by
  (unfold State.solutionState; simp; done)
@[simp] theorem State.excludePort_tick (s : State) (x1 : Nat) (x2 : List (Nat × Nat)) : (State.excludePort s x1 x2).tick = s.tick := by
  (unfold State.excludePort; dsimp only; (repeat' split) <;> simp; done)
@[simp] theorem State.clearPort_tick (s : State) (x1 : Nat) : (State.clearPort s x1).tick = s.tick := by
  (unfold State.clearPort; simp; done)
@[simp] theorem State.deliverSolution_tick (s : State) (x1 : Nat) (x2 : Int) (x3 : Nat) (x4 : Nat) : (State.deliverSolution s x1 x2 x3 x4).tick = s.tick := by
  (unfold State.deliverSolution; simp; done)
@[simp] theorem State.reportSolution_tick (s : State) (x1 : Nat) (x2 : Int) (x3 : Nat) (x4 : Nat) (x5 : Sys2Proof.Fit) (x6 : List Sys2Proof.SatObs) : (State.reportSolution s x1 x2 x3 x4 x5 x6).tick = s.tick := by
  (unfold State.reportSolution; simp; done)
@[simp] theorem State.noSolution_tick (s : State) (x1 : Nat) : (State.noSolution s x1).tick = s.tick := by
  (unfold State.noSolution; simp; done)
@[simp] theorem State.surveyPoint_tick (s : State) (x1 : Nat) (x2 : Sys2Proof.Fit) : (State.surveyPoint s x1 x2).tick = s.tick := by
  (unfold State.surveyPoint; simp; done)
@[simp] theorem State.checkSolution_tick (s : State) (x1 : Nat) (x2 : Sys2Proof.Fit) (x3 : List Sys2Proof.SatObs) (x4 : Nat) (x5 : Nat) : (State.checkSolution s x1 x2 x3 x4 x5).tick = s.tick := by
  unfold State.checkSolution
  extract_lets x tests bound q q1 s2 s3 n src s4
  have h2 : s2.tick = s.tick := by simp only [s2, State.reportSolution_tick, State.setGnssPort_tick]
  have h3 : s3.tick = s.tick := by simp only [s3, State.excludePort_tick, h2]
  have h4 : s4.tick = s.tick := by simp only [s4, State.setGnssPort_tick, h2]
  clear_value s4 s3 src s2 tests bound x
  (repeat' split) <;> simp [h2, h3, h4]
@[simp] theorem State.portSolution_tick (s : State) (x1 : Nat) : (State.portSolution s x1).tick = s.tick := by
  unfold State.portSolution
  extract_lets first tests again
  have h1 : first.1.tick = s.tick := by simp only [first, State.solve_tick]
  have h2 : tests.1.tick = s.tick := by simp only [tests, State.satelliteTests_tick, h1]
  clear_value first tests
  have h3 : again.1.tick = s.tick := by
    simp only [again]
    split
    · exact h2
    · simp only [State.solve_tick, h2]
  clear_value again
  split <;> simp only [State.noSolution_tick, State.checkSolution_tick, h3]
theorem clearExclusionOp_tick (x0 : Nat) (s : State) {t : State} (h : clearExclusionOp x0 s = .ok t) : t.tick = s.tick := by
  (simp only [clearExclusionOp] at h; (repeat' split at h) <;> first | exact error_tick h | (refine (ok_tick h).trans ?_; simp; done) | (refine (ok_tick h).trans ?_; (repeat' split) <;> simp (disch := (intros; (repeat' split) <;> (try simp))); done))
@[simp] theorem State.surveyComplete_tick (s : State) (x1 : Nat) : (State.surveyComplete s x1).tick = s.tick := by
  (unfold State.surveyComplete; simp; done)
theorem snapshotOp_tick (fits : State → Bool) (f : State → State) (s : State) {t : State} (hf : ∀ u, (f u).tick = u.tick)
    (h : snapshotOp fits f s = .ok t) : t.tick = s.tick := by
  unfold snapshotOp at h
  split at h
  · cases h
  · split at h
    · injection h with h
      rw [← h, hf]
    · cases h
theorem snapshotArmOp_tick (s : State) {t : State} (h : snapshotArmOp s = .ok t) : t.tick = s.tick := by
  exact snapshotOp_tick _ _ s (fun u => State.armFilm_tick _ _ _ _) h
theorem snapshotCancelOp_tick (s : State) {t : State} (h : snapshotCancelOp s = .ok t) : t.tick = s.tick := by
  exact snapshotOp_tick _ _ s (fun u => by simp only [State.tick_mk, State.tick_fold]) h
theorem snapshotProcessOp_tick (s : State) {t : State} (h : snapshotProcessOp s = .ok t) : t.tick = s.tick := by
  exact snapshotOp_tick _ _ s (fun u => by simp only [State.tick_mk, State.tick_fold]) h
theorem snapshotReleaseOp_tick (s : State) {t : State} (h : snapshotReleaseOp s = .ok t) : t.tick = s.tick := by
  exact snapshotOp_tick _ _ s (fun u => by simp only [State.tick_mk, State.tick_fold]) h
@[simp] theorem State.startSnapshot_tick (s : State) : (State.startSnapshot s).tick = s.tick := by
  (unfold State.startSnapshot; dsimp only; (repeat' split) <;> simp; done)
@[simp] theorem State.trackReel_tick (s : State) : (State.trackReel s).tick = s.tick := by
  (unfold State.trackReel; dsimp only; (repeat' split) <;> simp; done)
@[simp] theorem State.enterTrack_tick (s : State) (x1 : Sys2Proof.Octets) : (State.enterTrack s x1).1.tick = s.tick := by
  (unfold State.enterTrack; dsimp only; (repeat' split) <;> simp; done)
theorem trackReleaseOp_tick (x0 : Nat) (s : State) {t : State} (h : trackReleaseOp x0 s = .ok t) : t.tick = s.tick := by
  (simp only [trackReleaseOp] at h; (repeat' split at h) <;> first | exact error_tick h | (refine (ok_tick h).trans ?_; simp; done) | (refine (ok_tick h).trans ?_; (repeat' split) <;> simp (disch := (intros; (repeat' split) <;> (try simp))); done))
@[simp] theorem State.surveyReel_tick (s : State) (x1 : Nat) : (State.surveyReel s x1).tick = s.tick := by
  (unfold State.surveyReel; simp; done)
@[simp] theorem State.gnssReel_tick (s : State) (x1 : List Sys2Proof.SpectralLine) : (State.gnssReel s x1).tick = s.tick := by
  (unfold State.gnssReel; simp; done)

@[simp] theorem State.setComp_tick (s : State) (x1 : Nat) (x2 : Sys2Proof.Machine.Compare) : (State.setComp s x1 x2).tick = s.tick := by
  (unfold State.setComp; simp; done)
@[simp] theorem State.advanceTarget_tick (s : State) (x1 : Nat) (x2 : Nat) : (State.advanceTarget s x1 x2).tick = s.tick := by
  (unfold State.advanceTarget; simp; done)
@[simp] theorem State.takeBack_tick (s : State) (x1 : Nat) : (State.takeBack s x1).tick = s.tick := by
  unfold State.takeBack
  rw [State.setObj_tick, State.bumpBy_tick]
@[simp] theorem State.ppsEdge_tick (s : State) (x1 : Nat) (x2 : Nat) (x3 : Nat) : (State.ppsEdge s x1 x2 x3).tick = s.tick := by
  (unfold State.ppsEdge; simp; done)
@[simp] theorem State.compareAction_tick (s : State) (x1 : Nat) (x2 : Nat) : (State.compareAction s x1 x2).tick = s.tick := by
  (unfold State.compareAction; dsimp only; (repeat' split) <;> simp; done)
@[simp] theorem State.fireUnit_tick (s : State) (x1 : Nat) (x2 : Bool) : (State.fireUnit s x1 x2).tick = s.tick := by
  (unfold State.fireUnit; simp; done)
@[simp] theorem State.settleUnit_tick (s : State) (x1 : Nat) (x2 : Bool) : (State.settleUnit s x1 x2).tick = s.tick := by
  (unfold State.settleUnit; simp; done)
@[simp] theorem State.firePassed_tick (s : State) (x1 : Nat) : (State.firePassed s x1).tick = s.tick := by
  (unfold State.firePassed; simp; done)
theorem armOp_tick (x0 : Nat) (s : State) {t : State} (h : armOp x0 s = .ok t) : t.tick = s.tick := by
  (simp only [armOp] at h; (repeat' split at h) <;> first | exact error_tick h | (refine (ok_tick h).trans ?_; simp; done) | (refine (ok_tick h).trans ?_; (repeat' split) <;> simp (disch := (intros; (repeat' split) <;> (try simp))); done))
theorem disarmOp_tick (x0 : Nat) (s : State) {t : State} (h : disarmOp x0 s = .ok t) : t.tick = s.tick := by
  (simp only [disarmOp] at h; (repeat' split at h) <;> first | exact error_tick h | (refine (ok_tick h).trans ?_; simp; done) | (refine (ok_tick h).trans ?_; (repeat' split) <;> simp (disch := (intros; (repeat' split) <;> (try simp))); done))
@[simp] theorem State.compareBoundary_tick (x0 : List Nat) (s : State) (x2 : Nat) : (State.compareBoundary x0 s x2).tick = s.tick := by
  (unfold State.compareBoundary; simp; done)
@[simp] theorem State.reconvert_tick (s : State) : (State.reconvert s).tick = s.tick := by
  (unfold State.reconvert; simp; done)
theorem leapWriteOp_tick (x0 : Nat) (x1 : Nat) (x2 : Int) (s : State) {t : State} (h : leapWriteOp x0 x1 x2 s = .ok t) : t.tick = s.tick := by
  unfold leapWriteOp at h
  extract_lets st owned n0 at h
  (repeat' split at h) <;> first
    | exact error_tick h
    | exact (ok_tick h).trans (by simp only [State.reconvert_tick, State.takeEffect_tick, State.tick_mk, State.tick_fold])
@[simp] theorem State.leapOnce_tick (s : State) : (State.leapOnce s).tick = s.tick := by
  (unfold State.leapOnce; dsimp only; (repeat' split) <;> simp; done)
@[simp] theorem State.leapReel_tick (s : State) : (State.leapReel s).tick = s.tick := by
  (unfold State.leapReel; dsimp only; (repeat' split) <;> simp; done)
theorem clearFlagsOp_tick (x0 : Nat) (x1 : Nat) (s : State) {t : State} (h : clearFlagsOp x0 x1 s = .ok t) : t.tick = s.tick := by
  (simp only [clearFlagsOp] at h; (repeat' split at h) <;> first | exact error_tick h | (refine (ok_tick h).trans ?_; simp; done) | (refine (ok_tick h).trans ?_; (repeat' split) <;> simp (disch := (intros; (repeat' split) <;> (try simp))); done))

@[simp] theorem State.setLink_tick (s : State) (x1 : Nat) (x2 : Nat) : (State.setLink s x1 x2).tick = s.tick := by
  (unfold State.setLink; simp; done)
@[simp] theorem State.seekLink_tick (s : State) (x1 : Nat) : (State.seekLink s x1).tick = s.tick := by
  (unfold State.seekLink; simp; done)
@[simp] theorem State.startHold_tick (s : State) (x1 : Nat) : (State.startHold s x1).tick = s.tick := by
  (unfold State.startHold; simp; done)
@[simp] theorem State.restartPositions_tick (s : State) (x1 : Nat) : (State.restartPositions s x1).tick = s.tick := by
  (unfold State.restartPositions; simp; done)
@[simp] theorem State.loseSyncE_tick (s : State) (x1 : Nat) : (State.loseSyncE s x1).tick = s.tick := by
  (unfold State.loseSyncE; simp; done)
@[simp] theorem State.declareDown_tick (s : State) (x1 : Nat) (x2 : Nat) : (State.declareDown s x1 x2).tick = s.tick := by
  (unfold State.declareDown; simp; done)
@[simp] theorem State.debounce_tick (s : State) (x1 : Nat) : (State.debounce s x1).tick = s.tick := by
  (unfold State.debounce; simp; done)
@[simp] theorem State.negotiate_tick (s : State) (x1 : Nat) : (State.negotiate s x1).tick = s.tick := by
  (unfold State.negotiate; simp; done)
@[simp] theorem State.checkWake_tick (s : State) (x1 : Nat) : (State.checkWake s x1).tick = s.tick := by
  (unfold State.checkWake; simp; done)
@[simp] theorem State.negotiationFailed_tick (s : State) (x1 : Nat) : (State.negotiationFailed s x1).tick = s.tick := by
  (unfold State.negotiationFailed; simp; done)
@[simp] theorem State.endHold_tick (s : State) (x1 : Nat) : (State.endHold s x1).tick = s.tick := by
  (unfold State.endHold; simp; done)
@[simp] theorem State.portsReel_tick (s : State) : (State.portsReel s).tick = s.tick := by
  (unfold State.portsReel; simp; done)
theorem loopbackOp_tick (x0 : Nat) (x1 : Nat) (s : State) {t : State} (h : loopbackOp x0 x1 s = .ok t) : t.tick = s.tick := by
  (simp only [loopbackOp] at h; (repeat' split at h) <;> first | exact error_tick h | (refine (ok_tick h).trans ?_; simp; done) | (refine (ok_tick h).trans ?_; (repeat' split) <;> simp (disch := (intros; (repeat' split) <;> (try simp))); done))
@[simp] theorem State.applyLoop_tick (s : State) (x1 : Nat) : (State.applyLoop s x1).tick = s.tick := by
  unfold State.applyLoop
  split
  · rfl
  · rename_i v _
    extract_lets old
    have hu : (if old = 1 ∧ v ≠ 1 then s.drawNat else (0, s)).2.tick = s.tick := by
      split
      · exact State.drawNat_tick s
      · rfl
    generalize (if old = 1 ∧ v ≠ 1 then s.drawNat else (0, s)) = p at hu
    obtain ⟨e, u⟩ := p
    dsimp only at hu ⊢
    split
    · simp [hu]
    · split
      · rw [State.testEvent_tick, foldl_tick _ _ _ (fun s k => by simp), State.setObj_tick, State.setPort_tick, hu]
      · simp [hu]
@[simp] theorem State.applyLane_tick (s : State) (x1 : Nat) : (State.applyLane s x1).tick = s.tick := by
  (unfold State.applyLane; dsimp only; (repeat' split) <;> simp; done)
@[simp] theorem State.relayLane_tick (s : State) (x1 : Nat) : (State.relayLane s x1).tick = s.tick := by
  (unfold State.relayLane; simp; done)
@[simp] theorem State.applyPortSet_tick (s : State) (x1 : Nat) : (State.applyPortSet s x1).tick = s.tick := by
  (unfold State.applyPortSet; simp; done)
theorem laneWriteOp_tick (x0 : Nat) (x1 : Nat) (x2 : Int) (s : State) {t : State} (h : laneWriteOp x0 x1 x2 s = .ok t) : t.tick = s.tick := by
  unfold laneWriteOp at h
  extract_lets k at h
  split at h
  · exact (ok_tick h).trans (by simp)
  · split at h
    · exact error_tick h
    · split at h
      · exact loopbackOp_tick _ _ _ h
      · split at h
        · exact error_tick h
        · exact (ok_tick h).trans (by simp)
theorem patternWriteOp_tick (x0 : Nat) (x1 : Int) (s : State) {t : State} (h : patternWriteOp x0 x1 s = .ok t) : t.tick = s.tick := by
  (simp only [patternWriteOp] at h; (repeat' split at h) <;> first | exact error_tick h | (refine (ok_tick h).trans ?_; simp; done) | (refine (ok_tick h).trans ?_; (repeat' split) <;> simp (disch := (intros; (repeat' split) <;> (try simp))); done))
theorem macWriteOp_tick (x0 : Nat) (x1 : Int) (s : State) {t : State} (h : macWriteOp x0 x1 s = .ok t) : t.tick = s.tick := by
  (simp only [macWriteOp] at h; (repeat' split at h) <;> first | exact error_tick h | (refine (ok_tick h).trans ?_; simp; done) | (refine (ok_tick h).trans ?_; (repeat' split) <;> simp (disch := (intros; (repeat' split) <;> (try simp))); done))
@[simp] theorem State.consumeTx_tick (s : State) : (State.consumeTx s).tick = s.tick := by
  (unfold State.consumeTx; simp; done)
theorem txReleaseOp_tick (x0 : Nat) (x1 : Nat) (s : State) {t : State} (h : txReleaseOp x0 x1 s = .ok t) : t.tick = s.tick := by
  (simp only [txReleaseOp] at h; (repeat' split at h) <;> first | exact error_tick h | (refine (ok_tick h).trans ?_; simp; done) | (refine (ok_tick h).trans ?_; (repeat' split) <;> simp (disch := (intros; (repeat' split) <;> (try simp))); done))
@[simp] theorem State.wakeGroup_tick (s : State) (x1 : Nat) : (State.wakeGroup s x1).tick = s.tick := by
  (unfold State.wakeGroup; simp; done)
@[simp] theorem State.wakePatterns_tick (s : State) (x1 : Nat) (x2 : Sys2Proof.Octets) : (State.wakePatterns s x1 x2).tick = s.tick := by
  (unfold State.wakePatterns; simp; done)

@[simp] theorem State.dpllLoop_tick (s : State) (x1 : Nat) (x2 : Nat) (x3 : Int) : (State.dpllLoop s x1 x2 x3).tick = s.tick := by
  (unfold State.dpllLoop; simp; done)
@[simp] theorem State.dpllCommitted_tick (s : State) (x1 : Nat) : (State.dpllCommitted s x1).tick = s.tick := by
  (unfold State.dpllCommitted; simp; done)
@[simp] theorem State.opllSleep_tick (s : State) (x1 : Nat) : (State.opllSleep s x1).tick = s.tick := by
  (unfold State.opllSleep; simp; done)
@[simp] theorem State.opllSafePoint_tick (s : State) (x1 : Nat) (x2 : Bool) (x3 : Bool) : (State.opllSafePoint s x1 x2 x3).tick = s.tick := by
  (unfold State.opllSafePoint; dsimp only; (repeat' split) <;> simp; done)
@[simp] theorem State.rampUpdate_tick (s : State) : (State.rampUpdate s).tick = s.tick := by
  (unfold State.rampUpdate; dsimp only; (repeat' split) <;> simp (disch := (intros; (repeat' split) <;> (try simp))); done)
@[simp] theorem State.align_tick (s : State) (x1 : Nat) (x2 : Int) (x3 : Int) : (State.align s x1 x2 x3).tick = s.tick := by
  (unfold State.align; simp; done)
@[simp] theorem State.noteRecipe_tick (s : State) (x1 : Nat) (x2 : Nat) (x3 : Sys2Proof.BandResult) : (State.noteRecipe s x1 x2 x3).tick = s.tick := by
  (unfold State.noteRecipe; dsimp only; (repeat' split) <;> simp; done)
theorem outputRegistrationOp_tick (x0 : Nat) (x1 : Nat) (s : State) {t : State} (h : outputRegistrationOp x0 x1 s = .ok t) : t.tick = s.tick := by
  (simp only [outputRegistrationOp] at h; (repeat' split at h) <;> first | exact error_tick h | (refine (ok_tick h).trans ?_; simp; done) | (refine (ok_tick h).trans ?_; (repeat' split) <;> simp (disch := (intros; (repeat' split) <;> (try simp))); done))
theorem State.edgeErrors_tick (s : State) (c : Nat) : (s.edgeErrors c).2.tick = s.tick := by
  unfold State.edgeErrors
  split
  · rfl
  · exact (State.drawInt_tick _).trans (State.drawInt_tick _)
@[simp] theorem State.registerChannel_tick (s : State) (x1 : Nat) : (State.registerChannel s x1).tick = s.tick := by
  unfold State.registerChannel
  split
  · rfl
  · have h := State.edgeErrors_tick s x1
    generalize s.edgeErrors x1 = p at h
    obtain ⟨⟨a, b⟩, t⟩ := p
    dsimp only at h ⊢
    simp [h]
@[simp] theorem State.channelPower_tick (s : State) (x1 : Nat) (x2 : Bool) : (State.channelPower s x1 x2).tick = s.tick := by
  (unfold State.channelPower; simp; done)
@[simp] theorem State.channelSafePoint_tick (s : State) (x1 : Nat) : (State.channelSafePoint s x1).tick = s.tick := by
  (unfold State.channelSafePoint; simp; done)
@[simp] theorem State.followTemperature_tick (s : State) (x1 : Nat) : (State.followTemperature s x1).tick = s.tick := by
  (unfold State.followTemperature; dsimp only; apply foldl_tick; intros; (repeat' split) <;> first | (simp; done) | rfl | (simp (disch := (intros; (repeat' split) <;> (try simp))); done))
@[simp] theorem State.checkChannel_tick (s : State) (x1 : Nat) (x2 : Int) (x3 : Int) : (State.checkChannel s x1 x2 x3).tick = s.tick := by
  (unfold State.checkChannel; simp; done)
@[simp] theorem State.misalign_tick (s : State) (x1 : Nat) : (State.misalign s x1).tick = s.tick := by
  (unfold State.misalign; simp; done)
theorem invalidateRecipesOp_tick (x0 : Nat) (s : State) {t : State} (h : invalidateRecipesOp x0 s = .ok t) : t.tick = s.tick := by
  (simp only [invalidateRecipesOp] at h; (repeat' split at h) <;> first | exact error_tick h | (refine (ok_tick h).trans ?_; simp; done) | (refine (ok_tick h).trans ?_; (repeat' split) <;> simp (disch := (intros; (repeat' split) <;> (try simp))); done))
@[simp] theorem State.dpllTakes_tick (s : State) (x1 : Nat) : (State.dpllTakes s x1).tick = s.tick := by
  (unfold State.dpllTakes; simp; done)
@[simp] theorem State.dpllApplied_tick (s : State) (x1 : Nat) (x2 : Bool) : (State.dpllApplied s x1 x2).tick = s.tick := by
  (unfold State.dpllApplied; simp; done)

@[simp] theorem State.missUpdate_tick (s : State) : (State.missUpdate s).tick = s.tick := by
  (unfold State.missUpdate; simp; done)
@[simp] theorem State.setReg_tick (s : State) (x1 : Nat) (x2 : Nat) : (State.setReg s x1 x2).tick = s.tick := by
  (unfold State.setReg; simp; done)
theorem registrationStepOp_tick (s : State) {t : State} (h : registrationStepOp s = .ok t) : t.tick = s.tick := by
  (simp only [registrationStepOp] at h; (repeat' split at h) <;> first | exact error_tick h | (refine (ok_tick h).trans ?_; simp; done) | (refine (ok_tick h).trans ?_; (repeat' split) <;> simp (disch := (intros; (repeat' split) <;> (try simp))); done))
theorem slowSlewOp_tick (s : State) {t : State} (h : slowSlewOp s = .ok t) : t.tick = s.tick := by
  (simp only [slowSlewOp] at h; (repeat' split at h) <;> first | exact error_tick h | (refine (ok_tick h).trans ?_; simp; done) | (refine (ok_tick h).trans ?_; (repeat' split) <;> simp (disch := (intros; (repeat' split) <;> (try simp))); done))
theorem registrationCancelOp_tick (s : State) {t : State} (h : registrationCancelOp s = .ok t) : t.tick = s.tick := by
  (simp only [registrationCancelOp] at h; (repeat' split at h) <;> first | exact error_tick h | (refine (ok_tick h).trans ?_; simp; done) | (refine (ok_tick h).trans ?_; (repeat' split) <;> simp (disch := (intros; (repeat' split) <;> (try simp))); done))
@[simp] theorem State.shiftLoupes_tick (s : State) (x1 : Int) : (State.shiftLoupes s x1).tick = s.tick := by
  (unfold State.shiftLoupes; simp; done)
@[simp] theorem State.markGated_tick (s : State) : (State.markGated s).tick = s.tick := by
  (unfold State.markGated; simp; done)
@[simp] theorem State.startGate0_tick (s : State) : (State.startGate0 s).tick = s.tick := by
  (unfold State.startGate0; simp; done)
@[simp] theorem State.holdAll_tick (s : State) : (State.holdAll s).tick = s.tick := by
  (unfold State.holdAll; simp; done)
@[simp] theorem State.endGate0_tick (s : State) : (State.endGate0 s).tick = s.tick := by
  (unfold State.endGate0; dsimp only; (repeat' split) <;> simp; done)
@[simp] theorem State.applySteered_tick (s : State) (x1 : Nat) : (State.applySteered s x1).tick = s.tick := by
  (unfold State.applySteered; simp; done)
@[simp] theorem State.closeGateGap_tick (s : State) : (State.closeGateGap s).tick = s.tick := by
  (unfold State.closeGateGap; simp; done)

@[simp] theorem planDownloadOp_tick (x0 : Sys2Proof.Octets) (s : State) : (planDownloadOp x0 s).1.tick = s.tick := by
  (unfold planDownloadOp; dsimp only; (repeat' split) <;> simp; done)
@[simp] theorem State.finishCheck_tick (s : State) : (State.finishCheck s).tick = s.tick := by
  (unfold State.finishCheck; dsimp only; (repeat' split) <;> simp; done)
theorem swapRequestOp_tick (x0 : Nat) (s : State) {t : State} (h : swapRequestOp x0 s = .ok t) : t.tick = s.tick := by
  (simp only [swapRequestOp] at h; (repeat' split at h) <;> first | exact error_tick h | (refine (ok_tick h).trans ?_; simp; done) | (refine (ok_tick h).trans ?_; (repeat' split) <;> simp (disch := (intros; (repeat' split) <;> (try simp))); done))
theorem cancelSwapOp_tick (x0 : Nat) (s : State) {t : State} (h : cancelSwapOp x0 s = .ok t) : t.tick = s.tick := by
  (simp only [cancelSwapOp] at h; (repeat' split at h) <;> first | exact error_tick h | (refine (ok_tick h).trans ?_; simp; done) | (refine (ok_tick h).trans ?_; (repeat' split) <;> simp (disch := (intros; (repeat' split) <;> (try simp))); done))
@[simp] theorem State.wakeNow_tick (s : State) (x1 : Nat) (x2 : Nat) : (State.wakeNow s x1 x2).tick = s.tick := by
  (unfold State.wakeNow; simp; done)
@[simp] theorem State.sleepDomain_tick (s : State) (x1 : Nat) (x2 : Nat) : (State.sleepDomain s x1 x2).tick = s.tick := by
  (unfold State.sleepDomain; simp; done)
@[simp] theorem State.sleepLanes_tick (s : State) (x1 : Nat) (x2 : Bool) : (State.sleepLanes s x1 x2).tick = s.tick := by
  (unfold State.sleepLanes; simp; done)
@[simp] theorem State.sleepNow_tick (s : State) (x1 : Nat) (x2 : Nat) (x3 : Bool) : (State.sleepNow s x1 x2 x3).tick = s.tick := by
  (unfold State.sleepNow; simp; done)
@[simp] theorem State.setShedding_tick (s : State) (x1 : Bool) : (State.setShedding s x1).tick = s.tick := by
  (unfold State.setShedding; simp; done)

theorem roleSwapOp_tick (s : State) {t : State} (h : roleSwapOp s = .ok t) : t.tick = s.tick := by
  (simp only [roleSwapOp] at h; (repeat' split at h) <;> first | exact error_tick h | (refine (ok_tick h).trans ?_; simp; done) | (refine (ok_tick h).trans ?_; (repeat' split) <;> simp (disch := (intros; (repeat' split) <;> (try simp))); done))
theorem standbyToProofOp_tick (s : State) {t : State} (h : standbyToProofOp s = .ok t) : t.tick = s.tick := by
  (simp only [standbyToProofOp] at h; (repeat' split at h) <;> first | exact error_tick h | (refine (ok_tick h).trans ?_; simp; done) | (refine (ok_tick h).trans ?_; (repeat' split) <;> simp (disch := (intros; (repeat' split) <;> (try simp))); done))
@[simp] theorem State.swapRoles_tick (s : State) (x1 : Nat) : (State.swapRoles s x1).tick = s.tick := by
  (unfold State.swapRoles; simp; done)
@[simp] theorem State.enterProof_tick (s : State) (x1 : Nat) (x2 : Nat) : (State.enterProof s x1 x2).tick = s.tick := by
  (unfold State.enterProof; simp; done)
@[simp] theorem State.clearRecipes_tick (s : State) (x1 : Nat) : (State.clearRecipes s x1).tick = s.tick := by
  (unfold State.clearRecipes; simp; done)
@[simp] theorem State.holdPlate_tick (s : State) (x1 : Nat) : (State.holdPlate s x1).tick = s.tick := by
  (unfold State.holdPlate; simp; done)
@[simp] theorem State.plateExposure_tick (s : State) : (State.plateExposure s).tick = s.tick := by
  (unfold State.plateExposure; dsimp only; (repeat' split) <;> simp; done)
@[simp] theorem State.proofsDone_tick (s : State) : (State.proofsDone s).tick = s.tick := by
  (unfold State.proofsDone; simp; done)
@[simp] theorem State.endProof_tick (s : State) (x1 : Nat) (x2 : Bool) (x3 : Nat) (x4 : Nat) : (State.endProof s x1 x2 x3 x4).tick = s.tick := by
  (unfold State.endProof; simp; done)
@[simp] theorem State.remaskPlate_tick (s : State) (x1 : Nat) : (State.remaskPlate s x1).tick = s.tick := by
  (unfold State.remaskPlate; dsimp only; apply foldl_tick; intros; (repeat' split) <;> first | (simp; done) | rfl | (simp (disch := (intros; (repeat' split) <;> (try simp))); done))
@[simp] theorem State.refreshSheet_tick (s : State) : (State.refreshSheet s).tick = s.tick := by
  (unfold State.refreshSheet; simp; done)
@[simp] theorem State.noteReadings_tick (s : State) (x1 : Nat) : (State.noteReadings s x1).tick = s.tick := by
  (unfold State.noteReadings; simp; done)

end Sys2Proof.Machine
end

