-- ==== Sys2Proof/Laws/TickHost.lean ====
section
/-! SUPPORT. The clock and the queue are untouched by faults, references, start-up and key commands: one lemma a function. -/

namespace Sys2Proof.Machine

set_option linter.all false
@[simp] theorem State.loseFrame_tick (s : State) : (State.loseFrame s).tick = s.tick := by
  unfold State.loseFrame
  have hu := State.drawNat_tick (s.bump 0x2800 9)
  generalize (s.bump 0x2800 9).drawNat = p at hu
  obtain ⟨v, u⟩ := p
  simpa using hu
@[simp] theorem State.containedActions_tick (s : State) : (State.containedActions s).tick = s.tick := by
  (unfold State.containedActions; simp; done)
@[simp] theorem State.holdLines_tick (s : State) : (State.holdLines s).tick = s.tick := by
  (unfold State.holdLines; simp; done)
@[simp] theorem State.enterEvent_tick (s : State) (x1 : Sys2Proof.Machine.SheetEvent) : (State.enterEvent s x1).tick = s.tick := by
  (unfold State.enterEvent; simp; done)
@[simp] theorem State.enterSheet_tick (s : State) : (State.enterSheet s).tick = s.tick := by
  (unfold State.enterSheet; simp; done)
@[simp] theorem State.storeWrite_tick (s : State) : (State.storeWrite s).tick = s.tick := by
  (unfold State.storeWrite; simp; done)
theorem contactClearOp_tick (x0 : Nat) (s : State) {t : State} (h : contactClearOp x0 s = .ok t) : t.tick = s.tick := by
  (simp only [contactClearOp] at h; (repeat' split at h) <;> first | exact error_tick h | (refine (ok_tick h).trans ?_; simp; done) | (refine (ok_tick h).trans ?_; (repeat' split) <;> simp (disch := (intros; (repeat' split) <;> (try simp))); done))
theorem statusClearOp_tick (x0 : Nat) (x1 : Nat) (s : State) {t : State} (h : statusClearOp x0 x1 s = .ok t) : t.tick = s.tick := by
  (simp only [statusClearOp] at h; (repeat' split at h) <;> first | exact error_tick h | (refine (ok_tick h).trans ?_; simp; done) | (refine (ok_tick h).trans ?_; (repeat' split) <;> simp (disch := (intros; (repeat' split) <;> (try simp))); done))
@[simp] theorem State.endHoldOf_tick (s : State) (x1 : Bool) (x2 : Nat) (x3 : Sys2Proof.Machine.Source) : (State.endHoldOf s x1 x2 x3).tick = s.tick := by
  (unfold State.endHoldOf; simp; done)
theorem clearAddressOp_tick (x0 : Nat) (s : State) {t : State} (h : clearAddressOp x0 s = .ok t) : t.tick = s.tick := by
  (simp only [clearAddressOp] at h; (repeat' split at h) <;> first | exact error_tick h | (refine (ok_tick h).trans ?_; simp; done) | (refine (ok_tick h).trans ?_; (repeat' split) <;> simp (disch := (intros; (repeat' split) <;> (try simp))); done))
theorem clearLanesOp_tick (x0 : Nat) (s : State) {t : State} (h : clearLanesOp x0 s = .ok t) : t.tick = s.tick := by
  (simp only [clearLanesOp] at h; (repeat' split at h) <;> first | exact error_tick h | (refine (ok_tick h).trans ?_; simp; done) | (refine (ok_tick h).trans ?_; (repeat' split) <;> simp (disch := (intros; (repeat' split) <;> (try simp))); done))
theorem injectOp_tick (x0 : Nat) (s : State) {t : State} (h : injectOp x0 s = .ok t) : t.tick = s.tick := by
  (simp only [injectOp] at h; (repeat' split at h) <;> first | exact error_tick h | (refine (ok_tick h).trans ?_; simp; done) | (refine (ok_tick h).trans ?_; (repeat' split) <;> simp (disch := (intros; (repeat' split) <;> (try simp))); done))
@[simp] theorem State.monitorFault_tick (s : State) (x1 : Option Nat) (x2 : Nat) (x3 : Nat) : (State.monitorFault s x1 x2 x3).tick = s.tick := by
  (unfold State.monitorFault; (repeat' split) <;> first | (simp; done) | rfl)
@[simp] theorem State.takeTemps_tick (s : State) (x1 : List Int) : (State.takeTemps s x1).tick = s.tick := by
  (unfold State.takeTemps; simp; done)
@[simp] theorem State.warnTemps_tick (s : State) : (State.warnTemps s).tick = s.tick := by
  (unfold State.warnTemps; simp; done)
@[simp] theorem State.sensorReel_tick (s : State) : (State.sensorReel s).tick = s.tick := by
  (unfold State.sensorReel; simp; done)
@[simp] theorem State.takeVolt_tick (s : State) (x1 : Nat) (x2 : Nat) : (State.takeVolt s x1 x2).tick = s.tick := by
  (unfold State.takeVolt; simp; done)
@[simp] theorem State.takeProcs_tick (s : State) (x1 : List Nat) : (State.takeProcs s x1).tick = s.tick := by
  (unfold State.takeProcs; simp; done)
@[simp] theorem State.takeReadings_tick (s : State) (x1 : Sys2Proof.Readings) : (State.takeReadings s x1).tick = s.tick := by
  (unfold State.takeReadings; dsimp only; (repeat' split) <;> simp; done)
@[simp] theorem State.shedExposure_tick (s : State) : (State.shedExposure s).tick = s.tick := by
  (unfold State.shedExposure; simp; done)

@[simp] theorem State.storeKey_tick (s : State) (x1 : Nat) : (State.storeKey s x1).tick = s.tick := by
  (unfold State.storeKey; simp; done)
@[simp] theorem State.storeRoot_tick (s : State) : (State.storeRoot s).tick = s.tick := by
  unfold State.storeRoot
  split
  · rfl
  · have hu := State.drawMask_tick s
    generalize s.drawMask = p at hu
    obtain ⟨m, u⟩ := p
    simpa using hu
@[simp] theorem State.writeSection_tick (s : State) (x1 : Nat) : (State.writeSection s x1).tick = s.tick := by
  (unfold State.writeSection; dsimp only; (repeat' split) <;> simp; done)
@[simp] theorem State.darkroomReel_tick (s : State) (x1 : Bool) (x2 : Nat) : (State.darkroomReel s x1 x2).tick = s.tick := by
  unfold State.darkroomReel
  split
  · extract_lets src d t
    have ht : t.tick = s.tick := by simp only [t, State.tick_mk, State.tick_fold]
    split
    · rw [State.darkroomFault_tick, ht]
    · exact ht
  · have hu := State.drawInt_tick s
    generalize s.drawInt = p at hu
    obtain ⟨y, u⟩ := p
    dsimp only at hu ⊢
    have h1 : (u.setObj 0x2407 2 y).tick = s.tick := by rw [State.setObj_tick, hu]
    generalize u.setObj 0x2407 2 y = a at h1
    generalize hb : List.foldl State.storeKey _ _ = b
    have h3 : b.tick = s.tick := by
      rw [← hb, foldl_tick _ _ _ State.storeKey_tick, State.tick_mk, State.tick_fold, h1]
    have h4 : ∀ l : List Nat, (l.foldl State.writeSection b.storeWrite).tick = s.tick := by
      intro l
      rw [foldl_tick _ _ _ State.writeSection_tick, State.storeWrite_tick, h3]
    generalize he : List.foldl State.writeSection _ _ = e
    have h5 : e.tick = s.tick := he ▸ h4 _
    split
    · rw [State.tick_mk, State.tick_fold, h5]
    · exact h5
@[simp] theorem State.readNode_tick (s : State) (x1 : Nat) : (State.readNode s x1).tick = s.tick := by
  (unfold State.readNode; simp; done)
@[simp] theorem State.bootUp_tick (s : State) : (State.bootUp s).tick = s.tick := by
  (unfold State.bootUp; simp; done)
@[simp] theorem State.endTransfer_tick (s : State) : (State.endTransfer s).tick = s.tick := by
  (unfold State.endTransfer; simp; done)
@[simp] theorem State.resetComm_tick (s : State) (x1 : Nat) : (State.resetComm s x1).tick = s.tick := by
  (unfold State.resetComm; simp; done)
@[simp] theorem State.nmtCommand_tick (s : State) (x1 : Nat) (x2 : Nat) (x3 : Nat) : (State.nmtCommand s x1 x2 x3).tick = s.tick := by
  (unfold State.nmtCommand; dsimp only; (repeat' split) <;> simp; done)

theorem referenceEnableOp_tick (x0 : Nat) (x1 : Nat) (s : State) {t : State} (h : referenceEnableOp x0 x1 s = .ok t) : t.tick = s.tick := by
  (simp only [referenceEnableOp] at h; (repeat' split at h) <;> first | exact error_tick h | (refine (ok_tick h).trans ?_; simp; done) | (refine (ok_tick h).trans ?_; (repeat' split) <;> simp (disch := (intros; (repeat' split) <;> (try simp))); done))
@[simp] theorem State.refEdge_tick (s : State) (x1 : Nat) (x2 : Int) : (State.refEdge s x1 x2).tick = s.tick := by
  (unfold State.refEdge; simp; done)
@[simp] theorem State.deliverPeriod_tick (s : State) (x1 : Nat) (x2 : Nat) (x3 : Int) : (State.deliverPeriod s x1 x2 x3).tick = s.tick := by
  (unfold State.deliverPeriod; dsimp only; (repeat' split) <;> simp; done)
@[simp] theorem State.deliverPps_tick (s : State) (x1 : Nat) (x2 : Nat) (x3 : Int) : (State.deliverPps s x1 x2 x3).tick = s.tick := by
  (unfold State.deliverPps; simp; done)
@[simp] theorem State.deliverEdge_tick (s : State) (x1 : Nat) (x2 : Nat) (x3 : Int) : (State.deliverEdge s x1 x2 x3).tick = s.tick := by
  (unfold State.deliverEdge; simp; done)
@[simp] theorem State.measurePps_tick (s : State) (x1 : Nat) : (State.measurePps s x1).tick = s.tick := by
  (unfold State.measurePps; dsimp only; (repeat' split) <;> simp; done)
@[simp] theorem State.measurePeriod_tick (s : State) (x1 : Nat) : (State.measurePeriod s x1).tick = s.tick := by
  (unfold State.measurePeriod; dsimp only; (repeat' split) <;> simp; done)
theorem manualSelectionOp_tick (x0 : Nat) (s : State) {t : State} (h : manualSelectionOp x0 s = .ok t) : t.tick = s.tick := by
  (simp only [manualSelectionOp] at h; (repeat' split at h) <;> first | exact error_tick h | (refine (ok_tick h).trans ?_; simp; done) | (refine (ok_tick h).trans ?_; (repeat' split) <;> simp (disch := (intros; (repeat' split) <;> (try simp))); done))
theorem clearChallengeOp_tick (x0 : Nat) (s : State) {t : State} (h : clearChallengeOp x0 s = .ok t) : t.tick = s.tick := by
  (simp only [clearChallengeOp] at h; (repeat' split at h) <;> first | exact error_tick h | (refine (ok_tick h).trans ?_; simp; done) | (refine (ok_tick h).trans ?_; (repeat' split) <;> simp (disch := (intros; (repeat' split) <;> (try simp))); done))

@[simp] theorem State.unitFault_tick (s : State) (x1 : Nat) : (State.unitFault s x1).tick = s.tick := by
  (unfold State.unitFault; simp; done)
@[simp] theorem State.railDrop_tick (s : State) (x1 : Nat) : (State.railDrop s x1).tick = s.tick := by
  (unfold State.railDrop; simp; done)
@[simp] theorem State.forget_tick (s : State) : (State.forget s).tick = s.tick := by
  (unfold State.forget; simp; done)
@[simp] theorem State.discardEntry_tick (s : State) (x1 : Sys2Proof.Machine.DiscardEntry) : (State.discardEntry s x1).tick = s.tick := by
  (unfold State.discardEntry; simp; done)
@[simp] theorem State.copyYields_tick (s : State) (x1 : Nat) (x2 : Sys2Proof.RxFrame) (x3 : Nat) : (State.copyYields s x1 x2 x3).tick = s.tick := by
  (unfold State.copyYields; simp; done)
@[simp] theorem State.duplicate_tick (s : State) (x1 : Nat) (x2 : Sys2Proof.RxFrame) : (State.duplicate s x1 x2).1.tick = s.tick := by
  (unfold State.duplicate; dsimp only; (repeat' split) <;> simp; done)
@[simp] theorem State.pauseFrame_tick (s : State) (x1 : Nat) (x2 : Nat) : (State.pauseFrame s x1 x2).tick = s.tick := by
  (unfold State.pauseFrame; simp; done)
@[simp] theorem State.pfcFrame_tick (s : State) (x1 : Nat) (x2 : List (Option Nat)) : (State.pfcFrame s x1 x2).tick = s.tick := by
  unfold State.pfcFrame
  extract_lets n t
  have ht : t.tick = s.tick := by simp only [t, State.bump_tick]
  clear_value t
  split
  · exact ht
  · refine (foldl_tick _ _ _ ?_).trans ht
    intro s c
    split
    · rfl
    · simp
@[simp] theorem State.lldpFrame_tick (s : State) (x1 : Nat) (x2 : Option (Nat × Nat)) : (State.lldpFrame s x1 x2).tick = s.tick := by
  (unfold State.lldpFrame; dsimp only; (repeat' split) <;> simp; done)
@[simp] theorem State.esmcFrame_tick (s : State) (x1 : Nat) (x2 : Nat) (x3 : Nat) : (State.esmcFrame s x1 x2 x3).tick = s.tick := by
  (unfold State.esmcFrame; simp; done)
@[simp] theorem State.admitRequest_tick (s : State) (x1 : Nat) (x2 : Sys2Proof.RxFrame) (x3 : Nat) (x4 : Nat) : (State.admitRequest s x1 x2 x3 x4).tick = s.tick := by
  (unfold State.admitRequest; dsimp only; (repeat' split) <;> simp; done)
@[simp] theorem State.admitHost_tick (s : State) (x1 : Nat) (x2 : Sys2Proof.RxFrame) (x3 : Nat) (x4 : Bool) : (State.admitHost s x1 x2 x3 x4).tick = s.tick := by
  (unfold State.admitHost; dsimp only; (repeat' split) <;> simp; done)
@[simp] theorem State.forward_tick (s : State) (x1 : Nat) (x2 : Sys2Proof.RxFrame) (x3 : Nat) (x4 : Nat) : (State.forward s x1 x2 x3 x4).tick = s.tick := by
  (unfold State.forward; simp; done)
@[simp] theorem State.classifyFrame_tick (s : State) (x1 : Nat) (x2 : Sys2Proof.RxFrame) (x3 : Nat) : (State.classifyFrame s x1 x2 x3).tick = s.tick := by
  (unfold State.classifyFrame; dsimp only; (repeat' split) <;> simp; done)
@[simp] theorem State.dropLong_tick (s : State) (x1 : Nat) (x2 : Nat) (x3 : Nat) : (State.dropLong s x1 x2 x3).tick = s.tick := by
  induction x3 generalizing s with
  | zero => rfl
  | succ n ih =>
    unfold State.dropLong
    split
    · rfl
    · split
      · rw [ih]; simp
      · rfl
@[simp] theorem State.crossFrame_tick (s : State) (x1 : Nat) (x2 : Nat) (x3 : Sys2Proof.Machine.QFrame) : (State.crossFrame s x1 x2 x3).tick = s.tick := by
  (unfold State.crossFrame; simp; done)
@[simp] theorem State.startFrame_tick (s : State) (x1 : Nat) (x2 : Nat) (x3 : Sys2Proof.Machine.QFrame) : (State.startFrame s x1 x2 x3).tick = s.tick := by
  (unfold State.startFrame; simp; done)
@[simp] theorem State.startBest_tick (s : State) (x1 : Nat) (x2 : List Nat) : (State.startBest s x1 x2).tick = s.tick := by
  induction x2 generalizing s with
  | nil => rfl
  | cons c rest ih =>
    unfold State.startBest
    extract_lets q t
    have ht : t.tick = s.tick := by simp only [t, State.dropLong_tick]
    clear_value t
    (repeat' split) <;> simp [ih, ht]
theorem hostTransmitOp_tick (x0 : Sys2Proof.Octets) (s : State) {t : State} (h : hostTransmitOp x0 s = .ok t) : t.tick = s.tick := by
  (simp only [hostTransmitOp] at h; (repeat' split at h) <;> first | exact error_tick h | (refine (ok_tick h).trans ?_; simp; done) | (refine (ok_tick h).trans ?_; (repeat' split) <;> simp (disch := (intros; (repeat' split) <;> (try simp))); done))
theorem hostReleaseOp_tick (x0 : Nat) (s : State) {t : State} (h : hostReleaseOp x0 s = .ok t) : t.tick = s.tick := by
  (simp only [hostReleaseOp] at h; (repeat' split at h) <;> first | exact error_tick h | (refine (ok_tick h).trans ?_; simp; done) | (refine (ok_tick h).trans ?_; (repeat' split) <;> simp (disch := (intros; (repeat' split) <;> (try simp))); done))
theorem forwardingOp_tick (x0 : Nat) (s : State) {t : State} (h : forwardingOp x0 s = .ok t) : t.tick = s.tick := by
  (simp only [forwardingOp] at h; (repeat' split at h) <;> first | exact error_tick h | (refine (ok_tick h).trans ?_; simp; done) | (refine (ok_tick h).trans ?_; (repeat' split) <;> simp (disch := (intros; (repeat' split) <;> (try simp))); done))
theorem clearPeakOp_tick (x0 : Nat) (s : State) {t : State} (h : clearPeakOp x0 s = .ok t) : t.tick = s.tick := by
  (simp only [clearPeakOp] at h; (repeat' split at h) <;> first | exact error_tick h | (refine (ok_tick h).trans ?_; simp; done) | (refine (ok_tick h).trans ?_; (repeat' split) <;> simp (disch := (intros; (repeat' split) <;> (try simp))); done))
@[simp] theorem State.sendEsmc_tick (s : State) (x1 : Nat) : (State.sendEsmc s x1).tick = s.tick := by
  (unfold State.sendEsmc; simp; done)
theorem cookieLoadOp_tick (x0 : Nat) (x1 : Sys2Proof.Octets) (s : State) {t : State} (h : cookieLoadOp x0 x1 s = .ok t) : t.tick = s.tick := by
  (simp only [cookieLoadOp] at h; (repeat' split at h) <;> first | exact error_tick h | (refine (ok_tick h).trans ?_; simp; done) | (refine (ok_tick h).trans ?_; (repeat' split) <;> simp (disch := (intros; (repeat' split) <;> (try simp))); done))

theorem State.wipe_tick (s : State) (c : Nat) : (s.wipe c).tick = ({}, s.pending, s.boot.revoked, s.boot.floor) := by
  have h : s.boot.interrupted.revoked = s.boot.revoked ∧ s.boot.interrupted.floor = s.boot.floor := by
    unfold Boot.interrupted
    split
    · exact ⟨rfl, rfl⟩
    · split <;> exact ⟨rfl, rfl⟩
  unfold State.wipe; rw [State.tick_mk]; dsimp only; rw [h.1, h.2]
theorem State.atStart_tick (s : State) (x1 x2 : Nat) : (s.atStart x1 x2).tick = ({}, s.pending, s.boot.revoked, s.boot.floor) := by
  unfold State.atStart
  extract_lets v b a
  have h : a.tick = s.tick := (State.leapReel_tick _).trans (foldl_tick _ _ _ fun s n => State.setBase_tick _ _ _)
  clear_value a
  have h2 : (a.pending, a.boot.revoked, a.boot.floor) = (s.pending, s.boot.revoked, s.boot.floor) := congrArg Prod.snd h
  rw [State.tick_mk, ← h2]
@[simp] theorem State.readSections_tick (s : State) (x1 : Nat) (x2 : List Nat) : (State.readSections s x1 x2).tick = s.tick := by
  (unfold State.readSections; simp; done)
@[simp] theorem State.readHistory_tick (s : State) (x1 : Nat) : (State.readHistory s x1).tick = s.tick := by
  (unfold State.readHistory; simp; done)
@[simp] theorem State.readSaved_tick (s : State) (x1 : Nat) : (State.readSaved s x1).tick = s.tick := by
  (unfold State.readSaved; simp; done)
@[simp] theorem State.readSeeds_tick (s : State) : (State.readSeeds s).tick = s.tick := by
  (unfold State.readSeeds; simp; done)
@[simp] theorem State.readStore_tick (s : State) (x1 : Nat) (x2 : List Nat) : (State.readStore s x1 x2).tick = s.tick := by
  (unfold State.readStore; simp; done)
theorem resetOp_tick (x0 : Nat) (s : State) {t : State} (h : resetOp x0 s = .ok t) : t.tick = s.tick := by
  (simp only [resetOp] at h; (repeat' split at h) <;> first | exact error_tick h | (refine (ok_tick h).trans ?_; simp; done) | (refine (ok_tick h).trans ?_; (repeat' split) <;> simp (disch := (intros; (repeat' split) <;> (try simp))); done))
theorem deviceResetOp_tick (x0 : Nat) (s : State) {t : State} (h : deviceResetOp x0 s = .ok t) : t.tick = s.tick := by
  (simp only [deviceResetOp] at h; (repeat' split at h) <;> first | exact error_tick h | (refine (ok_tick h).trans ?_; simp; done) | (refine (ok_tick h).trans ?_; (repeat' split) <;> simp (disch := (intros; (repeat' split) <;> (try simp))); done))
@[simp] theorem State.bootPlan_tick (s : State) (x1 : Sys2Proof.Machine.Plan) (x2 : Nat) (x3 : Nat) : (State.bootPlan s x1 x2 x3).tick = s.tick := by
  (unfold State.bootPlan; simp; done)
@[simp] theorem State.restoreTime_tick (s : State) : (State.restoreTime s).tick = s.tick := by
  unfold State.restoreTime
  split
  · rfl
  · rename_i e _
    have h1 := State.drawNat_tick s
    generalize s.drawNat = p at h1
    obtain ⟨d, t0⟩ := p
    dsimp only at h1 ⊢
    have h2 := State.drawNat_tick t0
    generalize t0.drawNat = p at h2
    obtain ⟨u1, t1⟩ := p
    dsimp only at h2 ⊢
    have h3 := State.drawNat_tick t1
    generalize t1.drawNat = p at h3
    obtain ⟨u2, t2⟩ := p
    dsimp only at h3 ⊢
    have h4 := State.drawNat_tick t2
    generalize t2.drawNat = p at h4
    obtain ⟨u3, t⟩ := p
    dsimp only at h4 ⊢
    rw [State.setSteer_tick, State.setBase_tick, State.tick_mk, State.tick_fold, h4, h3, h2, h1]
@[simp] theorem State.restoreRoot_tick (s : State) : (State.restoreRoot s).tick = s.tick := by
  unfold State.restoreRoot
  split
  · rfl
  · rename_i k _
    have h1 := State.drawMask_tick s
    generalize s.drawMask = p at h1
    obtain ⟨ma, s1⟩ := p
    dsimp only at h1 ⊢
    have h2 := State.drawMask_tick s1
    generalize s1.drawMask = q at h2
    obtain ⟨mb, s2⟩ := q
    dsimp only at h2 ⊢
    rw [h1] at h2
    rw [State.setSlot_tick, h2]
@[simp] theorem State.startFunctions_tick (s : State) : (State.startFunctions s).tick = s.tick := by
  (unfold State.startFunctions; simp; done)
@[simp] theorem State.startDomains_tick (s : State) : (State.startDomains s).tick = s.tick := by
  (unfold State.startDomains; simp; done)
@[simp] theorem State.startPlates_tick (s : State) : (State.startPlates s).tick = s.tick := by
  (unfold State.startPlates; simp; done)
theorem reinitOp_tick (x0 : Nat) (s : State) {t : State} (h : reinitOp x0 s = .ok t) : t.tick = s.tick := by
  (simp only [reinitOp] at h; (repeat' split at h) <;> first | exact error_tick h | (refine (ok_tick h).trans ?_; simp; done) | (refine (ok_tick h).trans ?_; (repeat' split) <;> simp (disch := (intros; (repeat' split) <;> (try simp))); done))
@[simp] theorem State.restartLane_tick (s : State) (x1 : Nat) : (State.restartLane s x1).tick = s.tick := by
  (unfold State.restartLane; simp; done)
@[simp] theorem State.restartLoupe_tick (s : State) (x1 : Nat) : (State.restartLoupe s x1).tick = s.tick := by
  (unfold State.restartLoupe; simp; done)
@[simp] theorem State.rearmPort_tick (s : State) (x1 : Nat) : (State.rearmPort s x1).tick = s.tick := by
  (unfold State.rearmPort; simp; done)
@[simp] theorem State.resetFunction_tick (s : State) (x1 : Nat) : (State.resetFunction s x1).tick = s.tick := by
  (unfold State.resetFunction; dsimp only; (repeat' split) <;> simp; done)
@[simp] theorem State.beginReinit_tick (s : State) (x1 : Nat) : (State.beginReinit s x1).tick = s.tick := by
  (unfold State.beginReinit; simp; done)
@[simp] theorem State.releaseHeld_tick (s : State) (x1 : Nat) : (State.releaseHeld s x1).tick = s.tick := by
  (unfold State.releaseHeld; (repeat' split) <;> first | (simp; done) | rfl)
@[simp] theorem State.startReinits_tick (s : State) : (State.startReinits s).tick = s.tick := by
  (unfold State.startReinits; simp; done)
@[simp] theorem State.watchdogAct_tick (s : State) (x1 : Nat) (x2 : Nat) : (State.watchdogAct s x1 x2).tick = s.tick := by
  (unfold State.watchdogAct; dsimp only; (repeat' split) <;> simp; done)
@[simp] theorem State.watchdog_tick (s : State) : (State.watchdog s).tick = s.tick := by
  (unfold State.watchdog; simp; done)
@[simp] theorem flashOp_tick (x0 : Sys2Proof.Octets) (s : State) : (flashOp x0 s).1.tick = s.tick := by
  (unfold flashOp; dsimp only; (repeat' split) <;> simp; done)
@[simp] theorem State.dropRevoked_tick (s : State) (x1 : Nat) : (State.dropRevoked s x1).tick = s.tick := by
  (unfold State.dropRevoked; dsimp only; (repeat' split) <;> simp; done)
theorem revokeOp_later (x0 : Nat) (s : State) {t : State} (h : revokeOp x0 s = .ok t) : Later s t := by
  unfold revokeOp at h
  dsimp only at h
  split at h
  · cases h
  · refine later_to ?_ ((ok_tick h).trans (State.dropRevoked_tick _ _))
    refine ⟨rfl, rfl, fun k hk => ?_, Nat.le_refl _⟩
    show bit (putBit s.boot.revoked (x0 % 4) true) k = true
    unfold bit putBit at *
    rw [if_pos rfl, Nat.testBit_or, hk, Bool.true_or]
theorem raiseFloorOp_later (x0 : Nat) (s : State) {t : State} (h : raiseFloorOp x0 s = .ok t) : Later s t := by
  unfold raiseFloorOp at h
  split at h
  · cases h
  · next hv =>
    refine later_to ?_ (ok_tick h)
    refine ⟨rfl, rfl, fun k hk => hk, ?_⟩
    show s.boot.floor ≤ x0
    exact Nat.le_trans (Nat.le_max_right _ _) (Nat.le_of_not_lt fun h0 => hv (.inl h0))

@[simp] theorem State.signedBy_tick (s : State) (x1 : Nat) (x2 : Sys2Proof.Octets) (x3 : Sys2Proof.Octets) : (State.signedBy s x1 x2 x3).1.tick = s.tick := by
  unfold State.signedBy
  have hk := State.fetchKey_tick s x1 unitVerifier
  generalize s.fetchKey x1 unitVerifier = p at hk
  obtain ⟨t, _ | k⟩ := p <;> exact hk
@[simp] theorem State.placeKey_tick (s : State) (x1 : Sys2Proof.Machine.ImportRecord) (x2 : Sys2Proof.Octets) : (State.placeKey s x1 x2).tick = s.tick := by
  unfold State.placeKey
  · extract_lets x
    have h1 := State.drawMask_tick s
    generalize s.drawMask = p at h1
    obtain ⟨ma, s1⟩ := p
    dsimp only at h1 ⊢
    have h2 := State.drawMask_tick s1
    generalize s1.drawMask = q at h2
    obtain ⟨mb, s2⟩ := q
    dsimp only at h2 ⊢
    rw [h1] at h2
    rw [State.bump_tick, State.setSlot_tick, h2]
@[simp] theorem State.importRefused_tick (s : State) (x1 : Nat) : (State.importRefused s x1).1.tick = s.tick := by
  (unfold State.importRefused; simp; done)
@[simp] theorem keyImportOp_tick (x0 : Sys2Proof.Octets) (s : State) : (keyImportOp x0 s).1.tick = s.tick := by
  unfold keyImportOp
  extract_lets r p st signed vOk
  clear_value r p st
  split
  · exact State.importRefused_tick _ _
  · split
    · exact State.importRefused_tick _ _
    · split
      · exact State.importRefused_tick _ _
      · split
        · exact State.importRefused_tick _ _
        · have h1 : (if (signed && vOk) = true then s.signedBy r.signer r.signed r.signature else (s, true)).1.tick = s.tick := by
            split
            · exact State.signedBy_tick _ _ _ _
            · rfl
          generalize (if (signed && vOk) = true then s.signedBy r.signer r.signed r.signature else (s, true)) = q at h1
          obtain ⟨s1, ok⟩ := q
          dsimp only at h1 ⊢
          split
          · rw [State.importRefused_tick, h1]
          · split
            · rw [State.importRefused_tick, State.wrapUnitFailed_tick, h1]
            · split
              · rw [State.importRefused_tick, State.wrapUnitFailed_tick, h1]
              · split
                · rw [State.placeKey_tick, h1]
                · have h2 := State.fetchKey_tick s1 r.parent unitWrap
                  generalize s1.fetchKey r.parent unitWrap = q at h2
                  obtain ⟨s2, _ | k⟩ := q
                  · dsimp only at h2 ⊢
                    rw [State.importRefused_tick, h2, h1]
                  · dsimp only at h2 ⊢
                    split
                    · rw [State.importRefused_tick, h2, h1]
                    · rw [State.placeKey_tick, h2, h1]
theorem rootLoadOp_tick (x0 : Sys2Proof.Octets) (s : State) {t : State} (h : rootLoadOp x0 s = .ok t) : t.tick = s.tick := by
  unfold rootLoadOp at h
  split at h
  · exact error_tick h
  · have h1 := State.drawMask_tick s
    generalize s.drawMask = p at h1 h
    obtain ⟨ma, s1⟩ := p
    dsimp only at h1 h
    have h2 := State.drawMask_tick s1
    generalize s1.drawMask = q at h2 h
    obtain ⟨mb, s2⟩ := q
    dsimp only at h2 h
    refine (ok_tick h).trans ?_
    rw [State.tick_mk, State.tick_fold, State.setSlot_tick, h2, h1]
theorem policyReleaseOp_tick (x0 : Sys2Proof.Octets) (s : State) {t : State} (h : policyReleaseOp x0 s = .ok t) : t.tick = s.tick := by
  (simp only [policyReleaseOp] at h; (repeat' split at h) <;> first | exact error_tick h | (refine (ok_tick h).trans ?_; simp; done) | (refine (ok_tick h).trans ?_; (repeat' split) <;> simp (disch := (intros; (repeat' split) <;> (try simp))); done))
theorem signedPolicyOp_tick (x0 : Nat) (s : State) {t : State} (h : signedPolicyOp x0 s = .ok t) : t.tick = s.tick := by
  (simp only [signedPolicyOp] at h; (repeat' split at h) <;> first | exact error_tick h | (refine (ok_tick h).trans ?_; simp; done) | (refine (ok_tick h).trans ?_; (repeat' split) <;> simp (disch := (intros; (repeat' split) <;> (try simp))); done))
@[simp] theorem State.orphan_tick (s : State) (x1 : Nat) : (State.orphan s x1).tick = s.tick := by
  (unfold State.orphan; simp; done)
theorem invalidateOp_tick (x0 : Nat) (s : State) {t : State} (h : invalidateOp x0 s = .ok t) : t.tick = s.tick := by
  (simp only [invalidateOp] at h; (repeat' split at h) <;> first | exact error_tick h | (refine (ok_tick h).trans ?_; simp; done) | (refine (ok_tick h).trans ?_; (repeat' split) <;> simp (disch := (intros; (repeat' split) <;> (try simp))); done))
@[simp] theorem State.eraseOrphans_tick (s : State) : (State.eraseOrphans s).tick = s.tick := by
  (unfold State.eraseOrphans; simp; done)
theorem cookieGenerationOp_tick (x0 : Nat) (x1 : Nat) (s : State) {t : State} (h : cookieGenerationOp x0 x1 s = .ok t) : t.tick = s.tick := by
  (simp only [cookieGenerationOp] at h; (repeat' split at h) <;> first | exact error_tick h | (refine (ok_tick h).trans ?_; simp; done) | (refine (ok_tick h).trans ?_; (repeat' split) <;> simp (disch := (intros; (repeat' split) <;> (try simp))); done))
theorem associationOp_tick (x0 : Sys2Proof.Octets) (s : State) {t : State} (h : associationOp x0 s = .ok t) : t.tick = s.tick := by
  (simp only [associationOp] at h; (repeat' split at h) <;> first | exact error_tick h | (refine (ok_tick h).trans ?_; simp; done) | (refine (ok_tick h).trans ?_; (repeat' split) <;> simp (disch := (intros; (repeat' split) <;> (try simp))); done))
theorem tamperEnableOp_tick (x0 : Nat) (s : State) {t : State} (h : tamperEnableOp x0 s = .ok t) : t.tick = s.tick := by
  (simp only [tamperEnableOp] at h; (repeat' split at h) <;> first | exact error_tick h | (refine (ok_tick h).trans ?_; simp; done) | (refine (ok_tick h).trans ?_; (repeat' split) <;> simp (disch := (intros; (repeat' split) <;> (try simp))); done))
@[simp] theorem State.overdue_tick (s : State) (x1 : Nat) (x2 : Nat) : (State.overdue s x1 x2).tick = s.tick := by
  (unfold State.overdue; simp; done)
@[simp] theorem State.noteInterval_tick (s : State) (x1 : Nat) (x2 : Nat) : (State.noteInterval s x1 x2).tick = s.tick := by
  (unfold State.noteInterval; simp; done)
@[simp] theorem State.visit_tick (s : State) (x1 : Nat) (x2 : Nat) (x3 : Bool) : (State.visit s x1 x2 x3).tick = s.tick := by
  unfold State.visit
  extract_lets x ms
  split
  · rfl
  · have h1 := State.drawMask_tick s
    generalize s.drawMask = p at h1
    obtain ⟨ma, s1⟩ := p
    dsimp only at h1 ⊢
    rw [State.noteInterval_tick, State.setSlot_tick, h1]
@[simp] theorem State.keysReel_tick (s : State) : (State.keysReel s).tick = s.tick := by
  (unfold State.keysReel; simp; done)
@[simp] theorem State.katResult_tick (s : State) (x1 : Nat) (x2 : Nat) (x3 : Nat) (x4 : Nat) (x5 : Bool) : (State.katResult s x1 x2 x3 x4 x5).tick = s.tick := by
  (unfold State.katResult; simp; done)
@[simp] theorem State.releaseClusters_tick (s : State) : (State.releaseClusters s).tick = s.tick := by
  (unfold State.releaseClusters; simp; done)

end Sys2Proof.Machine
end

