-- ==== Sys2Proof/Laws/TickWrites.lean ====
section
/-! SUPPORT. The clock and the queue are untouched by writes, the management unit, the clock and the intake: one lemma a function. -/

namespace Sys2Proof.Machine

set_option linter.all false
@[simp] theorem State.asCommitted_tick (s : State) (x1 : Nat) (x2 : Nat) : (State.asCommitted s x1 x2).tick = s.tick := by
  unfold State.asCommitted
  refine foldl_tick _ _ _ fun t n => foldl_tick _ _ _ fun t k => ?_
  split
  · rfl
  · rw [State.setKey_tick]
@[simp] theorem commitOp_tick (x0 : Nat) (x1 : Nat) (s : State) : (commitOp x0 x1 s).1.tick = s.tick := by
  (unfold commitOp; dsimp only; (repeat' split) <;> simp; done)
theorem discardOp_tick (x0 : Nat) (x1 : Nat) (s : State) {t : State} (h : discardOp x0 x1 s = .ok t) : t.tick = s.tick := by
  (simp only [discardOp] at h; (repeat' split at h) <;> first | exact error_tick h | (refine (ok_tick h).trans ?_; simp; done) | (refine (ok_tick h).trans ?_; (repeat' split) <;> simp (disch := (intros; (repeat' split) <;> (try simp))); done))
theorem memberWriteOp_tick (x0 : Nat) (x1 : Nat) (x2 : Nat) (x3 : Int) (s : State) {t : State} (h : memberWriteOp x0 x1 x2 x3 s = .ok t) : t.tick = s.tick := by
  (simp only [memberWriteOp] at h; (repeat' split at h) <;> first | exact error_tick h | (refine (ok_tick h).trans ?_; simp; done) | (refine (ok_tick h).trans ?_; (repeat' split) <;> simp (disch := (intros; (repeat' split) <;> (try simp))); done))
@[simp] theorem plainWrite_tick (x0 : Nat) (x1 : Nat) (x2 : Nat) (x3 : Int) (s : State) : (plainWrite x0 x1 x2 x3 s).tick = s.tick := by
  (unfold plainWrite; simp; done)
theorem orRefuse_tick (x0 : Bool) (x1 : Nat) (s : State) {t : State} (h : orRefuse x0 x1 s = .ok t) : t.tick = s.tick := by
  (simp only [orRefuse] at h; (repeat' split at h) <;> first | exact error_tick h | (refine (ok_tick h).trans ?_; simp; done) | (refine (ok_tick h).trans ?_; (repeat' split) <;> simp (disch := (intros; (repeat' split) <;> (try simp))); done))
@[simp] theorem inputEnableOp_tick (x0 : Nat) (x1 : Int) (s : State) : (inputEnableOp x0 x1 s).tick = s.tick := by
  (unfold inputEnableOp; simp; done)
theorem intervalWriteOp_tick (x0 : Nat) (x1 : Nat) (x2 : Int) (s : State) {t : State} (h : intervalWriteOp x0 x1 x2 s = .ok t) : t.tick = s.tick := by
  (simp only [intervalWriteOp] at h; (repeat' split at h) <;> first | exact error_tick h | (refine (ok_tick h).trans ?_; simp; done) | (refine (ok_tick h).trans ?_; (repeat' split) <;> simp (disch := (intros; (repeat' split) <;> (try simp))); done))
theorem registrationOp_tick (x0 : Nat) (s : State) {t : State} (h : registrationOp x0 s = .ok t) : t.tick = s.tick := by
  unfold registrationOp at h
  split at h
  · exact registrationStepOp_tick _ h
  · exact slowSlewOp_tick _ h
  · exact registrationCancelOp_tick _ h
  · exact error_tick h
@[simp] theorem retuneOp_tick (x0 : Nat) (x1 : Int) (s : State) : (retuneOp x0 x1 s).tick = s.tick := by
  (unfold retuneOp; simp; done)
@[simp] theorem ppsEnableOp_tick (x0 : Nat) (x1 : Int) (s : State) : (ppsEnableOp x0 x1 s).tick = s.tick := by
  (unfold ppsEnableOp; simp; done)
theorem snapshotCommandOp_tick (x0 : Nat) (s : State) {t : State} (h : snapshotCommandOp x0 s = .ok t) : t.tick = s.tick := by
  unfold snapshotCommandOp at h
  split at h
  · exact snapshotArmOp_tick _ h
  · exact snapshotCancelOp_tick _ h
  · exact snapshotProcessOp_tick _ h
  · exact snapshotReleaseOp_tick _ h
  · exact error_tick h
theorem orElse_some {α : Type} {o : Option α} {f : Unit → Option α} {a : α} (h : o.orElse f = some a) : o = some a ∨ f () = some a := by
  cases o with
  | none => exact .inr h
  | some b => exact .inl h
theorem State.writeTime_tick (s : State) (b n sub : Nat) (v : Int) {a : Attempt} (h : State.writeTime s b n sub v = some a) : a.1.tick = s.tick := by
  unfold State.writeTime at h
  dsimp only at h
  (repeat' split at h) <;> first
    | (rw [← Option.some.inj h]; first
        | (refine attempt_tick _ _ fun u hu => ?_; (try split at hu) <;> first | (exact (orRefuse_tick _ _ _ hu).trans (by simp)) | exact setBaseOp_tick _ _ _ hu | exact stepBaseOp_tick _ _ _ hu | exact baseModeOp_tick _ _ _ hu | exact captureOp_tick _ _ hu | exact fifoReleaseOp_tick _ _ _ hu | exact intervalModeOp_tick _ _ _ hu | exact armOp_tick _ _ hu | exact disarmOp_tick _ _ hu | exact leapWriteOp_tick _ _ _ _ hu | exact clearFlagsOp_tick _ _ _ hu | exact swapRequestOp_tick _ _ hu | exact cancelSwapOp_tick _ _ hu | exact discardOp_tick _ _ _ hu | exact intervalWriteOp_tick _ _ _ _ hu | exact error_tick hu)
        | exact commitOp_tick _ _ _
        | (simp; done))
    | (cases h; done)
theorem State.writeReference_tick (s : State) (b n sub : Nat) (v : Int) {a : Attempt} (h : State.writeReference s b n sub v = some a) : a.1.tick = s.tick := by
  unfold State.writeReference at h
  dsimp only at h
  (repeat' split at h) <;> first
    | (rw [← Option.some.inj h]; first
        | (refine attempt_tick _ _ fun u hu => ?_; (try split at hu) <;> first | (exact (orRefuse_tick _ _ _ hu).trans (by simp)) | exact referenceEnableOp_tick _ _ _ hu | exact manualSelectionOp_tick _ _ hu | exact clearChallengeOp_tick _ _ hu | exact registrationOp_tick _ _ hu | exact error_tick hu)
        | exact commitOp_tick _ _ _
        | (simp; done))
    | (cases h; done)
theorem State.writeSynthesis_tick (s : State) (b n sub : Nat) (v : Int) {a : Attempt} (h : State.writeSynthesis s b n sub v = some a) : a.1.tick = s.tick := by
  unfold State.writeSynthesis at h
  dsimp only at h
  (repeat' split at h) <;> first
    | (rw [← Option.some.inj h]; first
        | (refine attempt_tick _ _ fun u hu => ?_; (try split at hu) <;> first | (exact (orRefuse_tick _ _ _ hu).trans (by simp)) | exact outputRegistrationOp_tick _ _ _ hu | exact invalidateRecipesOp_tick _ _ hu | exact error_tick hu)
        | exact commitOp_tick _ _ _
        | (simp; done))
    | (cases h; done)
theorem State.writeGnss_tick (s : State) (b n sub : Nat) (v : Int) {a : Attempt} (h : State.writeGnss s b n sub v = some a) : a.1.tick = s.tick := by
  unfold State.writeGnss at h
  dsimp only at h
  (repeat' split at h) <;> first
    | (rw [← Option.some.inj h]; first
        | (refine attempt_tick _ _ fun u hu => ?_; (try split at hu) <;> first | (exact (orRefuse_tick _ _ _ hu).trans (by simp)) | exact clearExclusionOp_tick _ _ hu | exact trackReleaseOp_tick _ _ hu | exact snapshotCommandOp_tick _ _ hu | exact error_tick hu)
        | exact commitOp_tick _ _ _
        | (simp; done))
    | (cases h; done)
theorem State.writePorts_tick (s : State) (b n sub : Nat) (v : Int) {a : Attempt} (h : State.writePorts s b n sub v = some a) : a.1.tick = s.tick := by
  unfold State.writePorts at h
  dsimp only at h
  (repeat' split at h) <;> first
    | (rw [← Option.some.inj h]; first
        | (refine attempt_tick _ _ fun u hu => ?_; (try split at hu) <;> first | (exact (orRefuse_tick _ _ _ hu).trans (by simp)) | exact clearFlagsOp_tick _ _ _ hu | exact laneWriteOp_tick _ _ _ _ hu | exact patternWriteOp_tick _ _ _ hu | exact macWriteOp_tick _ _ _ hu | exact txReleaseOp_tick _ _ _ hu | exact hostReleaseOp_tick _ _ hu | exact forwardingOp_tick _ _ hu | exact clearPeakOp_tick _ _ hu | exact error_tick hu)
        | exact commitOp_tick _ _ _
        | (simp; done))
    | (cases h; done)
theorem State.writeServing_tick (s : State) (b n sub : Nat) (v : Int) (data : Octets) {a : Attempt} (h : State.writeServing s b n sub v data = some a) : a.1.tick = s.tick := by
  unfold State.writeServing at h
  dsimp only at h
  (repeat' split at h) <;> first
    | (rw [← Option.some.inj h]; first
        | (refine attempt_tick _ _ fun u hu => ?_; (try split at hu) <;> first | (exact (orRefuse_tick _ _ _ hu).trans (by simp)) | exact instanceEnableOp_tick _ _ _ hu | exact instanceWriteOp_tick _ _ _ _ hu | exact cancelGrantsOp_tick _ hu | exact clearQuarantineOp_tick _ hu | exact signedPolicyOp_tick _ _ hu | exact invalidateOp_tick _ _ hu | exact cookieGenerationOp_tick _ _ _ hu | exact associationOp_tick _ _ hu | exact tamperEnableOp_tick _ _ hu | exact error_tick hu)
        | exact commitOp_tick _ _ _
        | (simp; done))
    | (cases h; done)
theorem attempt_later (s : State) (r : Except Nat State) (h : ∀ u, r = .ok u → Later s u) : Later s (attempt s r).1 := by
  cases r with
  | error c => exact later_refl s
  | ok u => exact h u rfl
theorem State.writePlates_later (s : State) (b n sub : Nat) (v : Int) {a : Attempt} (h : State.writePlates s b n sub v = some a) : Later s a.1 := by
  unfold State.writePlates at h
  dsimp only at h
  (repeat' split at h) <;> first
    | (rw [← Option.some.inj h]; first
        | exact attempt_later _ _ fun u hu => revokeOp_later _ _ hu
        | exact attempt_later _ _ fun u hu => raiseFloorOp_later _ _ hu
        | (refine later_of_tick (attempt_tick _ _ fun u hu => ?_); (try split at hu) <;> first | (exact (orRefuse_tick _ _ _ hu).trans (by simp)) | exact mediaWriteOp_tick _ _ _ _ hu | exact channelWriteOp_tick _ _ _ _ hu | exact channelEnableOp_tick _ _ hu | exact mediaLoopbackOp_tick _ _ _ hu | exact roleSwapOp_tick _ hu | exact standbyToProofOp_tick _ hu | exact contactClearOp_tick _ _ hu | exact statusClearOp_tick _ _ _ hu | exact clearAddressOp_tick _ _ hu | exact clearLanesOp_tick _ _ hu | exact injectOp_tick _ _ hu | exact clearPeakOp_tick _ _ hu | exact deviceResetOp_tick _ _ hu | exact reinitOp_tick _ _ hu | exact error_tick hu)
        | exact later_of_tick (commitOp_tick _ _ _)
        | exact later_of_tick (by simp))
    | (cases h; done)
theorem State.writeValue_later (s : State) (x1 : Nat) (x2 : Nat) (x3 : Nat) (x4 : Int) (x5 : Sys2Proof.Octets) : Later s (State.writeValue s x1 x2 x3 x4 x5).1 := by
  unfold State.writeValue
  split
  · exact later_of_tick (attempt_tick _ _ fun u hu => memberWriteOp_tick _ _ _ _ _ hu)
  · generalize hc : Option.orElse _ _ = o
    cases o with
    | none => exact later_of_tick (plainWrite_tick _ _ _ _ _)
    | some a =>
      simp only [Option.getD_some]
      rcases orElse_some hc with e | e
      · exact later_of_tick (State.writeTime_tick _ _ _ _ _ e)
      rcases orElse_some e with e | e
      · exact later_of_tick (State.writeReference_tick _ _ _ _ _ e)
      rcases orElse_some e with e | e
      · exact later_of_tick (State.writeSynthesis_tick _ _ _ _ _ e)
      rcases orElse_some e with e | e
      · exact later_of_tick (State.writeGnss_tick _ _ _ _ _ e)
      rcases orElse_some e with e | e
      · exact later_of_tick (State.writePorts_tick _ _ _ _ _ e)
      rcases orElse_some e with e | e
      · exact later_of_tick (State.writeServing_tick _ _ _ _ _ _ e)
      · exact State.writePlates_later _ _ _ _ _ e
@[simp] theorem State.writeDomain_tick (s : State) (x1 : Nat) (x2 : Nat) (x3 : Sys2Proof.Octets) : (State.writeDomain s x1 x2 x3).1.tick = s.tick := by
  unfold State.writeDomain
  split <;> first
    | exact keyImportOp_tick _ _
    | exact planDownloadOp_tick _ _
    | exact flashOp_tick _ _
    | (refine attempt_tick _ _ fun u hu => ?_; first | exact navigationUploadOp_tick _ _ hu | exact hostTransmitOp_tick _ _ hu | exact cookieLoadOp_tick _ _ _ hu | exact rootLoadOp_tick _ _ hu | exact policyReleaseOp_tick _ _ hu)
theorem State.writeObject_later (s : State) (x1 : Nat) (x2 : Nat) (x3 : Sys2Proof.Octets) : Later s (State.writeObject s x1 x2 x3).1 := by
  unfold State.writeObject
  (repeat' split) <;> first | exact later_refl s | exact later_of_tick (State.writeDomain_tick _ _ _ _) | (dsimp only; (repeat' split) <;> first | exact later_refl s | exact State.writeValue_later _ _ _ _ _ _)

@[simp] theorem State.noteOversize_tick (s : State) (x1 : Nat) (x2 : Nat) (x3 : Bool) : (State.noteOversize s x1 x2 x3).tick = s.tick := by
  (unfold State.noteOversize; simp; done)
@[simp] theorem State.failTransfer_tick (s : State) (x1 : Nat) (x2 : Bool) : (State.failTransfer s x1 x2).tick = s.tick := by
  (unfold State.failTransfer; dsimp only; (repeat' split) <;> simp; done)
@[simp] theorem State.supersede_tick (s : State) : (State.supersede s).tick = s.tick := by
  (unfold State.supersede; simp; done)
@[simp] theorem State.startPlanDownload_tick (s : State) : (State.startPlanDownload s).tick = s.tick := by
  (unfold State.startPlanDownload; simp; done)
@[simp] theorem State.openDownload_tick (s : State) (x1 : Sys2Proof.Transport) (x2 : Nat) (x3 : Nat) (x4 : Option Nat) : (State.openDownload s x1 x2 x3 x4).tick = s.tick := by
  (unfold State.openDownload; dsimp only; (repeat' split) <;> simp; done)
@[simp] theorem State.invalidFrame_tick (s : State) (x1 : Sys2Proof.Transport) (x2 : Nat) (x3 : Nat) : (State.invalidFrame s x1 x2 x3).tick = s.tick := by
  (unfold State.invalidFrame; simp; done)
theorem State.applyValue_later (s : State) (t : Transport) (i j : Nat) (d : Octets) : Later s (s.applyValue t i j d) := by
  unfold State.applyValue
  have hu := State.writeObject_later s i j d
  generalize s.writeObject i j d = p at hu
  obtain ⟨u, _ | c⟩ := p
  · exact later_to hu (by simp)
  · exact later_to hu (by simp)
@[simp] theorem State.segmentIn_tick (s : State) (x1 : Sys2Proof.Transport) (x2 : Nat) (x3 : Bool) (x4 : Nat) (x5 : Sys2Proof.Octets) : (State.segmentIn s x1 x2 x3 x4 x5).1.tick = s.tick := by
  (unfold State.segmentIn; dsimp only; (repeat' split) <;> simp; done)
@[simp] theorem State.upload_tick (s : State) (x1 : Sys2Proof.Transport) (x2 : Nat) (x3 : Nat) : (State.upload s x1 x2 x3).tick = s.tick := by
  (unfold State.upload; dsimp only; (repeat' split) <;> simp; done)
@[simp] theorem State.uploadNext_tick (s : State) (x1 : Sys2Proof.Transport) (x2 : Nat) : (State.uploadNext s x1 x2).tick = s.tick := by
  (unfold State.uploadNext; dsimp only; (repeat' split) <;> simp; done)
theorem State.expedited_later (s : State) (t : Transport) (i j : Nat) (d : Octets) : Later s (s.expedited t i j d) := by
  unfold State.expedited
  split
  · exact later_of_tick (by simp)
  · split
    · exact later_of_tick (by simp)
    · have hu := State.writeObject_later s i j d
      generalize s.writeObject i j d = p at hu
      obtain ⟨u, _ | c⟩ := p
      · exact later_to hu (by simp)
      · exact later_to hu (by simp)
theorem State.serveJob_later (s : State) (t : Transport) (j : Job) : Later s (s.serveJob t j) := by
  unfold State.serveJob
  refine later_to ?_ (settleRegister_tick _ _)
  split
  · exact State.applyValue_later ..
  · exact later_of_tick (by simp)
  · exact State.expedited_later ..
  · exact later_of_tick (by simp)
  · exact later_of_tick (by simp)
  · exact later_of_tick (by simp)
  · exact later_refl s
theorem State.enqueueJob_later (s : State) (t : Transport) (j : Job) : Later s (s.enqueueJob t j) := by
  unfold State.enqueueJob
  split
  · exact State.serveJob_later ..
  · exact later_of_tick (by simp)
theorem State.takeValue_later (s : State) (t : Transport) (j : Option Job) : Later s (s.takeValue t j) := by
  unfold State.takeValue
  split
  · exact later_refl s
  · exact State.applyValue_later ..
  · exact State.enqueueJob_later ..
theorem State.receive_later (s : State) (t : Transport) (b : Bool) (r : UsdoRequest) : Later s (s.receive t b r) := by
  unfold State.receive
  split
  · exact later_refl s
  split
  · next seq last declared data =>
    have hu := State.segmentIn_tick s t seq last declared data
    generalize s.segmentIn t seq last declared data = p at hu
    obtain ⟨u, j⟩ := p
    exact later_trans (later_of_tick hu) (State.takeValue_later ..)
  · split
    · exact later_refl s
    · split
      · exact later_of_tick (by simp)
      · exact later_refl s
  · exact State.enqueueJob_later ..
  · exact State.enqueueJob_later ..
  · exact State.enqueueJob_later ..
theorem State.request_tick (s : State) (f : State → State) (h : (f s).tick = s.tick) : (s.request f).tick = s.tick := by
  unfold State.request
  split
  · rw [settleRegister_tick, h]
  · rfl
theorem State.request_later (s : State) (f : State → State) (h : Later s (f s)) : Later s (s.request f) := by
  unfold State.request
  split
  · exact later_to h (settleRegister_tick _ _)
  · exact later_refl s
theorem State.write_later (s : State) (t : Transport) (i j : Nat) (d : Octets) : Later s (s.write t i j d) := by
  unfold State.write
  refine State.request_later _ _ ?_
  have hu := State.writeObject_later s i j d
  generalize s.writeObject i j d = p at hu
  obtain ⟨u, _ | c⟩ := p
  · exact later_to hu (by simp)
  · exact later_to hu (by simp)


@[simp] theorem State.overEach_tick (s : State) (n : Nat) (f : State → Nat → State)
    (h : ∀ s a, (f s a).tick = s.tick) : (s.overEach n f).tick = s.tick := foldl_tick _ _ _ h
@[simp] theorem State.applySets_tick (s : State) (g : Nat) (f : State → Nat → State)
    (h : ∀ s a, (f s a).tick = s.tick) : (s.applySets g f).tick = s.tick := by
  unfold State.applySets
  apply foldl_tick
  intro s a; split
  · rw [h]; simp
  · rfl
@[simp] theorem State.takePending_tick (s : State) (x1 : Sys2Proof.Machine.PendingWrite) : (State.takePending s x1).tick = s.tick := by
  (unfold State.takePending; simp; done)
@[simp] theorem State.gnssUnit_tick (s : State) : (State.gnssUnit s).tick = s.tick := by
  (unfold State.gnssUnit; simp; done)
@[simp] theorem State.mediaUnits_tick (s : State) : (State.mediaUnits s).tick = s.tick := by
  (unfold State.mediaUnits; simp; done)
@[simp] theorem State.gnssModeTaken_tick (s : State) (x1 : Nat) (x2 : Int) : (State.gnssModeTaken s x1 x2).tick = s.tick := by
  (unfold State.gnssModeTaken; simp; done)
@[simp] theorem State.classWritten_tick (s : State) : (State.classWritten s).tick = s.tick := by
  (unfold State.classWritten; simp; done)
@[simp] theorem State.restartSteer_tick (s : State) (x1 : Nat) : (State.restartSteer s x1).tick = s.tick := by
  (unfold State.restartSteer; simp; done)
@[simp] theorem State.pendingDone_tick (x0 : Sys2Proof.Machine.State) (s : State) (x2 : Sys2Proof.Machine.PendingWrite) : (State.pendingDone x0 s x2).tick = s.tick := by
  (unfold State.pendingDone; simp; done)
@[simp] theorem State.applyPending_tick (s : State) (x1 : Nat) : (State.applyPending s x1).tick = s.tick := by
  (unfold State.applyPending; simp; done)
@[simp] theorem State.applyAllSets_tick (s : State) : (State.applyAllSets s).tick = s.tick := by
  (unfold State.applyAllSets; simp; done)
@[simp] theorem State.moveBase_tick (s : State) (x1 : Nat) : (State.moveBase s x1).tick = s.tick := by
  (unfold State.moveBase; simp; done)
@[simp] theorem State.boundaryPlates_tick (s : State) (x1 : Sys2Proof.Readings) : (State.boundaryPlates s x1).tick = s.tick := by
  (unfold State.boundaryPlates; simp; done)
@[simp] theorem State.boundaryValues_tick (s : State) : (State.boundaryValues s).tick = s.tick := by
  (unfold State.boundaryValues; simp; done)
@[simp] theorem State.boundaryReferences_tick (s : State) : (State.boundaryReferences s).tick = s.tick := by
  (unfold State.boundaryReferences; simp; done)
@[simp] theorem State.boundaryPorts_tick (s : State) : (State.boundaryPorts s).tick = s.tick := by
  (unfold State.boundaryPorts; simp; done)
@[simp] theorem State.boundaryRecovery_tick (s : State) : (State.boundaryRecovery s).tick = s.tick := by
  (unfold State.boundaryRecovery; simp; done)
@[simp] theorem State.boundaryCompare_tick (s : State) : (State.boundaryCompare s).tick = s.tick := by
  (unfold State.boundaryCompare; simp; done)
@[simp] theorem State.reelCounts_tick (s : State) : (State.reelCounts s).tick = s.tick := by
  (unfold State.reelCounts; simp; done)
@[simp] theorem State.reelReferences_tick (s : State) : (State.reelReferences s).tick = s.tick := by
  (unfold State.reelReferences; simp; done)
@[simp] theorem State.reelTimes_tick (s : State) : (State.reelTimes s).tick = s.tick := by
  (unfold State.reelTimes; simp; done)
@[simp] theorem State.reelServing_tick (s : State) : (State.reelServing s).tick = s.tick := by
  (unfold State.reelServing; simp; done)
theorem State.serveRequests_later (s : State) : Later s s.serveRequests := by
  unfold State.serveRequests
  dsimp only
  generalize s.mgmt.requests.filter (fun w => decide (w.due ≤ s.clock.exposures)) = l
  have h : Later s ({ s with mgmt := { s.mgmt with requests := s.mgmt.requests.filter fun w => decide (s.clock.exposures < w.due) } } : State) := later_of_tick rfl
  generalize ({ s with mgmt := { s.mgmt with requests := s.mgmt.requests.filter fun w => decide (s.clock.exposures < w.due) } } : State) = a at h ⊢
  induction l generalizing a with
  | nil => exact h
  | cons x l ih => rw [List.foldl_cons]; exact ih _ (later_trans h (State.serveJob_later ..))
@[simp] theorem State.sendCan_tick (s : State) (x1 : Sys2Proof.Machine.OutFrame) : (State.sendCan s x1).tick = s.tick := by
  (unfold State.sendCan; simp; done)
@[simp] theorem State.idle_tick (s : State) : (State.idle s).tick = s.tick := by
  (unfold State.idle; dsimp only; (repeat' split) <;> simp; done)

@[simp] theorem State.deliver_tick (s : State) (x1 : Sys2Proof.Machine.Item) : (State.deliver s x1).tick = s.tick := by
  (unfold State.deliver; (repeat' split) <;> first | (simp; done) | rfl)



end Sys2Proof.Machine
end

