-- ==== Sys2Proof/Laws/TickExec.lean ====
section
/-! SUPPORT. The clock and the queue are untouched by commands: one lemma a function. -/

namespace Sys2Proof.Machine

set_option linter.all false
theorem next_inj {a t : State} (h : (Host.Outcome.next a : Host.Outcome State Fault Refusal) = .next t) : a = t := by
  cases h; rfl
theorem State.spi_tick (s : State) (k : Nat) (x : SpiTransaction) (f : State → State) (h : ∀ t, (f t).tick = t.tick) : (s.spi k x f).tick = s.tick := by
  unfold State.spi
  split
  · rfl
  · extract_lets _ t
    split
    · exact (h t).trans (State.tick_mk ..)
    · exact (State.bump_tick _ _ _).trans (State.tick_mk ..)
theorem State.spi_later (s : State) (k : Nat) (x : SpiTransaction) (f : State → State) (h : ∀ t, Later t (f t)) : Later s (s.spi k x f) := by
  unfold State.spi
  split
  · exact later_refl s
  · extract_lets _ t
    have ht : t.tick = s.tick := State.tick_mk ..
    split
    · exact later_trans (later_of_tick ht) (h t)
    · exact later_of_tick ((State.bump_tick _ _ _).trans ht)
theorem execManagementPoint_later (s : State) {z : State} (h : execManagementPoint s = .next z) : Later s z := by
  unfold execManagementPoint State.whenServing at h
  rw [← next_inj h]
  split
  · dsimp only
    split
    · exact later_to (State.serveRequests_later s) (by simp)
    · exact later_refl s
  · exact later_refl s
theorem execHeartbeat_tick (s : State) {z : State} (h : execHeartbeat s = .next z) : z.tick = s.tick := by
  (rw [← next_inj h]; simp; done)
theorem execCanFrameReceived_later (frame : CanRequest) (s : State) {z : State} (h : execCanFrameReceived frame s = .next z) : Later s z := by
  unfold execCanFrameReceived at h
  rw [← next_inj h]
  split
  · exact later_refl s
  · exact State.receive_later ..
theorem execSpiNmtCommand_tick (x : SpiTransaction) (s : State) {z : State} (h : execSpiNmtCommand x s = .next z) : z.tick = s.tick := by
  unfold execSpiNmtCommand at h
  rw [← next_inj h]
  exact State.spi_tick _ _ _ _ fun t => State.nmtCommand_tick _ _ _ _
theorem execSpiUsdoRequest_later (x : SpiTransaction) (s : State) {z : State} (h : execSpiUsdoRequest x s = .next z) : Later s z := by
  unfold execSpiUsdoRequest at h
  rw [← next_inj h]
  exact State.spi_later _ _ _ _ fun t => State.receive_later ..
theorem execSpiReadHeadFrame_tick (x : SpiTransaction) (s : State) {z : State} (h : execSpiReadHeadFrame x s = .next z) : z.tick = s.tick := by
  unfold execSpiReadHeadFrame at h
  rw [← next_inj h]
  exact State.spi_tick _ _ _ _ fun t => by simp
theorem execSpiRemoveHeadFrame_tick (x : SpiTransaction) (s : State) {z : State} (h : execSpiRemoveHeadFrame x s = .next z) : z.tick = s.tick := by
  unfold execSpiRemoveHeadFrame at h
  rw [← next_inj h]
  exact State.spi_tick _ _ _ _ fun t => by simp
theorem execStartRemoteNode_tick (node : Nat) (s : State) {z : State} (h : execStartRemoteNode node s = .next z) : z.tick = s.tick := by
  (rw [← next_inj h]; simp; done)
theorem execStopRemoteNode_tick (node : Nat) (s : State) {z : State} (h : execStopRemoteNode node s = .next z) : z.tick = s.tick := by
  (rw [← next_inj h]; simp; done)
theorem execEnterPreOperational_tick (node : Nat) (s : State) {z : State} (h : execEnterPreOperational node s = .next z) : z.tick = s.tick := by
  (rw [← next_inj h]; simp; done)
theorem execResetCommunication_tick (node straps : Nat) (s : State) {z : State} (h : execResetCommunication node straps s = .next z) : z.tick = s.tick := by
  (rw [← next_inj h]; simp; done)
theorem execResetNode_tick (node straps : Nat) (s : State) {z : State} (h : execResetNode node straps s = .next z) : z.tick = s.tick := by
  (rw [← next_inj h]; simp; done)
theorem execUsdoExpeditedDownload_later (t : Transport) (index sub : Nat) (data : Octets) (s : State) {z : State} (h : execUsdoExpeditedDownload t index sub data s = .next z) : Later s z := by
  unfold execUsdoExpeditedDownload at h
  rw [← next_inj h]
  exact State.request_later _ _ (State.expedited_later ..)
theorem execUsdoDownloadInitiate_tick (t : Transport) (index sub : Nat) (size : Option Nat) (s : State) {z : State} (h : execUsdoDownloadInitiate t index sub size s = .next z) : z.tick = s.tick := by
  (unfold execUsdoDownloadInitiate at h; rw [← next_inj h]; refine State.request_tick _ _ ?_; (repeat' (split <;> try dsimp only)) <;> first | (simp; done) | rfl | (simp (disch := (intros; (repeat' split) <;> (try simp))); done))
theorem execUsdoDownloadSegment_later (t : Transport) (seq : Nat) (last : Bool) (declared : Nat) (data : Octets) (s : State) {z : State} (h : execUsdoDownloadSegment t seq last declared data s = .next z) : Later s z := by
  unfold execUsdoDownloadSegment at h
  rw [← next_inj h]
  split
  · have hu := State.segmentIn_tick s t seq last declared data
    generalize s.segmentIn t seq last declared data = p at hu
    obtain ⟨u, j⟩ := p
    exact later_trans (later_of_tick hu) (State.takeValue_later ..)
  · exact later_refl s
theorem execUsdoUploadInitiate_tick (t : Transport) (index sub : Nat) (s : State) {z : State} (h : execUsdoUploadInitiate t index sub s = .next z) : z.tick = s.tick := by
  (unfold execUsdoUploadInitiate at h; rw [← next_inj h]; refine State.request_tick _ _ ?_; (repeat' (split <;> try dsimp only)) <;> first | (simp; done) | rfl | (simp (disch := (intros; (repeat' split) <;> (try simp))); done))
theorem execUsdoUploadSegment_tick (t : Transport) (seq : Nat) (s : State) {z : State} (h : execUsdoUploadSegment t seq s = .next z) : z.tick = s.tick := by
  (unfold execUsdoUploadSegment at h; rw [← next_inj h]; refine State.request_tick _ _ ?_; (repeat' (split <;> try dsimp only)) <;> first | (simp; done) | rfl | (simp (disch := (intros; (repeat' split) <;> (try simp))); done))
theorem execSegmentTimeout_tick (s : State) {z : State} (h : execSegmentTimeout s = .next z) : z.tick = s.tick := by
  (unfold execSegmentTimeout at h; rw [← next_inj h]; refine State.request_tick _ _ ?_; (repeat' (split <;> try dsimp only)) <;> first | (simp; done) | rfl | (simp (disch := (intros; (repeat' split) <;> (try simp))); done))
theorem execTransferEndedByEngine_tick (s : State) {z : State} (h : execTransferEndedByEngine s = .next z) : z.tick = s.tick := by
  (unfold execTransferEndedByEngine at h; rw [← next_inj h]; refine State.request_tick _ _ ?_; (repeat' (split <;> try dsimp only)) <;> first | (simp; done) | rfl | (simp (disch := (intros; (repeat' split) <;> (try simp))); done))
theorem execRegisterWrite_later (t : Transport) (index sub : Nat) (data : Octets) (s : State) {z : State} (h : execRegisterWrite t index sub data s = .next z) : Later s z := by
  rw [← next_inj h]; exact State.write_later ..
theorem execPersistenceCopy_tick (index sub item : Nat) (ok : Bool) (s : State) {z : State} (h : execPersistenceCopy index sub item ok s = .next z) : z.tick = s.tick := by
  (rw [← next_inj h]; simp; done)
theorem execShadowTimeout_tick (group inst : Nat) (s : State) {z : State} (h : execShadowTimeout group inst s = .next z) : z.tick = s.tick := by
  (rw [← next_inj h]; simp; done)
theorem execEmcyLostReport_tick (s : State) {z : State} (h : execEmcyLostReport s = .next z) : z.tick = s.tick := by
  (rw [← next_inj h]; simp; done)
theorem execCommit_tick (t : Transport) (group mask : Nat) (s : State) {z : State} (h : execCommit t group mask s = .next z) : z.tick = s.tick := by
  unfold execCommit at h
  rw [← next_inj h]
  exact State.request_tick _ _ (State.commandA_tick _ _ _ _ _ (commitOp_tick _ _ _))
theorem execDiscard_tick (t : Transport) (group mask : Nat) (s : State) {z : State} (h : execDiscard t group mask s = .next z) : z.tick = s.tick := by
  (unfold execDiscard at h; rw [← next_inj h]; refine State.request_tick _ _ ?_; (exact State.command_tick _ _ _ _ _ fun u hu => by first | exact discardOp_tick _ _ _ hu))
theorem execShadowWrite_later (t : Transport) (index sub : Nat) (data : Octets) (s : State) {z : State} (h : execShadowWrite t index sub data s = .next z) : Later s z := by
  rw [← next_inj h]; exact State.write_later ..
theorem execUnitEnableWrite_later (t : Transport) (sub : Nat) (data : Octets) (s : State) {z : State} (h : execUnitEnableWrite t sub data s = .next z) : Later s z := by
  rw [← next_inj h]; exact State.write_later ..
theorem execPlanImageDownload_tick (t : Transport) (image : Octets) (s : State) {z : State} (h : execPlanImageDownload t image s = .next z) : z.tick = s.tick := by
  (unfold execPlanImageDownload at h; rw [← next_inj h]; refine State.commandA_tick _ _ _ _ _ ?_; (repeat' (split <;> try dsimp only)) <;> first | (simp; done) | rfl | (simp (disch := (intros; (repeat' split) <;> (try simp))); done))
theorem execPlanCheckComplete_tick (s : State) {z : State} (h : execPlanCheckComplete s = .next z) : z.tick = s.tick := by
  (rw [← next_inj h]; simp; done)
theorem execSwapRequest_tick (t : Transport) (second : Nat) (s : State) {z : State} (h : execSwapRequest t second s = .next z) : z.tick = s.tick := by
  (rw [← next_inj h]; (exact State.command_tick _ _ _ _ _ fun u hu => by first | exact swapRequestOp_tick _ _ hu))
theorem execCancelSwap_tick (t : Transport) (value : Nat) (s : State) {z : State} (h : execCancelSwap t value s = .next z) : z.tick = s.tick := by
  (rw [← next_inj h]; (exact State.command_tick _ _ _ _ _ fun u hu => by first | exact cancelSwapOp_tick _ _ hu))
theorem execSwapLatch_tick (s : State) {z : State} (h : execSwapLatch s = .next z) : z.tick = s.tick := by
  (unfold execSwapLatch at h; rw [← next_inj h]; apply State.whenServing_tick; (repeat' (split <;> try dsimp only)) <;> first | (simp; done) | rfl)
theorem execSwapEntryWake_tick (s : State) {z : State} (h : execSwapEntryWake s = .next z) : z.tick = s.tick := by
  (unfold execSwapEntryWake at h; rw [← next_inj h]; apply State.whenServing_tick; (repeat' (split <;> try dsimp only)) <;> first | (simp; done) | rfl)
theorem execPlanSwap_tick (s : State) {z : State} (h : execPlanSwap s = .next z) : z.tick = s.tick := by
  (rw [← next_inj h]; simp; done)
theorem execSwapComplete_tick (s : State) {z : State} (h : execSwapComplete s = .next z) : z.tick = s.tick := by
  (rw [← next_inj h]; simp; done)
theorem execNtsReply_tick (eng : Nat) (s : State) {z : State} (h : execNtsReply eng s = .next z) : z.tick = s.tick := by
  unfold execNtsReply at h
  rw [← next_inj h]
  refine State.whenServing_tick _ _ (State.serve1_tick _ _ _ _ fun x r t => ?_)
  split <;> first | rfl | simp
theorem execPtpEvent_tick (eng : Nat) (s : State) {z : State} (h : execPtpEvent eng s = .next z) : z.tick = s.tick := by
  unfold execPtpEvent at h
  rw [← next_inj h]
  refine State.whenServing_tick _ _ (State.serve1_tick _ _ _ _ fun x r t => ?_)
  split <;> first | rfl | simp
theorem execPtpGeneral_tick (eng : Nat) (s : State) {z : State} (h : execPtpGeneral eng s = .next z) : z.tick = s.tick := by
  unfold execPtpGeneral at h
  rw [← next_inj h]
  refine State.whenServing_tick _ _ (State.serve1_tick _ _ _ _ fun x r t => ?_)
  split <;> first | rfl | simp
theorem execBeWindow_tick (eng : Nat) (s : State) {z : State} (h : execBeWindow eng s = .next z) : z.tick = s.tick := by
  (unfold execBeWindow at h; rw [← next_inj h]; apply State.whenServing_tick; (repeat' (split <;> try dsimp only)) <;> first | (simp; done) | rfl)
theorem execAesSivPass_tick (cluster : Nat) (s : State) {z : State} (h : execAesSivPass cluster s = .next z) : z.tick = s.tick := by
  (rw [← next_inj h]; simp; done)

theorem execHmacPass_tick (cluster : Nat) (s : State) {z : State} (h : execHmacPass cluster s = .next z) : z.tick = s.tick := by
  (rw [← next_inj h]; simp; done)
theorem execKnownAnswerTest_tick (kind cluster : Nat) (passA passB : Bool) (s : State) {z : State} (h : execKnownAnswerTest kind cluster passA passB s = .next z) : z.tick = s.tick := by
  (unfold execKnownAnswerTest at h; rw [← next_inj h]; apply State.whenServing_tick; (repeat' (split <;> try dsimp only)) <;> first | (simp; done) | rfl)
theorem execFixer_tick (kind cluster : Nat) (healthA healthB : Bool) (s : State) {z : State} (h : execFixer kind cluster healthA healthB s = .next z) : z.tick = s.tick := by
  (unfold execFixer at h; rw [← next_inj h]; apply State.whenServing_tick; (repeat' (split <;> try dsimp only)) <;> first | (simp; done) | rfl)
theorem execDepart_tick (pos : Nat) (s : State) {z : State} (h : execDepart pos s = .next z) : z.tick = s.tick := by
  (unfold execDepart at h; rw [← next_inj h]; apply State.whenServing_tick; (repeat' (split <;> try dsimp only)) <;> first | (simp; done) | rfl)
theorem execFastTermUpdate_tick (s : State) {z : State} (h : execFastTermUpdate s = .next z) : z.tick = s.tick := by
  (unfold execFastTermUpdate at h; rw [← next_inj h]; apply State.whenServing_tick; (repeat' (split <;> try dsimp only)) <;> first | (simp; done) | rfl)
theorem execEnsemblePart_tick (s : State) {z : State} (h : execEnsemblePart s = .next z) : z.tick = s.tick := by
  (unfold execEnsemblePart at h; rw [← next_inj h]; apply State.whenServing_tick; (repeat' (split <;> try dsimp only)) <;> first | (simp; done) | rfl)
theorem execWake_tick (s : State) {z : State} (h : execWake s = .next z) : z.tick = s.tick := by
  (unfold execWake at h; rw [← next_inj h]; apply State.whenServing_tick; (repeat' (split <;> try dsimp only)) <;> first | (simp; done) | rfl)
theorem execSleep_tick (s : State) {z : State} (h : execSleep s = .next z) : z.tick = s.tick := by
  (unfold execSleep at h; rw [← next_inj h]; apply State.whenServing_tick; (repeat' (split <;> try dsimp only)) <;> first | (simp; done) | rfl)
theorem execHandoffDeadline_tick (pos : Nat) (digestsEqual : Bool) (s : State) {z : State} (h : execHandoffDeadline pos digestsEqual s = .next z) : z.tick = s.tick := by
  (unfold execHandoffDeadline at h; rw [← next_inj h]; apply State.whenServing_tick; (repeat' (split <;> try dsimp only)) <;> first | (simp; done) | rfl)
theorem execDepartureMeasured_tick (lane : Nat) (residualFs : Int) (s : State) {z : State} (h : execDepartureMeasured lane residualFs s = .next z) : z.tick = s.tick := by
  unfold execDepartureMeasured at h
  rw [← next_inj h]
  refine State.whenServing_tick _ _ ?_
  extract_lets n p u0 ok
  have h0 : u0.tick = s.tick := by simp only [u0, State.setPort_tick]
  clear_value u0
  have h1 := State.drawNat_tick u0
  generalize u0.drawNat = q at h1
  obtain ⟨v, w⟩ := q
  dsimp only at h1 ⊢
  by_cases hk : ok = true
  · simp only [hk, if_true]
    split <;> simp [h0]
  · simp only [hk, if_false, Bool.false_eq_true]
    split <;> simp [h1, h0]
theorem execAlignmentLoss_tick (lane : Nat) (s : State) {z : State} (h : execAlignmentLoss lane s = .next z) : z.tick = s.tick := by
  (rw [← next_inj h]; simp; done)
theorem execAlignerRelock_tick (lane : Nat) (s : State) {z : State} (h : execAlignerRelock lane s = .next z) : z.tick = s.tick := by
  (rw [← next_inj h]; simp; done)
theorem execRequestExpire_tick (s : State) {z : State} (h : execRequestExpire s = .next z) : z.tick = s.tick := by
  (rw [← next_inj h]; simp; done)
theorem execFrameReceiveComplete_tick (lane : Nat) (f : RxFrame) (s : State) {z : State} (h : execFrameReceiveComplete lane f s = .next z) : z.tick = s.tick := by
  (unfold execFrameReceiveComplete at h; rw [← next_inj h]; apply State.whenServing_tick; (repeat' (split <;> try dsimp only)) <;> first | (simp; done) | rfl)
theorem execEntryForget_tick (s : State) {z : State} (h : execEntryForget s = .next z) : z.tick = s.tick := by
  (rw [← next_inj h]; simp; done)
theorem execRefinEdge_tick (r : Nat) (fine : Int) (s : State) {z : State} (h : execRefinEdge r fine s = .next z) : z.tick = s.tick := by
  (rw [← next_inj h]; simp; done)
theorem execEvinEdge_tick (i : Nat) (rising : Bool) (fine : Int) (s : State) {z : State} (h : execEvinEdge input rising fine s = .next z) : z.tick = s.tick := by
  (rw [← next_inj h]; simp; done)
theorem execGnssSampleBlock_tick (port : Nat) (framed : Bool) (age : Nat) (fine : Int) (samples : List GnssSample) (s : State) {z : State} (h : execGnssSampleBlock port framed age fine samples s = .next z) : z.tick = s.tick := by
  (rw [← next_inj h]; simp; done)
theorem execMediaFrameReceive_tick (m age : Nat) (fine : Int) (bclks : Nat) (slots : List Int) (s : State) {z : State} (h : execMediaFrameReceive m age fine bclks slots s = .next z) : z.tick = s.tick := by
  (rw [← next_inj h]; simp; done)
theorem execItemDelivery_tick (railError : Bool) (s : State) {z : State} (h : execItemDelivery railError s = .next z) : z.tick = s.tick := by
  (unfold execItemDelivery at h; rw [← next_inj h]; apply State.whenServing_tick; (repeat' (split <;> try dsimp only)) <;> first | (simp; done) | rfl)
theorem execIntakeFault_tick (source : Nat) (s : State) {z : State} (h : execIntakeFault source s = .next z) : z.tick = s.tick := by
  (rw [← next_inj h]; simp; done)
theorem execCommonClockFailure_tick (s : State) {z : State} (h : execCommonClockFailure s = .next z) : z.tick = s.tick := by
  (rw [← next_inj h]; simp; done)
theorem execTimeBaseSet_tick (t : Transport) (n value : Nat) (s : State) {z : State} (h : execTimeBaseSet t n value s = .next z) : z.tick = s.tick := by
  (rw [← next_inj h]; (exact State.command_tick _ _ _ _ _ fun u hu => by first | exact setBaseOp_tick _ _ _ hu))
theorem execTimeBaseStep_tick (t : Transport) (n : Nat) (ps : Int) (s : State) {z : State} (h : execTimeBaseStep t n ps s = .next z) : z.tick = s.tick := by
  (rw [← next_inj h]; (exact State.command_tick _ _ _ _ _ fun u hu => by first | exact stepBaseOp_tick _ _ _ hu))
theorem execArm_tick (t : Transport) (c : Nat) (s : State) {z : State} (h : execArm t c s = .next z) : z.tick = s.tick := by
  (rw [← next_inj h]; (exact State.command_tick _ _ _ _ _ fun u hu => by first | exact armOp_tick _ _ hu))
theorem execDisarm_tick (t : Transport) (c : Nat) (s : State) {z : State} (h : execDisarm t c s = .next z) : z.tick = s.tick := by
  (rw [← next_inj h]; (exact State.command_tick _ _ _ _ _ fun u hu => by first | exact disarmOp_tick _ _ hu))
theorem execCompareFire_tick (c : Nat) (s : State) {z : State} (h : execCompareFire c s = .next z) : z.tick = s.tick := by
  (rw [← next_inj h]; simp; done)
theorem execTodMessage_tick (p : Nat) (s : State) {z : State} (h : execTodMessage p s = .next z) : z.tick = s.tick := by
  (unfold execTodMessage at h; rw [← next_inj h]; apply State.whenServing_tick; dsimp only; (repeat' (split <;> try dsimp only)) <;> first | (simp; done) | rfl | (simp (disch := (intros; (repeat' split) <;> (try simp))); done))
theorem execCrossCapture_tick (t : Transport) (value : Nat) (s : State) {z : State} (h : execCrossCapture t value s = .next z) : z.tick = s.tick := by
  (rw [← next_inj h]; (exact State.command_tick _ _ _ _ _ fun u hu => by first | exact captureOp_tick _ _ hu))
theorem execLeapTableWrite_tick (t : Transport) (index sub : Nat) (data : Octets) (s : State) {z : State} (h : execLeapTableWrite t index sub data s = .next z) : z.tick = s.tick := by
  unfold execLeapTableWrite at h
  rw [← next_inj h]
  refine State.command_tick _ _ _ _ _ fun u hu => ?_
  (repeat' split at hu) <;> first
    | exact leapWriteOp_tick _ _ _ _ hu
    | exact error_tick hu
theorem execEventFifoRelease_tick (t : Transport) (input seq : Nat) (s : State) {z : State} (h : execEventFifoRelease t input seq s = .next z) : z.tick = s.tick := by
  (rw [← next_inj h]; (exact State.command_tick _ _ _ _ _ fun u hu => by first | exact fifoReleaseOp_tick _ _ _ hu))
theorem execClearFlags_tick (t : Transport) (index mask : Nat) (s : State) {z : State} (h : execClearFlags t index mask s = .next z) : z.tick = s.tick := by
  (rw [← next_inj h]; (exact State.command_tick _ _ _ _ _ fun u hu => by first | exact clearFlagsOp_tick _ _ _ hu))
theorem execTdcCalibrationComplete_tick (input : Nat) (bins : List Nat) (skew : Int) (s : State) {z : State} (h : execTdcCalibrationComplete input bins skew s = .next z) : z.tick = s.tick := by
  (rw [← next_inj h]; simp; done)
theorem execIntervalModeWrite_tick (t : Transport) (unit mode : Nat) (s : State) {z : State} (h : execIntervalModeWrite t unit mode s = .next z) : z.tick = s.tick := by
  (rw [← next_inj h]; (exact State.command_tick _ _ _ _ _ fun u hu => by first | exact intervalModeOp_tick _ _ _ hu))
theorem execGateEnd_tick (unit : Nat) (s : State) {z : State} (h : execGateEnd unit s = .next z) : z.tick = s.tick := by
  (rw [← next_inj h]; simp; done)
theorem execReferenceEnable_tick (t : Transport) (r value : Nat) (s : State) {z : State} (h : execReferenceEnable t r value s = .next z) : z.tick = s.tick := by
  (rw [← next_inj h]; (exact State.command_tick _ _ _ _ _ fun u hu => by first | exact referenceEnableOp_tick _ _ _ hu))
theorem execLoupeMeasurement_tick (r : Nat) (x : Int) (s : State) {z : State} (h : execLoupeMeasurement r x s = .next z) : z.tick = s.tick := by
  (unfold execLoupeMeasurement at h; rw [← next_inj h]; apply State.whenServing_tick; (repeat' (split <;> try dsimp only)) <;> first | (simp; done) | rfl)
theorem execReferenceLoss_tick (r : Nat) (s : State) {z : State} (h : execReferenceLoss r s = .next z) : z.tick = s.tick := by
  (rw [← next_inj h]; simp; done)
theorem execFrequencyOutOfWindow_tick (r : Nat) (y : Int) (s : State) {z : State} (h : execFrequencyOutOfWindow r y s = .next z) : z.tick = s.tick := by
  (rw [← next_inj h]; simp; done)
theorem execHoldOffEnd_tick (r : Nat) (s : State) {z : State} (h : execHoldOffEnd r s = .next z) : z.tick = s.tick := by
  (rw [← next_inj h]; simp; done)

theorem execManualSelection_tick (t : Transport) (value : Nat) (s : State) {z : State} (h : execManualSelection t value s = .next z) : z.tick = s.tick := by
  (rw [← next_inj h]; (exact State.command_tick _ _ _ _ _ fun u hu => by first | exact manualSelectionOp_tick _ _ hu))
theorem execClearChallenge_tick (t : Transport) (mask : Nat) (s : State) {z : State} (h : execClearChallenge t mask s = .next z) : z.tick = s.tick := by
  (rw [← next_inj h]; (exact State.command_tick _ _ _ _ _ fun u hu => by first | exact clearChallengeOp_tick _ _ hu))
theorem execEsmcInformationPdu_tick (lane : Nat) (s : State) {z : State} (h : execEsmcInformationPdu lane s = .next z) : z.tick = s.tick := by
  (rw [← next_inj h]; simp; done)
theorem execEsmcEventPdu_tick (lane : Nat) (s : State) {z : State} (h : execEsmcEventPdu lane s = .next z) : z.tick = s.tick := by
  (rw [← next_inj h]; simp; done)
theorem execUpstreamPoll_tick (inst : Nat) (s : State) {z : State} (h : execUpstreamPoll inst s = .next z) : z.tick = s.tick := by
  (rw [← next_inj h]; simp; done)
theorem execCookieLoad_tick (t : Transport) (inst : Nat) (data : Octets) (s : State) {z : State} (h : execCookieLoad t inst data s = .next z) : z.tick = s.tick := by
  (rw [← next_inj h]; (exact State.command_tick _ _ _ _ _ fun u hu => by first | exact cookieLoadOp_tick _ _ _ hu))
theorem execRegistrationStep_tick (t : Transport) (s : State) {z : State} (h : execRegistrationStep t s = .next z) : z.tick = s.tick := by
  (rw [← next_inj h]; (exact State.command_tick _ _ _ _ _ fun u hu => by first | exact registrationStepOp_tick _ hu))
theorem execSlowSlew_tick (t : Transport) (s : State) {z : State} (h : execSlowSlew t s = .next z) : z.tick = s.tick := by
  (rw [← next_inj h]; (exact State.command_tick _ _ _ _ _ fun u hu => by first | exact slowSlewOp_tick _ hu))
theorem execRegistrationCancel_tick (t : Transport) (s : State) {z : State} (h : execRegistrationCancel t s = .next z) : z.tick = s.tick := by
  (rw [← next_inj h]; (exact State.command_tick _ _ _ _ _ fun u hu => by first | exact registrationCancelOp_tick _ hu))
theorem execRegistrationLatch_tick (s : State) {z : State} (h : execRegistrationLatch s = .next z) : z.tick = s.tick := by
  (unfold execRegistrationLatch at h; rw [← next_inj h]; apply State.whenServing_tick; (repeat' (split <;> try dsimp only)) <;> first | (simp; done) | rfl)
theorem execGateStart_tick (s : State) {z : State} (h : execGateStart s = .next z) : z.tick = s.tick := by
  (rw [← next_inj h]; simp; done)
theorem execGateRelease_tick (s : State) {z : State} (h : execGateRelease s = .next z) : z.tick = s.tick := by
  (rw [← next_inj h]; simp; done)
theorem execRegistrationComplete_tick (s : State) {z : State} (h : execRegistrationComplete s = .next z) : z.tick = s.tick := by
  (unfold execRegistrationComplete at h; rw [← next_inj h]; apply State.whenServing_tick; (repeat' (split <;> try dsimp only)) <;> first | (simp; done) | rfl)
theorem execDpllUpdate_tick (d : Nat) (error : Int) (s : State) {z : State} (h : execDpllUpdate d error s = .next z) : z.tick = s.tick := by
  (unfold execDpllUpdate at h; rw [← next_inj h]; apply State.whenServing_tick; (repeat' (split <;> try dsimp only)) <;> first | (simp; done) | rfl)
theorem execDpllStageEnd_tick (d : Nat) (s : State) {z : State} (h : execDpllStageEnd d s = .next z) : z.tick = s.tick := by
  (rw [← next_inj h]; simp; done)
theorem execOpllSafePoint_tick (o : Nat) (inRangeA inRangeB : Bool) (s : State) {z : State} (h : execOpllSafePoint o inRangeA inRangeB s = .next z) : z.tick = s.tick := by
  (rw [← next_inj h]; simp; done)
theorem execRampUpdate_tick (s : State) {z : State} (h : execRampUpdate s = .next z) : z.tick = s.tick := by
  (rw [← next_inj h]; simp; done)
theorem execLockDetected_tick (o : Nat) (a b : BandResult) (s : State) {z : State} (h : execLockDetected o a b s = .next z) : z.tick = s.tick := by
  (rw [← next_inj h]; simp; done)
theorem execRecipeLockTimeout_tick (o : Nat) (s : State) {z : State} (h : execRecipeLockTimeout o s = .next z) : z.tick = s.tick := by
  (rw [← next_inj h]; simp; done)
theorem execAlignmentCorrection_tick (c : Nat) (measuredA measuredB : Int) (s : State) {z : State} (h : execAlignmentCorrection c measuredA measuredB s = .next z) : z.tick = s.tick := by
  (rw [← next_inj h]; simp; done)
theorem execLockQualified_tick (o ns : Nat) (s : State) {z : State} (h : execLockQualified o ns s = .next z) : z.tick = s.tick := by
  (unfold execLockQualified at h; rw [← next_inj h]; apply State.whenServing_tick; dsimp only; (repeat' (split <;> try dsimp only)) <;> first | (simp; done) | rfl | (simp (disch := (intros; (repeat' split) <;> (try simp))); done))
theorem execSearchTimeout_tick (o : Nat) (s : State) {z : State} (h : execSearchTimeout o s = .next z) : z.tick = s.tick := by
  (rw [← next_inj h]; simp; done)
theorem execLockLoss_tick (o : Nat) (a b : Bool) (s : State) {z : State} (h : execLockLoss o a b s = .next z) : z.tick = s.tick := by
  (rw [← next_inj h]; simp; done)
theorem execLockSenseMismatch_tick (o plate : Nat) (s : State) {z : State} (h : execLockSenseMismatch o plate s = .next z) : z.tick = s.tick := by
  (rw [← next_inj h]; simp; done)
theorem execOutputRegistration_tick (t : Transport) (c value : Nat) (s : State) {z : State} (h : execOutputRegistration t c value s = .next z) : z.tick = s.tick := by
  (rw [← next_inj h]; (exact State.command_tick _ _ _ _ _ fun u hu => by first | exact outputRegistrationOp_tick _ _ _ hu))
theorem execChannelSafePoint_tick (c : Nat) (s : State) {z : State} (h : execChannelSafePoint c s = .next z) : z.tick = s.tick := by
  (rw [← next_inj h]; simp; done)
theorem execRecipeInvalidate_tick (t : Transport) (mask : Nat) (s : State) {z : State} (h : execRecipeInvalidate t mask s = .next z) : z.tick = s.tick := by
  (rw [← next_inj h]; (exact State.command_tick _ _ _ _ _ fun u hu => by first | exact invalidateRecipesOp_tick _ _ hu))
theorem execSamplePortFault_tick (p : Nat) (noDclk : Bool) (s : State) {z : State} (h : execSamplePortFault p noDclk s = .next z) : z.tick = s.tick := by
  (rw [← next_inj h]; simp; done)
theorem execAcquisitionCaptureEnd_tick (s : State) {z : State} (h : execAcquisitionCaptureEnd s = .next z) : z.tick = s.tick := by
  (unfold execAcquisitionCaptureEnd at h; rw [← next_inj h]; apply State.whenServing_tick; (repeat' (split <;> try dsimp only)) <;> first | (simp; done) | rfl)
theorem execAcquisitionComplete_tick (s : State) {z : State} (h : execAcquisitionComplete s = .next z) : z.tick = s.tick := by
  (rw [← next_inj h]; simp; done)
theorem execNavigationUpload_tick (t : Transport) (data : Octets) (s : State) {z : State} (h : execNavigationUpload t data s = .next z) : z.tick = s.tick := by
  (rw [← next_inj h]; (exact State.command_tick _ _ _ _ _ fun u hu => by first | exact navigationUploadOp_tick _ _ hu))
theorem execSolutionDelivery_tick (p : Nat) (s : State) {z : State} (h : execSolutionDelivery p s = .next z) : z.tick = s.tick := by
  (rw [← next_inj h]; simp; done)
theorem execClearExclusion_tick (t : Transport) (mask : Nat) (s : State) {z : State} (h : execClearExclusion t mask s = .next z) : z.tick = s.tick := by
  (rw [← next_inj h]; (exact State.command_tick _ _ _ _ _ fun u hu => by first | exact clearExclusionOp_tick _ _ hu))
theorem execSurveyComplete_tick (p : Nat) (s : State) {z : State} (h : execSurveyComplete p s = .next z) : z.tick = s.tick := by
  (rw [← next_inj h]; simp; done)
theorem execSnapshotArm_tick (t : Transport) (s : State) {z : State} (h : execSnapshotArm t s = .next z) : z.tick = s.tick := by
  (rw [← next_inj h]; (exact State.command_tick _ _ _ _ _ fun u hu => by first | exact snapshotArmOp_tick _ hu | exact snapshotCancelOp_tick _ hu | exact snapshotProcessOp_tick _ hu | exact snapshotReleaseOp_tick _ hu))
theorem execSnapshotCancel_tick (t : Transport) (s : State) {z : State} (h : execSnapshotCancel t s = .next z) : z.tick = s.tick := by
  (rw [← next_inj h]; (exact State.command_tick _ _ _ _ _ fun u hu => by first | exact snapshotCancelOp_tick _ hu | exact snapshotProcessOp_tick _ hu | exact snapshotReleaseOp_tick _ hu))
theorem execSnapshotProcess_tick (t : Transport) (s : State) {z : State} (h : execSnapshotProcess t s = .next z) : z.tick = s.tick := by
  (rw [← next_inj h]; (exact State.command_tick _ _ _ _ _ fun u hu => by first | exact snapshotProcessOp_tick _ hu | exact snapshotReleaseOp_tick _ hu))
theorem execSnapshotRelease_tick (t : Transport) (s : State) {z : State} (h : execSnapshotRelease t s = .next z) : z.tick = s.tick := by
  (rw [← next_inj h]; (exact State.command_tick _ _ _ _ _ fun u hu => by first | exact snapshotReleaseOp_tick _ hu))
theorem execSnapshotCaptured_tick (s : State) {z : State} (h : execSnapshotCaptured s = .next z) : z.tick = s.tick := by
  (rw [← next_inj h]; simp; done)
theorem execSnapshotProcessed_tick (s : State) {z : State} (h : execSnapshotProcessed s = .next z) : z.tick = s.tick := by
  (unfold execSnapshotProcessed at h; rw [← next_inj h]; apply State.whenServing_tick; (repeat' (split <;> try dsimp only)) <;> first | (simp; done) | rfl)

theorem execTrackEnd_tick (s : State) {z : State} (h : execTrackEnd s = .next z) : z.tick = s.tick := by
  (unfold execTrackEnd at h; rw [← next_inj h]; apply State.whenServing_tick; (repeat' (split <;> try dsimp only)) <;> first | (simp; done) | rfl)
theorem execTrackFifoRelease_tick (t : Transport) (seq : Nat) (s : State) {z : State} (h : execTrackFifoRelease t seq s = .next z) : z.tick = s.tick := by
  (rw [← next_inj h]; (exact State.command_tick _ _ _ _ _ fun u hu => by first | exact trackReleaseOp_tick _ _ hu))
theorem execLinkDown_tick (lane : Nat) (s : State) {z : State} (h : execLinkDown lane s = .next z) : z.tick = s.tick := by
  (unfold execLinkDown at h; rw [← next_inj h]; apply State.whenServing_tick; dsimp only; (repeat' (split <;> try dsimp only)) <;> first | (simp; done) | rfl | (simp (disch := (intros; (repeat' split) <;> (try simp))); done))
theorem execNegotiationComplete_tick (lane : Nat) (outcome : Option NegotiationResult) (s : State) {z : State} (h : execNegotiationComplete lane outcome s = .next z) : z.tick = s.tick := by
  (unfold execNegotiationComplete at h; rw [← next_inj h]; (repeat' (split <;> try dsimp only)) <;> first | (simp; done) | rfl)
theorem execLinkUp_tick (lane : Nat) (s : State) {z : State} (h : execLinkUp lane s = .next z) : z.tick = s.tick := by
  (unfold execLinkUp at h; rw [← next_inj h]; apply State.whenServing_tick; (repeat' (split <;> try dsimp only)) <;> first | (simp; done) | rfl)
theorem execCalibrationComplete_tick (lane : Nat) (tx rx : Int) (pass : Bool) (s : State) {z : State} (h : execCalibrationComplete lane tx rx pass s = .next z) : z.tick = s.tick := by
  (rw [← next_inj h]; simp; done)
theorem execLoopback_tick (t : Transport) (lane value : Nat) (s : State) {z : State} (h : execLoopback t lane value s = .next z) : z.tick = s.tick := by
  (rw [← next_inj h]; (exact State.command_tick _ _ _ _ _ fun u hu => by first | exact loopbackOp_tick _ _ _ hu))
theorem execTxTimestampComplete_tick (lane : Nat) (status : Nat) (s : State) {z : State} (h : execTxTimestampComplete lane status s = .next z) : z.tick = s.tick := by
  unfold execTxTimestampComplete at h
  rw [← next_inj h]
  refine State.whenServing_tick _ _ ?_
  extract_lets n p hold
  split
  · rfl
  · extract_lets u0
    have h0 : u0.tick = s.tick := by simp only [u0, State.setPort_tick]
    clear_value u0 hold
    split
    · exact h0
    · split
      · rw [State.txComplete_tick, h0]
      · have h1 : (u0.departStamp n hold).2.tick = u0.tick := State.drawNat_tick u0
        generalize u0.departStamp n hold = q at h1
        obtain ⟨a, u⟩ := q
        dsimp only at h1 ⊢
        rw [State.txComplete_tick, h1, h0]
theorem execTxTimestampRelease_tick (t : Transport) (lane seq : Nat) (s : State) {z : State} (h : execTxTimestampRelease t lane seq s = .next z) : z.tick = s.tick := by
  (rw [← next_inj h]; (exact State.command_tick _ _ _ _ _ fun u hu => by first | exact txReleaseOp_tick _ _ _ hu))
theorem execPauseExpire_tick (lane queue : Nat) (s : State) {z : State} (h : execPauseExpire lane queue s = .next z) : z.tick = s.tick := by
  (rw [← next_inj h]; simp; done)
theorem execLldpTransmit_tick (lane : Nat) (s : State) {z : State} (h : execLldpTransmit lane s = .next z) : z.tick = s.tick := by
  (rw [← next_inj h]; simp; done)
theorem execBestEffortStart_tick (lane : Nat) (s : State) {z : State} (h : execBestEffortStart lane s = .next z) : z.tick = s.tick := by
  (rw [← next_inj h]; simp; done)
theorem execHeadAgeDrop_tick (plate queue : Nat) (s : State) {z : State} (h : execHeadAgeDrop plate queue s = .next z) : z.tick = s.tick := by
  (unfold execHeadAgeDrop at h; rw [← next_inj h]; apply State.whenServing_tick; (repeat' (split <;> try dsimp only)) <;> first | (simp; done) | rfl)
theorem execStagingWrite_tick (s : State) {z : State} (h : execStagingWrite s = .next z) : z.tick = s.tick := by
  (rw [← next_inj h]; simp; done)
theorem execHostTransmit_tick (t : Transport) (data : Octets) (s : State) {z : State} (h : execHostTransmit t data s = .next z) : z.tick = s.tick := by
  (rw [← next_inj h]; (exact State.command_tick _ _ _ _ _ fun u hu => by first | exact hostTransmitOp_tick _ _ hu))
theorem execHostReceiveRelease_tick (t : Transport) (seq : Nat) (s : State) {z : State} (h : execHostReceiveRelease t seq s = .next z) : z.tick = s.tick := by
  (rw [← next_inj h]; (exact State.command_tick _ _ _ _ _ fun u hu => by first | exact hostReleaseOp_tick _ _ hu))
theorem execForwardingEntryWrite_tick (t : Transport) (data : Octets) (s : State) {z : State} (h : execForwardingEntryWrite t data s = .next z) : z.tick = s.tick := by
  unfold execForwardingEntryWrite at h
  rw [← next_inj h]
  refine State.command_tick _ _ _ _ _ fun u hu => ?_
  split at hu
  · exact error_tick hu
  · exact forwardingOp_tick _ _ hu
theorem execClearPeak_tick (t : Transport) (index : Nat) (s : State) {z : State} (h : execClearPeak t index s = .next z) : z.tick = s.tick := by
  (rw [← next_inj h]; (exact State.command_tick _ _ _ _ _ fun u hu => by first | exact clearPeakOp_tick _ _ hu))
theorem execInstanceEnable_tick (t : Transport) (index value : Nat) (s : State) {z : State} (h : execInstanceEnable t index value s = .next z) : z.tick = s.tick := by
  (rw [← next_inj h]; (exact State.command_tick _ _ _ _ _ fun u hu => by first | exact instanceEnableOp_tick _ _ _ hu))
theorem execListeningEnd_tick (inst pos : Nat) (s : State) {z : State} (h : execListeningEnd inst pos s = .next z) : z.tick = s.tick := by
  (unfold execListeningEnd at h; rw [← next_inj h]; apply State.whenServing_tick; dsimp only; (repeat' (split <;> try dsimp only)) <;> first | (simp; done) | rfl | (simp (disch := (intros; (repeat' split) <;> (try simp))); done))
theorem execGrantExpire_tick (record kind : Nat) (s : State) {z : State} (h : execGrantExpire record kind s = .next z) : z.tick = s.tick := by
  (rw [← next_inj h]; simp; done)
theorem execPdelayReqTransmit_tick (inst pos : Nat) (s : State) {z : State} (h : execPdelayReqTransmit inst pos s = .next z) : z.tick = s.tick := by
  (rw [← next_inj h]; simp; done)
theorem execRecordQuarantine_tick (record : Nat) (s : State) {z : State} (h : execRecordQuarantine record s = .next z) : z.tick = s.tick := by
  (rw [← next_inj h]; simp; done)
theorem execCancelGrants_tick (t : Transport) (s : State) {z : State} (h : execCancelGrants t s = .next z) : z.tick = s.tick := by
  (rw [← next_inj h]; (exact State.command_tick _ _ _ _ _ fun u hu => by first | exact cancelGrantsOp_tick _ hu))
theorem execClearQuarantine_tick (t : Transport) (s : State) {z : State} (h : execClearQuarantine t s = .next z) : z.tick = s.tick := by
  (rw [← next_inj h]; (exact State.command_tick _ _ _ _ _ fun u hu => by first | exact clearQuarantineOp_tick _ hu))
theorem execKeyImport_tick (t : Transport) (data : Octets) (s : State) {z : State} (h : execKeyImport t data s = .next z) : z.tick = s.tick := by
  (unfold execKeyImport at h; rw [← next_inj h]; refine State.commandA_tick _ _ _ _ _ ?_; (repeat' (split <;> try dsimp only)) <;> first | (simp; done) | rfl | (simp (disch := (intros; (repeat' split) <;> (try simp))); done))
theorem execRootLoad_tick (t : Transport) (data : Octets) (s : State) {z : State} (h : execRootLoad t data s = .next z) : z.tick = s.tick := by
  (rw [← next_inj h]; (exact State.command_tick _ _ _ _ _ fun u hu => by first | exact rootLoadOp_tick _ _ hu))
theorem execSignedPolicyRelease_tick (t : Transport) (data : Octets) (s : State) {z : State} (h : execSignedPolicyRelease t data s = .next z) : z.tick = s.tick := by
  (rw [← next_inj h]; (exact State.command_tick _ _ _ _ _ fun u hu => by first | exact policyReleaseOp_tick _ _ hu))
theorem execInvalidate_tick (t : Transport) (value : Nat) (s : State) {z : State} (h : execInvalidate t value s = .next z) : z.tick = s.tick := by
  (rw [← next_inj h]; (exact State.command_tick _ _ _ _ _ fun u hu => by first | exact invalidateOp_tick _ _ hu))
theorem execOrphanErase_tick (s : State) {z : State} (h : execOrphanErase s = .next z) : z.tick = s.tick := by
  (rw [← next_inj h]; simp; done)
theorem execCookieGenerationWrite_tick (t : Transport) (sub value : Nat) (s : State) {z : State} (h : execCookieGenerationWrite t sub value s = .next z) : z.tick = s.tick := by
  (rw [← next_inj h]; (exact State.command_tick _ _ _ _ _ fun u hu => by first | exact cookieGenerationOp_tick _ _ _ hu))
theorem execAssociationEntryWrite_tick (t : Transport) (data : Octets) (s : State) {z : State} (h : execAssociationEntryWrite t data s = .next z) : z.tick = s.tick := by
  (rw [← next_inj h]; (exact State.command_tick _ _ _ _ _ fun u hu => by first | exact associationOp_tick _ _ hu))
theorem execTamperEnableWrite_tick (t : Transport) (value : Nat) (s : State) {z : State} (h : execTamperEnableWrite t value s = .next z) : z.tick = s.tick := by
  (rw [← next_inj h]; (exact State.command_tick _ _ _ _ _ fun u hu => by first | exact tamperEnableOp_tick _ _ hu))
theorem execZeroisation_tick (cause : Nat) (s : State) {z : State} (h : execZeroisation cause s = .next z) : z.tick = s.tick := by
  (rw [← next_inj h]; simp; done)
theorem execRootRemask_tick (s : State) {z : State} (h : execRootRemask s = .next z) : z.tick = s.tick := by
  (unfold execRootRemask at h; rw [← next_inj h]; (repeat' (split <;> try dsimp only)) <;> first | (simp; done) | rfl)
theorem execClockLoss_tick (m : Nat) (s : State) {z : State} (h : execClockLoss m s = .next z) : z.tick = s.tick := by
  (rw [← next_inj h]; simp; done)
theorem execClockStable_tick (m : Nat) (s : State) {z : State} (h : execClockStable m s = .next z) : z.tick = s.tick := by
  (rw [← next_inj h]; simp; done)
theorem execMediaFrameStart_tick (m : Nat) (s : State) {z : State} (h : execMediaFrameStart m s = .next z) : z.tick = s.tick := by
  (rw [← next_inj h]; simp; done)
theorem execMediaSafePoint_tick (m : Nat) (s : State) {z : State} (h : execMediaSafePoint m s = .next z) : z.tick = s.tick := by
  (rw [← next_inj h]; simp; done)
theorem execChannelEnable_tick (t : Transport) (value : Nat) (s : State) {z : State} (h : execChannelEnable t value s = .next z) : z.tick = s.tick := by
  (rw [← next_inj h]; (exact State.command_tick _ _ _ _ _ fun u hu => by first | exact channelEnableOp_tick _ _ hu))

theorem execGateSwitch_tick (m c : Nat) (s : State) {z : State} (h : execGateSwitch m c s = .next z) : z.tick = s.tick := by
  (rw [← next_inj h]; simp; done)
theorem execGateTimeout_tick (m c : Nat) (s : State) {z : State} (h : execGateTimeout m c s = .next z) : z.tick = s.tick := by
  (rw [← next_inj h]; simp; done)
theorem execGridRestart_tick (m : Nat) (s : State) {z : State} (h : execGridRestart m s = .next z) : z.tick = s.tick := by
  (unfold execGridRestart at h; rw [← next_inj h]; apply State.whenServing_tick; (repeat' (split <;> try dsimp only)) <;> first | (simp; done) | rfl)
theorem execCombinerFault_tick (m : Nat) (s : State) {z : State} (h : execCombinerFault m s = .next z) : z.tick = s.tick := by
  (rw [← next_inj h]; simp; done)
theorem execMediaLoopback_tick (t : Transport) (m value : Nat) (s : State) {z : State} (h : execMediaLoopback t m value s = .next z) : z.tick = s.tick := by
  (rw [← next_inj h]; (exact State.command_tick _ _ _ _ _ fun u hu => by first | exact mediaLoopbackOp_tick _ _ _ hu))
theorem execRoleSwap_tick (t : Transport) (s : State) {z : State} (h : execRoleSwap t s = .next z) : z.tick = s.tick := by
  (rw [← next_inj h]; (exact State.command_tick _ _ _ _ _ fun u hu => by first | exact roleSwapOp_tick _ hu))
theorem execStandbyToProof_tick (t : Transport) (s : State) {z : State} (h : execStandbyToProof t s = .next z) : z.tick = s.tick := by
  (rw [← next_inj h]; (exact State.command_tick _ _ _ _ _ fun u hu => by first | exact standbyToProofOp_tick _ hu))
theorem execDivergence_tick (point detail : Nat) (s : State) {z : State} (h : execDivergence point detail s = .next z) : z.tick = s.tick := by
  (rw [← next_inj h]; simp; done)
theorem execProofComplete_tick (plate : Nat) (pass : Bool) (test ms : Nat) (s : State) {z : State} (h : execProofComplete plate pass test ms s = .next z) : z.tick = s.tick := by
  (rw [← next_inj h]; simp; done)
theorem execResyncStart_tick (plate : Nat) (s : State) {z : State} (h : execResyncStart plate s = .next z) : z.tick = s.tick := by
  (unfold execResyncStart at h; rw [← next_inj h]; apply State.whenServing_tick; (repeat' (split <;> try dsimp only)) <;> first | (simp; done) | rfl)
theorem execResyncSnapshot_tick (s : State) {z : State} (h : execResyncSnapshot s = .next z) : z.tick = s.tick := by
  (unfold execResyncSnapshot at h; rw [← next_inj h]; apply State.whenServing_tick; (repeat' (split <;> try dsimp only)) <;> first | (simp; done) | rfl)
theorem execDigestCompare_tick (equal : Bool) (s : State) {z : State} (h : execDigestCompare equal s = .next z) : z.tick = s.tick := by
  (unfold execDigestCompare at h; rw [← next_inj h]; apply State.whenServing_tick; (repeat' (split <;> try dsimp only)) <;> first | (simp; done) | rfl)
theorem execJoin_tick (s : State) {z : State} (h : execJoin s = .next z) : z.tick = s.tick := by
  (unfold execJoin at h; rw [← next_inj h]; apply State.whenServing_tick; (repeat' (split <;> try dsimp only)) <;> first | (simp; done) | rfl)
theorem execMirrorStop_tick (s : State) {z : State} (h : execMirrorStop s = .next z) : z.tick = s.tick := by
  (unfold execMirrorStop at h; rw [← next_inj h]; apply State.whenServing_tick; (repeat' (split <;> try dsimp only)) <;> first | (simp; done) | rfl)
theorem execPlateResetEnd_tick (plate : Nat) (s : State) {z : State} (h : execPlateResetEnd plate s = .next z) : z.tick = s.tick := by
  (unfold execPlateResetEnd at h; rw [← next_inj h]; apply State.whenServing_tick; (repeat' (split <;> try dsimp only)) <;> first | (simp; done) | rfl)
theorem execSupervisionTransmit_tick (pos : Nat) (s : State) {z : State} (h : execSupervisionTransmit pos s = .next z) : z.tick = s.tick := by
  (rw [← next_inj h]; simp; done)
theorem execErrorLineEvent_tick (events : List LineEvent) (s : State) {z : State} (h : execErrorLineEvent events s = .next z) : z.tick = s.tick := by
  (rw [← next_inj h]; simp; done)
theorem execContactSheetSave_tick (s : State) {z : State} (h : execContactSheetSave s = .next z) : z.tick = s.tick := by
  (rw [← next_inj h]; simp; done)
theorem execStatusClear_tick (t : Transport) (word mask : Nat) (s : State) {z : State} (h : execStatusClear t word mask s = .next z) : z.tick = s.tick := by
  unfold execStatusClear at h
  rw [← next_inj h, settleRegister_tick]
  exact State.command_tick _ _ _ _ _ fun u hu => statusClearOp_tick _ _ _ hu
theorem execSevereHoldEnd_tick (source : Nat) (s : State) {z : State} (h : execSevereHoldEnd source s = .next z) : z.tick = s.tick := by
  (unfold execSevereHoldEnd at h; rw [← next_inj h]; apply State.whenServing_tick; dsimp only; (repeat' (split <;> try dsimp only)) <;> first | (simp; done) | rfl | (simp (disch := (intros; (repeat' split) <;> (try simp))); done))
theorem execClearAddress_tick (t : Transport) (address : Nat) (s : State) {z : State} (h : execClearAddress t address s = .next z) : z.tick = s.tick := by
  (rw [← next_inj h]; (exact State.command_tick _ _ _ _ _ fun u hu => by first | exact clearAddressOp_tick _ _ hu))
theorem execClearLanes_tick (t : Transport) (mask : Nat) (s : State) {z : State} (h : execClearLanes t mask s = .next z) : z.tick = s.tick := by
  (rw [← next_inj h]; (exact State.command_tick _ _ _ _ _ fun u hu => by first | exact clearLanesOp_tick _ _ hu))
theorem execContactSheetClear_tick (t : Transport) (value : Nat) (s : State) {z : State} (h : execContactSheetClear t value s = .next z) : z.tick = s.tick := by
  (rw [← next_inj h]; (exact State.command_tick _ _ _ _ _ fun u hu => by first | exact contactClearOp_tick _ _ hu))
theorem execInjectCorrected_tick (t : Transport) (s : State) {z : State} (h : execInjectCorrected t s = .next z) : z.tick = s.tick := by
  (rw [← next_inj h]; (exact State.command_tick _ _ _ _ _ fun u hu => by first | exact injectOp_tick _ _ hu))
theorem execInjectContained_tick (t : Transport) (s : State) {z : State} (h : execInjectContained t s = .next z) : z.tick = s.tick := by
  (rw [← next_inj h]; (exact State.command_tick _ _ _ _ _ fun u hu => by first | exact injectOp_tick _ _ hu))
theorem execInjectFatal_tick (t : Transport) (s : State) {z : State} (h : execInjectFatal t s = .next z) : z.tick = s.tick := by
  (rw [← next_inj h]; (exact State.command_tick _ _ _ _ _ fun u hu => by first | exact injectOp_tick _ _ hu))
theorem execResetRelease_tick (pins : BootPins) (s : State) {z : State} (h : execResetRelease pins s = .next z) : z.tick = s.tick := by
  (rw [← next_inj h]; simp; done)
theorem execSelfTestComplete_tick (result straps : Nat) (s : State) {z : State} (h : execSelfTestComplete result straps s = .next z) : z.tick = s.tick := by
  (rw [← next_inj h]; simp; done)
theorem execFirmwareApplied_tick (s : State) {z : State} (h : execFirmwareApplied s = .next z) : z.tick = s.tick := by
  (unfold execFirmwareApplied at h; rw [← next_inj h]; (repeat' (split <;> try dsimp only)) <;> first | (simp; done) | rfl)
theorem execBootPlanChecked_tick (s : State) {z : State} (h : execBootPlanChecked s = .next z) : z.tick = s.tick := by
  (unfold execBootPlanChecked at h; rw [← next_inj h]; (repeat' (split <;> try dsimp only)) <;> first | (simp; done) | rfl)
theorem execTimeBaseRestore_tick (s : State) {z : State} (h : execTimeBaseRestore s = .next z) : z.tick = s.tick := by
  (rw [← next_inj h]; simp; done)
theorem execDeviceReset_tick (t : Transport) (s : State) {z : State} (h : execDeviceReset t s = .next z) : z.tick = s.tick := by
  (rw [← next_inj h]; (exact State.command_tick _ _ _ _ _ fun u hu => by first | exact resetOp_tick _ _ hu))
theorem execDeviceResetWithDefaults_tick (t : Transport) (s : State) {z : State} (h : execDeviceResetWithDefaults t s = .next z) : z.tick = s.tick := by
  (rw [← next_inj h]; (exact State.command_tick _ _ _ _ _ fun u hu => by first | exact resetOp_tick _ _ hu))
theorem execReinitialisePort_tick (t : Transport) (inst : Nat) (s : State) {z : State} (h : execReinitialisePort t inst s = .next z) : z.tick = s.tick := by
  (rw [← next_inj h]; (exact State.command_tick _ _ _ _ _ fun u hu => by first | exact reinitOp_tick _ _ hu))
theorem execReinitialiseLoupe_tick (t : Transport) (inst : Nat) (s : State) {z : State} (h : execReinitialiseLoupe t inst s = .next z) : z.tick = s.tick := by
  (rw [← next_inj h]; (exact State.command_tick _ _ _ _ _ fun u hu => by first | exact reinitOp_tick _ _ hu))
theorem execReinitialiseDpll_tick (t : Transport) (inst : Nat) (s : State) {z : State} (h : execReinitialiseDpll t inst s = .next z) : z.tick = s.tick := by
  (rw [← next_inj h]; (exact State.command_tick _ _ _ _ _ fun u hu => by first | exact reinitOp_tick _ _ hu))
theorem execReinitialiseOutputPll_tick (t : Transport) (inst : Nat) (s : State) {z : State} (h : execReinitialiseOutputPll t inst s = .next z) : z.tick = s.tick := by
  (rw [← next_inj h]; (exact State.command_tick _ _ _ _ _ fun u hu => by first | exact reinitOp_tick _ _ hu))
theorem execReinitialiseGnss_tick (t : Transport) (s : State) {z : State} (h : execReinitialiseGnss t s = .next z) : z.tick = s.tick := by
  (rw [← next_inj h]; (exact State.command_tick _ _ _ _ _ fun u hu => by first | exact reinitOp_tick _ _ hu))
theorem execReinitialiseMediaPort_tick (t : Transport) (inst : Nat) (s : State) {z : State} (h : execReinitialiseMediaPort t inst s = .next z) : z.tick = s.tick := by
  (rw [← next_inj h]; (exact State.command_tick _ _ _ _ _ fun u hu => by first | exact reinitOp_tick _ _ hu))
theorem execReinitialiseServingGroup_tick (t : Transport) (inst : Nat) (s : State) {z : State} (h : execReinitialiseServingGroup t inst s = .next z) : z.tick = s.tick := by
  (rw [← next_inj h]; (exact State.command_tick _ _ _ _ _ fun u hu => by first | exact reinitOp_tick _ _ hu))

theorem execReinitialisePlate_tick (t : Transport) (inst : Nat) (s : State) {z : State} (h : execReinitialisePlate t inst s = .next z) : z.tick = s.tick := by
  (rw [← next_inj h]; (exact State.command_tick _ _ _ _ _ fun u hu => by first | exact reinitOp_tick _ _ hu))
theorem execReinitialiseDeveloper_tick (t : Transport) (s : State) {z : State} (h : execReinitialiseDeveloper t s = .next z) : z.tick = s.tick := by
  (rw [← next_inj h]; (exact State.command_tick _ _ _ _ _ fun u hu => by first | exact reinitOp_tick _ _ hu))
theorem execReinitialisationEnd_tick (fn : Nat) (ok : Bool) (s : State) {z : State} (h : execReinitialisationEnd fn ok s = .next z) : z.tick = s.tick := by
  (rw [← next_inj h]; simp; done)
theorem execFlashImageDownload_tick (t : Transport) (data : Octets) (s : State) {z : State} (h : execFlashImageDownload t data s = .next z) : z.tick = s.tick := by
  (unfold execFlashImageDownload at h; rw [← next_inj h]; refine State.commandA_tick _ _ _ _ _ ?_; (repeat' (split <;> try dsimp only)) <;> first | (simp; done) | rfl | (simp (disch := (intros; (repeat' split) <;> (try simp))); done))
theorem execFlashWriteComplete_tick (ok : Bool) (s : State) {z : State} (h : execFlashWriteComplete ok s = .next z) : z.tick = s.tick := by
  (unfold execFlashWriteComplete at h; rw [← next_inj h]; (repeat' (split <;> try dsimp only)) <;> first | (simp; done) | rfl)
theorem execRevoke_later (t : Transport) (value : Nat) (s : State) {z : State} (h : execRevoke t value s = .next z) : Later s z := by
  rw [← next_inj h]; exact State.command_later _ _ _ _ _ fun u hu => revokeOp_later _ _ hu
theorem execRaiseFloor_later (t : Transport) (value : Nat) (s : State) {z : State} (h : execRaiseFloor t value s = .next z) : Later s z := by
  rw [← next_inj h]; exact State.command_later _ _ _ _ _ fun u hu => raiseFloorOp_later _ _ hu
theorem execLinkFault_tick (lane : Nat) (s : State) {z : State} (h : execLinkFault lane s = .next z) : z.tick = s.tick := by
  (rw [← next_inj h]; simp; done)
theorem execBlockLockReturn_tick (lane : Nat) (s : State) {z : State} (h : execBlockLockReturn lane s = .next z) : z.tick = s.tick := by
  (unfold execBlockLockReturn at h; rw [← next_inj h]; apply State.whenServing_tick; (repeat' (split <;> try dsimp only)) <;> first | (simp; done) | rfl)
theorem execEsmcTimeout_tick (lane : Nat) (s : State) {z : State} (h : execEsmcTimeout lane s = .next z) : z.tick = s.tick := by
  (rw [← next_inj h]; simp; done)
theorem execCanErrorStateChange_tick (state : Nat) (s : State) {z : State} (h : execCanErrorStateChange state s = .next z) : z.tick = s.tick := by
  (rw [← next_inj h]; simp; done)
theorem execSpiInvalidTransaction_tick (x : SpiTransaction) (s : State) {z : State} (h : execSpiInvalidTransaction x s = .next z) : z.tick = s.tick := by
  (rw [← next_inj h]; simp; done)
theorem execTapInstruction_tick (ir : Nat) (s : State) {z : State} (h : execTapInstruction ir s = .next z) : z.tick = s.tick := by
  (rw [← next_inj h]; simp; done)
theorem execAsleepDomainProof_tick (cls idx : Nat) (pass : Bool) (s : State) {z : State} (h : execAsleepDomainProof cls idx pass s = .next z) : z.tick = s.tick := by
  (unfold execAsleepDomainProof at h; rw [← next_inj h]; apply State.whenServing_tick; (repeat' (split <;> try dsimp only)) <;> first | (simp; done) | rfl)

end Sys2Proof.Machine
end

