-- ==== Sys2Proof/Laws/TickClock.lean ====
section
/-! SUPPORT. What the clock's own commands and the resets do to the clock; the queue and OTP stand there too. One lemma a command. -/

namespace Sys2Proof.Machine

set_option linter.all false

/-- The parts of `State.tick` beside the clock. -/
def State.rest (s : State) : List Instr × Nat × Nat := (s.pending, s.boot.revoked, s.boot.floor)

theorem State.tick_eq (s : State) : s.tick = (s.clock, s.rest) := (rfl)
theorem tick_rest {s t : State} {c : Clock} (h : t.tick = (c, s.rest)) : t.clock = c ∧ t.rest = s.rest := by
  rw [State.tick_eq] at h
  exact ⟨congrArg Prod.fst h, congrArg Prod.snd h⟩

theorem State.withClock_tick (s : State) (c : Clock) : ({ s with clock := c } : State).tick = (c, s.rest) := (rfl)
theorem State.drawn_rest (s : State) (n : Nat) : ({ s with free := n } : State).rest = s.rest := (rfl)

/-- An engine cycle leads to the cycle that follows, or leaves the clock alone. -/
theorem execEngineCycle_tick (s : State) {z : State} (h : execEngineCycle s = .next z) :
    z.tick = s.tick ∨ (s.clock.exposureDue = false ∧ s.clock.reelDue = false ∧ z.tick = (s.clock.next, s.rest)) := by
  unfold execEngineCycle State.whenServing at h
  have h := next_inj h
  split at h
  · dsimp only at h
    split at h
    · exact .inl (by rw [← h])
    · next hd =>
      simp only [Bool.or_eq_true, not_or, Bool.not_eq_true] at hd
      have ha : s.advanceBases.advanceDcos.tick = s.tick := by simp
      generalize s.advanceBases.advanceDcos = a at h ha
      rw [State.tick_eq, State.tick_eq s] at ha
      have h1 : a.clock = s.clock := congrArg Prod.fst ha
      have h2 : a.rest = s.rest := congrArg Prod.snd ha
      obtain ⟨b, hb, h⟩ : ∃ b : State, b.tick = (a.clock.next, a.rest) ∧ (if b.clock.cycle = tableSlot then b.adoptTable else b) = z :=
        ⟨_, State.withClock_tick a _, h⟩
      rw [h1] at hb
      refine .inr ⟨hd.1.2, hd.2, ?_⟩
      rw [← h2, ← h]
      split
      · rw [State.adoptTable_tick, hb]
      · exact hb
  · exact .inl (by rw [← h])

theorem execServiceStart_tick (s : State) {z : State} (h : execServiceStart s = .next z) : z.tick = s.tick ∨ z.tick = ({}, s.rest) := by
  unfold execServiceStart at h
  have h := next_inj h
  split at h
  · exact .inl (by rw [← h])
  · unfold State.drawNat at h
    dsimp only at h
    have hx : (State.atStart { s with free := s.free + 1 + 1 } (releaseTime s.boot.second (Config.freeNat s.free)) (Config.freeNat (s.free + 1))).tick = ({}, s.rest) :=
      State.atStart_tick { s with free := s.free + 1 + 1 } _ _
    generalize State.atStart _ _ _ = b at *
    refine .inr ?_
    rw [← hx, ← h]
    exact (State.startFunctions_tick _).trans ((State.emcy_tick _ _ _ _).trans ((State.startPlates_tick _).trans (State.startDomains_tick _)))

theorem execSupplyLoss_tick (s : State) {z : State} (h : execSupplyLoss s = .next z) : z.tick = ({}, s.rest) := by
  unfold execSupplyLoss at h
  rw [← next_inj h]
  have hw := State.wipe_tick s 1
  generalize s.wipe 1 = w at *
  exact (rfl : _ = w.tick).trans hw

theorem execResetAssert_tick (s : State) {z : State} (h : execResetAssert s = .next z) : z.tick = s.tick ∨ z.tick = ({}, s.rest) := by
  unfold execResetAssert at h
  have h := next_inj h
  split at h
  · exact .inl (by rw [← h])
  · exact .inr (by rw [← h]; exact State.wipe_tick s 3)

theorem execDeviceResetApply_tick (s : State) {z : State} (h : execDeviceResetApply s = .next z) : z.tick = s.tick ∨ z.tick = ({}, s.rest) := by
  unfold execDeviceResetApply at h
  have h := next_inj h
  split at h
  · exact .inl (by rw [← h])
  · next c hc =>
    split at h
    · exact .inl (by rw [← h])
    · dsimp only at h
      have h1 := State.wipe_tick s c
      generalize s.wipe c = w at *
      have h2 : (if c = 5 then { w with darkroom := { w.darkroom with secA := [] } } else w).tick = w.tick := by split <;> rfl
      generalize (if c = 5 then ({ w with darkroom := { w.darkroom with secA := [] } } : State) else w) = b at *
      refine .inr ?_
      rw [← h, State.readStore_tick]
      exact (rfl : _ = b.tick).trans (h2.trans h1)

/-- The work of an exposure's cycle 0 ends that it is due. -/
theorem execExposureBoundary_tick (r : Readings) (s : State) {z : State} (h : execExposureBoundary r s = .next z) :
    z.tick = s.tick ∨ z.tick = ({ s.clock with exposureDue := false }, s.rest) := by
  unfold execExposureBoundary at h
  have h := next_inj h
  split at h
  · split at h
    · exact .inl (by rw [← h])
    · dsimp only at h
      have ha := State.withClock_tick s { s.clock with exposureDue := false }
      generalize ({ s with clock := { s.clock with exposureDue := false } } : State) = a at h ha
      exact .inr (by rw [← ha, ← h]; simp)
  · split at h
    · exact .inl (by rw [← h])
    · exact .inl (by rw [← h]; rfl)

/-- The work of a reel's cycle 0 ends that it is due. -/
theorem execReelBoundary_tick (i : ReelInputs) (s : State) {z : State} (h : execReelBoundary i s = .next z) :
    z.tick = s.tick ∨ z.tick = ({ s.clock with reelDue := false }, s.rest) := by
  unfold execReelBoundary State.whenServing at h
  have h := next_inj h
  split at h
  · dsimp only at h
    split at h
    · exact .inl (by rw [← h])
    · have ha := State.withClock_tick s { s.clock with reelDue := false }
      generalize ({ s with clock := { s.clock with reelDue := false } } : State) = a at h ha
      have e1 : ((((((a.refreshSheet.reelCounts).applyPending 2).reelTimes.reelReferences).gnssReel i.lines).reelServing)).tick = a.tick := by simp
      generalize ((((((a.refreshSheet.reelCounts).applyPending 2).reelTimes.reelReferences).gnssReel i.lines).reelServing)) = b at e1 h
      have e2 : (i.channelErrors.foldl (fun (s : State) e => s.checkChannel e.1 e.2.1 e.2.2) b).tick = b.tick := foldl_tick _ _ _ fun u x => State.checkChannel_tick ..
      exact .inr (by rw [← ha, ← h, settleRegister_tick, State.darkroomReel_tick, e2, e1])
  · exact .inl (by rw [← h])

end Sys2Proof.Machine
end

