-- ==== Sys2Proof/WellFormed.lean ====
section
/-! DEFINITION. Well-formed commands: operands within the ranges that the block's own numbering gives (lanes, positions, plates,
references, ...) and the widths of the words that a host sends. -/

namespace Sys2Proof

/-- Twenty-four sensors, sixteen voltage monitors, thirty-two process monitors (R403, R405, R406). -/
def Readings.wf (r : Readings) : Bool :=
  decide (r.temps.length = 24) && decide (r.volts.length = 16) && decide (r.procs.length = 32)

/-- Clock channels 0 to 11 (R200); a 64-bit count (R176). -/
def ReelInputs.wf (x : ReelInputs) : Bool :=
  x.channelErrors.all (fun e => decide (e.1 < 12)) && decide (x.darkroomCount < 2 ^ 64) && x.lines.all (fun l => decide (l.port < 2))

/-- A data length code of CAN FD and a node ID (R73, R77). -/
def CanRequest.wf (f : CanRequest) : Bool := decide (f.node < 128) && decide (f.length ≤ 64)

/-- A header of four octets and at most 64 frame octets (Table 3.2); seven straps (R77). -/
def SpiTransaction.wf (x : SpiTransaction) : Bool :=
  decide (x.kind < 256) && decide (x.length < 256) && decide (x.check < 65536) && decide (x.octets.length ≤ 64) && decide (x.straps < 128)

/-- Addresses of 48 and of 128 bits, a checksum of 16 (R253, R254, R272). -/
def RxFrame.wf (f : RxFrame) : Bool := decide (f.dst < 2 ^ 48) && decide (f.src < 2 ^ 48) && decide (f.address < 2 ^ 128) && decide (f.udpChecksum < 65536)

/-- Samples of 12 bits (R210). -/
def GnssSample.wf (x : GnssSample) : Bool :=
  decide (x.upperI < 4096) && decide (x.upperQ < 4096) && decide (x.lowerI < 4096) && decide (x.lowerQ < 4096)

/-- Seven sections (R421). -/
def BootPins.wf (x : BootPins) : Bool := decide (x.sectionChecks < 128) && decide (x.older < 128)

/-- A plate, a line of 0 to 255 and a class (R387). -/
def LineEvent.wf (e : LineEvent) : Bool := decide (e.plate < 2) && decide (e.line < 256) && decide (1 ≤ e.cls ∧ e.cls ≤ 3)

/-- A command whose operands the block can name. -/
def Instr.wf : Instr → Bool
  | .engineCycle => true
  | .exposureBoundary readings => readings.wf
  | .reelBoundary inputs => inputs.wf
  | .managementPoint => true
  | .heartbeat => true
  | .canFrameReceived frame => frame.wf
  | .spiNmtCommand x => x.wf
  | .spiUsdoRequest x => x.wf
  | .spiReadHeadFrame x => x.wf
  | .spiRemoveHeadFrame x => x.wf
  | .startRemoteNode node => decide (node < 256)
  | .stopRemoteNode node => decide (node < 256)
  | .enterPreOperational node => decide (node < 256)
  | .resetCommunication node straps => decide (node < 256) && decide (straps < 128)
  | .resetNode node straps => decide (node < 256) && decide (straps < 128)
  | .usdoExpeditedDownload _ index sub _ => decide (index < 65536) && decide (sub < 256)
  | .usdoDownloadInitiate _ index sub _ => decide (index < 65536) && decide (sub < 256)
  | .usdoDownloadSegment _ seq _ declared _ => decide (seq < 2 ^ 32) && decide (declared < 256)
  | .usdoUploadInitiate _ index sub => decide (index < 65536) && decide (sub < 256)
  | .usdoUploadSegment _ seq => decide (seq < 2 ^ 32)
  | .segmentTimeout => true
  | .transferEndedByEngine => true
  | .registerWrite _ index sub _ => decide (index < 65536) && decide (sub < 256)
  | .persistenceCopy index sub item _ => decide (index < 65536) && decide (sub < 256) && decide (item < 65536)
  | .shadowTimeout group inst => decide (group < 11) && decide (inst < 32)
  | .emcyLostReport => true
  | .commit _ group mask => decide (group < 11) && decide (mask < 2 ^ 32)
  | .discard _ group mask => decide (group < 11) && decide (mask < 2 ^ 32)
  | .shadowWrite _ index sub _ => decide (index < 65536) && decide (sub < 256)
  | .unitEnableWrite _ sub _ => decide (sub < 256)
  | .planImageDownload _ _ => true
  | .planCheckComplete => true
  | .swapRequest _ second => decide (second < 2 ^ 48)
  | .cancelSwap _ value => decide (value < 2 ^ 112)
  | .swapLatch => true
  | .swapEntryWake => true
  | .planSwap => true
  | .swapComplete => true
  | .ntsReply eng => decide (eng < 64)
  | .ptpEvent eng => decide (eng < 64)
  | .ptpGeneral eng => decide (eng < 64)
  | .beWindow eng => decide (eng < 64)
  | .aesSivPass cluster => decide (cluster < 8)
  | .hmacPass cluster => decide (cluster < 8)
  | .knownAnswerTest kind cluster _ _ => decide (kind < 2) && decide (cluster < 8)
  | .fixer kind cluster _ _ => decide (kind < 2) && decide (cluster < 8)
  | .depart pos => decide (pos < 12)
  | .fastTermUpdate => true
  | .ensemblePart => true
  | .wake => true
  | .sleep => true
  | .handoffDeadline pos _ => decide (pos < 12)
  | .departureMeasured lane _ => decide (lane < 24)
  | .alignmentLoss lane => decide (lane < 24)
  | .alignerRelock lane => decide (lane < 24)
  | .requestExpire => true
  | .frameReceiveComplete lane f => decide (lane < 24) && f.wf
  | .entryForget => true
  | .refinEdge r _ => decide (r < 16)
  | .evinEdge input _ _ => decide (input < 48)
  | .gnssSampleBlock port _ _ _ samples => decide (port < 2) && decide (samples.length = 1024) && samples.all GnssSample.wf
  | .mediaFrameReceive m _ _ _ _ => decide (m < 8)
  | .itemDelivery _ => true
  | .intakeFault source => decide (source < 98)
  | .commonClockFailure => true
  | .timeBaseSet _ n value => decide (n < 256) && decide (value < 2 ^ 112)
  | .timeBaseStep _ n _ => decide (n < 256)
  | .arm _ c => decide (c < 32)
  | .disarm _ c => decide (c < 32)
  | .compareFire c => decide (c < 32)
  | .todMessage p => decide (p < 8)
  | .crossCapture _ value => decide (value < 2 ^ 112)
  | .leapTableWrite _ index sub _ => decide (index < 65536) && decide (sub < 256)
  | .eventFifoRelease _ input seq => decide (input < 48) && decide (seq < 2 ^ 32)
  | .clearFlags _ index mask => decide (index < 65536) && decide (mask < 2 ^ 32)
  | .tdcCalibrationComplete input _ _ => decide (input < 74)
  | .intervalModeWrite _ unit mode => decide (unit < 8) && decide (mode < 256)
  | .gateEnd unit => decide (unit < 8)
  | .referenceEnable _ r value => decide (r < 32) && decide (value < 256)
  | .loupeMeasurement r _ => decide (r < 32)
  | .referenceLoss r => decide (r < 32)
  | .frequencyOutOfWindow r _ => decide (r < 32)
  | .holdOffEnd r => decide (r < 32)
  | .manualSelection _ value => decide (value < 2 ^ 112)
  | .clearChallenge _ mask => decide (mask < 2 ^ 32)
  | .esmcInformationPdu lane => decide (lane < 24)
  | .esmcEventPdu lane => decide (lane < 24)
  | .upstreamPoll inst => decide (inst < 8)
  | .cookieLoad _ inst _ => decide (inst < 8)
  | .registrationStep _ => true
  | .slowSlew _ => true
  | .registrationCancel _ => true
  | .registrationLatch => true
  | .gateStart => true
  | .gateRelease => true
  | .registrationComplete => true
  | .dpllUpdate d _ => decide (d < 16)
  | .dpllStageEnd d => decide (d < 16)
  | .opllSafePoint o _ _ => decide (o < 4)
  | .rampUpdate => true
  | .lockDetected o _ _ => decide (o < 4)
  | .recipeLockTimeout o => decide (o < 4)
  | .alignmentCorrection c _ _ => decide (c < 12)
  | .lockQualified o ns => decide (o < 4) && decide (ns < 2 ^ 32)
  | .searchTimeout o => decide (o < 4)
  | .lockLoss o _ _ => decide (o < 4)
  | .lockSenseMismatch o plate => decide (o < 4) && decide (plate < 2)
  | .outputRegistration _ c value => decide (c < 12) && decide (value < 2 ^ 112)
  | .channelSafePoint c => decide (c < 12)
  | .recipeInvalidate _ mask => decide (mask < 2 ^ 32)
  | .samplePortFault p _ => decide (p < 2)
  | .acquisitionCaptureEnd => true
  | .acquisitionComplete => true
  | .navigationUpload _ _ => true
  | .solutionDelivery p => decide (p < 2)
  | .clearExclusion _ mask => decide (mask < 2 ^ 32)
  | .surveyComplete p => decide (p < 2)
  | .snapshotArm _ => true
  | .snapshotCancel _ => true
  | .snapshotProcess _ => true
  | .snapshotRelease _ => true
  | .snapshotCaptured => true
  | .snapshotProcessed => true
  | .trackEnd => true
  | .trackFifoRelease _ seq => decide (seq < 2 ^ 32)
  | .linkDown lane => decide (lane < 24)
  | .negotiationComplete lane _ => decide (lane < 24)
  | .linkUp lane => decide (lane < 24)
  | .calibrationComplete lane _ _ _ => decide (lane < 24)
  | .loopback _ lane value => decide (lane < 24) && decide (value < 2 ^ 112)
  | .txTimestampComplete lane status => decide (lane < 24) && decide (status < 256)
  | .txTimestampRelease _ lane seq => decide (lane < 24) && decide (seq < 2 ^ 32)
  | .pauseExpire lane queue => decide (lane < 24) && decide (queue < 256)
  | .lldpTransmit lane => decide (lane < 24)
  | .bestEffortStart lane => decide (lane < 24)
  | .headAgeDrop plate queue => decide (plate < 2) && decide (queue < 96)
  | .stagingWrite => true
  | .hostTransmit _ _ => true
  | .hostReceiveRelease _ seq => decide (seq < 2 ^ 32)
  | .forwardingEntryWrite _ _ => true
  | .clearPeak _ index => decide (index < 65536)
  | .instanceEnable _ index value => decide (index < 65536) && decide (value < 2 ^ 112)
  | .listeningEnd inst pos => decide (inst < 8) && decide (pos < 12)
  | .grantExpire record kind => decide (record < 262144) && decide (kind < 3)
  | .pdelayReqTransmit inst pos => decide (inst < 8) && decide (pos < 12)
  | .recordQuarantine record => decide (record < 262144)
  | .cancelGrants _ => true
  | .clearQuarantine _ => true
  | .keyImport _ _ => true
  | .rootLoad _ _ => true
  | .signedPolicyRelease _ _ => true
  | .invalidate _ value => decide (value < 2 ^ 112)
  | .orphanErase => true
  | .cookieGenerationWrite _ sub value => decide (sub < 256) && decide (value < 2 ^ 112)
  | .associationEntryWrite _ _ => true
  | .tamperEnableWrite _ value => decide (value < 2 ^ 112)
  | .zeroisation cause => decide (cause < 4)
  | .rootRemask => true
  | .clockLoss m => decide (m < 8)
  | .clockStable m => decide (m < 8)
  | .mediaFrameStart m => decide (m < 8)
  | .mediaSafePoint m => decide (m < 8)
  | .channelEnable _ value => decide (value < 2 ^ 112)
  | .gateSwitch m c => decide (m < 8) && decide (c < 32)
  | .gateTimeout m c => decide (m < 8) && decide (c < 32)
  | .gridRestart m => decide (m < 8)
  | .combinerFault m => decide (m < 8)
  | .mediaLoopback _ m value => decide (m < 8) && decide (value < 2 ^ 112)
  | .roleSwap _ => true
  | .standbyToProof _ => true
  | .divergence point detail => decide (point < 256) && decide (detail < 2 ^ 32)
  | .proofComplete plate _ test ms => decide (plate < 2) && decide (test < 256) && decide (ms < 2 ^ 32)
  | .resyncStart plate => decide (plate < 2)
  | .resyncSnapshot => true
  | .digestCompare _ => true
  | .join => true
  | .mirrorStop => true
  | .plateResetEnd plate => decide (plate < 2)
  | .supervisionTransmit pos => decide (pos < 12)
  | .errorLineEvent events => events.all LineEvent.wf
  | .contactSheetSave => true
  | .statusClear _ word mask => decide (word < 256) && decide (mask < 2 ^ 32)
  | .severeHoldEnd source => decide (source < 65560)
  | .clearAddress _ address => decide (address < 2 ^ 128)
  | .clearLanes _ mask => decide (mask < 2 ^ 32)
  | .contactSheetClear _ value => decide (value < 2 ^ 112)
  | .injectCorrected _ => true
  | .injectContained _ => true
  | .injectFatal _ => true
  | .resetRelease pins => pins.wf
  | .selfTestComplete result straps => decide (result < 2 ^ 32) && decide (straps < 128)
  | .firmwareApplied => true
  | .bootPlanChecked => true
  | .timeBaseRestore => true
  | .serviceStart => true
  | .supplyLoss => true
  | .resetAssert => true
  | .deviceReset _ => true
  | .deviceResetWithDefaults _ => true
  | .deviceResetApply => true
  | .reinitialisePort _ inst => decide (inst < 256)
  | .reinitialiseLoupe _ inst => decide (inst < 256)
  | .reinitialiseDpll _ inst => decide (inst < 256)
  | .reinitialiseOutputPll _ inst => decide (inst < 256)
  | .reinitialiseGnss _ => true
  | .reinitialiseMediaPort _ inst => decide (inst < 256)
  | .reinitialiseServingGroup _ inst => decide (inst < 256)
  | .reinitialisePlate _ inst => decide (inst < 256)
  | .reinitialiseDeveloper _ => true
  | .reinitialisationEnd fn _ => decide (fn < 65536)
  | .flashImageDownload _ _ => true
  | .flashWriteComplete _ => true
  | .revoke _ value => decide (value < 2 ^ 112)
  | .raiseFloor _ value => decide (value < 2 ^ 112)
  | .linkFault lane => decide (lane < 24)
  | .blockLockReturn lane => decide (lane < 24)
  | .esmcTimeout lane => decide (lane < 24)
  | .canErrorStateChange state => decide (state < 3)
  | .spiInvalidTransaction x => x.wf
  | .tapInstruction ir => decide (ir < 2 ^ 32)
  | .asleepDomainProof cls idx _ => decide (cls < 7) && decide (idx < 12)

end Sys2Proof
end

