-- ==== Sys2Proof/Tests/Slice0.lean ====
section
/-! SUPPORT. Tests: ill-formed commands that WellFormed refuses, figures that the spec works out, and for each obligation with
hypotheses a state and operands that meet them, clause by clause, at a boundary where the clause has one. -/

section
set_option Elab.async false
open Sys2Proof Sys2Proof.Machine

namespace Sys2Proof.Tests

/-! ### Helpers -/

/-- A block in service with nothing configured, its node Operational. -/
def svc : State := { boot := { phase := 5, inReset := false }, mgmt := { nmt := 5 } }
/-- `svc` with both plates in step: A active, B standby. -/
def pair : State := { svc with twin := { plates := [(0, { state := 0 }), (1, { state := 1 })] } }
/-- `svc` at a cycle of an exposure. -/
def svcAt (cycle exposure exposures reel : Nat) : State := { svc with clock := { cycle := cycle, exposure := exposure, exposures := exposures, reel := reel } }
/-- `svc` with a checked plan waiting in bank 1. -/
def withWaiting (p : Plan) : State := { svc with plans := { banks := [(1, some p)] } }
/-- A plan whose one row has one step at offset 0 of every reel. -/
def onePlan (kind idx op operand : Nat) : Plan := { rows := [⟨kind, idx, 0, [⟨0, op, operand⟩]⟩] }
/-- `svc` running that plan, every domain awake. -/
def running (kind idx op operand : Nat) : State := { pair with plans := {
  banks := [(0, some (onePlan kind idx op operand))]
  domains := (List.range 8).flatMap fun c => (List.range 12).map fun i => (64 * c + i, { awake := true }) } }

/-! ### Ill-formed commands -/

def readings0 : Readings := ⟨List.replicate 24 0, List.replicate 16 750, List.replicate 32 0, none⟩
def frame0 : RxFrame := ⟨false, 64, 0, none, none, true, 1, 2, 3, 0, none, 0, true, none, [], 0, 0, .plain⟩
def spi0 : SpiTransaction := ⟨3, 0, 0, [], .unknown, false, 0⟩
def inputs0 : ReelInputs := ⟨false, [], [], 0⟩
def can0 : CanRequest := ⟨1, 8, false, .unknown⟩

/-- What carries a record is well formed at the bounds of each of its fields. -/
theorem test_records_well_formed : ([.exposureBoundary readings0,
    .reelBoundary { inputs0 with channelErrors := [(11, 0, 0)], lines := [⟨1, true, 0, 0⟩], darkroomCount := 2 ^ 64 - 1 },
    .canFrameReceived { can0 with node := 127, length := 64 },
    .spiReadHeadFrame { spi0 with kind := 255, length := 255, check := 65535, octets := List.replicate 64 0 },
    .frameReceiveComplete 23 { frame0 with dst := 2 ^ 48 - 1, src := 2 ^ 48 - 1, address := 2 ^ 128 - 1 },
    .gnssSampleBlock 1 false 0 0 (List.replicate 1024 ⟨4095, 4095, 4095, 4095⟩), .resetRelease ⟨true, 127, [], 127⟩,
    .errorLineEvent [⟨1, 255, 3, 0⟩, ⟨0, 0, 1, 0⟩]] : List Instr).all Instr.wf = true := by decide +kernel

/-- Each check of a record refuses a term that breaks it alone. -/
theorem test_ill_formed_records : ([.exposureBoundary { readings0 with temps := [] }, .exposureBoundary { readings0 with volts := [] },
    .exposureBoundary { readings0 with procs := [] },
    .reelBoundary { inputs0 with channelErrors := [(12, 0, 0)] }, .reelBoundary { inputs0 with darkroomCount := 2 ^ 64 },
    .reelBoundary { inputs0 with lines := [⟨2, true, 0, 0⟩] },
    .canFrameReceived { can0 with node := 128 }, .canFrameReceived { can0 with length := 65 },
    .spiNmtCommand { spi0 with kind := 256 }, .spiUsdoRequest { spi0 with length := 256 }, .spiReadHeadFrame { spi0 with check := 65536 },
    .spiRemoveHeadFrame { spi0 with octets := List.replicate 65 0 }, .spiNmtCommand { spi0 with straps := 128 }, .spiInvalidTransaction { spi0 with kind := 256 },
    .frameReceiveComplete 24 frame0, .frameReceiveComplete 0 { frame0 with dst := 2 ^ 48 }, .frameReceiveComplete 0 { frame0 with src := 2 ^ 48 },
    .frameReceiveComplete 0 { frame0 with address := 2 ^ 128 }, .frameReceiveComplete 0 { frame0 with udpChecksum := 65536 },
    .resetRelease ⟨false, 128, [], 0⟩, .resetRelease ⟨false, 0, [], 128⟩,
    .gnssSampleBlock 0 true 0 0 (List.replicate 1023 ⟨0, 0, 0, 0⟩ ++ [⟨4096, 0, 0, 0⟩]),
    .errorLineEvent [⟨2, 0, 1, 0⟩], .errorLineEvent [⟨0, 256, 1, 0⟩], .errorLineEvent [⟨0, 0, 0, 0⟩], .errorLineEvent [⟨0, 0, 4, 0⟩]] :
    List Instr).all (fun i => !i.wf) = true := by decide +kernel

/-- Management: each bound refuses the operand that first exceeds it. -/
theorem test_ill_formed_management : ([.startRemoteNode 256, .stopRemoteNode 256, .enterPreOperational 256, .resetCommunication 256 0,
    .resetCommunication 0 128, .resetNode 256 0, .resetNode 0 128, .usdoExpeditedDownload .can 65536 0 [], .usdoExpeditedDownload .can 0 256 [],
    .usdoDownloadInitiate .can 65536 0 none, .usdoDownloadInitiate .can 0 256 none, .usdoDownloadSegment .can (2 ^ 32) true 0 [],
    .usdoDownloadSegment .can 0 true 256 [], .usdoUploadInitiate .can 65536 0, .usdoUploadInitiate .can 0 256, .usdoUploadSegment .can (2 ^ 32),
    .registerWrite .can 65536 0 [], .registerWrite .can 0 256 [], .persistenceCopy 65536 0 0 true, .persistenceCopy 0 256 0 true,
    .persistenceCopy 0 0 65536 true, .shadowTimeout 11 0, .shadowTimeout 0 32, .commit .can 11 0, .commit .can 0 (2 ^ 32), .discard .can 11 0,
    .discard .can 0 (2 ^ 32), .shadowWrite .can 65536 0 [], .shadowWrite .can 0 256 [], .unitEnableWrite .can 256 [], .canErrorStateChange 3,
    .tapInstruction (2 ^ 32)] : List Instr).all (fun i => !i.wf) = true := by decide

/-- Plans and serving. -/
theorem test_ill_formed_plans_and_serving : ([.swapRequest .can (2 ^ 48), .cancelSwap .can (2 ^ 112), .ntsReply 64, .ptpEvent 64, .ptpGeneral 64,
    .beWindow 64, .aesSivPass 8, .hmacPass 8, .knownAnswerTest 2 0 true true, .knownAnswerTest 0 8 true true, .fixer 2 0 true true, .fixer 0 8 true true,
    .depart 12, .handoffDeadline 12 true, .instanceEnable .can 65536 0, .instanceEnable .can 0 (2 ^ 112), .listeningEnd 8 0, .listeningEnd 0 12,
    .grantExpire 262144 0, .grantExpire 0 3, .pdelayReqTransmit 8 0, .pdelayReqTransmit 0 12, .recordQuarantine 262144] :
    List Instr).all (fun i => !i.wf) = true := by decide

/-- Intake, the clock, references and the Developer. -/
theorem test_ill_formed_time_and_references : ([.refinEdge 16 0, .evinEdge 48 true 0, .gnssSampleBlock 2 true 0 0 (List.replicate 1024 ⟨0, 0, 0, 0⟩), .gnssSampleBlock 0 true 0 0 [],
    .mediaFrameReceive 8 0 0 64 [], .intakeFault 98,
    .timeBaseSet .can 256 0, .timeBaseSet .can 0 (2 ^ 112), .timeBaseStep .can 256 0, .arm .can 32, .disarm .can 32, .compareFire 32, .todMessage 8,
    .crossCapture .can (2 ^ 112), .leapTableWrite .can 65536 0 [], .leapTableWrite .can 0 256 [], .eventFifoRelease .can 48 0,
    .eventFifoRelease .can 0 (2 ^ 32), .clearFlags .can 65536 0, .clearFlags .can 0 (2 ^ 32), .tdcCalibrationComplete 74 [] 0,
    .intervalModeWrite .can 8 0, .intervalModeWrite .can 0 256, .gateEnd 8, .referenceEnable .can 32 0, .referenceEnable .can 0 256,
    .loupeMeasurement 32 0, .referenceLoss 32, .frequencyOutOfWindow 32 0, .holdOffEnd 32, .manualSelection .can (2 ^ 112), .clearChallenge .can (2 ^ 32),
    .esmcInformationPdu 24, .esmcEventPdu 24, .esmcTimeout 24, .upstreamPoll 8, .cookieLoad .can 8 []] : List Instr).all (fun i => !i.wf) = true := by
  decide

/-- Synthesis and GNSS. -/
theorem test_ill_formed_synthesis_and_gnss : ([.dpllUpdate 16 0, .dpllStageEnd 16, .opllSafePoint 4 true true, .lockDetected 4 ⟨0, 0⟩ ⟨0, 0⟩,
    .recipeLockTimeout 4, .alignmentCorrection 12 0 0, .lockQualified 4 0, .lockQualified 0 (2 ^ 32), .searchTimeout 4, .lockLoss 4 true true,
    .lockSenseMismatch 4 0, .lockSenseMismatch 0 2, .outputRegistration .can 12 0, .outputRegistration .can 0 (2 ^ 112), .channelSafePoint 12,
    .recipeInvalidate .can (2 ^ 32), .samplePortFault 2 true, .solutionDelivery 2, .clearExclusion .can (2 ^ 32),
    .surveyComplete 2, .trackFifoRelease .can (2 ^ 32)] : List Instr).all (fun i => !i.wf) = true := by decide

/-- Ports and the switch. -/
theorem test_ill_formed_ports_and_switch : ([.departureMeasured 24 0, .alignmentLoss 24, .alignerRelock 24, .linkDown 24, .negotiationComplete 24 none,
    .linkUp 24, .linkFault 24, .blockLockReturn 24, .calibrationComplete 24 0 0 true, .loopback .can 24 0, .loopback .can 0 (2 ^ 112),
    .txTimestampComplete 24 0, .txTimestampComplete 0 256, .txTimestampRelease .can 24 0, .txTimestampRelease .can 0 (2 ^ 32), .pauseExpire 24 0,
    .pauseExpire 0 256, .lldpTransmit 24, .bestEffortStart 24, .headAgeDrop 2 0, .headAgeDrop 0 96, .hostReceiveRelease .can (2 ^ 32),
    .clearPeak .can 65536] : List Instr).all (fun i => !i.wf) = true := by decide

/-- Keys, media, plates, faults and start-up. -/
theorem test_ill_formed_the_rest : ([.invalidate .can (2 ^ 112), .cookieGenerationWrite .can 256 0, .cookieGenerationWrite .can 0 (2 ^ 112),
    .tamperEnableWrite .can (2 ^ 112), .zeroisation 4, .clockLoss 8, .clockStable 8, .mediaFrameStart 8, .mediaSafePoint 8,
    .channelEnable .can (2 ^ 112), .gateSwitch 8 0, .gateSwitch 0 32, .gateTimeout 8 0, .gateTimeout 0 32, .gridRestart 8, .combinerFault 8,
    .mediaLoopback .can 8 0, .mediaLoopback .can 0 (2 ^ 112), .divergence 256 0, .divergence 0 (2 ^ 32), .proofComplete 2 true 0 0,
    .proofComplete 0 true 256 0, .proofComplete 0 true 0 (2 ^ 32), .resyncStart 2, .plateResetEnd 2, .supervisionTransmit 12, .statusClear .can 256 0,
    .statusClear .can 0 (2 ^ 32), .severeHoldEnd 65560, .clearAddress .can (2 ^ 128), .clearLanes .can (2 ^ 32), .contactSheetClear .can (2 ^ 112),
    .selfTestComplete (2 ^ 32) 0, .selfTestComplete 0 128, .reinitialisePort .can 256, .reinitialiseLoupe .can 256, .reinitialiseDpll .can 256,
    .reinitialiseOutputPll .can 256, .reinitialiseMediaPort .can 256, .reinitialiseServingGroup .can 256, .reinitialisePlate .can 256,
    .reinitialisationEnd 65536 true, .revoke .can (2 ^ 112), .raiseFloor .can (2 ^ 112), .asleepDomainProof 7 0 true, .asleepDomainProof 0 12 true] :
    List Instr).all (fun i => !i.wf) = true := by decide

/-! ### Figures that the spec works out -/

/-- Example 0.1: the value read from a capture object. -/
theorem test_example_0_1 : ofTime112 (beNat [0x00, 0x00, 0x6B, 0x49, 0xD2, 0x00, 0x1A, 0x0F, 0xE8, 0x45, 0x80, 0x00, 0x00, 0x00]) =
    1800000000 * secondUnit + 437250117 * nsUnit + nsUnit / 2 := by decide

/-- Example 4.1: the increment of +5 × 10⁻¹², and the refusal of the next one. -/
theorem test_example_4_1 : incrementFor 5000000 = 0x100000000057F600 ∧ incrementAgrees 0x100000000057F600 5000000 = true ∧
    incrementAgrees 0x100000000057F601 5000000 = false := by decide

/-- The leap of Example 4.2, its UTC midnight `D` at second 1,000,000. -/
def leap42 : Leap := ⟨37, 38, 1000038⟩

/-- Example 4.2: stepped UTC at each row of Table 4.4, in whole seconds past `D`. -/
theorem test_example_4_2_stepped : ([-43200, -2, -1, 0, 43200].map fun d : Int => steppedView 37 ((1000038 + d) * second32) [leap42] / second32 - 1000000) =
    [-43199, -1, -1, 0, 43200] := by decide

/-- Example 4.2: smeared UTC at the same rows, in microseconds past `D`. -/
theorem test_example_4_2_smeared : ([-43200, -2, -1, 0, 43200].map fun d : Int =>
    roundDivI ((smearedView 43200 37 ((1000038 + d) * second32) [leap42] - 1000000 * second32) * 1000000) second32.toNat) =
    [-43199000000, -1499977, -499988, 500000, 43200000000] := by decide

/-- Example 4.3: the record of the start edge: octets 0 to 13 are its time, 14 and 15 its flags and sequence. -/
theorem test_example_4_3 : ((svc.setBase 0 { value := 1800000000 * secondUnit + 12 * nsUnit }).setInput 0 { skew := 183 }
    |>.setObj 0x3020 4 5120).eventTime 0 0 683 = 1800000000 * second32 + 7 * 2 ^ 32 + 0x09DB22D1 := by decide

/-- Example 4.3: the interval of its two edges, 1,029,175,666 fs with the offset of the split calibration. -/
theorem test_example_4_3_interval : roundDivI ({ gateOpen := true : Interval }.add (roundDivI (10291775 * 2 ^ 32) 10000) 1834).sum (2 ^ 32) = 1029175666 := by decide

/-- The growth over one day of an oscillator class at k = 4, in ps. -/
def dayGrowth (c : Nat) : Nat := match classValues c with
  | [dy, da, dyT, hw, hf, hrw] => (growthDet (dy + dyT) da 86400000000000 + growthNoise 40 hw hf hrw 86400000000000) / psUnit
  | _ => 0

/-- Table 6.2: 8.72 ns, 0.99 ns, 160.0 ns and 1.92 µs. -/
theorem test_table_6_2 : (dayGrowth 1 + 5) / 10 = 872 ∧ (dayGrowth 2 + 5) / 10 = 99 ∧ (dayGrowth 3 + 50) / 100 = 1600 ∧
    (dayGrowth 4 + 5000) / 10000 = 192 := by decide

/-- Examples 6.2 and 11.1: the budget's total and the fields that it maps to. -/
theorem test_example_11_1 : clockAccuracy 2334 = 0x1E ∧ logVariance 2334 515 = 16971 ∧ rootDispersion 2334 = 1 := by decide +kernel

/-- Example 11.1: the grid instant of index 7 in slot 2,210 of a 25GBASE-R lane, in 1/100 ns: 141,457.92 ns. -/
theorem test_example_11_1_departure : gridInstant 3 2210 7 = 14145792 := by decide

/-- Example 7.2: the correction of channel 1 as VCO periods and fine delay. -/
theorem test_example_7_2 : fineDelay 10312500000000000 (correction 25781250000000 13700) = 70 := by decide

set_option maxRecDepth 20000 in
/-- Example 17.1: the size of its records, by kind. -/
theorem test_example_17_1 : ([okey 0 0 0x3400 1, okey 0 0 0x3400 9, okey 0 0 0x3400 7, okey 0 0 0x2C40 1, okey 0 0 0x2910 3, okey 0 0 0x2910 6,
    okey 0 0 0x2920 3, okey 0 0 0x3100 4, okey 0 2 0x2410 2, okey 0 1 0x2802 2].map recordSize) = [6, 9, 9, 6, 7, 21, 21, 13, 70, 19] := by decide

set_option maxRecDepth 20000 in
/-- The check polynomials on the digits 1 to 9: the published check values of CRC-16/CCITT-FALSE (Table 3.2) and CRC-32C (R307). -/
theorem test_check_values : crc16 [0x31, 0x32, 0x33, 0x34, 0x35, 0x36, 0x37, 0x38, 0x39] = 0x29B1 ∧
    crc32c [0x31, 0x32, 0x33, 0x34, 0x35, 0x36, 0x37, 0x38, 0x39] = 0xE3069283 := by decide

/-! ### Witnesses: management, plans, the clock

Each theorem names an obligation, and gives for each of its clauses a state and operands that meet the clause's hypotheses. -/

theorem test_witness_WithNothingCommandedOneFrameIsSent :
    svc.pending = [] ∧ State.reset.pending = [] ∧ State.reset.mgmt.nmt = 0 ∧ svc.mgmt.emcyHold = [] ∧ svc.mgmt.canTx = [] ∧ svc.mgmt.canState ≠ 2 ∧ svc.mgmt.nmt ≠ 0 ∧
    svc.mgmt.nmt ≠ 4 ∧ svc.mgmt.lost = 0 ∧
    (OutFrame.heartbeat 1 5).busOrder < (OutFrame.emcy 0x7FF 0xFF00 0 0 0).busOrder ∧
    (OutFrame.emcy 0x701 0xFF00 0 0 0).busOrder ≤ (OutFrame.heartbeat 1 5).busOrder ∧
    ({ svc with mgmt := { nmt := 4, canTx := [.emcy 0x81 0xFF00 0 0 0, .heartbeat 1 4] } } : State).mgmt.nmt = 4 ∧
    (OutFrame.emcy 0x81 0xFF00 0 0 0).isHeartbeat = false ∧ (OutFrame.heartbeat 1 4).isHeartbeat = true := by decide

theorem test_witness_AStepTakesOneCommandOffTheQueue : ({ svc with pending := [.heartbeat, .engineCycle] } : State).pending = .heartbeat :: [.engineCycle] := rfl

theorem test_witness_TheClockStaysInItsRanges : ∃ t, (svcAt 999998 999 0 0).clock.cycle < 1000000 ∧ (svcAt 999998 999 0 0).clock.exposure < 1000 ∧
    step (svcAt 999998 999 0 0) = .next t := ⟨_, by decide, by decide, rfl⟩

theorem test_witness_OnlyTheClocksCommandsMoveTheClock : ∃ t, exec .heartbeat svc = .next t ∧ (Instr.heartbeat ≠ .engineCycle) := ⟨_, rfl, by decide⟩

/-- A block with OTP key 3 revoked and floor 7. -/
def revoked3 : State := { svc with boot := { svc.boot with revoked := 8, floor := 7 } }

theorem test_witness_RevocationsAndTheFloorAreNeverUndone : ∃ t, step revoked3 = .next t ∧ bit revoked3.boot.revoked 3 = true := ⟨_, rfl, by decide⟩

/-- `svc` with a downloaded image, with a checked plan, with a scheduled swap. -/
def withStatus (status : Nat) : State := { svc with plans := { banks := [(1, some {})], status := status } }

theorem test_witness_PlansAreLoadedCheckedAndScheduled : (InService svc ∧ svc.plans.latched = false ∧ (List.replicate 4194304 (0 : Octet)).length ≤ 4194304) ∧
    (InService (withStatus 2) ∧ (withStatus 2).plans.latched = false ∧ (withStatus 2).plans.status = 2) ∧
    (InService (withStatus 3) ∧ (withStatus 3).waitingPlan = some {} ∧ (withStatus 3).tooHot {} = false ∧ (withStatus 3).earliestSwap ≤ 2) ∧
    (InService (withStatus 5) ∧ (withStatus 5).plans.latched = false ∧ (withStatus 5).plans.status = 5) := by
  refine ⟨⟨by unfold InService; decide, rfl, Nat.le_of_eq List.length_replicate⟩, ?_, ?_, ?_⟩ <;> unfold InService <;> decide

/-- At cycle 0 of an exposure with a swap of `p` at reel 1; latched; latched and woken; swapped. -/
def atSwap (exposure reel : Nat) (p : Plan) (latched woken swapped hot : Bool) : State := { svcAt 0 exposure (1000 * reel + exposure) reel with
  plans := { banks := [(1, some p)], status := 5, swapReel := 1, swapAt := 1, latched := latched, entryWoken := woken, swapped := swapped }
  faults := { shedding := hot } }

theorem test_witness_TheSwapRunsInItsFourSteps :
    (InService (atSwap 997 0 {} false false false false) ∧ (atSwap 997 0 {} false false false false).waitingPlan = some {} ∧
      (atSwap 997 0 {} false false false false).plans.status = 5 ∧ (atSwap 997 0 {} false false false false).atStartOf 997 = true ∧
      (atSwap 997 0 {} false false false false).plans.swapReel = (atSwap 997 0 {} false false false false).nextReelSecond ∧
      (atSwap 997 0 {} false false false false).tooHot {} = false ∧ (atSwap 997 0 {} false false false true).tooHot {} = true) ∧
    (InService (atSwap 999 0 { entry := 1 } true false false false) ∧ (atSwap 999 0 { entry := 1 } true false false false).atStartOf 999 = true ∧
      (atSwap 999 0 { entry := 1 } true false false false).plans.swapAt = (atSwap 999 0 { entry := 1 } true false false false).clock.reel + 1 ∧
      (atSwap 999 0 { entry := 1 } true false false false).waitingPlan = some { entry := 1 } ∧
      (1, 0) ∈ allDomains ∧ ({ entry := 1 } : Plan).entryAwake 1 0 = true ∧ (atSwap 999 0 { entry := 1 } true false false false).mayWake 1 0 = true) ∧
    (InService (atSwap 0 1 {} true true false false) ∧ (atSwap 0 1 {} true true false false).atStartOf 0 = true ∧
      (atSwap 0 1 {} true true false false).clock.reel = (atSwap 0 1 {} true true false false).plans.swapAt) ∧
    (InService (atSwap 1 1 {} true true true false) ∧ (atSwap 1 1 {} true true true false).atStartOf 1 = true ∧
      (atSwap 1 1 {} true true true false).waitingPlan = some {}) := by unfold InService; decide +kernel

theorem test_witness_DomainsWakeAndSleepByStep :
    (InService (running 6 0 0x50 0x04000000) ∧ (running 6 0 0x50 0x04000000).stepNow 6 0 0x50 = some ⟨0, 0x50, 0x04000000⟩ ∧ field 0x04000000 31 24 = 4 ∧
      (((running 6 0 0x50 0x04000000).setObj 0x3400 1 1).setDomain 4 0 {}).mayWake 4 0 = true ∧
      ((((running 6 0 0x50 0x04000000).setObj 0x3400 1 1).setDomain 4 0 {}).domain 4 0).awake = false ∧
      (((running 6 0 0x50 0x04000000).setObj 0x3400 1 1).setDomain 4 0 {}).stepNow 6 0 0x50 = some ⟨0, 0x50, 0x04000000⟩) ∧
    (InService (running 6 0 0x51 0x01020000) ∧ (running 6 0 0x51 0x01020000).stepNow 6 0 0x51 = some ⟨0, 0x51, 0x01020000⟩ ∧
      (running 6 0 0x51 0x01020000).plans.entryWoken = false ∧
      field 0x01020000 31 24 = 1 ∧ field 0x01020000 23 16 = 2 ∧ ((running 6 0 0x51 0x01020000).domain 1 2).awake = true) := by unfold InService; decide +kernel

/-- The last slot before a swap: the running plan sleeps a domain that the waiting plan wants awake. -/
def sleepBeforeSwap : State := let s := running 6 0 0x51 0x01000000; { s with plans := { s.plans with
  banks := [(0, some (onePlan 6 0 0x51 0x01000000)), (1, some { entry := 1 })], status := 5, latched := true, entryWoken := true } }

theorem test_witness_DomainsWakeAndSleepByStep_kept : InService sleepBeforeSwap ∧ sleepBeforeSwap.stepNow 6 0 0x51 = some ⟨0, 0x51, 0x01000000⟩ ∧
    sleepBeforeSwap.plans.swapped = false ∧ sleepBeforeSwap.waitingPlan = some { entry := 1 } ∧ ({ entry := 1 } : Plan).entryAwake 1 0 = true := by
  unfold InService; decide +kernel

/-- A transaction whose check is right. -/
def spiOf (kind : Nat) (octets : Octets) (length : Nat) (r : UsdoRequest) : SpiTransaction :=
  ⟨kind, length, crc16 ([BitVec.ofNat 8 kind, BitVec.ofNat 8 length] ++ octets), octets, r, false, 0⟩

set_option maxRecDepth 20000 in
theorem test_witness_TransportCommandsComplete : svc.boot.inReset = false ∧ svc.mgmt.nmt ≠ 0 ∧
    (spiLengthOk (spiOf 3 [] 0 .unknown) = true ∧ spiCheckOk (spiOf 3 [] 0 .unknown) = true ∧ spiLengthOk (spiOf 4 [] 0 .unknown) = true ∧
      spiCheckOk (spiOf 4 [] 0 .unknown) = true ∧ spiCheckOk { spiOf 4 [] 0 .unknown with check := 0 } = false) ∧
    ((svc.setObj 0x1017 0 100).obj 0x1017 0 ≠ 0 ∧ svc.mgmt.spiQueue.length < 32) ∧
    (0 < ({ svc with mgmt := { svc.mgmt with lost := 1 } } : State).mgmt.lost ∧ svc.mgmt.emcyHold.length < 32 ∧ svc.mgmt.nmt ≠ 4 ∧
      (svc.setObj 0x1014 0 0x81).obj 0x1014 0 = 0x81 ∧ bit 0x81 31 = false) := by decide

set_option maxRecDepth 20000 in
theorem test_witness_NmtCommandsSetTheState : svc.mgmt.nmt ≠ 0 ∧ svc.boot.inReset = false ∧ ((0 : Nat) = 0 ∨ 0 = svc.node) ∧
    (∀ c : Octet, c ∈ [0x01, 0x02, 0x80, 0x81, 0x82] → (spiOf 1 [c, 0x00] 2 .unknown).kind = 1 ∧ spiLengthOk (spiOf 1 [c, 0x00] 2 .unknown) = true ∧
      spiCheckOk (spiOf 1 [c, 0x00] 2 .unknown) = true ∧ (spiOf 1 [c, 0x00] 2 .unknown).octets.map BitVec.toNat = [c.toNat, 0]) := by decide +kernel

/-- `svc` at the management point with one upload of 0x1017 that waits for an exposure. -/
def withRequest (due : Nat) : State := { svcAt 999936 0 0 0 with mgmt := { svc.mgmt with requests := [⟨.can, .request (.uploadInitiate 0x1017 0), due⟩] } }

set_option maxRecDepth 20000 in
theorem test_witness_RequestsWaitForTheManagementPoint : svc.boot.phase = 5 ∧ svc.mgmt.nmt ≠ 0 ∧ svc.mgmt.nmt ≠ 4 ∧ svc.mgmt.requests.length < 64 ∧ svc.boot.inReset = false ∧
    (spiOf 2 (List.replicate 8 0) 8 (.uploadInitiate 0x1017 0)).short = false ∧
    spiLengthOk (spiOf 2 (List.replicate 8 0) 8 (.uploadInitiate 0x1017 0)) = true ∧ spiCheckOk (spiOf 2 (List.replicate 8 0) 8 (.uploadInitiate 0x1017 0)) = true ∧
    (withRequest 0).serving = true ∧ (withRequest 0).clock.cycle = 999936 ∧ (withRequest 0).ports = [] ∧ (0 ≤ (withRequest 0).clock.exposures ∧ (withRequest 0).clock.exposures < 1) ∧
    (({ withRequest 0 with mgmt := { svc.mgmt with requests := [] } } : State).readObject 0x1017 0).toOption ≠ none ∧
    (∀ d ∈ (svc.readObject 0x1017 0).toOption, d.length ≤ 56) ∧ dictRow 0x1017 0 ≠ none ∧ (∀ e ∈ dictRow 0x1017 0, e.ty ≠ .domain) := by decide +kernel

/-- No entry of the engine's own exchanges waits: every port is as at reset. -/
theorem test_witness_RequestsWaitForTheManagementPoint_ports : ∀ n, ∀ e ∈ ((withRequest 0).port n).txQueue, e.seq = none → e.id < 0xF000 := by
  intro n e h; cases h

/-- `svc` with a transfer open. -/
def withTransfer (x : Transfer) : State := { svc with mgmt := { svc.mgmt with transfer := some x } }

/-- A download of 64 octets open for a segment, and an upload of 63 whose last segment is 1,000 ms old. -/
def download64 : Transfer := ⟨.can, true, 0x2810, 1, some 64, [], 0, 0⟩
def upload63 : Transfer := ⟨.can, false, 0x2104, 1, none, List.replicate 63 0, 0, 0⟩

theorem test_witness_SegmentedTransfersAdvance : svc.mgmt.nmt ≠ 0 ∧ svc.mgmt.nmt ≠ 4 ∧ svc.mgmt.transfer = none ∧
    svc.initiateError 0x2810 1 (some 22) = none ∧
    ((withTransfer download64).mgmt.transfer = some download64 ∧ download64.download = true ∧ download64.size = some 64 ∧
      63 ≤ (List.replicate 63 (0 : Octet)).length ∧ (download64.data ++ (List.replicate 64 (0 : Octet)).take 64).length ≤ 64) ∧
    (svc.readObject 0x1017 0).toOption ≠ none ∧ (∀ d ∈ (svc.readObject 0x1017 0).toOption, d.length ≤ 56) ∧ (∀ e ∈ dictRow 0x1017 0, e.ty ≠ .domain) ∧
    ((withTransfer upload63).mgmt.transfer = some upload63 ∧ upload63.transport = .can ∧ upload63.download = false) ∧
    (svc.boot.phase = 5 ∧ upload63.since + 1000000000 ≤ ({ withTransfer upload63 with clock := { exposures := 1000 } } : State).now) := by
  decide +kernel

theorem test_witness_WritesTakeEffectWhereTheirRuleSays : svc.mgmt.nmt ≠ 0 ∧ svc.mgmt.nmt ≠ 4 ∧ (100 : Octet).toNat + 256 * (0 : Octet).toNat = 100 ∧
    ((∀ e ∈ (svc.reach 0x1017 0 true).toOption, e.ty ≠ .domain) ∧ [(100 : Octet), 0].length ≤ 56) ∧
    ((svc.reach 0x2010 1 true).toOption ≠ none ∧ (∀ e ∈ (svc.reach 0x2010 1 true).toOption, e.ty ≠ .domain ∧ e.ty.size = some [(0 : Octet)].length ∧
      e.range.ok (e.ty.decode [0]) = true ∧ svc.unitScheduled 1 (e.ty.decode [0]).toNat = false)) ∧
    ((svc.reach 0x3001 3 true).toOption ≠ none ∧ (∀ e ∈ (svc.reach 0x3001 3 true).toOption, e.ty ≠ .domain ∧ e.ty.size = some (List.replicate 8 (0 : Octet)).length ∧
      e.range.ok (e.ty.decode (List.replicate 8 0)) = true ∧ svc.valueError 0x3000 1 3 (e.ty.decode (List.replicate 8 0)) = none) ∧
      (∀ r ∈ dictRecord 0x3001, r.1.index + r.2 = 0x3001 ∧ r.1.index = 0x3000) ∧ dictRecord 0x3001 ≠ none ∧ svc.plateRefused 0x3001 3 = false ∧
      memberOf 0x3001 3 = some (0, 1) ∧ (svc.base 1).steered = false ∧ svc.isWaiting 0 1 = false) := by decide +kernel

/-- `svc` with a shadow of time base 1 pending: an increment and a frequency offset. -/
def withShadow (inc : Int) : State := ((svc.writeShadow 0 1 (okey 0 0 0x3001 2) inc).writeShadow 0 1 (okey 0 0 0x3001 3) 5000000)

theorem test_witness_AgreementGroupsCommitWhole : svc.mgmt.nmt ≠ 0 ∧ 2 < 2 ^ groupCount 0 ∧ 2 &&& (withShadow 0x100000000057F600).waitingMask 0 = 0 ∧
    (withShadow 0x100000000057F600).boot.phase = 5 ∧ (withShadow 0x100000000057F600).named 0 2 = [1] ∧
    ((withShadow 0x100000000057F600).asCommitted 0 2).agrees 0 1 = true ∧ ((withShadow 0x100000000057F601).asCommitted 0 2).agrees 0 1 = false ∧
    (withShadow 0x100000000057F601).named 0 2 = [1] ∧
    ({ withShadow 0 with clock := { exposures := 60000 } } : State).isPending 0 1 = true ∧ bit ((withShadow 0).groups.reported.look (fun _ => 0) 0) 1 = false ∧
    (withShadow 0).groups.since.look (fun _ => 0) (32 * 0 + 1) + minute ≤ ({ withShadow 0 with clock := { exposures := 60000 } } : State).now := by decide +kernel

/-- `svc` with the heartbeat time changed and its copy waiting. -/
def withCopy : State := { svc.setObj 0x1017 0 100 with mgmt := { svc.mgmt with copies := [okey 0 0 0x1017 0] } }

theorem test_witness_PersistenceCopiesAndEngineCycles : withCopy.boot.inReset = false ∧ okey 0 0 0x1017 0 ∈ withCopy.mgmt.copies ∧
    sectionOf (okey 0 0 0x1017 0) = 1 ∧ withCopy.copyFits (okey 0 0 0x1017 0) = true ∧
    ((svcAt 16382 0 0 0).boot.phase = 5 ∧ (svcAt 16382 0 0 0).clock.cycle < 999999 ∧ (svcAt 16382 0 0 0).time.gate = false ∧ (svcAt 16382 0 0 0).clock.exposureDue = false ∧
      (svcAt 16382 0 0 0).clock.reelDue = false ∧ (svcAt 16382 0 0 0).clock.cycle + 1 ≠ tableSlot ∧ 999998 + 1 ≠ tableSlot) ∧
    ({ svc with time := { gate := true } } : State).time.gate = true ∧ ({ svc with clock := { exposureDue := true } } : State).clock.exposureDue = true := by decide +kernel

/-! ### Witnesses: time, references, the Developer -/

theorem test_witness_TimeBasesTakeSetsAndSteps : InService svc ∧ (31 < 32 ∧ (31 ≠ 0 ∧ (svc.base 31).steered = false ∧ (svc.base 31).adjust = none)) ∧
    time112Ns ((5 * 2 ^ 32 + 999999999) * 2 ^ 32) < 1000000000 ∧
    stepFits ((svc.base 31).value + (1000000 - svc.clock.cycle) * svc.increment 31) 0 = true ∧
    stepFits ((svc.base 31).value + (1000000 - svc.clock.cycle) * svc.increment 31) (-1000000001) = false ∧
    ((svc.setBase 3 { steered := true }).base 3).steered = true ∧
    (((svc.setBase 3 { adjust := some (.step 1) }).base 3).adjust ≠ none ∧ ((svc.setBase 3 { adjust := some (.step 1) }).base 3).steered = false) := by
  unfold InService; decide +kernel

/-- `svc` with compare unit 0 armed for an instant of its counter. -/
def withCompare (target : Nat) : State := svc.setComp 0 { armed := true, target := target, counterTarget := target }

theorem test_witness_ComparesArmFireAndDisarm : InService svc ∧ (0 < 32 ∧ (withCompare 0).countsArmed 0 = true ∧ svc.countsArmed 0 = false) ∧
    ((((svc.base32 (svc.obj 0x2210 1) - (svc.onCounter 0 (ofTime112 (svc.obj 0x2210 3) / 2 ^ 28 * 1000) : Int)).natAbs : Int) < 2 ^ 31 * second32)) ∧
    (2 ^ 31 * second32 ≤ (((svc.setBase 0 { value := 2 ^ 31 * secondUnit }).base32 (svc.obj 0x2210 1) : Int).natAbs : Int) ∧
      (svc.setBase 0 { value := 2 ^ 31 * secondUnit }).onCounter 0 (ofTime112 (svc.obj 0x2210 3) / 2 ^ 28 * 1000) = 0) ∧
    (((withCompare 0).comp 0).armed = true ∧ 0 ≤ (withCompare 0).compDelta 0 ∧ (withCompare 0).time.gate = false ∧ (withCompare 0).obj 0x2210 4 = 0 ∧ (withCompare 0).obj 0x2210 5 < 256) ∧
    (withCompare 1).compDelta 0 < 0 ∧ ((svc.setPps 7 { due := some (0, [1]) }).ppsChannel 7).due = some (0, [1]) ∧ 0 ≤ svc.now ∧
    (svc.setPps 7 { due := some (0, [1]) }).time.gate = false ∧ ({ svc with time := { gate := true } } : State).time.gate = true := by unfold InService; decide +kernel

/-- `svc` with event input 47 enabled for rising edges, its state as given. -/
def withInput (x : EventInput) : State := ((svc.setObj 0x304F 1 1).setObj 0x304F 2 1).setInput 47 x
/-- The same at cycle 99, after an edge in cycle 0. -/
def afterEdge : State := { withInput { calibration := 1, lastEdge := some 0 } with clock := { cycle := 99 } }

/-- The same 100 ns after the edge, and in a registration gate. -/
def afterDeadTime (gate : Bool) : State :=
  let s := withInput { calibration := 1, lastEdge := some 0 }
  { s with clock := { cycle := 100 }, time := { s.time with gate := gate } }

theorem test_witness_EventsAreTimestampedAndReleased : InService (withInput {}) ∧ 47 < 48 ∧
    ((withInput {}).obj (0x3020 + 47) 1 = 1 ∧ bit (withInput {}).intake.faults (40 + 47) = false ∧ edgeSelected ((withInput {}).obj (0x3020 + 47) 2) true = true ∧
      ((withInput {}).input 47).calibration = 0) ∧
    ((afterEdge.input 47).calibration ≠ 0 ∧ (afterEdge.input 47).lastEdge = some 0 ∧ afterEdge.now - 0 < 100 ∧ InService afterEdge) ∧
    (∀ g, g ∈ [false, true] → ((afterDeadTime g).input 47).calibration ≠ 0 ∧ ((afterDeadTime g).input 47).lastEdge = some 0 ∧
      100 ≤ (afterDeadTime g).now - 0 ∧ (afterDeadTime g).time.gate = g ∧ InService (afterDeadTime g)) ∧
    (releaseTo EventRecord.seq (8191 % 8192) ((withInput { fifo := [⟨0, 0, 8190⟩, ⟨1, 0, 8191⟩, ⟨2, 0, 0⟩] }).input 47).fifo = some [⟨2, 0, 0⟩] ∧
      releaseTo EventRecord.seq (7 % 8192) ((withInput {}).input 47).fifo = none) ∧
    ((withInput {}).tdcOn 47 = true ∧ ((svc.setObj 0x310F 1 1)).tdcOn 63 = true ∧ ((withInput { failures := 8 }).input 47).failures ≠ 9 ∧ tableOk [] = false) := by
  unfold InService; decide +kernel

/-- Bins that pass: a thousand of 1 ps each. -/
theorem test_witness_EventsAreTimestampedAndReleased_calibration : tableOk (List.replicate 1000 1000) = true := by decide +kernel

/-- `svc` with interval unit 7 in a gate of one reel, opened in reel 0, in the reel given. -/
def inGate (reel : Nat) : State := { (svc.setObj 0x2247 4 1).setInterval 7 { gateOpen := true } with clock := { reel := reel } }

theorem test_witness_IntervalsCapturesAndLeapsFollowTheirRules : InService svc ∧ 7 < 8 ∧ 2 ≤ 2 ∧
    ((svc.setObj 0x2247 3 1).obj (0x2240 + 7) 2 ≠ (svc.setObj 0x2247 3 1).obj (0x2240 + 7) 3) ∧
    ((svc.setObj 0x2247 3 0).setObj 0x2247 2 0).obj (0x2240 + 7) 2 = ((svc.setObj 0x2247 3 0).setObj 0x2247 2 0).obj (0x2240 + 7) 3 ∧
    (((inGate 1).interval 7).gateOpen = true ∧ (inGate 1).obj (0x2240 + 7) 4 ≠ 0 ∧ (inGate 1).obj (0x2240 + 7) 4 ≤ (inGate 1).clock.reel - ((inGate 1).interval 7).gateReel) ∧ (1 : Nat) ≠ 0 ∧
    ((86400 * 2 + 38) * 65536 + 38 < 2 ^ 64 ∧
      leapTableOk (svc.time.pendOffset.getD svc.offset0) (svc.obj 0x2201 2) svc.nextReelSecond (fun i => decide (i = 2)) 1 none
        ((svc.setObj 0x2202 1 ((86400 * 1000 + 38) * 65536 + 38)).leapWordsWith 2 ((86400 * 2000 + 37) * 65536 + 37)) = true) := by
  unfold InService; decide +kernel

/-- `svc` with reference 0 of a kind, enabled, with a rank, in a state. -/
def withRef (kind state : Nat) : State :=
  (((svc.setObj 0x3100 1 1).setObj 0x3100 3 kind).setObj 0x3100 5 1).setLoupe 0 { state := state }

theorem test_witness_ReferencesAreEnabledAndSelectedByTheHost : InService svc ∧ 31 < 32 ∧ (svc.enableRefused 0 = false ∧ svc.willEnable 0 = false) ∧
    (withRef 2 0).enableRefused 0 = true ∧ ((withRef 1 3).obj (0x3100 + 0) 1 ≠ 0 ∧ (withRef 1 3).rank 0 ≠ 0) ∧ svc.obj (0x3100 + 31) 1 = 0 := by
  unfold InService; decide +kernel

/-- A loupe of reference 0: its kind, and how it stands. -/
def withLoupe (kind : Nat) (l : Loupe) : State := (withRef kind 1).setLoupe 0 { l with state := 1 }
/-- Time base 0 known. -/
def knowing (s : State) : State := s.setSteer 0 { known := true }
/-- `svc` with virtual reference 16 on a source, enabled, its loupe as given. -/
def withVirtual (source : Nat) (l : Loupe) : State := ((svc.setObj 0x3110 1 1).setObj 0x3110 2 (256 * source)).setLoupe 16 l
/-- Reference 0, of kind 1 at 10 MHz, 2 µs after its last pad edge. -/
def quiet1 : State := { ((withRef 1 3).setObj 0x3100 4 10000000000000).setLoupe 0 { state := 3, lastPad := some 0 } with clock := { cycle := 2000 } }
/-- The window of a kind 1 reference and the frequency one step past it. -/
def pastWindow : Int := ((withRef 1 3).obj 0x3100 0x0A : Int) + 1

theorem test_witness_LoupesMeasureAndReferencesChangeState : InService (withRef 1 3) ∧
    (((withRef 1 1).loupe 0).state ≠ 0 ∧ bit (withRef 1 1).intake.faults (24 + 0) = false ∧ (withRef 1 1).time.gate = false ∧
      ((withRef 1 1).loupe 0).scaled = 0 ∧ ((withRef 1 1).loupe 0).lastEdge = none) ∧
    ((withLoupe 1 { scaled := 1 }).loupe 0).scaled ≠ 0 ∧
    (((withLoupe 1 { lastEdge := some 0 }).loupe 0).lastEdge = some 0 ∧ (withLoupe 1 { lastEdge := some 0 }).now - 0 < 100) ∧ (svc.loupe 0).state = 0 ∧
    ((withLoupe 1 {}).refUnitOn 0 = true ∧ ((withLoupe 1 {}).loupe 0).meas = [] ∧
      (withVirtual 2 { state := 2 }).refKind 16 = 3 ∧ ((withVirtual 2 { state := 2 }).loupe 16).meas = [] ∧ ((withVirtual 2 { state := 2 }).loupe 16).state ≠ 0 ∧
      (withVirtual 2 { state := 2 }).refUnitOn 16 = true ∧ (withVirtual 4 { state := 2 }).refKind 16 = 1 ∧
      ((withLoupe 1 { waiting := [(0, 5)], stamp := some 7 }).loupe 0).waiting = [(0, 5)] ∧ ((withLoupe 1 { waiting := [(0, 5)], stamp := some 7 }).loupe 0).stamp = some 7 ∧
      (withLoupe 1 {}).refKind 0 = 1 ∧ (knowing (withLoupe 2 { waiting := [(0, 0)] })).refKind 0 = 2 ∧
      ((knowing (withLoupe 2 { waiting := [(0, 0)] })).loupe 0).waiting = [(0, 0)] ∧ (ppsPhase 0).natAbs < 400000000000 ∧
      ((knowing (withLoupe 2 { waiting := [(0, 0)] })).steer 0).known = true ∧ ((knowing (withLoupe 2 {})).loupe 0).state ≠ 0) ∧
    (∀ st, st ∈ [2, 3, 4, 5] → ((withRef 1 st).loupe 0).state = st) ∧
    (quiet1.lossDetected 0 = true ∧ quiet1.refUnitOn 0 = true ∧ quiet1.time.gate = false ∧ (quiet1.loupe 0).state = 3 ∧ InService quiet1 ∧
      ({ quiet1 with clock := { cycle := 1999 } } : State).lossDetected 0 = false) ∧
    ((withRef 1 3).refKind 0 = 1 ∧ (withRef 1 3).obj (0x3100 + 0) 0x0A < pastWindow.natAbs) ∧
    (pastWindow - 1).natAbs ≤ (withRef 1 3).obj (0x3100 + 0) 0x0A ∧ (((withRef 1 4).loupe 0).state = 4 ∧ ((withRef 1 4).loupe 0).holdEnd ≤ (withRef 1 4).now) ∧
    ((withRef 1 3).loupe 0).state ≠ 4 ∧ ((withRef 1 4).setLoupe 0 { state := 4, holdEnd := 1 }).now < (((withRef 1 4).setLoupe 0 { state := 4, holdEnd := 1 }).loupe 0).holdEnd ∧
    ({ withRef 1 3 with time := { gate := true } } : State).time.gate = true := by unfold InService; decide +kernel

/-- A kind 2 reference in force; the steered time base 1 with a source; each with time base `n` named for registration. -/
def withForce (n : Nat) (x : Steer) : State :=
  ((((withRef 2 3).setObj 0x2300 2 0).setObj 0x2404 1 1).setObj 0x2403 3 n).setBase 1 { steered := true } |>.setSteer n x

theorem test_witness_RegistrationFollowsItsCommands : InService (withForce 0 {}) ∧
    (((withForce 0 {}).steer (withForce 0 {}).regBase).busy = false ∧ (withForce 0 {}).registrable (withForce 0 {}).regBase = true ∧
      (withForce 0 {}).regBase = 0 ∧ (withForce 0 {}).obj 0x2403 2 = 0) ∧
    (((withForce 1 {}).steer (withForce 1 {}).regBase).busy = false ∧ (withForce 1 {}).registrable (withForce 1 {}).regBase = true ∧ (withForce 1 {}).regBase ≠ 0) ∧
    ((withForce 0 { reg := 3 }).steer (withForce 0 { reg := 3 }).regBase).busy = true ∧ ((withForce 0 { reg := 2 }).steer (withForce 0 { reg := 2 }).regBase).reg = 2 ∧
    ((svc.steer svc.regBase).busy = false ∧ svc.registrable svc.regBase = false) ∧
    ((withForce 0 { reg := 3 }).regBase = 0 ∧ (withForce 0 { reg := 3 }).dev.latch = none ∧ (withForce 0 { reg := 3 }).clock.exposure ≠ 999) ∧
    ((withForce 1 { reg := 3 }).regBase ≠ 0 ∧ ((withForce 1 { reg := 3 }).steer (withForce 1 { reg := 3 }).regBase).reg = 3) ∧
    (({ withForce 0 { reg := 3 } with clock := { exposure := 999 } } : State).clock.exposure = 999 ∧
      ({ withForce 0 { reg := 3 } with clock := { exposure := 999 }, dev := { (withForce 0 { reg := 3 }).dev with target := some (withForce 0 {}).nextReelSecond } } :
        State).dev.target = some (withForce 0 { reg := 3 }).nextReelSecond) ∧
    ({ withForce 0 { reg := 3 } with dev := { (withForce 0 { reg := 3 }).dev with latch := some (0, 0, 0) } } : State).dev.latch ≠ none ∧
    ((withForce 0 { reg := 0 }).steer (withForce 0 { reg := 0 }).regBase).reg = 0 := by unfold InService; decide +kernel

/-- `svc` in exposure 999 with a step of time base 0 due at the next reel, a plan swap due there too or not. -/
def withStep (swap : Bool) : State := { svcAt 0 999 0 0 with
  dev := { target := some 1 }, plans := { status := if swap then 5 else 0, swapReel := if swap then 1 else 0 } }

/-- At the start of a reel or an exposure with the offset latched. -/
def latched (c : Clock) (target : Option Nat) : State := { svc with clock := c, dev := { latch := some (1, 2, 3), target := target } }

theorem test_witness_TheRegistrationStepRunsThroughItsGate : InService (withStep false) ∧
    ((withStep false).dev.target = some 1 ∧ (withStep false).atStartOf 999 = true ∧ 1 = (withStep false).nextReelSecond ∧ (withStep false).dev.latch = none ∧
      (withStep false).deferStep 1 = 1 ∧ (withStep true).deferStep 1 ≠ 1) ∧
    ((latched { reelDue := true, exposureDue := true } (some 1)).clock.reelDue = true ∧ (latched { reelDue := true, exposureDue := true } (some 1)).clock.exposureDue = true ∧
      (latched {} (some 1)).dev.latch ≠ none ∧ (latched {} (some 1)).dev.target ≠ none ∧ (latched {} (some 1)).time.gate = false) ∧
    ({ latched {} (some 1) with time := { gate := true } } : State).time.gate = true ∧
    ((latched { exposure := 1 } none).dev.latch = some (1, 2, 3) ∧ (latched { exposure := 1 } none).dev.target = none ∧
      (latched { exposure := 1 } none).atStartOf 1 = true ∧ (latched { exposure := 1 } none).time.gate = false) := by unfold InService; decide +kernel

theorem test_witness_TheDeveloperUpdatesEveryExposure : InService (running 5 0 0x40 0) ∧ (running 5 0 0x40 0).stepNow 5 0 0x40 = some ⟨0, 0x40, 0⟩ ∧
    (running 5 0 0x40 0).devReady = true ∧ ({ running 5 0 0x40 0 with boot := { svc.boot with reinit := [0x0900] } } : State).devReady = false ∧
    (running 5 0 0x41 0).stepNow 5 0 0x41 = some ⟨0, 0x41, 0⟩ ∧ (running 5 0 0x41 0).devReady = true := by unfold InService; decide +kernel

/-! ### Witnesses: synthesis and GNSS -/

/-- `svc` with DPLL 15 tracking reference 0. -/
def withDpll (x : Dpll) : State := ((((withRef 1 3).setObj 0x320F 1 1).setObj 0x320F 2 2).setObj 0x320F 3 0).setDpll 15 x

theorem test_witness_DpllsUpdateAndNarrow : InService (withDpll {}) ∧ (withDpll { running := true }).tracked 15 = some 0 ∧
    (((withDpll { running := true }).dpll 15).holdover = false ∧ ((withDpll { running := true }).dpll 15).lastUpdate ≠ some 0 ∧
      ((withDpll { running := true }).dpll 15).rebuild = false ∧ (withDpll { running := true }).usable 0 = true) ∧
    ((withDpll { running := true, rebuild := true }).dpll 15).rebuild = true ∧ ((withDpll { running := true, lastUpdate := some 0 }).dpll 15).lastUpdate = some 0 ∧
    ((withDpll { running := true, holdover := true }).dpll 15).holdover = true ∧ ((withDpll { running := true }).setLoupe 0 { state := 4 }).usable 0 = false ∧
    (((withDpll { running := true, lastUpdate := some 7 }).dpll 15).last = false ∧ ((withDpll { running := true, lastUpdate := some 7 }).dpll 15).lastUpdate ≠ none ∧
      0 + dwellNs 10000000 = 159154944 ∧
      ({ withDpll { running := true, lastUpdate := some 7, stage := 10000000 } with clock := { exposures := 159, cycle := 154944 } } : State).now = 159154944) ∧
    ((withDpll { last := true }).dpll 15).last = true ∧ (0 : Nat) < 0 + dwellNs 10000000 := by unfold InService; decide +kernel

def band47 : BandResult := ⟨47, 600⟩
/-- `svc` with output PLL 3 as given, some ns after the release of reset. -/
def withOpll (x : Opll) (ns : Nat) : State := { (svc.setObj 0x3213 1 1).setOpll 3 x with clock := { exposures := ns / 1000000, cycle := ns % 1000000 } }

theorem test_witness_OutputPllsLockAndRelock : InService (withOpll {} 0) ∧ (svc.safeDue 2 3 = false ∧ (svc.opll 3).pendEnable = none) ∧
    (((withOpll { pendEnable := some false } 1000000).opll 3).pendEnable = some false ∧ (withOpll { pendEnable := some false } 1000000).safeDue 2 3 = false ∧
      ((withOpll { pendEnable := some false } 1000000).opll 3).pendIn < (withOpll { pendEnable := some false } 1000000).clock.exposures ∧
      (withOpll { pendEnable := some false } 1000000).clock.cycle = 0 ∧ (withOpll { pendEnable := some false } 1000000).clock.exposureDue = false ∧
      (withOpll { pendEnable := some false } 1000000).obj (0x3210 + 3) 1 = 1 ∧ (withOpll { pendEnable := some false } 1).clock.cycle ≠ 0) ∧
    (∀ st, st ∈ [1, 2, 3, 4, 5] → ((withOpll { state := st } 0).opll 3).state = st) ∧
    (((withOpll { state := 2, byRecipe := true } 18000).opll 3).byRecipe = true ∧
      ((withOpll { state := 2, byRecipe := true } 18000).opll 3).searchAt + 18000 ≤ (withOpll { state := 2, byRecipe := true } 18000).now) ∧
    (((withOpll { state := 3, found := some (band47, band47) } 100000).opll 3).found = some (band47, band47) ∧
      ((withOpll { state := 3, found := some (band47, band47) } 100000).opll 3).qualAt + 100000 ≤ (withOpll { state := 3, found := some (band47, band47) } 100000).now) ∧
    (∀ n, n ∈ [2, 3] → ((withOpll { state := 1, searches := n } 500000).opll 3).searches = n ∧
      ((withOpll { state := 1, searches := n } 500000).opll 3).searchAt + 500000 ≤ (withOpll { state := 1, searches := n } 500000).now) ∧
    ((((withOpll { state := 4 } 5000001).opll 3).pins.look (fun _ => {}) (1 % 2)).since + 5000000 < (withOpll { state := 4 } 5000001).now ∧
      (withOpll { state := 4 } 5000000).now ≤ (((withOpll { state := 4 } 5000000).opll 3).pins.look (fun _ => {}) (1 % 2)).since + 5000000) := by
  unfold InService; decide +kernel

/-- The DPLL, output PLL and channel of Example 7.2: 10 GHz, divided by 400. -/
def withChannel (x : Channel) (state : Nat) : State :=
  ((((svc.setObj 0x3210 1 1).setObj 0x3210 5 10000000000000000).setObj 0x322B 2 0).setObj 0x322B 3 400).setChannel 11 x |>.setOpll 0 { state := state }

def ramp0 : Ramp := ⟨10000000000000, 10000000001000, 0, [], 1000, 0, 0, false, 0⟩
/-- `svc` with that ramp on output PLL 0, `n` cycles after its last update. -/
def ramping (n : Nat) : State := { svc.setOpll 0 { ramp := some ramp0 } with clock := { cycle := n } }
/-- A disable of channel 11 that waits since exposure 0, in exposure 1. -/
def disabling : State := { withChannel { pendEnable := some false } 4 with clock := { exposures := 1 } }

theorem test_witness_RampsAndChannelsFollowTheirRules : InService (withChannel {} 3) ∧
    (({ svc with time := { gate := true } } : State).time.gate = true) ∧
    (0 < 4 ∧ ((ramping 0).opll 0).ramp = some ramp0 ∧ ramp0.tick.done = false ∧ (∀ k, k < 4 → k ≠ 0 → ((ramping 0).opll k).ramp = none) ∧
      (ramping 999).now < ramp0.updated + 1000 ∧ ramp0.updated + 1000 ≤ (ramping 1000).now ∧ (ramping 1000).time.gate = false) ∧
    (((withChannel { gated := true } 3).channel 11).gated = true ∧ (withChannel { gated := true } 3).alignable 11 = true ∧
      ((withChannel { gated := true } 3).opll ((withChannel { gated := true } 3).obj (0x3220 + 11) 2)).state = 3) ∧
    (11 < 12 ∧ (withChannel {} 4).alignable 11 = true ∧ ((withChannel {} 4).channel 11).gated = false) ∧ (svc.setObj 0x322B 6 0).alignable 11 = false ∧
    (svc.safeDue 3 11 = false ∧ (svc.channel 11).pendEnable = none ∧ (withChannel { pendEnable := some false } 4).clock.exposures ≤ ((withChannel { pendEnable := some false } 4).channel 11).pendIn) ∧
    (disabling.safeDue 3 11 = false ∧ (disabling.channel 11).pendEnable = some false ∧ (disabling.channel 11).pendIn < disabling.clock.exposures ∧
      (disabling.channel 11).aligned = false ∧ disabling.obj (0x3220 + 11) 2 < 16) ∧ (pair.plate pair.chosenPlate).state ≤ 1 := by unfold InService; decide +kernel

/-- GNSS on, port 1 enabled, channel 127 as given. -/
def withGnss (x : GnssChannel) (g : Gnss) : State := { ((svc.setObj 0x2010 1 1).setObj 0x2602 1 1) with gnss := g } |>.setGnssChannel 127 x

/-- The search of a capture of port 1 has run, with bank 0 awake; in the second, its channels continuous and one satellite enabled. -/
def searched (x : GnssChannel) : State := (withGnss x { acq := 2, acqPort := 1 }).setDomain 4 0 { awake := true }
def searchedFree : State :=
  { ((searched {}).setObj 0x2600 5 8).setObj 0x2607 4 0x3FE with plans := { banks := [(0, some { entry := 2 ^ 64 - 1 })], domains := (searched {}).plans.domains } }

theorem test_witness_GnssPortsAcquireAndTakeUploads : InService (withGnss {} {}) ∧
    (bit (withGnss {} {}).intake.faults (88 + 1) = false ∧ (withGnss {} {}).obj 0x2010 1 = 1 ∧ (withGnss {} {}).obj (0x2601 + 1) 1 ≠ 0 ∧ (withGnss {} {}).time.gate = false) ∧
    ((withGnss { state := 3, port := 1 } {}).gnssUsed = [127] ∧ ((withGnss { state := 3, port := 1 } {}).gnssChannel 127).port = 1 ∧
      ((withGnss { state := 3, port := 1 } {}).gnssChannel 127).state ≠ 6 ∧ (withGnss { state := 3, port := 1 } {}).gnssMode 1 0 = false ∧
      (withGnss {} {}).rateError 1 = false ∧ ((withGnss {} {}).setGnssPort 1 { rate := 1 }).rateError 1 = true) ∧
    (∀ e, e ∈ [none, some (1, 2, 3)] → (withGnss {} { acq := 1, armPend := e }).gnss.acq = 1 ∧ (withGnss {} { acq := 1, armPend := e }).gnss.armPend = e ∧
      (withGnss {} { acq := 1, armPend := e }).now < (withGnss {} { acq := 1, armPend := e }).gnss.acqFrom + 10000000 ∧
      (withGnss {} { acq := 1, armPend := e }).gnss.acqFrom + 10000000 ≤ ({ withGnss {} { acq := 1, armPend := e } with clock := { exposures := 10 } } : State).now) ∧
    ((searched { state := 1, signal := 1, satellite := 5, port := 1 }).gnss.acq = 2 ∧ (searched {}).gnss.fftLeft ≤ (searched {}).clock.cycle ∧ (searched {}).bankAwake = true ∧
      (searched { state := 1, signal := 1, satellite := 5, port := 1 }).searchList 1 = [(1, 5)] ∧
      (searched { state := 1, signal := 1, satellite := 5, port := 1 }).channelOf 1 1 5 = some 127) ∧
    (searchedFree.searchList 1 = [(7, 1)] ∧ searchedFree.channelOf 1 7 1 = none ∧ searchedFree.freeChannel = some 0 ∧ searchedFree.bankAwake = true) ∧
    (withGnss {} {}).gnss.acq ≠ 2 := by unfold InService; decide +kernel

/-- An upload one octet too long, and one of the greatest length. -/
theorem test_witness_GnssPortsAcquireAndTakeUploads_length : 65536 < (List.replicate 65537 (0 : Octet)).length ∧ (List.replicate 65536 (0 : Octet)).length ≤ 65536 :=
  ⟨Nat.lt_of_lt_of_eq (by decide) List.length_replicate.symm, Nat.le_of_eq List.length_replicate⟩

theorem test_witness_SnapshotsFollowTheFilm : InService svc ∧ (svc.setObj 0x2010 1 0).obj 0x2010 1 = 0 ∧
    (∀ f, f ∈ [0, 1, 2, 3, 4, 5] → InService (withGnss {} { film := f }) ∧ (withGnss {} { film := f }).obj 0x2010 1 = 1 ∧ (withGnss {} { film := f }).gnss.film = f ∧
      (withGnss {} { film := f }).gnss.armPend = none ∧ (withGnss {} { film := f }).gnss.acq ≠ 1) ∧
    ((withGnss {} { acq := 1 }).gnss.film = 0 ∧ (withGnss {} { acq := 1 }).gnss.acq = 1 ∧ (withGnss {} { armPend := some (0, 1, 2) }).gnss.armPend ≠ none) ∧
    ((withGnss {} { film := 2, filmMs := 1 }).now < (withGnss {} { film := 2, filmMs := 1 }).gnss.filmFrom + (withGnss {} { film := 2, filmMs := 1 }).gnss.filmMs * 1000000 ∧
      (withGnss {} { film := 2, filmMs := 1 }).gnss.filmFrom + 1 * 1000000 ≤ ({ withGnss {} { film := 2, filmMs := 1 } with clock := { exposures := 1 } } : State).now) ∧
    (((withGnss {} { film := 5 }).setObj 0x2600 5 0).filmObservations 0 = [] ∧ 0 < ((withGnss {} { film := 5 }).setObj 0x2600 5 0).unknowns 0 [] + 3) := by
  unfold InService; decide +kernel

/-- GNSS port 1 at cycle 0 of exposure 100, the latch of its reel not yet solved. -/
def latchDue : State := { (withGnss {} {}).setGnssPort 1 { solveDue := true } with clock := { exposure := 100, exposures := 100 } }
/-- A track that began at TAI second 0, in a second. -/
def tracking (second : Nat) (broken : Bool) : State :=
  { withGnss {} { track := some 0, trackBroken := broken } with time := { bases := [(0, { value := second * secondUnit })] } }

theorem test_witness_SolutionsSurveysAndTracks : InService latchDue ∧ (latchDue.gnssMode 1 1 = true ∧ (latchDue.gnssPort 1).solveDue = true ∧ latchDue.clock.exposure = 100 ∧
      latchDue.clock.cycle = 0 ∧ latchDue.clock.exposureDue = false ∧ latchDue.measOf 1 = [] ∧ (latchDue.gnssPort 1).solution = 0 ∧
      (∀ r ∈ latchDue.gnssRefs 1, (latchDue.loupe r).misses = 0)) ∧ (svc.gnssPort 1).solveDue = false ∧
    (bit 4 2 = true ∧ 1 < 2 ∧ bit 3 1 = true ∧ (svc.gnssPort 1).excluded = 0) ∧
    (∀ k, k < 8 → bit 2 k = true → k ≤ 1 ∧ ((svc.setGnssPort 1 { excluded := 1 }).gnssPort k).excluded ≠ 0) ∧
    ((svc.setObj 0x2604 0x0D 0).obj (0x2603 + 1) 0x0D = 0 ∧ ((svc.setGnssPort 1 { surveyN := 1 }).gnssPort 1).surveyN ≠ 0 ∧
      (svc.setObj 0x2604 0x0E 600).obj (0x2603 + 1) 0x0E ≤ (svc.setObj 0x2604 0x0F 600).obj (0x2603 + 1) 0x0F) ∧
    ((tracking 779 false).gnss.track = some 0 ∧ (tracking 779 false).gnss.trackBroken = false ∧ (tracking 779 false).taiSecond < 0 + 780 ∧
      (tracking 0 true).gnss.trackBroken = true ∧ 0 + 780 ≤ (tracking 780 false).taiSecond ∧ (tracking 780 false).obj 0x260B 6 < 2 ^ 32) ∧
    (releaseTo Prod.fst 65535 [(65535, ([] : Octets)), (0, [])] = some [(0, [])] ∧ releaseTo Prod.fst 1 [(65535, ([] : Octets)), (0, [])] = none) := by
  unfold InService; decide +kernel

/-! ### Witnesses: ports, the switch, frames of the engine -/

/-- `pair` with lane 23 enabled in mode 3 and its port as given, 100 ms after the start of service. -/
def withPort (x : Port) : State := { ((pair.setObj 0x3417 1 1).setObj 0x3417 2 3).setPort 23 x with clock := { exposures := 100 } }

/-- The same with lanes 0 to 3 a port of four lanes in mode 5, the others of its lanes as given. -/
def withFour (enabled : Int) (x y : Port) : State :=
  (((List.range 4).foldl (fun (s : State) k => ((s.setObj (0x3400 + k) 1 (if k = 0 then 1 else enabled)).setObj (0x3400 + k) 2 5).setPort k y) (withPort {})).setPort 0 x)

def resolved (rs : Bool) : NegotiationResult := ⟨rs, 0, false, 10⟩

theorem test_witness_LinksFollowTheirStates : InService (withPort {}) ∧
    (∀ l, l ∈ [1, 2, 3, 4, 5] → ((withPort { link := l }).port 23).link = l ∧ ((withPort { link := l }).port 23).faultSince = none) ∧
    ((withFour 1 {} {}).portLanes 0 = [0, 1, 2, 3] ∧ (withFour 0 {} {}).laneOn 3 = false ∧ ((withFour 1 {} { faultSince := some 0 }).port 3).faultSince ≠ none ∧
      (∀ k ∈ (withFour 1 { link := 3, faultSince := some 0 } { link := 3 }).portLanes 0, (withFour 1 { link := 3, faultSince := some 0 } { link := 3 }).laneOn k = true ∧
        (k ≠ 0 → ((withFour 1 { link := 3, faultSince := some 0 } { link := 3 }).port k).faultSince = none))) ∧
    ((withPort {}).portLanes 23 = [23] ∧ (withPort {}).laneOn 23 = true) ∧
    ((withPort {}).setObj 0x3417 5 0).obj (0x3400 + 23) 5 = 0 ∧
    (((withPort { link := 1 }).setObj 0x3417 5 1).obj (0x3400 + 23) 5 ≠ 0 ∧ ((withPort { link := 1 }).setObj 0x3417 5 1).negWaits 23 = false ∧
      ((withPort { link := 1 }).setObj 0x3417 5 1).resolvesMode 23 (resolved true) = true ∧ ((withPort { link := 1 }).setObj 0x3417 5 2).resolvesMode 23 (resolved true) = false) ∧
    (((withPort { link := 3, faultSince := some 98000000 }).port 23).faultSince = some 98000000 ∧ 98000000 + 2000000 ≤ (withPort {}).now ∧
      (withPort {}).now < 98000001 + 2000000) ∧
    (((withPort { link := 3, cleanSince := some 50000000 }).port 23).cleanSince = some 50000000 ∧ 50000000 + 50000000 ≤ (withPort {}).now ∧
      (withPort {}).now < 50000001 + 50000000) ∧
    ((withPort { link := 4, faultSince := some 98000000 }).port 23).faultSince ≠ none := by unfold InService; decide +kernel

theorem test_witness_CalibrationsAndDeparturesAreChecked : InService (withPort {}) ∧ (withPort {}).portNumber 23 = 23 ∧
    (((withPort { holdSince := some 0 }).port 23).holdSince ≠ none ∧ ((withPort { holdSince := some 0 }).port 23).passed = none ∧
      ((withPort { holdSince := some 0 }).port 23).calFails ≠ 2 ∧ ((withPort { holdSince := some 0, calFails := 2 }).port 23).calFails = 2 ∧
      ((withPort { holdSince := some 0 }).port 23).calSince + 100000000 ≤ (withPort { holdSince := some 0 }).now ∧
      (withPort { holdSince := some 1, calSince := 1 }).now < ((withPort { holdSince := some 1, calSince := 1 }).port 23).calSince + 100000000) ∧
    (((withPort {}).port 23).confirm = [] ∧ (-200000 : Int).natAbs ≤ 200000 ∧ 200000 < (-200001 : Int).natAbs) ∧
    (((withPort { confirm := [(0xEFFF, 5)] }).port 23).confirm = (0xEFFF, 5) :: [] ∧ ((withPort { confirm := [(0xEFFF, 5)] }).port 23).txQueue.length < 64 ∧ 0xEFFF < 0xF000) ∧
    (((withPort { link := 4, unaligned := true }).port 23).unaligned = true ∧ ((withPort { link := 4, unaligned := true }).port 23).link = 4 ∧
      ((withPort {}).port 23).unaligned = false) := by
  unfold InService; decide +kernel

/-- A frame in a best-effort queue, with a TX-timestamp request or without. -/
def queued (request : Option Nat) (headAt : Option Nat) : QFrame := { kind := .forwarded (List.replicate 60 0), cells := 1, octets := 64, length := 64, request := request, headAt := headAt }

theorem test_witness_LoopbacksTimestampsAndPauses : InService (withPort {}) ∧ (23 < 24 ∧ (withPort {}).laneOn 23 = true ∧ 3 ≤ 3 ∧ svc.laneOn 23 = false) ∧
    ((withPort { started := [queued none none] }).portNumber 23 = 23 ∧ ((withPort { started := [queued none none] }).port 23).started = queued none none :: []) ∧
    ((queued (some 0xEFFF) none).request = some 0xEFFF ∧ 2 < 3 ∧ 3 ≤ 5 ∧ 2 ≤ 2 ∧
      ((withPort { started := [queued (some 0xEFFF) none], txQueue := List.replicate 63 ⟨0, 0, 0, 0, none⟩ }).port 23).txQueue.length < 64 ∧
      64 ≤ ((withPort { started := [queued (some 0xEFFF) none], txQueue := List.replicate 64 ⟨0, 0, 0, 0, none⟩ }).port 23).txQueue.length) ∧
    ((∃ e ∈ ((withPort { txQueue := [⟨1, 0, 0, 0, some 65535⟩] }).port 23).txQueue, e.seq = some 65535) ∧
      ∀ e ∈ ((withPort { txQueue := [⟨1, 0, 0, 0, some 65535⟩] }).port 23).txQueue, e.seq ≠ some 0) := by
  unfold InService; decide +kernel

/-- `withPort` with items tagged, at cycle `now`. -/
def withItems (l : List Item) (now : Nat) : State := { withPort { link := 5 } with intake := { items := l }, clock := { cycle := now } }

/-- An event of input 0 that the interval units have had, and a PAUSE frame of lane 23. -/
def eventItem : Item := ⟨40, 10, 0, .event true 5 5 true⟩
def pauseItem : Item := ⟨23, 10, 0, .frame { frame0 with payload := .pause 1 }⟩

theorem test_witness_ReceivedFramesAreCheckedAndDelivered : InService (withItems [] 0) ∧
    (bit (withItems [] 0).intake.faults 23 = false ∧ (withItems [] 0).laneReceives 23 = true ∧
      (withItems [] 0).rxCheck 23 { frame0 with octets := 63 } = some 0x16 ∧ (withItems [] 0).rxCheck 23 { frame0 with octets := 64 } = none ∧
      (withItems [] 0).isPrp (23 % 12) = false ∧ (withItems [] 0).obj (0x3400 + 23) 0x24 = 0 ∧ udpFails frame0 = false ∧ (withItems [] 0).time.gate = false) ∧
    (bit ({ withItems [] 0 with intake := { faults := 2 ^ 23 } } : State).intake.faults 23 = true ∧ (withItems [] 0).intake.items = []) ∧
    ((sortItems (withItems [eventItem] 266).intake.items).head? = some eventItem ∧ 10 + 256 ≤ (withItems [eventItem] 266).now ∧
      (withItems [eventItem] 265).now < 10 + 256 ∧ bit (withItems [eventItem] 266).intake.faults 40 = false ∧ (0 : Nat) = 40 - 40 ∧
      (withItems [eventItem] 266).obj (0x3020 + 0) 0x0F ≤ ((withItems [eventItem] 266).input 0).phase + 1 ∧ ((withItems [eventItem] 266).input 0).fifo.length < 256) ∧
    ((sortItems (withItems [eventItem, { pauseItem with tag := 9 }] 266).intake.items).head? = some { pauseItem with tag := 9 } ∧
      (sortItems (withItems [pauseItem] 266).intake.items).head? = some pauseItem ∧ ({ frame0 with payload := .pause 1 } : RxFrame).payload = .pause 1 ∧
      ((withItems [] 266).setObj 0x3417 0x0C 0).obj (0x3400 + (withItems [] 266).portNumber 23) 0x0C ≠ 1 ∧
      (withItems [] 266).intake.railErrors.look (fun _ => []) 23 = []) ∧
    (∀ r, r < 32 → ((withItems [] 0).loupe r).state = 0) := by unfold InService; decide +kernel

/-- Lane 23 in service with a frame at the head of its queue 7, 100 ms after it came there. -/
def withHead (f : QFrame) : State := (withPort { link := 5 }).setQueue 1 95 [f]

theorem test_witness_QueuesDrainAndTheHostPathIsChecked : InService (withHead (queued none (some 0))) ∧
    ((withHead (queued none (some 0))).time.gate = false ∧ ((withHead (queued none (some 0))).port 23).lpi = false ∧
      (withHead (queued none (some 0))).isPaused 23 255 = false ∧ (withHead (queued none (some 0))).isPaused 23 7 = false ∧
      (withHead (queued none (some 0))).crossed (23 % 12) = false ∧ (withHead (queued none (some 0))).laneUp 23 = true ∧ (withHead (queued none (some 0))).portNumber 23 = 23 ∧
      ((withHead (queued none (some 0))).port 23).busyUntil ≤ (withHead (queued none (some 0))).now ∧ 23 / 12 ∈ (withHead (queued none (some 0))).running ∧
      (withHead (queued none (some 0))).queue (23 / 12) (8 * (23 % 12) + 7) = [queued none (some 0)] ∧
      (queued none (some 0)).length ≤ (withHead (queued none (some 0))).obj (0x3400 + 23) 4 ∧ (withHead (queued none (some 0))).fitsGap 23 (queued none (some 0)) = true) ∧
    (withPort {}).now < ((withPort { busyUntil := 100000001 }).port 23).busyUntil ∧
    (95 < 96 ∧ (queued none (some 0)).request = none ∧ 0 + 100000000 ≤ (withHead (queued none (some 0))).now ∧ (withHead (queued none (some 1))).now < 1 + 100000000) ∧
    ((beOctets 8 0x0001070000000E00 ++ List.replicate 14 (0 : Octet)).length = 8 + 14 ∧ beNat (slice (beOctets 8 0x000107000000000E ++ List.replicate 14 0) 6 2) = 14 ∧
      beNat (slice (beOctets 8 0x000107000000000E ++ List.replicate 14 0) 0 2) = 1 ∧ beNat (slice (beOctets 8 0x000107000000000E ++ List.replicate 14 0) 2 1) < 8 ∧
      beNat (slice (beOctets 8 0x000107000000000E ++ List.replicate 14 0) 3 1) = 0 ∧ beNat (slice (beOctets 8 0x000107000000000E ++ List.replicate 14 0) 4 2) < 0xF000) ∧
    ((svc.setObj 0x3400 1 1).laneOn 0 = true ∧
      (svc.setObj 0x3400 1 1).hostLength 0 ((beOctets 8 0x000107000000000E ++ List.replicate 14 0).drop 8) ≤ (svc.setObj 0x3400 1 1).positionMtu 0) ∧
    (releaseTo HostFrame.seq 3 [⟨2, 0, true, 0, 0, 0, false, []⟩, ⟨3, 0, true, 0, 0, 0, false, []⟩] = some [] ∧
      releaseTo HostFrame.seq 3 svc.fabric.hostRx = none) ∧
    (entryOk 0 = true ∧ entryOk (2 ^ 47) = false ∧ entryOk (2 ^ 47 + 2 ^ 16) = true) ∧ (pair.plate pair.chosenPlate).state ≤ 1 := by
  unfold InService; decide +kernel

/-- Lane 23 up, its reservation of the LLDP queue just large enough for one LLDPDU. -/
def forLldp : State := ((((withPort { link := 5 }).setObj 0x2800 7 7).setObjW 95 0x2801 2 1).setObjW 95 0x2801 4 0)

theorem test_witness_TheEnginesOwnFramesAreOffered_lldp : InService forLldp ∧ 23 < 24 ∧ forLldp.laneOn 23 = true ∧ forLldp.laneUp 23 = true ∧
    forLldp.isPrp (23 % 12) = false ∧ forLldp.obj 0x2800 7 < 8 ∧ (forLldp.port 23).lldpAt = none ∧ 23 / 12 = 1 ∧ 8 * (23 % 12) + forLldp.obj 0x2800 7 = 95 ∧
    forLldp.objW 95 0x2801 4 = 0 ∧
    forLldp.cellsIn 1 95 false + (engineFrame (.lldp (forLldp.lldpNow 23)) ((forLldp.lldpNow 23).length + 4) none).cells ≤ forLldp.reservation 95 := by
  unfold InService; decide +kernel

/-- Reference 16 follows the ESMC of lane 0; upstream instance 7 polls. -/
def withSyncE (state : Nat) : State := ((svc.setObj 0x3110 2 0x0400).setLoupe 16 { state := state })
def withUpstream (mode : Nat) (u : Upstream) : State := ((((svc.setObj 0x2327 1 mode).setObj 0x311F 2 (256 * (if mode = 1 then 2 else 3) + 7)).setObj 0x311F 1 1).setLoupe 31 { state := 1 }).setUpstream 7 u

theorem test_witness_TheEnginesOwnFramesAreOffered : InService svc ∧ svc.laneOn 23 = false ∧ (withPort {}).laneOn 23 = true ∧
    (passed 1000000000 ((withPort {}).refs.esmcSent.look noneOf 23) (withPort {}).now = true ∧ passed 1000000000 (some 99000001) 1099000000 = false) ∧
    ((withPort {}).qlOf 23 ≠ (withPort {}).refs.qlSent.look (fun _ => 0) 23 ∧
      ({ withPort {} with refs := { qlSent := [(23, (withPort {}).qlOf 23)] } } : State).qlOf 23 =
        ({ withPort {} with refs := { qlSent := [(23, (withPort {}).qlOf 23)] } } : State).refs.qlSent.look (fun _ => 0) 23) ∧
    ((withSyncE 3).refs.esmcAt.look (fun _ => 0) 0 + 5000000000 ≤ ({ withSyncE 3 with clock := { exposures := 5000 } } : State).now ∧
      (withSyncE 3).refSource 16 = 4 ∧ (withSyncE 3).refInstance 16 = 0 ∧ ((withSyncE 3).loupe 16).state = 3 ∧
      ({ withSyncE 3 with clock := { cycle := 999999, exposures := 4999 } } : State).now < (withSyncE 3).refs.esmcAt.look (fun _ => 0) 0 + 5000000000) ∧
    (InService (withUpstream 1 {}) ∧ (withUpstream 1 {}).obj (0x2320 + 7) 1 = 1 ∧ passed 0 ((withUpstream 1 {}).upstreamInst 7).polledAt (withUpstream 1 {}).now = true ∧ (withUpstream 1 {}).upstreamRefs 7 ≠ []) ∧
    ((withUpstream 2 { cookies := [[1]] }).obj (0x2320 + 7) 1 = 2 ∧ (withUpstream 2 { cookies := [[1]] }).upstreamRefs 7 ≠ [] ∧
      ((withUpstream 2 { cookies := [[1]] }).upstreamInst 7).cookies ≠ [] ∧
      passed (1000000000 * 2 ^ ((withUpstream 2 {}).objI (0x2320 + 7) 5).toNat) none 0 = true ∧
      passed (1000000000 * 2 ^ ((withUpstream 2 {}).objI (0x2320 + 7) 5).toNat) (some 0) 0 = false) ∧
    ((withUpstream 1 {}).obj (0x2320 + 7) 1 ≠ 2 ∧ parseCookies 8 [0, 1, 5] = some [[5]]) ∧
    (11 < 12 ∧ (svc.setObj 0x2C4B 1 1).isPrp 11 = true ∧ ((svc.setObj 0x2C4B 1 1).setObj 0x2C4B 2 1).obj (0x2C40 + 11) 2 ≠ 0 ∧
      passed (((svc.setObj 0x2C4B 1 1).setObj 0x2C4B 2 1).obj (0x2C40 + 11) 2 * 1000000000) (svc.fabric.supervised.look noneOf 11) svc.now = true ∧ svc.isPrp 11 = false) := by
  unfold InService; decide +kernel

/-! ### Witnesses: serving -/

/-- An NTP request that is well formed, its cookie of no generation. -/
def ntp0 : NtpMessage := ⟨48, 4, 3, 6, 77, [.uniqueId (List.replicate 32 1), .cookie (List.replicate 100 2), .authenticator (List.replicate 16 0) []], [], 0, 0, none, []⟩
def request0 (eng : Nat) : Request := ⟨0, { frame0 with payload := .ntp none ntp0, udp := some (false, 123) }, 1, false, 0, 0, some (0, eng)⟩

/-- Serving engine 5 in a slot of its step at position 0, served. -/
def withServing (op : Nat) : State := (((running 1 5 op 0).setObj 0x2900 1 1).setObj 0x2920 1 1).setObj 0x2920 2 1

/-- The NTP request bound to this step; one PTP instance whose Sync and Announce streams are due. -/
def withNtp : State := let s := withServing 0x10; { s with fabric := { s.fabric with nts := [request0 5] } }
def withStreams (op : Nat) : State :=
  let s := ((withServing op).setObj 0x2910 1 1).setObj 0x2910 3 1 |>.setObj 0x2910 0x11 0
  { (s.setPosition 0 0 { state := 2 }).setStream 0 0 { sync := { interval := 0 }, announce := { interval := 0 } } with
    time := { bases := [(0, { value := secondUnit })] } }
def withOwed : State := let s := (withServing 0x12).setObj 0x2910 0x11 0; { s with serve := { s.serve with owed := [(0, [.followUp 0 7 8 [0, 0]])] } }

/-- The state on which a step of engine 5 works: without its request. -/
def unbound (s : State) : State := (s.takeBound 5).1

theorem stepWorks_of {s : State} {op : Nat} {x : PlanStep} {r : Option Request} (h1 : s.stepNow 1 5 op = some x) (h2 : (s.takeBound 5).2 = r)
    (h3 : ¬((unbound s).faults.shedding = true ∧ 32 ≤ 5)) (h4 : (unbound s).engineReady 5 = true) (h5 : (unbound s).obj 0x2900 1 ≠ 0) :
    StepWorks s 5 op x r (unbound s) := ⟨h1, Prod.ext rfl h2, h3, h4, h5⟩

theorem test_witness_ServingStepsBuildTheirFrames_nak :
    (InService withNtp ∧ (request0 5).frame.payload = .ntp none ntp0 ∧ (unbound withNtp).ntpInstance 0 (request0 5).frame = some 0 ∧
      48 ≤ ntp0.payload ∧ ntp0.payload ≤ 1280 ∧ ntp0.payload % 4 = 0 ∧ ntp0.version = 4 ∧ ntp0.mode = 3 ∧
      ntsFields ntp0.fields = some (List.replicate 32 1, List.replicate 100 2, 0) ∧
      (unbound withNtp).checkCurrent.cookieEntry (beNat ((List.replicate 100 (2 : Octet)).take 4)) = none) ∧
    StepWorks withNtp 5 0x10 ⟨0, 0x10, 0⟩ (some (request0 5)) (unbound withNtp) ∧ StepWorks (withServing 0x10) 5 0x10 ⟨0, 0x10, 0⟩ none (unbound (withServing 0x10)) := by
  refine ⟨by unfold InService; decide +kernel, stepWorks_of ?_ ?_ ?_ ?_ ?_, stepWorks_of ?_ ?_ ?_ ?_ ?_⟩ <;> decide +kernel

theorem test_witness_ServingStepsBuildTheirFrames_sync : StepWorks (withStreams 0x11) 5 0x11 ⟨0, 0x11, 0⟩ none (unbound (withStreams 0x11)) ∧
    (InService (withStreams 0x11) ∧ (unbound (withStreams 0x11)).earliestDue 0 0 = some (.stream 0) ∧ (unbound (withStreams 0x11)).authOn 0 = false ∧
      ((unbound (withStreams 0x11)).afterBinding ((unbound (withStreams 0x11)).stream 0 0).sync).2 = 0) ∧
    StepWorks (withServing 0x11) 5 0x11 ⟨0, 0x11, 0⟩ none (unbound (withServing 0x11)) ∧ (unbound (withServing 0x11)).earliestDue 0 0 = none := by
  refine ⟨stepWorks_of ?_ ?_ ?_ ?_ ?_, by unfold InService; decide +kernel, stepWorks_of ?_ ?_ ?_ ?_ ?_, ?_⟩ <;> decide +kernel

theorem test_witness_ServingStepsBuildTheirFrames_general : StepWorks (withStreams 0x12) 5 0x12 ⟨0, 0x12, 0⟩ none (unbound (withStreams 0x12)) ∧
    ((unbound (withStreams 0x12)).serve.owed.look (fun _ => []) 0 = [] ∧ (unbound (withStreams 0x12)).earliestDue 0 1 = some (.stream 0) ∧
      ((unbound (withStreams 0x12)).afterBinding ((unbound (withStreams 0x12)).stream 0 0).announce).2 = 0) ∧
    StepWorks withOwed 5 0x12 ⟨0, 0x12, 0⟩ none (unbound withOwed) ∧
    ((unbound withOwed).serve.owed.look (fun _ => []) 0 = .followUp 0 7 8 [0, 0] :: [] ∧ (unbound withOwed).authOn 0 = false) := by
  refine ⟨stepWorks_of ?_ ?_ ?_ ?_ ?_, ?_, stepWorks_of ?_ ?_ ?_ ?_ ?_, ?_⟩ <;> decide +kernel

theorem test_witness_WindowsAndPassesFillTheirSlots :
    (InService (running 1 32 0x13 0) ∧ (running 1 32 0x13 0).stepNow 1 32 0x13 = some ⟨0, 0x13, 0⟩ ∧ (running 1 32 0x13 0).faults.shedding = false ∧
      (running 1 32 0x13 0).engineReady 32 = true) ∧
    ((running 2 7 0x20 0).stepNow 2 7 0x20 = some ⟨0, 0x20, 0⟩ ∧ (running 2 7 0x20 0).domainReady 2 7 = true ∧ bit (running 2 7 0x20 0).keys.heldClusters 7 = false) ∧
    ((running 3 7 0x21 0).stepNow 3 7 0x21 = some ⟨0, 0x21, 0⟩ ∧ (running 3 7 0x21 0).domainReady 3 7 = true ∧ bit (running 3 7 0x21 0).keys.heldClusters (8 + 7) = false) ∧
    (∀ f ∈ (running 2 7 0x20 0).plans.live, f.fromStep (field 0 31 24) (passDelay ⟨0, 0x20, 0⟩) (running 2 7 0x20 0).now = false) ∧
    (∀ f ∈ (running 3 7 0x21 0).plans.live, f.fromStep (field 0 31 24) (passDelay ⟨0, 0x21, 0⟩) (running 3 7 0x21 0).now = false) ∧
    ({ running 1 32 0x13 0 with faults := { shedding := true } } : State).stepNow 1 32 0x13 = some ⟨0, 0x13, 0⟩ := by unfold InService; decide +kernel

/-- A pass for serving engine 5 on a cluster that sleeps, with a frame of the step that it belongs to, built so many slots before. -/
def withPass (kind op slots : Nat) : State := let s := (running kind 7 op 0x05000000).setDomain kind 7 {}
  { s with plans := { s.plans with live := [{ eng := 5, pos := 0, due := 0, frames := [], built := 1000000000 - 64 * slots }] }, clock := { exposures := 1000, reel := 1 } }

theorem test_witness_WindowsAndPassesFillTheirSlots_spoiled :
    (InService (withPass 2 0x20 2) ∧ (withPass 2 0x20 2).stepNow 2 7 0x20 = some ⟨0, 0x20, 0x05000000⟩ ∧ (withPass 2 0x20 2).domainReady 2 7 = false ∧
      (∃ f ∈ (withPass 2 0x20 2).plans.live, f.fromStep (field 0x05000000 31 24) (passDelay ⟨0, 0x20, 0x05000000⟩) (withPass 2 0x20 2).now = true)) ∧
    (InService (withPass 3 0x21 1) ∧ (withPass 3 0x21 1).stepNow 3 7 0x21 = some ⟨0, 0x21, 0x05000000⟩ ∧ (withPass 3 0x21 1).domainReady 3 7 = false ∧
      (∃ f ∈ (withPass 3 0x21 1).plans.live, f.fromStep (field 0x05000000 31 24) (passDelay ⟨0, 0x21, 0x05000000⟩) (withPass 3 0x21 1).now = true)) := by
  unfold InService; decide +kernel

/-- Slot 5 live, masked 901 ms ago, a fixer visit to it now on cluster 0, plate A alone. -/
def withVisit : State := { (running 2 0 0x23 0x00050001).setSlot 5 { state := 1, maskA := [1], maskedA := 99000000 } with
  twin := { plates := [(0, { state := 0 })] }
  clock := { exposures := 1000, exposure := 0 } }

theorem test_witness_ClustersAreTestedAndKeysRemasked :
    (InService (running 2 0 0x22 0) ∧ (running 2 0 0x22 0).domainReady (clusterRow 0) 0 = true ∧ (running 2 0 0x22 0).stepNow (clusterRow 0) 0 0x22 = some ⟨0, 0x22, 0⟩ ∧
      (running 2 0 0x22 0).running = [0, 1] ∧ bit (running 2 0 0x22 0).keys.heldClusters (8 * 0 + 0) = false) ∧
    (InService withVisit ∧ withVisit.domainReady (clusterRow 0) 0 = true ∧ withVisit.stepNow (clusterRow 0) 0 0x23 = some ⟨0, 0x23, 0x00050001⟩ ∧ withVisit.running = [0] ∧
      field 0x00050001 15 0 = 1 ∧ (withVisit.slot (field 0x00050001 31 16)).state = 1 ∧
      withVisit.obj 0x2A00 2 * 1000000 < withVisit.now - (withVisit.slot (field 0x00050001 31 16)).maskedA + withVisit.plan.cover * 1000000 ∧
      withVisit.now - (withVisit.slot (field 0x00050001 31 16)).maskedA ≤ withVisit.obj 0x2A00 2 * 1000000 ∧
      (withVisit.setObj 0x2A00 2 10000).now - ((withVisit.setObj 0x2A00 2 10000).slot 5).maskedA + (withVisit.setObj 0x2A00 2 10000).plan.cover * 1000000 ≤
        (withVisit.setObj 0x2A00 2 10000).obj 0x2A00 2 * 1000000) := by unfold InService; decide +kernel

/-- `running` with one scheduled frame at position 0, whose hand-off is due at the cycle given. -/
def frame5 (handed : Bool) : Scheduled := { eng := 5, pos := 0, due := 96, frames := [], handed := handed, lanes := if handed then [0] else [] }
def withLive (handed : Bool) (cycle : Nat) : State := let s := running 4 0 0x30 0x00050000; { s with
  plans := { s.plans with live := [frame5 handed] }
  clock := { cycle := cycle }
  ports := [(0, { link := 5 }), (12, { link := 5 })] }

theorem test_witness_FramesAreHandedOffAndDepart :
    (InService (withLive false 0) ∧ (withLive false 0).plans.live.find? (fun f => decide (f.pos = 0 ∧ f.handed = false ∧ f.due ≤ (withLive false 0).now + 96)) = some (frame5 false) ∧
      (frame5 false).whole = true ∧ (withLive false 0).intake.eventFramesStopped = false ∧ (withLive false 0).time.gate = false ∧
      (withLive false 0).beforeJoin (frame5 false) = false ∧ (withLive false 0).copyLanes 0 ≠ [] ∧
      (∀ e ∈ (withLive false 0).copyLanes 0, (withLive false 0).withheldFor (frame5 false) e.1 = none) ∧ (withLive false 0).paired = true ∧ (frame5 false).request = none) ∧
    ((withLive true 33).stepNow 4 0 0x30 = some ⟨0, 0x30, 0x00050000⟩ ∧ (withLive true 33).domainReady 5 0 = true ∧ (withLive true 33).twin.resetGap = false ∧
      (withLive true 33).isPrp 0 = false ∧ (frame5 true).regrants = [] ∧
      (withLive true 33).plans.live.find? (fun f => decide (f.pos = 0 ∧ f.handed = true ∧ f.due < (withLive true 33).now + 64)) = some (frame5 true)) := by
  unfold InService; decide +kernel

/-- Record 262143 with a Sync grant that ends in TAI second 7. -/
def withRecord (r : ClientRecord) : State := { svc.setClient 262143 r with time := { bases := [(0, { value := 7 * secondUnit })] } }
/-- Instance 7 of profile 6 enabled, in service, position 11 as given. -/
def withInstance (x : Position) : State := { ((((svc.setObj 0x2917 1 1).setObj 0x2917 2 6).setObj 0x2900 1 1).setPosition 7 11 x) with
  clock := { exposures := 100000 } }
/-- Key slot 1 live for cookies, the current generation its own. -/
def withGeneration : State := (svc.setSlot 1 { state := 1, mask := 1, generation := 5 }).setObj 0x2A10 1 (2 ^ 31 + 2 ^ 30 + 2 ^ 16 + 5)

theorem test_witness_InstancesGrantsAndRecordsChange : InService svc ∧ (7 < 8 ∧ 1 ≤ 1 ∧ svc.overlaps 7 = false ∧ withGeneration.overlaps (16 + 7) = false ∧
      withGeneration.currentEntry ≠ none) ∧
    (((withInstance { state := 1, upAt := some 0 }).position 7 11).state = 1 ∧ ((withInstance { state := 1, upAt := some 0 }).position 7 11).upAt = some 0 ∧
      0 + (withInstance { state := 1 }).listenCycles 7 ≤ (withInstance { state := 1 }).now ∧ ((withInstance { state := 1 }).position 7 11).upAt = none) ∧
    ((((withRecord { valid := true, sync := { interval := 0, expiry := 7 } }).client 262143).grant 0).live = true ∧
      0 ≤ signed 32 (((withRecord {}).taiSecond % 2 ^ 32 + 2 ^ 32 - (((withRecord { valid := true, sync := { interval := 0, expiry := 7 } }).client 262143).grant 0).expiry) % 2 ^ 32)) ∧
    (((withRecord { valid := true }).setObj 0x2940 1 262143).obj 0x2940 1 = 262143 ∧ ((withRecord { valid := true }).client 262143).valid = true ∧
      ((withRecord { quarantined := true }).client 262143).quarantined = true) ∧
    ((withInstance { state := 2, pending := true }).ptpOn 7 = true ∧ (withInstance { state := 2 }).profile 7 = 6 ∧
      ((withInstance { state := 2 }).position 7 11).state = 2 ∧ (withInstance { state := 2 }).obj 0x2900 1 ≠ 0 ∧
      ((withInstance { state := 2, pdelayAt := some 99000000000 }).position 7 11).pdelayAt = some 99000000000 ∧
      99000000000 + 1000000000 ≤ (withInstance { state := 2 }).now) := by unfold InService; decide +kernel

/-! ### Witnesses: keys -/

/-- An import record: into slot 5 under slot 4, with flags. -/
def import5 (flags : Octet) : Octets := [0, 5, 0, 4, 4, flags] ++ List.replicate 58 0
/-- Slot 0 a root that wraps, slot 4 a child that wraps, seven levels down. -/
def withKeys : State := ((svc.setSlot 0 { state := 1, mask := 8 }).setSlot 4 { state := 1, mask := 8, depth := 6 }).setObj 0x2A00 5 0

theorem test_witness_KeysAreImportedInvalidatedAndErased : InService withKeys ∧ (parseImport []).formOk = false ∧
    (∀ f, f ∈ [(0 : Octet), 1] → (parseImport (import5 f)).formOk = true ∧ (parseImport (import5 f)).target ≠ 0 ∧
      withKeys.slotState (parseImport (import5 f)).target = 0 ∧ withKeys.slotState (parseImport (import5 f)).parent = 1 ∧
      bit (withKeys.slot (parseImport (import5 f)).parent).mask unitWrap = true ∧ (withKeys.slot (parseImport (import5 f)).parent).depth ≤ 6 ∧
      bit (parseImport (import5 f)).flags 1 = false ∧ bit (parseImport (import5 f)).flags 0 = decide (f = 1)) ∧
    withKeys.obj 0x2A00 5 = 0 ∧ withKeys.wrapUnitOk = true ∧ (svc.slotState 0 = 0 ∧ (List.replicate 32 (0 : Octet)).length = 32) ∧ withKeys.slotState 0 ≠ 0 ∧
    (0 < 4 ∧ 4 < 4096 ∧ withKeys.slotState 4 = 1) ∧ (4095 < 4096 ∧ withKeys.slotState 4095 = 0) := by unfold InService; decide +kernel

/-- Slot 5 an AES key of generation 7, slot 6 an HMAC key of generation 8. -/
def withEntries : State := ((svc.setSlot 5 { state := 1, mask := 1, generation := 7 }).setSlot 6 { state := 1, mask := 2, generation := 8 }).setObj 0x2A30 1 1
/-- A valid entry of slot 5. -/
def entry5 : Nat := 2 ^ 31 + 5 * 2 ^ 16 + 7
/-- A valid association of slot 6 as its ten octets say. -/
def association6 : Octets := [0x80, 1, 0, 0, 0, 2, 0, 6, 0, 8]

theorem test_witness_TablesAreCheckedAndTamperErasesKeys : InService withEntries ∧ (1 ≤ 16 ∧ 16 ≤ 16 ∧ entry5 < 2 ^ 32 ∧ field entry5 29 28 = 0 ∧ entryValid entry5 = true) ∧
    svc.slotState (entrySlot entry5) ≠ 1 ∧
    (withEntries.slotState (entrySlot entry5) = 1 ∧ bit (withEntries.slot (entrySlot entry5)).mask unitAes = true ∧
      (withEntries.slot (entrySlot entry5)).generation = entry5 % 65536 ∧
      (∀ i, i < 17 → 1 ≤ i → i ≠ 16 → entryValid (withEntries.generationEntry i) = true → entrySlot (withEntries.generationEntry i) ≠ entrySlot entry5) ∧ withEntries.ntpEnabled = false) := by
  unfold InService; decide +kernel

theorem test_witness_TablesAreCheckedAndTamperErasesKeys_association :
    (association6.length = 10 ∧ beNat (slice association6 0 1) = 128 * bitNat true ∧ beNat (slice association6 1 1) = 1 ∧ beNat (slice association6 2 4) = 2 ∧
      beNat (slice association6 6 2) = 6 ∧ beNat (slice association6 8 2) = 8 ∧ withEntries.slotState 6 = 1 ∧ bit (withEntries.slot 6).mask unitHmac = true ∧
      (withEntries.slot 6).generation = 8 ∧ ∀ i, i < 64 → i ≠ withEntries.obj 0x2A20 1 → (withEntries.association i).valid = false) := by
  decide +kernel

theorem test_witness_TablesAreCheckedAndTamperErasesKeys_tamper :
    (bit (withEntries.obj 0x2A30 1) (1 - 1) = true ∧ bit (withEntries.obj 0x2A30 1) (2 - 1) = false) ∧
    (withEntries.serving = true ∧ ({ withEntries with keys := { withEntries.keys with erasedIn := some 0 } } : State).keys.erasedIn =
      some ({ withEntries with keys := { withEntries.keys with erasedIn := some 0 } } : State).slowPeriod ∧ withEntries.keys.erasedIn ≠ some withEntries.slowPeriod) ∧
    ({ svc with darkroom := { root := some [1] } } : State).darkroom.root ≠ none := by
  decide +kernel

/-! ### Witnesses: media -/

/-- `svc` with media port 7 as given, a slave or a master. -/
def withMedia (x : MediaPort) (slave : Nat) : State := ((svc.setObj (mediaIdx 7) 1 1).setObj (mediaIdx 7) 2 slave).setMport 7 x

/-- The same with its domain awake. -/
def mediaUp (x : MediaPort) (slave : Nat) : State := (withMedia x slave).setDomain 6 7 { awake := true }
/-- A received frame of port 7 that is due, with so many BCLK periods. -/
def mediaItem (bclks : Nat) : Item := ⟨97, 10, 0, .media 10 0 bclks [1]⟩
def mediaDue (x : MediaPort) (slave bclks : Nat) : State := { mediaUp x slave with intake := { items := [mediaItem bclks] }, clock := { cycle := 266 } }

theorem test_witness_MediaPortsRunLoseAndRegainTheirClocks : InService (mediaUp {} 0) ∧ 7 < 8 ∧ ({ svc with time := { gate := true } } : State).time.gate = true ∧
    (∀ l, l ∈ [[], [[(1 : Int)]]] → (mediaUp { state := 1, tx := l, grid := some 7 } 0).time.gate = false ∧ ((mediaUp { state := 1, tx := l, grid := some 7 } 0).mport 7).state = 1 ∧
      ((mediaUp { state := 1, tx := l, grid := some 7 } 0).mport 7).combinerFault = false ∧ (mediaUp { state := 1, tx := l, grid := some 7 } 0).frameDue 7 = true ∧
      (mediaUp { state := 1, tx := l, grid := some 7 } 0).domainReady 6 7 = true ∧ ((mediaUp { state := 1, tx := l, grid := some 7 } 0).mport 7).restartAt = none ∧
      (mediaUp { state := 1, tx := l, grid := some 7 } 0).mediaSlave 7 = false ∧ ((mediaUp { state := 1, tx := l, grid := some 7 } 0).mport 7).loop = false ∧
      (mediaUp { state := 1, tx := l, grid := some 7 } 0).obj 0x2E10 (7 + 1) ≠ 1 ∧ ((mediaUp { state := 1, tx := l, grid := some 7 } 0).mport 7).refill = false ∧
      ((mediaUp { state := 1, tx := l, grid := some 7 } 0).mport 7).framing = 0 ∧
      ((((mediaUp { state := 1, tx := l, grid := some 7 } 0).setMport 7 { ((mediaUp { state := 1, tx := l, grid := some 7 } 0).mport 7) with
        sentFrame := some ((mediaUp { state := 1, tx := l, grid := some 7 } 0).gridFrame 7) }).mediaCatchUp 7).mport 7).tx = l) ∧
    (mediaUp { state := 1, sentFrame := some 0 } 0).frameDue 7 = false ∧ (withMedia { state := 1 } 0).domainReady 6 7 = false ∧
    ((mediaUp {} 0).mport 7).state ≠ 1 ∧ ((mediaUp { combinerFault := true } 0).mport 7).combinerFault = true ∧
    (bit (mediaUp { state := 1 } 0).intake.faults (90 + 7) = false ∧ ((mediaUp { state := 1 } 0).mport 7).state ≠ 0 ∧ ((mediaUp { state := 1 } 0).mport 7).state ≠ 4) := by unfold InService; decide +kernel

theorem test_witness_MediaPortsRunLoseAndRegainTheirClocks_received :
    ((sortItems (mediaDue { state := 1, rx := List.replicate 15 [] } 0 0).intake.items).head? = some ⟨90 + 7, 10, 0, .media 10 0 0 [1]⟩ ∧
      10 + 256 ≤ (mediaDue { state := 1 } 0 0).now ∧ (mediaDue { state := 1 } 0 0).time.gate = false ∧ bit (mediaDue { state := 1 } 0 0).intake.faults (90 + 7) = false ∧
      (mediaDue { state := 1 } 0 0).mediaSlave 7 = false ∧ ((mediaDue { state := 1, rx := List.replicate 15 [] } 0 0).mport 7).rx.length < 16 ∧
      16 ≤ ((mediaDue { state := 1, rx := List.replicate 16 [] } 0 0).mport 7).rx.length ∧ (mediaDue { state := 2 } 1 0).mediaSlave 7 = true ∧
      ((mediaDue { state := 2 } 1 0).mport 7).state = 2 ∧ 256 = (mediaDue { state := 2 } 1 256).obj (mediaIdx 7) 5 * (mediaDue { state := 2 } 1 256).obj (mediaIdx 7) 6) := by decide +kernel

theorem test_witness_MediaPortsRunLoseAndRegainTheirClocks_clock :
    (∀ st, st ∈ [1, 3] → (mediaUp { state := st } 1).mediaSlave 7 = true ∧ ((mediaUp { state := st } 1).mport 7).state = st ∧
      ({ mediaUp { state := st, edges := [(0, 0, 0)] } 1 with clock := { exposures := 1 } } : State).edgesLost 7 = true ∧
      (mediaUp { state := st } 1).edgesLost 7 = false ∧ (mediaUp { state := st } 1).rateLost 7 = false) ∧
    (((mediaUp { state := 3, asrc := 2, lockAt := some 0 } 1).mport 7).asrc = 2 ∧ heldFor (some 0) 50000000 50000000 = true) ∧
    (({ mediaUp { state := 1 } 0 with groups := { committed := [(7, 128)] }, clock := { exposures := 1 } } : State).safeDue 7 7 = true ∧
      (mediaUp { state := 1 } 0).frameDue 7 = true) ∧
    (((mediaUp { restartAt := some 0 } 0).mport 7).restartAt = some 0 ∧ ((0 * secondUnit : Nat) : Int) ≤ (mediaUp {} 0).gridTime 7 + nsUnit ∧
      (mediaUp {} 0).gridTime 7 + nsUnit < ((1 * secondUnit : Nat) : Int)) := by decide +kernel

/-- `svc` with channel 0 of port 7 selected and its state as given. -/
def withMediaChannel (x : MediaChannel) (enabled : Nat) : State :=
  (((svc.setObj 0x2B01 1 7).setObj 0x2B01 2 0).setObjW 224 0x2B01 4 enabled).setMchannel 224 x

theorem test_witness_ChannelsPassTheirGates : InService (withMediaChannel {} 0) ∧
    ((withMediaChannel {} 0).selectedChannel = 224 ∧ ((withMediaChannel {} 0).mchannel 224).pend = none ∧ (withMediaChannel {} 0).objW 224 0x2B01 4 = bitNat (!true)) ∧
    ((withMediaChannel { pend := some true } 0).mchannel 224).pend = some (!false) ∧ ((withMediaChannel { pend := some false } 1).mchannel 224).pend = some false ∧ 1 < 2 ∧
    (((withMediaChannel { state := 1 } 1).mchannel (32 * 7 + 0)).state = 1 ∧ ((withMediaChannel { state := 3 } 1).mchannel (32 * 7 + 0)).state = 3 ∧
      (withMediaChannel { state := 1 } 1).crosses (32 * 7 + 0) 0 = true ∧
      ((withMediaChannel { state := 1 } 1).setObjW 224 0x2B01 3 0x300).crosses (32 * 7 + 0) 5 = false ∧
      ((withMediaChannel { state := 1 } 1).mchannel (32 * 7 + 0)).since + (withMediaChannel { state := 1 } 1).objW (32 * 7 + 0) 0x2B01 7 * 1000000 ≤
        ({ withMediaChannel { state := 1 } 1 with clock := { exposures := 100000 } } : State).now ∧
      (withMediaChannel { state := 1 } 1).now < ((withMediaChannel { state := 1 } 1).mchannel (32 * 7 + 0)).since + (withMediaChannel { state := 1 } 1).objW (32 * 7 + 0) 0x2B01 7 * 1000000 ∧
      ¬(((withMediaChannel { state := 2 } 1).mchannel (32 * 7 + 0)).state = 1 ∨ ((withMediaChannel { state := 2 } 1).mchannel (32 * 7 + 0)).state = 3)) ∧
    ((withMedia {} 0).mediaSlave 7 = false ∧ (withMedia {} 0).mediaOn 7 = true ∧ (withMedia {} 1).mediaSlave 7 = true) := by unfold InService; decide +kernel

/-! ### Witnesses: the plates and faults -/

/-- `pair` with one plate replaced, at an exposure. -/
def withPlate (p : Nat) (x : Plate) (exposures : Nat) : State := { pair.setPlate p x with clock := { exposures := exposures } }
/-- Phase 2 with plate 1 as given and plate 0 in proof. -/
def inProof (x : Plate) : State := { boot := { phase := 2, inReset := false }, twin := { plates := [(0, { state := 3 }), (1, x)] } }

/-- `pair` running a plan in which correlator bank 0 sleeps for the whole reel, the cap ample. -/
def napping : State := { pair with plans := { banks := [(0, some { cap := 65535 })] }, clock := { exposures := 10, exposure := 10 } }

theorem test_witness_RolesChangeAndPlatesAreProved : (InService pair ∧ pair.paired = true) ∧ (InService svc ∧ svc.paired = false) ∧
    (pair.twin.joinedAt = none ∧ ({ pair with twin := { pair.twin with joinedAt := some 3 } } : State).paired = true) ∧
    (InService (withPlate 1 { state := 3 } 0) ∧ ((withPlate 1 { state := 3 } 0).plate 1).state = 3 ∧ ((withPlate 1 { state := 3 } 0).plate 1).waiting = false ∧
      (withPlate 1 { state := 3 } 0).twin.testPlate ≠ some 1) ∧
    ((inProof { state := 3, waiting := true }).boot.phase = 2 ∧ ((inProof { state := 3, waiting := true }).plate 0).state = 3 ∧
      ((inProof { state := 3, waiting := true }).plate (1 - 0)).waiting = true ∧ ((inProof { state := 3, waiting := true }).plate (1 - 0)).state ≠ 6 ∧
      ((inProof { state := 6 }).plate (1 - 0)).state = 6) ∧
    (((withPlate 1 { state := 5, resetAt := some 0 } 10).plate 1).resetAt = some 0 ∧ 0 + 10000000 ≤ (withPlate 1 {} 10).now ∧ (withPlate 1 {} 10).now < 1 + 10000000) ∧
    (napping.proofFits 4 0 = true ∧ napping.paired = true ∧ InService napping ∧ 0 < 16 ∧ napping.twin.active < 2 ∧ (napping.setDomain 4 0 { awake := true }).proofFits 4 0 = false) := by unfold InService; decide +kernel

/-- Plate 1 re-synchronises since exposure 10, in the exposure and cycle given. -/
def inResync (again mirror snapshot equal : Bool) (exposures cycle : Nat) : State := { svc with
  twin := { plates := [(0, { state := 0 }), (1, { state := 4 })], resync := some (1, 10, again), mirror := mirror, snapshot := snapshot, digestsEqual := equal }
  clock := { exposures := exposures, cycle := cycle } }
/-- The same at the join, with a plan whose ensemble part runs there. -/
def ensembleAt (exposures : Nat) : State := { inResync false true true true exposures 0 with
  plans := { banks := [(0, some { rows := [⟨5, 0, 15625000, [⟨15624, 0x41, 2⟩]⟩] })] }, clock := { exposures := exposures, exposure := 1 } }
/-- `pair` an exposure after a join. -/
def joined : State := { pair with twin := { pair.twin with joinedAt := some 21 }, clock := { exposures := 22 } }

theorem test_witness_APlateRejoins :
    (InService (withPlate 1 { state := 3, waiting := true } 0) ∧ (withPlate 1 { state := 3, waiting := true } 0).clock.cycle = 0 ∧
      (withPlate 1 { state := 3, waiting := true } 0).clock.exposureDue = false ∧
      ((withPlate 1 { state := 3, waiting := true } 0).plate (1 - 1)).state = 0 ∧ ((withPlate 1 { state := 3, waiting := true } 0).plate (1 - 1)).fatalLast = false ∧
      ((withPlate 1 { state := 3, waiting := true } 0).plate 1).state = 3 ∧ ((withPlate 1 { state := 3, waiting := true } 0).plate 1).waiting = true) ∧
    (((inResync true false false false 21 0).plate 1).state = 4 ∧ (inResync true false false false 21 0).twin.resync = some (1, 10, true) ∧
      (inResync true false false false 21 0).twin.mirror = false) ∧
    ({ pair with clock := { cycle := 1 } } : State).clock.cycle ≠ 0 ∧
    ((inResync false true false false 18 0).twin.mirror = true ∧ (inResync false true false false 18 0).clock.exposures = 10 + 8 ∧
      (inResync false true false false 18 0).clock.cycle = 0 ∧ (inResync false true false false 19 0).clock.exposures ≠ 10 + 8) ∧
    (∀ a, a ∈ [false, true] → (inResync a true true false 20 999999).twin.snapshot = true ∧ (inResync a true true false 20 999999).twin.digestsEqual = false ∧
      (inResync a true true false 20 999999).clock.exposures = 10 + 10 ∧ (inResync a true true false 20 999999).clock.cycle = 999999 ∧
      ((inResync a true true false 20 999999).plate 1).state = 4) ∧
    ((inResync false true true true 21 0).twin.digestsEqual = true ∧ (inResync false true true true 21 0).clock.exposures = 10 + 11 ∧
      (inResync false true true true 21 0).ensembleRuns = false ∧ (inResync false true true true 21 0).clock.exposureDue = false ∧
      (inResync false true true true 21 0).twin.joinedAt = none ∧ ((inResync false true true true 21 0).plate 1).state = 4) ∧
    ((ensembleAt 21).clock.exposures = 10 + 11 ∧ (ensembleAt 21).ensembleRuns = true ∧ (ensembleAt 22).clock.exposures = 10 + 12) ∧
    (joined.twin.joinedAt = some 21 ∧ joined.clock.exposures = 21 + 1 ∧ joined.clock.cycle = 0 ∧ joined.clock.exposureDue = false ∧ pair.twin.joinedAt = none) := by
  unfold InService; decide +kernel

theorem test_witness_ErrorLinesLatchAndAct : State.reset.boot.inReset = true ∧ svc.boot.inReset = false ∧ (1 < 2 ∧ 240 ≤ 240) ∧
    ((pair.line 1 240).reelCorrected + 1 ≤ pair.obj 0x2D01 1 ∧ (pair.line 1 240).reelCorrected + 1 ≠ pair.obj 0x2D01 2) ∧ pair.escalated 1 240 = 2 ∧
    (1 ≠ 158 ∧ pair.paired = true ∧ pair.twin.active = 1 - 1) ∧ svc.darkroom.fault = false ∧
    (InService ((pair.setObj 0x2E20 1 1).setObj 0x2E20 2 240) ∧ ((pair.setObj 0x2E20 1 1).setObj 0x2E20 2 240).obj 0x2E20 1 = 1 ∧
      ((pair.setObj 0x2E20 1 1).setObj 0x2E20 2 240).obj 0x2E20 2 = 240 ∧ (((pair.setObj 0x2E20 1 1).setObj 0x2E20 2 240).plate 1).state = 1 ∧
      ((pair.setObj 0x2E20 1 1).setObj 0x2E20 2 240).twin.active ≠ 1) ∧
    ((svc.setObj 0x2E20 1 0).plate 0).state ≠ 1 ∧ 240 < 241 ∧ ((pair.setObj 0x2E20 2 241).obj 0x2E20 2 = 241) := by unfold InService; decide +kernel

/-- `pair` with the classifier's entries as given, 60 s after its start. -/
def withSource (x : Source) : State := { (pair.setLaneSource 23 x).setAddressSource 65535 x with clock := { exposures := 60000 } }
/-- `pair` that tracks address 9 in its entry. -/
def withAddress : State := pair.setAddressSource (pair.addressEntry 9) { address := 9, tracked := true }

theorem test_witness_TheContactSheetAndTheClassifierAreCleared : ({ svc with faults := { saveDue := true } } : State).faults.saveDue = true ∧ svc.faults.saveDue = false ∧
    InService (withSource {}) ∧ (0 : Nat) ≠ 1 ∧ ((pair.plate pair.chosenPlate).state ≤ 1 ∧ 1 ≤ 8 ∧ 8 ≤ 8) ∧
    (((withSource { severeUntil := some 60000000000 }).laneSource 23).severeUntil = some 60000000000 ∧ 60000000000 ≤ (withSource {}).now ∧ (withSource {}).now < 60000000001) ∧
    (65535 < 65536 ∧ ((withSource { severeUntil := some 60000000000 }).addressSource 65535).severeUntil = some 60000000000) ∧
    ((withAddress.addressSource (withAddress.addressEntry 9)).tracked = true ∧ (withAddress.addressSource (withAddress.addressEntry 9)).address = 9 ∧
      (pair.addressSource (pair.addressEntry 9)).tracked = false) ∧ 2 ^ 24 - 1 < 2 ^ 24 := by unfold InService; decide +kernel

/-! ### Witnesses: start-up -/

/-- The block out of reset in a phase. -/
def inPhase (b : Boot) : State := { boot := { b with inReset := false } }

theorem test_witness_ThePowerUpSequenceRunsInItsPhases : State.reset.boot.inReset = true ∧ svc.boot.inReset = false ∧
    ((inPhase { repeats := 2 }).boot.inReset = false ∧ (inPhase { repeats := 2 }).boot.stopped = false ∧ (inPhase { repeats := 2 }).boot.phase = 0 ∧ (inPhase { repeats := 2 }).boot.testEnable = false ∧
      bit 0x1B 2 = false ∧
      (inPhase { repeats := 2 }).boot.repeats < 3 ∧ 3 ≤ (inPhase { repeats := 3 }).boot.repeats ∧ bit 0x1F 2 = true) ∧
    (inPhase { phase := 1 }).boot.phase = 1 ∧ ((inPhase { phase := 3 }).boot.phase = 3 ∧ (inPhase { phase := 3 }).junctionHot = false) ∧
    ((inPhase { phase := 4 }).boot.loaded = false ∧ bit (inPhase { phase := 4 }).boot.sectionsValid 2 = false ∧ bit (inPhase { phase := 4 }).boot.sectionsValid 5 = false) ∧
    (bit (inPhase { phase := 4, sectionsValid := 4 }).boot.sectionsValid 2 = true ∧
      ({ inPhase { phase := 4, sectionsValid := 4 } with darkroom := { root := some [1] } } : State).darkroom.root = some [1]) ∧
    (bit (inPhase { phase := 4, sectionsValid := 32 }).boot.sectionsValid 5 = true ∧
      ({ inPhase { phase := 4, sectionsValid := 32 } with darkroom := { secE := some {} } } : State).darkroom.secE = some {}) := by decide +kernel

/-- A firmware image of the least length and the highest version, signed under key 0. -/
def image0 : Octets := beOctets 4 0x43584657 ++ [0, 1, 0, 0] ++ beOctets 4 0x80 ++ beOctets 4 0xFFFFFFFF ++ List.replicate 112 0

/-- Each case of the firmware's choice can arise: without an image no slot is usable, and an image whose signature the verifier accepts (log 6)
under a key that OTP does not revoke is. -/
theorem test_witness_ThePowerUpSequenceRunsInItsPhases_firmware : (inPhase { phase := 1 }).slotVersion 0 = none ∧
    (bit (Config.otp 1 0) 0 = false → Config.ed25519Verify (otpKey 0) (image0.take 0x40 ++ image0.drop 0x80) (slice image0 0x40 64) = true →
      (inPhase { phase := 1, slots := [image0, []] }).slotVersion 0 = some 0xFFFFFFFF) := by
  refine ⟨rfl, fun h1 h2 => ?_⟩
  have h3 : image0.take 0x80 = image0 := by decide +kernel
  have h4 : (inPhase { phase := 1, slots := [image0, []] }).planKeyOk 0 = true := by unfold State.planKeyOk; rw [h1]; decide
  show State.firmwareVersion _ image0 = _
  unfold State.firmwareVersion
  have e1 : imageField image0 8 4 = 0x80 := by decide +kernel
  have e2 : imageField image0 6 1 = 0 := by decide +kernel
  have e3 : imageField image0 12 4 = 0xFFFFFFFF := by decide +kernel
  simp only [e1, e2, e3, h3]
  rw [if_pos]
  refine ⟨by decide +kernel, by decide +kernel, by decide +kernel, by decide, by decide, by decide +kernel, h4, h2, ?_⟩
  unfold State.rollbackFloor
  exact Nat.max_le.2 ⟨Nat.le_of_lt_succ (Nat.mod_lt _ (by decide)), by decide⟩

/-- In phase 4 with the time base restored and plates that wait. -/
def readyToStart (a b : Bool) : State := { inPhase { phase := 4, loaded := true } with twin := { plates := [(0, { state := 3, waiting := a }), (1, { state := 3, waiting := b })] } }

theorem test_witness_ServiceStartsAtAWholeSecond : (readyToStart true true).boot.inReset = false ∧ (readyToStart true true).boot.phase = 4 ∧
    (readyToStart true true).boot.loaded = true ∧ ((readyToStart true true).plate 0).waiting = true ∧ ((readyToStart true true).plate 1).waiting = true ∧
    ((readyToStart true false).plate 1).waiting = false ∧ ((readyToStart false true).plate 0).waiting = false ∧ (inPhase { phase := 4 }).boot.loaded = false := by decide

theorem test_witness_ResetsLeaveTheDarkroomAndTheFlash : (svc.boot.inReset = false ∧ svc.boot.flashStatus ≠ 1) ∧ State.reset.boot.inReset = true ∧
    ((inPhase { flashStatus := 1, flashTarget := some 2 }).boot.flashStatus = 1 ∧ (inPhase { flashStatus := 1, flashTarget := some 2 }).boot.flashTarget = some 2) ∧
    InService svc ∧ svc.boot.resetPending = none ∧ (inPhase { phase := 5, resetPending := some 5 }).boot.resetPending = some 5 ∧
    (∀ a, a ∈ [0, 1] → ({ svc with boot := { svc.boot with resetPending := some 4, resetAt := a } } : State).serving = true ∧
      (({ svc with boot := { svc.boot with resetPending := some 4, resetAt := a } } : State).now < a ↔ a = 1)) ∧
    (inPhase { phase := 4, resetPending := some 5 }).serving = false ∧ svc.twin.gapSince = none := by
  unfold InService; decide

theorem test_witness_ReinitialisationsAreAcceptedAndEnd : InService svc ∧ (svc.functionOk 0x100 = true ∧ svc.functionOk 0x118 = false ∧ svc.functionOk 0x802 = false) ∧
    (0x100 ∈ (inPhase { phase := 5, reinit := [0x100] }).boot.reinit ∧ 0x100 ∉ svc.boot.reinit ∧ 0x100 ∉ svc.boot.reinitPending) ∧
    (∀ e, e ∈ [reinitLength 0x100, reinitLength 0x100 - 1] → ({ inPhase { phase := 5, reinit := [0x100] } with clock := { exposures := e } } : State).clock.exposures = e ∧
      (0 + reinitLength 0x100 ≤ e ↔ e = reinitLength 0x100)) ∧
    (0x800 / 256 = 8 ∧ svc.twin.active = 0x800 % 256 ∧ svc.paired = false ∧ svc.functionOk 0x800 = true ∧ svc.twin.resetAfterSwap = none ∧
      ({ pair with twin := { pair.twin with resetAfterSwap := some 1 } } : State).twin.resetAfterSwap.isSome = true) ∧ (pair.paired = true ∧ 0x100 / 256 ≠ 7) := by
  unfold InService; decide +kernel

theorem test_witness_FlashIsWrittenAndReadBack : InService svc ∧ svc.flashBusy = false ∧ (inPhase { flashStatus := 1 }).flashBusy = true ∧
    ((inPhase { flashStatus := 1, flashTarget := some 3 }).boot.flashStatus = 1 ∧ (inPhase { flashStatus := 1, flashTarget := some 3 }).boot.flashTarget = some 3) ∧
    (svc.boot.inReset = false ∧ svc.boot.flashStatus ≠ 1) := by unfold InService; decide +kernel

theorem test_witness_BoundariesCountExposuresAndReels : (∀ e, e ∈ [998, 999] → InService (svcAt 999999 e e 0) ∧ (svcAt 999999 e e 0).clock.exposureDue = false ∧
      (svcAt 999999 e e 0).clock.reelDue = false ∧ (svcAt 999999 e e 0).time.gate = false ∧ (svcAt 999999 e e 0).clock.cycle = 999999) ∧ (svcAt 999998 0 0 0).clock.cycle < 999999 ∧
    (∀ d, d ∈ [false, true] → ({ svc with clock := { exposureDue := d, reelDue := true } } : State).clock.cycle = 0 ∧
      InService { svc with clock := { exposureDue := d, reelDue := true } } ∧ ({ svc with clock := { exposureDue := d, reelDue := true } } : State).gateAhead = false) ∧
    ({ svc with time := { gate := true } } : State).time.gate = true ∧ ((inPhase { phase := 4 }).boot.phase ≠ 5 ∧ (inPhase { phase := 4 }).boot.inReset = false ∧
    (inPhase { phase := 4 }).boot.phase ≠ 0) ∧ State.reset.boot.inReset = true := by unfold InService; decide

/-- Time base 1 committed. -/
def committed1 : State := { svc with groups := { committed := [(0, 2)] } }

theorem test_witness_ACommittedInstanceRefusesChanges : InService committed1 ∧ committed1.isWaiting 0 1 = true ∧ (2 < 2 ^ groupCount 0 ∧ bit 2 1 = true) ∧
    (committed1.reach 0x3001 3 true).toOption ≠ none ∧ (∀ e ∈ (committed1.reach 0x3001 3 true).toOption, e.ty ≠ .domain ∧
      e.ty.size = some (List.replicate 8 (0 : Octet)).length ∧ e.range.ok (e.ty.decode (List.replicate 8 0)) = true ∧
      committed1.valueError 0x3000 1 3 (e.ty.decode (List.replicate 8 0)) = none) ∧ committed1.plateRefused 0x3001 3 = false ∧ memberOf 0x3001 3 = some (0, 1) ∧
    (committed1.base 1).steered = false ∧ (List.replicate 8 (0 : Octet)).length ≤ 56 := by unfold InService; decide +kernel

theorem test_witness_TamperInputsCannotBeDisabledUnderARoot : InService withKeys ∧ 2 ≤ 3 ∧ (withKeys.setObj 0x2A30 1 1).slotState 0 = 1 ∧
    (bit ((withKeys.setObj 0x2A30 1 1).obj 0x2A30 1) 0 = true ∧ bit 2 0 = false) ∧ svc.slotState 0 ≠ 1 ∧ (withKeys.setObj 0x2A30 1 0).obj 0x2A30 1 = 0 := by
  unfold InService; decide +kernel

theorem test_witness_RevocationAndTheFloorFollowTheirWrites : InService svc ∧ 3 < 4 ∧ 0x72657603 < 0x72657604 ∧
    (inPhase { phase := 5, version := 0xFFFFFFFF }).rollbackFloor ≤ 0xFFFFFFFF ∧ 6 < (inPhase { floor := 7 }).rollbackFloor ∧ svc.boot.version < 1 := by
  refine ⟨by unfold InService; decide, by decide, by decide, ?_, ?_, by decide⟩
  · exact Nat.max_le.2 ⟨Nat.le_of_lt_succ (Nat.mod_lt _ (by decide)), by decide⟩
  · exact Nat.lt_of_lt_of_le (by decide) (Nat.le_max_right _ _)

end Sys2Proof.Tests

end
end

section
/-! PROOF. R92: what is committed and waiting refuses changes. An abort moves no plate to another state, so the error register stands and a
refused request adds nothing to its abort; each of the five requests is then shown to end in that abort. -/

namespace Sys2Proof.Machine

/-! ### An abort leaves the error register -/

theorem State.plate_congr {s t : State} (h : t.twin = s.twin) (q : Nat) : t.plate q = s.plate q := by
  unfold State.plate; rw [h]

/-- Counting a comparison on a plate leaves the state of every plate. -/
theorem State.state_countCompare (s : State) (p q c : Nat) :
    ((s.setPlate p { s.plate p with comparesReel := c }).plate q).state = (s.plate q).state := by
  rw [State.plate_setPlate]
  split
  · next h => rw [h]
  · rfl

theorem State.state_comparedDigest (s : State) (p d v q : Nat) : ((s.comparedDigest p d v).plate q).state = (s.plate q).state := by
  unfold State.comparedDigest
  split
  · rfl
  · exact foldl_keep (fun u => (u.plate q).state) _ _ _ fun u p => u.state_countCompare p q _

theorem State.state_respond (s : State) (t : Transport) (r : UsdoResponse) (q : Nat) :
    ((s.respond t r).plate q).state = (s.plate q).state := by
  have hcompared : ((if r.perPlate then s.bump 0x2004 1 else (s.bump 0x2004 1).compared 6 0 (OutFrame.usdo s.node r).body).plate q).state
      = (s.plate q).state := by
    split
    · rfl
    · exact State.state_comparedDigest ..
  unfold State.respond
  cases t with
  | can => exact hcompared
  | spi => rw [State.plate_congr (State.pushSpi_twin ..)]; exact hcompared

theorem State.state_abort (s : State) (t : Transport) (i j c q : Nat) : ((s.abort t i j c).plate q).state = (s.plate q).state :=
  (s.bump 0x2004 2).state_respond t _ q

/-- Of the plates the error register reads their states only. -/
theorem State.errorRegister_congr_states {s t : State} (hf : t.faults = s.faults) (hm : t.mgmt.canState = s.mgmt.canState)
    (hi : t.intake = s.intake) (hp : ∀ q, (t.plate q).state = (s.plate q).state) : t.errorRegister = s.errorRegister := by
  unfold State.errorRegister State.anyStatus
  simp only [hf, hm, hi, hp]

theorem settleRegister_abort (s : State) (t : Transport) (i j c : Nat) : settleRegister s (s.abort t i j c) = s.abort t i j c :=
  settleRegister_same (State.errorRegister_congr_states (by simp) (by simp) (by simp) (s.state_abort t i j c))

/-- A request in service whose operation ends in an abort is refused with it, and nothing is added to the abort. -/
theorem refuses_of_request {c : Instr} {s : State} {t : Transport} {i j code : Nat} {f : State → State} (hs : InService s)
    (he : exec c s = .next (s.request f)) (hf : f s = s.abort t i j code) : Refuses c s t i j code := by
  obtain ⟨-, -, h0, h4⟩ := hs
  rw [Refuses, he, State.request, if_pos (listens_of h0 h4), hf, settleRegister_abort]

/-- A host command in service that fails its own checks answers with its abort code. -/
theorem command_of_error {s : State} {t : Transport} {i j code : Nat} {op : State → Except Nat State} (hs : InService s)
    (hg : s.gate i j = none) (ho : op s = .error code) : s.command t i j op = s.abort t i j code := by
  obtain ⟨-, -, h0, h4⟩ := hs
  rw [State.command_of_gate _ _ _ _ _ (listens_of h0 h4) hg, ho, State.answer_error]

/-! ### Commits, discards and member writes against a waiting set -/

theorem groupCount_of_gt {g : Nat} (h : 10 < g) : groupCount g = 0 := by
  obtain ⟨k, rfl⟩ := Nat.exists_eq_add_of_le' h
  rfl

/-- Only a group of Table 3.7 has a bit that a mask can name. -/
theorem group_le_of_named {g mask n : Nat} (hm : mask < 2 ^ groupCount g) (hb : bit mask n = true) : g ≤ 10 := by
  by_contra hg
  rw [groupCount_of_gt (Nat.not_le.1 hg), pow_zero, Nat.lt_one_iff] at hm
  simp [bit, hm] at hb

theorem and_waitingMask_ne_zero {s : State} {g n mask : Nat} (hb : bit mask n = true) (hw : s.isWaiting g n = true) :
    mask &&& s.waitingMask g ≠ 0 := by
  intro h
  have hn : (mask &&& s.waitingMask g).testBit n = true := by rw [Nat.testBit_and, Bool.and_eq_true]; exact ⟨hb, hw⟩
  simp [h] at hn

theorem commitOp_of_waiting {s : State} {g n mask : Nat} (hm : mask < 2 ^ groupCount g) (hb : bit mask n = true)
    (hw : s.isWaiting g n = true) : commitOp g mask s = (s, some 0x0A1E0011) := by
  unfold commitOp
  rw [if_neg (Nat.not_le.2 hm), if_pos (and_waitingMask_ne_zero hb hw)]

theorem discardOp_of_waiting {s : State} {g n mask : Nat} (hm : mask < 2 ^ groupCount g) (hb : bit mask n = true)
    (hw : s.isWaiting g n = true) : discardOp g mask s = .error 0x0A1E0011 := by
  unfold discardOp
  rw [if_neg (Nat.not_le.2 hm), if_pos (and_waitingMask_ne_zero hb hw)]

theorem memberWriteOp_of_waiting {s : State} {g n : Nat} (k : Nat) (v : Int) (hw : s.isWaiting g n = true)
    (hb : g = 0 → (s.base n).steered = false) : memberWriteOp g n k v s = .error 0x0A1E0011 := by
  have hsteer : ¬(g = 0 ∧ (s.base n).steered = true) := fun ⟨hg, h⟩ => by simp [hb hg] at h
  unfold memberWriteOp
  rw [if_neg hsteer, if_pos hw]

/-! ### Writes -/

/-- A value that passes steps 1 to 6 of R469 is left to its own rule. -/
theorem writeObject_of_checked {s : State} {i j m : Nat} {data : Octets} {e : DictEntry} {r : DictRecord}
    (hreach : s.reach i j true = .ok e) (hrec : dictRecord i = some (r, m)) (hty : e.ty ≠ .domain) (hsize : e.ty.size = some data.length)
    (hplate : s.plateRefused i j = false) (hrange : e.range.ok (e.ty.decode data) = true)
    (hval : s.valueError r.index m j (e.ty.decode data) = none) :
    s.writeObject i j data = s.writeValue r.index m j (e.ty.decode data) data := by
  simp [State.writeObject, hreach, hrec, hty, hsize, hplate, hrange, hval]

/-- The value of a member goes to R92's rule, whatever the object, and is refused there while its set waits. -/
theorem writeValue_of_waiting {s : State} {b m j g n : Nat} {data : Octets} {v : Int} (hmem : memberOf (b + m) j = some (g, n))
    (hw : s.isWaiting g n = true) (hb : g = 0 → (s.base n).steered = false) : s.writeValue b m j v data = (s, some 0x0A1E0011) := by
  unfold State.writeValue
  rw [hmem]
  exact congrArg (attempt s) (memberWriteOp_of_waiting _ v hw hb)

/-- A write in service that is refused without a change. -/
theorem refuses_of_write {c : Instr} {s : State} {t : Transport} {i j code : Nat} {data : Octets} (hs : InService s)
    (he : exec c s = .next (s.write t i j data)) (hw : s.writeObject i j data = (s, some code)) : Refuses c s t i j code :=
  refuses_of_request hs he (by rw [hw])

theorem expedited_of_refused {s : State} {t : Transport} {i j code : Nat} {data : Octets} {e : DictEntry}
    (hreach : s.reach i j true = .ok e) (hty : e.ty ≠ .domain) (hlen : data.length ≤ 56)
    (hw : s.writeObject i j data = (s, some code)) : s.expedited t i j data = s.abort t i j code := by
  have hfits : ¬(e.ty = .domain ∨ 56 < data.length) := by simp [hty, hlen]
  simp [State.expedited, hreach, hfits, hw]

end Sys2Proof.Machine

namespace Sys2Proof.Proofs
open Sys2Proof Sys2Proof.Machine

/-- Settles O58: a commit, a discard and a member's write each meet the waiting bit as their first failing check, and end in its abort. -/
theorem aCommittedInstanceRefusesChanges : Obligations.ACommittedInstanceRefusesChanges := by
  intro s tr g n hs hw
  refine ⟨fun mask hm hb => ?_, fun i j data e r m hreach hrec hindex hty hsize hplate hrange hval hmem hsteer => ?_⟩
  · have hg : g ≤ 10 := group_le_of_named hm hb
    have hgate (k : Nat) : s.gate (0x2080 + g) k = none := gate_at hs _ _ (by omega) (by omega) (by omega)
    exact ⟨refuses_of_request hs rfl ((commandA_of hs (hgate 1)).2 _ (commitOp_of_waiting hm hb hw)),
      refuses_of_request hs rfl (command_of_error hs (hgate 2) (discardOp_of_waiting hm hb hw))⟩
  · have hwrite : s.writeObject i j data = (s, some 0x0A1E0011) := by
      rw [writeObject_of_checked hreach hrec hty hsize hplate hrange hval]
      exact writeValue_of_waiting (by rw [hindex]; exact hmem) hw hsteer
    exact ⟨refuses_of_write hs rfl hwrite, refuses_of_write hs rfl hwrite,
      fun hlen => refuses_of_request hs rfl (expedited_of_refused hreach hty hlen hwrite)⟩

end Sys2Proof.Proofs
end

section
/-! PROOF. R333: while the root is valid a tamper input cannot be disabled. The enable bits that a write clears are zero exactly when
every bit in force stays set, so the write's own check splits as the rule does. -/

namespace Sys2Proof.Machine

/-- Clearing the bits of `m` leaves nothing exactly when `m` has every bit that was set. -/
theorem clearBits_eq_zero_iff (v m : Nat) : clearBits v m = 0 ↔ ∀ k, bit v k = true → bit m k = true := by
  unfold clearBits bit
  rw [Nat.xor_eq_zero_iff, eq_comm]
  constructor
  · intro hand k hv
    rw [← hand, Nat.testBit_and, Bool.and_eq_true] at hv
    exact hv.2
  · intro hsub
    refine Nat.eq_of_testBit_eq fun k => ?_
    rw [Nat.testBit_and, Bool.and_eq_left_iff_imp]
    exact hsub k

theorem clearBits_ne_zero_of_bit {v m k : Nat} (hv : bit v k = true) (hm : bit m k = false) : clearBits v m ≠ 0 := fun hzero =>
  Bool.false_ne_true (hm.symm.trans ((clearBits_eq_zero_iff v m).1 hzero k hv))

/-- A common value that takes effect reads back. -/
theorem obj_takeEffect_self (s : State) (i j v : Nat) : (s.takeEffect (okey 0 0 i j) v).obj i j = v := by
  obtain ⟨hkey, -, -⟩ := takeEffect_frame s (okey 0 0 i j) v
  rw [State.obj, State.objI, hkey, Int.toNat_natCast]

/-- The effect of a host value is its own object and the copy that is due: both are within what a confirmation names (R84). -/
theorem confirms_takeEffect {c : Instr} {s : State} {t : Transport} {i j v : Nat} {op : State → Except Nat State}
    (he : exec c s = .next (s.command t i j op)) (hs : InService s) (hg : s.gate i j = none)
    (ho : op s = .ok (s.takeEffect (okey 0 0 i j) v)) (h1 : okey 0 0 i j ≠ servedKey) (h2 : okey 0 0 i j ≠ lostKey) :
    Confirms c s [] [okey 0 0 i j] fun u => u.obj i j = v := by
  obtain ⟨-, hobjects, hparts⟩ := takeEffect_frame s (okey 0 0 i j) v
  refine confirms_any he hs hg ho (fun r => ?_) (objects_weaken hobjects fun k hk => ?_) (keeps_weaken hparts fun p hp => ?_)
  · rw [obj_respond _ _ _ _ _ h1 h2, obj_takeEffect_self]
  · exact List.mem_cons_of_mem _ (List.mem_cons_of_mem _ hk)
  · exact List.mem_append_left [.twin] hp

theorem tamperEnableOp_of_clears {s : State} {v : Nat} (hv : v ≤ 3) (hroot : s.slotState 0 = 1)
    (hclears : clearBits (s.obj 0x2A30 1) v ≠ 0) : tamperEnableOp v s = .error 0x0A1E0099 := by
  unfold tamperEnableOp
  rw [if_neg (Nat.not_lt.2 hv), if_pos ⟨hclears, hroot⟩]

theorem tamperEnableOp_of_allowed {s : State} {v : Nat} (hv : v ≤ 3) (h : s.slotState 0 ≠ 1 ∨ clearBits (s.obj 0x2A30 1) v = 0) :
    tamperEnableOp v s = .ok (s.takeEffect (okey 0 0 0x2A30 1) v) := by
  unfold tamperEnableOp
  rw [if_neg (Nat.not_lt.2 hv), if_neg fun ⟨hclears, hroot⟩ => h.elim (· hroot) hclears]

end Sys2Proof.Machine

namespace Sys2Proof.Proofs
open Sys2Proof Sys2Proof.Machine

/-- Settles O59: the write's check fails exactly when the root is valid and a bit in force is cleared; otherwise the value takes effect. -/
theorem tamperInputsCannotBeDisabledUnderARoot : Obligations.TamperInputsCannotBeDisabledUnderARoot := by
  intro s tr v hs hv
  have hgate : s.gate 0x2A30 1 = none := gate_at hs _ _ (by decide) (by decide) (by decide)
  refine ⟨fun hroot ⟨k, hset, hcleared⟩ => ?_, fun hallowed => ?_⟩
  · exact refuses_of rfl hs hgate (tamperEnableOp_of_clears hv hroot (clearBits_ne_zero_of_bit hset hcleared))
  · have hop := tamperEnableOp_of_allowed hv (hallowed.imp_right (clearBits_eq_zero_iff _ _).2)
    exact confirms_takeEffect rfl hs hgate hop (by decide) (by decide)

end Sys2Proof.Proofs
end

section
/-! PROOF. R415: revocation and the rollback floor. A key's revocation sets its bit and leaves the others; the checked plan is then either kept
or discarded as a whole, so what follows for the bank in force and the waiting plan is read off two states. -/

namespace Sys2Proof.Machine

/-! ### The bit of a revoked key -/

theorem bit_putBit_true_of_ne {v n k : Nat} (h : k ≠ n) : bit (putBit v n true) k = bit v k := by
  have hbit : (2 ^ n).testBit k = false := Nat.testBit_two_pow_of_ne h.symm
  rw [bit, bit, putBit, if_pos rfl, Nat.testBit_or, hbit, Bool.or_false]

/-- The state with key `n` marked in the revocation field: revocation before its effect on a waiting plan. -/
def State.markRevoked (s : State) (n : Nat) : State := { s with boot := { s.boot with revoked := putBit s.boot.revoked n true } }

theorem State.markRevoked_plans (s : State) (n : Nat) : (s.markRevoked n).plans = s.plans := rfl

theorem State.planKeyOk_congr {s t : State} (h : t.boot = s.boot) (k : Nat) : t.planKeyOk k = s.planKeyOk k := by
  rw [State.planKeyOk, State.planKeyOk, h]

theorem State.planKeyOk_markRevoked_self (s : State) (n : Nat) : (s.markRevoked n).planKeyOk n = false := by
  have hset : bit (s.markRevoked n).boot.revoked n = true := bit_putBit_true s.boot.revoked n
  rw [State.planKeyOk, hset, Bool.not_true, Bool.and_false]

theorem State.planKeyOk_markRevoked_of_ne (s : State) {n k : Nat} (h : k ≠ n) : (s.markRevoked n).planKeyOk k = s.planKeyOk k := by
  have hkept : bit (s.markRevoked n).boot.revoked k = bit s.boot.revoked k := bit_putBit_true_of_ne h
  rw [State.planKeyOk, hkept, State.planKeyOk]

/-! ### The waiting plan -/

theorem State.plan_congr {s t : State} (h : t.plans = s.plans) : t.plan = s.plan := by
  rw [State.plan, State.plan, State.bank, State.bank, h]

theorem State.waitingPlan_congr {s t : State} (h : t.plans = s.plans) : t.waitingPlan = s.waitingPlan := by
  rw [State.waitingPlan, State.waitingPlan, State.bank, State.bank, h]

/-- The state with the plan of the other bank discarded. -/
def State.discardPlan (s : State) : State :=
  ({ s with plans := { s.plans with status := 0, pendingId := 0, swapReel := 0 } } : State).setBank (1 - s.plans.active) none

theorem State.plan_discardPlan (s : State) : s.discardPlan.plan = s.plan := by
  have hother : s.plans.active ≠ 1 - s.plans.active := by omega
  have hbank : s.discardPlan.bank s.plans.active = s.bank s.plans.active := (State.bank_setBank ..).trans (if_neg hother)
  exact congrArg (Option.getD · {}) hbank

theorem State.waitingPlan_discardPlan (s : State) : s.discardPlan.waitingPlan = none := if_neg (by simp [State.discardPlan, State.setBank])

/-- A plan signed under the key, in neither ROM nor a latched swap, is discarded. -/
theorem State.dropRevoked_of_revoked {s : State} {k : Nat} {p : Plan} (hp : s.waitingPlan = some p) (hkey : p.key = k)
    (hrom : p.rom = false) (hlatch : s.plans.latched = false) : s.dropRevoked k = s.discardPlan := by
  simp only [State.dropRevoked, hp]
  exact if_pos ⟨hkey, hrom, hlatch⟩

/-- Any other waiting plan stands, and so does a bank without one. -/
theorem State.dropRevoked_of_kept {s : State} {k : Nat}
    (h : ∀ p, s.waitingPlan = some p → p.key ≠ k ∨ p.rom = true ∨ s.plans.latched = true) : s.dropRevoked k = s := by
  cases hp : s.waitingPlan with
  | none => simp only [State.dropRevoked, hp]
  | some p =>
    simp only [State.dropRevoked, hp]
    refine if_neg fun ⟨hkey, hrom, hlatch⟩ => ?_
    simpa [hkey, hrom, hlatch] using h p hp

theorem State.dropRevoked_cases (s : State) (k : Nat) : s.dropRevoked k = s ∨ s.dropRevoked k = s.discardPlan := by
  by_cases h : ∃ p, s.waitingPlan = some p ∧ p.key = k ∧ p.rom = false ∧ s.plans.latched = false
  · obtain ⟨p, hp, hkey, hrom, hlatch⟩ := h
    exact .inr (State.dropRevoked_of_revoked hp hkey hrom hlatch)
  · refine .inl (State.dropRevoked_of_kept fun p hp => ?_)
    by_contra hdrop
    simp only [not_or, not_not, Bool.not_eq_true] at hdrop
    exact h ⟨p, hp, hdrop⟩

theorem State.dropRevoked_boot (s : State) (k : Nat) : (s.dropRevoked k).boot = s.boot := by
  rcases s.dropRevoked_cases k with h | h <;> rw [h]
  rfl

theorem State.dropRevoked_plan (s : State) (k : Nat) : (s.dropRevoked k).plan = s.plan := by
  rcases s.dropRevoked_cases k with h | h <;> rw [h]
  exact s.plan_discardPlan

/-! ### The two writes -/

/-- A write of the form `0x72657600 + n` is judged by the keys other than `n` alone. -/
theorem revokeOp_of_form (s : State) {n : Nat} (hn : n < 4) : revokeOp (0x72657600 + n) s =
    if ((List.range 4).any fun j => decide (j ≠ n) && s.planKeyOk j) = true then .ok ((s.markRevoked n).dropRevoked n) else .error 0x0A1E00D6 := by
  have hkey : (0x72657600 + n) % 4 = n := by omega
  have hlow : ¬ 0x72657600 + n < 0x72657600 := by omega
  have hhigh : ¬ 0x72657603 < 0x72657600 + n := by omega
  simp only [revokeOp, hkey, hlow, hhigh, false_or]
  cases (List.range 4).any fun j => decide (j ≠ n) && s.planKeyOk j <;> rfl

theorem revokeOp_of_malformed {s : State} {v : Nat} (h : v < 0x72657600 ∨ 0x72657603 < v) : revokeOp v s = .error 0x0A1E00D6 :=
  if_pos (h.imp_right .inl)

theorem raiseFloorOp_of_allowed {s : State} {v : Nat} (hfloor : s.rollbackFloor ≤ v) (hversion : v ≤ s.boot.version) :
    raiseFloorOp v s = .ok { s with boot := { s.boot with floor := v } } :=
  if_neg fun h => h.elim (Nat.not_lt.2 hfloor) (Nat.not_lt.2 hversion)

theorem raiseFloorOp_of_outside {s : State} {v : Nat} (h : v < s.rollbackFloor ∨ s.boot.version < v) : raiseFloorOp v s = .error 0x0A1E00D7 :=
  if_pos h

/-- A floor raised to at least the one in force is in force, whatever OTP holds from manufacture. -/
theorem rollbackFloor_of_floor {s t : State} {v : Nat} (h : s.rollbackFloor ≤ v) (ht : t.boot.floor = v) : t.rollbackFloor = v := by
  rw [State.rollbackFloor, ht]
  exact Nat.max_eq_right (Nat.le_trans (Nat.le_max_left _ _) h)

end Sys2Proof.Machine

namespace Sys2Proof.Proofs
open Sys2Proof Sys2Proof.Machine

/-- Settles O60: the write's checks are those of R415, a revocation's effect is its bit and the drop of a plan under its key, and the response
touches neither the plans nor what OTP records. -/
theorem revocationAndTheFloorFollowTheirWrites : Obligations.RevocationAndTheFloorFollowTheirWrites := by
  intro s tr n v hs
  have hgate (j : Nat) : s.gate 0x2F40 j = none := gate_at hs _ _ (by decide) (by decide) (by decide)
  refine ⟨fun hn => ?_, fun hform => refuses_of rfl hs (hgate 4) (revokeOp_of_malformed hform), fun hfloor hversion => ?_,
    fun hout => refuses_of rfl hs (hgate 6) (raiseFloorOp_of_outside hout)⟩
  · have hop := revokeOp_of_form s hn
    split
    · next hleft =>
      rw [if_pos hleft] at hop
      refine completes_of rfl hs (hgate 4) hop fun r => ?_
      have hboot := (State.respond_boot _ tr r).trans ((s.markRevoked n).dropRevoked_boot n)
      have hplans := State.respond_plans ((s.markRevoked n).dropRevoked n) tr r
      refine ⟨?_, fun k hk => ?_, fun p hp hkey hrom hlatch => ?_, fun hkept => ?_, ?_, hboot, ?_⟩
      · exact (State.planKeyOk_congr hboot n).trans (s.planKeyOk_markRevoked_self n)
      · exact (State.planKeyOk_congr hboot k).trans (s.planKeyOk_markRevoked_of_ne hk)
      · rw [State.waitingPlan_congr hplans, State.dropRevoked_of_revoked (s := s.markRevoked n) hp hkey hrom hlatch, State.waitingPlan_discardPlan]
      · rw [hplans, State.dropRevoked_of_kept (s := s.markRevoked n) hkept, State.markRevoked_plans]
      · exact (State.plan_congr hplans).trans ((s.markRevoked n).dropRevoked_plan n)
      · exact (State.respond_clock _ tr r).trans (tick_clock (s := s.markRevoked n) (State.dropRevoked_tick _ n))
    · next hlast =>
      rw [if_neg hlast] at hop
      exact refuses_of rfl hs (hgate 4) hop
  · refine confirms_of rfl hs (hgate 6) (raiseFloorOp_of_allowed hfloor hversion) (fun r => ?_) (objects_of_objs rfl) (keeps_boot s _)
    have hboot := State.respond_boot { s with boot := { s.boot with floor := v } } tr r
    exact ⟨rollbackFloor_of_floor hfloor (congrArg Boot.floor hboot), hboot⟩

end Sys2Proof.Proofs
end

section
/-! PROOF. The clock, the queue and what OTP records, under every command: a command either leaves all of them (`Later`), or is one of the
seven that move the clock, to one of four clocks and nothing else. The invariants of the clock follow from that one case split. -/

namespace Sys2Proof.Machine

/-- The clock's own commands and the resets. -/
def movesClock : Instr → Bool
  | .engineCycle | .serviceStart | .supplyLoss | .resetAssert | .deviceResetApply | .exposureBoundary _ | .reelBoundary _ => true
  | _ => false

/-- The clocks to which a command may move the clock `c`: the next cycle, that of a start, and the clock with a boundary's work done. -/
inductive Clock.To (c : Clock) : Clock → Prop
  | next (he : c.exposureDue = false) (hr : c.reelDue = false) : Clock.To c c.next
  | start : Clock.To c {}
  | exposureDone : Clock.To c { c with exposureDue := false }
  | reelDone : Clock.To c { c with reelDue := false }

/-- Every other command leaves the clock and the queue, and undoes nothing that OTP records. -/
theorem exec_later {c : Instr} {s z : State} (hc : movesClock c = false) (h : exec c s = .next z) : Later s z := by
  cases c with
  | engineCycle | serviceStart | supplyLoss | resetAssert | deviceResetApply | exposureBoundary _ | reelBoundary _ => cases hc
  | managementPoint => exact execManagementPoint_later s h
  | heartbeat => exact later_of_tick (execHeartbeat_tick s h)
  | canFrameReceived _ => exact execCanFrameReceived_later _ s h
  | spiNmtCommand _ => exact later_of_tick (execSpiNmtCommand_tick _ s h)
  | spiUsdoRequest _ => exact execSpiUsdoRequest_later _ s h
  | spiReadHeadFrame _ => exact later_of_tick (execSpiReadHeadFrame_tick _ s h)
  | spiRemoveHeadFrame _ => exact later_of_tick (execSpiRemoveHeadFrame_tick _ s h)
  | startRemoteNode _ => exact later_of_tick (execStartRemoteNode_tick _ s h)
  | stopRemoteNode _ => exact later_of_tick (execStopRemoteNode_tick _ s h)
  | enterPreOperational _ => exact later_of_tick (execEnterPreOperational_tick _ s h)
  | resetCommunication _ _ => exact later_of_tick (execResetCommunication_tick _ _ s h)
  | resetNode _ _ => exact later_of_tick (execResetNode_tick _ _ s h)
  | usdoExpeditedDownload _ _ _ _ => exact execUsdoExpeditedDownload_later _ _ _ _ s h
  | usdoDownloadInitiate _ _ _ _ => exact later_of_tick (execUsdoDownloadInitiate_tick _ _ _ _ s h)
  | usdoDownloadSegment _ _ _ _ _ => exact execUsdoDownloadSegment_later _ _ _ _ _ s h
  | usdoUploadInitiate _ _ _ => exact later_of_tick (execUsdoUploadInitiate_tick _ _ _ s h)
  | usdoUploadSegment _ _ => exact later_of_tick (execUsdoUploadSegment_tick _ _ s h)
  | segmentTimeout => exact later_of_tick (execSegmentTimeout_tick s h)
  | transferEndedByEngine => exact later_of_tick (execTransferEndedByEngine_tick s h)
  | registerWrite _ _ _ _ => exact execRegisterWrite_later _ _ _ _ s h
  | persistenceCopy _ _ _ _ => exact later_of_tick (execPersistenceCopy_tick _ _ _ _ s h)
  | shadowTimeout _ _ => exact later_of_tick (execShadowTimeout_tick _ _ s h)
  | emcyLostReport => exact later_of_tick (execEmcyLostReport_tick s h)
  | commit _ _ _ => exact later_of_tick (execCommit_tick _ _ _ s h)
  | discard _ _ _ => exact later_of_tick (execDiscard_tick _ _ _ s h)
  | shadowWrite _ _ _ _ => exact execShadowWrite_later _ _ _ _ s h
  | unitEnableWrite _ _ _ => exact execUnitEnableWrite_later _ _ _ s h
  | planImageDownload _ _ => exact later_of_tick (execPlanImageDownload_tick _ _ s h)
  | planCheckComplete => exact later_of_tick (execPlanCheckComplete_tick s h)
  | swapRequest _ _ => exact later_of_tick (execSwapRequest_tick _ _ s h)
  | cancelSwap _ _ => exact later_of_tick (execCancelSwap_tick _ _ s h)
  | swapLatch => exact later_of_tick (execSwapLatch_tick s h)
  | swapEntryWake => exact later_of_tick (execSwapEntryWake_tick s h)
  | planSwap => exact later_of_tick (execPlanSwap_tick s h)
  | swapComplete => exact later_of_tick (execSwapComplete_tick s h)
  | ntsReply _ => exact later_of_tick (execNtsReply_tick _ s h)
  | ptpEvent _ => exact later_of_tick (execPtpEvent_tick _ s h)
  | ptpGeneral _ => exact later_of_tick (execPtpGeneral_tick _ s h)
  | beWindow _ => exact later_of_tick (execBeWindow_tick _ s h)
  | aesSivPass _ => exact later_of_tick (execAesSivPass_tick _ s h)
  | hmacPass _ => exact later_of_tick (execHmacPass_tick _ s h)
  | knownAnswerTest _ _ _ _ => exact later_of_tick (execKnownAnswerTest_tick _ _ _ _ s h)
  | fixer _ _ _ _ => exact later_of_tick (execFixer_tick _ _ _ _ s h)
  | depart _ => exact later_of_tick (execDepart_tick _ s h)
  | fastTermUpdate => exact later_of_tick (execFastTermUpdate_tick s h)
  | ensemblePart => exact later_of_tick (execEnsemblePart_tick s h)
  | wake => exact later_of_tick (execWake_tick s h)
  | sleep => exact later_of_tick (execSleep_tick s h)
  | handoffDeadline _ _ => exact later_of_tick (execHandoffDeadline_tick _ _ s h)
  | departureMeasured _ _ => exact later_of_tick (execDepartureMeasured_tick _ _ s h)
  | alignmentLoss _ => exact later_of_tick (execAlignmentLoss_tick _ s h)
  | alignerRelock _ => exact later_of_tick (execAlignerRelock_tick _ s h)
  | requestExpire => exact later_of_tick (execRequestExpire_tick s h)
  | frameReceiveComplete _ _ => exact later_of_tick (execFrameReceiveComplete_tick _ _ s h)
  | entryForget => exact later_of_tick (execEntryForget_tick s h)
  | refinEdge _ _ => exact later_of_tick (execRefinEdge_tick _ _ s h)
  | evinEdge i _ _ => exact later_of_tick (execEvinEdge_tick i _ _ s h)
  | gnssSampleBlock _ _ _ _ _ => exact later_of_tick (execGnssSampleBlock_tick _ _ _ _ _ s h)
  | mediaFrameReceive _ _ _ _ _ => exact later_of_tick (execMediaFrameReceive_tick _ _ _ _ _ s h)
  | itemDelivery _ => exact later_of_tick (execItemDelivery_tick _ s h)
  | intakeFault _ => exact later_of_tick (execIntakeFault_tick _ s h)
  | commonClockFailure => exact later_of_tick (execCommonClockFailure_tick s h)
  | timeBaseSet _ _ _ => exact later_of_tick (execTimeBaseSet_tick _ _ _ s h)
  | timeBaseStep _ _ _ => exact later_of_tick (execTimeBaseStep_tick _ _ _ s h)
  | arm _ _ => exact later_of_tick (execArm_tick _ _ s h)
  | disarm _ _ => exact later_of_tick (execDisarm_tick _ _ s h)
  | compareFire _ => exact later_of_tick (execCompareFire_tick _ s h)
  | todMessage _ => exact later_of_tick (execTodMessage_tick _ s h)
  | crossCapture _ _ => exact later_of_tick (execCrossCapture_tick _ _ s h)
  | leapTableWrite _ _ _ _ => exact later_of_tick (execLeapTableWrite_tick _ _ _ _ s h)
  | eventFifoRelease _ _ _ => exact later_of_tick (execEventFifoRelease_tick _ _ _ s h)
  | clearFlags _ _ _ => exact later_of_tick (execClearFlags_tick _ _ _ s h)
  | tdcCalibrationComplete _ _ _ => exact later_of_tick (execTdcCalibrationComplete_tick _ _ _ s h)
  | intervalModeWrite _ _ _ => exact later_of_tick (execIntervalModeWrite_tick _ _ _ s h)
  | gateEnd _ => exact later_of_tick (execGateEnd_tick _ s h)
  | referenceEnable _ _ _ => exact later_of_tick (execReferenceEnable_tick _ _ _ s h)
  | loupeMeasurement _ _ => exact later_of_tick (execLoupeMeasurement_tick _ _ s h)
  | referenceLoss _ => exact later_of_tick (execReferenceLoss_tick _ s h)
  | frequencyOutOfWindow _ _ => exact later_of_tick (execFrequencyOutOfWindow_tick _ _ s h)
  | holdOffEnd _ => exact later_of_tick (execHoldOffEnd_tick _ s h)
  | manualSelection _ _ => exact later_of_tick (execManualSelection_tick _ _ s h)
  | clearChallenge _ _ => exact later_of_tick (execClearChallenge_tick _ _ s h)
  | esmcInformationPdu _ => exact later_of_tick (execEsmcInformationPdu_tick _ s h)
  | esmcEventPdu _ => exact later_of_tick (execEsmcEventPdu_tick _ s h)
  | upstreamPoll _ => exact later_of_tick (execUpstreamPoll_tick _ s h)
  | cookieLoad _ _ _ => exact later_of_tick (execCookieLoad_tick _ _ _ s h)
  | registrationStep _ => exact later_of_tick (execRegistrationStep_tick _ s h)
  | slowSlew _ => exact later_of_tick (execSlowSlew_tick _ s h)
  | registrationCancel _ => exact later_of_tick (execRegistrationCancel_tick _ s h)
  | registrationLatch => exact later_of_tick (execRegistrationLatch_tick s h)
  | gateStart => exact later_of_tick (execGateStart_tick s h)
  | gateRelease => exact later_of_tick (execGateRelease_tick s h)
  | registrationComplete => exact later_of_tick (execRegistrationComplete_tick s h)
  | dpllUpdate _ _ => exact later_of_tick (execDpllUpdate_tick _ _ s h)
  | dpllStageEnd _ => exact later_of_tick (execDpllStageEnd_tick _ s h)
  | opllSafePoint _ _ _ => exact later_of_tick (execOpllSafePoint_tick _ _ _ s h)
  | rampUpdate => exact later_of_tick (execRampUpdate_tick s h)
  | lockDetected _ _ _ => exact later_of_tick (execLockDetected_tick _ _ _ s h)
  | recipeLockTimeout _ => exact later_of_tick (execRecipeLockTimeout_tick _ s h)
  | alignmentCorrection _ _ _ => exact later_of_tick (execAlignmentCorrection_tick _ _ _ s h)
  | lockQualified _ _ => exact later_of_tick (execLockQualified_tick _ _ s h)
  | searchTimeout _ => exact later_of_tick (execSearchTimeout_tick _ s h)
  | lockLoss _ _ _ => exact later_of_tick (execLockLoss_tick _ _ _ s h)
  | lockSenseMismatch _ _ => exact later_of_tick (execLockSenseMismatch_tick _ _ s h)
  | outputRegistration _ _ _ => exact later_of_tick (execOutputRegistration_tick _ _ _ s h)
  | channelSafePoint _ => exact later_of_tick (execChannelSafePoint_tick _ s h)
  | recipeInvalidate _ _ => exact later_of_tick (execRecipeInvalidate_tick _ _ s h)
  | samplePortFault _ _ => exact later_of_tick (execSamplePortFault_tick _ _ s h)
  | acquisitionCaptureEnd => exact later_of_tick (execAcquisitionCaptureEnd_tick s h)
  | acquisitionComplete => exact later_of_tick (execAcquisitionComplete_tick s h)
  | navigationUpload _ _ => exact later_of_tick (execNavigationUpload_tick _ _ s h)
  | solutionDelivery _ => exact later_of_tick (execSolutionDelivery_tick _ s h)
  | clearExclusion _ _ => exact later_of_tick (execClearExclusion_tick _ _ s h)
  | surveyComplete _ => exact later_of_tick (execSurveyComplete_tick _ s h)
  | snapshotArm _ => exact later_of_tick (execSnapshotArm_tick _ s h)
  | snapshotCancel _ => exact later_of_tick (execSnapshotCancel_tick _ s h)
  | snapshotProcess _ => exact later_of_tick (execSnapshotProcess_tick _ s h)
  | snapshotRelease _ => exact later_of_tick (execSnapshotRelease_tick _ s h)
  | snapshotCaptured => exact later_of_tick (execSnapshotCaptured_tick s h)
  | snapshotProcessed => exact later_of_tick (execSnapshotProcessed_tick s h)
  | trackEnd => exact later_of_tick (execTrackEnd_tick s h)
  | trackFifoRelease _ _ => exact later_of_tick (execTrackFifoRelease_tick _ _ s h)
  | linkDown _ => exact later_of_tick (execLinkDown_tick _ s h)
  | negotiationComplete _ _ => exact later_of_tick (execNegotiationComplete_tick _ _ s h)
  | linkUp _ => exact later_of_tick (execLinkUp_tick _ s h)
  | calibrationComplete _ _ _ _ => exact later_of_tick (execCalibrationComplete_tick _ _ _ _ s h)
  | loopback _ _ _ => exact later_of_tick (execLoopback_tick _ _ _ s h)
  | txTimestampComplete _ _ => exact later_of_tick (execTxTimestampComplete_tick _ _ s h)
  | txTimestampRelease _ _ _ => exact later_of_tick (execTxTimestampRelease_tick _ _ _ s h)
  | pauseExpire _ _ => exact later_of_tick (execPauseExpire_tick _ _ s h)
  | lldpTransmit _ => exact later_of_tick (execLldpTransmit_tick _ s h)
  | bestEffortStart _ => exact later_of_tick (execBestEffortStart_tick _ s h)
  | headAgeDrop _ _ => exact later_of_tick (execHeadAgeDrop_tick _ _ s h)
  | stagingWrite => exact later_of_tick (execStagingWrite_tick s h)
  | hostTransmit _ _ => exact later_of_tick (execHostTransmit_tick _ _ s h)
  | hostReceiveRelease _ _ => exact later_of_tick (execHostReceiveRelease_tick _ _ s h)
  | forwardingEntryWrite _ _ => exact later_of_tick (execForwardingEntryWrite_tick _ _ s h)
  | clearPeak _ _ => exact later_of_tick (execClearPeak_tick _ _ s h)
  | instanceEnable _ _ _ => exact later_of_tick (execInstanceEnable_tick _ _ _ s h)
  | listeningEnd _ _ => exact later_of_tick (execListeningEnd_tick _ _ s h)
  | grantExpire _ _ => exact later_of_tick (execGrantExpire_tick _ _ s h)
  | pdelayReqTransmit _ _ => exact later_of_tick (execPdelayReqTransmit_tick _ _ s h)
  | recordQuarantine _ => exact later_of_tick (execRecordQuarantine_tick _ s h)
  | cancelGrants _ => exact later_of_tick (execCancelGrants_tick _ s h)
  | clearQuarantine _ => exact later_of_tick (execClearQuarantine_tick _ s h)
  | keyImport _ _ => exact later_of_tick (execKeyImport_tick _ _ s h)
  | rootLoad _ _ => exact later_of_tick (execRootLoad_tick _ _ s h)
  | signedPolicyRelease _ _ => exact later_of_tick (execSignedPolicyRelease_tick _ _ s h)
  | invalidate _ _ => exact later_of_tick (execInvalidate_tick _ _ s h)
  | orphanErase => exact later_of_tick (execOrphanErase_tick s h)
  | cookieGenerationWrite _ _ _ => exact later_of_tick (execCookieGenerationWrite_tick _ _ _ s h)
  | associationEntryWrite _ _ => exact later_of_tick (execAssociationEntryWrite_tick _ _ s h)
  | tamperEnableWrite _ _ => exact later_of_tick (execTamperEnableWrite_tick _ _ s h)
  | zeroisation _ => exact later_of_tick (execZeroisation_tick _ s h)
  | rootRemask => exact later_of_tick (execRootRemask_tick s h)
  | clockLoss _ => exact later_of_tick (execClockLoss_tick _ s h)
  | clockStable _ => exact later_of_tick (execClockStable_tick _ s h)
  | mediaFrameStart _ => exact later_of_tick (execMediaFrameStart_tick _ s h)
  | mediaSafePoint _ => exact later_of_tick (execMediaSafePoint_tick _ s h)
  | channelEnable _ _ => exact later_of_tick (execChannelEnable_tick _ _ s h)
  | gateSwitch _ _ => exact later_of_tick (execGateSwitch_tick _ _ s h)
  | gateTimeout _ _ => exact later_of_tick (execGateTimeout_tick _ _ s h)
  | gridRestart _ => exact later_of_tick (execGridRestart_tick _ s h)
  | combinerFault _ => exact later_of_tick (execCombinerFault_tick _ s h)
  | mediaLoopback _ _ _ => exact later_of_tick (execMediaLoopback_tick _ _ _ s h)
  | roleSwap _ => exact later_of_tick (execRoleSwap_tick _ s h)
  | standbyToProof _ => exact later_of_tick (execStandbyToProof_tick _ s h)
  | divergence _ _ => exact later_of_tick (execDivergence_tick _ _ s h)
  | proofComplete _ _ _ _ => exact later_of_tick (execProofComplete_tick _ _ _ _ s h)
  | resyncStart _ => exact later_of_tick (execResyncStart_tick _ s h)
  | resyncSnapshot => exact later_of_tick (execResyncSnapshot_tick s h)
  | digestCompare _ => exact later_of_tick (execDigestCompare_tick _ s h)
  | join => exact later_of_tick (execJoin_tick s h)
  | mirrorStop => exact later_of_tick (execMirrorStop_tick s h)
  | plateResetEnd _ => exact later_of_tick (execPlateResetEnd_tick _ s h)
  | supervisionTransmit _ => exact later_of_tick (execSupervisionTransmit_tick _ s h)
  | errorLineEvent _ => exact later_of_tick (execErrorLineEvent_tick _ s h)
  | contactSheetSave => exact later_of_tick (execContactSheetSave_tick s h)
  | statusClear _ _ _ => exact later_of_tick (execStatusClear_tick _ _ _ s h)
  | severeHoldEnd _ => exact later_of_tick (execSevereHoldEnd_tick _ s h)
  | clearAddress _ _ => exact later_of_tick (execClearAddress_tick _ _ s h)
  | clearLanes _ _ => exact later_of_tick (execClearLanes_tick _ _ s h)
  | contactSheetClear _ _ => exact later_of_tick (execContactSheetClear_tick _ _ s h)
  | injectCorrected _ => exact later_of_tick (execInjectCorrected_tick _ s h)
  | injectContained _ => exact later_of_tick (execInjectContained_tick _ s h)
  | injectFatal _ => exact later_of_tick (execInjectFatal_tick _ s h)
  | resetRelease _ => exact later_of_tick (execResetRelease_tick _ s h)
  | selfTestComplete _ _ => exact later_of_tick (execSelfTestComplete_tick _ _ s h)
  | firmwareApplied => exact later_of_tick (execFirmwareApplied_tick s h)
  | bootPlanChecked => exact later_of_tick (execBootPlanChecked_tick s h)
  | timeBaseRestore => exact later_of_tick (execTimeBaseRestore_tick s h)
  | deviceReset _ => exact later_of_tick (execDeviceReset_tick _ s h)
  | deviceResetWithDefaults _ => exact later_of_tick (execDeviceResetWithDefaults_tick _ s h)
  | reinitialisePort _ _ => exact later_of_tick (execReinitialisePort_tick _ _ s h)
  | reinitialiseLoupe _ _ => exact later_of_tick (execReinitialiseLoupe_tick _ _ s h)
  | reinitialiseDpll _ _ => exact later_of_tick (execReinitialiseDpll_tick _ _ s h)
  | reinitialiseOutputPll _ _ => exact later_of_tick (execReinitialiseOutputPll_tick _ _ s h)
  | reinitialiseGnss _ => exact later_of_tick (execReinitialiseGnss_tick _ s h)
  | reinitialiseMediaPort _ _ => exact later_of_tick (execReinitialiseMediaPort_tick _ _ s h)
  | reinitialiseServingGroup _ _ => exact later_of_tick (execReinitialiseServingGroup_tick _ _ s h)
  | reinitialisePlate _ _ => exact later_of_tick (execReinitialisePlate_tick _ _ s h)
  | reinitialiseDeveloper _ => exact later_of_tick (execReinitialiseDeveloper_tick _ s h)
  | reinitialisationEnd _ _ => exact later_of_tick (execReinitialisationEnd_tick _ _ s h)
  | flashImageDownload _ _ => exact later_of_tick (execFlashImageDownload_tick _ _ s h)
  | flashWriteComplete _ => exact later_of_tick (execFlashWriteComplete_tick _ s h)
  | revoke _ _ => exact execRevoke_later _ _ s h
  | raiseFloor _ _ => exact execRaiseFloor_later _ _ s h
  | linkFault _ => exact later_of_tick (execLinkFault_tick _ s h)
  | blockLockReturn _ => exact later_of_tick (execBlockLockReturn_tick _ s h)
  | esmcTimeout _ => exact later_of_tick (execEsmcTimeout_tick _ s h)
  | canErrorStateChange _ => exact later_of_tick (execCanErrorStateChange_tick _ s h)
  | spiInvalidTransaction _ => exact later_of_tick (execSpiInvalidTransaction_tick _ s h)
  | tapInstruction _ => exact later_of_tick (execTapInstruction_tick _ s h)
  | asleepDomainProof _ _ _ => exact later_of_tick (execAsleepDomainProof_tick _ _ _ s h)

/-- What any command may do to the clock, the queue and OTP. -/
theorem exec_cases {c : Instr} {s z : State} (h : exec c s = .next z) : Later s z ∨ ∃ k, s.clock.To k ∧ z.clock = k ∧ z.rest = s.rest := by
  cases hc : movesClock c with
  | false => exact .inl (exec_later hc h)
  | true =>
    cases c with
    | engineCycle => exact (execEngineCycle_tick s h).imp later_of_tick fun ⟨he, hr, ht⟩ => ⟨_, .next he hr, tick_rest ht⟩
    | serviceStart => exact (execServiceStart_tick s h).imp later_of_tick fun ht => ⟨_, .start, tick_rest ht⟩
    | supplyLoss => exact .inr ⟨_, .start, tick_rest (execSupplyLoss_tick s h)⟩
    | resetAssert => exact (execResetAssert_tick s h).imp later_of_tick fun ht => ⟨_, .start, tick_rest ht⟩
    | deviceResetApply => exact (execDeviceResetApply_tick s h).imp later_of_tick fun ht => ⟨_, .start, tick_rest ht⟩
    | exposureBoundary r => exact (execExposureBoundary_tick r s h).imp later_of_tick fun ht => ⟨_, .exposureDone, tick_rest ht⟩
    | reelBoundary i => exact (execReelBoundary_tick i s h).imp later_of_tick fun ht => ⟨_, .reelDone, tick_rest ht⟩
    | _ => cases hc

/-- A step with nothing commanded moves neither clock nor queue; any other runs the command at the front. -/
theorem step_cases {s z : State} (h : step s = .next z) :
    (s.pending = [] ∧ z = s.idle) ∨ ∃ c rest, s.pending = c :: rest ∧ exec c { s with pending := rest } = .next z := by
  unfold step at h
  split at h
  · next hp => exact .inl ⟨hp, (next_inj h).symm⟩
  · next c rest hp => exact .inr ⟨c, rest, hp, h⟩

theorem step_clock {s z : State} (h : step s = .next z) : z.clock = s.clock ∨ s.clock.To z.clock := by
  rcases step_cases h with ⟨-, rfl⟩ | ⟨c, rest, -, h⟩
  · exact .inl (tick_clock s.idle_tick)
  · rcases exec_cases h with hl | ⟨k, hk, rfl, -⟩
    · exact .inl hl.1
    · exact .inr hk

/-! ### What each of the four clocks keeps -/

/-- The ranges of the count and of the exposure number (R8). -/
def Clock.inRange (c : Clock) : Prop := c.cycle < 1000000 ∧ c.exposure < 1000

theorem Clock.To.inRange {c k : Clock} (h : c.To k) (hc : c.inRange) : k.inRange := by
  cases h with
  | next he hr => unfold Clock.inRange Clock.next at *; split <;> (try split) <;> simp <;> omega
  | start => exact ⟨by decide, by decide⟩
  | exposureDone => exact hc
  | reelDone => exact hc

/-- The queue and OTP of every next state. -/
theorem exec_pending {c : Instr} {s z : State} (h : exec c s = .next z) : z.pending = s.pending := by
  rcases exec_cases h with hl | ⟨k, -, -, hr⟩
  · exact hl.2.1
  · exact congrArg Prod.fst hr

/-- No revocation is cleared and the floor does not fall (R412, R415). -/
def OtpKept (s z : State) : Prop := (∀ k, bit s.boot.revoked k = true → bit z.boot.revoked k = true) ∧ s.boot.floor ≤ z.boot.floor

theorem otpKept_of_later {s z : State} (h : Later s z) : OtpKept s z := ⟨h.2.2.1, h.2.2.2⟩

theorem otpKept_of_rest {s z : State} (h : z.rest = s.rest) : OtpKept s z := by
  simp only [State.rest, Prod.mk.injEq] at h
  obtain ⟨-, hrevoked, hfloor⟩ := h
  exact ⟨fun k hk => by rw [hrevoked]; exact hk, hfloor.ge⟩

theorem exec_otp {c : Instr} {s z : State} (h : exec c s = .next z) : OtpKept s z := by
  rcases exec_cases h with hl | ⟨k, -, -, hr⟩
  · exact otpKept_of_later hl
  · exact otpKept_of_rest hr

/-- Every command answers a next state. -/
theorem exec_next (c : Instr) (s : State) : ∃ z, exec c s = .next z := by
  cases c <;> exact ⟨_, rfl⟩

end Sys2Proof.Machine

namespace Sys2Proof.Proofs
open Sys2Proof Sys2Proof.Machine

/-- Settles O4: each of the four clocks to which a step can lead is in its ranges. -/
theorem theClockStaysInItsRanges : Obligations.TheClockStaysInItsRanges := by
  intro s t hs h
  rcases step_clock h with hc | hc
  · rw [hc]; exact hs
  · exact hc.inRange hs

/-- Settles O6: the seven commands are those that `exec_later` leaves out. -/
theorem onlyTheClocksCommandsMoveTheClock : Obligations.OnlyTheClocksCommandsMoveTheClock := by
  intro c s t h hcycle hstart hloss hassert happly hexposure hreel
  have hc : movesClock c = false := by
    cases c with
    | engineCycle => exact absurd rfl hcycle
    | serviceStart => exact absurd rfl hstart
    | supplyLoss => exact absurd rfl hloss
    | resetAssert => exact absurd rfl hassert
    | deviceResetApply => exact absurd rfl happly
    | exposureBoundary r => exact absurd rfl (hexposure r)
    | reelBoundary i => exact absurd rfl (hreel i)
    | _ => rfl
  exact (exec_later hc h).1

/-- Settles O7: no command's effect undoes what OTP records, and neither does a step with nothing commanded. -/
theorem revocationsAndTheFloorAreNeverUndone : Obligations.RevocationsAndTheFloorAreNeverUndone := by
  intro s t h
  rcases step_cases h with ⟨-, rfl⟩ | ⟨c, rest, -, h⟩
  · exact otpKept_of_later (later_of_tick s.idle_tick)
  · exact exec_otp (s := { s with pending := rest }) h

/-- Settles O3: the command runs on the queue's rest, which no command touches. -/
theorem aStepTakesOneCommandOffTheQueue : Obligations.AStepTakesOneCommandOffTheQueue := by
  intro s c rest hp
  obtain ⟨t, ht⟩ := exec_next c { s with pending := rest }
  have hstep : step s = exec c { s with pending := rest } := by rw [step, hp]
  exact ⟨t, hstep.trans ht, exec_pending ht⟩

end Sys2Proof.Proofs
end

section
/-! PROOF. What a command touches, composed: the parts and object values that may differ from one state to the next, for one update and for
updates in sequence. The claims about commands in service are opened through it. -/

namespace Sys2Proof.Machine

/-- From `s` to `t` only the listed parts and the listed object values may differ. -/
structure Touches (parts : List Part) (keys : List Nat) (s t : State) : Prop where
  objects : ObjectsBut keys s t
  frame : KeepsAllBut parts s t

variable {s t u : State} {parts parts' : List Part} {keys keys' : List Nat}

theorem Touches.refl (s : State) : Touches parts keys s s := ⟨objects_refl _ s, keeps_refl _ s⟩

theorem Touches.mono (h : Touches parts keys s t) (hp : parts ⊆ parts') (hk : keys ⊆ keys') : Touches parts' keys' s t :=
  ⟨objects_weaken h.objects fun _ => @hk _, keeps_weaken h.frame fun _ => @hp _⟩

theorem Touches.trans (h : Touches parts keys s t) (g : Touches parts keys t u) : Touches parts keys s u :=
  ⟨objects_trans h.objects g.objects, keeps_trans h.frame g.frame⟩

/-- One update after another touches what either touches. -/
theorem Touches.andThen (h : Touches parts keys s t) (g : Touches parts' keys' t u) : Touches (parts ++ parts') (keys ++ keys') s u :=
  (h.mono (List.subset_append_left ..) (List.subset_append_left ..)).trans
    (g.mono (List.subset_append_right ..) (List.subset_append_right ..))

/-- An update of one part that leaves the objects. -/
theorem touches_part {p : Part} (hobjs : t.objs = s.objs) (h : KeepsAllBut [p] s t) : Touches [p] [] s t := ⟨objects_of_objs hobjs, h⟩

theorem touches_setKey (s : State) (k : Nat) (v : Int) : Touches [.objs] [k] s (s.setKey k v) := ⟨objects_setKey s k v, keeps_setKey s k v⟩
theorem touches_setObj (s : State) (i j : Nat) (v : Int) : Touches [.objs] [okey 0 0 i j] s (s.setObj i j v) := touches_setKey ..
theorem touches_bumpKey (s : State) (k n : Nat) : Touches [.objs] [k] s (s.bumpKey k n) := touches_setKey ..
theorem touches_bump (s : State) (i j : Nat) : Touches [.objs] [okey 0 0 i j] s (s.bump i j) := touches_setKey ..
theorem touches_emcy (s : State) (c p d : Nat) : Touches [.mgmt, .objs] [lostKey] s (s.emcy c p d) := ⟨objects_emcy s c p d, keeps_emcy s c p d⟩
theorem touches_report (s : State) (q k l c p d : Nat) : Touches [.mgmt, .objs, .faults] [lostKey] s (s.report q k l c p d) :=
  ⟨objects_report s q k l c p d, keeps_report s q k l c p d⟩
theorem touches_respond (s : State) (t : Transport) (r : UsdoResponse) :
    Touches [.mgmt, .objs, .twin] [servedKey, lostKey] s (s.respond t r) := ⟨objects_respond s t r, keeps_respond s t r⟩
theorem touches_abort (s : State) (t : Transport) (i j c : Nat) :
    Touches [.mgmt, .objs, .twin] [okey 0 0 0x2004 2, servedKey, lostKey] s (s.abort t i j c) :=
  ⟨objects_trans (objects_weaken (objects_bump s 0x2004 2) (by simp)) (objects_weaken (objects_respond _ t _) (by simp [servedKey, lostKey])),
    keeps_trans (keeps_weaken (keeps_bump s 0x2004 2) (by simp)) (keeps_respond _ t _)⟩
theorem touches_settle (s t : State) : Touches [.mgmt, .objs] [lostKey] t (settleRegister s t) := ⟨objects_settle s t, keeps_settle s t⟩
theorem touches_compared (s : State) (p d : Nat) (o : Octets) : Touches [.twin] [] s (s.compared p d o) := ⟨(compared_frame s p d o).1, (compared_frame s p d o).2⟩
theorem touches_takeEffect (s : State) (k : Nat) (v : Int) : Touches [.mgmt, .objs] [k] s (s.takeEffect k v) :=
  ⟨(takeEffect_frame s k v).2.1, (takeEffect_frame s k v).2.2⟩

/-- Updates that each touch the same parts and values touch no more in sequence. -/
theorem touches_foldl_mem {α : Type} {f : State → α → State} {l : List α} (h : ∀ s, ∀ a ∈ l, Touches parts keys s (f s a)) (s : State) :
    Touches parts keys s (l.foldl f s) := by
  induction l generalizing s with
  | nil => exact .refl s
  | cons a r ih => exact (h s a List.mem_cons_self).trans (ih (fun u b hb => h u b (List.mem_cons_of_mem _ hb)) _)

theorem touches_foldl {α : Type} {f : State → α → State} (h : ∀ s a, Touches parts keys s (f s a)) (l : List α) (s : State) :
    Touches parts keys s (l.foldl f s) := touches_foldl_mem (fun u a _ => h u a) s

/-- A value outside the touched ones reads as before. -/
theorem Touches.obj (h : Touches parts keys s t) {i j : Nat} (hk : okey 0 0 i j ∉ keys) : t.obj i j = s.obj i j :=
  State.obj_congr (h.objects _ hk)

theorem Touches.objI (h : Touches parts keys s t) {i j : Nat} (hk : okey 0 0 i j ∉ keys) : t.objI i j = s.objI i j := h.objects _ hk

/-! ### Commands in service -/

/-- A command whose branch is known. -/
theorem exec_next_of {c : Instr} {v : State} (he : exec c s = .next v) (hv : v = u) : exec c s = .next u := by rw [he, hv]

/-- An event has the effect that the rules give while the block serves. -/
theorem exec_while_serving {c : Instr} {f : State → State} (hs : s.serving = true) (he : exec c s = .next (s.whenServing f)) (hf : f s = u) :
    exec c s = .next u := by
  rw [he, serving_apply hs, hf]

theorem exec_serving {c : Instr} {f : State → State} (hs : InService s) (he : exec c s = .next (s.whenServing f)) (hf : f s = u) :
    exec c s = .next u := exec_while_serving (serving_at hs) he hf

theorem turns_serving {c : Instr} {f : State → State} {P : State → Prop} (hs : InService s) (he : exec c s = .next (s.whenServing f))
    (hf : f s = u) (ht : Touches parts keys s u) (hP : P u) : Turns c s parts keys P :=
  turns_of (exec_serving hs he hf) hP ht.objects ht.frame

/-- A host command whose own checks pass answers with its effect and the queued confirmation. -/
theorem exec_confirmed {c : Instr} {tr : Transport} {i j : Nat} {op : State → Except Nat State} (he : exec c s = .next (s.command tr i j op))
    (hl : s.listens = true) (hg : s.gate i j = none) (ho : op s = .ok u) : exec c s = .next (u.respond tr (.downloaded i j)) := by
  rw [he, command_ok hl hg ho]

/-- The same for an operation that may both act and refuse. -/
theorem State.commandA_accepted {tr : Transport} {i j : Nat} {op : State → Attempt} (hl : s.listens = true) (hg : s.gate i j = none)
    (ho : op s = (u, none)) : s.commandA tr i j op = u.respond tr (.downloaded i j) := by
  unfold State.commandA
  rw [if_pos hl, hg]
  dsimp only
  rw [ho]

theorem State.commandA_refused {tr : Transport} {i j code : Nat} {op : State → Attempt} (hl : s.listens = true) (hg : s.gate i j = none)
    (ho : op s = (u, some code)) : s.commandA tr i j op = u.abort tr i j code := by
  unfold State.commandA
  rw [if_pos hl, hg]
  dsimp only
  rw [ho]

theorem listens_at (hs : InService s) : s.listens = true := listens_of hs.2.2.1 hs.2.2.2

/-- A host command whose own checks pass is confirmed; what it claims is told of the state with the response queued. -/
theorem confirms_touches {c : Instr} {tr : Transport} {i j : Nat} {op : State → Except Nat State} {P : State → Prop}
    (he : exec c s = .next (s.command tr i j op)) (hs : InService s) (hg : s.gate i j = none) (ho : op s = .ok u)
    (ht : Touches (.mgmt :: .objs :: .twin :: parts) (servedKey :: lostKey :: keys) s u) (h : ∀ r, P (u.respond tr r)) :
    Confirms c s parts keys P := confirms_any he hs hg ho h ht.objects ht.frame

/-- The same for an effect on the named parts and object values alone. -/
theorem confirms_part {c : Instr} {tr : Transport} {i j : Nat} {op : State → Except Nat State} {P : State → Prop}
    (he : exec c s = .next (s.command tr i j op)) (hs : InService s) (hg : s.gate i j = none) (ho : op s = .ok u)
    (ht : Touches parts keys s u) (h : ∀ r, P (u.respond tr r)) : Confirms c s parts keys P :=
  confirms_of he hs hg ho h ht.objects ht.frame

/-! ### Updates of one bank -/

theorem touches_setBase (s : State) (n : Nat) (x : TimeBase) : Touches [.time] [] s (s.setBase n x) := touches_part rfl (keeps_time s _)
theorem touches_setComp (s : State) (n : Nat) (x : Compare) : Touches [.time] [] s (s.setComp n x) := touches_part rfl (keeps_time s _)
theorem touches_setInput (s : State) (n : Nat) (x : EventInput) : Touches [.time] [] s (s.setInput n x) := touches_part rfl (keeps_time s _)
theorem touches_setInterval (s : State) (n : Nat) (x : Interval) : Touches [.time] [] s (s.setInterval n x) := touches_part rfl (keeps_time s _)
theorem touches_setPps (s : State) (n : Nat) (x : Pps) : Touches [.synth] [] s (s.setPps n x) := touches_part rfl (keeps_synth s _)
theorem touches_setLoupe (s : State) (n : Nat) (x : Loupe) : Touches [.refs] [] s (s.setLoupe n x) := touches_part rfl (keeps_refs s _)
theorem touches_setSteer (s : State) (n : Nat) (x : Steer) : Touches [.dev] [] s (s.setSteer n x) := touches_part rfl (keeps_dev s _)
theorem touches_setDpll (s : State) (n : Nat) (x : Dpll) : Touches [.synth] [] s (s.setDpll n x) := touches_part rfl (keeps_synth s _)
theorem touches_setDomain (s : State) (c n : Nat) (x : Domain) : Touches [.plans] [] s (s.setDomain c n x) := touches_part rfl (keeps_plans s _)
theorem touches_setMport (s : State) (n : Nat) (x : MediaPort) : Touches [.media] [] s (s.setMport n x) := touches_part rfl (keeps_media s _)
theorem touches_setMchannel (s : State) (n : Nat) (x : MediaChannel) : Touches [.media] [] s (s.setMchannel n x) := touches_part rfl (keeps_media s _)
theorem touches_setPort (s : State) (n : Nat) (x : Port) : Touches [.ports] [] s (s.setPort n x) := touches_part rfl (keeps_ports s _)

/-! ### Updates of one part -/

theorem touches_refs (s : State) (y : Refs) : Touches [.refs] [] s { s with refs := y } := touches_part rfl (keeps_refs s y)
theorem touches_dev (s : State) (y : Dev) : Touches [.dev] [] s { s with dev := y } := touches_part rfl (keeps_dev s y)
theorem touches_synth (s : State) (y : Synth) : Touches [.synth] [] s { s with synth := y } := touches_part rfl (keeps_synth s y)
theorem touches_gnss (s : State) (y : Gnss) : Touches [.gnss] [] s { s with gnss := y } := touches_part rfl (keeps_gnss s y)
theorem touches_intake (s : State) (y : Intake) : Touches [.intake] [] s { s with intake := y } := touches_part rfl (keeps_intake s y)
theorem touches_ports (s : State) (y : Table Port) : Touches [.ports] [] s { s with ports := y } := touches_part rfl (keeps_ports s y)
theorem touches_faults (s : State) (y : Faults) : Touches [.faults] [] s { s with faults := y } := touches_part rfl (keeps_faults s y)
theorem touches_fabric (s : State) (y : Fabric) : Touches [.fabric] [] s { s with fabric := y } := touches_part rfl (keeps_fabric s y)
theorem touches_keys (s : State) (y : Keys) : Touches [.keys] [] s { s with keys := y } := touches_part rfl (keeps_keys s y)
theorem touches_mgmt (s : State) (y : Mgmt) : Touches [.mgmt] [] s { s with mgmt := y } := touches_part rfl (keeps_mgmt s y)
theorem touches_twin (s : State) (y : Twin) : Touches [.twin] [] s { s with twin := y } := touches_part rfl (keeps_twin s y)
theorem touches_boot (s : State) (y : Boot) : Touches [.boot] [] s { s with boot := y } := touches_part rfl (keeps_boot s y)
theorem touches_plans (s : State) (y : Plans) : Touches [.plans] [] s { s with plans := y } := touches_part rfl (keeps_plans s y)
theorem touches_serve (s : State) (y : Serve) : Touches [.serve] [] s { s with serve := y } := touches_part rfl (keeps_serve s y)
theorem touches_darkroom (s : State) (y : Darkroom) : Touches [.darkroom] [] s { s with darkroom := y } := touches_part rfl (keeps_darkroom s y)
theorem touches_groups (s : State) (y : Groups) : Touches [.groups] [] s { s with groups := y } := touches_part rfl (keeps_groups s y)
theorem touches_clock (s : State) (y : Clock) : Touches [.clock] [] s { s with clock := y } := touches_part rfl (keeps_clock s y)

/-! ### A bank is read from its part alone -/

theorem State.base_congr (h : t.time = s.time) (n : Nat) : t.base n = s.base n := by rw [State.base, h, State.base]
theorem State.loupe_congr (h : t.refs = s.refs) (n : Nat) : t.loupe n = s.loupe n := by rw [State.loupe, h, State.loupe]
theorem State.steer_congr (h : t.dev = s.dev) (n : Nat) : t.steer n = s.steer n := by rw [State.steer, h, State.steer]
theorem State.port_congr (h : t.ports = s.ports) (n : Nat) : t.port n = s.port n := by rw [State.port, h, State.port]
theorem State.opll_congr (h : t.synth = s.synth) (n : Nat) : t.opll n = s.opll n := by rw [State.opll, h, State.opll]
theorem State.channel_congr (h : t.synth = s.synth) (n : Nat) : t.channel n = s.channel n := by rw [State.channel, h, State.channel]
theorem State.ppsChannel_congr (h : t.synth = s.synth) (n : Nat) : t.ppsChannel n = s.ppsChannel n := by rw [State.ppsChannel, h, State.ppsChannel]
theorem State.slot_congr (h : t.keys = s.keys) (n : Nat) : t.slot n = s.slot n := by rw [State.slot, h, State.slot]
theorem State.mport_congr (h : t.media = s.media) (n : Nat) : t.mport n = s.mport n := by rw [State.mport, h, State.mport]
theorem State.mchannel_congr (h : t.media = s.media) (n : Nat) : t.mchannel n = s.mchannel n := by rw [State.mchannel, h, State.mchannel]
theorem State.gnssPort_congr (h : t.gnss = s.gnss) (n : Nat) : t.gnssPort n = s.gnssPort n := by rw [State.gnssPort, h, State.gnssPort]
theorem State.gnssChannel_congr (h : t.gnss = s.gnss) (n : Nat) : t.gnssChannel n = s.gnssChannel n := by rw [State.gnssChannel, h, State.gnssChannel]
theorem State.bank_congr (h : t.plans = s.plans) (n : Nat) : t.bank n = s.bank n := by rw [State.bank, h, State.bank]
theorem State.domain_congr (h : t.plans = s.plans) (c i : Nat) : t.domain c i = s.domain c i := by rw [State.domain, h, State.domain]
theorem State.client_congr (h : t.serve = s.serve) (n : Nat) : t.client n = s.client n := by rw [State.client, h, State.client]

@[simp] theorem State.obj_compared (s : State) (p d : Nat) (o : Octets) (i j : Nat) : (s.compared p d o).obj i j = s.obj i j :=
  State.obj_congr (by simp)

@[simp] theorem State.input_bump (s : State) (i j n : Nat) : (s.bump i j).input n = s.input n := rfl

/-! ### What a response leaves of the banks -/

@[simp] theorem State.base_respond (s : State) (t : Transport) (r : UsdoResponse) (n : Nat) : (s.respond t r).base n = s.base n := by
  simp [State.base]
@[simp] theorem State.comp_respond (s : State) (t : Transport) (r : UsdoResponse) (n : Nat) : (s.respond t r).comp n = s.comp n := by
  simp [State.comp]
@[simp] theorem State.input_respond (s : State) (t : Transport) (r : UsdoResponse) (n : Nat) : (s.respond t r).input n = s.input n := by
  simp [State.input]
@[simp] theorem State.interval_respond (s : State) (t : Transport) (r : UsdoResponse) (n : Nat) : (s.respond t r).interval n = s.interval n := by
  simp [State.interval]
@[simp] theorem State.loupe_respond (s : State) (t : Transport) (r : UsdoResponse) (n : Nat) : (s.respond t r).loupe n = s.loupe n := by
  simp [State.loupe]
@[simp] theorem State.steer_respond (s : State) (t : Transport) (r : UsdoResponse) (n : Nat) : (s.respond t r).steer n = s.steer n := by
  simp [State.steer]
@[simp] theorem State.port_respond (s : State) (t : Transport) (r : UsdoResponse) (n : Nat) : (s.respond t r).port n = s.port n := by
  simp [State.port]

end Sys2Proof.Machine
end

section
/-! PROOF. Sets and steps of a time base (R102, R103): each check of the two operations, in their order. -/

namespace Sys2Proof.Machine

variable {s : State} {n value : Nat} {ps : Int}

theorem setBaseOp_of_free (hv : time112Ns value < 1000000000) (hn : n ≠ 0) (hsteer : (s.base n).steered = false) (hadj : (s.base n).adjust = none) :
    setBaseOp n value s = .ok (s.setBase n { s.base n with adjust := some (.set (ofTime112 value)) }) := by
  simp [setBaseOp, Nat.not_le.2 hv, hn, hsteer, hadj]

theorem setBaseOp_of_steered (hv : time112Ns value < 1000000000) (h : n = 0 ∨ (s.base n).steered = true) :
    setBaseOp n value s = .error 0x0A1E0020 := by
  rw [setBaseOp, if_neg (Nat.not_le.2 hv), if_pos h]

theorem stepBaseOp_of_steered (h : n = 0 ∨ (s.base n).steered = true) : stepBaseOp n ps s = .error 0x0A1E0020 := if_pos h

/-- The checks of a step on a free-running base: no adjustment waiting, then the range. -/
theorem stepBaseOp_of_free (hn : n ≠ 0) (hsteer : (s.base n).steered = false) : stepBaseOp n ps s =
    if (s.base n).adjust.isSome then .error 0x0A1E0021
    else if stepFits ((s.base n).value + (1000000 - s.clock.cycle) * s.increment n) ps then .ok (s.setBase n { s.base n with adjust := some (.step ps) })
    else .error 0x0A1E0022 := if_neg (by simp [hn, hsteer])

/-- An adjustment taken waits in its base, and every other base stands. -/
theorem adjusts_one (s : State) (n : Nat) (x : TimeBase) (tr : Transport) (r : UsdoResponse) :
    ((s.setBase n x).respond tr r).base n = x ∧ ∀ m, m ≠ n → ((s.setBase n x).respond tr r).base m = s.base m :=
  ⟨by simp, fun m hm => by simp [State.base_setBase, hm]⟩

end Sys2Proof.Machine

namespace Sys2Proof.Proofs
open Sys2Proof Sys2Proof.Machine

/-- Settles O18: the state of the base decides which check of R102 and R103 fails first. -/
theorem timeBasesTakeSetsAndSteps : Obligations.TimeBasesTakeSetsAndSteps := by
  intro s tr n value ps hs hn
  have hgate (j : Nat) : s.gate (0x3000 + n) j = none := gate_at hs _ _ (by omega) (by omega) (by omega)
  refine ⟨fun hn0 hsteer hadj => ⟨fun hv => ?_, fun hfit => ?_, fun hfit => ?_⟩, fun h => ⟨?_, fun hv => ?_⟩, fun hn0 hsteer hadj => ?_⟩
  · exact confirms_part rfl hs (hgate 5) (setBaseOp_of_free hv hn0 hsteer hadj) (touches_setBase ..) (adjusts_one s n _ tr)
  · exact confirms_part rfl hs (hgate 6) (by rw [stepBaseOp_of_free hn0 hsteer, hadj, if_neg (by simp), if_pos hfit])
      (touches_setBase ..) (adjusts_one s n _ tr)
  · exact refuses_of rfl hs (hgate 6) (by rw [stepBaseOp_of_free hn0 hsteer, hadj, if_neg (by simp), if_neg (by simp [hfit])])
  · exact refuses_of rfl hs (hgate 6) (stepBaseOp_of_steered h)
  · exact refuses_of rfl hs (hgate 5) (setBaseOp_of_steered hv h)
  · exact refuses_of rfl hs (hgate 6) (by rw [stepBaseOp_of_free hn0 hsteer, if_pos (Option.isSome_iff_ne_none.2 hadj)])

end Sys2Proof.Proofs
end

section
/-! PROOF. Compare units (R109 to R113) and time-of-day messages (R207). -/

namespace Sys2Proof.Machine

variable {s : State} {c p : Nat}

theorem armOp_of_armed (h : s.countsArmed c = true) : armOp c s = .ok s := if_pos h

/-- An arm of a disarmed unit is judged by its distance from the target. -/
theorem armOp_of_disarmed {tg : Nat} (h : s.countsArmed c = false) (htg : s.onCounter c (ofTime112 (s.obj (0x2210 + c) 3) / 2 ^ 28 * 1000) = tg) :
    armOp c s = if 2 ^ 31 * second32 ≤ ((s.base32 (s.obj (0x2210 + c) 1) - (tg : Int)).natAbs : Int) then .error 0x0A1E0022
      else .ok (s.setComp c { s.comp c with armPending := true }) := by
  rw [armOp, if_neg (by simp [h]), htg]

/-- The write of one unit reads back, after the response too, and every other unit stands. -/
theorem sets_one_comp (s : State) (c : Nat) (x : Compare) (tr : Transport) (r : UsdoResponse) :
    ((s.setComp c x).respond tr r).comp c = x ∧ ∀ d, d ≠ c → ((s.setComp c x).respond tr r).comp d = s.comp d :=
  ⟨by simp, fun d hd => by simp [State.comp_setComp, hd]⟩

/-- Action numbers below 0x0100 name no action (Table 4.5). -/
theorem compareAction_of_none {target : Nat} (h : s.obj (0x2210 + c) 5 < 256) : s.compareAction c target = s := by
  simp [State.compareAction, Nat.div_eq_of_lt h]

/-- A one-shot unit without an action: its firing changes its own record alone. -/
theorem fireUnit_oneShot {late : Bool} (hone : s.obj (0x2210 + c) 4 = 0) (hact : s.obj (0x2210 + c) 5 < 256) :
    s.fireUnit c late = s.setComp c { s.comp c with
      fired := true, armed := false, overdue := false, lastFire := toTime112 ((s.comp c).counterTarget * 2 ^ 28), late := late } := by
  have hnone (x : Compare) (target : Nat) : (s.setComp c x).compareAction c target = s.setComp c x := compareAction_of_none hact
  simp [State.fireUnit, hone, hnone]

end Sys2Proof.Machine

namespace Sys2Proof.Proofs
open Sys2Proof Sys2Proof.Machine

/-- Settles O19: arming and disarming by their checks, the firing of a one-shot unit by `fireUnit_oneShot`, the message by its due instant. -/
theorem comparesArmFireAndDisarm : Obligations.ComparesArmFireAndDisarm := by
  intro s tr c p hs hc
  have hgate : s.gate (0x2210 + c) 6 = none := gate_at hs _ _ (by omega) (by omega) (by omega)
  refine ⟨fun h => ?_, fun h tg htg => ⟨fun hnear => ?_, fun hfar => ?_⟩, ?_, fun harmed hdelta hopen hone hact => ?_, fun h => ?_,
    fun e m hdue he hopen => ?_⟩
  · exact confirms_part rfl hs hgate (armOp_of_armed h) (.refl s) fun r => by simp
  · exact confirms_part rfl hs hgate (by rw [armOp_of_disarmed h htg, if_neg (not_le.2 hnear)]) (touches_setComp ..) (sets_one_comp s c _ tr)
  · exact refuses_of rfl hs hgate (by rw [armOp_of_disarmed h htg, if_pos hfar])
  · exact confirms_part rfl hs hgate rfl (touches_setComp ..) (sets_one_comp s c _ tr)
  · refine turns_serving hs rfl ((if_pos ⟨harmed, hdelta, hopen⟩).trans (fireUnit_oneShot hone hact)) (touches_setComp ..)
      ⟨State.comp_setComp_self .., fun d hd => by simp [State.comp_setComp, hd]⟩
  · exact exec_serving hs rfl (if_neg fun ⟨_, hdelta, hopen⟩ => h.elim (fun h => absurd hdelta (not_le.2 h)) fun h => by simp [h] at hopen)
  · refine turns_serving hs rfl (by dsimp only; rw [hdue]; exact if_neg (by simp [he, hopen]))
      ((((touches_setPps ..).andThen (touches_bump ..)).andThen (touches_setObj ..)).andThen (touches_compared ..) |>.mono (by decide) (by simp)) ⟨?_, ?_, ?_⟩
    · exact (State.ppsChannel_congr (by simp) p).trans (State.ppsChannel_setPps_self s p _)
    · simp only [State.obj_compared, State.obj_setObj_self, Int.toNat_natCast]
    · simp [obj_setObj, okey_sub]

end Sys2Proof.Proofs
end

section
/-! PROOF. Event inputs (R115 to R120): the three fates of an edge, the release of records, the flags, and the check of a calibration. -/

namespace Sys2Proof.Machine

variable {s : State} {i q mask : Nat} {rising : Bool} {fine : Int}

/-! ### The three fates of an edge that counts -/

theorem eventEdge_uncalibrated (h : (s.input i).calibration = 0) :
    s.eventEdge i rising fine = (s.bump (0x3020 + i) 0x0C).bump (0x3020 + i) 0x0B := if_pos h

/-- An edge within 100 ns of the last converted one is flagged and has no timestamp. -/
theorem eventEdge_close {c : Nat} (h : (s.input i).calibration ≠ 0) (hlast : (s.input i).lastEdge = some c) (hnear : s.now - c < 100) :
    s.eventEdge i rising fine = ((s.bump (0x3020 + i) 0x0C).setInput i { s.input i with
      sticky := putBit (s.input i).sticky 1 true }).bump (0x3020 + i) 0x0B := by
  refine (if_neg h).trans (if_pos ?_)
  change (match (s.input i).lastEdge with | none => false | some c => decide (s.now - c < 100)) = true
  rw [hlast]
  exact decide_eq_true hnear

/-- Any other is converted, and its item is tagged at the end of the conversion. -/
theorem eventEdge_converted (h : (s.input i).calibration ≠ 0) (hlast : ∀ c, (s.input i).lastEdge = some c → 100 ≤ s.now - c) :
    s.eventEdge i rising fine = ((s.bump (0x3020 + i) 0x0C).setInput i { s.input i with lastEdge := some s.now }).tagItem (40 + i) tdcCycles
      (.event rising (s.eventTime i (s.obj (0x3020 + i) 3) fine) (s.eventTime i 0 fine) false) := by
  refine (if_neg h).trans (if_neg ?_)
  change ¬ (match (s.input i).lastEdge with | none => false | some c => decide (s.now - c < 100)) = true
  split
  · simp
  · next c hc => simpa using hlast c hc

theorem tagItem_of_open {src delay : Nat} {b : ItemBody} (h : s.time.gate = false) : s.tagItem src delay b =
    { s with intake := { s.intake with items := s.intake.items ++ [⟨src, s.now + delay, s.tai, b⟩] } } := if_neg (by simp [h])

theorem tagItem_of_gate {src delay : Nat} {b : ItemBody} (h : s.time.gate = true) : s.tagItem src delay b = s.bump 0x2C20 3 := if_pos h

/-! ### Releases, flags, calibrations -/

theorem fifoReleaseOp_of_some {r : List EventRecord} (h : releaseTo EventRecord.seq (q % 8192) (s.input i).fifo = some r) :
    fifoReleaseOp i q s = .ok (s.setInput i { s.input i with fifo := r }) := by rw [fifoReleaseOp, h]

theorem fifoReleaseOp_of_none (h : releaseTo EventRecord.seq (q % 8192) (s.input i).fifo = none) : fifoReleaseOp i q s = .error 0x0A1E0026 := by
  rw [fifoReleaseOp, h]

theorem clearFlagsOp_input (hi : i < 48) : clearFlagsOp (0x3020 + i) mask s =
    .ok (s.setInput i { s.input i with sticky := clearBits (s.input i).sticky mask }) := by
  rw [clearFlagsOp, if_pos ⟨by omega, by omega⟩, Nat.add_sub_cancel_left]

theorem clearFlagsOp_port (hi : i < 24) : clearFlagsOp (0x3400 + i) mask s =
    .ok (s.setPort i { s.port i with sticky := clearBits (s.port i).sticky mask }) := by
  rw [clearFlagsOp, if_neg (by omega), if_pos ⟨by omega, by omega⟩, Nat.add_sub_cancel_left]

theorem calibrationRun_of_fail {skew : Int} (h : (s.input i).failures ≠ 9) :
    s.calibrationRun i false skew = s.setInput i { s.input i with failures := (s.input i).failures + 1 } := by
  have hten : (s.input i).failures + 1 ≠ 10 := by omega
  simp [State.calibrationRun, hten]

/-- An edge that is enabled, of a polarity selected, at an intake unit without a fault. -/
theorem exec_evinEdge (hs : InService s) (hon : s.obj (0x3020 + i) 1 = 1) (hfault : bit s.intake.faults (40 + i) = false)
    (hedge : edgeSelected (s.obj (0x3020 + i) 2) rising = true) : exec (.evinEdge i rising fine) s = .next (s.eventEdge i rising fine) :=
  exec_serving hs rfl (if_neg (by simp [hon, hfault, hedge]))

end Sys2Proof.Machine

namespace Sys2Proof.Proofs
open Sys2Proof Sys2Proof.Machine

/-- Settles O20: the three fates of an edge, and one check for each command. -/
theorem eventsAreTimestampedAndReleased : Obligations.EventsAreTimestampedAndReleased := by
  intro s tr i q mask rising fine skew bins hs hi
  have hgate (i j : Nat) (h : 0x3000 ≤ i) : s.gate i j = none := gate_at hs _ _ (by omega) (by omega) (by omega)
  refine ⟨fun hon hfault hedge => ?_, fun r hr => ?_, fun hr => ?_, ?_, fun hn => ?_, fun j hj => ⟨fun hok => ?_, fun hok hten => ?_⟩⟩
  · have hexec := exec_evinEdge (fine := fine) hs hon hfault hedge
    refine ⟨fun hcal => ?_, fun c hcal hlast hnear => ?_, fun hcal hlast => ⟨fun hopen => ?_, fun hgated => ?_⟩⟩
    · have ht := (touches_bump s (0x3020 + i) 0x0C).andThen (touches_bump _ (0x3020 + i) 0x0B)
      rw [eventEdge_uncalibrated hcal] at hexec
      exact turns_of hexec ⟨by simp [obj_bump, okey_sub], by simp [obj_bump, okey_sub]⟩ ht.objects (ht.mono (by decide) (List.Subset.refl _)).frame
    · have ht := ((touches_bump s (0x3020 + i) 0x0C).andThen (touches_setInput _ i { s.input i with
        sticky := putBit (s.input i).sticky 1 true })).andThen (touches_bump _ (0x3020 + i) 0x0B)
      rw [eventEdge_close hcal hlast hnear] at hexec
      exact turns_of hexec ⟨by simp, by simp [obj_bump, okey_sub], by simp [obj_bump, okey_sub]⟩ ht.objects
        (ht.mono (by decide) (List.Subset.refl _)).frame
    · have ht := ((touches_bump s (0x3020 + i) 0x0C).andThen (touches_setInput _ i { s.input i with lastEdge := some s.now })).andThen
        (touches_intake _ { s.intake with items := s.intake.items ++
          [⟨40 + i, s.now + 8, s.tai, .event rising (s.eventTime i (s.obj (0x3020 + i) 3) fine) (s.eventTime i 0 fine) false⟩] })
      rw [eventEdge_converted hcal hlast, tagItem_of_open (by exact hopen)] at hexec
      exact turns_of hexec ⟨State.input_setInput_self .., rfl⟩ ht.objects ht.frame
    · have ht := ((touches_bump s (0x3020 + i) 0x0C).andThen (touches_setInput _ i { s.input i with lastEdge := some s.now })).andThen
        (touches_bump _ 0x2C20 3)
      rw [eventEdge_converted hcal hlast, tagItem_of_gate (by exact hgated)] at hexec
      refine turns_of hexec ⟨by simp, ?_⟩ ht.objects (ht.mono (by decide) (List.Subset.refl _)).frame
      have hne : okey 0 0 0x2C20 3 ≠ okey 0 0 (0x3020 + i) 0x0C := by unfold okey; omega
      rw [State.obj_bump_self]
      simp [obj_bump, hne]
  · exact confirms_part rfl hs (hgate _ 9 (by omega)) (fifoReleaseOp_of_some hr) (touches_setInput ..) fun r => by simp
  · exact refuses_of rfl hs (hgate _ 9 (by omega)) (fifoReleaseOp_of_none hr)
  · exact confirms_part rfl hs (hgate _ _ (by omega)) (clearFlagsOp_input hi) (touches_setInput ..) fun r => by simp
  · exact confirms_part rfl hs (hgate _ _ (by omega)) (clearFlagsOp_port hn) (touches_setPort ..) fun r => by simp
  · exact exec_serving hs rfl ((if_pos hj).trans (by rw [hok]; rfl))
  · exact exec_serving hs rfl ((if_pos hj).trans (by rw [hok]; exact calibrationRun_of_fail hten))

end Sys2Proof.Proofs
end

section
/-! PROOF. Interval units (R121, R122), captures (R114) and the leap table (R107). A gate's end first gives the interval units the events that
wait for their delivery; that touches neither an object nor a time base, so the results latched are told in the figures before it. -/

namespace Sys2Proof.Machine

variable {s : State}

/-! ### The gate of an interval unit -/

/-- What the delivery of an event to the interval units leaves of the clocks and the time bases. -/
structure IntervalsOnly (s t : State) : Prop where
  touches : Touches [.time, .intake] [] s t
  bases : t.time.bases = s.time.bases

theorem IntervalsOnly.refl (s : State) : IntervalsOnly s s := ⟨.refl s, rfl⟩

theorem IntervalsOnly.trans {s t u : State} (h : IntervalsOnly s t) (g : IntervalsOnly t u) : IntervalsOnly s u :=
  ⟨h.touches.trans g.touches, g.bases.trans h.bases⟩

theorem intervalsOnly_foldl {α : Type} {f : State → α → State} (h : ∀ s a, IntervalsOnly s (f s a)) (l : List α) (s : State) :
    IntervalsOnly s (l.foldl f s) := by
  induction l generalizing s with
  | nil => exact .refl s
  | cons a r ih => exact (h s a).trans (ih _)

theorem intervalsOnly_setInterval (s : State) (u : Nat) (x : Interval) : IntervalsOnly s (s.setInterval u x) :=
  ⟨(touches_setInterval s u x).mono (by decide) (by simp), rfl⟩

theorem intervalsOnly_intervalEdge (s : State) (i : Nat) (t0 : Int) : IntervalsOnly s (s.intervalEdge i t0) :=
  intervalsOnly_foldl (fun s u => by
    dsimp only
    split
    · exact .refl s
    · exact intervalsOnly_setInterval ..) _ s

theorem intervalsOnly_passEvents (s : State) : IntervalsOnly s s.passEvents := by
  refine IntervalsOnly.trans (intervalsOnly_foldl (fun s i => ?_) _ s)
    ⟨(touches_intake _ _).mono (by decide) (by simp), rfl⟩
  split
  · split
    · exact intervalsOnly_intervalEdge ..
    · exact .refl s
  · exact .refl s

/-- The object values in which a gate leaves its results. -/
def gateKeys (u : Nat) : List Nat := [7, 8, 9, 10, 11, 12, 13].map fun k => okey 0 0 (0x2240 + u) k

theorem touches_latchGate (s : State) (u : Nat) : Touches [.objs, .time] (gateKeys u) s (s.latchGate u) := by
  refine ((((((((touches_setObj ..).andThen (touches_setObj ..)).andThen (touches_setObj ..)).andThen (touches_setObj ..)).andThen
    (touches_setObj ..)).andThen (touches_setObj ..)).andThen (touches_bump ..)).andThen (touches_setInterval ..)).mono (by decide) ?_
  simp [gateKeys]

/-- The results latched are those of the unit with what has outlived its pair window counted, and its gate is empty. -/
theorem latchGate_results {u : Nat} {y : Interval} (hy : (s.interval u).expire (s.base32 0) (s.obj (0x2240 + u) 5) = y) :
    (s.latchGate u).obj (0x2240 + u) 7 = y.count % 2 ^ 32 ∧
    (s.latchGate u).objI (0x2240 + u) 8 = (if y.count = 0 then 0 else roundDivI y.sum (y.count * 2 ^ 32)) ∧
    (s.latchGate u).obj (0x2240 + u) 0x0C = y.unpaired % 2 ^ 32 ∧
    (s.latchGate u).interval u = { y with
      count := 0, sum := 0, squares := 0, min := 0, max := 0, unpaired := 0, gateReel := s.clock.reel } := by
  subst hy
  refine ⟨?_, ?_, ?_, State.interval_setInterval_self ..⟩
  · simp only [State.latchGate, State.obj_setInterval, obj_bump, obj_setObj, okey_sub, if_true, Int.toNat_natCast]
    simp
  · simp only [State.latchGate, State.objI_setInterval, objI_bump, objI_setObj, okey_sub]
    simp
  · simp only [State.latchGate, State.obj_setInterval, obj_bump, obj_setObj, okey_sub, if_true, Int.toNat_natCast]
    simp

/-! ### Modes, captures, the leap table -/

theorem intervalModeOp_of_ok {u m : Nat} (hm : m ≤ 2) (h : m = 1 → s.obj (0x2240 + u) 2 ≠ s.obj (0x2240 + u) 3) :
    intervalModeOp u m s = .ok (s.setInterval u { s.interval u with pendMode := some m }) := by
  rw [intervalModeOp, if_neg (Nat.not_lt.2 hm), if_neg fun ⟨h1, h2⟩ => h h1 h2]

theorem intervalModeOp_of_same {u : Nat} (h : s.obj (0x2240 + u) 2 = s.obj (0x2240 + u) 3) : intervalModeOp u 1 s = .error 0x0A1E0025 := by
  rw [intervalModeOp, if_neg (by decide), if_pos ⟨rfl, h⟩]

/-- A unit settled without firing keeps everything but its own record. -/
theorem touches_settleUnit (s : State) (c : Nat) : Touches [.time] [] s (s.settleUnit c false) := by
  unfold State.settleUnit
  split
  · exact touches_setComp ..
  · split
    · exact touches_setComp ..
    · exact touches_setComp ..

theorem touches_reconvert (s : State) : Touches [.time] [] s s.reconvert :=
  touches_foldl (fun s c => by
    dsimp only
    split
    · exact .refl s
    · split
      · exact .refl s
      · exact (touches_setComp ..).trans (touches_settleUnit ..)) _ s

/-- A write of leap entry 2, 3 or 4 that keeps the rules of the table (R107). -/
theorem leapWriteOp_of_ok {sub w : Nat} (hsub : 2 ≤ sub) (hok : leapTableOk (s.time.pendOffset.getD s.offset0) (s.obj 0x2201 2) s.nextReelSecond
    (fun i => decide (i = sub)) 1 none (s.leapWordsWith sub w) = true) :
    leapWriteOp 0x2202 sub w s = .ok (s.takeEffect (okey 0 0 0x2202 sub) w).reconvert := by
  have h1 : sub ≠ 1 := by omega
  simp [leapWriteOp, h1, hok]

/-- Leap entries 1 to 4 are 64-bit words that the host may write (Table 4.3). -/
theorem dictRow_leapEntry {sub : Nat} (h1 : 1 ≤ sub) (h4 : sub ≤ 4) : dictRow 0x2202 sub = some ⟨1, 4, .uint 8, .rw, true, 0, .any⟩ := by
  have hrec : dictRecord 0x2202 = some (⟨0x2202, 1, [⟨0, 0, .uint 1, .const, false, 4, .any⟩, ⟨1, 4, .uint 8, .rw, true, 0, .any⟩]⟩, 0) := by
    decide +kernel
  have h0 : sub ≠ 0 := by omega
  simp [dictRow, hrec, DictRecord.row, h0, h1, h4]

end Sys2Proof.Machine

namespace Sys2Proof.Proofs
open Sys2Proof Sys2Proof.Machine

/-- Settles O21: the gate's results by `latchGate_results` on the state with the waiting events passed on, the rest by one check a command. -/
theorem intervalsCapturesAndLeapsFollowTheirRules : Obligations.IntervalsCapturesAndLeapsFollowTheirRules := by
  intro s tr u m sub w value hs hu
  have hgate (i j : Nat) (h : 0x2200 ≤ i) (h' : i < 0x2300) : s.gate i j = none := gate_at hs _ _ (by omega) (by omega) (by omega)
  refine ⟨fun hm hne => ?_, fun hsame => ?_, fun hopen hreels hdue y hy => ?_, ?_, fun hv => ?_, fun h2 h4 hw hok => ?_⟩
  · exact confirms_part rfl hs (hgate _ 1 (by omega) (by omega)) (intervalModeOp_of_ok hm hne) (touches_setInterval ..) fun r => by simp
  · exact refuses_of rfl hs (hgate _ 1 (by omega) (by omega)) (intervalModeOp_of_same hsame)
  · have hpass := intervalsOnly_passEvents s
    have hy' : (s.passEvents.interval u).expire (s.passEvents.base32 0) (s.passEvents.obj (0x2240 + u) 5) = y := by
      rw [hpass.touches.obj (by simp), State.base32, State.base, hpass.bases]
      exact hy
    obtain ⟨hcount, hmean, hlone, hempty⟩ := latchGate_results hy'
    refine turns_serving hs rfl (if_pos ⟨hopen, hreels, hdue⟩)
      ((hpass.touches.andThen (touches_latchGate _ u)).mono (by decide) (by simp [gateKeys])) ⟨hcount, hmean, hlone, ?_, ?_, ?_⟩
    · rw [hempty]
    · rw [hempty]
    · rw [hempty]
      exact congrArg Clock.reel (hpass.touches.frame .clock (by decide))
  · exact confirms_part rfl hs (hgate _ 1 (by decide) (by decide)) (if_pos rfl) (touches_part rfl (keeps_time s _)) fun r => by simp
  · exact refuses_of rfl hs (hgate _ 1 (by decide) (by decide)) (if_neg hv)
  · have hop : _ = Except.ok (s.takeEffect (okey 0 0 0x2202 sub) w).reconvert := leapWriteOp_of_ok h2 hok
    refine confirms_touches rfl hs (hgate _ sub (by decide) (by decide)) (u := (s.takeEffect (okey 0 0 0x2202 sub) w).reconvert) ?_
      (((touches_takeEffect s (okey 0 0 0x2202 sub) w).andThen (touches_reconvert _)).mono (by decide) (by simp)) fun r => ?_
    · have hdecode : OType.decode (.uint 8) (leOctets 8 w) = w := by
        rw [OType.decode, leNat_leOctets, Nat.mod_eq_of_lt (by simpa using hw)]
      simp only [dictRow_leapEntry (by omega) h4]
      rw [if_neg (by simp), if_neg (by simp [OType.size]), if_pos (by rfl), hdecode]
      exact hop
    · rw [obj_respond, (touches_reconvert _).obj (by simp), obj_takeEffect_self]
      · unfold okey servedKey okey; omega
      · unfold okey lostKey okey; omega

end Sys2Proof.Proofs
end

section
/-! PROOF. The count of cycles, exposures and reels (R8): the engine cycle leads to the next cycle unless work of its cycle 0 is still due, the
two boundaries each end their own work, and none of the four clocks to which a step leads has work due away from its cycle 0. -/

namespace Sys2Proof.Machine

variable {s : State}

/-- The state after an engine cycle in which nothing is held. -/
def State.nextCycle (s : State) : State :=
  let a := s.advanceBases.advanceDcos
  let b : State := { a with clock := a.clock.next }
  if b.clock.cycle = tableSlot then b.adoptTable else b

theorem exec_engineCycle_held (hs : s.serving = true) (h : s.time.gate = true ∨ s.clock.exposureDue = true ∨ s.clock.reelDue = true) :
    exec .engineCycle s = .next s :=
  exec_while_serving hs rfl (if_pos (by simpa [or_assoc] using h))

theorem exec_engineCycle_open (hs : s.serving = true) (hg : s.time.gate = false) (he : s.clock.exposureDue = false) (hr : s.clock.reelDue = false) :
    exec .engineCycle s = .next s.nextCycle :=
  exec_while_serving hs rfl (if_neg (by simp [hg, he, hr]))

theorem State.nextCycle_clock (s : State) : s.nextCycle.clock = s.clock.next := by
  have ha : s.advanceBases.advanceDcos.clock = s.clock := tick_clock (by simp)
  unfold State.nextCycle
  dsimp only
  rw [ha]
  split
  · exact tick_clock (State.adoptTable_tick _)
  · rfl

/-! ### The next cycle, by its place in the exposure and the reel -/

theorem Clock.next_inside {c : Clock} (h : c.cycle < 999999) : c.next = { c with cycle := c.cycle + 1 } := if_pos (by omega)

theorem Clock.next_exposure {c : Clock} (h : c.cycle = 999999) (he : c.exposure < 999) :
    c.next = { c with cycle := 0, exposure := c.exposure + 1, exposures := c.exposures + 1, exposureDue := true } := by
  rw [Clock.next, if_neg (by omega), if_pos (by omega)]

theorem Clock.next_reel {c : Clock} (h : c.cycle = 999999) (he : c.exposure = 999) :
    c.next = { cycle := 0, exposure := 0, exposures := c.exposures + 1, reel := c.reel + 1, exposureDue := true, reelDue := true } := by
  rw [Clock.next, if_neg (by omega), if_neg (by omega)]

/-! ### Work due at its cycle 0 alone -/

/-- An exposure's work is due at a cycle 0 only, a reel's at the first cycle 0 of a reel only. -/
def Clock.dueInPlace (c : Clock) : Prop := (c.exposureDue = true → c.cycle = 0) ∧ (c.reelDue = true → c.cycle = 0 ∧ c.exposure = 0)

theorem Clock.To.dueInPlace {c k : Clock} (h : c.To k) (hc : c.dueInPlace) : k.dueInPlace := by
  obtain ⟨hexposure, hreel⟩ := hc
  cases h with
  | next he hr =>
    unfold Clock.next Clock.dueInPlace
    split
    · simp [he, hr]
    · split <;> simp [hr]
  | start => exact ⟨nofun, nofun⟩
  | exposureDone => exact ⟨nofun, hreel⟩
  | reelDone => exact ⟨hexposure, nofun⟩

/-! ### The two boundaries -/

theorem exec_exposureBoundary_due (r : Readings) (hs : InService s) (hdue : s.clock.exposureDue = true) (hgate : s.gateAhead = false) :
    CompletesWith (.exposureBoundary r) s fun t => t.tick = ({ s.clock with exposureDue := false }, s.rest) := by
  have ha := s.withClock_tick { s.clock with exposureDue := false }
  refine completes_intro (t := settleRegister s
    ((((({ s with clock := { s.clock with exposureDue := false } } : State).boundaryPlates r).boundaryValues.boundaryReferences).boundaryPorts).boundaryRecovery).boundaryCompare)
    (congrArg _ ((if_pos (serving_at hs)).trans (if_neg (by simp [hdue, hgate])))) ?_
  generalize ({ s with clock := { s.clock with exposureDue := false } } : State) = a at ha
  rw [← ha]
  simp

theorem exec_exposureBoundary_done (r : Readings) (hs : InService s) (hdue : s.clock.exposureDue = false) :
    exec (.exposureBoundary r) s = .next s := congrArg _ ((if_pos (serving_at hs)).trans (if_pos (by simp [hdue])))

theorem serving_of_phase (h : s.boot.inReset = true ∨ s.boot.phase ≠ 5) : s.serving = false := by
  unfold State.serving
  rcases h with h | h <;> simp [h]

theorem exec_exposureBoundary_before (r : Readings) (hphase : s.boot.phase ≠ 5) (hreset : s.boot.inReset = false) (h0 : s.boot.phase ≠ 0) :
    exec (.exposureBoundary r) s = .next { s with faults := { s.faults with temps := r.temps } } :=
  congrArg _ ((if_neg (by simp [serving_of_phase (.inr hphase)])).trans (if_neg (by simp [hreset, h0])))

theorem exec_exposureBoundary_reset (r : Readings) (hreset : s.boot.inReset = true) : exec (.exposureBoundary r) s = .next s :=
  congrArg _ ((if_neg (by simp [serving_of_phase (.inl hreset)])).trans (if_pos (.inl hreset)))

/-- A reel boundary whose work is done, or whose exposure's work is still due, moves nothing. -/
theorem exec_reelBoundary_held (i : ReelInputs) (hs : InService s) (h : s.clock.exposureDue = true ∨ s.clock.reelDue = false) :
    exec (.reelBoundary i) s = .next s := exec_serving hs rfl (if_pos (by simpa using h))

theorem exec_reelBoundary_before (i : ReelInputs) (h : s.boot.inReset = true ∨ s.boot.phase ≠ 5) : exec (.reelBoundary i) s = .next s :=
  congrArg _ (State.whenServing_not _ _ (serving_of_phase h))

/-- The reel's work ends that it is due: the clock before it had it due, so the case in which nothing happens is not this one. -/
theorem exec_reelBoundary_due (i : ReelInputs) (hs : InService s) (he : s.clock.exposureDue = false) (hr : s.clock.reelDue = true) :
    CompletesWith (.reelBoundary i) s fun t => t.tick = ({ s.clock with reelDue := false }, s.rest) := by
  have ha := s.withClock_tick { s.clock with reelDue := false }
  refine completes_intro (exec_serving hs rfl (if_neg (by simp [he, hr]))) ?_
  dsimp only
  generalize ({ s with clock := { s.clock with reelDue := false } } : State) = a at ha
  have hb : ((((((a.refreshSheet.reelCounts).applyPending 2).reelTimes.reelReferences).gnssReel i.lines).reelServing)).tick = a.tick := by simp
  rw [← ha, ← hb, settleRegister_tick, State.darkroomReel_tick]
  exact foldl_tick _ _ _ fun u x => State.checkChannel_tick ..

end Sys2Proof.Machine

namespace Sys2Proof.Proofs
open Sys2Proof Sys2Proof.Machine

/-- Settles O57: the engine cycle by the place of the cycle, the invariant by the four clocks, the boundaries by what is due. -/
theorem boundariesCountExposuresAndReels : Obligations.BoundariesCountExposuresAndReels := by
  refine ⟨fun s hs => ?_, fun s t hdue h => ?_, fun s r i => ⟨fun hs hdue hgate => ?_, fun hs hdue => ?_, fun hs he hr => ?_, fun hs h => ?_,
    fun hphase hreset h0 => ?_, fun hreset => ?_, fun h => ?_⟩⟩
  · by_cases hheld : s.time.gate = true ∨ s.clock.exposureDue = true ∨ s.clock.reelDue = true
    · refine completes_intro (exec_engineCycle_held (serving_at hs) hheld) ⟨fun _ => rfl, fun he hr hg => ?_⟩
      simp [he, hr, hg] at hheld
    · simp only [not_or, Bool.not_eq_true] at hheld
      obtain ⟨hg, he, hr⟩ := hheld
      refine completes_intro (exec_engineCycle_open (serving_at hs) hg he hr) ⟨fun h => by simp [hg, he, hr] at h, fun _ _ _ => ?_⟩
      rw [s.nextCycle_clock]
      exact ⟨Clock.next_inside, Clock.next_exposure, Clock.next_reel⟩
  · rcases step_clock h with hc | hc
    · rw [hc]; exact hdue
    · exact hc.dueInPlace hdue
  · obtain ⟨t, ht, htick⟩ := exec_exposureBoundary_due r hs hdue hgate
    exact ⟨t, ht, (tick_rest htick).1, congrArg Prod.fst (tick_rest htick).2⟩
  · exact exec_exposureBoundary_done r hs hdue
  · obtain ⟨t, ht, htick⟩ := exec_reelBoundary_due i hs he hr
    exact ⟨t, ht, (tick_rest htick).1, congrArg Prod.fst (tick_rest htick).2⟩
  · exact exec_reelBoundary_held i hs h
  · exact turns_of (exec_exposureBoundary_before r hphase hreset h0) rfl (objects_of_objs rfl) (keeps_faults s _)
  · exact exec_exposureBoundary_reset r hreset
  · exact exec_reelBoundary_before i h

end Sys2Proof.Proofs
end

section
/-! PROOF. The copy of a persistent value to section A of the darkroom (R84, R439), and what an engine cycle leads every time base to (R99). -/

namespace Sys2Proof.Machine

variable {s : State}

/-! ### Every time base advances -/

/-- A base that has advanced by its increment. -/
def State.advanced (s : State) (n : Nat) : TimeBase := { s.base n with value := (s.base n).value + s.increment n, prev := (s.base n).value }

theorem touches_advanceBases (s : State) : Touches [.time] [] s s.advanceBases := touches_foldl (fun u n => touches_setBase u n _) _ s

/-- A fold over bases that are not repeated advances each of them once. -/
theorem State.base_foldl_advanceBase {l : List Nat} (hl : l.Nodup) (s : State) (n : Nat) :
    (l.foldl State.advanceBase s).base n = if n ∈ l then s.advanced n else s.base n := by
  induction l generalizing s with
  | nil => simp
  | cons m l ih =>
    obtain ⟨hm, hl⟩ := List.nodup_cons.1 hl
    have hself : (s.advanceBase m).base m = s.advanced m := State.base_setBase_self ..
    have hother (h : n ≠ m) : (s.advanceBase m).base n = s.base n := (State.base_setBase ..).trans (if_neg h)
    rw [List.foldl_cons, ih hl]
    by_cases hn : n = m
    · subst hn
      rw [if_neg hm, if_pos List.mem_cons_self, hself]
    · have hinc : (s.advanceBase m).advanced n = s.advanced n := by rw [State.advanced, hother hn]; rfl
      simp [hn, hinc, hother hn]

theorem State.base_advanceBases (s : State) (n : Nat) : s.advanceBases.base n = if n < 32 then s.advanced n else s.base n := by
  simp [State.advanceBases, State.base_foldl_advanceBase List.nodup_range]

theorem touches_advanceDcos (s : State) : Touches [.synth] [] s s.advanceDcos :=
  touches_foldl (fun u d => by split; exacts [touches_setDpll .., .refl u]) _ s

theorem State.nextCycle_inside (h : s.clock.cycle < 999999) (ht : s.clock.cycle + 1 ≠ tableSlot) :
    s.nextCycle = { s.advanceBases.advanceDcos with clock := { s.clock with cycle := s.clock.cycle + 1 } } := by
  have ha : s.advanceBases.advanceDcos.clock = s.clock := tick_clock (by simp)
  unfold State.nextCycle
  dsimp only
  rw [ha, Clock.next_inside h, if_neg ht]

/-! ### A copy to section A -/

theorem touches_storeWrite (s : State) : Touches [.objs] [okey 0 0 0x2020 5, okey 0 0 0x2020 6] s s.storeWrite :=
  ((touches_bump s 0x2020 5).andThen (touches_setObj _ 0x2020 6 _)).mono (by decide) (List.Subset.refl _)

theorem State.storeWrite_writes (s : State) : s.storeWrite.obj 0x2020 5 = (s.obj 0x2020 5 + 1) % 2 ^ 32 := by
  rw [State.storeWrite, obj_setObj, if_neg (by decide), obj_bump, if_pos rfl]

theorem State.storeKey_sectionA {k : Nat} (h : sectionOf k = 1) (s : State) : s.storeKey k = { s with darkroom := { s.darkroom with
    secA := s.darkroom.secA.put noneOf k (if s.objKey k = s.storeDefault k then none else some (s.objKey k)) } } := by
  simp [State.storeKey, h]

/-- A copy that is due and is no longer waited for. -/
def State.copyTaken (s : State) (k : Nat) : State := { s with mgmt := { s.mgmt with copies := s.mgmt.copies.filter (· ≠ k) } }

theorem State.copyTaken_not_mem (s : State) (k : Nat) : k ∉ (s.copyTaken k).mgmt.copies := by simp [State.copyTaken]

theorem touches_copyTaken (s : State) (k : Nat) : Touches [.mgmt] [] s (s.copyTaken k) := touches_mgmt s _

theorem exec_persistenceCopy_made {index sub item : Nat} (hr : s.boot.inReset = false) (hk : okey 0 item index sub ∈ s.mgmt.copies)
    (hroot : index ≠ 0x2A04) (hfit : s.copyFits (okey 0 item index sub) = true) :
    exec (.persistenceCopy index sub item true) s =
      .next ((s.copyTaken (okey 0 item index sub)).storeKey (okey 0 item index sub)).storeWrite := by
  change execPersistenceCopy index sub item true s = _
  simp [execPersistenceCopy, hr, hk, hroot, hfit, State.copyTaken]

theorem exec_persistenceCopy_failed {index sub item : Nat} (hr : s.boot.inReset = false) (hk : okey 0 item index sub ∈ s.mgmt.copies) :
    exec (.persistenceCopy index sub item false) s =
      .next (((s.copyTaken (okey 0 item index sub)).bump 0x2004 6).emcy 0xFF01 0xFF (index * 2 ^ 16 + sub * 2 ^ 8)) := by
  change execPersistenceCopy index sub item false s = _
  simp [execPersistenceCopy, hr, hk, State.copyTaken]

end Sys2Proof.Machine

namespace Sys2Proof.Proofs
open Sys2Proof Sys2Proof.Machine

/-- Settles O17: the copy as it is made or fails, and the engine cycle inside an exposure. -/
theorem persistenceCopiesAndEngineCycles : Obligations.PersistenceCopiesAndEngineCycles := by
  refine fun s hr => ⟨fun index sub item hk hroot hsec => ⟨fun hfit => ?_, ?_⟩, fun hp hc ht => ⟨fun hg he hrl => ?_, fun h => ?_⟩⟩
  · have hstore := State.storeKey_sectionA hsec (s.copyTaken (okey 0 item index sub))
    have htouch := ((touches_copyTaken s _).andThen ((hstore ▸ touches_darkroom _ _ :
      Touches [.darkroom] [] _ ((s.copyTaken _).storeKey (okey 0 item index sub))).andThen (touches_storeWrite _))).mono
      (parts' := [.mgmt, .objs, .darkroom]) (by decide) (List.Subset.refl _)
    refine completes_intro (exec_persistenceCopy_made hr hk hroot hfit) ⟨?_, ?_, ?_, htouch.objects, htouch.frame⟩
    · rw [show (State.storeWrite _).darkroom = _ from (touches_storeWrite _).frame .darkroom (by decide), hstore]
      exact Table.look_put_self ..
    · rw [show (State.storeWrite _).mgmt = _ from (touches_storeWrite _).frame .mgmt (by decide), hstore]
      exact s.copyTaken_not_mem _
    · rw [State.storeWrite_writes, hstore]; rfl
  · have htouch := ((touches_copyTaken s (okey 0 item index sub)).andThen ((touches_bump _ 0x2004 6).andThen
      (touches_emcy _ 0xFF01 0xFF (index * 2 ^ 16 + sub * 2 ^ 8)))).mono (parts' := [.mgmt, .objs]) (by decide) (List.Subset.refl _)
    refine completes_intro (exec_persistenceCopy_failed hr hk) ⟨?_, ?_, htouch.objects, htouch.frame⟩
    · rw [(touches_emcy ..).obj (by decide), obj_bump, if_pos rfl]; rfl
    · simpa using s.copyTaken_not_mem (okey 0 item index sub)
  · have htouch := ((touches_advanceBases s).andThen (touches_advanceDcos _)).andThen (touches_clock _ { s.clock with cycle := s.clock.cycle + 1 })
    refine completes_intro (exec_engineCycle_open (serving_of hp hr) hg he hrl) ?_
    rw [State.nextCycle_inside hc ht]
    refine ⟨rfl, fun n => ?_, ?_, (htouch.mono (by decide) (List.Subset.refl _)).frame⟩
    · exact (State.base_congr (s := s.advanceBases) ((touches_advanceDcos _).frame .time (by decide)) n).trans (s.base_advanceBases n)
    · exact ((touches_advanceDcos _).frame .objs (by decide)).trans ((touches_advanceBases s).frame .objs (by decide))
  · exact exec_engineCycle_held (serving_of hp hr) h

end Sys2Proof.Proofs
end

section
/-! PROOF. What the block does with nothing commanded (log 2): the CAN controller sends at most one frame, and its hold or its list is shorter by it. -/

namespace Sys2Proof.Machine

variable {s : State}

/-- A frame sent, with what is left in the hold and in the list of the other frames. -/
def State.sent (s : State) (hold tx : List OutFrame) (f : OutFrame) : State :=
  { s with mgmt := { s.mgmt with emcyHold := hold, canTx := tx, canSent := some ⟨f.busOrder, true, s.mgmt.bitRate, f.dataField⟩ } }

theorem touches_sent (s : State) (hold tx : List OutFrame) (f : OutFrame) : Touches [.mgmt] [] s (s.sent hold tx f) := touches_mgmt s _

theorem touches_reportLost (s : State) : Touches [.mgmt, .objs] [lostKey] s s.reportLost := by
  unfold State.reportLost
  split
  · exact ((touches_mgmt s _).andThen (touches_emcy _ 0xFF00 0xFF s.mgmt.lost)).mono (by decide) (List.Subset.refl _)
  · exact .refl s

theorem State.reportLost_none (h : s.mgmt.lost = 0) : s.reportLost = s := if_neg (by simp [h])

/-! ### Which frame, by the state of the controller and of the node -/

theorem State.idle_silent (h : s.mgmt.canState = 2 ∨ s.mgmt.nmt = 0) : s.idle = s := if_pos h

theorem State.idle_stopped (hc : s.mgmt.canState ≠ 2) (hn : s.mgmt.nmt = 4) : s.idle = match s.mgmt.canTx.find? OutFrame.isHeartbeat with
    | none => s
    | some f => s.sent s.mgmt.emcyHold (dropHeartbeat s.mgmt.canTx) f := by
  rw [State.idle, if_neg (by simp [hc, hn]), if_pos hn]
  rfl

/-- Outside Stopped the head of the hold and the head of the list compete by their identifiers. -/
theorem State.idle_running (hc : s.mgmt.canState ≠ 2) (h0 : s.mgmt.nmt ≠ 0) (h4 : s.mgmt.nmt ≠ 4) :
    s.idle = match s.mgmt.emcyHold.head?, s.mgmt.canTx.head? with
      | none, none => s
      | none, some f => s.sent s.mgmt.emcyHold (s.mgmt.canTx.drop 1) f
      | some e, none => (s.sent (s.mgmt.emcyHold.drop 1) s.mgmt.canTx e).reportLost
      | some e, some f => if e.busOrder ≤ f.busOrder then (s.sent (s.mgmt.emcyHold.drop 1) s.mgmt.canTx e).reportLost
          else s.sent s.mgmt.emcyHold (s.mgmt.canTx.drop 1) f := by
  rw [State.idle, if_neg (by simp [hc, h0]), if_neg h4]
  rfl

theorem touches_idle (s : State) : Touches [.mgmt, .objs] [lostKey] s s.idle := by
  have hsent (hold tx : List OutFrame) (f : OutFrame) : Touches [.mgmt, .objs] [lostKey] s (s.sent hold tx f) :=
    (touches_sent s hold tx f).mono (by decide) (by simp)
  have hlost (hold tx : List OutFrame) (f : OutFrame) : Touches [.mgmt, .objs] [lostKey] s (s.sent hold tx f).reportLost :=
    (hsent hold tx f).trans (touches_reportLost _)
  by_cases hquiet : s.mgmt.canState = 2 ∨ s.mgmt.nmt = 0
  · rw [State.idle_silent hquiet]; exact .refl s
  · obtain ⟨hc, h0⟩ := not_or.1 hquiet
    by_cases h4 : s.mgmt.nmt = 4
    · rw [State.idle_stopped hc h4]
      split
      · exact .refl s
      · exact hsent ..
    · rw [State.idle_running hc h0 h4]
      split
      · exact .refl s
      · exact hsent ..
      · exact hlost ..
      · split
        · exact hlost ..
        · exact hsent ..

theorem dropHeartbeat_append {a m : List OutFrame} {f : OutFrame} (ha : ∀ g ∈ a, g.isHeartbeat = false) (hf : f.isHeartbeat = true) :
    dropHeartbeat (a ++ f :: m) = a ++ m := by
  induction a with
  | nil => simp [dropHeartbeat, hf]
  | cons g a ih =>
    obtain ⟨hg, ha⟩ := List.forall_mem_cons.1 ha
    simp [dropHeartbeat, hg, ih ha]

theorem find_heartbeat_append {a m : List OutFrame} {f : OutFrame} (ha : ∀ g ∈ a, g.isHeartbeat = false) (hf : f.isHeartbeat = true) :
    (a ++ f :: m).find? OutFrame.isHeartbeat = some f := by
  rw [List.find?_append, List.find?_eq_none.2 (by simpa using ha), List.find?_cons_of_pos hf]
  rfl

end Sys2Proof.Machine

namespace Sys2Proof.Proofs
open Sys2Proof Sys2Proof.Machine

/-- Settles O1: `step` is `exec` on the queue's rest. -/
theorem aStepRunsTheFrontCommand : Obligations.AStepRunsTheFrontCommand := fun _ _ => rfl

/-- Settles O5: the state at reset is written out in the model. -/
theorem resetHoldsTheClockAtZero : Obligations.ResetHoldsTheClockAtZero := by
  unfold Obligations.ResetHoldsTheClockAtZero
  decide

/-- Settles O2: the frame is chosen by the states of the controller and the node and by the heads of the two lists. -/
theorem withNothingCommandedOneFrameIsSent : Obligations.WithNothingCommandedOneFrameIsSent := by
  intro s hp
  have htouch := touches_idle s
  refine ⟨s.idle, by rw [step, hp], (htouch.frame .pending (by decide)).trans hp, htouch.objects, htouch.frame, State.idle_silent, ?_, ?_, ?_, ?_, ?_, ?_⟩
  · intro he ht
    by_cases hquiet : s.mgmt.canState = 2 ∨ s.mgmt.nmt = 0
    · exact State.idle_silent hquiet
    · obtain ⟨hc, h0⟩ := not_or.1 hquiet
      by_cases h4 : s.mgmt.nmt = 4
      · rw [State.idle_stopped hc h4, ht]; rfl
      · rw [State.idle_running hc h0 h4, he, ht]; rfl
  · intro f m hc h0 h4 he ht
    rw [State.idle_running hc h0 h4, he, ht]; simp [State.sent, he]
  · intro e l f m hc h0 h4 he ht hlt
    rw [State.idle_running hc h0 h4, he, ht]; simp [State.sent, he, Nat.not_le.2 hlt]
  · intro e l hc h0 h4 he hle hlost
    have hsent : s.idle = (s.sent l s.mgmt.canTx e).reportLost := by
      rw [State.idle_running hc h0 h4, he]
      cases ht : s.mgmt.canTx with
      | nil => rfl
      | cons f m => exact if_pos (hle f m ht)
    rw [hsent, State.reportLost_none (s := s.sent l s.mgmt.canTx e) hlost]
    exact ⟨rfl, rfl⟩
  · intro h4 hno
    by_cases hc : s.mgmt.canState = 2
    · exact State.idle_silent (.inl hc)
    · rw [State.idle_stopped hc h4, List.find?_eq_none.2 (by simpa using hno)]
  · intro a f m hc h4 ht ha hf
    rw [State.idle_stopped hc h4, ht, find_heartbeat_append ha hf, dropHeartbeat_append ha hf]
    rfl

end Sys2Proof.Proofs
end

section
/-! PROOF. Loading a plan and scheduling its swap (R62, R63, R66, R70), and the wake controller's steps (R30, R48, R49). -/

namespace Sys2Proof.Machine

variable {s : State} {image : Octets} {second : Nat} {p : Plan}

/-! ### Loading -/

/-- The state in which a downloaded image waits for its check. -/
def State.imageLoaded (s : State) (image : Octets) : State :=
  ({ s with plans := { s.plans with status := 2, image := image, revokedAtStart := s.boot.revoked, pendingId := 0, swapReel := 0 } } : State).setBank
    (1 - s.plans.active) none

theorem planDownloadOp_of_fits (hlatch : s.plans.latched = false) (hlen : image.length ≤ 4194304) :
    planDownloadOp image s = (s.imageLoaded image, none) := by
  rw [planDownloadOp, if_neg (by simp [hlatch]), if_neg (by omega)]
  rfl

theorem touches_setBank (s : State) (n : Nat) (x : Option Plan) : Touches [.plans] [] s (s.setBank n x) := touches_plans s _

theorem touches_imageLoaded (s : State) (image : Octets) : Touches [.plans] [] s (s.imageLoaded image) := touches_plans s _

/-- A write of the other bank leaves the plan in force. -/
theorem State.plan_setBank_other (s : State) (x : Option Plan) : (s.setBank (1 - s.plans.active) x).plan = s.plan := by
  have hother : s.plans.active ≠ 1 - s.plans.active := by omega
  exact congrArg (Option.getD · {}) ((State.bank_setBank ..).trans (if_neg hother))

/-! ### The check -/

/-- The outcome of a check as it is taken, with the revocations of its start. -/
def State.checkOutcome (s : State) : Option (Nat × Nat × Nat) :=
  ({ s with boot := { s.boot with revoked := s.plans.revokedAtStart } } : State).checkPlan s.plans.image

/-- A check that found a violation records it. -/
def State.checkRefused (s : State) (code row slot : Nat) : State :=
  { s with plans := { s.plans with image := [], status := 4, lastCode := code, failRow := row, failSlot := slot } }

/-- A check that found none leaves the plan in the other bank with its peak power. -/
def State.checkPassed (s : State) : State :=
  ({ s with plans := { s.plans with image := [], status := 3, pendingId := (parsePlan s.plans.image).identifier } } : State).setBank
    (1 - s.plans.active) (some { parsePlan s.plans.image with peak := (parsePlan s.plans.image).peakPower })

theorem State.finishCheck_eq (s : State) : s.finishCheck = match s.checkOutcome with
    | some (code, row, slot) => (s.checkRefused code row slot).emcy 0xFF21 0xFF code
    | none => s.checkPassed.emcy 0xFF20 0xFF 0 := rfl

theorem exec_planCheckComplete (hs : InService s) (h : s.plans.status = 2) : exec .planCheckComplete s = .next s.finishCheck :=
  exec_serving hs rfl (if_pos h)

/-- The plan that waits once a check has passed is the one checked. -/
theorem State.waitingPlan_checkPassed (s : State) :
    s.checkPassed.waitingPlan = some { parsePlan s.plans.image with peak := (parsePlan s.plans.image).peakPower } :=
  (if_pos (.inl rfl)).trans (State.bank_setBank_self ..)

/-! ### Scheduling -/

theorem swapRequestOp_of_checked (hlatch : s.plans.latched = false) (hp : s.waitingPlan = some p) (hcool : s.tooHot p = false)
    (hsecond : second = 0 ∨ s.earliestSwap ≤ second) : swapRequestOp second s =
      .ok { s with plans := { s.plans with status := 5, swapReel := if second = 0 then s.earliestSwap else second } } := by
  have hreach : ¬ (if second = 0 then s.earliestSwap else second) < s.earliestSwap := by split <;> omega
  rw [swapRequestOp, if_neg (by simp [hlatch]), hp]
  dsimp only
  rw [if_neg hreach, if_neg (by simp [hcool])]

theorem cancelSwapOp_of_scheduled (hlatch : s.plans.latched = false) (h : s.plans.status = 5) :
    cancelSwapOp 1 s = .ok { s with plans := { s.plans with status := 3, swapReel := 0 } } := by
  rw [cancelSwapOp, if_neg (by decide), if_neg (by simp [hlatch]), if_pos h]

/-! ### Wakes and sleeps -/

theorem State.wakeNow_asleep {cls idx : Nat} (hc : cls < 5) (h : (s.domain cls idx).awake = false) :
    s.wakeNow cls idx = s.setDomain cls idx { s.domain cls idx with awake := true, readyAt := s.now + s.wakeCycles cls idx } := by
  rw [State.wakeNow, if_neg (by omega), State.wakeDomain, if_neg (by simp [h]), if_neg (by omega)]

theorem State.sleepNow_awake {cls idx : Nat} {b : Bool} (hc : cls < 5) (h : (s.domain cls idx).awake = true) :
    s.sleepNow cls idx b = s.setDomain cls idx { s.domain cls idx with awake := false, sleptAt := s.now + 64 * sleepSlots cls } := by
  rw [State.sleepNow, if_neg (by omega), State.sleepDomain, if_neg (by simp [h]), if_neg (by omega)]

theorem exec_wake {x : PlanStep} (hs : InService s) (hx : s.stepNow 6 0 0x50 = some x)
    (hmay : s.mayWake (field x.operand 31 24) (field x.operand 23 16) = true) :
    exec .wake s = .next (s.wakeNow (field x.operand 31 24) (field x.operand 23 16)) := by
  refine exec_serving hs rfl ?_
  dsimp only
  rw [hx]
  exact if_pos hmay

/-- Whether a latched swap wants a domain awake. -/
def State.keptAwake (s : State) (cls idx : Nat) : Bool :=
  s.plans.entryWoken && !s.plans.swapped && (match s.waitingPlan with | none => false | some p => p.entryAwake cls idx)

theorem exec_sleep {x : PlanStep} (hs : InService s) (hx : s.stepNow 6 0 0x51 = some x) :
    exec .sleep s = .next (if s.keptAwake (field x.operand 31 24) (field x.operand 23 16) then s
      else s.sleepNow (field x.operand 31 24) (field x.operand 23 16) true) := by
  refine exec_serving hs rfl ?_
  dsimp only
  rw [hx]
  rfl

end Sys2Proof.Machine

namespace Sys2Proof.Proofs
open Sys2Proof Sys2Proof.Machine

/-- Settles O8: the download, the two outcomes of the check, the request and its cancellation. -/
theorem plansAreLoadedCheckedAndScheduled : Obligations.PlansAreLoadedCheckedAndScheduled := by
  intro s tr hs hlatch
  have hgate (j : Nat) : s.gate 0x2100 j = none := gate_at hs _ _ (by decide) (by decide) (by decide)
  have hanswer (u : State) (r : UsdoResponse) (h : Touches [.plans] [] s u) :
      Touches [.mgmt, .objs, .twin, .plans] [servedKey, lostKey] s (u.respond tr r) :=
    (h.andThen (touches_respond u tr r)).mono (by decide) (List.Subset.refl _)
  refine ⟨fun image hlen => ?_, fun c hstatus hc => ?_, fun p second hp hcool hsecond => ?_, fun hstatus => ?_⟩
  · have ht := hanswer _ (.downloaded 0x2100 1) (touches_imageLoaded s image)
    refine completes_intro (exec_next_of rfl (State.commandA_accepted (listens_at hs) (hgate 1) (planDownloadOp_of_fits hlatch hlen)))
      ⟨?_, ?_, ?_, ?_, ?_, ?_, ht.objects, ht.frame⟩
    · rw [State.respond_plans]; rfl
    · rw [State.respond_plans]; rfl
    · rw [State.respond_plans]; rfl
    · rw [State.respond_plans]; rfl
    · exact (State.bank_congr (State.respond_plans ..) _).trans (State.bank_setBank_self ..)
    · rw [State.plan_congr (State.respond_plans ..)]
      exact State.plan_setBank_other { s with plans := { s.plans with status := 2, image := image, revokedAtStart := s.boot.revoked, pendingId := 0, swapReel := 0 } } none
  · have ht (u : State) (c d : Nat) (h : Touches [.plans] [] s u) : Touches [.mgmt, .objs, .plans] [lostKey] s (u.emcy c 0xFF d) :=
      (h.andThen (touches_emcy u c 0xFF d)).mono (by decide) (List.Subset.refl _)
    have hexec := exec_planCheckComplete hs hstatus
    rw [s.finishCheck_eq, show s.checkOutcome = c from hc] at hexec
    match c, hexec with
    | some (code, row, slot), hexec =>
      have htouch := ht (s.checkRefused code row slot) 0xFF21 code (touches_plans s _)
      refine completes_intro hexec ⟨?_, by rw [State.emcy_plans]; rfl, htouch.objects, htouch.frame⟩
      simp [State.checkRefused]
    | none, hexec =>
      have htouch := ht s.checkPassed 0xFF20 0 (touches_plans s _)
      refine completes_intro hexec ⟨⟨by rw [State.emcy_plans]; rfl, by rw [State.emcy_plans]; rfl, ?_⟩, by rw [State.emcy_plans]; rfl, htouch.objects, htouch.frame⟩
      rw [State.waitingPlan_congr (State.emcy_plans ..), s.waitingPlan_checkPassed]
  · have ht := hanswer _ (.downloaded 0x2100 6) (touches_plans s { s.plans with status := 5, swapReel := if second = 0 then s.earliestSwap else second })
    refine completes_intro (exec_confirmed rfl (listens_at hs) (hgate 6) (swapRequestOp_of_checked hlatch hp hcool hsecond)) ⟨?_, ?_, ?_, ht.objects, ht.frame⟩
    all_goals rw [State.respond_plans]
  · have ht := hanswer _ (.downloaded 0x2100 0x0B) (touches_plans s { s.plans with status := 3, swapReel := 0 })
    refine completes_intro (exec_confirmed rfl (listens_at hs) (hgate 0x0B) (cancelSwapOp_of_scheduled hlatch hstatus)) ⟨?_, ?_, ?_, ht.objects, ht.frame⟩
    all_goals rw [State.respond_plans]

/-- Settles O10: below class 5 a wake or a sleep is a change of its domain alone. -/
theorem domainsWakeAndSleepByStep : Obligations.DomainsWakeAndSleepByStep := by
  rintro s x cls idx hs rfl rfl hc
  refine ⟨fun hx hmay hasleep => ?_, fun hx hwoken hawake => ?_, fun hx hwoken hswapped hentry hsome => ?_⟩
  · rw [exec_wake hs hx hmay, State.wakeNow_asleep hc hasleep]
  · rw [exec_sleep hs hx, if_neg (by simp [State.keptAwake, hwoken]), State.sleepNow_awake hc hawake]
  · obtain ⟨p, hp⟩ := Option.isSome_iff_exists.1 hsome
    rw [exec_sleep hs hx, if_pos (by simp [State.keptAwake, hwoken, hswapped, hp, hentry p hp])]

end Sys2Proof.Proofs
end

section
/-! PROOF. The swap in its four steps (R66, R67, R71). The wakes and sleeps of its domains leave the rest of the plan's state. -/

namespace Sys2Proof.Machine

variable {s t u : State} {p : Plan}

/-! ### Updates of the domains alone -/

/-- Of the plan's state only the domains may differ. -/
def DomainsOnly (s t : State) : Prop := t.plans = { s.plans with domains := t.plans.domains }

theorem domainsOnly_of_plans (h : t.plans = s.plans) : DomainsOnly s t := by rw [DomainsOnly, h]

theorem DomainsOnly.trans (h : DomainsOnly s t) (g : DomainsOnly t u) : DomainsOnly s u := by
  unfold DomainsOnly at *
  rw [g, h]

theorem domainsOnly_foldl {α : Type} {f : State → α → State} (h : ∀ s a, DomainsOnly s (f s a)) (l : List α) (s : State) :
    DomainsOnly s (l.foldl f s) := by
  induction l generalizing s with
  | nil => exact domainsOnly_of_plans rfl
  | cons a l ih => exact (h s a).trans (ih _)

theorem Touches.domainsOnly {parts : List Part} {keys : List Nat} (h : Touches parts keys s t) (hp : .plans ∉ parts) : DomainsOnly s t :=
  domainsOnly_of_plans (h.frame .plans hp)

theorem State.domain_setDomain (s : State) (c i c' i' : Nat) (x : Domain) :
    (s.setDomain c i x).domain c' i' = if domainKey c' i' = domainKey c i then x else s.domain c' i' := Table.look_put ..

/-! ### A media port by its domain -/

theorem touches_mediaSilence (s : State) (m : Nat) : Touches [.media] [] s (s.mediaSilence m) := touches_foldl (fun u _ => touches_setMchannel u _ _) _ s

theorem touches_mediaStart (s : State) (m : Nat) : Touches [.media] [] s (s.mediaStart m) := by
  refine (touches_setMport s m _).trans (touches_foldl (fun u c => ?_) _ _)
  dsimp only
  split
  · exact touches_setMchannel ..
  · exact .refl u

theorem touches_mediaRefresh (s : State) (m : Nat) : Touches [.media] [] s (s.mediaRefresh m) := by
  unfold State.mediaRefresh
  dsimp only
  split
  · split
    · exact .refl s
    · exact (touches_setMport s m _).trans (touches_mediaSilence _ m)
  · split
    · split
      · exact .refl s
      · exact (touches_setMport s m _).trans (touches_mediaSilence _ m)
    · split
      · exact touches_mediaStart s m
      · exact .refl s

/-! ### Wakes -/

/-- From `s` to `t` domains have been woken: none is put to sleep, and nothing but the domains, the lanes and the media ports differs. -/
structure Wakes (s t : State) : Prop where
  touches : Touches [.plans, .ports, .media] [] s t
  domains : DomainsOnly s t
  awake : ∀ c i, (s.domain c i).awake = true → (t.domain c i).awake = true

theorem Wakes.refl (s : State) : Wakes s s := ⟨.refl s, domainsOnly_of_plans rfl, fun _ _ h => h⟩

theorem Wakes.trans (h : Wakes s t) (g : Wakes t u) : Wakes s u :=
  ⟨h.touches.trans g.touches, h.domains.trans g.domains, fun c i hc => g.awake c i (h.awake c i hc)⟩

/-- An update that leaves the plan's state wakes nothing. -/
theorem wakes_of_touches {parts : List Part} (h : Touches parts [] s t) (hp : .plans ∉ parts) (hs : parts ⊆ [.plans, .ports, .media]) : Wakes s t :=
  ⟨h.mono hs (List.Subset.refl _), h.domainsOnly hp, fun c i hc => by rw [State.domain_congr (h.frame .plans hp)]; exact hc⟩

theorem wakes_setDomain (s : State) (c i : Nat) {x : Domain} (hx : x.awake = true) : Wakes s (s.setDomain c i x) := by
  refine ⟨(touches_setDomain s c i x).mono (by decide) (List.Subset.refl _), rfl, fun c' i' h => ?_⟩
  rw [State.domain_setDomain]
  split
  · exact hx
  · exact h

/-- A lane leaves LPI. -/
def State.leaveLpi (s : State) (n : Nat) : State := { s with ports := s.ports.put (fun _ => {}) n { s.ports.look (fun _ => {}) n with lpi := false } }

theorem touches_leaveLpi (s : State) (n : Nat) : Touches [.ports] [] s (s.leaveLpi n) := touches_ports s _

theorem wakes_wakeDomain (s : State) (c i : Nat) : Wakes s (s.wakeDomain c i) ∧ ((s.wakeDomain c i).domain c i).awake = true := by
  unfold State.wakeDomain
  dsimp only
  split
  · next h => exact ⟨.refl s, (Bool.and_eq_true_iff.1 h).1⟩
  · have hset := wakes_setDomain s c i (x := { s.domain c i with awake := true, readyAt := s.now + s.wakeCycles c i }) rfl
    have hself : ((s.setDomain c i { s.domain c i with awake := true, readyAt := s.now + s.wakeCycles c i }).domain c i).awake = true := by
      rw [State.domain_setDomain_self]
    split
    · have hlanes := wakes_of_touches (touches_foldl touches_leaveLpi [i, i + 12]
        (s.setDomain c i { s.domain c i with awake := true, readyAt := s.now + s.wakeCycles c i })) (by decide) (by decide)
      exact ⟨hset.trans hlanes, hlanes.awake c i hself⟩
    · exact ⟨hset, hself⟩

theorem wakes_wakeNow (s : State) (c i : Nat) : Wakes s (s.wakeNow c i) ∧ ((s.wakeNow c i).domain c i).awake = true := by
  obtain ⟨hwake, hself⟩ := wakes_wakeDomain s c i
  unfold State.wakeNow
  dsimp only
  split
  · have hmedia := wakes_of_touches (touches_mediaRefresh (s.wakeDomain c i) i) (by decide) (by decide)
    exact ⟨hwake.trans hmedia, hmedia.awake c i hself⟩
  · exact ⟨hwake, hself⟩

theorem Wakes.mayWake (h : Wakes s t) (c i : Nat) : t.mayWake c i = s.mayWake c i := by
  have hf : t.faults = s.faults := h.touches.frame .faults (by decide)
  have ho (j k : Nat) : t.obj j k = s.obj j k := obj_of_objs (h.touches.frame .objs (by decide)) j k
  simp [State.mayWake, hf, ho, State.mediaUnit]

/-- One domain of the entry set wakes if it may. -/
def State.entryWake (p : Plan) (s : State) (d : Nat × Nat) : State := if p.entryAwake d.1 d.2 && s.mayWake d.1 d.2 then s.wakeNow d.1 d.2 else s

theorem wakes_entryWake (p : Plan) (s : State) (d : Nat × Nat) : Wakes s (s.entryWake p d) := by
  unfold State.entryWake
  split
  · exact (wakes_wakeNow s d.1 d.2).1
  · exact .refl s

/-- Every domain of the list that the plan wants awake and that may wake is awake after the list. -/
theorem wakes_entryWakes (p : Plan) (l : List (Nat × Nat)) (s : State) : Wakes s (l.foldl (State.entryWake p) s) ∧
    ∀ d ∈ l, p.entryAwake d.1 d.2 = true → s.mayWake d.1 d.2 = true → ((l.foldl (State.entryWake p) s).domain d.1 d.2).awake = true := by
  induction l generalizing s with
  | nil => exact ⟨.refl s, nofun⟩
  | cons d l ih =>
    obtain ⟨hrest, hin⟩ := ih (s.entryWake p d)
    have hd := wakes_entryWake p s d
    refine ⟨hd.trans hrest, List.forall_mem_cons.2 ⟨fun hp hm => ?_, fun e he hp hm => hin e he hp (by rw [hd.mayWake]; exact hm)⟩⟩
    refine hrest.awake _ _ ?_
    rw [State.entryWake, if_pos (by simp [hp, hm])]
    exact (wakes_wakeNow s d.1 d.2).2

/-! ### Sleeps, and what a swap does to requests, grants and channels -/

theorem domainsOnly_sleepDomain (s : State) (c i : Nat) : DomainsOnly s (s.sleepDomain c i) := by
  unfold State.sleepDomain
  dsimp only
  split
  · exact domainsOnly_of_plans rfl
  · split
    · exact (show DomainsOnly s (s.setDomain c i _) from rfl).trans ((touches_mediaRefresh _ i).domainsOnly (by decide))
    · rfl

theorem domainsOnly_sleepLanes (s : State) (pos : Nat) (b : Bool) : DomainsOnly s (s.sleepLanes pos b) := by
  unfold State.sleepLanes
  split
  · exact domainsOnly_of_plans rfl
  · have hlanes : DomainsOnly s (s.running.foldl (fun (s : State) p =>
        let n := pos + 12 * p
        if s.laneDeep n then s.setPort n { s.port n with lpi := true } else if b then s.bumpP p 0x2102 7 else s) s) := by
      refine domainsOnly_foldl (fun u p => ?_) _ s
      dsimp only
      split
      · rfl
      · split <;> rfl
    dsimp only
    split
    · exact hlanes.trans (domainsOnly_sleepDomain ..)
    · exact hlanes

theorem domainsOnly_sleepNow (s : State) (c i : Nat) (b : Bool) : DomainsOnly s (s.sleepNow c i b) := by
  unfold State.sleepNow
  split
  · exact domainsOnly_sleepLanes ..
  · exact domainsOnly_sleepDomain ..

/-- Thermal shedding as it is noted, before the groups sleep. -/
def State.sheddingNoted (s : State) (on : Bool) : State := { s with faults := { s.faults with shedding := on, coolExposures := 0 } }

theorem domainsOnly_setShedding (s : State) (on : Bool) : DomainsOnly s (s.setShedding on) := by
  have hnoted := (touches_faults s (s.sheddingNoted on).faults).domainsOnly (by decide)
  unfold State.setShedding
  split
  · exact domainsOnly_of_plans rfl
  · refine DomainsOnly.trans ?_ ((touches_report ..).domainsOnly (by decide))
    cases on with
    | false => exact hnoted
    | true =>
      exact (hnoted.trans ((touches_bump (s.sheddingNoted true) 0x2E02 5).domainsOnly (by decide))).trans
        (domainsOnly_foldl (fun u g => domainsOnly_sleepDomain u 1 g) [4, 5, 6, 7] _)

theorem State.setRequest_plans (s : State) (n : Nat) (r : Request) : (s.setRequest n r).plans = s.plans := by
  unfold State.setRequest
  dsimp only
  split <;> rfl

theorem State.rebind_plans (s : State) : s.rebind.plans = s.plans := by
  refine foldl_keep State.plans _ _ _ fun u n => ?_
  split
  · rfl
  · exact State.setRequest_plans ..

theorem State.shedGrants_plans (s : State) (pos fuel c : Nat) : (s.shedGrants pos fuel c).1.plans = s.plans := by
  induction fuel generalizing s c with
  | zero => rfl
  | succ fuel ih =>
    unfold State.shedGrants
    split
    · rfl
    · dsimp only
      split
      · rfl
      · exact ih ..

theorem State.cancelForCapacity_plans (s : State) : s.cancelForCapacity.plans = s.plans := by
  refine foldl_keep State.plans _ _ _ fun u pos => ?_
  have hshed := u.shedGrants_plans pos (3 * u.serve.records.length) 0
  generalize u.shedGrants pos (3 * u.serve.records.length) 0 = x at hshed
  dsimp only
  split
  · exact hshed
  · rw [State.emcy_plans]; exact hshed

theorem State.releaseBanks_plans (s : State) : s.releaseBanks.plans = s.plans := by
  refine foldl_keep State.plans _ _ _ fun u c => ?_
  dsimp only
  split
  · rfl
  · split <;> rfl

/-- The state in which the other bank is in force. -/
def State.banksTurned (s : State) : State := { s with plans := { s.plans with active := 1 - s.plans.active, swapped := true } }

/-- What a swap does after it has turned the banks. -/
def State.swapEffects (t : State) : State :=
  let u := if t.plan.variant = 1 then t.setShedding false else t
  ((allDomains.foldl (fun (s : State) d => if u.plan.entryAwake d.1 d.2 then s else s.sleepNow d.1 d.2 false) u).rebind.cancelForCapacity).releaseBanks

theorem domainsOnly_swapEffects (t : State) : DomainsOnly t t.swapEffects := by
  unfold State.swapEffects
  have hcool : DomainsOnly t (if t.plan.variant = 1 then t.setShedding false else t) := by
    split
    · exact domainsOnly_setShedding t false
    · exact domainsOnly_of_plans rfl
  generalize (if t.plan.variant = 1 then t.setShedding false else t) = u at hcool
  refine hcool.trans (DomainsOnly.trans ?_ (domainsOnly_of_plans ?_) (t := allDomains.foldl (fun (s : State) d => if u.plan.entryAwake d.1 d.2 then s else s.sleepNow d.1 d.2 false) u))
  · refine domainsOnly_foldl (fun v d => ?_) _ u
    split
    · exact domainsOnly_of_plans rfl
    · exact domainsOnly_sleepNow ..
  · rw [State.releaseBanks_plans, State.cancelForCapacity_plans, State.rebind_plans]

/-! ### The four steps -/

/-- A step of the swap of a plan that waits. -/
theorem exec_swapLatch_cool (hs : InService s) (hp : s.waitingPlan = some p) (hst : s.plans.status = 5) (hl : s.plans.latched = false)
    (h997 : s.atStartOf 997 = true) (hreel : s.plans.swapReel = s.nextReelSecond) (hcool : s.tooHot p = false) :
    exec .swapLatch s = .next { s with plans := { s.plans with latched := true, swapAt := s.clock.reel + 1 } } := by
  refine exec_serving hs rfl ?_
  dsimp only
  rw [hp]
  exact (if_neg (by simp [hst, hl, h997, hreel])).trans (if_neg (by simp [hcool]))

theorem exec_swapLatch_hot (hs : InService s) (hp : s.waitingPlan = some p) (hst : s.plans.status = 5) (hl : s.plans.latched = false)
    (h997 : s.atStartOf 997 = true) (hreel : s.plans.swapReel = s.nextReelSecond) (hhot : s.tooHot p = true) :
    exec .swapLatch s = .next (({ s with plans := { s.plans with status := 3, lastCode := 0x0A1E0046, swapReel := 0 } } : State).emcy 0xFF23 0xFF 0) := by
  refine exec_serving hs rfl ?_
  dsimp only
  rw [hp]
  exact (if_neg (by simp [hst, hl, h997, hreel])).trans (if_pos hhot)

theorem exec_swapEntryWake (hs : InService s) (hp : s.waitingPlan = some p) (hl : s.plans.latched = true) (hw : s.plans.entryWoken = false)
    (h999 : s.atStartOf 999 = true) (hat : s.plans.swapAt = s.clock.reel + 1) :
    exec .swapEntryWake s = .next (allDomains.foldl (State.entryWake p) { s with plans := { s.plans with entryWoken := true } }) := by
  refine exec_serving hs rfl ?_
  dsimp only
  rw [hp]
  exact if_pos (by simp [hl, hw, h999, hat])

theorem exec_planSwap (hs : InService s) (hl : s.plans.latched = true) (hw : s.plans.entryWoken = true) (hn : s.plans.swapped = false)
    (h0 : s.atStartOf 0 = true) (hat : s.clock.reel = s.plans.swapAt) : exec .planSwap s = .next s.banksTurned.swapEffects :=
  exec_serving hs rfl (if_neg (by simp [hl, hw, hn, h0, hat]))

/-- The state in which a swap has ended. -/
def State.swapEnded (s : State) : State :=
  let t := s.setBank (1 - s.plans.active) none
  { t with plans := { t.plans with status := 0, latched := false, entryWoken := false, swapped := false, swapReel := 0, pendingId := 0,
                                   activeId := t.plan.identifier } }

theorem exec_swapComplete (hs : InService s) (hn : s.plans.swapped = true) (h1 : s.atStartOf 1 = true) :
    exec .swapComplete s = .next (s.swapEnded.emcy 0xFF22 0xFF 0) := exec_serving hs rfl (if_neg (by simp [hn, h1]))

theorem touches_swapEnded (s : State) : Touches [.plans] [] s s.swapEnded := touches_plans s _

end Sys2Proof.Machine

namespace Sys2Proof.Proofs
open Sys2Proof Sys2Proof.Machine

/-- Settles O9: one step of the swap after another. -/
theorem theSwapRunsInItsFourSteps : Obligations.TheSwapRunsInItsFourSteps := by
  intro s p hs hp
  have hemcy (u : State) (c : Nat) (h : Touches [.plans] [] s u) : Touches [.mgmt, .objs, .plans] [lostKey] s (u.emcy c 0xFF 0) :=
    (h.andThen (touches_emcy u c 0xFF 0)).mono (by decide) (List.Subset.refl _)
  refine ⟨fun hst hl h997 hreel => ⟨exec_swapLatch_cool hs hp hst hl h997 hreel, fun hhot => ?_⟩, fun hl hw h999 hat => ?_, fun hl hw hn h0 hat => ?_, fun hn h1 => ?_⟩
  · have ht := hemcy _ 0xFF23 (touches_plans s { s.plans with status := 3, lastCode := 0x0A1E0046, swapReel := 0 })
    refine completes_intro (exec_swapLatch_hot hs hp hst hl h997 hreel hhot) ?_
    rw [State.emcy_plans]
    exact ⟨rfl, hl, rfl, rfl, rfl, ht.objects, ht.frame⟩
  · obtain ⟨hwakes, hin⟩ := wakes_entryWakes p allDomains { s with plans := { s.plans with entryWoken := true } }
    refine completes_intro (exec_swapEntryWake hs hp hl hw h999 hat) ⟨?_, ?_, ?_, hin, hwakes.awake⟩
    all_goals rw [hwakes.domains]
  · have hd := domainsOnly_swapEffects s.banksTurned
    refine completes_intro (exec_planSwap hs hl hw hn h0 hat) ⟨?_, ?_, ?_, ?_⟩
    · rw [hd]; rfl
    · rw [hd]; rfl
    · rw [hd]; rfl
    · exact tick_clock (execPlanSwap_tick s (exec_planSwap hs hl hw hn h0 hat))
  · have ht := hemcy _ 0xFF22 (touches_swapEnded s)
    refine completes_intro (exec_swapComplete hs hn h1) ?_
    rw [State.plan_congr (State.emcy_plans ..), State.bank_congr (State.emcy_plans ..), State.emcy_plans]
    have hplan : s.swapEnded.plan = s.plan := s.plan_setBank_other none
    have hold : (s.setBank (1 - s.plans.active) none).plan = s.plan := s.plan_setBank_other none
    have hbank : s.swapEnded.bank (1 - s.plans.active) = none := State.bank_setBank_self s (1 - s.plans.active) none
    exact ⟨rfl, rfl, rfl, rfl, rfl, rfl, congrArg Plan.identifier hold, hplan, hbank, ht.objects, ht.frame⟩

end Sys2Proof.Proofs
end

section
/-! PROOF. The transports (R74 to R76, R97, R402, R444) and the NMT commands (R79, R80): what a transaction on SPI answers, what the CAN controller
reports, and what a Reset Communication leaves. -/

namespace Sys2Proof.Machine

variable {s t u : State} {x : SpiTransaction} {n kind : Nat} {f : State → State}

/-! ### Transactions on SPI -/

/-- The state in which the octets of a transaction are being received. -/
def State.receiving (s : State) (x : SpiTransaction) : State := { s with mgmt := { s.mgmt with miso := List.replicate (4 + x.octets.length) 0 } }

/-- A transaction of a type whose length and check pass acts on the state in which it was received. -/
theorem State.spi_valid (hr : s.boot.inReset = false) (hn : s.mgmt.nmt ≠ 0) (hk : x.kind = kind) (hl : spiLengthOk x = true)
    (hc : spiCheckOk x = true) : s.spi kind x f = f (s.receiving x) := by
  rw [State.spi, if_neg (by simp [hr, hn])]
  exact if_pos ⟨hk, hl, hc⟩

theorem exec_spiInvalidTransaction (hr : s.boot.inReset = false) (hn : s.mgmt.nmt ≠ 0) (h : spiLengthOk x = false ∨ spiCheckOk x = false) :
    exec (.spiInvalidTransaction x) s = .next ((s.receiving x).bump 0x2004 4) := by
  refine exec_next_of rfl (if_neg ?_)
  rcases h with h | h <;> simp [hr, hn, h]

theorem touches_receiving (s : State) (x : SpiTransaction) : Touches [.mgmt] [] s (s.receiving x) := touches_mgmt s _

theorem State.pushSpi_of_room (f : OutFrame) (h : s.mgmt.spiQueue.length < 32) :
    s.pushSpi f = { s with mgmt := { s.mgmt with spiQueue := s.mgmt.spiQueue ++ [f] } } := if_pos h

/-! ### Emergency messages -/

/-- An EMCY that may be sent is held for CAN and offered to SPI. -/
theorem State.emcy_of_held (c p d : Nat) (hbit : bit (s.obj 0x1014 0) 31 = false) (h0 : s.mgmt.nmt ≠ 0) (h4 : s.mgmt.nmt ≠ 4)
    (hroom : s.mgmt.emcyHold.length < 32) : s.emcy c p d =
      ({ s with mgmt := { s.mgmt with emcyHold := s.mgmt.emcyHold ++ [.emcy (s.obj 0x1014 0 % 2048) c s.errorRegister p (d % 2 ^ 32)] } } : State).pushSpi
        (.emcy (s.obj 0x1014 0 % 2048) c s.errorRegister p (d % 2 ^ 32)) := by
  unfold State.emcy
  dsimp only
  rw [if_neg (by simp [hbit]), if_neg (by simp [h0, h4]), if_pos hroom]

theorem State.reportLost_of_lost (hl : 0 < s.mgmt.lost) (hroom : s.mgmt.emcyHold.length < 32) (h0 : s.mgmt.nmt ≠ 0) (h4 : s.mgmt.nmt ≠ 4) :
    s.reportLost = ({ s with mgmt := { s.mgmt with lost := 0 } } : State).emcy 0xFF00 0xFF s.mgmt.lost := if_pos ⟨hl, hroom, h0, h4⟩

/-! ### NMT -/

theorem State.nmtCommand_start {node straps : Nat} (h0 : s.mgmt.nmt ≠ 0) (hn : node = 0 ∨ node = s.node) :
    s.nmtCommand 0x01 node straps = ({ s with mgmt := { s.mgmt with nmt := 0x05 } } : State).reportLost := if_neg (by simp [h0, hn])

theorem State.nmtCommand_stop {node straps : Nat} (h0 : s.mgmt.nmt ≠ 0) (hn : node = 0 ∨ node = s.node) :
    s.nmtCommand 0x02 node straps = { s with mgmt := { s.mgmt with nmt := 0x04 } } := if_neg (by simp [h0, hn])

theorem State.nmtCommand_preOperational {node straps : Nat} (h0 : s.mgmt.nmt ≠ 0) (hn : node = 0 ∨ node = s.node) :
    s.nmtCommand 0x80 node straps = ({ s with mgmt := { s.mgmt with nmt := 0x7F } } : State).reportLost := if_neg (by simp [h0, hn])

theorem State.nmtCommand_reset {node straps : Nat} (h0 : s.mgmt.nmt ≠ 0) (hn : node = 0 ∨ node = s.node) :
    s.nmtCommand 0x82 node straps = settleRegister s (s.resetComm straps) := if_neg (by simp [h0, hn])

/-- An NMT transaction carries the command octet and the node. -/
theorem exec_spiNmtCommand {cmd node : Nat} (hr : s.boot.inReset = false) (h0 : s.mgmt.nmt ≠ 0) (hk : x.kind = 1) (hl : spiLengthOk x = true)
    (hc : spiCheckOk x = true) (ho : x.octets.map BitVec.toNat = [cmd, node]) :
    exec (.spiNmtCommand x) s = .next ((s.receiving x).nmtCommand cmd node x.straps) := by
  obtain ⟨a, l, hx, ha, hl'⟩ := List.map_eq_cons_iff.1 ho
  obtain ⟨b, l, rfl, hb, -⟩ := List.map_eq_cons_iff.1 hl'
  refine exec_next_of rfl ((State.spi_valid hr h0 hk hl hc).trans ?_)
  rw [hx, ← ha, ← hb]
  rfl

/-- The node ID that a reading of the straps gives (R77). -/
def State.nodeFor (s : State) (straps : Nat) : Nat := if straps % 128 ≠ 0 then straps % 128 else s.obj 0x2002 1

/-- The straps and the node ID as they are read. -/
def State.nodeRead (s : State) (straps : Nat) : State :=
  (({ s with mgmt := { s.mgmt with straps := straps % 128, bitRate := s.obj 0x2003 1 } } : State).setObj 0x2002 2 (straps % 128 : Nat)).setObj 0x2002 3
    (s.nodeFor straps : Nat)

/-- Beside the node ID only 0x1014 may follow it (R433). -/
theorem State.readNode_cases (s : State) (straps : Nat) :
    s.readNode straps = s.nodeRead straps ∨ s.readNode straps = (s.nodeRead straps).setKey (okey 0 0 0x1014 0) (0x80 + s.nodeFor straps : Nat) := by
  have h : s.readNode straps = if ((s.nodeRead straps).darkroom.secA.look noneOf (okey 0 0 0x1014 0)).isNone &&
      !(s.nodeRead straps).mgmt.copies.contains (okey 0 0 0x1014 0) then (s.nodeRead straps).setKey (okey 0 0 0x1014 0) (0x80 + s.nodeFor straps : Nat)
    else s.nodeRead straps := rfl
  rw [h]
  split
  · exact .inr rfl
  · exact .inl rfl

theorem State.readNode_mgmt (s : State) (straps : Nat) :
    (s.readNode straps).mgmt = { s.mgmt with straps := straps % 128, bitRate := s.obj 0x2003 1 } := by
  rcases s.readNode_cases straps with h | h <;> rw [h] <;> rfl

theorem State.readNode_node (s : State) (straps : Nat) : (s.readNode straps).node = s.nodeFor straps := by
  have hread : (s.nodeRead straps).node = s.nodeFor straps := by simp only [State.nodeRead, State.node, State.obj_setObj_self, Int.toNat_natCast]
  rcases s.readNode_cases straps with h | h
  · rw [h, hread]
  · rw [h, State.node_congr (State.objKey_setKey_ne _ (by decide) _), hread]

theorem touches_nodeRead (s : State) (straps : Nat) : Touches [.mgmt, .objs] [okey 0 0 0x2002 2, okey 0 0 0x2002 3] s (s.nodeRead straps) :=
  ((touches_mgmt s _).andThen ((touches_setObj _ 0x2002 2 _).andThen (touches_setObj _ 0x2002 3 _))).mono (by decide) (List.Subset.refl _)

theorem touches_readNode (s : State) (straps : Nat) :
    Touches [.mgmt, .objs] [okey 0 0 0x2002 2, okey 0 0 0x2002 3, okey 0 0 0x1014 0] s (s.readNode straps) := by
  have hread := (touches_nodeRead s straps).mono (parts' := [.mgmt, .objs]) (keys' := [okey 0 0 0x2002 2, okey 0 0 0x2002 3, okey 0 0 0x1014 0])
    (by decide) (by simp)
  rcases s.readNode_cases straps with h | h
  · rw [h]; exact hread
  · rw [h]; exact hread.trans ((touches_setKey ..).mono (by decide) (by simp))

theorem touches_pushCan (s : State) (f : OutFrame) : Touches [.mgmt] [] s (s.pushCan f) := touches_mgmt s _

theorem touches_pushSpi (s : State) (f : OutFrame) : Touches [.mgmt, .objs] [lostKey] s (s.pushSpi f) := by
  have hq (y : Mgmt) : Touches [.mgmt, .objs] [lostKey] s { s with mgmt := y } := (touches_mgmt s y).mono (by decide) (by simp)
  unfold State.pushSpi
  split
  · exact hq _
  · split
    · exact (hq _).trans ((touches_bump _ 0x2004 5).mono (by decide) (List.Subset.refl _))
    · exact (touches_bump s 0x2004 5).mono (by decide) (List.Subset.refl _)

theorem touches_bootUp (s : State) : Touches [.mgmt, .objs] [lostKey] s s.bootUp :=
  ((((touches_pushCan s _).mono (by decide) (by simp)).trans (touches_pushSpi _ (.bootUp s.node))).trans
    ((touches_mgmt _ _).mono (by decide) (by simp))).trans (touches_reportLost _)

theorem touches_endTransfer (s : State) : Touches [.mgmt, .plans] [] s s.endTransfer := by
  have hm : Touches [.mgmt, .plans] [] s { s with mgmt := { s.mgmt with transfer := none } } := (touches_mgmt s _).mono (by decide) (by simp)
  unfold State.endTransfer
  dsimp only
  split
  · exact hm.trans ((touches_plans _ _).mono (by decide) (by simp))
  · exact hm

theorem State.endTransfer_mgmt (s : State) : s.endTransfer.mgmt = { s.mgmt with transfer := none } := by
  unfold State.endTransfer
  dsimp only
  split <;> rfl

/-- What a Reset Communication clears before the straps are read, with the frames lost. -/
def State.commCleared (s : State) : State :=
  let only := s.mgmt.emcyHold.foldl List.erase (s.mgmt.spiQueue.filter OutFrame.isEmcy)
  let n := s.mgmt.emcyHold.length + only.length
  let a := s.endTransfer.bumpBy 0x2004 5 n
  { a with mgmt := { a.mgmt with nmt := 0, canState := 0, canTx := [], emcyHold := [], spiQueue := [], miso := [], canSent := none, requests := [],
                                 lost := a.mgmt.lost + n } }

theorem State.resetComm_eq (s : State) (straps : Nat) : s.resetComm straps = (s.commCleared.readNode straps).bootUp := rfl

theorem touches_commCleared (s : State) : Touches [.mgmt, .objs, .plans] [lostKey] s s.commCleared :=
  (((touches_endTransfer s).mono (by decide) (by simp)).trans ((touches_bumpKey _ lostKey _).mono (by decide) (List.Subset.refl _))).trans
    ((touches_mgmt _ _).mono (by decide) (by simp))

/-- The message is the last frame for CAN, and the node is Pre-operational. -/
theorem State.bootUp_mgmt (s : State) : s.bootUp.mgmt.nmt = 0x7F ∧ s.bootUp.mgmt.canState = s.mgmt.canState ∧ s.bootUp.mgmt.transfer = s.mgmt.transfer ∧
    s.bootUp.mgmt.requests = s.mgmt.requests ∧ s.bootUp.mgmt.miso = s.mgmt.miso ∧ s.bootUp.mgmt.straps = s.mgmt.straps ∧
    s.bootUp.mgmt.bitRate = s.mgmt.bitRate ∧ s.bootUp.mgmt.canTx = s.mgmt.canTx ++ [.bootUp s.node] := by
  refine ⟨?_, ?_, ?_, ?_, ?_, ?_, ?_, ?_⟩ <;> simp [State.bootUp, State.pushCan]

theorem State.commCleared_mgmt (s : State) : s.commCleared.mgmt.canState = 0 ∧ s.commCleared.mgmt.transfer = none ∧ s.commCleared.mgmt.requests = [] ∧
    s.commCleared.mgmt.miso = [] ∧ s.commCleared.mgmt.canTx = [] :=
  ⟨rfl, congrArg Mgmt.transfer s.endTransfer_mgmt, rfl, rfl, rfl⟩

theorem touches_resetComm (s : State) (straps : Nat) : Touches [.mgmt, .objs, .plans]
    [okey 0 0 0x2004 5, okey 0 0 0x2002 2, okey 0 0 0x2002 3, okey 0 0 0x1014 0] s (s.resetComm straps) :=
  (((touches_commCleared s).mono (List.Subset.refl _) (by simp [lostKey])).trans
    ((touches_readNode _ straps).mono (by decide) (by simp))).trans ((touches_bootUp _).mono (by decide) (by simp [lostKey]))

end Sys2Proof.Machine

namespace Sys2Proof.Proofs
open Sys2Proof Sys2Proof.Machine

/-- Settles O11: each transport command by its own condition. -/
theorem transportCommandsComplete : Obligations.TransportCommandsComplete := by
  refine fun s x n hr h0 => ⟨fun hk hl hc => ?_, fun hk hl hc => ?_, fun h => ?_, fun hperiod hroom => ?_, ?_, fun hl hroom h4 hbit => ?_, ?_⟩
  · refine exec_next_of rfl ((State.spi_valid hr h0 hk hl hc).trans ?_)
    unfold State.receiving State.spiHead
    cases s.mgmt.spiQueue <;> rfl
  · refine exec_next_of rfl ((State.spi_valid hr h0 hk hl hc).trans ?_)
    unfold State.receiving
    simp
  · have ht := (touches_receiving s x).andThen (touches_bump _ 0x2004 4)
    refine completes_intro (exec_spiInvalidTransaction hr h0 h) ⟨?_, rfl, ht.objects, (ht.mono (parts' := [.mgmt, .objs]) (by decide) (List.Subset.refl _)).frame⟩
    rw [obj_bump, if_pos rfl]
    rfl
  · refine exec_next_of rfl ((if_neg (by simp [h0, hperiod])).trans ?_)
    exact State.pushSpi_of_room (s := s.pushCan (.heartbeat s.node s.mgmt.nmt)) _ hroom
  · have ht := ((touches_mgmt s { s.mgmt with canState := n % 3 }).andThen (touches_settle s _)).mono (parts' := [.mgmt, .objs]) (by decide) (List.Subset.refl _)
    refine completes_intro (exec_next_of rfl (if_neg (by simp [hr]))) ⟨?_, ?_, ?_, ht.objects, ht.frame⟩ <;> simp
  · have ht := touches_reportLost s
    have hreport := State.reportLost_of_lost hl hroom h0 h4
    rw [State.emcy_of_held (s := { s with mgmt := { s.mgmt with lost := 0 } }) 0xFF00 0xFF s.mgmt.lost hbit h0 h4 hroom] at hreport
    refine completes_intro (t := s.reportLost) rfl ⟨?_, ?_, ht.objects, ht.frame⟩
    · rw [hreport, State.pushSpi_mgmt_lost]
    · rw [hreport, State.pushSpi_mgmt_emcyHold]; rfl
  · exact exec_next_of rfl (by simp [hr])

/-- Settles O12: each NMT command on this node, and the same commands through SPI. -/
theorem nmtCommandsSetTheState : Obligations.NmtCommandsSetTheState := by
  intro s node h0 hn
  have hstate (y : Mgmt) : Touches [.mgmt, .objs] [okey 0 0 0x2004 5] s ({ s with mgmt := y } : State).reportLost :=
    ((touches_mgmt s y).andThen (touches_reportLost _)).mono (by decide) (List.Subset.refl _)
  refine ⟨?_, exec_next_of rfl (State.nmtCommand_stop h0 hn), ?_, ?_, fun straps => ⟨?_, ?_⟩⟩
  · refine completes_intro (exec_next_of rfl (State.nmtCommand_start h0 hn)) ⟨?_, ?_, ?_, ?_, (hstate _).objects, (hstate _).frame⟩
    all_goals simp
  · refine completes_intro (exec_next_of rfl (State.nmtCommand_preOperational h0 hn)) ⟨?_, ?_, ?_, ?_, (hstate _).objects, (hstate _).frame⟩
    all_goals simp
  · rintro x hr hk hl hc u rfl
    refine ⟨fun ho => ?_, fun ho => ?_, fun ho => ?_, fun ho => ?_, fun ho => ?_⟩
    all_goals exact exec_spiNmtCommand hr h0 hk hl hc ho
  · rfl
  · have ht := (touches_resetComm s straps).trans ((touches_settle s _).mono (by decide) (by simp [lostKey]))
    have hcleared := touches_commCleared s
    have hnode : s.commCleared.nodeFor straps = s.nodeFor straps := by rw [State.nodeFor, hcleared.obj (by decide), State.nodeFor]
    have hset : ((s.resetComm straps).obj 0x2002 3) = s.nodeFor straps := by
      rw [s.resetComm_eq, (touches_bootUp _).obj (by decide), ← hnode]; exact State.readNode_node ..
    obtain ⟨hcan, htransfer, hrequests, hmiso, htx⟩ := s.commCleared_mgmt
    obtain ⟨bnmt, bcan, btransfer, brequests, bmiso, bstraps, brate, btx⟩ := (s.commCleared.readNode straps).bootUp_mgmt
    rw [State.readNode_mgmt] at bcan btransfer brequests bmiso bstraps brate btx
    refine completes_intro (exec_next_of rfl (State.nmtCommand_reset h0 hn)) ⟨?_, ?_, ?_, ?_, ?_, ?_, ?_, ?_, ?_, ht.objects, ht.frame⟩
    · rw [settleRegister_mgmt_nmt]; exact bnmt
    · rw [settleRegister_mgmt_canState]; exact bcan.trans hcan
    · rw [settleRegister_mgmt_transfer]; exact btransfer.trans htransfer
    · rw [settleRegister_mgmt_requests]; exact brequests.trans hrequests
    · rw [settleRegister_mgmt_miso]; exact bmiso.trans hmiso
    · rw [settleRegister_mgmt_straps]; exact bstraps
    · rw [settleRegister_mgmt_bitRate]; exact brate.trans (hcleared.obj (by decide))
    · rw [settleRegister_mgmt_canTx, s.resetComm_eq, btx, State.readNode_node, hnode]
      exact congrArg (· ++ _) htx
    · rw [(touches_settle ..).obj (by decide)]; exact hset

end Sys2Proof.Proofs
end

section
/-! PROOF. The USDO server (R81 to R83, R250, R470, R472): the request queue and its management point, and segmented transfers. -/

namespace Sys2Proof.Machine

variable {s t u : State}

/-- The state with a request at the end of its queue. -/
def State.queued (s : State) (t : Transport) (j : Job) : State :=
  { s with mgmt := { s.mgmt with requests := s.mgmt.requests ++ [⟨t, j, s.dueExposure⟩] } }

theorem State.enqueueJob_of_room (t : Transport) (j : Job) (hp : s.boot.phase = 5) (hroom : s.mgmt.requests.length < 64) :
    s.enqueueJob t j = s.queued t j := by
  rw [State.enqueueJob, if_neg (by simp [hp]), if_neg (by omega)]
  rfl

/-- A request that has arrived whole and is no segment joins the queue. -/
theorem State.receive_of_request {r : UsdoRequest} (t : Transport) (hl : s.listens = true) (hp : s.boot.phase = 5) (hroom : s.mgmt.requests.length < 64)
    (hr : (∃ i j d, r = .expedited i j d) ∨ (∃ i j n, r = .initiate i j n) ∨ (∃ i j, r = .uploadInitiate i j)) :
    s.receive t false r = s.queued t (.request r) := by
  refine (if_neg (by simp [hl])).trans ?_
  rcases hr with ⟨i, j, d, rfl⟩ | ⟨i, j, n, rfl⟩ | ⟨i, j, rfl⟩ <;> exact State.enqueueJob_of_room t _ hp hroom

/-! ### The TX-timestamp queues at the management point -/

/-- No entry that the engine consumes belongs to an exchange of its own. -/
def State.noOwnDepartures (s : State) : Prop := ∀ n, ∀ e ∈ (s.port n).txQueue, e.seq = none → e.id < 0xF000

theorem State.upstreamSent_of_low {e : TxEntry} (h : e.id < 0xF000) : s.upstreamSent e = s := if_neg (by omega)

theorem State.pdelaySent_of_low {e : TxEntry} (h : e.id < 0xF000) : s.pdelaySent e = s := if_neg (by omega)

/-- The entries consumed at one port. -/
def State.consumePort (s : State) (n : Nat) : State :=
  ((s.port n).txQueue.filter fun e => e.seq.isNone).foldl (fun (s : State) e => (s.upstreamSent e).pdelaySent e)
    (s.setPort n { s.port n with txQueue := (s.port n).txQueue.filter fun e => e.seq.isSome })

theorem State.consumePort_eq (h : s.noOwnDepartures) (n : Nat) :
    s.consumePort n = s.setPort n { s.port n with txQueue := (s.port n).txQueue.filter fun e => e.seq.isSome } := by
  have hlow : ∀ e ∈ (s.port n).txQueue.filter fun e => e.seq.isNone, e.id < 0xF000 := fun e he => by
    obtain ⟨hmem, hnone⟩ := List.mem_filter.1 he
    exact h n e hmem (Option.isNone_iff_eq_none.1 hnone)
  unfold State.consumePort
  generalize (s.port n).txQueue.filter (fun e => e.seq.isNone) = l at hlow
  induction l with
  | nil => rfl
  | cons e l ih =>
    obtain ⟨he, hl⟩ := List.forall_mem_cons.1 hlow
    rw [List.foldl_cons, State.upstreamSent_of_low he, State.pdelaySent_of_low he, ih hl]

theorem State.noOwnDepartures_consumePort (h : s.noOwnDepartures) (n : Nat) : (s.consumePort n).noOwnDepartures := by
  rw [State.consumePort_eq h]
  intro m e he
  rw [State.port_setPort] at he
  split at he
  · exact h n e (List.mem_filter.1 he).1
  · exact h m e he

theorem touches_consumeTx (h : s.noOwnDepartures) : Touches [.ports] [] s s.consumeTx := by
  change Touches [.ports] [] s (s.ports.keys.foldl State.consumePort s)
  generalize s.ports.keys = l
  induction l generalizing s with
  | nil => exact .refl s
  | cons n l ih =>
    have hport : Touches [.ports] [] s (s.consumePort n) := by rw [State.consumePort_eq h]; exact touches_setPort ..
    exact hport.trans (ih (State.noOwnDepartures_consumePort h n))

/-! ### The management point -/

theorem exec_managementPoint (hs : s.serving = true) (hc : s.clock.cycle = 999936) :
    exec .managementPoint s = .next s.serveRequests.consumeTx := exec_while_serving hs rfl (if_pos hc)

/-- An object's value of up to 56 octets, not a DOMAIN, is answered at once. -/
theorem State.upload_of_short {i j : Nat} {d : Octets} (t : Transport) (hread : s.readObject i j = .ok d) (hlen : d.length ≤ 56)
    (hty : ∀ e, dictRow i j = some e → e.ty ≠ .domain) : s.upload t i j = s.respond t (.uploaded i j d) := by
  unfold State.upload
  rw [hread]
  refine if_pos ?_
  cases hrow : dictRow i j with
  | none => simp [hlen]
  | some e => simp [hlen, hty e hrow]

theorem State.serveJob_upload (s : State) (tr : Transport) (i j : Nat) :
    s.serveJob tr (.request (.uploadInitiate i j)) = settleRegister s (s.upload tr i j) := rfl

theorem State.serveRequests_due {w : Waiting} (hq : s.mgmt.requests = [w]) (hdue : w.due ≤ s.clock.exposures) :
    s.serveRequests = ({ s with mgmt := { s.mgmt with requests := [] } } : State).serveJob w.transport w.job := by
  simp [State.serveRequests, hq, hdue, Nat.not_lt.2 hdue]

theorem State.serveRequests_early {w : Waiting} (hq : s.mgmt.requests = [w]) (hdue : s.clock.exposures < w.due) : s.serveRequests = s := by
  have hdone : (s.mgmt.requests.filter fun w => decide (w.due ≤ s.clock.exposures)) = [] := by simp [hq, hdue]
  have hleft : (s.mgmt.requests.filter fun w => decide (s.clock.exposures < w.due)) = s.mgmt.requests := by simp [hq, hdue]
  simp only [State.serveRequests, hdone, hleft, List.foldl_nil]

/-! ### Segmented transfers -/

theorem exec_request {c : Instr} {f : State → State} (hl : s.listens = true) (he : exec c s = .next (s.request f)) (hf : f s = u) :
    exec c s = .next (settleRegister s u) := by rw [he, State.request, if_pos hl, hf]

/-- What a request answers beside an update of the management state. -/
theorem touches_answered (y : Mgmt) (tr : Transport) (r : UsdoResponse) : Touches [.mgmt, .objs, .twin] [okey 0 0 0x2004 1, okey 0 0 0x2004 5] s
    (settleRegister s (({ s with mgmt := y } : State).respond tr r)) :=
  (((touches_mgmt s y).andThen (touches_respond _ tr r)).andThen (touches_settle s _)).mono (by decide) (by simp [servedKey, lostKey])

theorem State.openDownload_of_free {i j : Nat} {size : Option Nat} (tr : Transport) (hfree : s.mgmt.transfer = none) (herr : s.initiateError i j size = none)
    (hi : i ≠ 0x2100) : s.openDownload tr i j size =
      ({ s with mgmt := { s.mgmt with transfer := some ⟨tr, true, i, j, size, [], 0, s.now⟩ } } : State).respond tr (.downloadOpened i j) := by
  have hsup : s.supersede = s := if_neg (by simp [hfree])
  unfold State.openDownload
  rw [hsup]
  dsimp only
  rw [herr]
  dsimp only
  rw [if_neg hi]

theorem State.segmentIn_of_sequence {x : Transfer} {n declared : Nat} {data : Octets} (hx : s.mgmt.transfer = some x) (hdown : x.download = true)
    (hn : x.size = some n) (hlen : declared ≤ data.length) (hfit : (x.data ++ data.take declared).length ≤ n) :
    s.segmentIn x.transport x.next false declared data = ({ s with mgmt := { s.mgmt with
      transfer := some { x with data := x.data ++ data.take declared, next := x.next + 1, since := s.now } } }, none) := by
  have hlimit : s.transferLimit x = some (n, 0x06070010) := by rw [State.transferLimit, hn]
  unfold State.segmentIn
  rw [hx]
  refine (if_neg (by simp [hdown])).trans ((if_neg (by simp)).trans ((if_neg (by omega)).trans ?_))
  dsimp only
  rw [hlimit]
  dsimp only
  rw [if_neg (Nat.not_lt.2 hfit)]
  rfl

theorem drop_isEmpty_eq {α : Type} (l : List α) (n : Nat) : (l.drop n).isEmpty = decide (l.length ≤ n) := by
  rw [Bool.eq_iff_iff, List.isEmpty_iff, List.drop_eq_nil_iff, decide_eq_true_iff]

theorem State.uploadNext_of_sequence {x : Transfer} (hx : s.mgmt.transfer = some x) (hup : x.download = false) : s.uploadNext x.transport x.next =
    ({ s with mgmt := { s.mgmt with transfer :=
        if x.data.length ≤ 63 then none else some { x with data := x.data.drop 63, next := x.next + 1, since := s.now } } } : State).respond
      x.transport (.uploadSegment x.next (decide (x.data.length ≤ 63)) (x.data.take 63)) := by
  unfold State.uploadNext
  rw [hx]
  refine (if_neg (by simp [hup])).trans ((if_neg (by simp)).trans ?_)
  dsimp only
  rw [drop_isEmpty_eq]
  simp only [decide_eq_true_eq]

/-- A transfer ended by the engine of its own accord on CAN: its abort answers no request. -/
theorem State.failTransfer_can {x : Transfer} {code : Nat} (hx : s.mgmt.transfer = some x) (hc : x.transport = .can) : s.failTransfer code false =
    (s.endTransfer.bump 0x2004 2).pushCan (.usdo (s.endTransfer.bump 0x2004 2).node (.abort x.index x.sub code)) := by
  unfold State.failTransfer
  rw [hx]
  dsimp only
  rw [hc]
  rfl

theorem completes_failTransfer {x : Transfer} {c : Instr} {code : Nat} {f : State → State} (hl : s.listens = true) (he : exec c s = .next (s.request f))
    (hf : f s = s.failTransfer code false) (hx : s.mgmt.transfer = some x) (hc : x.transport = .can) : CompletesWith c s fun t => t.mgmt.transfer = none ∧
      t.mgmt.canTx = s.mgmt.canTx ++ [.usdo s.node (.abort x.index x.sub code)] ∧ t.obj 0x2004 2 = (s.obj 0x2004 2 + 1) % 2 ^ 32 ∧
      ObjectsBut [okey 0 0 0x2004 2, okey 0 0 0x2004 5] s t ∧ KeepsAllBut [.mgmt, .objs, .plans] s t := by
  have hend := touches_endTransfer s
  have hnode : (s.endTransfer.bump 0x2004 2).node = s.node :=
    State.node_congr (((hend.andThen (touches_bump _ 0x2004 2)).objects) _ (by decide))
  have ht := ((hend.andThen (touches_bump _ 0x2004 2)).andThen (touches_pushCan _ (.usdo s.node (.abort x.index x.sub code)))).andThen (touches_settle s _)
  have hexec := exec_request hl he hf
  rw [State.failTransfer_can hx hc, hnode] at hexec
  refine completes_intro hexec ⟨?_, ?_, ?_, ht.objects, (ht.mono (parts' := [.mgmt, .objs, .plans]) (by decide) (List.Subset.refl _)).frame⟩
  · rw [settleRegister_mgmt_transfer]; exact congrArg Mgmt.transfer s.endTransfer_mgmt
  · rw [settleRegister_mgmt_canTx]; exact congrArg (fun y : Mgmt => y.canTx ++ [.usdo s.node (.abort x.index x.sub code)]) s.endTransfer_mgmt
  · rw [(touches_settle ..).obj (by decide), (touches_pushCan ..).obj (by decide), obj_bump, if_pos rfl, hend.obj (by decide)]

end Sys2Proof.Machine

namespace Sys2Proof.Proofs
open Sys2Proof Sys2Proof.Machine

/-- Settles O13: a request joins its queue, and the management point serves the one that is due. -/
theorem requestsWaitForTheManagementPoint : Obligations.RequestsWaitForTheManagementPoint := by
  refine fun s => ⟨fun r hp h0 h4 hroom hr => ⟨fun length hlen => ?_, fun x hreset hk hl hc hshort hx => ?_⟩, fun i j d due hs hc hports hq => ?_⟩
  · have hframe : ¬(s.node ≠ s.node ∨ length < 8) := by simp [hlen]
    exact exec_next_of rfl ((if_neg hframe).trans (State.receive_of_request .can (listens_of h0 h4) hp hroom hr))
  · refine exec_next_of rfl ((State.spi_valid hreset h0 hk hl hc).trans ?_)
    rw [hshort, hx]
    exact State.receive_of_request (s := s.receiving x) .spi (listens_of h0 h4) hp hroom hr
  · refine ⟨fun hdue hread hlen hty => ?_, fun hdue => ?_⟩
    · have hjob : s.serveRequests = settleRegister { s with mgmt := { s.mgmt with requests := [] } }
          (({ s with mgmt := { s.mgmt with requests := [] } } : State).respond .can (.uploaded i j d)) := by
        rw [State.serveRequests_due hq hdue, State.serveJob_upload, State.upload_of_short .can hread hlen hty]
      have hown : s.serveRequests.noOwnDepartures := fun n e he => by
        rw [State.port_congr (s := s) (by rw [hjob]; simp)] at he
        exact hports n e he
      have hm : s.serveRequests.consumeTx.mgmt = s.serveRequests.mgmt := (touches_consumeTx hown).frame .mgmt (by decide)
      refine completes_intro (exec_managementPoint hs hc) ⟨?_, ?_⟩
      · rw [hm, hjob]; simp
      · rw [hm, hjob]; simp; rfl
    · have ht := touches_consumeTx hports
      refine completes_intro ((exec_managementPoint hs hc).trans ?_) ⟨ht.frame .mgmt (by decide), ht.objects, ht.frame⟩
      rw [State.serveRequests_early hq hdue]

/-- Settles O14: an initiation, a segment in sequence, an upload and its segments, and the two ends without a request. -/
theorem segmentedTransfersAdvance : Obligations.SegmentedTransfersAdvance := by
  intro s x h0 h4
  have hl := listens_of h0 h4
  refine ⟨fun tr i j size hfree herr hi => ?_, fun declared data n hx hdown hn hlen hfit => ?_, fun i j d hread hlen hty => ?_, fun hx hcan hup => ?_,
    fun hx hcan => ⟨fun hp hlate => ?_, ?_⟩⟩
  · have ht := touches_answered (s := s) { s.mgmt with transfer := some ⟨tr, true, i, j, size, [], 0, s.now⟩ } tr (.downloadOpened i j)
    exact completes_intro (exec_request hl rfl (State.openDownload_of_free tr hfree herr hi)) ⟨by simp, by simp, ht.objects, ht.frame⟩
  · refine exec_next_of rfl ((if_pos hl).trans ?_)
    rw [State.segmentIn_of_sequence hx hdown hn hlen hfit]
    rfl
  · have ht := touches_answered (s := s) s.mgmt .can (.uploaded i j d)
    exact completes_intro (exec_request hl rfl (State.upload_of_short .can hread hlen hty)) ⟨by simp, by simp, ht.objects, ht.frame⟩
  · have hnext := State.uploadNext_of_sequence hx hup
    have ht := touches_answered (s := s) ({ s.mgmt with transfer := (if x.data.length ≤ 63 then none
        else some { x with data := x.data.drop 63, next := x.next + 1, since := s.now }) }) x.transport
      (.uploadSegment x.next (decide (x.data.length ≤ 63)) (x.data.take 63))
    rw [← hcan]
    refine completes_intro (exec_request hl rfl hnext) ⟨by simp, ?_, ht.objects, ht.frame⟩
    rw [settleRegister_mgmt_canTx, hcan, State.respond_can]
    rfl
  · have hsegment : s.segmentLate = true := by
      rw [State.segmentLate, hx, Option.any_some, Bool.or_eq_true]
      exact .inr (decide_eq_true hlate)
    exact completes_failTransfer (f := fun s => if s.segmentLate then s.failTransfer 0x05040000 false else s) hl rfl (if_pos hsegment) hx hcan
  · exact completes_failTransfer hl rfl rfl hx hcan

end Sys2Proof.Proofs
end

section
/-! PROOF. Where a write takes effect (R5, R83, R90, R469, R470): a value with no rule of its own at once, a unit enable at the reel boundary, a member
of an agreement group in its shadow. -/

namespace Sys2Proof.Machine

variable {s u : State} {tr : Transport} {i j : Nat} {data : Octets}

/-- A write that its checks accept is confirmed. -/
theorem State.write_accepted (hl : s.listens = true) (hw : s.writeObject i j data = (u, none)) :
    s.write tr i j data = settleRegister s (u.respond tr (.downloaded i j)) := by
  rw [State.write, State.request, if_pos hl, hw]

/-- What a confirmed write leaves. -/
theorem touches_confirmed {parts : List Part} {keys : List Nat} (h : Touches parts keys s u) (tr : Transport) (i j : Nat) :
    Touches (parts ++ [.mgmt, .objs, .twin]) (keys ++ [okey 0 0 0x2004 1, okey 0 0 0x2004 5]) s (settleRegister s (u.respond tr (.downloaded i j))) :=
  ((h.andThen (touches_respond u tr _)).andThen (touches_settle s _)).mono (by simp) (by simp [servedKey, lostKey])

/-! ### The heartbeat period -/

theorem dictRecord_heartbeat : dictRecord 0x1017 = some (⟨0x1017, 1, [⟨0, 0, .uint 2, .rw, true, 1000, .zeroOr 100 65535⟩]⟩, 0) := by decide +kernel

theorem State.reach_heartbeat (s : State) : s.reach 0x1017 0 true = .ok ⟨0, 0, .uint 2, .rw, true, 1000, .zeroOr 100 65535⟩ := by
  unfold State.reach
  rw [dictRecord_heartbeat]
  exact if_neg fun ⟨_, hearly⟩ => absurd hearly (by decide)

theorem isPersistent_heartbeat : isPersistent (okey 0 0 0x1017 0) = true := by decide +kernel

theorem State.markCopy_mem {k : Nat} (h : isPersistent k = true) (s : State) : k ∈ (s.markCopy k).mgmt.copies := by
  rw [State.markCopy, if_pos h]
  exact List.mem_append_right _ (List.mem_singleton_self k)

/-- A value of two octets, the least significant first. -/
theorem decode_two (a b : Octet) : (OType.uint 2).decode [a, b] = ((a.toNat + 256 * b.toNat : Nat) : Int) := by
  simp [OType.decode, leNat]

/-- The period has no rule of its own, and takes effect at once. -/
theorem writeValue_heartbeat (v : Int) (data : Octets) : s.writeValue 0x1017 0 0 v data = (s.takeEffect (okey 0 0 0x1017 0) v, none) := by
  have hmember : memberOf (0x1017 + 0) 0 = none := by decide
  have htime : s.writeTime 0x1017 0 0 v = none := rfl
  have hreference : s.writeReference 0x1017 0 0 v = none := rfl
  have hsynthesis : s.writeSynthesis 0x1017 0 0 v = none := rfl
  have hgnss : s.writeGnss 0x1017 0 0 v = none := rfl
  have hports : s.writePorts 0x1017 0 0 v = none := rfl
  have hserving : s.writeServing 0x1017 0 0 v data = none := rfl
  have hplates : s.writePlates 0x1017 0 0 v = none := rfl
  have hplain : plainWrite 0x1017 (0x1017 + 0) 0 v s = s.takeEffect (okey 0 0 0x1017 0) v := by
    have hnow : effectAt 0x1017 0 = 0 := by decide
    have hitem : s.itemOf (0x1017 + 0) 0 = 0 := rfl
    rw [plainWrite, if_pos hnow, hitem]
  simp only [State.writeValue, hmember, htime, hreference, hsynthesis, hgnss, hports, hserving, hplates, Option.orElse_none, Option.getD_none, hplain]

theorem writeObject_heartbeat {a b : Octet} (h : a.toNat + 256 * b.toNat = 0 ∨ 100 ≤ a.toNat + 256 * b.toNat) :
    s.writeObject 0x1017 0 [a, b] = (s.takeEffect (okey 0 0 0x1017 0) (a.toNat + 256 * b.toNat : Nat), none) := by
  have hrange : (ORange.zeroOr 100 65535).ok ((OType.uint 2).decode [a, b]) = true := by
    have ha := a.isLt
    have hb := b.isLt
    rw [decode_two, ORange.ok, Bool.or_eq_true, decide_eq_true_iff, decide_eq_true_iff]
    omega
  rw [writeObject_of_checked s.reach_heartbeat dictRecord_heartbeat nofun rfl rfl hrange rfl, writeValue_heartbeat, decode_two]

theorem completes_heartbeat {c : Instr} {a b : Octet} (he : exec c s = .next (s.write tr 0x1017 0 [a, b])) (hl : s.listens = true)
    (h : a.toNat + 256 * b.toNat = 0 ∨ 100 ≤ a.toNat + 256 * b.toNat) : CompletesWith c s fun t => t.obj 0x1017 0 = a.toNat + 256 * b.toNat ∧
      okey 0 0 0x1017 0 ∈ t.mgmt.copies ∧
      ObjectsBut [okey 0 0 0x1017 0, okey 0 0 0x2004 1, okey 0 0 0x2004 5] s t ∧ KeepsAllBut [.mgmt, .objs, .twin] s t := by
  have ht := touches_confirmed (touches_takeEffect s (okey 0 0 0x1017 0) (a.toNat + 256 * b.toNat : Nat)) tr 0x1017 0
  refine completes_intro (exec_next_of he (State.write_accepted hl (writeObject_heartbeat h))) ⟨?_, ?_, ht.objects,
    (ht.mono (parts' := [.mgmt, .objs, .twin]) (by decide) (List.Subset.refl _)).frame⟩
  · rw [(touches_settle ..).obj (by decide), (touches_respond ..).obj (by decide), obj_takeEffect_self]
  · rw [settleRegister_mgmt_copies, State.respond_mgmt_copies]
    exact State.markCopy_mem isPersistent_heartbeat _

/-! ### An expedited download is a write -/

theorem State.expedited_eq_write (hlen : data.length ≤ 56) (hty : ∀ e, s.reach i j true = .ok e → e.ty ≠ .domain) :
    s.request (fun s => s.expedited tr i j data) = s.write tr i j data := by
  refine congrArg (fun u => if s.listens then settleRegister s u else s) ?_
  unfold State.expedited
  cases hreach : s.reach i j true with
  | error c => simp only [State.writeObject, hreach]
  | ok e =>
    have hfits : ¬(e.ty = .domain ∨ 56 < data.length) := by simp [hty e hreach, hlen]
    dsimp only
    rw [hreach]
    exact if_neg hfits

/-! ### A unit enable -/

theorem dictRecord_unitEnable : dictRecord 0x2010 = some (⟨0x2010, 1, [⟨0, 0, .uint 1, .const, false, 3, .any⟩, ⟨1, 1, .uint 1, .rw, true, 1, .oneOf [0, 1]⟩,
    ⟨2, 2, .uint 1, .rw, true, 255, .any⟩, ⟨3, 3, .uint 4, .rw, true, 16777215, .mask 0xffffff⟩]⟩, 0) := by decide +kernel

theorem memberOf_unitEnable (j : Nat) : memberOf (0x2010 + 0) j = none := by
  simp [memberOf]

theorem writeValue_unitEnable {v : Int} (hfree : s.unitScheduled j v.toNat = false) :
    s.writeValue 0x2010 0 j v data = (s.pendWrite 2 (okey 0 0 0x2010 j) v, none) := by
  unfold State.writeValue
  rw [memberOf_unitEnable]
  have htime : s.writeTime 0x2010 0 j v =
      some (attempt s (orRefuse (s.unitScheduled j v.toNat) 0x0A1E0015 (s.pendWrite 2 (okey 0 0 0x2010 j) v))) := rfl
  dsimp only
  rw [htime, hfree]
  rfl

/-! ### A member's shadow -/

theorem memberWriteOp_of_free {g n k : Nat} {v : Int} (hsteer : g = 0 → (s.base n).steered = false) (hw : s.isWaiting g n = false) :
    memberWriteOp g n k v s = .ok (s.writeShadow g n k v) := by
  have hfree : ¬(g = 0 ∧ (s.base n).steered = true) := fun ⟨hg, h⟩ => by simp [hsteer hg] at h
  rw [memberWriteOp, if_neg hfree, if_neg (by simp [hw])]

theorem writeValue_of_member {b m g n : Nat} {v : Int} (hmem : memberOf (b + m) j = some (g, n)) (hsteer : g = 0 → (s.base n).steered = false)
    (hw : s.isWaiting g n = false) : s.writeValue b m j v data = (s.writeShadow g n (okey 0 (s.itemOf (b + m) j) (b + m) j) v, none) := by
  unfold State.writeValue
  rw [hmem]
  exact congrArg (attempt s) (memberWriteOp_of_free hsteer hw)

theorem touches_writeShadow (s : State) (g n k : Nat) (v : Int) : Touches [.groups] [] s (s.writeShadow g n k v) := touches_groups s _

theorem State.isPending_congr {t : State} (h : t.groups = s.groups) (g n : Nat) : t.isPending g n = s.isPending g n := by
  rw [State.isPending, State.pendingMask, h, State.isPending, State.pendingMask]

/-- A write makes the set that it belongs to pending. -/
theorem State.isPending_writeShadow (s : State) (g n k : Nat) (v : Int) : (s.writeShadow g n k v).isPending g n = true := by
  unfold State.isPending State.pendingMask State.writeShadow State.setPending
  dsimp only
  rw [Table.look_put_self, bit_putBit]

theorem State.shadow_writeShadow (s : State) (g n k : Nat) (v : Int) : (s.writeShadow g n k v).groups.shadow.look noneOf k = some v := by
  unfold State.writeShadow State.setPending
  exact Table.look_put_self noneOf k (some v) s.groups.shadow

end Sys2Proof.Machine

namespace Sys2Proof.Proofs
open Sys2Proof Sys2Proof.Machine

/-- Settles O15: the four kinds of write by the route that their value takes. -/
theorem writesTakeEffectWhereTheirRuleSays : Obligations.WritesTakeEffectWhereTheirRuleSays := by
  intro s tr h0 h4
  have hl := listens_of h0 h4
  refine ⟨fun a b h => ⟨completes_heartbeat rfl hl h, completes_heartbeat (tr := tr) ?_ hl h⟩, fun i j data hlen hty => congrArg _ (State.expedited_eq_write hlen hty),
    fun j data e hreach hty hsize hrange hfree => ?_, fun i j data e r m g n hreach hrec hindex hty hsize hplate hrange hval hmem hsteer hw => ?_⟩
  · refine congrArg _ (State.expedited_eq_write (by simp) fun e he => ?_)
    rw [s.reach_heartbeat] at he
    cases he
    nofun
  · have hwrite := writeObject_of_checked hreach dictRecord_unitEnable hty hsize rfl hrange rfl
    rw [writeValue_unitEnable hfree] at hwrite
    have ht := touches_confirmed (touches_mgmt s (s.pendWrite 2 (okey 0 0 0x2010 j) (e.ty.decode data)).mgmt) tr 0x2010 j
    refine completes_intro (exec_next_of rfl (State.write_accepted hl hwrite)) ⟨?_, ht.objects, (ht.mono (parts' := [.mgmt, .objs, .twin]) (by decide) (List.Subset.refl _)).frame⟩
    rw [settleRegister_mgmt_pendWrites, State.respond_mgmt_pendWrites]
    exact List.mem_append_right _ (List.mem_singleton_self _)
  · have hwrite := writeObject_of_checked hreach hrec hty hsize hplate hrange hval
    rw [writeValue_of_member (by rw [hindex]; exact hmem) hsteer hw, hindex] at hwrite
    have ht := touches_confirmed (touches_writeShadow s g n (okey 0 (s.itemOf i j) i j) (e.ty.decode data)) tr i j
    have hgroups : (settleRegister s ((s.writeShadow g n (okey 0 (s.itemOf i j) i j) (e.ty.decode data)).respond tr (.downloaded i j))).groups =
        (s.writeShadow g n (okey 0 (s.itemOf i j) i j) (e.ty.decode data)).groups := by simp
    refine completes_intro (exec_next_of rfl (State.write_accepted hl hwrite)) ⟨?_, ?_, ht.objects, (ht.mono (parts' := [.mgmt, .objs, .twin, .groups]) (by decide) (List.Subset.refl _)).frame⟩
    · rw [State.isPending_congr hgroups, State.isPending_writeShadow]
    · rw [State.shadowKey, hgroups, State.shadow_writeShadow]; rfl

end Sys2Proof.Proofs
end

section
/-! PROOF. Agreement groups (R89 to R92, R94): commit, discard and the time-out of the shadow of one member set. -/

namespace Sys2Proof.Machine

variable {s : State} {g n mask : Nat}

/-! ### Moving the members of a set -/

theorem look_foldl_none (l : List Nat) (t : Table (Option Int)) (k : Nat) :
    (l.foldl (fun t k => t.put noneOf k none) t).look noneOf k = if k ∈ l then none else t.look noneOf k := by
  induction l generalizing t with
  | nil => simp
  | cons a l ih =>
    rw [List.foldl_cons, ih, Table.look_put]
    by_cases hk : k = a <;> simp [hk]

/-- Each shadow value of a set is moved to the values that wait. -/
def waitWith (shadow : Table (Option Int)) (t : Table (Option Int)) (k : Nat) : Table (Option Int) :=
  match shadow.look noneOf k with
  | none => t
  | some v => t.put noneOf k (some v)

theorem look_waitWith (shadow t : Table (Option Int)) (k j : Nat) :
    (waitWith shadow t k).look noneOf j = if j = k ∧ (shadow.look noneOf k).isSome then shadow.look noneOf k else t.look noneOf j := by
  unfold waitWith
  cases shadow.look noneOf k with
  | none => simp
  | some v => simp [Table.look_put]

theorem look_foldl_waitWith (shadow : Table (Option Int)) {l : List Nat} (t : Table (Option Int)) {k : Nat} {v : Int} (hv : shadow.look noneOf k = some v)
    (h : k ∈ l ∨ t.look noneOf k = some v) : (l.foldl (waitWith shadow) t).look noneOf k = some v := by
  induction l generalizing t with
  | nil => simpa using h
  | cons a l ih =>
    refine ih _ ?_
    rw [look_waitWith]
    by_cases hk : k = a
    · exact .inr (by rw [← hk, hv]; simp)
    · refine h.imp (fun h => ?_) fun h => by simp [hk, h]
      simpa [hk] using h

/-! ### The set that a mask names -/

theorem of_named (h : s.named g mask = [n]) : bit mask n = true ∧ s.isPending g n = true := by
  have hmem : n ∈ s.named g mask := by simp [h]
  exact Bool.and_eq_true_iff.1 (List.mem_filter.1 hmem).2

/-- The shadow values of one set among those that wait (R91). -/
def State.setMoved (s : State) (g n : Nat) : State :=
  { s with groups := { s.groups with waiting := (members g n).foldl (waitWith s.groups.shadow) s.groups.waiting,
                                     committedIn := s.groups.committedIn.put (fun _ => 0) (32 * g + n) s.clock.exposures } }

theorem State.commitOne_of_pending (h : s.isPending g n = true) :
    s.commitOne g n = ((s.setMoved g n).dropShadow g n).setWaiting g (putBit (s.waitingMask g) n true) := by
  rw [State.commitOne, if_neg (by simp [h])]
  rfl

theorem State.isPending_dropShadow (s : State) : (s.dropShadow g n).isPending g n = false := by
  unfold State.isPending State.pendingMask State.dropShadow State.setPending
  dsimp only
  rw [Table.look_put_self, bit_putBit]

theorem State.shadow_dropShadow (s : State) {k : Nat} (hk : k ∈ members g n) : (s.dropShadow g n).groups.shadow.look noneOf k = none :=
  (look_foldl_none ..).trans (if_pos hk)

theorem touches_dropShadow (s : State) (g n : Nat) : Touches [.groups] [] s (s.dropShadow g n) := touches_groups s _

theorem commitOne_groups (h : s.isPending g n = true) : (s.commitOne g n).isWaiting g n = true ∧ (s.commitOne g n).isPending g n = false ∧
    ∀ k ∈ members g n, (s.commitOne g n).groups.shadow.look noneOf k = none ∧
      ∀ v, s.groups.shadow.look noneOf k = some v → (s.commitOne g n).groups.waiting.look noneOf k = some v := by
  rw [State.commitOne_of_pending h]
  refine ⟨?_, (s.setMoved g n).isPending_dropShadow, fun k hk => ⟨State.shadow_dropShadow (s.setMoved g n) hk, fun v hv => ?_⟩⟩
  · unfold State.isWaiting State.waitingMask State.setWaiting
    dsimp only
    rw [Table.look_put_self, bit_putBit]
  · exact look_foldl_waitWith s.groups.shadow s.groups.waiting hv (.inl hk)

theorem touches_commitOne (h : s.isPending g n = true) : Touches [.groups] [] s (s.commitOne g n) := by
  rw [State.commitOne_of_pending h]
  exact touches_groups s _

/-! ### The checks of a commit, in their order -/

variable (hm : mask < 2 ^ groupCount g) (hw : mask &&& s.waitingMask g = 0) (hn : s.named g mask = [n])
  (hbusy : g = 2 → ∀ o < 4, bit mask o = true → s.opllBusy o = false)
include hm hw hn hbusy

/-- Up to the test of agreement nothing refuses the commit. -/
theorem commitOp_checked : commitOp g mask s = if !(s.asCommitted g mask).agrees g n then (s.setRefused g (maskOf [n]), some 0x0A1E0012)
    else if g = 5 ∧ s.modeRefused n ((s.asCommitted g mask).laneMode n) = true then (s, some 0x0A1E003D) else (s.commitOne g n, none) := by
  have hfree : ¬(g = 2 ∧ ((List.range 4).any fun o => bit mask o && s.opllBusy o) = true) := fun ⟨hg, hany⟩ => by
    obtain ⟨o, ho, hbit⟩ := List.any_eq_true.1 hany
    obtain ⟨hset, hopll⟩ := Bool.and_eq_true_iff.1 hbit
    simp [hbusy hg o (List.mem_range.1 ho) hset] at hopll
  unfold commitOp
  dsimp only
  rw [hn, if_neg (Nat.not_le.2 hm), if_neg (by simp [hw]), if_neg hfree]
  cases hagree : (s.asCommitted g mask).agrees g n <;> simp [hagree]

end Sys2Proof.Machine

namespace Sys2Proof.Machine

variable {s : State} {g n mask : Nat}

theorem discardOp_named (hm : mask < 2 ^ groupCount g) (hw : mask &&& s.waitingMask g = 0) (hn : s.named g mask = [n]) :
    discardOp g mask s = .ok (s.dropShadow g n) := by
  rw [discardOp, if_neg (Nat.not_le.2 hm), if_neg (by simp [hw]), hn]
  rfl

/-- The time-out of a shadow is noted in a bit of its own. -/
def State.timeoutNoted (s : State) (g n : Nat) : State :=
  { s with groups := { s.groups with reported := s.groups.reported.put (fun _ => 0) g (putBit (s.groups.reported.look (fun _ => 0) g) n true) } }

theorem State.timeoutNoted_reported (s : State) (g n : Nat) : bit ((s.timeoutNoted g n).groups.reported.look (fun _ => 0) g) n = true := by
  unfold State.timeoutNoted
  dsimp only
  rw [Table.look_put_self, bit_putBit]

theorem exec_shadowTimeout_due (hs : s.serving = true) (hp : s.isPending g n = true) (hr : bit (s.groups.reported.look (fun _ => 0) g) n = false)
    (hl : s.groups.since.look (fun _ => 0) (32 * g + n) + minute ≤ s.now) :
    exec (.shadowTimeout g n) s = .next ((s.timeoutNoted g n).emcy 0xFF10 0xFF (g * 2 ^ 24 + n * 2 ^ 16)) :=
  exec_while_serving hs rfl (if_neg (by simp [hp, hr, hl]))

theorem exec_shadowTimeout_reported (hs : s.serving = true) (hr : bit (s.groups.reported.look (fun _ => 0) g) n = true) :
    exec (.shadowTimeout g n) s = .next s := exec_while_serving hs rfl (if_pos (by simp [hr]))

end Sys2Proof.Machine

namespace Sys2Proof.Proofs
open Sys2Proof Sys2Proof.Machine

/-- Settles O16: the commit accepted, the commit refused, the discard and the time-out of the one set named. -/
theorem agreementGroupsCommitWhole : Obligations.AgreementGroupsCommitWhole := by
  intro s tr g n mask h0 h4 hp hg hm hw hn
  have hl := listens_of h0 h4
  have hgate (j : Nat) : s.gate (0x2080 + g) j = none := gate_none hp _ _ (by omega) (by omega) (by omega)
  obtain ⟨hbit, hpending⟩ := of_named hn
  refine ⟨fun hagree hbusy hmode => ?_, fun hagree hbusy => ?_, ?_, fun hr hpending hreported hlate => ?_⟩
  · have hop : commitOp g mask s = (s.commitOne g n, none) := by
      rw [commitOp_checked hm hw hn hbusy, if_neg (by simp [hagree]), if_neg fun ⟨hg, h⟩ => by simp [hmode hg] at h]
    have ht := touches_confirmed (touches_commitOne hpending) tr (0x2080 + g) 1
    have hgroups : (settleRegister s ((s.commitOne g n).respond tr (.downloaded (0x2080 + g) 1))).groups = (s.commitOne g n).groups := by simp
    obtain ⟨hwait, hpend, hmembers⟩ := commitOne_groups hpending
    refine completes_intro (exec_request hl rfl (State.commandA_accepted hl (hgate 1) hop))
      ⟨?_, ?_, ?_, ht.objects, (ht.mono (parts' := [.mgmt, .objs, .twin, .groups]) (by decide) (List.Subset.refl _)).frame⟩
    · rw [State.isWaiting, State.waitingMask, hgroups]; exact hwait
    · rw [State.isPending_congr hgroups]; exact hpend
    · rw [hgroups]; exact hmembers
  · have hop : commitOp g mask s = (s.setRefused g (maskOf [n]), some 0x0A1E0012) := by
      rw [commitOp_checked hm hw hn hbusy, if_pos (by simp [hagree])]
    have ht := ((touches_groups s (s.setRefused g (maskOf [n])).groups).andThen (touches_abort _ tr (0x2080 + g) 1 0x0A1E0012)).andThen (touches_settle s _)
    have hgroups : (settleRegister s ((s.setRefused g (maskOf [n])).abort tr (0x2080 + g) 1 0x0A1E0012)).groups = (s.setRefused g (maskOf [n])).groups := by simp
    have hkeys : ([] ++ [okey 0 0 0x2004 2, servedKey, lostKey] ++ [lostKey] : List Nat) ⊆ [okey 0 0 0x2004 1, okey 0 0 0x2004 2, okey 0 0 0x2004 5] := by
      simp [servedKey, lostKey]
    refine completes_intro (exec_request hl rfl (State.commandA_refused hl (hgate 1) hop)) ⟨?_, ?_, ?_, ?_, ?_, (ht.mono (parts' := _) (List.Subset.refl _) hkeys).objects,
      (ht.mono (parts' := [.mgmt, .objs, .twin, .groups]) (by decide) (List.Subset.refl _)).frame⟩
    · rw [State.refusedMask, hgroups]; exact Table.look_put_self ..
    all_goals rw [hgroups]; rfl
  · have ht := touches_confirmed (touches_dropShadow s g n) tr (0x2080 + g) 2
    have hgroups : (settleRegister s ((s.dropShadow g n).respond tr (.downloaded (0x2080 + g) 2))).groups = (s.dropShadow g n).groups := by simp
    refine completes_intro (exec_request hl rfl (command_ok hl (hgate 2) (discardOp_named hm hw hn)))
      ⟨?_, ?_, ?_, ht.objects, (ht.mono (parts' := [.mgmt, .objs, .twin, .groups]) (by decide) (List.Subset.refl _)).frame⟩
    · rw [State.isPending_congr hgroups, State.isPending_dropShadow]
    · rw [hgroups]; exact fun k hk => State.shadow_dropShadow s hk
    · rw [hgroups]; rfl
  · have hs := serving_of hp hr
    have ht := (touches_groups s (s.timeoutNoted g n).groups).andThen (touches_emcy _ 0xFF10 0xFF (g * 2 ^ 24 + n * 2 ^ 16))
    have hgroups : ((s.timeoutNoted g n).emcy 0xFF10 0xFF (g * 2 ^ 24 + n * 2 ^ 16)).groups = (s.timeoutNoted g n).groups := by simp
    have hboot : ((s.timeoutNoted g n).emcy 0xFF10 0xFF (g * 2 ^ 24 + n * 2 ^ 16)).boot = s.boot := by rw [State.emcy_boot]; rfl
    have hnoted : bit (((s.timeoutNoted g n).emcy 0xFF10 0xFF (g * 2 ^ 24 + n * 2 ^ 16)).groups.reported.look (fun _ => 0) g) n = true := by
      rw [hgroups]; exact s.timeoutNoted_reported g n
    refine completes_intro (exec_shadowTimeout_due hs hpending hreported hlate)
      ⟨hnoted, exec_shadowTimeout_reported (by rw [State.serving, hboot]; exact hs) hnoted, by rw [hgroups]; rfl, ht.objects,
        (ht.mono (parts' := [.mgmt, .objs, .groups]) (by decide) (List.Subset.refl _)).frame⟩

end Sys2Proof.Proofs
end

section
/-! PROOF. References (R123 to R143): the host's enables and selection, edges and measurements, and the changes of a reference's state. -/

namespace Sys2Proof.Machine

variable {s t : State} {r mask : Nat} {x : Int}

/-! ### Host commands -/

theorem referenceEnableOp_disable (s : State) (r : Nat) :
    referenceEnableOp r 0 s = .ok (s.setLoupe r { s.loupe r with pendEnable := some false }) := by simp [referenceEnableOp]

theorem referenceEnableOp_enable (h : s.enableRefused r = false) (hw : s.willEnable r = false) :
    referenceEnableOp r 1 s = .ok (s.setLoupe r { s.loupe r with pendEnable := some true }) := by simp [referenceEnableOp, h, hw]

theorem referenceEnableOp_refused (h : s.enableRefused r = true) : referenceEnableOp r 1 s = .error 0x0A1E0028 := by simp [referenceEnableOp, h]

/-- The write of one loupe reads back after the response, and every other loupe stands. -/
theorem sets_one_loupe (s : State) (r : Nat) (l : Loupe) (tr : Transport) (q : UsdoResponse) :
    ((s.setLoupe r l).respond tr q).loupe r = l ∧ ∀ k, k ≠ r → ((s.setLoupe r l).respond tr q).loupe k = s.loupe k :=
  ⟨by simp, fun k hk => by simp [State.loupe_setLoupe, hk]⟩

theorem manualSelectionOp_arm (hr : r < 32) (hon : s.obj (0x3100 + r) 1 ≠ 0) (hrank : s.rank r ≠ 0) :
    manualSelectionOp r s = .ok (({ s with refs := { s.refs with armed := true } } : State).takeEffect (okey 0 0 0x2300 1) r) := by
  rw [manualSelectionOp, if_neg (by omega), if_neg (by omega), if_neg (by simp [hon, hrank])]

theorem manualSelectionOp_refused (hr : r < 32) (h : s.obj (0x3100 + r) 1 = 0 ∨ s.rank r = 0) : manualSelectionOp r s = .error 0x0A1E0029 := by
  rw [manualSelectionOp, if_neg (by omega), if_neg (by omega), if_pos h]

/-- A selection, or its end, is a value in force beside the arming of the selector. -/
theorem confirms_selection {c : Instr} {tr : Transport} {v : Nat} {b : Bool} (hs : InService s)
    (he : exec c s = .next (s.command tr 0x2300 1 (manualSelectionOp r)))
    (ho : manualSelectionOp r s = .ok (({ s with refs := { s.refs with armed := b } } : State).takeEffect (okey 0 0 0x2300 1) v)) :
    Confirms c s [.refs] [okey 0 0 0x2300 1] fun t => t.refs = { s.refs with armed := b } ∧ t.obj 0x2300 1 = v := by
  have ht := (touches_refs s { s.refs with armed := b }).andThen (touches_takeEffect _ (okey 0 0 0x2300 1) v)
  refine confirms_touches he hs (gate_at hs _ _ (by decide) (by decide) (by decide)) ho
    (ht.mono (by decide) (by simp)) fun q => ⟨by rw [State.respond_refs]; exact (touches_takeEffect ..).frame .refs (by decide), ?_⟩
  rw [obj_respond _ _ _ _ _ (by decide) (by decide), obj_takeEffect_self]

/-! ### An edge at the pad -/

/-- The loupe after an edge at the pad. -/
def State.padEdge (s : State) (r : Nat) : Loupe := { s.loupe r with
  active := true, pads := ((s.loupe r).pads + 1) % 2 ^ 32, lastPad := some s.now, scaled := ((s.loupe r).scaled + 1) % s.prescaler r }

/-- An edge that the prescaler passes and that comes 100 ns or more after the last converted one is converted. -/
theorem State.refEdge_converted (hpass : (s.loupe r).scaled = 0) (hlast : ∀ c, (s.loupe r).lastEdge = some c → 100 ≤ s.now - c) :
    s.refEdge r x = (s.setLoupe r { s.padEdge r with lastEdge := some s.now }).tagItem (24 + r) tdcCycles (.refEdge s.now (s.refStamp r x)) := by
  refine if_pos ?_
  cases hc : (s.loupe r).lastEdge with
  | none => simp [hpass]
  | some c => simp [hpass, hlast c hc]

/-- Any other is counted alone. -/
theorem State.refEdge_counted (h : (s.loupe r).scaled ≠ 0 ∨ ∃ c, (s.loupe r).lastEdge = some c ∧ s.now - c < 100) :
    s.refEdge r x = s.setLoupe r (s.padEdge r) := by
  refine if_neg ?_
  rcases h with h | ⟨c, hc, hnear⟩
  · simp [h]
  · simp [hc, hnear]

theorem exec_refinEdge (hs : InService s) (hst : (s.loupe r).state ≠ 0) (hfault : bit s.intake.faults (24 + r) = false) :
    exec (.refinEdge r x) s = .next (s.refEdge r x) := exec_serving hs rfl (if_neg (by simp [hst, hfault]))

/-! ### Measurements -/

/-- The first measurement of a loupe has no prediction and too few points for a slope, so nothing is judged by it. -/
theorem State.measuredAt_first {n : Nat} {at32 : Int} (hm : (s.loupe r).meas = []) :
    s.measuredAt r n at32 x = s.setLoupe r { s.loupe r with meas := [(n, x)], x := x, xAt := at32, active := true, misses := 0 } := by
  have hpred : s.predicted r n = none := by rw [State.predicted, hm]
  have hslope : slopeOf [(n, x)] = none := rfl
  simp [State.measuredAt, hpred, hm, hslope]

theorem exec_loupeMeasurement (hs : InService s) (hst : (s.loupe r).state ≠ 0) (hfault : r < 16 → bit s.intake.faults (24 + r) = false)
    (hg : s.time.gate = false) (hu : s.refUnitOn r = true) : exec (.loupeMeasurement r x) s = .next (match s.refKind r with
      | 1 => if r < 16 then s.measurePeriod r else s.measured r x
      | 2 => s.measurePps r
      | _ => s.measured r (x - s.objI (0x3100 + r) 9)) := by
  refine exec_serving hs rfl (if_neg ?_)
  simp only [hst, hg, hu, false_or, or_self, Bool.false_eq_true, Bool.true_eq_false, or_false, not_and]
  exact fun hr => by simp [hfault hr]

/-- A measurement as the statement names its effect: one loupe written. -/
theorem turns_setLoupe {c : Instr} {l : Loupe} (he : exec c s = .next (s.setLoupe r l)) :
    Turns c s [.refs] [] fun t => t.loupe r = l ∧ ∀ k, k ≠ r → t.loupe k = s.loupe k :=
  have ht := touches_setLoupe s r l
  turns_of he ⟨by simp, fun k hk => by simp [State.loupe_setLoupe, hk]⟩ ht.objects ht.frame

theorem turns_setLoupe_twice {c : Instr} {l m : Loupe} (he : exec c s = .next ((s.setLoupe r m).setLoupe r l)) :
    Turns c s [.refs] [] fun t => t.loupe r = l ∧ ∀ k, k ≠ r → t.loupe k = s.loupe k :=
  have ht := (touches_setLoupe s r m).trans (touches_setLoupe _ r l)
  turns_of he ⟨by simp, fun k hk => by simp [State.loupe_setLoupe, hk]⟩ ht.objects ht.frame

theorem State.measurePeriod_first {n : Nat} {y st : Int} (hw : (s.loupe r).waiting = [(n, y)]) (hst : (s.loupe r).stamp = some st)
    (hm : (s.loupe r).meas = []) : s.measurePeriod r =
      (s.setLoupe r { s.loupe r with waiting := [] }).setLoupe r { s.loupe r with waiting := [], meas := [(n, y)], x := y, xAt := st, active := true, misses := 0 } := by
  have hfirst := State.measuredAt_first (s := s.setLoupe r { s.loupe r with waiting := [] }) (r := r) (n := n) (at32 := st) (x := y) (by simpa using hm)
  rw [State.loupe_setLoupe_self] at hfirst
  change (match (s.loupe r).waiting, (s.loupe r).stamp with
    | e :: _, some t => (s.setLoupe r { s.loupe r with waiting := [] }).measuredAt r e.1 t e.2
    | _, _ => s) = _
  rw [hw, hst]
  exact hfirst

/-- Without a prediction the first edge of a kind 2 reference is its measurement. -/
theorem State.measurePps_first {n : Nat} {st : Int} (hw : (s.loupe r).waiting = [(n, st)]) (hlabel : (ppsPhase st).natAbs < 400000000000)
    (hknown : (s.steer 0).known = true) (hm : (s.loupe r).meas = []) : s.measurePps r =
      (s.setLoupe r { s.loupe r with waiting := [] }).setLoupe r
        { s.loupe r with waiting := [], meas := [(n, ppsPhase st)], x := ppsPhase st, xAt := st, active := true, misses := 0 } := by
  have hpred : s.predicted r n = none := by rw [State.predicted, hm]
  have hsecond : s.predictedSecond r n st = none := by rw [State.predictedSecond, hpred]; rfl
  have hfirst := State.measuredAt_first (s := s.setLoupe r { s.loupe r with waiting := [] }) (r := r) (n := n) (at32 := st) (x := ppsPhase st) (by simpa using hm)
  rw [State.loupe_setLoupe_self] at hfirst
  have hpps : (s.setLoupe r { s.loupe r with waiting := [] }).measuredPps r n st (ppsPhase st) =
      (s.setLoupe r { s.loupe r with waiting := [] }).measuredAt r n st (ppsPhase st) := by
    refine if_neg ?_
    have hsteer : (s.setLoupe r { s.loupe r with waiting := [] }).steer 0 = s.steer 0 := rfl
    rw [hsteer, hknown]
    unfold labelLimit
    simp only [Bool.not_true, Bool.false_eq_true, or_false]
    omega
  unfold State.measurePps
  dsimp only
  rw [hw]
  dsimp only
  rw [hsecond]
  exact hpps.trans hfirst

/-! ### What leaves use holds its DPLLs over -/

/-- The counters that entries into and exits from holdover may change. -/
def holdoverKeys : List Nat := lostKey :: (List.range 16).map fun d => okey 0 0 (0x3200 + d) 0x0D

theorem holdoverKey_mem {d : Nat} (h : d < 16) : okey 0 0 (0x3200 + d) 0x0D ∈ holdoverKeys :=
  List.mem_cons_of_mem _ (List.mem_map.2 ⟨d, List.mem_range.2 h, rfl⟩)

/-- A change of one DPLL's holdover: its own record, its counter, an EMCY. -/
theorem touches_holdover {d : Nat} (hd : d < 16) (y : Dpll) (p q : Nat) :
    Touches [.synth, .mgmt, .objs] holdoverKeys s (((s.setDpll d y).bump (0x3200 + d) 0x0D).emcy 0xFF45 p q) :=
  ((touches_setDpll s d y).andThen ((touches_bump _ (0x3200 + d) 0x0D).andThen (touches_emcy _ 0xFF45 p q))).mono (by decide)
    (List.cons_subset.2 ⟨holdoverKey_mem hd, List.cons_subset.2 ⟨List.mem_cons_self, List.nil_subset _⟩⟩)

theorem touches_dpllHold {d : Nat} (hd : d < 16) : Touches [.synth, .mgmt, .objs] holdoverKeys s (s.dpllHold d) := by
  unfold State.dpllHold
  dsimp only
  split
  · exact .refl s
  · exact touches_holdover hd ..

theorem touches_dpllResume {d : Nat} (hd : d < 16) : Touches [.synth, .mgmt, .objs] holdoverKeys s (s.dpllResume d) := by
  unfold State.dpllResume
  dsimp only
  split
  · exact .refl s
  · exact touches_holdover hd ..

theorem touches_holdTrackers (s : State) (r : Nat) : Touches [.synth, .mgmt, .objs] holdoverKeys s (s.holdTrackers r) := by
  refine touches_foldl_mem (fun u d hd => ?_) s
  split
  · exact touches_dpllHold (List.mem_range.1 hd)
  · exact .refl u

theorem refSource_not_holdover (r : Nat) : okey 0 0 (0x3100 + r) 2 ∉ holdoverKeys := by
  simp only [holdoverKeys, lostKey, okey, List.mem_cons, List.mem_map, List.mem_range, not_or, not_exists, not_and]
  exact ⟨by omega, fun d _ => by omega⟩

theorem State.refUnitOn_holdTrackers (s : State) (r q : Nat) : (s.holdTrackers r).refUnitOn q = s.refUnitOn q := by
  have h := touches_holdTrackers s r
  rw [State.refUnitOn, State.refSource, h.obj (refSource_not_holdover q), h.obj (by decide), State.refUnitOn, State.refSource]

/-! ### A reference enters a state -/

/-- The loupe of a reference as it enters a state. -/
def State.entered (s : State) (r new reason : Nat) : Loupe :=
  let l := s.loupe r
  let keep := decide (l.state = 1) && decide (s.clock.reel - l.lostAt < s.obj (0x3100 + r) 0x0D)
  let l1 : Loupe := { l with since := s.now, disq := if new = 5 ∨ new = 6 then reason else l.disq }
  let l2 : Loupe :=
    if new = 1 then { l1 with active := false, samples := [], stamp := none, waiting := [], lostAt := s.clock.reel }
    else if new = 2 then l1.qualify (decide (s.refKind r = 1)) keep s.clock.reel
    else if new = 4 then { l1 with holdEnd := s.now + s.obj (0x3100 + r) 0x0C * 1000000000 }
    else l1
  { l2 with state := new }

/-- A disqualification leaves the measurements. -/
theorem State.entered_meas (s : State) (r reason : Nat) : (s.entered r 5 reason).meas = (s.loupe r).meas := rfl

/-- The counters of an entry into a state. -/
def State.stateCounted (s : State) (r old new reason : Nat) : State :=
  let s2 := if decide (old = 3 ∨ old = 4) && decide (new = 1 ∨ new = 5 ∨ new = 6) then s.setObj (0x3100 + r) 0x19 reason else s
  if new = 1 ∧ old ≠ 0 then s2.bump (0x3100 + r) 0x16 else if new = 5 then s2.bump (0x3100 + r) 0x17 else s2

/-- An entry into a state, recorded, counted and reported, unless the reference is there already. -/
def State.enter (s : State) (r new reason : Nat) : State :=
  if (s.loupe r).state = new ∧ (new ≠ 5 ∨ (s.loupe r).disq = reason) then s
  else ((s.setLoupe r (s.entered r new reason)).stateCounted r (s.loupe r).state new reason).report 0xFF 0x06 0xFFFF 0xFF30 0xFF
    (r * 2 ^ 24 + new * 2 ^ 16 + reason * 2 ^ 8)

/-- A reference whose unit is off is disqualified instead. -/
theorem State.setRef_eq (s : State) (r new reason : Nat) :
    s.setRef r new reason = if decide (1 ≤ new ∧ new ≤ 4) && !s.refUnitOn r then s.enter r 5 7 else s.enter r new reason := by
  unfold State.setRef
  cases decide (1 ≤ new ∧ new ≤ 4) && !s.refUnitOn r <;> rfl

/-- The values of a reference that an entry into a state may change. -/
def stateKeys (r : Nat) : List Nat := [okey 0 0 (0x3100 + r) 0x19, okey 0 0 (0x3100 + r) 0x16, okey 0 0 (0x3100 + r) 0x17, lostKey]

theorem touches_stateCounted (s : State) (r old new reason : Nat) : Touches [.objs] (stateKeys r) s (s.stateCounted r old new reason) := by
  have hout : Touches [.objs] (stateKeys r) s
      (if decide (old = 3 ∨ old = 4) && decide (new = 1 ∨ new = 5 ∨ new = 6) then s.setObj (0x3100 + r) 0x19 reason else s) := by
    split
    · exact (touches_setObj s (0x3100 + r) 0x19 reason).mono (by decide) (by simp [stateKeys])
    · exact .refl s
  unfold State.stateCounted
  dsimp only
  split
  · exact hout.trans ((touches_bump _ (0x3100 + r) 0x16).mono (by decide) (by simp [stateKeys]))
  · split
    · exact hout.trans ((touches_bump _ (0x3100 + r) 0x17).mono (by decide) (by simp [stateKeys]))
    · exact hout

theorem touches_enter (s : State) (r new reason : Nat) : Touches [.refs, .mgmt, .objs, .faults] (stateKeys r) s (s.enter r new reason) := by
  unfold State.enter
  split
  · exact .refl s
  · exact (((touches_setLoupe s r _).mono (by decide) (by simp)).trans ((touches_stateCounted _ r _ new reason).mono (by decide) (List.Subset.refl _))).trans
      ((touches_report ..).mono (by decide) (by simp [stateKeys]))

theorem touches_setRef (s : State) (r new reason : Nat) : Touches [.refs, .mgmt, .objs, .faults] (stateKeys r) s (s.setRef r new reason) := by
  rw [State.setRef_eq]
  split
  · exact touches_enter ..
  · exact touches_enter ..

theorem State.enter_refs {new reason : Nat} (hne : (s.loupe r).state ≠ new) :
    (s.enter r new reason).refs = (s.setLoupe r (s.entered r new reason)).refs := by
  rw [State.enter, if_neg (by simp [hne]), State.report_refs]
  exact (touches_stateCounted ..).frame .refs (by decide)

/-- A reference that may enter a state, and is not in it, enters it, and every other reference stands. -/
theorem State.setRef_loupe {new reason : Nat} (hu : s.refUnitOn r = true ∨ new = 5) (hne : (s.loupe r).state ≠ new) :
    (s.setRef r new reason).loupe r = s.entered r new reason ∧ ∀ k, k ≠ r → (s.setRef r new reason).loupe k = s.loupe k := by
  have hoff : (decide (1 ≤ new ∧ new ≤ 4) && !s.refUnitOn r) = false := by
    rcases hu with hu | rfl
    · simp [hu]
    · rfl
  have hrefs : (s.setRef r new reason).refs = (s.setLoupe r (s.entered r new reason)).refs := by
    rw [State.setRef_eq, hoff]
    exact State.enter_refs hne
  refine ⟨?_, fun k hk => ?_⟩
  · rw [State.loupe_congr hrefs, State.loupe_setLoupe_self]
  · rw [State.loupe_congr hrefs, State.loupe_setLoupe, if_neg hk]

/-- A reference leaves use: the DPLLs that track it hold over, then it enters its state. -/
theorem State.leaveUse {new reason : Nat} (hu : s.refUnitOn r = true ∨ new = 5) (hne : (s.loupe r).state ≠ new) :
    ∃ l : Loupe, l = (s.holdTrackers r).entered r new reason ∧ ((s.holdTrackers r).setRef r new reason).loupe r = l ∧
      (∀ k, k ≠ r → ((s.holdTrackers r).setRef r new reason).loupe k = s.loupe k) ∧
      ((s.holdTrackers r).setRef r new reason).clock = s.clock ∧ ((s.holdTrackers r).setRef r new reason).time = s.time ∧
      (s.holdTrackers r).loupe r = s.loupe r ∧ (s.holdTrackers r).clock = s.clock := by
  have hhold := touches_holdTrackers s r
  have hset := touches_setRef (s.holdTrackers r) r new reason
  have hloupe (k : Nat) : (s.holdTrackers r).loupe k = s.loupe k := State.loupe_congr (hhold.frame .refs (by decide)) k
  obtain ⟨hself, hother⟩ := State.setRef_loupe (s := s.holdTrackers r) (reason := reason) (by rw [State.refUnitOn_holdTrackers]; exact hu) (by rw [hloupe]; exact hne)
  exact ⟨_, rfl, hself, fun k hk => (hother k hk).trans (hloupe k), (hset.frame .clock (by decide)).trans (hhold.frame .clock (by decide)),
    (hset.frame .time (by decide)).trans (hhold.frame .time (by decide)), hloupe r, hhold.frame .clock (by decide)⟩

theorem State.now_congr (h : t.clock = s.clock) : t.now = s.now := by rw [State.now, h, State.now]

/-- A reference that becomes usable returns to the Developer and to its DPLLs; its loupe is what its entry leaves. -/
theorem State.requalify_refs (s : State) (r : Nat) :
    (s.requalify r).refs = (s.setRef r 3 (s.obj (0x3100 + r) 0x19)).refs ∧ (s.requalify r).time = s.time := by
  have hset := touches_setRef s r 3 (s.obj (0x3100 + r) 0x19)
  unfold State.requalify
  generalize s.setRef r 3 (s.obj (0x3100 + r) 0x19) = u at hset
  have hreturn : Touches [.dev] [] u (if u.inForce = some r then u.setSteer 0 { u.steer 0 with returning := true } else u) := by
    split
    · exact touches_setSteer ..
    · exact .refl u
  have hresume (v : State) : Touches [.synth, .mgmt, .objs] holdoverKeys v
      ((List.range 16).foldl (fun s d => if s.tracked d = some r then s.dpllResume d else s) v) := by
    refine touches_foldl_mem (fun w d hd => ?_) v
    split
    · exact touches_dpllResume (List.mem_range.1 hd)
    · exact .refl w
  refine ⟨((hresume _).frame .refs (by decide)).trans (hreturn.frame .refs (by decide)), ?_⟩
  exact ((hresume _).frame .time (by decide)).trans ((hreturn.frame .time (by decide)).trans (hset.frame .time (by decide)))

end Sys2Proof.Machine

namespace Sys2Proof.Proofs
open Sys2Proof Sys2Proof.Machine

/-- Settles O22: each host command by its own check. -/
theorem referencesAreEnabledAndSelectedByTheHost : Obligations.ReferencesAreEnabledAndSelectedByTheHost := by
  intro s tr r mask hs hr
  have hgate : s.gate (0x3100 + r) 1 = none := gate_at hs _ _ (by omega) (by omega) (by omega)
  have hselect (j : Nat) : s.gate 0x2300 j = none := gate_at hs _ _ (by decide) (by decide) (by decide)
  refine ⟨fun h hw => ?_, fun h => ?_, ?_, fun hon hrank => ?_, fun h => ?_, ?_, ?_⟩
  · exact confirms_part rfl hs hgate (referenceEnableOp_enable h hw) (touches_setLoupe ..) (sets_one_loupe s r _ tr)
  · exact refuses_of rfl hs hgate (referenceEnableOp_refused h)
  · exact confirms_part rfl hs hgate (referenceEnableOp_disable s r) (touches_setLoupe ..) (sets_one_loupe s r _ tr)
  · exact confirms_selection hs rfl (manualSelectionOp_arm hr hon hrank)
  · exact refuses_of rfl hs (hselect 1) (manualSelectionOp_refused hr h)
  · exact confirms_selection hs rfl (if_pos rfl)
  · exact confirms_part rfl hs (hselect 0x0A) rfl (touches_refs ..) fun q c => by simp

/-- Settles O23: edges, first measurements and changes of state, each by its condition. -/
theorem loupesMeasureAndReferencesChangeState : Obligations.LoupesMeasureAndReferencesChangeState := by
  intro s r x hs
  refine ⟨fun hst hfault l hl => ⟨fun hpass hlast hg => ?_, fun h => ?_⟩, fun hst => exec_serving hs rfl (if_pos (.inl hst)),
    fun hst hfault hg hu hm => ⟨fun hk y hy => ?_, fun hk hr => ?_, fun c y st hk hr hw hstamp => ?_, fun c st hk hw hlabel hknown => ?_⟩,
    fun hg hloss hu hst => ?_, fun h => ?_, fun hk hout hst => ?_, fun hin => ?_, fun hst hend hu => ?_, fun h => ?_⟩
  · have hexec := exec_refinEdge (x := x) hs hst hfault
    rw [State.refEdge_converted hpass hlast, tagItem_of_open (by exact hg)] at hexec
    have ht := (touches_setLoupe s r { s.padEdge r with lastEdge := some s.now }).andThen (touches_intake _ { s.intake with
      items := s.intake.items ++ [⟨24 + r, s.now + 8, s.tai, .refEdge s.now (s.refStamp r x)⟩] })
    refine turns_of hexec ⟨?_, fun k hk => ?_, rfl⟩ ht.objects (ht.mono (parts' := [.intake, .refs]) (by decide) (List.Subset.refl _)).frame
    · rw [hl]; exact State.loupe_setLoupe_self ..
    · exact (State.loupe_setLoupe ..).trans (if_neg hk)
  · rw [hl]
    exact turns_setLoupe ((exec_refinEdge hs hst hfault).trans (congrArg _ (State.refEdge_counted h)))
  · have hexec := exec_loupeMeasurement (x := x) hs hst hfault hg hu
    rw [hk] at hexec
    rw [hy]
    exact turns_setLoupe (hexec.trans (congrArg _ (State.measuredAt_first hm)))
  · have hexec := exec_loupeMeasurement (x := x) hs hst hfault hg hu
    rw [hk] at hexec
    exact turns_setLoupe (hexec.trans (congrArg _ ((if_neg (by omega)).trans (State.measuredAt_first hm))))
  · have hexec := exec_loupeMeasurement (x := x) hs hst hfault hg hu
    rw [hk] at hexec
    exact turns_setLoupe_twice (hexec.trans (congrArg _ ((if_pos hr).trans (State.measurePeriod_first hw hstamp hm))))
  · have hexec := exec_loupeMeasurement (x := x) hs hst hfault hg hu
    rw [hk] at hexec
    exact turns_setLoupe_twice (hexec.trans (congrArg _ (State.measurePps_first hw hlabel hknown hm)))
  · have hlost : s.refLost r 1 = (s.holdTrackers r).setRef r 1 1 := (if_neg (by omega)).trans (if_neg (by omega))
    obtain ⟨l, rfl, hself, hother, hclock, htime, -, hnow⟩ := State.leaveUse (reason := 1) (.inl hu) (show (s.loupe r).state ≠ 1 by omega)
    refine completes_intro (exec_serving hs rfl ((if_neg (by simp [hg, hloss])).trans hlost)) ⟨?_, ?_, ?_, ?_, hother, hclock, congrArg Time.bases htime⟩
    · rw [hself]; rfl
    · rw [hself]; rfl
    · rw [hself]; rfl
    · rw [hself]; exact State.now_congr hnow
  · exact exec_serving hs rfl (if_pos (by simpa using h))
  · have hdisq : s.disqualify r 2 = (s.holdTrackers r).setRef r 5 2 := if_pos hst
    obtain ⟨l, rfl, hself, hother, hclock, htime, hloupe, -⟩ := State.leaveUse (reason := 2) (.inr rfl) (show (s.loupe r).state ≠ 5 by omega)
    refine completes_intro (exec_serving hs rfl ((if_pos ⟨hk, hout⟩).trans hdisq)) ⟨?_, ?_, ?_, hother, hclock, congrArg Time.bases htime⟩
    · rw [hself]; rfl
    · rw [hself]; rfl
    · rw [hself, State.entered_meas, hloupe]
  · exact exec_serving hs rfl (if_neg fun ⟨_, h⟩ => absurd h (by omega))
  · obtain ⟨hrefs, htime⟩ := s.requalify_refs r
    obtain ⟨hself, hother⟩ := State.setRef_loupe (reason := s.obj (0x3100 + r) 0x19) (.inl hu) (show (s.loupe r).state ≠ 3 by omega)
    refine completes_intro (exec_serving hs rfl (if_pos ⟨hst, hend⟩)) ⟨?_, ?_, fun k hk => ?_, tick_clock (State.requalify_tick s r), congrArg Time.bases htime⟩
    · rw [State.loupe_congr hrefs, hself]; rfl
    · rw [State.loupe_congr hrefs, hself]; rfl
    · rw [State.loupe_congr hrefs, hother k hk]
  · exact exec_serving hs rfl (if_neg fun ⟨hst, hend⟩ => h.elim (· hst) fun h => absurd hend (by omega))

end Sys2Proof.Proofs
end

section
/-! PROOF. What a fault may change (R372, R373, R384, R387 to R394): the record, the plates, and what a demotion touches; all else stands. -/

namespace Sys2Proof.Machine

variable {s t : State}

/-- From `s` to `t` only the listed parts may differ; of the objects nothing is said beside. -/
structure Within (parts : List Part) (s t : State) : Prop where
  frame : KeepsAllBut parts s t

variable {parts parts' : List Part} {keys : List Nat} {u : State}

theorem Within.refl (s : State) : Within parts s s := ⟨keeps_refl _ s⟩

theorem Within.trans (h : Within parts s t) (g : Within parts t u) : Within parts s u := ⟨keeps_trans h.frame g.frame⟩

theorem Within.mono (h : Within parts s t) (hp : parts ⊆ parts') : Within parts' s t := ⟨keeps_weaken h.frame fun _ => @hp _⟩

/-- The frame of an update, in a wider list of parts. -/
theorem Touches.within (h : Touches parts keys s t) (hp : parts ⊆ parts') : Within parts' s t := ⟨keeps_weaken h.frame fun _ => @hp _⟩

theorem within_foldl {α : Type} {f : State → α → State} (h : ∀ s a, Within parts s (f s a)) (l : List α) (s : State) :
    Within parts s (l.foldl f s) := by
  induction l generalizing s with
  | nil => exact .refl s
  | cons a r ih => exact (h s a).trans (ih _)

theorem within_ite {c : Prop} [Decidable c] {a b : State} (ha : Within parts s a) (hb : Within parts s b) : Within parts s (if c then a else b) := by
  split
  · exact ha
  · exact hb

/-- A step over distinct numbers that gives the record of each to `G`: every record of the list is changed so, every other stands. -/
theorem bank_foldl {α : Type} {look : State → Nat → α} {f : State → Nat → State} {G : Nat → α → α} {P : State → Prop} (hP : ∀ u k, P u → P (f u k))
    (hf : ∀ u k j, P u → look (f u k) j = if j = k then G k (look u k) else look u j) {l : List Nat} (hl : l.Nodup) (hs : P s) (j : Nat) :
    look (l.foldl f s) j = if j ∈ l then G j (look s j) else look s j := by
  induction l generalizing s with
  | nil => rfl
  | cons a r ih =>
    obtain ⟨ha, hr⟩ := List.nodup_cons.1 hl
    rw [List.foldl_cons, ih hr (hP s a hs), hf s a j hs]
    rcases eq_or_ne j a with rfl | hja
    · rw [if_neg ha, if_pos rfl, if_pos List.mem_cons_self]
    · rw [if_neg hja]
      exact if_congr (by simp [hja]) rfl rfl

theorem touches_setPlate (s : State) (p : Nat) (x : Plate) : Touches [.twin] [] s (s.setPlate p x) := touches_part rfl (keeps_twin s _)
theorem touches_setLine (s : State) (p n : Nat) (x : Line) : Touches [.faults] [] s (s.setLine p n x) := touches_part rfl (keeps_faults s _)
theorem touches_setChannel (s : State) (c : Nat) (x : Channel) : Touches [.synth] [] s (s.setChannel c x) := touches_part rfl (keeps_synth s _)
theorem touches_record (s : State) (p k l c d : Nat) : Touches [.faults] [] s (s.record p k l c d) := touches_part rfl (keeps_faults s _)

/-- The parts that the collector, a demotion and a darkroom fault may change. -/
def faultParts : List Part := [.objs, .mgmt, .darkroom, .twin, .faults, .synth, .ports, .fabric]

/-- From `s` to `t` only these parts may differ, and of the synthesis the clock channels alone: a merged channel changes its side. -/
structure FaultOnly (s t : State) : Prop where
  frame : KeepsAllBut faultParts s t
  synth : t.synth = { s.synth with channels := t.synth.channels }

theorem FaultOnly.refl (s : State) : FaultOnly s s := ⟨keeps_refl _ s, rfl⟩

theorem FaultOnly.trans (h : FaultOnly s t) (g : FaultOnly t u) : FaultOnly s u := ⟨keeps_trans h.frame g.frame, by rw [g.synth, h.synth]⟩

theorem Touches.faultOnly (h : Touches parts keys s t) (hp : parts ⊆ faultParts) (hs : Part.synth ∉ parts) : FaultOnly s t :=
  ⟨keeps_weaken h.frame fun _ => @hp _, by rw [h.frame .synth hs]⟩

theorem faultOnly_foldl {α : Type} {f : State → α → State} (h : ∀ s a, FaultOnly s (f s a)) (l : List α) (s : State) : FaultOnly s (l.foldl f s) := by
  induction l generalizing s with
  | nil => exact .refl s
  | cons a r ih => exact (h s a).trans (ih _)

theorem faultOnly_ite {c : Prop} [Decidable c] {a b : State} (ha : FaultOnly s a) (hb : FaultOnly s b) : FaultOnly s (if c then a else b) := by
  split
  · exact ha
  · exact hb

theorem faultOnly_setChannel (s : State) (c : Nat) (x : Channel) : FaultOnly s (s.setChannel c x) :=
  ⟨keeps_weaken (touches_setChannel s c x).frame (by decide), rfl⟩

/-- The output PLLs stand. -/
theorem FaultOnly.opll (h : FaultOnly s t) (o : Nat) : t.opll o = s.opll o := by rw [State.opll, h.synth, State.opll]

theorem faultOnly_plateState (s : State) (p new cause : Nat) : FaultOnly s (s.plateState p new cause) := by
  unfold State.plateState
  refine faultOnly_ite (.refl s) (FaultOnly.trans ?_ ((touches_report ..).faultOnly (by decide) (by decide)))
  exact faultOnly_ite (FaultOnly.trans ((touches_setPlate ..).faultOnly (by decide) (by decide)) ((touches_twin ..).faultOnly (by decide) (by decide))) ((touches_setPlate ..).faultOnly (by decide) (by decide))

theorem touches_openGap (s : State) : Touches [.twin, .mgmt, .objs] [okey 0 0 0x2C00 0x0B] s s.openGap := by
  unfold State.openGap
  split
  · exact .refl s
  · exact ((touches_twin s _).andThen (touches_takeEffect ..)).mono (by decide) (List.Subset.refl _)

theorem touches_stopResync (s : State) : Touches [.twin] [] s s.stopResync := touches_twin s _

theorem touches_txComplete (s : State) (lane id status : Nat) (copy : Bool) (time : Nat) :
    Touches [.ports, .mgmt, .objs] [okey 0 0 (0x3400 + s.portNumber lane) 0x12, lostKey] s (s.txComplete lane id status copy time) := by
  unfold State.txComplete
  dsimp only
  split
  · have hcount := (touches_setPort s (s.portNumber lane) { s.port (s.portNumber lane) with
      gap := true, sticky := putBit (s.port (s.portNumber lane)).sticky 0 true }).andThen (touches_bump _ (0x3400 + s.portNumber lane) 0x12)
    split
    · exact hcount.mono (by decide) (by simp)
    · exact (hcount.andThen (touches_emcy ..)).mono (by decide) (by simp)
  · exact (touches_setPort ..).mono (by decide) (List.nil_subset _)

theorem faultOnly_txComplete (s : State) (lane id status : Nat) (copy : Bool) (time : Nat) :
    FaultOnly s (s.txComplete lane id status copy time) := (touches_txComplete ..).faultOnly (by decide) (by decide)

theorem faultOnly_switchMerged (s : State) : FaultOnly s s.switchMerged := by
  refine faultOnly_foldl (fun u c => ?_) _ s
  exact faultOnly_ite (.refl u) (faultOnly_ite ((faultOnly_setChannel ..).trans ((touches_bump ..).faultOnly (by decide) (by decide))) (faultOnly_setChannel ..))

theorem faultOnly_realign (s t : State) : FaultOnly t (State.realign s t) := by
  refine faultOnly_foldl (fun u pos => ?_) _ t
  exact faultOnly_ite (.refl u) ((touches_setPort ..).faultOnly (by decide) (by decide))

theorem faultOnly_withholdCopies (s : State) (p : Nat) : FaultOnly s (s.withholdCopies p) := by
  refine faultOnly_foldl (fun u f => ?_) _ s
  cases f.request with
  | none => exact .refl u
  | some id => exact faultOnly_ite (.refl u) (faultOnly_txComplete ..)

/-- A fatal fault of the last plate is recorded and opens a service gap (R384, R385). -/
def State.gapOpened (s : State) (p : Nat) : State :=
  ((s.setPlate p { s.plate p with fatalLast := true }).report p 0x06 0xFFFF 0xFFA4 0xFF (p * 2 ^ 24)).openGap

def State.lastGap (s : State) (p : Nat) : State := { s.gapOpened p with twin := { (s.gapOpened p).twin with lastPlateGap := true } }

theorem State.lastPlateFatal_eq (s : State) (p : Nat) : s.lastPlateFatal p =
    if ((s.lastGap p).plate (1 - p)).state = 4 then (s.lastGap p).stopResync.plateState (1 - p) 3 7 else s.lastGap p := rfl

theorem faultOnly_lastGap (s : State) (p : Nat) : FaultOnly s (s.lastGap p) :=
  ((((touches_setPlate s p _).andThen (touches_report ..)).andThen (touches_openGap _)).faultOnly (by decide) (by decide)).trans
    ((touches_twin ..).faultOnly (by decide) (by decide))

theorem faultOnly_lastPlateFatal (s : State) (p : Nat) : FaultOnly s (s.lastPlateFatal p) := by
  rw [State.lastPlateFatal_eq]
  exact faultOnly_ite (((faultOnly_lastGap s p).trans ((touches_stopResync _).faultOnly (by decide) (by decide))).trans (faultOnly_plateState ..))
    (faultOnly_lastGap s p)

/-- A demoted plate is set aside: its state, the count, and the end of a re-synchronisation (R373, R382). -/
def State.setAside (s : State) (p cause : Nat) : State :=
  let s2 := ((s.plateState p 2 cause).bump 0x2C00 5).stopResync
  { s2 with twin := { s2.twin with digestsEqual := false, swapPending := false } }

/-- A demoted active plate hands its role to a standby (R373). -/
def State.handOver (s : State) (p cause : Nat) : State :=
  if s.twin.active = p ∧ (s.plate (1 - p)).state = 1 then
    (({ s with twin := { s.twin with active := 1 - p } } : State).plateState (1 - p) 0 cause).switchMerged
  else s

theorem State.demote_eq (s : State) (p cause : Nat) :
    s.demote p cause = (State.realign s (((s.setAside p cause).handOver p cause).dropSide p)).withholdCopies p := rfl

theorem faultOnly_setAside (s : State) (p cause : Nat) : FaultOnly s (s.setAside p cause) :=
  ((faultOnly_plateState s p 2 cause).trans ((touches_bump _ 0x2C00 5).faultOnly (by decide) (by decide))).trans
    (((touches_stopResync _).faultOnly (by decide) (by decide)).trans ((touches_twin ..).faultOnly (by decide) (by decide)))

theorem faultOnly_handOver (s : State) (p cause : Nat) : FaultOnly s (s.handOver p cause) :=
  faultOnly_ite ((((touches_twin s _).faultOnly (by decide) (by decide)).trans (faultOnly_plateState ..)).trans (faultOnly_switchMerged _)) (.refl s)

theorem faultOnly_demote (s : State) (p cause : Nat) : FaultOnly s (s.demote p cause) := by
  rw [State.demote_eq]
  exact ((((faultOnly_setAside s p cause).trans (faultOnly_handOver ..)).trans ((touches_fabric ..).faultOnly (by decide) (by decide))).trans
    (faultOnly_realign ..)).trans (faultOnly_withholdCopies ..)

theorem faultOnly_fatalOn (s : State) (p : Nat) : FaultOnly s (s.fatalOn p) := by
  unfold State.fatalOn
  split
  · exact faultOnly_ite (faultOnly_demote ..) (faultOnly_lastPlateFatal ..)
  · exact faultOnly_demote ..
  · exact faultOnly_demote ..
  · exact faultOnly_plateState ..
  · exact .refl s

theorem touches_latchHard (s : State) (p ln cls detail injected : Nat) :
    Touches [.faults, .twin, .mgmt, .objs] [lostKey] s (s.latchHard p ln cls detail injected) :=
  ((((touches_setLine ..).andThen (touches_setPlate ..)).andThen (touches_record ..)).andThen (touches_emcy ..)).mono (by decide) (List.Subset.refl _)

/-- An event latches on its line, its plate and the record. -/
theorem touches_latch (s : State) (p ln cls detail : Nat) (injected : Bool) :
    Touches [.faults, .twin, .mgmt, .objs] [lostKey] s (s.latch p ln cls detail injected).1 := by
  have hemcy (u : State) (c p d : Nat) : Touches [.faults, .twin, .mgmt, .objs] [lostKey] u (u.emcy c p d) :=
    (touches_emcy u c p d).mono (by decide) (List.Subset.refl _)
  have hrecord (u : State) (p k l c d : Nat) : Touches [.faults, .twin, .mgmt, .objs] [lostKey] u (u.record p k l c d) :=
    (touches_record u p k l c d).mono (by decide) (List.nil_subset _)
  have hline (u : State) (x : Line) : Touches [.faults, .twin, .mgmt, .objs] [lostKey] u (u.setLine p ln x) :=
    (touches_setLine u p ln x).mono (by decide) (List.nil_subset _)
  unfold State.latch
  dsimp only
  split
  · split
    · refine Touches.trans ?_ (touches_latchHard ..)
      split
      · refine Touches.trans ?_ (hemcy ..)
        split
        · exact (hline ..).trans (hrecord ..)
        · exact (hline ..).trans (hrecord ..)
      · split
        · exact (hline ..).trans (hrecord ..)
        · exact hline ..
    · dsimp only
      split
      · refine Touches.trans ?_ (hemcy ..)
        split
        · exact (hline ..).trans (hrecord ..)
        · exact (hline ..).trans (hrecord ..)
      · split
        · exact (hline ..).trans (hrecord ..)
        · exact hline ..
  · exact touches_latchHard ..

theorem faultOnly_darkroomFault (s : State) : FaultOnly s s.darkroomFault := by
  unfold State.darkroomFault
  dsimp only
  exact faultOnly_ite ((touches_darkroom ..).faultOnly (by decide) (by decide)) (((touches_darkroom ..).andThen (touches_report ..)).faultOnly (by decide) (by decide))

/-- The blocks whose lines latched fatal on both plates become not ready (R394). -/
def State.holdBlocks (s : State) (both : List Nat) : State :=
  both.foldl (fun t n =>
    ({ t with faults := { t.faults with notReadyNext := t.faults.notReadyNext ++ [n] } } : State).emcy 0xFFBB 0xFF (n * 2 ^ 24)) s

/-- The plates' actions on the lines that latched fatal on one plate alone (R372). -/
def State.actOn (s : State) (a b : List Nat) : State :=
  if a ≠ [] ∧ b ≠ [] then
    if s.paired then (s.demote (1 - s.twin.active) 1).lastPlateFatal s.twin.active
    else (s.fatalOn s.twin.active).fatalOn (1 - s.twin.active)
  else if a ≠ [] then s.fatalOn 0
  else if b ≠ [] then s.fatalOn 1
  else s

theorem State.actFatal_eq (s : State) (a b : List Nat) : s.actFatal a b =
    (s.holdBlocks (a.filter fun n => b.contains n)).actOn (a.filter fun n => !(a.filter fun n => b.contains n).contains n)
      (b.filter fun n => !(a.filter fun n => b.contains n).contains n) := rfl

theorem faultOnly_actOn (s : State) (a b : List Nat) : FaultOnly s (s.actOn a b) := by
  unfold State.actOn
  refine faultOnly_ite (faultOnly_ite ?_ ?_) (faultOnly_ite ?_ (faultOnly_ite ?_ (.refl s)))
  · exact (faultOnly_demote ..).trans (faultOnly_lastPlateFatal ..)
  · exact (faultOnly_fatalOn ..).trans (faultOnly_fatalOn ..)
  · exact faultOnly_fatalOn ..
  · exact faultOnly_fatalOn ..

theorem faultOnly_actFatal (s : State) (a b : List Nat) : FaultOnly s (s.actFatal a b) := by
  rw [State.actFatal_eq]
  exact (faultOnly_foldl (fun u n => ((touches_faults u _).andThen (touches_emcy _ _ _ _)).faultOnly (by decide) (by decide)) _ s).trans (faultOnly_actOn ..)

/-- One event of a cycle, with the lines that latched fatal on either plate so far. -/
def latchOne (injected : Bool) (acc : State × List Nat × List Nat) (e : LineEvent) : State × List Nat × List Nat :=
  let (t, c) := acc.1.latch e.plate e.line e.cls e.detail injected
  if c = 3 ∧ e.line = darkroomLine ∧ injected = false then (t.darkroomFault, acc.2.1, acc.2.2)
  else if c = 3 then (if e.plate = 0 then (t, acc.2.1 ++ [e.line], acc.2.2) else (t, acc.2.1, acc.2.2 ++ [e.line]))
  else (t, acc.2.1, acc.2.2)

/-- The events latch one by one and are acted on together. -/
theorem State.latchAll_eq (s : State) (events : List LineEvent) (injected : Bool) : s.latchAll events injected =
    (events.foldl (latchOne injected) (s, [], [])).1.actFatal (events.foldl (latchOne injected) (s, [], [])).2.1
      (events.foldl (latchOne injected) (s, [], [])).2.2 := rfl

theorem faultOnly_latchOne (injected : Bool) (acc : State × List Nat × List Nat) (e : LineEvent) :
    FaultOnly acc.1 (latchOne injected acc e).1 := by
  have hlatch := (touches_latch acc.1 e.plate e.line e.cls e.detail injected).faultOnly (by decide) (by decide)
  unfold latchOne
  dsimp only
  split
  · exact FaultOnly.trans hlatch (faultOnly_darkroomFault _)
  · split
    · split
      · exact hlatch
      · exact hlatch
    · exact hlatch

theorem faultOnly_latches (injected : Bool) (events : List LineEvent) (acc : State × List Nat × List Nat) :
    FaultOnly acc.1 (events.foldl (latchOne injected) acc).1 := by
  induction events generalizing acc with
  | nil => exact .refl _
  | cons e r ih => exact FaultOnly.trans (faultOnly_latchOne injected acc e) (ih _)

theorem faultOnly_latchAll (s : State) (events : List LineEvent) (injected : Bool) : FaultOnly s (s.latchAll events injected) := by
  rw [State.latchAll_eq]
  exact FaultOnly.trans (faultOnly_latches injected events (s, [], [])) (faultOnly_actFatal ..)

theorem faultOnly_containedBoth (s : State) (ln detail : Nat) : FaultOnly s (s.containedBoth ln detail) := faultOnly_latchAll ..

theorem faultOnly_containedOn (s : State) (p ln detail : Nat) : FaultOnly s (s.containedOn p ln detail) := faultOnly_latchAll ..

theorem faultOnly_skip (s : State) (line : Nat) : FaultOnly s (s.skip line) :=
  FaultOnly.trans (faultOnly_foldl (fun _ _ => (touches_bumpKey ..).faultOnly (by decide) (by decide)) _ s) (faultOnly_containedBoth ..)

end Sys2Proof.Machine
end

section
/-! PROOF. Link states (R242, R247, R262, R263): a step over the lanes of a port changes each lane by its own record. -/

namespace Sys2Proof.Machine

variable {s t : State} {n : Nat}

/-! ### The lanes of a port -/

/-- The lanes of a port are distinct, and its own lane is among them (R239). -/
theorem State.portLanes_nodup (s : State) (n : Nat) : (s.portLanes n).Nodup := by
  unfold State.portLanes
  split
  · exact List.nodup_range.map fun a b h => by omega
  · exact List.nodup_singleton n

theorem State.mem_portLanes (s : State) (n : Nat) : n ∈ s.portLanes n := by
  unfold State.portLanes
  split
  · exact List.mem_map.2 ⟨n % 4, List.mem_range.2 (Nat.mod_lt _ (by decide)), by omega⟩
  · exact List.mem_singleton.2 rfl

theorem State.laneMode_congr (h : t.objs = s.objs) (n : Nat) : t.laneMode n = s.laneMode n := obj_of_objs h _ _

theorem State.portLanes_setPort (s : State) (n k : Nat) (x : Port) : (s.setPort k x).portLanes n = s.portLanes n := rfl

theorem State.portLanes_congr (h : t.laneMode n = s.laneMode n) : t.portLanes n = s.portLanes n := by rw [State.portLanes, h, State.portLanes]

/-- A step over distinct lanes that keeps the clock and gives each lane's record to `G`. -/
theorem port_foldl {f : State → Nat → State} {G : Port → Port} (hclock : ∀ u k, (f u k).clock = u.clock)
    (hf : ∀ u k j, u.clock = s.clock → (f u k).port j = if j = k then G (u.port k) else u.port j) {l : List Nat} (hl : l.Nodup)
    (j : Nat) : (l.foldl f s).port j = if j ∈ l then G (s.port j) else s.port j :=
  bank_foldl (look := State.port) (G := fun _ => G) (P := fun u => u.clock = s.clock) (fun u k hu => (hclock u k).trans hu) hf hl rfl j

/-! ### A change of link state -/

theorem touches_listenersUp (s : State) (pos : Nat) : Touches [.serve] [] s (s.listenersUp pos) := by
  refine touches_foldl (fun u i => ?_) _ s
  dsimp only
  split
  · exact touches_serve u _
  · exact .refl u

/-- Above the link states that carry no frames, the positions that wait for a lane begin their wait. -/
theorem touches_setLink (s : State) (n st : Nat) : Touches [.ports, .mgmt, .objs, .serve] [lostKey] s (s.setLink n st) := by
  unfold State.setLink
  dsimp only
  have hchange := ((touches_setPort s n { s.port n with link := st }).andThen (touches_emcy _ 0xFF60 (n / 12) (n * 2 ^ 24 + st * 2 ^ 16)))
  split
  · exact .refl s
  · split
    · exact (hchange.andThen (touches_listenersUp ..)).mono (by decide) (List.Subset.refl _)
    · exact hchange.mono (by decide) (List.Subset.refl _)

theorem touches_setLink_low {st : Nat} (h : st ≠ 4 ∧ st ≠ 5) (s : State) (n : Nat) : Touches [.ports, .mgmt, .objs] [lostKey] s (s.setLink n st) := by
  unfold State.setLink
  dsimp only
  split
  · exact .refl s
  · rw [if_neg (by omega)]
    exact ((touches_setPort s n { s.port n with link := st }).andThen (touches_emcy ..)).mono (by decide) (List.Subset.refl _)

theorem State.port_emcy (s : State) (c p d k : Nat) : (s.emcy c p d).port k = s.port k := State.port_congr ((touches_emcy s c p d).frame .ports (by decide)) k

theorem State.port_setLink (s : State) (n st k : Nat) : (s.setLink n st).port k = if k = n then { s.port n with link := st } else s.port k := by
  have hchange : ((s.setPort n { s.port n with link := st }).emcy 0xFF60 (n / 12) (n * 2 ^ 24 + st * 2 ^ 16)).port k =
      if k = n then { s.port n with link := st } else s.port k := by rw [State.port_emcy, State.port_setPort]
  unfold State.setLink
  dsimp only
  split
  case isTrue h =>
    split
    case isTrue hk => rw [hk, ← h]
    case isFalse => rfl
  case isFalse =>
    split
    · rw [State.port_congr ((touches_listenersUp _ _).frame .ports (by decide)), hchange]
    · exact hchange

/-- A lane's record changed and its link state after it. -/
theorem State.port_moved (u : State) (k st : Nat) (x : Port) (j : Nat) :
    ((u.setPort k x).setLink k st).port j = if j = k then { x with link := st } else u.port j := by
  rw [State.port_setLink, State.port_setPort, if_pos rfl]
  rcases eq_or_ne j k with rfl | h
  · rw [if_pos rfl, if_pos rfl]
  · rw [if_neg h, if_neg h, State.port_setPort, if_neg h]

theorem touches_moved (u : State) (k st : Nat) (x : Port) : Touches [.ports, .mgmt, .objs, .serve] [lostKey] u ((u.setPort k x).setLink k st) :=
  ((touches_setPort u k x).andThen (touches_setLink _ k st)).mono (by decide) (List.Subset.refl _)

theorem touches_moved_low {st : Nat} (h : st ≠ 4 ∧ st ≠ 5) (u : State) (k : Nat) (x : Port) :
    Touches [.ports, .mgmt, .objs] [lostKey] u ((u.setPort k x).setLink k st) :=
  ((touches_setPort u k x).andThen (touches_setLink_low h _ k)).mono (by decide) (List.Subset.refl _)

/-! ### Calibration hold and the debounce, lane by lane -/

/-- A lane in calibration hold since `now` (R247). -/
def Port.held (x : Port) (now : Nat) : Port := { x with link := 4, holdSince := some now, calSince := now, passed := none, calFails := 0 }

theorem Port.held_of_unfaulted {x : Port} (h : x.faultSince = none) (now : Nat) : x.held now = { x.held now with faultSince := none } := by
  cases x
  cases h
  rfl

theorem touches_startHold (s : State) (n : Nat) : Touches [.ports, .mgmt, .objs, .serve] [lostKey] s (s.startHold n) :=
  touches_foldl (fun u k => touches_moved u k 4 { u.port k with holdSince := some u.now, calSince := u.now, passed := none, calFails := 0 }) _ s

theorem State.port_startHold (s : State) (n k : Nat) :
    (s.startHold n).port k = if k ∈ s.portLanes n then (s.port k).held s.now else s.port k := by
  refine port_foldl (G := fun x => x.held s.now) (fun u k => (touches_moved u k 4 _).frame .clock (by decide)) (fun u k j hu => ?_)
    (State.portLanes_nodup s n) k
  rw [State.port_moved, State.now_congr hu]
  rfl

/-- A lane in the debounce since `now` (R263). -/
def Port.clean (x : Port) (now : Nat) : Port := { x with link := 3, faultSince := none, cleanSince := some now }

theorem touches_debounce (s : State) (n : Nat) : Touches [.ports, .mgmt, .objs] [lostKey] s (s.debounce n) :=
  touches_foldl (fun u k => touches_moved_low (by decide) u k { u.port k with faultSince := none, cleanSince := some u.now }) _ s

theorem State.port_debounce (s : State) (n k : Nat) :
    (s.debounce n).port k = if k ∈ s.portLanes n then (s.port k).clean s.now else s.port k := by
  refine port_foldl (G := fun x => x.clean s.now) (fun u k => (touches_moved u k 3 _).frame .clock (by decide)) (fun u k j hu => ?_)
    (State.portLanes_nodup s n) k
  rw [State.port_moved, State.now_congr hu]
  rfl

/-- The debounce of a port starts its count again at a fault. -/
def State.uncleaned (s : State) (n : Nat) : State := (s.portLanes n).foldl (fun (s : State) k => s.setPort k { s.port k with cleanSince := none }) s

theorem touches_uncleaned (s : State) (n : Nat) : Touches [.ports] [] s (s.uncleaned n) := touches_foldl (fun u k => touches_setPort u k _) _ s

theorem State.port_uncleaned (s : State) (n k : Nat) :
    (s.uncleaned n).port k = if k ∈ s.portLanes n then { s.port k with cleanSince := none } else s.port k := by
  refine port_foldl (G := fun x => { x with cleanSince := none }) (fun _ _ => ?_) (fun u k j _ => ?_) (State.portLanes_nodup s n) k
  · rfl
  · exact State.port_setPort u k j _

/-- Every lane of a port in the debounce falls back to down. -/
def State.lowered (s : State) (n : Nat) : State := (s.portLanes n).foldl (fun (s : State) k => s.setLink k 1) s

theorem touches_lowered (s : State) (n : Nat) : Touches [.ports, .mgmt, .objs] [lostKey] s (s.lowered n) :=
  touches_foldl (fun u k => touches_setLink_low (by decide) u k) _ s

theorem State.port_lowered (s : State) (n k : Nat) :
    (s.lowered n).port k = if k ∈ s.portLanes n then { s.port k with link := 1 } else s.port k :=
  port_foldl (G := fun x => { x with link := 1 }) (fun u k => (touches_setLink u k 1).frame .clock (by decide))
    (fun u k j _ => State.port_setLink u k 1 j) (State.portLanes_nodup s n) k

/-! ### A port clear of faults -/

/-- The port is clear once its own lane's fault has gone and every other lane is on and without a fault. -/
theorem State.portClear_setPort {x : Port} (hx : x.faultSince = none) :
    (s.setPort n x).portClear n = true ↔ ∀ k ∈ s.portLanes n, s.laneOn k = true ∧ (k ≠ n → (s.port k).faultSince = none) := by
  have hlanes : (s.setPort n x).portLanes n = s.portLanes n := State.portLanes_setPort ..
  have hport (k : Nat) : ((s.setPort n x).port k).faultSince.isNone = true ↔ (k ≠ n → (s.port k).faultSince = none) := by
    rw [State.port_setPort]
    rcases eq_or_ne k n with rfl | hk
    · simp [hx]
    · simp [hk]
  unfold State.portClear
  rw [hlanes, List.all_eq_true]
  refine forall₂_congr fun k _ => ?_
  rw [Bool.and_eq_true, hport]
  rfl

theorem State.not_portClear {x : Port} (hx : x.faultSince = none)
    (h : ∃ k ∈ s.portLanes n, s.laneOn k = false ∨ (k ≠ n ∧ (s.port k).faultSince ≠ none)) : (s.setPort n x).portClear n = false := by
  refine Bool.eq_false_iff.2 fun hclear => ?_
  obtain ⟨k, hk, hbad⟩ := h
  obtain ⟨hon, hfree⟩ := (State.portClear_setPort hx).1 hclear k hk
  rcases hbad with hoff | ⟨hkn, hfault⟩
  · exact Bool.false_ne_true (hoff.symm.trans hon)
  · exact hfault (hfree hkn)

/-! ### Negotiation -/

/-- The lane's record after a negotiation that failed (R242). -/
def Port.failed (x : Port) (now : Nat) : Port :=
  { x with negFails := x.negFails + 1, negAt := some now, sticky := if x.negFails + 1 = 10 then putBit x.sticky 2 true else x.sticky }

theorem State.negotiationFailed_eq (s : State) (n : Nat) : s.negotiationFailed n = if (s.port n).negFails + 1 = 10
    then ((s.setPort n ((s.port n).failed s.now)).setLink n 1).emcy 0xFF63 (n / 12) (n * 2 ^ 24)
    else (s.setPort n ((s.port n).failed s.now)).setLink n 1 := rfl

theorem touches_negotiationFailed (s : State) (n : Nat) : Touches [.ports, .mgmt, .objs] [lostKey] s (s.negotiationFailed n) := by
  have hmoved := touches_moved_low (by decide : (1 : Nat) ≠ 4 ∧ 1 ≠ 5) s n ((s.port n).failed s.now)
  rw [State.negotiationFailed_eq]
  split
  · exact hmoved.trans ((touches_emcy ..).mono (parts' := [.ports, .mgmt, .objs]) (by decide) (List.Subset.refl _))
  · exact hmoved

theorem State.port_negotiationFailed (s : State) (n k : Nat) :
    (s.negotiationFailed n).port k = if k = n then { (s.port n).failed s.now with link := 1 } else s.port k := by
  rw [State.negotiationFailed_eq, apply_ite (fun u : State => u.port k), State.port_emcy, ite_self, State.port_moved]

/-- The lane's record with what a negotiation resolved (R242). -/
def Port.resolved (x : Port) (r : NegotiationResult) : Port :=
  { x with negFails := 0, negAt := none, faultSince := none, rsFec := r.rsFec, pauseResolved := r.pause, eeeResolved := r.eee,
           wakeNs := r.wakeNs, minWake := r.wakeNs, wakeSent := false }

theorem exec_negotiationComplete {o : Option NegotiationResult} (hs : InService s) (ha : s.obj (0x3400 + n) 5 ≠ 0)
    (hl : (s.port n).link = 1 ∨ (s.port n).link = 2) (hw : s.negWaits n = false) : exec (.negotiationComplete n o) s = .next (match o with
      | some r => if !s.resolvesMode n r then s.negotiationFailed n
        else if (s.setPort n ((s.port n).resolved r)).portClear n then (s.setPort n ((s.port n).resolved r)).debounce n
        else s.setPort n ((s.port n).resolved r)
      | none => s.negotiationFailed n) :=
  exec_serving hs rfl (if_neg (by simp [hl, ha, hw]))

/-! ### Commands of the link -/

theorem exec_linkFault (hs : InService s) (h0 : (s.port n).link ≠ 0) (h6 : (s.port n).link ≠ 6) : exec (.linkFault n) s = .next
    ((s.uncleaned n).setPort n { (s.uncleaned n).port n with faultSince := (s.port n).faultSince.orElse fun _ => some s.now }) :=
  exec_serving hs rfl (if_neg (by simp [h0, h6]))

/-- The state of a lane whose fault has gone. -/
def State.unfaulted (s : State) (n : Nat) : State := s.setPort n { s.port n with faultSince := none }

/-- What a lane's return leads to, once its port is clear of faults. -/
theorem exec_blockLockReturn (hs : InService s) (h0 : (s.port n).link ≠ 0) (h6 : (s.port n).link ≠ 6) : exec (.blockLockReturn n) s = .next
    (if !(s.unfaulted n).portClear n then s.unfaulted n
     else match (s.port n).link with
      | 1 => if s.obj (0x3400 + n) 5 = 0 then (s.unfaulted n).debounce n else if s.negWaits n then s.unfaulted n else (s.unfaulted n).setLink n 2
      | 2 => s.unfaulted n
      | 3 => (s.unfaulted n).debounce n
      | _ => if (s.port n).faultSince.isSome then (s.unfaulted n).startHold n else s.unfaulted n) :=
  exec_serving hs rfl (if_neg (by simp [h0, h6]))

/-- A lane's fault cleared and its port taken through a step over its lanes: the own lane's record shows both. -/
theorem State.port_unfaulted (s : State) (n k : Nat) :
    (s.unfaulted n).port k = if k = n then { s.port n with faultSince := none } else s.port k := State.port_setPort ..

theorem State.portLanes_unfaulted (s : State) (n : Nat) : (s.unfaulted n).portLanes n = s.portLanes n := State.portLanes_setPort ..

/-- Off the port's lanes the record stands. -/
theorem State.port_unfaulted_of_notMem {k : Nat} (h : k ∉ s.portLanes n) : (s.unfaulted n).port k = s.port k := by
  rw [State.port_unfaulted, if_neg fun hk : k = n => h (by rw [hk]; exact State.mem_portLanes s n)]

theorem touches_unfaulted (s : State) (n : Nat) : Touches [.ports] [] s (s.unfaulted n) := touches_setPort ..

/-- With the own lane's fault gone and the port clear, the debounce takes every lane. -/
theorem State.port_unfaulted_debounce (s : State) (n k : Nat) :
    ((s.unfaulted n).debounce n).port k = if k ∈ s.portLanes n then (s.port k).clean s.now else s.port k := by
  rw [State.port_debounce, State.portLanes_unfaulted, State.now_congr ((touches_unfaulted s n).frame .clock (by decide))]
  split
  case isTrue =>
    rw [State.port_unfaulted]
    split
    case isTrue hk => rw [hk]; rfl
    case isFalse => rfl
  case isFalse h => exact State.port_unfaulted_of_notMem h

theorem State.port_unfaulted_startHold {k : Nat} (hall : ∀ k ∈ s.portLanes n, k ≠ n → (s.port k).faultSince = none) :
    ((s.unfaulted n).startHold n).port k = if k ∈ s.portLanes n then { (s.port k).held s.now with faultSince := none } else s.port k := by
  rw [State.port_startHold, State.portLanes_unfaulted, State.now_congr ((touches_unfaulted s n).frame .clock (by decide))]
  split
  case isTrue hk =>
    rw [State.port_unfaulted]
    split
    case isTrue hkn => rw [hkn]; rfl
    case isFalse hkn => exact Port.held_of_unfaulted (hall k hk hkn) _
  case isFalse h => exact State.port_unfaulted_of_notMem h

theorem exec_linkDown {t0 : Nat} (hs : InService s) (h : (s.port n).faultSince = some t0) : exec (.linkDown n) s = .next
    (if t0 + 2000000 ≤ s.now ∧ ((s.port n).link = 3 ∨ (s.port n).link = 4 ∨ (s.port n).link = 5) then
      if (s.port n).link = 3 then s.lowered n else s.declareDown n 1
    else s) := by
  refine exec_serving hs rfl ?_
  dsimp only
  rw [h]
  rfl

theorem exec_linkUp {t0 : Nat} (hs : InService s) (h : (s.port n).cleanSince = some t0) : exec (.linkUp n) s = .next
    (if (s.port n).link = 3 ∧ t0 + 50000000 ≤ s.now then (s.uncleaned n).startHold n else s) := by
  refine exec_serving hs rfl ?_
  dsimp only
  rw [h]
  rfl

end Sys2Proof.Machine

namespace Sys2Proof.Proofs
open Sys2Proof Sys2Proof.Machine

/-- Settles O33: every command steps over the lanes of the port, and `port_foldl` tells what each lane's record becomes. -/
theorem linksFollowTheirStates : Obligations.LinksFollowTheirStates := by
  intro s n r hs lanes hlanes
  subst hlanes
  have hclear : (∀ k ∈ s.portLanes n, s.laneOn k = true ∧ (k ≠ n → (s.port k).faultSince = none)) → (s.unfaulted n).portClear n = true :=
    (State.portClear_setPort rfl).2
  have hunfaulted := touches_setPort s n { s.port n with faultSince := none }
  refine ⟨fun h0 h6 => ?_, fun h0 h6 => ⟨fun hbad => ?_, fun hall => ⟨fun hl => ?_, fun h1 ha hw => ?_, fun hl hf => ?_⟩⟩, fun t0 hf => ⟨fun hd h3 => ?_,
    fun hd hl => ⟨?_, ?_⟩, fun hd => ?_⟩, fun ha hl hw => ⟨fun hr hall => ?_, fun o ho => ?_⟩, fun t0 hc h3 => ⟨fun hd => ?_, fun hd => ?_⟩⟩
  · have ht := (touches_uncleaned s n).trans (touches_setPort _ n { (s.uncleaned n).port n with
      faultSince := (s.port n).faultSince.orElse fun _ => some s.now })
    refine turns_of (exec_linkFault hs h0 h6) (fun k => ?_) ht.objects ht.frame
    rw [State.port_setPort, State.port_uncleaned, State.port_uncleaned, if_pos (State.mem_portLanes s n)]
    cases (s.port n).faultSince with
    | none => rfl
    | some _ => rfl
  · exact turns_of ((exec_blockLockReturn hs h0 h6).trans (by rw [State.unfaulted, State.not_portClear rfl hbad]; rfl)) (State.port_unfaulted s n)
      hunfaulted.objects hunfaulted.frame
  · have hnext : exec (.blockLockReturn n) s = .next ((s.unfaulted n).debounce n) := by
      rw [exec_blockLockReturn hs h0 h6, hclear hall]
      rcases hl with ⟨h1, ha⟩ | h3
      · rw [h1]
        exact congrArg _ (if_pos ha)
      · rw [h3]
        rfl
    have ht := hunfaulted.andThen (touches_debounce (s.unfaulted n) n)
    exact turns_of hnext (State.port_unfaulted_debounce s n) ht.objects (ht.mono (parts' := [.ports, .mgmt, .objs]) (by decide) (List.Subset.refl _)).frame
  · have hnext : exec (.blockLockReturn n) s = .next ((s.unfaulted n).setLink n 2) := by
      rw [exec_blockLockReturn hs h0 h6, hclear hall, h1]
      exact congrArg _ ((if_neg ha).trans (if_neg (by simp [hw])))
    have ht := touches_moved_low (by decide : (2 : Nat) ≠ 4 ∧ 2 ≠ 5) s n { s.port n with faultSince := none }
    exact turns_of hnext (State.port_moved s n 2 _) ht.objects ht.frame
  · have hnext : exec (.blockLockReturn n) s = .next ((s.unfaulted n).startHold n) := by
      rw [exec_blockLockReturn hs h0 h6, hclear hall]
      rcases hl with h4 | h5
      · rw [h4]
        exact congrArg _ (if_pos (Option.isSome_iff_ne_none.2 hf))
      · rw [h5]
        exact congrArg _ (if_pos (Option.isSome_iff_ne_none.2 hf))
    have ht := hunfaulted.andThen (touches_startHold (s.unfaulted n) n)
    exact turns_of hnext (fun k => State.port_unfaulted_startHold fun k hk => (hall k hk).2) ht.objects
      (ht.mono (parts' := [.ports, .mgmt, .objs, .serve]) (by decide) (List.Subset.refl _)).frame
  · have ht := touches_lowered s n
    exact turns_of ((exec_linkDown hs hf).trans (by rw [if_pos ⟨hd, Or.inl h3⟩, if_pos h3])) (State.port_lowered s n) ht.objects ht.frame
  · rw [exec_linkDown hs hf, if_pos ⟨hd, Or.inr hl⟩, if_neg (by omega)]
  · exact tick_clock (State.declareDown_tick s n 1)
  · rw [exec_linkDown hs hf, if_neg (by omega)]
  · have hres := touches_setPort s n ((s.port n).resolved r)
    have ht := hres.andThen (touches_debounce (s.setPort n ((s.port n).resolved r)) n)
    have hnext : exec (.negotiationComplete n (some r)) s = .next ((s.setPort n ((s.port n).resolved r)).debounce n) := by
      rw [exec_negotiationComplete hs ha hl hw]
      exact congrArg _ ((if_neg (by simp [hr])).trans (if_pos ((State.portClear_setPort rfl).2 hall)))
    refine turns_of hnext (fun k => ?_) ht.objects (ht.mono (parts' := [.ports, .mgmt, .objs]) (by decide) (List.Subset.refl _)).frame
    rw [State.port_debounce, State.portLanes_setPort, State.port_setPort]
    rcases eq_or_ne k n with rfl | hk
    · rw [if_pos (State.mem_portLanes s k), if_pos rfl, if_pos rfl]
      rfl
    · rw [if_neg hk, if_neg hk]
      rfl
  · have hnext : exec (.negotiationComplete n o) s = .next (s.negotiationFailed n) := by
      rw [exec_negotiationComplete hs ha hl hw]
      rcases ho with rfl | ⟨rfl, hr⟩
      · rfl
      · exact congrArg _ (if_pos (by simp [hr]))
    have ht := touches_negotiationFailed s n
    exact turns_of hnext (State.port_negotiationFailed s n) ht.objects ht.frame
  · have ht := (touches_uncleaned s n).andThen (touches_startHold (s.uncleaned n) n)
    refine turns_of ((exec_linkUp hs hc).trans (by rw [if_pos ⟨h3, hd⟩])) (fun k => ?_) ht.objects
      (ht.mono (parts' := [.ports, .mgmt, .objs, .serve]) (by decide) (List.Subset.refl _)).frame
    rw [State.port_startHold, State.portLanes_congr (State.laneMode_congr ((touches_uncleaned s n).frame .objs (by decide)) n), State.port_uncleaned]
    split
    case isTrue =>
      rw [State.now_congr ((touches_uncleaned s n).frame .clock (by decide))]
      rfl
    case isFalse => rfl
  · rw [exec_linkUp hs hc, if_neg (by omega)]

end Sys2Proof.Proofs
end

section
/-! PROOF. Calibration, departures and TX timestamps (R246 to R251), loopback (R265) and pauses (R258). -/

namespace Sys2Proof.Machine

variable {s : State} {n : Nat}

/-! ### TX-timestamp queues -/

/-- A lane's record with a host-visible entry completed (R249). -/
def Port.entered (x : Port) (lane id status : Nat) (copy : Bool) (time : Nat) : Port :=
  { x with txQueue := x.txQueue ++ [⟨id, status, 128 * bitNat x.gap + 64 * bitNat copy + lane % 64, if status ≤ 2 then time else 0, some x.txSeq⟩],
           gap := false, txSeq := (x.txSeq + 1) % 65536 }

/-- With fewer than 64 entries held an entry of the host's completes. -/
theorem State.txComplete_room {lane id status time : Nat} {copy : Bool} (hroom : (s.port (s.portNumber lane)).txQueue.length < 64) (hid : id < 0xF000) :
    s.txComplete lane id status copy time =
      s.setPort (s.portNumber lane) ((s.port (s.portNumber lane)).entered lane id status copy time) := by
  refine (if_neg (by omega)).trans ?_
  simp only [hid, decide_true, if_true, Port.entered]

/-- With 64 held it is lost and counted (R250). -/
theorem State.txComplete_full {lane id status time : Nat} {copy : Bool} (hfull : 64 ≤ (s.port (s.portNumber lane)).txQueue.length) :
    (s.txComplete lane id status copy time).port (s.portNumber lane) = { s.port (s.portNumber lane) with
      gap := true, sticky := putBit (s.port (s.portNumber lane)).sticky 0 true } ∧
    (s.txComplete lane id status copy time).obj (0x3400 + s.portNumber lane) 0x12 = (s.obj (0x3400 + s.portNumber lane) 0x12 + 1) % 2 ^ 32 := by
  have hcount (u : State) (x : Port) : ((u.setPort (s.portNumber lane) x).bump (0x3400 + s.portNumber lane) 0x12).port (s.portNumber lane) = x ∧
      ((u.setPort (s.portNumber lane) x).bump (0x3400 + s.portNumber lane) 0x12).obj (0x3400 + s.portNumber lane) 0x12 =
        (u.obj (0x3400 + s.portNumber lane) 0x12 + 1) % 2 ^ 32 :=
    ⟨State.port_setPort_self .., (obj_bump ..).trans (if_pos rfl)⟩
  have hsilent : okey 0 0 (0x3400 + s.portNumber lane) 0x12 ∉ [lostKey] := by
    simp only [lostKey, okey, List.mem_singleton]
    omega
  unfold State.txComplete
  dsimp only
  rw [if_pos hfull]
  split
  · exact hcount ..
  · exact ⟨(State.port_emcy ..).trans (hcount ..).1, ((touches_emcy ..).obj hsilent).trans (hcount ..).2⟩

/-- The state without the oldest frame that a port has started. -/
def State.taken (s : State) (m : Nat) (rest : List QFrame) : State := s.setPort m { s.port m with started := rest }

theorem touches_taken (s : State) (m : Nat) (rest : List QFrame) : Touches [.ports] [] s (s.taken m rest) := touches_setPort ..

theorem State.port_taken (s : State) (m : Nat) (rest : List QFrame) : (s.taken m rest).port m = { s.port m with started := rest } :=
  State.port_setPort_self ..

theorem touches_drawNat (s : State) : Touches [.free] [] s s.drawNat.2 := touches_part rfl fun p hp => by
  cases p
  case free => exact absurd (List.mem_singleton_self _) hp
  all_goals rfl

theorem State.port_drawn (s : State) (n : Nat) : s.drawNat.2.port n = s.port n := rfl

theorem exec_txTimestampComplete {v : Nat} {f : QFrame} {rest : List QFrame} (hs : InService s) (hf : (s.port (s.portNumber n)).started = f :: rest) :
    exec (.txTimestampComplete n v) s = .next (match f.request with
      | none => s.taken (s.portNumber n) rest
      | some id =>
        if 2 < v then (s.taken (s.portNumber n) rest).txComplete n id (Nat.min v 5) f.copy 0
        else
          let d := (s.taken (s.portNumber n) rest).departStamp (s.portNumber n) (s.port (s.portNumber n)).holdSince.isSome
          d.2.txComplete n id (if (s.port (s.portNumber n)).holdSince.isSome then 2 else 1) f.copy d.1) := by
  refine exec_serving hs rfl ?_
  dsimp only
  rw [hf]
  rfl

theorem touches_txComplete_room {lane id status time : Nat} {copy : Bool} (hroom : (s.port (s.portNumber lane)).txQueue.length < 64) (hid : id < 0xF000) :
    Touches [.ports] [] s (s.txComplete lane id status copy time) := by
  rw [State.txComplete_room hroom hid]
  exact touches_setPort ..

/-! ### Calibration -/

/-- A calibration that has run its 100 ms is judged (R247). -/
theorem exec_calibrationComplete {a b : Int} {ok : Bool} (hs : InService s) (hh : (s.port n).holdSince ≠ none) (hp : (s.port n).passed = none)
    (hd : (s.port n).calSince + 100000000 ≤ s.now) : exec (.calibrationComplete n a b ok) s = .next
      (if ok then s.setPort n { s.port n with passed := some (a.toNat, b.toNat), calFails := 0 }
      else
        let t := s.setPort n { s.port n with
          calFails := (s.port n).calFails + 1, calSince := s.now,
          sticky := if (s.port n).calFails + 1 = 3 then putBit (s.port n).sticky 1 true else (s.port n).sticky }
        if (s.port n).calFails + 1 = 3 then (t.containedOn (n / 12) (144 + n % 12) 0).emcy 0xFF61 (n / 12) (n * 2 ^ 24) else t) := by
  refine exec_serving hs rfl (if_neg ?_)
  unfold calibrationTime
  simp [hh, hp, hd]

/-- A command that writes one port's record. -/
theorem turns_setPort {c : Instr} {x : Port} (he : exec c s = .next (s.setPort n x)) :
    Turns c s [.ports] [] fun t => t.port n = x ∧ ∀ k, k ≠ n → t.port k = s.port k :=
  have ht := touches_setPort s n x
  turns_of he ⟨State.port_setPort_self .., fun _ hk => (State.port_setPort ..).trans (if_neg hk)⟩ ht.objects ht.frame

theorem turns_setPort_twice {c : Instr} {x y : Port} (he : exec c s = .next ((s.setPort n x).setPort n y)) :
    Turns c s [.ports] [] fun t => t.port n = y ∧ ∀ k, k ≠ n → t.port k = s.port k :=
  have ht := (touches_setPort s n x).trans (touches_setPort _ n y)
  turns_of he ⟨State.port_setPort_self .., fun _ hk => by rw [State.port_setPort, if_neg hk, State.port_setPort, if_neg hk]⟩ ht.objects ht.frame

/-! ### Departures measured -/

/-- The port of a lane after a departure measured: its largest residual, and the confirmation taken. -/
def Port.departed (x : Port) (fs : Int) : Port := { x with residual := Nat.max x.residual fs.natAbs, confirm := x.confirm.drop 1 }

/-- The state with a departure measured on the port of a lane. -/
def State.measuredDeparture (s : State) (lane : Nat) (fs : Int) : State := s.setPort (s.portNumber lane) ((s.port (s.portNumber lane)).departed fs)

/-- A departure within 0.2 ns confirms the oldest entry that waits for it (R249). -/
theorem exec_departureMeasured_within {x : Int} (hs : InService s) (hx : x.natAbs ≤ 200000) : exec (.departureMeasured n x) s = .next
    (match (s.port (s.portNumber n)).confirm with
      | [] => s.measuredDeparture n x
      | (id, time) :: _ => (s.measuredDeparture n x).txComplete n id 1 false time) := by
  refine exec_serving hs rfl ?_
  rw [decide_eq_true hx]
  rfl

/-- One outside leads the port to hold, with a contained fault of its plate (R246). -/
theorem exec_departureMeasured_outside {x : Int} (hs : InService s) (hx : 200000 < x.natAbs) : exec (.departureMeasured n x) s = .next
    (((match (s.port (s.portNumber n)).confirm with
      | [] => (s.measuredDeparture n x).drawNat.2
      | (id, time) :: _ => (s.measuredDeparture n x).drawNat.2.txComplete n id (1 + (s.measuredDeparture n x).drawNat.1 % 5) false time).containedOn
        (n / 12) (144 + s.portNumber n % 12) 0).startHold (s.portNumber n)) := by
  refine exec_serving hs rfl ?_
  rw [decide_eq_false (Nat.not_le.2 hx)]
  rfl

theorem Port.departed_of_none {x : Port} (h : x.confirm = []) (fs : Int) : x.departed fs = { x with residual := Nat.max x.residual fs.natAbs } := by
  cases x
  cases h
  rfl

end Sys2Proof.Machine

namespace Sys2Proof.Proofs
open Sys2Proof Sys2Proof.Machine

/-- Settles O34: the checks of a calibration, the judgement of a departure, and the hold that `startHold` begins. -/
theorem calibrationsAndDeparturesAreChecked : Obligations.CalibrationsAndDeparturesAreChecked := by
  intro s n m a b x hs hm
  subst hm
  refine ⟨fun hh hp => ⟨fun hd => ⟨?_, fun hf => ?_, fun hf => ?_⟩, fun hd ok => ?_⟩, fun hc hx => ?_, fun id time l hc hx hroom hid => ?_, fun hc hx => ?_, ?_,
    fun hu hl => ?_, fun hu => ?_⟩
  · exact turns_setPort (exec_calibrationComplete hs hh hp hd)
  · refine turns_setPort ((exec_calibrationComplete hs hh hp hd).trans ?_)
    dsimp only
    rw [if_neg (by decide), if_neg (by omega), if_neg (by omega)]
  · refine ⟨_, exec_calibrationComplete hs hh hp hd, ?_, ?_⟩
    · exact tick_clock (by simp)
    · dsimp only
      rw [if_neg (by decide), if_pos (by omega), if_pos (by omega), hf]
  · refine exec_serving hs rfl (if_pos ?_)
    unfold calibrationTime
    simp [hd]
  · refine turns_setPort ((exec_departureMeasured_within hs hx).trans ?_)
    rw [hc, ← Port.departed_of_none hc]
    rfl
  · have hport : (s.measuredDeparture n x).port (s.portNumber n) = (s.port (s.portNumber n)).departed x := State.port_setPort_self ..
    have hnumber : (s.measuredDeparture n x).portNumber n = s.portNumber n := rfl
    refine turns_setPort_twice (x := (s.port (s.portNumber n)).departed x) ((exec_departureMeasured_within hs hx).trans ?_)
    rw [hc]
    dsimp only
    rw [State.txComplete_room (by rw [hnumber, hport]; exact hroom) hid, hnumber, hport]
    simp [State.measuredDeparture, Port.entered, Port.departed, hc, bitNat]
  · refine ⟨_, exec_departureMeasured_outside hs hx, ?_⟩
    rw [hc]
    dsimp only
    have hclock : (((s.measuredDeparture n x).drawNat.2).containedOn (n / 12) (144 + s.portNumber n % 12) 0).clock = s.clock :=
      (faultOnly_containedOn ..).frame .clock (by decide)
    rw [State.port_startHold, if_pos (State.mem_portLanes ..)]
    exact ⟨((touches_startHold ..).frame .clock (by decide)).trans hclock, rfl, congrArg some (State.now_congr hclock)⟩
  · exact turns_setPort (exec_serving hs rfl rfl)
  · have hunset := touches_setPort s (s.portNumber n) { s.port (s.portNumber n) with unaligned := false }
    have ht := hunset.andThen (touches_startHold _ (s.portNumber n))
    refine turns_of (exec_serving hs rfl ((if_neg (by simp [hu])).trans (if_pos hl))) (fun k hk => ?_) ht.objects
      (ht.mono (parts' := [.ports, .mgmt, .objs, .serve]) (by decide) (List.Subset.refl _)).frame
    rw [State.port_startHold, State.portLanes_setPort, if_pos hk, State.port_setPort]
    split
    case isTrue h => rw [h]; rfl
    case isFalse => rfl
  · exact exec_serving hs rfl (if_pos (by simp [hu]))

/-- Settles O35: the oldest frame started completes its entry by `State.txComplete_room`, or is lost by `State.txComplete_full`. -/
theorem loopbacksTimestampsAndPauses : Obligations.LoopbacksTimestampsAndPauses := by
  intro s tr n m v q f rest hs
  have hgate (k j : Nat) (hk : k < 24) : s.gate (0x3400 + k) j = none := gate_at hs _ _ (by omega) (by omega) (by omega)
  refine ⟨fun hn hon hv => ?_, fun hn hoff hv => ?_, fun hm hf => ?_, fun hn he => ?_, fun hn he => ?_, ?_⟩
  · have ho : loopbackOp n v s = .ok (s.setPort n { s.port n with pendLoop := some v }) :=
      (if_neg (by omega)).trans (if_neg (by simp [hon]))
    exact confirms_part rfl hs (hgate n _ hn) ho (touches_setPort ..) fun r =>
      ⟨by simp, fun k hk => by rw [State.port_respond, State.port_setPort, if_neg hk]⟩
  · exact refuses_of rfl hs (hgate n _ hn) ((if_neg (by omega)).trans (if_pos (by simp [hoff])))
  · subst hm
    have hport := State.port_taken s (s.portNumber n) rest
    have hnumber : (s.taken (s.portNumber n) rest).portNumber n = s.portNumber n := rfl
    have hnumber' : (s.taken (s.portNumber n) rest).drawNat.2.portNumber n = s.portNumber n := rfl
    refine ⟨fun hr => ?_, fun id hr hv hv5 hroom hid => ?_, fun id hr hv hroom hid => ?_, fun id hr hv hfull => ?_⟩
    · exact turns_setPort ((exec_txTimestampComplete hs hf).trans (by rw [hr]; rfl))
    · have hroom' : ((s.taken (s.portNumber n) rest).port ((s.taken (s.portNumber n) rest).portNumber n)).txQueue.length < 64 := by
        rw [hnumber, hport]
        exact hroom
      have ht := (touches_taken s (s.portNumber n) rest).trans
        (touches_txComplete_room (s := s.taken (s.portNumber n) rest) (status := Nat.min v 5) (copy := f.copy) (time := 0) hroom' hid)
      refine turns_of ((exec_txTimestampComplete hs hf).trans (by rw [hr]; exact congrArg _ (if_pos hv))) ?_ ht.objects ht.frame
      rw [State.txComplete_room hroom' hid, hnumber, hport, State.port_setPort_self, show Nat.min v 5 = v from Nat.min_eq_left hv5]
      simp [Port.entered, Nat.not_le.2 hv]
    · have hroom' : ((s.taken (s.portNumber n) rest).drawNat.2.port ((s.taken (s.portNumber n) rest).drawNat.2.portNumber n)).txQueue.length < 64 := by
        rw [State.port_drawn, hnumber', hport]
        exact hroom
      have ht := (((touches_taken s (s.portNumber n) rest).andThen (touches_drawNat _)).andThen
        (touches_txComplete_room (status := if (s.port (s.portNumber n)).holdSince.isSome then 2 else 1) (copy := f.copy)
          (time := (s.departStamp (s.portNumber n) (s.port (s.portNumber n)).holdSince.isSome).1) hroom' hid)).mono
          (parts' := [.ports, .free]) (by decide) (List.Subset.refl _)
      refine turns_of ((exec_txTimestampComplete hs hf).trans (by rw [hr]; exact congrArg _ (if_neg (by omega)))) ?_ ht.objects ht.frame
      have hstatus : (if (s.port (s.portNumber n)).holdSince.isSome then 2 else 1) ≤ 2 := by
        split
        · exact Nat.le_refl 2
        · exact Nat.le_succ 1
      rw [State.txComplete_room hroom' hid, hnumber', State.port_drawn, hport, State.port_setPort_self]
      simp [Port.entered, hstatus]
    · have hfull' : 64 ≤ ((s.taken (s.portNumber n) rest).port ((s.taken (s.portNumber n) rest).portNumber n)).txQueue.length := by
        rw [hnumber, hport]
        exact hfull
      have ht := ((touches_taken s (s.portNumber n) rest).andThen (touches_txComplete _ n id (Nat.min v 5) f.copy 0)).mono
        (parts' := [.ports, .mgmt, .objs]) (keys' := [lostKey, okey 0 0 (0x3400 + s.portNumber n) 0x12]) (by decide) (by rw [hnumber]; simp)
      obtain ⟨hentry, hcount⟩ := State.txComplete_full (id := id) (status := Nat.min v 5) (copy := f.copy) (time := 0) hfull'
      rw [hnumber] at hentry hcount
      rw [hport] at hentry
      exact turns_of ((exec_txTimestampComplete hs hf).trans (by rw [hr]; exact congrArg _ (if_pos hv))) ⟨hentry, hcount⟩ ht.objects ht.frame
  · have ho : txReleaseOp n q s = .ok (s.setPort n { s.port n with txQueue := releaseTx q (s.port n).txQueue }) := if_pos (by simpa using he)
    exact confirms_part rfl hs (hgate n _ hn) ho (touches_setPort ..) fun r =>
      ⟨by simp, fun k hk => by rw [State.port_respond, State.port_setPort, if_neg hk]⟩
  · exact refuses_of rfl hs (hgate n _ hn) (if_neg (by simpa using he))
  · exact turns_setPort (exec_serving hs rfl rfl)

end Sys2Proof.Proofs
end

section
/-! PROOF. Registration (R171 to R175): the host's steps, slews and cancels, and the step of time base 0 through its gate. -/

namespace Sys2Proof.Machine

variable {s t : State}

/-! ### The steering record of time base 0 -/

theorem touches_putSteer0 (s : State) (x : Steer) : Touches [.dev, .mgmt, .objs, .faults] [lostKey] s (s.putSteer0 x) := by
  unfold State.putSteer0
  dsimp only
  split
  · exact (touches_setSteer ..).mono (by decide) (List.nil_subset _)
  · exact ((touches_setSteer ..).andThen (touches_report ..)).mono (by decide) (List.Subset.refl _)

/-- A change of status is reported; the record is written as it is. -/
theorem State.dev_putSteer0 (s : State) (x : Steer) : (s.putSteer0 x).dev = (s.setSteer 0 x).dev := by
  unfold State.putSteer0
  dsimp only
  split
  · rfl
  · exact (touches_report (s.setSteer 0 x) _ _ _ _ _ _).frame .dev (by decide)

theorem State.steer_putSteer0 (s : State) (x : Steer) (n : Nat) : (s.putSteer0 x).steer n = if n = 0 then x else s.steer n := by
  rw [State.steer_congr (State.dev_putSteer0 s x), State.steer_setSteer]

theorem touches_setReg (s : State) (n reg : Nat) : Touches [.dev, .mgmt, .objs, .faults] [lostKey] s (s.setReg n reg) := by
  unfold State.setReg
  split
  · exact touches_putSteer0 ..
  · exact (touches_setSteer ..).mono (by decide) (List.nil_subset _)

theorem State.steer_setReg (s : State) (n reg k : Nat) : (s.setReg n reg).steer k = if k = n then { s.steer n with reg := reg } else s.steer k := by
  unfold State.setReg
  split
  case isTrue h => rw [State.steer_putSteer0, h]
  case isFalse => rw [State.steer_setSteer]

/-- The registration status alone: the step scheduled stays where it is. -/
theorem State.target_setReg (s : State) (n reg : Nat) : (s.setReg n reg).dev.target = s.dev.target := by
  unfold State.setReg
  split
  · rw [State.dev_putSteer0]
    rfl
  · rfl

/-! ### Host commands -/

/-- A registration command is judged by the base first: a busy one refuses. -/
theorem registrationStepOp_busy (h : (s.steer s.regBase).busy = true) : registrationStepOp s = .error 0x0A1E002B := if_pos h

theorem registrationStepOp_unregistrable (h : (s.steer s.regBase).busy = false) (hr : s.registrable s.regBase = false) :
    registrationStepOp s = .error 0x0A1E002A := (if_neg (by simp [h])).trans (if_pos (by simp [hr]))

/-- The state with a step of time base 0 for a reel scheduled. -/
def State.scheduled (s : State) (reel : Nat) : State :=
  (({ s with dev := { s.dev with target := some reel } } : State).setObj 0x2403 2 reel).setReg 0 3

theorem registrationStepOp_first (h : (s.steer s.regBase).busy = false) (hr : s.registrable s.regBase = true) (h0 : s.regBase = 0)
    (hw : s.obj 0x2403 2 = 0) : registrationStepOp s = .ok (s.scheduled (s.deferStep (s.nextReelSecond + 1))) := by
  refine (if_neg (by simp [h])).trans ((if_neg (by simp [hr])).trans ((if_pos h0).trans ?_))
  dsimp only
  rw [hw, if_neg (by simp), if_pos rfl]
  rfl

theorem registrationStepOp_base (h : (s.steer s.regBase).busy = false) (hr : s.registrable s.regBase = true) (h0 : s.regBase ≠ 0) :
    registrationStepOp s = .ok (s.setSteer s.regBase { s.steer s.regBase with reg := 3, pendStep := true }) :=
  (if_neg (by simp [h])).trans ((if_neg (by simp [hr])).trans (if_neg h0))

theorem slowSlewOp_busy (h : (s.steer s.regBase).busy = true) : slowSlewOp s = .error 0x0A1E002B := if_pos h

theorem slowSlewOp_unregistrable (h : (s.steer s.regBase).busy = false) (hr : s.registrable s.regBase = false) :
    slowSlewOp s = .error 0x0A1E002A := (if_neg (by simp [h])).trans (if_pos (by simp [hr]))

theorem slowSlewOp_ok (h : (s.steer s.regBase).busy = false) (hr : s.registrable s.regBase = true) :
    slowSlewOp s = .ok (s.setReg s.regBase 2) := (if_neg (by simp [h])).trans (if_neg (by simp [hr]))

theorem registrationCancelOp_slew (h : (s.steer s.regBase).reg = 2) : registrationCancelOp s = .ok (s.setReg s.regBase 1) := by
  unfold registrationCancelOp
  dsimp only
  rw [h]
  rfl

theorem registrationCancelOp_base (h : (s.steer s.regBase).reg = 3) (h0 : s.regBase ≠ 0) : registrationCancelOp s =
    .ok (s.setSteer s.regBase { s.steer s.regBase with reg := 1, pendStep := false }) := by
  unfold registrationCancelOp
  dsimp only
  rw [h]
  exact if_pos h0

/-- The step of time base 0 has been latched, or is to be. -/
def State.stepLatched (s : State) : Bool :=
  s.dev.latch.isSome || (decide (s.clock.exposure = 999) && decide (s.dev.target = some s.nextReelSecond))

theorem registrationCancelOp_step (h : (s.steer s.regBase).reg = 3) (h0 : s.regBase = 0) : registrationCancelOp s =
    if s.stepLatched then .error 0x0A1E002B else .ok (({ s with dev := { s.dev with target := none } } : State).setReg 0 1) := by
  unfold registrationCancelOp
  dsimp only
  rw [h]
  exact if_neg (by simp [h0])

theorem registrationCancelOp_idle (h2 : (s.steer s.regBase).reg ≠ 2) (h3 : (s.steer s.regBase).reg ≠ 3) : registrationCancelOp s = .ok s := by
  unfold registrationCancelOp
  dsimp only
  generalize (s.steer s.regBase).reg = q at h2 h3
  match q with
  | 0 => rfl
  | 1 => rfl
  | 2 => exact absurd rfl h2
  | 3 => exact absurd rfl h3
  | _ + 4 => rfl

theorem State.stepLatched_eq_false (hl : s.dev.latch = none) (h : s.clock.exposure ≠ 999 ∨ s.dev.target ≠ some s.nextReelSecond) :
    s.stepLatched = false := by
  rcases h with h | h
  · simp [State.stepLatched, hl, h]
  · simp [State.stepLatched, hl, h]

theorem State.stepLatched_eq_true (h : s.dev.latch ≠ none ∨ (s.clock.exposure = 999 ∧ s.dev.target = some s.nextReelSecond)) :
    s.stepLatched = true := by
  rcases h with h | ⟨he, ht⟩
  · simp [State.stepLatched, Option.isSome_iff_ne_none.2 h]
  · simp [State.stepLatched, he, ht]

theorem State.scheduled_facts (s : State) (reel : Nat) : (s.scheduled reel).dev.target = some reel ∧ (s.scheduled reel).obj 0x2403 2 = reel ∧
    ((s.scheduled reel).steer 0).reg = 3 ∧ (s.scheduled reel).time = s.time := by
  have h := touches_setReg (({ s with dev := { s.dev with target := some reel } } : State).setObj 0x2403 2 reel) 0 3
  unfold State.scheduled
  refine ⟨by rw [State.target_setReg]; rfl, ?_, by rw [State.steer_setReg, if_pos rfl], h.frame .time (by decide)⟩
  rw [h.obj (by decide), State.obj_setObj_self, Int.toNat_natCast]

/-! ### The latch -/

theorem exec_registrationLatch {g : Nat} (hs : InService s) (ht : s.dev.target = some g) (h999 : s.atStartOf 999 = true)
    (hg : g = s.nextReelSecond) (hl : s.dev.latch = none) : exec .registrationLatch s = .next
      (if s.deferStep g ≠ g then ({ s with dev := { s.dev with target := some (s.deferStep g) } } : State).setObj 0x2403 2 (s.deferStep g)
      else { s with dev := { s.dev with latch := some (splitOffset (s.steer 0).xhat) } }) := by
  refine exec_serving hs rfl ?_
  dsimp only
  rw [ht]
  exact if_neg (by simp [h999, hg, hl])

/-! ### The gate starts -/

theorem time_passEvents (s : State) : s.passEvents.time.bases = s.time.bases := (intervalsOnly_passEvents s).bases

theorem time_takeBack (s : State) (p : Nat) : (s.takeBack p).time = s.time := by
  rw [State.takeBack, State.setObj_time, State.bumpBy_time]

theorem time_ppsEdge (s : State) (p n target : Nat) : (s.ppsEdge p n target).time = s.time := by
  unfold State.ppsEdge
  simp only [apply_ite State.time, State.setPps_time, time_takeBack, State.compared_time, ite_self]

theorem bases_latchGate (s : State) (u : Nat) : (s.latchGate u).time.bases = s.time.bases := by
  unfold State.latchGate
  dsimp only
  simp only [State.setInterval, State.bump_time, State.setObj_time]

theorem bases_setInterval (s : State) (u : Nat) (x : Interval) : (s.setInterval u x).time.bases = s.time.bases := rfl

theorem bases_capture (s : State) : s.capture.time.bases = s.time.bases := by
  have htaken (c : Table Nat) : (({ s with time := { s.time with captured := c, capturedAt := some s.now } } : State).bump 0x2203 2).time.bases =
      s.time.bases := rfl
  have he : s.capture = if s.time.capturedAt = some s.now then s else ({ s with time := { s.time with
      captured := (List.range 32).foldl (fun t n => t.put (fun _ => 0) n (toTime112 (s.base n).value)) [], capturedAt := some s.now } } : State).bump
      0x2203 2 := by rw [State.capture]
  rw [he, apply_ite State.time, apply_ite Time.bases, htaken, ite_self]

/-- The action of a firing moves no time base. -/
theorem bases_compareAction (s : State) (c target : Nat) : (s.compareAction c target).time.bases = s.time.bases := by
  unfold State.compareAction
  dsimp only
  split
  · rw [time_ppsEdge]
  · unfold State.openGate
    dsimp only
    rw [apply_ite State.time, apply_ite Time.bases, bases_setInterval, time_passEvents, ite_self]
  · unfold State.shutGate
    dsimp only
    rw [apply_ite State.time, apply_ite Time.bases, bases_setInterval, bases_latchGate, time_passEvents, ite_self]
  · exact bases_capture s
  · rfl

theorem bases_setComp (s : State) (c : Nat) (x : Compare) : (s.setComp c x).time.bases = s.time.bases := rfl

theorem bases_advanceTarget (s : State) (c n : Nat) : (s.advanceTarget c n).time.bases = s.time.bases := bases_setComp ..

/-- The state after the firing itself, before a periodic unit's target moves on. -/
def State.struck (s : State) (c : Nat) (late : Bool) : State :=
  (s.setComp c { s.comp c with
    fired := true, late := late, overdue := false, armed := (s.comp c).armed && !decide (s.obj (0x2210 + c) 4 = 0),
    lastFire := toTime112 ((s.comp c).counterTarget * 2 ^ 28) }).compareAction c
      (if late then (s.base32 (s.obj (0x2210 + c) 1)).toNat else (s.comp c).counterTarget)

/-- A periodic unit's target moves on, over the periods that have passed too. -/
def State.movedOn (s : State) (c : Nat) : State :=
  let s3 := s.advanceTarget c 1
  let n := s3.periodsDue c (s3.comp c).target
  if n = 0 then s3 else (s3.advanceTarget c n).bumpBy (0x2210 + c) 0x0A n

theorem State.fireUnit_eq (s : State) (c : Nat) (late : Bool) :
    s.fireUnit c late = if decide (s.obj (0x2210 + c) 4 = 0) then s.struck c late else (s.struck c late).movedOn c := rfl

theorem bases_movedOn (s : State) (c : Nat) : (s.movedOn c).time.bases = s.time.bases := by
  unfold State.movedOn
  dsimp only
  rw [apply_ite State.time, apply_ite Time.bases, State.bumpBy_time, bases_advanceTarget _ _ 1, bases_advanceTarget, bases_advanceTarget, ite_self]

theorem bases_fireUnit (s : State) (c : Nat) (late : Bool) : (s.fireUnit c late).time.bases = s.time.bases := by
  have hstruck : (s.struck c late).time.bases = s.time.bases := (bases_compareAction _ c _).trans (bases_setComp s c _)
  rw [State.fireUnit_eq, apply_ite State.time, apply_ite Time.bases, bases_movedOn, hstruck, ite_self]

theorem bases_firePassed (s : State) (n : Nat) : (s.firePassed n).time.bases = s.time.bases := by
  unfold State.firePassed
  exact foldl_keep (fun u : State => u.time.bases) _ _ s fun u c => by
    split
    · exact bases_fireUnit ..
    · rfl

theorem time_shiftLoupes (s : State) (ps : Int) : (s.shiftLoupes ps).time = s.time :=
  (touches_foldl (fun _ _ => touches_setLoupe ..) _ s).frame .time (by decide)

theorem time_markGated (s : State) : s.markGated.time = s.time :=
  (touches_foldl (fun _ _ => touches_setSteer ..) _ s).frame .time (by decide)

/-- Time base 0 after the re-label by `n` whole seconds. -/
def State.relabel (s : State) (n : Int) : TimeBase :=
  { s.base 0 with value := ((((s.base 0).value : Int) - n * secondUnit) % (Machine.reach : Int)).toNat }

/-- The state re-labelled, before the gate is in force. -/
def State.relabelled (s : State) (n : Int) (q : Nat) : State :=
  ((((s.setBase 0 (s.relabel n)).firePassed 0).shiftLoupes (stepPs n q)).markGated).openGap

/-- The gate in force, with the step that it makes. -/
def State.inGate (u : State) (n : Int) (q : Nat) (r : Int) : State :=
  { u with time := { u.time with gate := true }, dev := { u.dev with latch := some (n, q, r) },
           gnss := { u.gnss with trackBroken := true },
           twin := { u.twin with gateGap := true, gateNs := u.twin.gateNs + q * 256 } }

theorem State.base_inGate (u : State) (n : Int) (q : Nat) (r : Int) (k : Nat) : (u.inGate n q r).base k = u.base k := rfl

/-- The step that the offset of time base 0 splits into. -/
def State.split0 (s : State) : Int × Nat × Int := splitOffset (s.steer 0).xhat

theorem State.startGate0_eq (s : State) :
    s.startGate0 = (s.relabelled s.split0.1 s.split0.2.1).inGate s.split0.1 s.split0.2.1 s.split0.2.2 := by
  obtain ⟨⟨n, q, r⟩, hx⟩ : ∃ x, splitOffset (s.steer 0).xhat = x := ⟨_, rfl⟩
  simp only [State.startGate0, State.split0, hx, State.inGate, State.relabelled, State.relabel]

/-- The re-label moves time base 0 alone. -/
theorem State.base_relabelled (s : State) (n : Int) (q k : Nat) :
    (s.relabelled n q).base k = if k = 0 then s.relabel n else s.base k := by
  have hb : (s.relabelled n q).time.bases = (s.setBase 0 (s.relabel n)).time.bases := by
    unfold State.relabelled
    rw [(touches_openGap _).frame .time (by decide), time_markGated, time_shiftLoupes, bases_firePassed]
  rw [State.base, hb, ← State.base, State.base_setBase]

/-! ### The gate ends -/

theorem within_runDcosOn (s : State) (n : Nat) : Within [.synth, .free] s (s.runDcosOn n) := by
  have hdrawn (u : State) : Within [.synth, .free] u u.drawNat.2 := (touches_drawNat u).within (by decide)
  unfold State.runDcosOn
  refine within_ite (.refl s) (within_foldl (fun u d => within_ite (.refl u) ?_) _ s)
  exact ((((hdrawn u).trans (hdrawn _)).trans (hdrawn _)).trans (hdrawn _)).trans ((touches_setDpll ..).within (by decide))

/-- The parts that the end of a gate may change beside the Developer's. -/
def releaseParts : List Part := [.synth, .free, .faults, .mgmt, .objs, .ports, .serve, .media]

theorem within_holdAll (s : State) : Within releaseParts s s.holdAll :=
  within_foldl (fun u n => within_ite ((touches_startHold u n).within (by decide)) (.refl u)) _ s

theorem within_regrid (s : State) (n : Nat) : Within releaseParts s (s.regrid n) :=
  within_foldl (fun u m => within_ite (((touches_setMport u m _).andThen (touches_bump _ (mediaIdx m) 0x12)).within (by decide)) (.refl u)) _ s

theorem within_loseAlignment (s : State) (c : Nat) (err : Int) : Within releaseParts s (s.loseAlignment c err) := by
  unfold State.loseAlignment
  exact within_ite (.refl s) (((touches_setChannel ..).andThen (touches_emcy ..)).within (by decide))

theorem within_misalign (s : State) (n : Nat) : Within releaseParts s (s.misalign n) :=
  within_foldl (fun u _ => within_ite (within_loseAlignment ..) (.refl u)) _ s

/-- The state with the gate out of force, the counters run on by its length. -/
def State.ungated (s : State) (q : Nat) : State :=
  ({ s with time := { s.time with gate := false }, dev := { s.dev with target := none } } : State).runDcosOn (q * 256)

/-- The steering of time base 0 at the gate's end: registered, the residual left to steer out (R173). -/
def Steer.registered (x : Steer) (r : Int) (now : Nat) : Steer := { x with xhat := r, xref := r, xcmp := r, accRef := x.accAt now, reg := 0 }

theorem State.endGate0_eq {n r : Int} {q : Nat} (h : s.dev.latch = some (n, q, r)) : s.endGate0 =
    ((((s.ungated q).putSteer0 (((s.ungated q).steer 0).registered r (s.ungated q).now)).holdAll).regrid 0).misalign 0 := by
  unfold State.endGate0
  rw [h]
  rfl

theorem State.endGate0_facts {n r : Int} {q : Nat} (h : s.dev.latch = some (n, q, r)) : s.endGate0.time.gate = false ∧ s.endGate0.dev.target = none ∧
    s.endGate0.steer 0 = ((s.ungated q).steer 0).registered r (s.ungated q).now := by
  have hrest (u : State) : Within releaseParts u ((u.holdAll.regrid 0).misalign 0) :=
    ((within_holdAll u).trans (within_regrid ..)).trans (within_misalign ..)
  have hun := within_runDcosOn ({ s with time := { s.time with gate := false }, dev := { s.dev with target := none } } : State) (q * 256)
  have htime : (s.ungated q).time = { s.time with gate := false } := hun.frame .time (by decide)
  have hdev : (s.ungated q).dev = { s.dev with target := none } := hun.frame .dev (by decide)
  rw [State.endGate0_eq h]
  refine ⟨?_, ?_, ?_⟩
  · rw [(hrest _).frame .time (by decide), (touches_putSteer0 ..).frame .time (by decide), htime]
  · rw [(hrest _).frame .dev (by decide), State.dev_putSteer0]
    exact congrArg Dev.target hdev
  · rw [State.steer_congr ((hrest _).frame .dev (by decide)), State.steer_putSteer0, if_pos rfl]

theorem State.steer_ungated (s : State) (q n : Nat) : (s.ungated q).steer n = s.steer n := by
  have hdev : (s.ungated q).dev = { s.dev with target := none } := (within_runDcosOn _ _).frame .dev (by decide)
  rw [State.steer, hdev, State.steer]

/-! ### The step's figures -/

/-- The figures of a step (R175). -/
def State.figured (s : State) (n : Int) (q : Nat) : State :=
  (((s.setObj 0x2403 4 (satPs (stepPs n q))).setObj 0x2403 5 q).bump 0x2403 6).setObj 0x2403 7 (wholeSeconds (stepPs n q))

theorem State.figured_facts (s : State) (n : Int) (q : Nat) : (s.figured n q).objI 0x2403 4 = satPs (stepPs n q) ∧ (s.figured n q).obj 0x2403 5 = q ∧
    (s.figured n q).obj 0x2403 6 = (s.obj 0x2403 6 + 1) % 2 ^ 32 ∧ (s.figured n q).objI 0x2403 7 = wholeSeconds (stepPs n q) := by
  unfold State.figured
  simp only [objI_setObj, obj_setObj, objI_bump, obj_bump, okey_sub]
  simp

/-- The latch is over and the step reported. -/
def State.completed (s : State) (n : Int) (q : Nat) : State :=
  ({ s.figured n q with dev := { (s.figured n q).dev with latch := none } } : State).emcy 0xFF3A (s.figured n q).twin.active q

theorem exec_registrationComplete {n r : Int} {q : Nat} (hs : InService s) (hl : s.dev.latch = some (n, q, r)) (hg : s.time.gate = false)
    (ht : s.dev.target = none) (h1 : s.atStartOf 1 = true) : exec .registrationComplete s = .next (s.completed n q) := by
  refine exec_serving hs rfl ?_
  dsimp only
  rw [hl]
  exact if_neg (by simp [hg, ht, h1])

end Sys2Proof.Machine

namespace Sys2Proof.Proofs
open Sys2Proof Sys2Proof.Machine

/-- Settles O24: the checks of the three registration commands, in the order of R171 and R174. -/
theorem registrationFollowsItsCommands : Obligations.RegistrationFollowsItsCommands := by
  intro s tr hs
  have hgate : s.gate 0x2403 1 = none := gate_at hs _ _ (by decide) (by decide) (by decide)
  have hone (x : Steer) (q : UsdoResponse) : ((s.setSteer s.regBase x).respond tr q).steer s.regBase = x ∧
      ∀ n, n ≠ s.regBase → ((s.setSteer s.regBase x).respond tr q).steer n = s.steer n :=
    ⟨by simp, fun n hn => by rw [State.steer_respond, State.steer_setSteer, if_neg hn]⟩
  have hset (reg : Nat) (q : UsdoResponse) : ((s.setReg s.regBase reg).respond tr q).steer s.regBase = { s.steer s.regBase with reg := reg } ∧
      (∀ n, n ≠ s.regBase → ((s.setReg s.regBase reg).respond tr q).steer n = s.steer n) ∧ ((s.setReg s.regBase reg).respond tr q).time = s.time :=
    ⟨by rw [State.steer_respond, State.steer_setReg, if_pos rfl], fun n hn => by rw [State.steer_respond, State.steer_setReg, if_neg hn],
      by rw [State.respond_time]; exact (touches_setReg ..).frame .time (by decide)⟩
  refine ⟨fun hb hr => ⟨fun h0 hw => ?_, fun h0 => ?_, ?_⟩, fun hb => ⟨?_, ?_⟩, fun hb hr => ⟨?_, ?_⟩, fun h2 => ?_, fun h3 h0 => ?_, fun h3 h0 hl hx => ?_,
    fun h3 h0 hx => ?_, fun h2 h3 => ?_⟩
  · refine completes_of rfl hs hgate (registrationStepOp_first hb hr h0 hw) fun q => ?_
    obtain ⟨htarget, hreel, hreg, htime⟩ := State.scheduled_facts s (s.deferStep (s.nextReelSecond + 1))
    refine ⟨by rw [State.respond_dev, htarget], ?_, by rw [State.steer_respond, hreg], by rw [State.respond_time, htime]⟩
    rw [obj_respond _ _ _ _ _ (by decide) (by decide), hreel]
  · exact confirms_part rfl hs hgate (registrationStepOp_base hb hr h0) (touches_setSteer ..) (hone _)
  · exact completes_of rfl hs hgate (slowSlewOp_ok hb hr) (hset 2)
  · exact refuses_of rfl hs hgate (registrationStepOp_busy hb)
  · exact refuses_of rfl hs hgate (slowSlewOp_busy hb)
  · exact refuses_of rfl hs hgate (registrationStepOp_unregistrable hb hr)
  · exact refuses_of rfl hs hgate (slowSlewOp_unregistrable hb hr)
  · refine completes_of rfl hs hgate (registrationCancelOp_slew h2) fun q => ?_
    obtain ⟨hsteer, -, htime⟩ := hset 1 q
    exact ⟨by rw [hsteer], htime⟩
  · exact confirms_part rfl hs hgate (registrationCancelOp_base h3 h0) (touches_setSteer ..) (hone _)
  · refine completes_of rfl hs hgate (by rw [registrationCancelOp_step h3 h0, State.stepLatched_eq_false hl hx, if_neg (by decide)]) fun q => ⟨?_, ?_, ?_⟩
    · rw [State.steer_respond, State.steer_setReg, if_pos rfl]
    · rw [State.respond_dev, State.target_setReg]
    · rw [State.respond_time]
      exact (touches_setReg ..).frame .time (by decide)
  · exact refuses_of rfl hs hgate (by rw [registrationCancelOp_step h3 h0, State.stepLatched_eq_true hx, if_pos rfl])
  · exact confirms_part rfl hs hgate (registrationCancelOp_idle h2 h3) (.refl s) fun q => State.respond_dev ..

/-- Settles O25: the latch by its two branches, the gate's start by `State.startGate0_eq`, its end by `State.endGate0_facts`. -/
theorem theRegistrationStepRunsThroughItsGate : Obligations.TheRegistrationStepRunsThroughItsGate := by
  intro s hs
  refine ⟨fun g ht h999 hg hl => ⟨fun hd => ?_, fun hd => ?_⟩, fun hr he hl ht hg => ?_, fun n q r hg hl => ?_, fun n q r hl hg ht h1 => ?_⟩
  · have hnext := (exec_registrationLatch hs ht h999 hg hl).trans (by rw [if_neg (not_not_intro hd)])
    have hu := touches_dev s { s.dev with latch := some (splitOffset (s.steer 0).xhat) }
    exact turns_of hnext rfl hu.objects hu.frame
  · have hnext := (exec_registrationLatch hs ht h999 hg hl).trans (by rw [if_pos hd])
    have hu := (touches_dev s { s.dev with target := some (s.deferStep g) }).andThen (touches_setObj _ 0x2403 2 (s.deferStep g))
    exact turns_of hnext ⟨rfl, by rw [State.obj_setObj_self, Int.toNat_natCast]⟩ hu.objects hu.frame
  · have hdue : s.gateDue = true := by simp [State.gateDue, hr, he, Option.isSome_iff_ne_none.2 hl, Option.isSome_iff_ne_none.2 ht, hg]
    have hnext : exec .gateStart s = .next s.startGate0 := exec_serving hs rfl (if_pos hdue)
    have hbase (k : Nat) : s.startGate0.base k = if k = 0 then s.relabel s.split0.1 else s.base k := by
      rw [State.startGate0_eq, State.base_inGate, State.base_relabelled]
    refine ⟨_, hnext, ?_, ?_, ?_, ?_, fun k hk => (hbase k).trans (if_neg hk)⟩
    · rw [State.startGate0_eq]
      rfl
    · rw [State.startGate0_eq]
      rfl
    · rw [State.startGate0_eq]
      rfl
    · rw [hbase 0, if_pos rfl]
      rfl
  · have hnext : exec .gateRelease s = .next s.endGate0 := exec_serving hs rfl (if_pos hg)
    obtain ⟨hgate, htarget, hsteer⟩ := State.endGate0_facts hl
    refine ⟨_, hnext, hgate, htarget, by rw [hsteer]; rfl, by rw [hsteer]; rfl, ?_, tick_clock (execGateRelease_tick s hnext)⟩
    rw [hsteer, State.steer_ungated]
    rfl
  · have hu := touches_emcy ({ s.figured n q with dev := { (s.figured n q).dev with latch := none } } : State) 0xFF3A (s.figured n q).twin.active q
    obtain ⟨h4, h5, h6, h7⟩ := State.figured_facts s n q
    refine ⟨_, exec_registrationComplete hs hl hg ht h1, hu.frame .dev (by decide), (hu.objI (by decide)).trans h4, (hu.obj (by decide)).trans h5,
      (hu.obj (by decide)).trans h6, (hu.objI (by decide)).trans h7, hu.frame .time (by decide)⟩

end Sys2Proof.Proofs
end

section
/-! PROOF. The Developer's steps (R149 to R166): an update, one missed, an ensemble part. -/

namespace Sys2Proof.Machine

variable {s : State} {x : PlanStep}

theorem clampI_bounds {lo hi : Int} (h : lo ≤ hi) (v : Int) : lo ≤ clampI lo hi v ∧ clampI lo hi v ≤ hi := by
  unfold clampI
  split
  · exact ⟨Int.le_refl lo, h⟩
  · split
    · exact ⟨h, Int.le_refl hi⟩
    · omega

/-- The results that an update leaves: a steering value for the next cycle 0, the table of its own state for slot 256. -/
def State.withResults (u : State) (yc : Int) : State :=
  { u with dev := { u.dev with pendYc := some yc, ran := true, tableNext := some u.formTable } }

/-- The steering value is clamped to its range (R154). -/
theorem State.fastUpdate_eq (s : State) : ∃ (u : State) (raw : Int), s.fastUpdate = u.withResults (clampI (-steerRange) steerRange raw) := ⟨_, _, rfl⟩

theorem State.clock_withResults (u : State) (yc : Int) : (u.withResults yc).clock = u.clock := rfl

theorem touches_judge (s : State) (code bound limit : Nat) : Touches [.serve, .mgmt, .objs] [lostKey] s (s.judge code bound limit) := by
  have hquality (q : Quality) : Touches [.serve, .mgmt, .objs] [lostKey] s (s.setQuality code q) :=
    (touches_serve s _).mono (by decide) (List.nil_subset _)
  unfold State.judge
  dsimp only
  split
  · exact hquality _
  · split
    · exact hquality _
    · exact (hquality _).trans ((touches_emcy _ 0xFF70 0xFF (code * 2 ^ 24 + 2 ^ 16)).mono (by decide) (List.Subset.refl _))

theorem touches_judgeAll (s : State) : Touches [.serve, .mgmt, .objs] [lostKey] s s.judgeAll := by
  unfold State.judgeAll
  extract_lets s1 s2
  have h1 : Touches [.serve, .mgmt, .objs] [lostKey] s s1 := touches_foldl (fun u i => by
    split
    · exact touches_judge ..
    · exact .refl u) _ s
  have h2 : Touches [.serve, .mgmt, .objs] [lostKey] s1 s2 := touches_foldl (fun u i => by
    split
    · exact touches_judge ..
    · exact .refl u) _ s1
  exact (h1.trans h2).trans (touches_judge ..)

/-- No update is missed. -/
def State.unmissed (u : State) : State := { u with boot := { u.boot with missedUpdates := 0 } }

theorem State.dev_unmissed (u : State) : u.unmissed.dev = u.dev := rfl

/-- The state after an update that has judged every service (R149, R293). -/
def State.updated (s : State) : State := s.fastUpdate.judgeAll.unmissed

theorem State.dev_updated (s : State) : s.updated.dev = s.fastUpdate.dev := by
  rw [State.updated, State.dev_unmissed, (touches_judgeAll _).frame .dev (by decide)]

theorem exec_fastTermUpdate (hs : InService s) (hx : s.stepNow 5 0 0x40 = some x) :
    exec .fastTermUpdate s = .next (if s.devReady then s.updated else s.missUpdate) := by
  refine exec_serving hs rfl ?_
  dsimp only
  rw [hx]
  rfl

theorem exec_ensemblePart (hs : InService s) (hx : s.stepNow 5 0 0x41 = some x) : exec .ensemblePart s = .next
    (if s.devReady then { s with dev := { s.dev with parts := s.dev.parts + 1 } } else s.skip 133) := by
  refine exec_serving hs rfl ?_
  dsimp only
  rw [hx]

end Sys2Proof.Machine

namespace Sys2Proof.Proofs
open Sys2Proof Sys2Proof.Machine

/-- Settles O26: the results of an update by `State.fastUpdate_eq`, which no later step of the command touches. -/
theorem theDeveloperUpdatesEveryExposure : Obligations.TheDeveloperUpdatesEveryExposure := by
  intro s x hs
  refine ⟨fun hx hr => ?_, fun hx hr => ?_, fun hx hr => ?_, fun hx hr => ?_⟩
  · have hnext : exec .fastTermUpdate s = .next s.updated := (exec_fastTermUpdate hs hx).trans (by rw [if_pos hr])
    obtain ⟨u, raw, hu⟩ := State.fastUpdate_eq s
    have hdev : s.updated.dev = (u.withResults (clampI (-steerRange) steerRange raw)).dev := by rw [State.dev_updated, hu]
    have hclock : u.clock = s.clock := by rw [← State.clock_withResults u (clampI (-steerRange) steerRange raw), ← hu, tick_clock (State.fastUpdate_tick s)]
    refine ⟨_, hnext, rfl, by rw [hdev]; rfl, ⟨clampI (-steerRange) steerRange raw, by rw [hdev]; rfl, clampI_bounds (by decide) raw⟩,
      ⟨u.formTable, by rw [hdev]; rfl, ?_⟩, tick_clock (execFastTermUpdate_tick s hnext)⟩
    rw [← hclock]
    rfl
  · have hnext : exec .fastTermUpdate s = .next s.missUpdate := (exec_fastTermUpdate hs hx).trans (by rw [hr]; rfl)
    have hskip := faultOnly_skip s 133
    have hreport := (touches_bump (s.skip 133) 0x2400 9).andThen (touches_emcy _ 0xFF3B s.twin.active (s.clock.exposure * 2 ^ 16))
    refine ⟨_, hnext, ?_, ?_, ?_, tick_clock (execFastTermUpdate_tick s hnext)⟩
    · have hboot : (((s.skip 133).bump 0x2400 9).emcy 0xFF3B s.twin.active (s.clock.exposure * 2 ^ 16)).boot = s.boot :=
        (hreport.frame .boot (by decide)).trans (hskip.frame .boot (by decide))
      exact congrArg (· + 1) (congrArg Boot.missedUpdates hboot)
    · exact (hreport.frame .dev (by decide)).trans (hskip.frame .dev (by decide))
    · exact ((touches_emcy ..).obj (by decide)).trans ((obj_bump ..).trans (if_pos rfl))
  · have ht := touches_dev s { s.dev with parts := s.dev.parts + 1 }
    exact turns_of ((exec_ensemblePart hs hx).trans (by rw [if_pos hr])) rfl ht.objects ht.frame
  · have hnext : exec .ensemblePart s = .next (s.skip 133) := (exec_ensemblePart hs hx).trans (by rw [hr]; rfl)
    exact ⟨_, hnext, (faultOnly_skip s 133).frame .dev (by decide), tick_clock (execEnsemblePart_tick s hnext)⟩

end Sys2Proof.Proofs
end

section
/-! PROOF. DPLLs (R181, R182, R184): one update an exposure, and the end of a stage. -/

namespace Sys2Proof.Machine

variable {s : State} {d r : Nat}

/-- The record of a DPLL with its acquisition at the first stage (R182). -/
def State.firstUpdate (s : State) (d : Nat) : Dpll :=
  if (s.dpll d).lastUpdate = none then
    { s.dpll d with stage := s.firstStage d, last := decide (s.firstStage d = s.obj (0x3200 + d) 5), dwellAt := s.now }
  else s.dpll d

/-- The loop's record after one update with a phase error (R181, R184). -/
def Dpll.looped (x : Dpll) (e : Int) (gains : Nat × Nat) (nominal exposure : Nat) : Dpll :=
  if x.rebuild then { x with rebuild := false, buildOut := e, error := 0, lastUpdate := some exposure }
  else { x with
    error := e - x.buildOut, integral := x.integral + gains.2 * (e - x.buildOut), lastUpdate := some exposure,
    ftw := ftwOf nominal ((x.integral + gains.2 * (e - x.buildOut) + gains.1 * (e - x.buildOut)) / 2 ^ 32) }

/-- The state in which the loop runs: the first update after a start begins the acquisition. -/
def State.acquiring (s : State) (d : Nat) : State := if (s.dpll d).lastUpdate.isNone then s.acquire d else s

/-- Beginning the acquisition changes the DPLL's record alone. -/
theorem State.acquiring_cases (s : State) (d : Nat) :
    s.acquiring d = s ∧ s.firstUpdate d = s.dpll d ∨ s.acquiring d = s.setDpll d (s.firstUpdate d) := by
  unfold State.firstUpdate State.acquiring
  cases h : (s.dpll d).lastUpdate with
  | none =>
    right
    simp only [Option.isNone_none, if_true, State.acquire]
    rw [← h]
  | some e =>
    left
    simp

theorem State.dpll_acquiring (s : State) (d : Nat) : (s.acquiring d).dpll d = s.firstUpdate d := by
  rcases s.acquiring_cases d with ⟨hv, hx⟩ | hv
  · rw [hv, hx]
  · rw [hv, State.dpll_setDpll_self]

theorem State.dpll_acquiring_ne {k : Nat} (h : k ≠ d) : (s.acquiring d).dpll k = s.dpll k := by
  rcases s.acquiring_cases d with ⟨hv, -⟩ | hv
  · rw [hv]
  · rw [hv, State.dpll_setDpll, if_neg h]

theorem touches_acquiring (s : State) (d : Nat) : Touches [.synth] [] s (s.acquiring d) := by
  rcases s.acquiring_cases d with ⟨hv, -⟩ | hv
  · rw [hv]
    exact .refl s
  · rw [hv]
    exact touches_setDpll ..

theorem State.dpllInterval_congr {t : State} (h : t.objs = s.objs) (r : Nat) : t.dpllInterval r = s.dpllInterval r := by
  unfold State.dpllInterval State.refKind State.refSource State.refInstance
  simp only [obj_of_objs h, objI_of_objs h]

/-- One update is one record written. -/
theorem State.dpllLoop_eq (s : State) (d r : Nat) (e : Int) : s.dpllLoop d r e = (s.acquiring d).setDpll d ((s.firstUpdate d).looped e
    (loopGain (s.firstUpdate d).stage (s.obj (0x3200 + d) 6) (s.dpllInterval r)) (s.obj (0x3200 + d) 4) s.clock.exposures) := by
  have ht := touches_acquiring s d
  have hobjs : (s.acquiring d).objs = s.objs := ht.frame .objs (by decide)
  have hclock : (s.acquiring d).clock = s.clock := ht.frame .clock (by decide)
  have hloop : s.dpllLoop d r e = (s.acquiring d).setDpll d (((s.acquiring d).dpll d).looped e
      (loopGain ((s.acquiring d).dpll d).stage ((s.acquiring d).obj (0x3200 + d) 6) ((s.acquiring d).dpllInterval r))
      ((s.acquiring d).obj (0x3200 + d) 4) (s.acquiring d).clock.exposures) := by
    unfold State.dpllLoop Dpll.looped
    rw [apply_ite ((s.acquiring d).setDpll d)]
    rfl
  rw [hloop, State.dpll_acquiring, obj_of_objs hobjs, obj_of_objs hobjs, State.dpllInterval_congr hobjs, hclock]

/-- The command that runs the loop once. -/
theorem turns_dpllUpdate {e : Int} {y : Dpll} (hs : InService s) (ht : s.tracked d = some r) (hh : (s.dpll d).holdover = false)
    (hl : (s.dpll d).lastUpdate ≠ some s.clock.exposures) (hu : s.usable r = true) (hy : (s.firstUpdate d).looped e
      (loopGain (s.firstUpdate d).stage (s.obj (0x3200 + d) 6) (s.dpllInterval r)) (s.obj (0x3200 + d) 4) s.clock.exposures = y) :
    Turns (.dpllUpdate d e) s [.synth] [] fun t => t.dpll d = y ∧ ∀ k, k ≠ d → t.dpll k = s.dpll k := by
  have hnext : exec (.dpllUpdate d e) s = .next ((s.acquiring d).setDpll d y) := by
    refine exec_serving hs rfl ?_
    rw [ht, ← hy, ← State.dpllLoop_eq]
    exact if_neg (by simp [hh, hl, hu])
  have hframe := (touches_acquiring s d).trans (touches_setDpll (s.acquiring d) d y)
  exact turns_of hnext ⟨State.dpll_setDpll_self .., fun k hk => by rw [State.dpll_setDpll, if_neg hk, State.dpll_acquiring_ne hk]⟩ hframe.objects hframe.frame

theorem State.running_of_tracked (h : s.tracked d = some r) : (s.dpll d).running = true := by
  cases hr : (s.dpll d).running with
  | true => rfl
  | false =>
    have hnone : s.tracked d = none := if_pos (by simp [hr])
    exact absurd (h.symm.trans hnone) (by simp)

end Sys2Proof.Machine

namespace Sys2Proof.Proofs
open Sys2Proof Sys2Proof.Machine

/-- Settles O27: an update is one record written, by `State.dpllLoop_eq`; a stage's end another. -/
theorem dpllsUpdateAndNarrow : Obligations.DpllsUpdateAndNarrow := by
  intro s d r e x hs ht hx
  have hfirst : s.firstUpdate d = x := hx.symm
  have hrebuild : x.rebuild = (s.dpll d).rebuild := by
    rw [hx]
    split
    · rfl
    · rfl
  refine ⟨fun hh hl hu => ⟨fun g hr hg => ?_, fun hr => ?_⟩, fun h => ?_, fun hl hh hn hd => ?_, fun h => ?_⟩
  · refine turns_dpllUpdate hs ht hh hl hu ?_
    rw [hfirst, hg]
    exact if_neg (by simp [hrebuild, hr])
  · refine turns_dpllUpdate hs ht hh hl hu ?_
    rw [hfirst]
    exact if_pos (by simp [hrebuild, hr])
  · refine exec_serving hs rfl ?_
    rw [ht]
    exact if_pos h
  · have hnext : exec (.dpllStageEnd d) s = .next (s.setDpll d { s.dpll d with
        stage := nextStage (s.dpll d).stage (s.obj (0x3200 + d) 5), dwellAt := s.now,
        last := decide (nextStage (s.dpll d).stage (s.obj (0x3200 + d) 5) = s.obj (0x3200 + d) 5) }) := by
      refine exec_serving hs rfl (if_neg ?_)
      simp [State.running_of_tracked ht, hl, hh, ht, hn, hd]
    have hframe := touches_setDpll s d { s.dpll d with
      stage := nextStage (s.dpll d).stage (s.obj (0x3200 + d) 5), dwellAt := s.now,
      last := decide (nextStage (s.dpll d).stage (s.obj (0x3200 + d) 5) = s.obj (0x3200 + d) 5) }
    exact turns_of hnext ⟨State.dpll_setDpll_self .., fun k hk => by rw [State.dpll_setDpll, if_neg hk]⟩ hframe.objects hframe.frame
  · refine exec_serving hs rfl (if_pos ?_)
    rcases h with h | h | h
    · exact Or.inr (Or.inl h)
    · exact Or.inr (Or.inr (Or.inl h))
    · exact Or.inr (Or.inr (Or.inr (Or.inr (Or.inr h))))

end Sys2Proof.Proofs
end

section
/-! PROOF. Output PLLs (R187 to R198): safe point, search and lock, and what a re-lock leaves. -/

namespace Sys2Proof.Machine

variable {s t u : State} {o c : Nat}

theorem touches_setOpll (s : State) (o : Nat) (x : Opll) : Touches [.synth] [] s (s.setOpll o x) := touches_part rfl (keeps_synth s _)

/-! ### Gating -/

/-- A channel after it is gated: an enabled one is held low or on its safelight source. -/
theorem State.channel_gateChannel (s : State) (k c : Nat) : ((s.gateChannel k).channel c).enabled = (s.channel c).enabled ∧
    ((s.channel c).gated = true → ((s.gateChannel k).channel c).gated = true) ∧
    (c = k → (s.channel c).enabled = true → ((s.gateChannel k).channel c).gated = true) := by
  unfold State.gateChannel
  dsimp only
  split
  case isTrue h =>
    refine ⟨rfl, id, fun hc hon => ?_⟩
    rw [← hc, hon] at h
    exact absurd h (by decide)
  case isFalse h =>
    rw [State.channel_setChannel]
    split
    case isTrue hc => exact ⟨by rw [hc], fun _ => rfl, fun _ _ => rfl⟩
    case isFalse hc => exact ⟨rfl, id, fun hk => absurd hk hc⟩

theorem touches_gateChannel (s : State) (k : Nat) : Touches [.synth] [] s (s.gateChannel k) := by
  unfold State.gateChannel
  dsimp only
  split
  · exact .refl s
  · exact touches_setChannel ..

theorem State.opll_gateChannel (s : State) (k o : Nat) : (s.gateChannel k).opll o = s.opll o := by
  unfold State.gateChannel
  dsimp only
  split
  · rfl
  · rfl

/-- Every channel of a list is gated that is enabled (R192). -/
def State.gateAll (s : State) (l : List Nat) : State := l.foldl State.gateChannel s

theorem touches_gateAll (s : State) (l : List Nat) : Touches [.synth] [] s (s.gateAll l) := touches_foldl touches_gateChannel l s

theorem State.opll_gateAll (s : State) (l : List Nat) (o : Nat) : (s.gateAll l).opll o = s.opll o :=
  foldl_keep (fun u : State => u.opll o) _ l s fun u k => State.opll_gateChannel u k o

theorem State.gated_gateAll {l : List Nat} (hc : c ∈ l) (hon : (s.channel c).enabled = true) : ((s.gateAll l).channel c).gated = true := by
  have hstays (l : List Nat) (u : State) (h : (u.channel c).gated = true) : ((u.gateAll l).channel c).gated = true := by
    induction l generalizing u with
    | nil => exact h
    | cons k r ih => exact ih _ ((u.channel_gateChannel k c).2.1 h)
  induction l generalizing s with
  | nil => exact absurd hc List.not_mem_nil
  | cons k r ih =>
    obtain ⟨henabled, -, hgated⟩ := s.channel_gateChannel k c
    rcases List.mem_cons.1 hc with rfl | hr
    · exact hstays r _ (hgated rfl hon)
    · exact ih hr (henabled.trans hon)

theorem State.mem_fed (hc : c < 12) (h : s.obj (0x3220 + c) 2 = o) : c ∈ s.fed o := by
  simp [State.fed, hc, h]

/-! ### The safe point of a disable -/

theorem enableDue_none (s : State) (n : Nat) : s.enableDue none n = false := rfl

/-- Without a set or an enable that is due the safe point does nothing. -/
theorem State.opllSafePoint_idle {x y : Bool} (hg : s.safeDue 2 o = false) (h : (s.opll o).pendEnable = none ∨ s.clock.cycle ≠ 0) :
    s.opllSafePoint o x y = s := by
  refine if_pos ?_
  rcases h with h | h
  · simp [hg, h, enableDue_none]
  · simp [h]

/-- An output PLL's enable taken off, before it sleeps. -/
def State.switchedOff (s : State) (o : Nat) : State :=
  (s.takeEffect (okey 0 0 (0x3210 + o) 1) (bitNat false)).setOpll o { s.opll o with pendEnable := none }

theorem touches_switchedOff (s : State) (o : Nat) : Touches [.mgmt, .objs, .synth] [okey 0 0 (0x3210 + o) 1] s (s.switchedOff o) :=
  ((touches_takeEffect ..).andThen (touches_setOpll ..)).mono (by decide) (List.Subset.refl _)

theorem State.obj_switchedOff (s : State) (o : Nat) : (s.switchedOff o).obj (0x3210 + o) 1 = 0 := obj_takeEffect_self s (0x3210 + o) 1 0

/-- The lock pins alone change with a level. -/
theorem Opll.setPins_eq (high : Bool) (now : Nat) (l : List Nat) (x : Opll) :
    ∃ q, l.foldl (fun (x : Opll) p => x.setPin p high now) x = { x with pins := q } := by
  induction l generalizing x with
  | nil => exact ⟨x.pins, rfl⟩
  | cons p r ih =>
    obtain ⟨q, hq⟩ : ∃ q, x.setPin p high now = { x with pins := q } := by
      unfold Opll.setPin
      dsimp only
      split
      · exact ⟨x.pins, rfl⟩
      · exact ⟨_, rfl⟩
    obtain ⟨w, hw⟩ := ih (x.setPin p high now)
    exact ⟨w, by rw [List.foldl_cons, hw, hq]⟩

theorem State.opll_lockPins (s : State) (o : Nat) (l : List Nat) (high : Bool) (k : Nat) : (s.lockPins o l high).opll k =
    if k = o then l.foldl (fun (x : Opll) p => x.setPin p high s.now) (s.opll o) else s.opll k := State.opll_setOpll ..

theorem touches_lockPins (s : State) (o : Nat) (l : List Nat) (high : Bool) : Touches [.synth] [] s (s.lockPins o l high) := touches_setOpll ..

/-- A write of the record and the lock pins after it. -/
theorem State.opll_pinned (s : State) (o : Nat) (x : Opll) (l : List Nat) (high : Bool) (k : Nat) : ((s.setOpll o x).lockPins o l high).opll k =
    if k = o then l.foldl (fun (x : Opll) p => x.setPin p high s.now) x else s.opll k := by
  rw [State.opll_lockPins, State.opll_setOpll_self]
  split
  · rfl
  · rw [State.opll_setOpll, if_neg ‹_›]

theorem touches_pinned (s : State) (o : Nat) (x : Opll) (l : List Nat) (high : Bool) : Touches [.synth] [] s ((s.setOpll o x).lockPins o l high) :=
  (touches_setOpll ..).trans (touches_lockPins ..)

theorem State.opllSafePoint_disable {x y : Bool} (hg : s.safeDue 2 o = false) (hp : (s.opll o).pendEnable = some false)
    (hi : (s.opll o).pendIn < s.clock.exposures) (h0 : s.clock.cycle = 0) (he : s.clock.exposureDue = false) (hon : s.obj (0x3210 + o) 1 = 1) :
    s.opllSafePoint o x y = ((s.switchedOff o).opllSleep o).gateAll ((s.switchedOff o).fed o) := by
  have hdue : s.enableDue (some false) (s.opll o).pendIn = true := by simp [State.enableDue, hi]
  unfold State.opllSafePoint
  dsimp only
  rw [hg, hp, hdue, h0, he, hon]
  simp only [Bool.not_false, Bool.not_true, Bool.and_false, ne_eq, not_true_eq_false, decide_false, Bool.or_false, Bool.false_eq_true,
    if_false, if_true]
  exact if_pos (State.obj_switchedOff s o)

/-- What the disable leaves of the output PLL, of its enable and of the channels that it feeds. -/
theorem State.disabled_facts (s : State) (o : Nat) (l : List Nat) :
    ((((s.switchedOff o).opllSleep o).gateAll l).opll o).state = 0 ∧ ((((s.switchedOff o).opllSleep o).gateAll l).opll o).ramp = none ∧
    ((((s.switchedOff o).opllSleep o).gateAll l).opll o).pendEnable = none ∧ (((s.switchedOff o).opllSleep o).gateAll l).obj (0x3210 + o) 1 = 0 := by
  have hobj := ((touches_pinned (s.switchedOff o) o _ [0, 1] false).trans (touches_gateAll ((s.switchedOff o).opllSleep o) l)).obj
    (i := 0x3210 + o) (j := 1) List.not_mem_nil
  obtain ⟨q, hq⟩ := Opll.setPins_eq false (s.switchedOff o).now [0, 1] { (s.switchedOff o).opll o with state := 0, ramp := none, found := none }
  have hopll : (((s.switchedOff o).opllSleep o).gateAll l).opll o =
      { (s.switchedOff o).opll o with state := 0, ramp := none, found := none, pins := q } := by
    rw [State.opll_gateAll, ← hq]
    exact (State.opll_pinned ..).trans (if_pos rfl)
  have hpend : (s.switchedOff o).opll o = { s.opll o with pendEnable := none } := State.opll_setOpll_self ..
  rw [hopll, hpend]
  exact ⟨rfl, rfl, rfl, hobj.trans (State.obj_switchedOff s o)⟩

theorem touches_opllSleep (s : State) (o : Nat) : Touches [.synth] [] s (s.opllSleep o) := touches_pinned ..

theorem touches_asleep (s : State) (o : Nat) : Touches [.mgmt, .objs, .synth] [okey 0 0 (0x3210 + o) 1] s ((s.switchedOff o).opllSleep o) :=
  (touches_switchedOff s o).trans ((touches_opllSleep (s.switchedOff o) o).mono (by decide) (List.nil_subset _))

theorem State.channel_opllSleep (s : State) (o c : Nat) : (s.opllSleep o).channel c = s.channel c := rfl

theorem State.channel_setOpll (s : State) (o c : Nat) (x : Opll) : (s.setOpll o x).channel c = s.channel c := rfl

theorem State.channel_asleep (s : State) (o c : Nat) : ((s.switchedOff o).opllSleep o).channel c = s.channel c := by
  rw [State.channel_opllSleep, State.switchedOff, State.channel_setOpll]
  exact State.channel_congr ((touches_takeEffect ..).frame .synth (by decide)) c

/-! ### A re-lock -/

/-- The state in which a re-lock begins: the channels fed are gated and the lock pins low (R192). -/
def State.unlocked (s : State) (o : Nat) : State := ((s.followDco o).gateAll (s.fed o)).lockPins o [0, 1] false

/-- A recipe that both running plates hold (R194). -/
def State.byRecipe (s : State) (o : Nat) (full : Bool) : Bool := !full && (s.running.all fun p => (s.recipeFor o p (s.vco o)).isSome)

theorem State.relock_eq (s : State) (o : Nat) (full : Bool) : s.relock o full = ((s.unlocked o).setOpll o { (s.unlocked o).opll o with
    state := if (s.unlocked o).byRecipe o full then 2 else 1, byRecipe := (s.unlocked o).byRecipe o full, searches := 0, searchAt := (s.unlocked o).now,
    found := none, ramp := none }).bump (0x3210 + o) (if (s.unlocked o).byRecipe o full then 0x0C else 0x0D) := rfl

/-- A re-lock leaves the output PLL searching, by a recipe or in full. -/
theorem State.opll_relock (s : State) (o : Nat) (full : Bool) :
    (((s.relock o full).opll o).state = 1 ∨ ((s.relock o full).opll o).state = 2) ∧ ((s.relock o full).opll o).searches = 0 ∧
    ((s.relock o full).opll o).found = none ∧ ((s.relock o full).opll o).ramp = none := by
  have hopll (x : Opll) (j : Nat) : (((s.unlocked o).setOpll o x).bump (0x3210 + o) j).opll o = x := State.opll_setOpll_self ..
  rw [State.relock_eq, hopll]
  refine ⟨?_, rfl, rfl, rfl⟩
  dsimp only
  split
  · exact Or.inr rfl
  · exact Or.inl rfl

/-! ### A lock qualified -/

theorem touches_noteRecipe (s : State) (o p : Nat) (f : BandResult) : Touches [.synth] [] s (s.noteRecipe o p f) := by
  unfold State.noteRecipe
  dsimp only
  split
  · split
    · exact .refl s
    · split
      · exact .refl s
      · exact touches_setOpll ..
  · exact touches_setOpll ..

/-- The recipes of the running plates are written or counted (R194). -/
def State.noted (s : State) (o : Nat) (a b : BandResult) : State :=
  s.running.foldl (fun (s : State) p => s.noteRecipe o p (if p = 0 then a else b)) s

theorem touches_noted (s : State) (o : Nat) (a b : BandResult) : Touches [.synth] [] s (s.noted o a b) :=
  touches_foldl (fun u p => touches_noteRecipe u o p _) _ s

/-- Locked, with the search's results taken. -/
def State.locked (s : State) (o : Nat) (a b : BandResult) : State :=
  (s.noted o a b).setOpll o { (s.noted o a b).opll o with state := 4, found := none }

/-- The channels of a list released to the VCO path (R192). -/
def State.release (s : State) (l : List Nat) : State :=
  l.foldl (fun (s : State) c => s.setChannel c { s.channel c with gated := false, safelight := false }) s

theorem State.opll_release (s : State) (l : List Nat) (o : Nat) : (s.release l).opll o = s.opll o :=
  foldl_keep (fun u : State => u.opll o) _ l s fun _ _ => rfl

theorem State.channel_release {l : List Nat} (hl : l.Nodup) (c : Nat) :
    (s.release l).channel c = if c ∈ l then { s.channel c with gated := false, safelight := false } else s.channel c :=
  bank_foldl (look := State.channel) (G := fun _ x => { x with gated := false, safelight := false }) (P := fun _ => True) (fun _ _ _ => trivial)
    (fun u k j _ => State.channel_setChannel u k j _) hl trivial c

/-- Locked, with the channels fed released. -/
def State.freed (s : State) (o : Nat) (a b : BandResult) : State := (s.locked o a b).release ((s.locked o a b).fed o)

theorem State.opll_freed (s : State) (o : Nat) (a b : BandResult) :
    (s.freed o a b).opll o = { (s.noted o a b).opll o with state := 4, found := none } :=
  (State.opll_release ..).trans (State.opll_setOpll_self ..)

theorem State.channel_freed {a b : BandResult} (hc : c < 12) (h : s.obj (0x3220 + c) 2 = o) :
    ((s.freed o a b).channel c).gated = false ∧ ((s.freed o a b).channel c).safelight = false := by
  have hfed : c ∈ (s.locked o a b).fed o :=
    State.mem_fed hc ((((touches_noted s o a b).trans (touches_setOpll ..)).obj List.not_mem_nil).trans h)
  have hnodup : ((s.locked o a b).fed o).Nodup := List.nodup_range.filter _
  rw [State.freed, State.channel_release hnodup, if_pos hfed]
  exact ⟨rfl, rfl⟩

theorem exec_lockQualified {a b : BandResult} {ns : Nat} (hs : InService s) (h3 : (s.opll o).state = 3) (hf : (s.opll o).found = some (a, b))
    (hq : (s.opll o).qualAt + 100000 ≤ s.now) : exec (.lockQualified o ns) s = .next
      (((s.freed o a b).setObj (0x3210 + o) 0x10 (ns % 2 ^ 32 : Nat)).emcy 0xFF44 s.twin.active (o * 2 ^ 24 + ns % 2 ^ 24)) := by
  refine exec_serving hs rfl ?_
  dsimp only
  rw [hf]
  exact if_neg (by simp [h3, Nat.not_lt.2 hq])

theorem State.opll_emcy (s : State) (x p d o : Nat) : (s.emcy x p d).opll o = s.opll o := State.opll_congr ((touches_emcy s x p d).frame .synth (by decide)) o

theorem State.channel_emcy (s : State) (x p d c : Nat) : (s.emcy x p d).channel c = s.channel c :=
  State.channel_congr ((touches_emcy s x p d).frame .synth (by decide)) c

theorem opllObj_not_lost (o j : Nat) : okey 0 0 (0x3210 + o) j ∉ [lostKey] := by
  simp only [lostKey, okey, List.mem_singleton]
  omega

/-! ### Loss of lock and the sense input -/

/-- An event of a running output PLL is acted on while it is locked or ramping. -/
theorem exec_lockLoss {x y : Bool} (hs : InService s) (hst : (s.opll o).state = 4 ∨ (s.opll o).state = 5) : exec (.lockLoss o x y) s = .next
    (if x ∧ y then ((s.bump (0x3210 + o) 0x0E).relock o false).emcy 0xFF41 s.twin.active (o * 2 ^ 24)
    else if x then ((s.bump (0x3210 + o) 0x0E).lockPins o [0] false).fatal 0 (96 + o) 0
    else if y then ((s.bump (0x3210 + o) 0x0E).lockPins o [1] false).fatal 1 (96 + o) 0
    else s) := exec_serving hs rfl (if_neg (by omega))

end Sys2Proof.Machine

namespace Sys2Proof.Proofs
open Sys2Proof Sys2Proof.Machine

/-- Settles O28: the records that each step writes, and the gating of the channels fed, by `State.gated_gateAll`. -/
theorem outputPllsLockAndRelock : Obligations.OutputPllsLockAndRelock := by
  intro s o ns p a b hs
  refine ⟨fun hg h x y => ?_, fun hg hp hi h0 he hon x y => ?_, fun hst of hof => ?_, fun h2 hr hd => ?_, fun h3 hf hq => ?_, fun hst hd => ⟨fun hn => ?_,
    fun hn => ?_⟩, fun hst => ⟨?_, ?_, fun hd => ?_, fun hd => ?_⟩⟩
  · exact exec_serving hs rfl (State.opllSafePoint_idle hg h)
  · obtain ⟨hstate, hramp, hpend, henable⟩ := State.disabled_facts s o ((s.switchedOff o).fed o)
    refine ⟨_, exec_serving hs rfl (State.opllSafePoint_disable hg hp hi h0 he hon), hstate, hramp, hpend, henable, fun c hc hsrc hon => ?_, ?_⟩
    · refine State.gated_gateAll (s := (s.switchedOff o).opllSleep o) (l := (s.switchedOff o).fed o) (State.mem_fed hc ?_) (by rw [State.channel_asleep, hon])
      refine ((touches_switchedOff s o).obj ?_).trans hsrc
      simp only [okey, List.mem_singleton]
      omega
    · exact ((touches_asleep s o).trans ((touches_gateAll ..).mono (by decide) (List.nil_subset _))).frame .clock (by decide)
  · subst hof
    have hframe := touches_pinned s o { s.opll o with
      state := 3, found := some (a, b), qualAt := s.now,
      band := s.running.foldl (fun t p => t.put (fun _ => 0) p (if p = 0 then a else b).band) (s.opll o).band,
      tuning := s.running.foldl (fun t p => t.put (fun _ => 0) p (if p = 0 then a else b).tuningMv) (s.opll o).tuning } s.running true
    exact turns_of (exec_serving hs rfl (if_pos hst)) ⟨(State.opll_pinned ..).trans (if_pos rfl), fun k hk => (State.opll_pinned ..).trans (if_neg hk)⟩
      hframe.objects hframe.frame
  · have hframe := (touches_setOpll s o { s.opll o with state := 1, byRecipe := false, searchAt := s.now }).andThen (touches_bump _ (0x3210 + o) 0x0D)
    exact turns_of (exec_serving hs rfl (if_pos ⟨h2, hr, hd⟩)) ⟨State.opll_setOpll_self .., (obj_bump ..).trans (if_pos rfl)⟩ hframe.objects hframe.frame
  · have hnext := exec_lockQualified (ns := ns) hs h3 hf hq
    refine ⟨_, hnext, ?_, ?_, ?_, tick_clock (execLockQualified_tick o ns s hnext), fun c hc hsrc => ?_⟩
    · rw [State.opll_emcy]
      exact congrArg Opll.state (State.opll_freed s o a b)
    · rw [State.opll_emcy]
      exact congrArg Opll.found (State.opll_freed s o a b)
    · rw [(touches_emcy ..).obj (opllObj_not_lost o 0x10), State.obj_setObj_self, Int.toNat_natCast]
    · rw [State.channel_emcy]
      exact State.channel_freed hc hsrc
  · have hframe := (touches_pinned s o { s.opll o with
      state := 1, byRecipe := false, searches := (s.opll o).searches + 1, found := none, searchAt := s.now } [0, 1] false).andThen
      (touches_bump _ (0x3210 + o) 0x0D)
    exact turns_of (exec_serving hs rfl ((if_pos ⟨hst, hd⟩).trans (if_pos hn))) ((State.opll_pinned ..).trans (if_pos rfl)) hframe.objects hframe.frame
  · have hnext : exec (.searchTimeout o) s = .next _ := exec_serving hs rfl ((if_pos ⟨hst, hd⟩).trans (if_neg (Nat.not_lt.2 hn)))
    refine ⟨_, hnext, ?_, tick_clock (execSearchTimeout_tick o s hnext)⟩
    rw [State.opll_emcy, (faultOnly_containedBoth ..).opll, State.opll_pinned, if_pos rfl]
  · have hnext := (exec_lockLoss (x := true) (y := true) hs hst).trans (by rw [if_pos ⟨rfl, rfl⟩])
    obtain ⟨hstate, hsearches, hfound, hramp⟩ := State.opll_relock (s.bump (0x3210 + o) 0x0E) o false
    refine ⟨_, hnext, ?_, ?_, ?_, ?_, tick_clock (execLockLoss_tick o true true s hnext)⟩
    · rw [State.opll_emcy]
      exact hstate
    · rw [State.opll_emcy]
      exact hsearches
    · rw [State.opll_emcy]
      exact hfound
    · rw [State.opll_emcy]
      exact hramp
  · rw [exec_lockLoss hs hst]
    rfl
  · have hnext : exec (.lockSenseMismatch o p) s = .next _ := exec_serving hs rfl (if_pos ⟨hst, hd⟩)
    refine ⟨_, hnext, ?_, tick_clock (execLockSenseMismatch_tick o p s hnext)⟩
    rw [State.opll_emcy, (faultOnly_containedOn ..).opll, State.opll_setOpll_self]
  · exact exec_serving hs rfl (if_neg (by omega))

end Sys2Proof.Proofs
end

section
/-! PROOF. Ramps and clock channels (R189, R194 to R205): the ramp's updates, alignment, the safe point of a channel and recipes. -/

namespace Sys2Proof.Machine

variable {s t u : State} {o c : Nat}

@[simp] theorem State.channel_respond (s : State) (tr : Transport) (r : UsdoResponse) (c : Nat) : (s.respond tr r).channel c = s.channel c :=
  State.channel_congr ((touches_respond ..).frame .synth (by decide)) c

@[simp] theorem State.opll_respond (s : State) (tr : Transport) (r : UsdoResponse) (o : Nat) : (s.respond tr r).opll o = s.opll o :=
  State.opll_congr ((touches_respond ..).frame .synth (by decide)) o

/-! ### One PLL at a time -/

/-- A fold in which one element alone acts. -/
theorem foldl_one {α : Type} {f : State → α → State} {l : List α} {a : α} (hl : l.Nodup) (ha : a ∈ l) (hs : ∀ b ∈ l, b ≠ a → f s b = s)
    (ht : ∀ b ∈ l, b ≠ a → f (f s a) b = f s a) : l.foldl f s = f s a := by
  have hidle (r : List α) (u : State) (h : ∀ b ∈ r, f u b = u) : r.foldl f u = u := by
    induction r with
    | nil => rfl
    | cons b r ih =>
      rw [List.foldl_cons, h b List.mem_cons_self]
      exact ih fun b hb => h b (List.mem_cons_of_mem _ hb)
  obtain ⟨x, y, rfl⟩ := List.append_of_mem ha
  obtain ⟨-, hy, hxy⟩ := List.nodup_append.1 hl
  obtain ⟨hay, -⟩ := List.nodup_cons.1 hy
  rw [List.foldl_append, hidle x s fun b hb => hs b (List.mem_append_left _ hb) (hxy b hb a List.mem_cons_self), List.foldl_cons,
    hidle y _ fun b hb => ht b (List.mem_append_right _ (List.mem_cons_of_mem _ hb)) fun h => hay (h ▸ hb)]

/-- The ramp of one output PLL advances. -/
def State.rampAdvance (s : State) (o : Nat) : State :=
  match (s.opll o).ramp with
  | none => s
  | some r =>
    if s.now < r.updated + 1000 then s
    else
      let n := { r.tick with updated := s.now }
      if n.done then s.rampEnd o n else s.setOpll o { s.opll o with ramp := some n }

theorem State.rampUpdate_eq (s : State) : s.rampUpdate = if s.time.gate then s else (List.range 4).foldl State.rampAdvance s := rfl

theorem State.rampAdvance_idle (h : (s.opll o).ramp = none) : s.rampAdvance o = s := by rw [State.rampAdvance, h]

theorem State.rampAdvance_early {r : Ramp} (h : (s.opll o).ramp = some r) (hn : s.now < r.updated + 1000) : s.rampAdvance o = s := by
  rw [State.rampAdvance, h]
  exact if_pos hn

theorem State.rampAdvance_tick {r : Ramp} (h : (s.opll o).ramp = some r) (hn : r.updated + 1000 ≤ s.now) (hd : r.tick.done = false) :
    s.rampAdvance o = s.setOpll o { s.opll o with ramp := some { r.tick with updated := s.now } } := by
  have hdone : Ramp.done { r.tick with updated := s.now } = false := hd
  rw [State.rampAdvance, h]
  dsimp only
  rw [if_neg (Nat.not_lt.2 hn), hdone]
  rfl

/-- The one ramp in progress advances; no other output PLL has any. -/
theorem State.rampUpdate_of (hg : s.time.gate = false) (ho : o < 4) (hother : ∀ k, k < 4 → k ≠ o → (s.opll k).ramp = none)
    (ht : ∀ k, k ≠ o → (s.rampAdvance o).opll k = s.opll k) : s.rampUpdate = s.rampAdvance o := by
  rw [State.rampUpdate_eq, hg, if_neg Bool.false_ne_true]
  refine foldl_one List.nodup_range (List.mem_range.2 ho) (fun k hk hko => ?_) fun k hk hko => ?_
  · exact State.rampAdvance_idle (hother k (List.mem_range.1 hk) hko)
  · exact State.rampAdvance_idle ((congrArg Opll.ramp (ht k hko)).trans (hother k (List.mem_range.1 hk) hko))

/-! ### Alignment -/

/-- The fine delay of one plate's side after its alignment (R199). -/
def State.alignOne (s : State) (c : Nat) (v : Nat) (e : Int) (p : Nat) : State :=
  s.setObjP p (0x3220 + c) 0x0E (fineDelay v ((s.objKey (okey p 0 (0x3220 + c) 0x0E)).toNat * psUnit + correction (s.channelHz c) e))

/-- The running plates' sides after the alignment of a channel. -/
def State.alignSides (s : State) (c : Nat) (ea eb : Int) : State :=
  s.running.foldl (fun u p => u.alignOne c (s.vco (s.obj (0x3220 + c) 2)) (if p = 0 then ea else eb) p) s

theorem State.align_eq (s : State) (c : Nat) (ea eb : Int) :
    s.align c ea eb = (s.alignSides c ea eb).setChannel c { s.channel c with aligned := true, lost := false } := rfl

theorem touches_alignOne (s : State) (c v : Nat) (e : Int) (p : Nat) : Touches [.objs] [okey p 0 (0x3220 + c) 0x0E] s (s.alignOne c v e p) :=
  touches_setKey ..

/-- The frequency of a channel does not depend on its fine delays. -/
theorem State.channelHz_alignOne (s : State) (c v : Nat) (e : Int) (p : Nat) : (s.alignOne c v e p).channelHz c = s.channelHz c := by
  have hobj (i j : Nat) (hj : j = 2 ∨ j = 3 ∨ j = 4 ∨ j = 5) : (s.alignOne c v e p).obj i j = s.obj i j := by
    refine (touches_alignOne s c v e p).obj ?_
    simp only [okey, List.mem_singleton]
    omega
  simp only [State.channelHz, State.vco, hobj _ 2 (by decide), hobj _ 3 (by decide), hobj _ 4 (by decide), hobj _ 5 (by decide)]

theorem State.running_nodup (s : State) : s.running.Nodup := List.Nodup.filter _ (by decide)

theorem State.mem_running {p : Nat} (h : p ∈ s.running) : p = 0 ∨ p = 1 := by simpa using (List.mem_filter.1 h).1

/-- Each running plate's fine delay moves by its own correction (R199). -/
theorem State.objKey_alignSides (s : State) (c : Nat) (ea eb : Int) (p : Nat) :
    (s.alignSides c ea eb).objKey (okey p 0 (0x3220 + c) 0x0E) = if p ∈ s.running then
      ((fineDelay (s.vco (s.obj (0x3220 + c) 2)) ((s.objKey (okey p 0 (0x3220 + c) 0x0E)).toNat * psUnit +
        correction (s.channelHz c) (if p = 0 then ea else eb)) : Nat) : Int) else s.objKey (okey p 0 (0x3220 + c) 0x0E) := by
  refine bank_foldl (look := fun (u : State) p => u.objKey (okey p 0 (0x3220 + c) 0x0E)) (P := fun u => u.channelHz c = s.channelHz c)
    (G := fun p x => ((fineDelay (s.vco (s.obj (0x3220 + c) 2)) (x.toNat * psUnit + correction (s.channelHz c) (if p = 0 then ea else eb)) : Nat) : Int))
    (fun u k hu => (State.channelHz_alignOne ..).trans hu) (fun u k j hu => ?_) s.running_nodup rfl p
  have hkey : (okey j 0 (0x3220 + c) 0x0E = okey k 0 (0x3220 + c) 0x0E) ↔ j = k := by
    unfold okey
    omega
  rw [State.alignOne, State.objKey_setObjP, hu]
  exact if_congr hkey rfl rfl

theorem touches_alignSides (s : State) (c : Nat) (ea eb : Int) :
    Touches [.objs] [okey 0 0 (0x3220 + c) 0x0E, okey 1 0 (0x3220 + c) 0x0E] s (s.alignSides c ea eb) := by
  refine touches_foldl_mem (fun u p hp => (touches_alignOne ..).mono (List.Subset.refl _) ?_) s
  rcases State.mem_running hp with rfl | rfl <;> simp

/-! ### The safe point of a channel -/

/-- Without a set or an enable that is due the safe point does nothing. -/
theorem State.channelSafePoint_idle (hg : s.safeDue 3 c = false) (h : (s.channel c).pendEnable = none ∨ s.clock.exposures ≤ (s.channel c).pendIn) :
    s.channelSafePoint c = s := by
  refine if_pos ?_
  rcases h with h | h
  · simp [hg, h, enableDue_none]
  · simp [hg, State.enableDue, Nat.not_lt.2 h]

/-- A channel's record after its disable. -/
def State.channelOff (s : State) (c : Nat) : Channel :=
  { s.channel c with enabled := false, pendEnable := none, aligned := false, lost := false, gated := false, safelight := false, measured := false,
                     onB := if (s.takeEffect (okey 0 0 (0x3220 + c) 1) 0).obj (0x3220 + c) 4 = 0 then false
                       else decide ((s.takeEffect (okey 0 0 (0x3220 + c) 1) 0).twin.active = 1) }

/-- The channel taken out, before its output PLL may sleep. -/
def State.takenOut (s : State) (c : Nat) : State := (s.takeEffect (okey 0 0 (0x3220 + c) 1) 0).setChannel c (s.channelOff c)

theorem touches_takenOut (s : State) (c : Nat) : Touches [.mgmt, .objs, .synth] [okey 0 0 (0x3220 + c) 1] s (s.takenOut c) :=
  ((touches_takeEffect ..).andThen (touches_setChannel ..)).mono (by decide) (List.Subset.refl _)

theorem State.obj_takenOut (s : State) (c : Nat) : (s.takenOut c).obj (0x3220 + c) 1 = 0 := obj_takeEffect_self s (0x3220 + c) 1 0

theorem State.channel_takenOut (s : State) (c : Nat) : (s.takenOut c).channel c = s.channelOff c := State.channel_setChannel_self ..

/-- A last channel disabled may put its output PLL to sleep, and does nothing else. -/
theorem State.channelPower_disable (s : State) (c : Nat) : s.channelPower c false = s ∨ s.channelPower c false = s.opllSleep (s.obj (0x3220 + c) 2) := by
  unfold State.channelPower
  dsimp only
  split
  · exact Or.inl rfl
  · rw [Bool.not_false, if_pos rfl]
    split
    · exact Or.inl rfl
    · exact Or.inr rfl

theorem touches_channelPower_disable (s : State) (c : Nat) : Touches [.synth] [] s (s.channelPower c false) := by
  rcases s.channelPower_disable c with h | h <;> rw [h]
  · exact .refl s
  · exact touches_opllSleep ..

theorem State.channel_channelPower_disable (s : State) (c k : Nat) : (s.channelPower c false).channel k = s.channel k := by
  rcases s.channelPower_disable c with h | h <;> rw [h]
  rfl

theorem State.channelSafePoint_disable (hg : s.safeDue 3 c = false) (hp : (s.channel c).pendEnable = some false)
    (hi : (s.channel c).pendIn < s.clock.exposures) (ha : (s.channel c).aligned = false ∨ s.atAlignBoundary c = true)
    (hsrc : s.obj (0x3220 + c) 2 < 16) :
    s.channelSafePoint c = if (s.channel c).enabled = false then s.takenOut c else (s.takenOut c).channelPower c false := by
  have hdue : s.enableDue (some false) (s.channel c).pendIn = true := by simp [State.enableDue, hi]
  have hfree : ((s.channel c).aligned && !s.atAlignBoundary c) = false := by
    rcases ha with h | h <;> simp [h]
  have hkept : (s.takeEffect (okey 0 0 (0x3220 + c) 1) 0).obj (0x3220 + c) 2 = s.obj (0x3220 + c) 2 := by
    refine (touches_takeEffect ..).obj ?_
    rw [List.mem_singleton, okey_sub]
    decide
  unfold State.channelSafePoint
  dsimp only
  rw [hg, hp, hdue, hfree]
  simp only [Bool.not_false, Bool.not_true, Bool.and_false, Bool.or_false, Bool.false_eq_true, if_false, if_true, Option.getD_some, Bool.and_true,
    Bool.false_and, false_and, bitNat, Nat.cast_zero]
  rw [hkept, if_neg (fun h => absurd h.2 (Nat.not_le.2 hsrc))]
  rfl

theorem State.channelPin_disabled (p : Nat) (h : (s.channel c).enabled = false) : s.channelPin c p = .idle := by
  unfold State.channelPin
  simp [h]

theorem State.clockPin_disabled (side : Nat) (h : (s.channel c).enabled = false) : s.clockPin c side = .idle := by
  unfold State.clockPin
  dsimp only
  split
  · exact State.channelPin_disabled _ h
  · split
    · rfl
    · exact State.channelPin_disabled _ h

/-! ### Recipes -/

/-- The recipes without the entries of a list, on both plates. -/
def dropRecipes (t : Table (Option Recipe)) (l : List Nat) : Table (Option Recipe) :=
  l.foldl (fun t k => (t.put (fun _ => none) k none).put (fun _ => none) (32 + k) none) t

theorem look_dropRecipes (t : Table (Option Recipe)) (l : List Nat) (j : Nat) (h : j ∈ l ∨ (∃ k ∈ l, j = 32 + k) ∨ t.look (fun _ => none) j = none) :
    (dropRecipes t l).look (fun _ => none) j = none := by
  induction l generalizing t with
  | nil =>
    rcases h with h | ⟨k, h, -⟩ | h
    · exact absurd h List.not_mem_nil
    · exact absurd h List.not_mem_nil
    · exact h
  | cons a r ih =>
    have hput : ((t.put (fun _ => none) a none).put (fun _ => none) (32 + a) none).look (fun _ => none) j =
        if j = 32 + a then none else if j = a then none else t.look (fun _ => none) j := by
      rw [Table.look_put, Table.look_put]
    refine ih _ ?_
    rw [hput]
    rcases h with h | ⟨k, h, rfl⟩ | h
    · rcases List.mem_cons.1 h with rfl | h
      · simp
      · exact Or.inl h
    · rcases List.mem_cons.1 h with rfl | h
      · simp
      · exact Or.inr (Or.inl ⟨k, h, rfl⟩)
    · simp [h]

theorem mem_bitsSet {m n k : Nat} (hk : k < n) (hb : bit m k = true) : k ∈ bitsSet m n := List.mem_filter.2 ⟨List.mem_range.2 hk, hb⟩

theorem invalidateRecipes_ok (mask : Nat) (s : State) : invalidateRecipesOp mask s = .ok (s.setOpll (s.obj 0x2502 1)
    { s.opll (s.obj 0x2502 1) with recipes := dropRecipes (s.opll (s.obj 0x2502 1)).recipes (bitsSet mask 32) }) := rfl

end Sys2Proof.Machine

namespace Sys2Proof.Proofs
open Sys2Proof Sys2Proof.Machine

/-- Settles O29: the one ramp that acts in an update, the sides of a channel aligned one by one, and the record after a disable. -/
theorem rampsAndChannelsFollowTheirRules : Obligations.RampsAndChannelsFollowTheirRules := by
  intro s tr o c mask a b hs
  refine ⟨fun hg => exec_serving hs rfl (if_pos hg), fun r hg ho hother hr => ⟨fun hn => ?_, fun hn hd => ?_⟩, fun hgated halign h3 => ?_,
    fun hc halign hgated => ?_, fun hc h => ?_, fun hg h => ?_, fun hg hp hi ha hsrc => ?_, fun hchosen => ?_⟩
  · have hkeep := State.rampAdvance_early hr hn
    exact exec_serving hs rfl ((State.rampUpdate_of hg ho hother fun k _ => by rw [hkeep]).trans hkeep)
  · have htick := State.rampAdvance_tick hr hn hd
    have hkeep (k : Nat) (hk : k ≠ o) : (s.rampAdvance o).opll k = s.opll k := by rw [htick, State.opll_setOpll, if_neg hk]
    have hframe := touches_setOpll s o { s.opll o with ramp := some { r.tick with updated := s.now } }
    exact turns_of (exec_serving hs rfl ((State.rampUpdate_of hg ho hother hkeep).trans htick))
      ⟨State.opll_setOpll_self .., fun k hk => (State.opll_setOpll ..).trans (if_neg hk)⟩ hframe.objects hframe.frame
  · have hframe := (touches_alignSides s c (s.edgeError c a) (s.edgeError c b)).andThen
      (touches_setChannel _ c { s.channel c with aligned := true, lost := false })
    have hkeep (k : Nat) : (s.alignSides c (s.edgeError c a) (s.edgeError c b)).channel k = s.channel k :=
      State.channel_congr ((touches_alignSides ..).frame .synth (by decide)) k
    refine turns_of (exec_serving hs rfl ((if_pos ⟨hgated, halign, h3⟩).trans (State.align_eq ..)))
      ⟨State.channel_setChannel_self .., fun k hk => ((State.channel_setChannel ..).trans (if_neg hk)).trans (hkeep k), ?_, ?_⟩ hframe.objects
      (keeps_weaken hframe.frame (by decide))
    · exact (State.objKey_setChannel ..).trans ((State.objKey_alignSides s c _ _ 0).trans (by rw [if_pos rfl]))
    · exact (State.objKey_setChannel ..).trans ((State.objKey_alignSides s c _ _ 1).trans (by rw [if_neg Nat.one_ne_zero]))
  · refine confirms_part rfl hs (gate_at hs _ _ (by omega) (by omega) (by omega)) ((if_neg (by simp)).trans (if_neg (by simp [halign, hgated])))
      (touches_setChannel s c { s.channel c with register := true }) fun r => ?_
    exact ⟨by simp, fun k hk => by simp [State.channel_setChannel, hk]⟩
  · refine refuses_of rfl hs (gate_at hs _ _ (by omega) (by omega) (by omega)) ((if_neg (by simp)).trans (if_pos ?_))
    rcases h with h | h <;> simp [h]
  · exact exec_serving hs rfl (State.channelSafePoint_idle hg h)
  · have hnext := exec_serving (c := .channelSafePoint c) hs rfl (State.channelSafePoint_disable hg hp hi ha hsrc)
    have hfacts : ∀ u : State, Touches [.synth] [] (s.takenOut c) u → u.channel c = (s.takenOut c).channel c →
        (u.channel c).enabled = false ∧ (u.channel c).gated = false ∧ (u.channel c).aligned = false ∧ (u.channel c).pendEnable = none ∧
        u.obj (0x3220 + c) 1 = 0 ∧ (∀ side, u.clockPin c side = .idle) ∧ u.clock = s.clock := by
      intro u hu hc
      have hoff := hc.trans (State.channel_takenOut s c)
      have henabled : (u.channel c).enabled = false := by rw [hoff]; rfl
      exact ⟨henabled, by rw [hoff]; rfl, by rw [hoff]; rfl, by rw [hoff]; rfl, (hu.obj List.not_mem_nil).trans (State.obj_takenOut s c),
        fun side => State.clockPin_disabled side henabled, (hu.frame .clock (by decide)).trans ((touches_takenOut s c).frame .clock (by decide))⟩
    refine completes_intro hnext ?_
    split
    · exact hfacts _ (.refl _) rfl
    · exact hfacts _ (touches_channelPower_disable ..) (State.channel_channelPower_disable ..)
  · refine confirms_part rfl hs (gate_none_running hs.1 hchosen 0x2502 4) (invalidateRecipes_ok mask s) (touches_setOpll ..) fun r k hk hb => ?_
    have hrecipes : (((s.setOpll (s.obj 0x2502 1) { s.opll (s.obj 0x2502 1) with
        recipes := dropRecipes (s.opll (s.obj 0x2502 1)).recipes (bitsSet mask 32) }).respond tr r).opll (s.obj 0x2502 1)).recipes =
        dropRecipes (s.opll (s.obj 0x2502 1)).recipes (bitsSet mask 32) := by
      rw [State.opll_respond, State.opll_setOpll_self]
    rw [hrecipes]
    exact ⟨look_dropRecipes _ _ _ (Or.inl (mem_bitsSet hk hb)), look_dropRecipes _ _ _ (Or.inr (Or.inl ⟨k, mem_bitsSet hk hb, rfl⟩))⟩

end Sys2Proof.Proofs
end

section
/-! PROOF. Best-effort windows, crypto passes, known-answer tests and the fixer (R31, R43, R44, R47, R328, R337). -/

namespace Sys2Proof.Machine

variable {s t u : State} {n kind op cluster : Nat} {x : PlanStep}

/-! ### Crypto passes -/

/-- The frames of a serving step without those that depend on skipped work. -/
def Scheduled.spoiled (f : Scheduled) (eng slots now : Nat) : Scheduled := if f.fromStep eng slots now then { f with whole := false } else f

theorem State.cryptoPass_ready (h : s.stepNow kind cluster op = some x) (hr : s.domainReady kind cluster = true)
    (hh : bit s.keys.heldClusters (8 * (kind - 2) + cluster) = false) : s.cryptoPass kind op cluster = s := by
  unfold State.cryptoPass
  rw [h]
  exact if_pos (by simp [hr, hh])

theorem State.cryptoPass_idle (h : s.stepNow kind cluster op = some x)
    (hf : ∀ f ∈ s.plans.live, f.fromStep (field x.operand 31 24) (passDelay x) s.now = false) : s.cryptoPass kind op cluster = s := by
  have hnone : (s.plans.live.any fun f => f.fromStep (field x.operand 31 24) (passDelay x) s.now) = false := by simpa using hf
  unfold State.cryptoPass
  rw [h]
  exact if_pos (by simp [hnone])

theorem State.cryptoPass_missed (h : s.stepNow kind cluster op = some x) (hr : s.domainReady kind cluster = false)
    (hf : ∃ f ∈ s.plans.live, f.fromStep (field x.operand 31 24) (passDelay x) s.now = true) :
    s.cryptoPass kind op cluster = (s.skip (domainLine kind cluster)).spoil (field x.operand 31 24) (passDelay x) := by
  have hsome : (s.plans.live.any fun f => f.fromStep (field x.operand 31 24) (passDelay x) s.now) = true := List.any_eq_true.2 hf
  unfold State.cryptoPass
  rw [h]
  exact if_neg (by simp [hsome, hr])

/-- Skipped work spoils the frames of its step alone. -/
theorem State.live_skip_spoil (s : State) (line eng slots : Nat) :
    ((s.skip line).spoil eng slots).plans.live = s.plans.live.map fun f => f.spoiled eng slots s.now := by
  have hskip := faultOnly_skip s line
  have hlive : (s.skip line).plans = s.plans := hskip.frame .plans (by decide)
  have hnow : (s.skip line).now = s.now := State.now_congr (hskip.frame .clock (by decide))
  rw [State.spoil, hnow, hlive]
  rfl

/-- The window of a step that has begun. -/
theorem exec_beWindow (hs : InService s) (h : s.stepNow 1 n 0x13 = some x) : exec (.beWindow n) s =
    .next (if s.faults.shedding ∧ 32 ≤ n then s.bump 0x2E02 6 else if s.engineReady n then s else s.skipEngine n) := by
  refine exec_serving hs rfl ?_
  rw [h]

/-! ### Known-answer tests and the fixer -/

/-- Both plates' passes are counted. -/
def State.katPassed (s : State) : State :=
  [0, 1].foldl (fun (s : State) p => s.setPlate p { s.plate p with katPassReel := (s.plate p).katPassReel + 1 }) s

theorem touches_katPassed (s : State) : Touches [.twin] [] s s.katPassed := touches_foldl (fun _ _ => touches_setPlate ..) _ s

theorem State.plate_katPassed {p : Nat} (hp : p < 2) : s.katPassed.plate p = { s.plate p with katPassReel := (s.plate p).katPassReel + 1 } := by
  have hmem : p ∈ [0, 1] := by
    simp only [List.mem_cons, List.not_mem_nil, or_false]
    omega
  exact (bank_foldl (look := State.plate) (G := fun _ q => { q with katPassReel := q.katPassReel + 1 }) (P := fun _ => True) (fun _ _ _ => trivial)
    (fun u k j _ => State.plate_setPlate u k j _) (by decide) trivial p).trans (if_pos hmem)

theorem exec_knownAnswerTest_passed (hs : InService s) (hr : s.domainReady (clusterRow kind) cluster = true)
    (hh : bit s.keys.heldClusters (8 * kind + cluster) = false) (h : s.stepNow (clusterRow kind) cluster 0x22 = some x) (hrun : s.running = [0, 1]) :
    exec (.knownAnswerTest kind cluster true true) s = .next s.katPassed := by
  refine exec_serving hs rfl ?_
  have hpassed : s.running.foldl (fun (u : State) p => u.katResult p (kind + 1) cluster (x.operand % 256) (if p = 0 then true else true)) s =
      s.katPassed := by
    rw [hrun]
    rfl
  have hbad : (s.running.filter fun p => !(if p = 0 then true else true)) = [] := by simp
  have hkeys : s.katPassed.keys = s.keys := (touches_katPassed s).frame .keys (by decide)
  dsimp only
  rw [h]
  dsimp only
  rw [hr, if_neg (by simp), hpassed, if_pos hbad, if_neg (by rw [hkeys, hh]; simp)]

/-- One slot and one plate are visited. -/
theorem exec_fixer_single (hs : InService s) (hr : s.domainReady (clusterRow kind) cluster = true)
    (hh : bit s.keys.heldClusters (8 * kind + cluster) = false) (h : s.stepNow (clusterRow kind) cluster 0x23 = some x) (hrun : s.running = [0])
    (hone : field x.operand 15 0 = 1) : exec (.fixer kind cluster true true) s = .next (s.visit 0 (field x.operand 31 16) true) := by
  refine exec_serving hs rfl ?_
  rw [h]
  dsimp only
  rw [if_neg (by simp [hr, hh]), hone, List.range_one, List.foldl_cons, List.foldl_nil, hrun]
  rfl

theorem touches_setSlot (s : State) (n : Nat) (x : Slot) : Touches [.keys] [] s (s.setSlot n x) := touches_part rfl (keeps_keys s _)

theorem State.visit_early (h : s.now - (s.slot n).maskedA + s.plan.cover * 1000000 ≤ s.obj 0x2A00 2 * 1000000) : s.visit 0 n true = s :=
  if_pos (Or.inr (Or.inr (Or.inr h)))

/-- The longest intervals of the reel are written. -/
def State.withLongest (s : State) (l : Table Nat) : State := { s with keys := { s.keys with longest := l } }

theorem touches_withLongest (s : State) (l : Table Nat) : Touches [.keys] [] s (s.withLongest l) := touches_keys s _
theorem State.slot_withLongest (s : State) (l : Table Nat) (n : Nat) : (s.withLongest l).slot n = s.slot n := rfl
theorem State.drawn_withLongest (s : State) (l : Table Nat) : (s.withLongest l).keys.drawn = s.keys.drawn := rfl

/-- A re-mask in time raises nothing. -/
theorem State.noteInterval_inTime {p ns : Nat} (h : ns ≤ s.obj 0x2A00 2 * 1000000) :
    s.noteInterval p ns = s.withLongest (s.keys.longest.put (fun _ => 0) p (Nat.max (ceilDiv ns 1000000) (s.keys.longest.look (fun _ => 0) p))) := by
  unfold State.noteInterval
  exact if_neg (Nat.not_lt.2 h)

/-- The slot of a visit on plate A with its mask renewed. -/
def State.remasked (s : State) (n : Nat) : State := s.drawMask.2.setSlot n
  { s.slot n with maskA := xorOctets (s.slot n).maskA s.drawMask.1, maskedA := s.now }

theorem touches_remasked (s : State) (n : Nat) : Touches [.keys] [] s (s.remasked n) := (touches_keys s _).trans (touches_setSlot ..)

theorem State.visit_due (hlive : (s.slot n).state = 1) (h : s.obj 0x2A00 2 * 1000000 < s.now - (s.slot n).maskedA + s.plan.cover * 1000000) :
    s.visit 0 n true = (s.remasked n).noteInterval 0 (s.now - (s.slot n).maskedA) :=
  if_neg (by simp [hlive, h])

end Sys2Proof.Machine

namespace Sys2Proof.Proofs
open Sys2Proof Sys2Proof.Machine

/-- Settles O40: by what a pass does when its cluster is ready, idle or not able. -/
theorem windowsAndPassesFillTheirSlots : Obligations.WindowsAndPassesFillTheirSlots := by
  intro s n x hs
  refine ⟨fun h hshed hready => ?_, fun h hshed hn => ?_, fun h hr hh => ?_, fun h hr hh => ?_, fun h hf => ?_, fun h hf => ?_, fun h hr hf => ?_,
    fun h hr hf => ?_⟩
  · rw [exec_beWindow hs h, if_neg (by simp [hshed]), if_pos hready]
  · rw [exec_beWindow hs h, if_pos ⟨hshed, hn⟩]
  · exact exec_serving hs rfl (State.cryptoPass_ready h hr (by simpa using hh))
  · exact exec_serving hs rfl (State.cryptoPass_ready h hr (by simpa using hh))
  · exact exec_serving hs rfl (State.cryptoPass_idle h hf)
  · exact exec_serving hs rfl (State.cryptoPass_idle h hf)
  · exact completes_intro (exec_serving hs rfl (State.cryptoPass_missed h hr hf)) (State.live_skip_spoil ..)
  · exact completes_intro (exec_serving hs rfl (State.cryptoPass_missed h hr hf)) (State.live_skip_spoil ..)

/-- Settles O41: the plates' counters one by one, and the single visit of the step. -/
theorem clustersAreTestedAndKeysRemasked : Obligations.ClustersAreTestedAndKeysRemasked := by
  intro s kind cluster x hs hr hh
  refine ⟨fun h hrun => ?_, fun h hrun hone hlive => ⟨fun hdue htime => ?_, fun hearly => ?_⟩⟩
  · exact completes_intro (exec_knownAnswerTest_passed hs hr hh h hrun)
      ⟨fun p hp => State.plate_katPassed hp, (touches_katPassed s).objects, (touches_katPassed s).frame⟩
  · have hobj : (s.remasked (field x.operand 31 16)).obj 0x2A00 2 = s.obj 0x2A00 2 := (touches_remasked ..).obj List.not_mem_nil
    have hnext := (exec_fixer_single hs hr hh h hrun hone).trans (by rw [State.visit_due hlive hdue, State.noteInterval_inTime (by rw [hobj]; exact htime)])
    have hframe (l : Table Nat) := (touches_remasked s (field x.operand 31 16)).trans (touches_withLongest _ l)
    exact completes_intro hnext ⟨(State.slot_withLongest ..).trans (State.slot_setSlot_self ..), State.drawn_withLongest .., (hframe _).objects, (hframe _).frame⟩
  · rw [exec_fixer_single hs hr hh h hrun hone, State.visit_early hearly]

end Sys2Proof.Proofs
end

section
/-! PROOF. Hand-off, departure and the expiry of requests (R42, R51, R53, R252, R371). -/

namespace Sys2Proof.Machine

variable {s t u : State} {f : Scheduled}

/-! ### Hand-off -/

theorem touches_comparedDigest (s : State) (p d g : Nat) : Touches [.twin] [] s (s.comparedDigest p d g) := by
  unfold State.comparedDigest
  dsimp only
  split
  · exact .refl s
  · exact (touches_twin s _).trans (touches_foldl (fun _ _ => touches_setPlate ..) _ _)

/-- A comparison leaves the roles as they are. -/
theorem State.paired_comparedDigest (s : State) (p d g : Nat) : (s.comparedDigest p d g).paired = s.paired := by
  have hstate (k : Nat) : ((s.comparedDigest p d g).plate k).state = (s.plate k).state := by
    unfold State.comparedDigest
    dsimp only
    split
    · rfl
    · refine foldl_keep (fun u : State => (u.plate k).state) _ _ _ fun u q => ?_
      rw [State.plate_setPlate]
      split
      case isTrue h => rw [h]
      case isFalse => rfl
  have hactive : (s.comparedDigest p d g).twin.active = s.twin.active := by
    unfold State.comparedDigest
    dsimp only
    split
    · rfl
    · rfl
  rw [State.paired, State.paired, hactive, hstate, hstate]

theorem touches_putLive (s : State) (f g : Scheduled) : Touches [.plans] [] s (s.putLive f g) := touches_plans s _

/-- Whether a lane can carry a frame depends on its port alone, and on the lane's mode. -/
theorem State.withheldFor_congr (hp : t.ports = s.ports) (ho : ∀ i j, t.obj i j = s.obj i j) (f : Scheduled) (n : Nat) :
    t.withheldFor f n = s.withheldFor f n := by
  have hn : t.portNumber n = s.portNumber n := by rw [State.portNumber, State.laneMode, ho, State.portNumber, State.laneMode]
  rw [State.withheldFor, State.withheldFor, hn, State.port_congr hp]

/-- Of the copies of a frame, those that its lanes can carry are handed over, the others counted (R53). -/
def State.offerCopies (s : State) (f : Scheduled) (l : List (Nat × Nat)) : State × List Nat :=
  l.foldl (fun (acc : State × List Nat) (e : Nat × Nat) =>
    match acc.1.withheldFor f e.1 with
    | some sub => ((acc.1.bumpP e.2 0x2102 sub).notSent f e.1, acc.2)
    | none => (acc.1, acc.2 ++ [e.1])) (s, [])

theorem State.offerCopies_all {l : List (Nat × Nat)} (h : ∀ e ∈ l, s.withheldFor f e.1 = none) : s.offerCopies f l = (s, l.map Prod.fst) := by
  have hfold (l : List (Nat × Nat)) (r : List Nat) (h : ∀ e ∈ l, s.withheldFor f e.1 = none) :
      l.foldl (fun (acc : State × List Nat) (e : Nat × Nat) =>
        match acc.1.withheldFor f e.1 with
        | some sub => ((acc.1.bumpP e.2 0x2102 sub).notSent f e.1, acc.2)
        | none => (acc.1, acc.2 ++ [e.1])) (s, r) = (s, r ++ l.map Prod.fst) := by
    induction l generalizing r with
    | nil => simp
    | cons e l ih =>
      rw [List.foldl_cons]
      dsimp only
      rw [h e List.mem_cons_self]
      dsimp only
      rw [ih _ fun e he => h e (List.mem_cons_of_mem _ he)]
      simp
  exact hfold l [] h

/-- A whole frame whose copies are all carried, on which the plates agree, is handed over on every lane. -/
theorem State.handOff_whole (hw : f.whole = true) (hst : s.intake.eventFramesStopped = false) (hj : s.beforeJoin f = false) (hl : s.copyLanes f.pos ≠ [])
    (hfree : ∀ e ∈ s.copyLanes f.pos, s.withheldFor f e.1 = none) :
    s.handOff f true = (s.comparedDigest 1 f.pos f.digest).putLive f { f with handed := true, lanes := (s.copyLanes f.pos).map Prod.fst } := by
  have hdigest := touches_comparedDigest s 1 f.pos f.digest
  have hstopped : (s.comparedDigest 1 f.pos f.digest).intake.eventFramesStopped = false := by rw [hdigest.frame .intake (by decide), hst]
  have hoffer : (s.comparedDigest 1 f.pos f.digest).offerCopies f (s.copyLanes f.pos) =
      (s.comparedDigest 1 f.pos f.digest, (s.copyLanes f.pos).map Prod.fst) := by
    refine State.offerCopies_all fun e he => ?_
    rw [State.withheldFor_congr (hdigest.frame .ports (by decide)) fun i j => hdigest.obj List.not_mem_nil]
    exact hfree e he
  have hsome : (s.copyLanes f.pos).map Prod.fst ≠ [] := by simpa using hl
  unfold State.handOff
  rw [hj]
  simp only [Bool.false_eq_true, if_false, if_pos hw, hstopped, Bool.true_or, Bool.not_true, Bool.and_false]
  exact (congrArg (fun a : State × List Nat => if a.2 = [] then a.1.dropLive f else a.1.putLive f { f with handed := true, lanes := a.2 }) hoffer).trans
    (if_neg hsome)

/-- Each copy withheld by a divergence is counted. -/
def State.countWithheld (s : State) (l : List (Nat × Nat)) : State := l.foldl (fun (s : State) _ => s.bump 0x2C00 0x0F) s

theorem touches_countWithheld (s : State) (l : List (Nat × Nat)) : Touches [.objs] [okey 0 0 0x2C00 0x0F] s (s.countWithheld l) :=
  touches_foldl (fun _ _ => touches_bump ..) l s

/-- The copies of a frame on which the plates differ are counted, and the divergence noted (R371). -/
theorem State.handOff_diverged (hw : f.whole = true) (hst : s.intake.eventFramesStopped = false) (hj : s.beforeJoin f = false) (hp : s.paired = true)
    (hr : f.request = none) : s.handOff f false =
      (((s.comparedDigest 1 f.pos f.digest).dropLive f).countWithheld (s.copyLanes f.pos)).diverge 1 f.pos := by
  have hdigest := touches_comparedDigest s 1 f.pos f.digest
  have hstopped : (s.comparedDigest 1 f.pos f.digest).intake.eventFramesStopped = false := by rw [hdigest.frame .intake (by decide), hst]
  have hpaired : (s.comparedDigest 1 f.pos f.digest).paired = true := (State.paired_comparedDigest ..).trans hp
  have hsent (u : State) (n : Nat) : u.notSent f n = u := by rw [State.notSent, hr]
  unfold State.handOff
  rw [hj, hw]
  simp only [Bool.false_eq_true, if_false, if_true, Bool.or_false, Bool.not_false, Bool.and_true, hstopped, hpaired, hsent]
  rfl

/-- A divergence in the plates' records, before its report. -/
def State.divergenceNoted (s : State) (point detail : Nat) : State :=
  let t := (s.bump 0x2C00 6).setObj 0x2C00 0x0C (point % 256 * 2 ^ 24 + detail % 256 * 2 ^ 16 + s.clock.exposure % 65536 : Nat)
  let u := [0, 1].foldl (fun (u : State) p => u.setPlate p { u.plate p with divergences := (u.plate p).divergences + 1 }) t
  { u with twin := { u.twin with diverged := true, divergenceSent := true } }

theorem State.diverge_eq (s : State) (point detail : Nat) : s.diverge point detail = if s.twin.divergenceSent then s.divergenceNoted point detail
    else (s.divergenceNoted point detail).report 0xFF 0x06 0xFFFF 0xFFA1 0xFF
      (point % 256 * 2 ^ 24 + detail % 256 * 2 ^ 16 + s.clock.exposure % 65536) := rfl

theorem touches_divergenceNoted (s : State) (p d : Nat) :
    Touches [.objs, .twin] [okey 0 0 0x2C00 6, okey 0 0 0x2C00 0x0C] s (s.divergenceNoted p d) :=
  (((touches_bump s 0x2C00 6).andThen (touches_setObj ..)).andThen
    ((touches_foldl (fun _ _ => touches_setPlate ..) _ _).trans (touches_twin ..))).mono (by decide) (by decide)

theorem State.obj_divergenceNoted (s : State) (p d : Nat) : (s.divergenceNoted p d).obj 0x2C00 6 = (s.obj 0x2C00 6 + 1) % 2 ^ 32 := by
  refine (((touches_setObj (s.bump 0x2C00 6) 0x2C00 0x0C _).andThen
    ((touches_foldl (parts := [.twin]) (keys := []) (fun _ _ => touches_setPlate ..) _ _).trans (touches_twin ..))).obj (by decide)).trans ?_
  rw [obj_bump, if_pos rfl]

theorem State.diverge_facts (s : State) (p d : Nat) : (s.diverge p d).plans = s.plans ∧ (s.diverge p d).twin.diverged = true ∧
    (s.diverge p d).obj 0x2C00 6 = (s.obj 0x2C00 6 + 1) % 2 ^ 32 := by
  have hplans := (touches_divergenceNoted s p d).frame .plans (by decide)
  rw [State.diverge_eq]
  split
  · exact ⟨hplans, rfl, State.obj_divergenceNoted ..⟩
  · have hreport := touches_report (s.divergenceNoted p d) 0xFF 0x06 0xFFFF 0xFFA1 0xFF (p % 256 * 2 ^ 24 + d % 256 * 2 ^ 16 + s.clock.exposure % 65536)
    exact ⟨(hreport.frame .plans (by decide)).trans hplans, by rw [hreport.frame .twin (by decide)]; rfl,
      (hreport.obj (by decide)).trans (State.obj_divergenceNoted ..)⟩

/-! ### Departure -/

/-- One lane of a departing frame: what it sent and how long it is busy. -/
def State.departLane (s : State) (f : Scheduled) (seq : Option Nat) (n : Nat) : State :=
  let p := if s.crossed f.pos then s.twin.active else n / 12
  let frame := (f.frames.getD p { message := 0, inst := 0 }).checked
  let stamp := toTime112 ((f.stamps.getD p 0).toNat * 2 ^ 28)
  let shift : Int := if p = n / 12 then 0 else s.crossDelta f.pos
  let t0 : State := { s with plans := { s.plans with sent := s.plans.sent.put noneOf n (some (f.due, seq, frame)),
                                                     shifts := s.plans.shifts.put (fun _ => 0) n shift } }
  let q := t0.portNumber n
  let t := t0.setPort q { t0.port q with sending := none, busyUntil := f.due + (Config.frameOctets (16 + frame.message) + 20) * 8 * bitTime (t0.laneMode n) / 100 }
  match f.request with
  | none => t
  | some id =>
    let m := t.portNumber n
    t.setPort m { t.port m with confirm := (t.port m).confirm ++ [(id, stamp)] }

theorem State.departFrame_eq (s : State) (f : Scheduled) (seq : Option Nat) :
    s.departFrame f seq = f.lanes.foldl (fun u n => u.departLane f seq n) (((s.dropLive f).takeRegrants f).firstReply f) := rfl

/-- What a lane sends is kept as its last frame; the list of frames that wait stands. -/
theorem State.departLane_facts (s : State) (f : Scheduled) (n : Nat) (hr : f.request = none) : Touches [.plans, .ports] [] s (s.departLane f none n) ∧
    (s.departLane f none n).plans.live = s.plans.live ∧ (s.departLane f none n).plans.sent = s.plans.sent.put noneOf n (some (f.due, none,
      (f.frames.getD (if s.crossed f.pos = true then s.twin.active else n / 12) { message := 0, inst := 0 }).checked)) := by
  unfold State.departLane
  dsimp only
  rw [hr]
  exact ⟨((touches_plans s _).andThen (touches_setPort ..)).mono (by decide) (List.Subset.refl _), rfl, rfl⟩

theorem State.crossed_congr (ht : t.twin = s.twin) (ho : t.objs = s.objs) (pos : Nat) : t.crossed pos = s.crossed pos := by
  have hobj (i j : Nat) : t.obj i j = s.obj i j := obj_of_objs ho i j
  have hobjI (i j : Nat) : t.objI i j = s.objI i j := objI_of_objs ho i j
  unfold State.crossed State.alone State.plate State.crossDelta State.txDelay
  rw [ht, hobj, hobj, hobj, hobjI, hobjI]

/-- What a frame's lanes carry, as its departure writes it (R51, R252). -/
def State.copyOf (s : State) (f : Scheduled) (n : Nat) : Served :=
  (f.frames.getD (if s.crossed f.pos = true then s.twin.active else n / 12) { message := 0, inst := 0 }).checked

/-- The lanes of a departing frame one after another. -/
theorem State.departLanes_facts (hr : f.request = none) (l : List Nat) :
    Touches [.plans, .ports] [] s (l.foldl (fun u n => u.departLane f none n) s) ∧
    (l.foldl (fun u n => u.departLane f none n) s).plans.live = s.plans.live ∧
    ∀ n, (l.foldl (fun u n => u.departLane f none n) s).plans.sent.look noneOf n =
      if n ∈ l then some (f.due, none, s.copyOf f n) else s.plans.sent.look noneOf n := by
  induction l generalizing s with
  | nil => exact ⟨.refl s, rfl, fun _ => rfl⟩
  | cons a r ih =>
    obtain ⟨htouch, hlive, hsent⟩ := s.departLane_facts f a hr
    obtain ⟨ihtouch, ihlive, ihsent⟩ := ih (s := s.departLane f none a)
    refine ⟨htouch.trans ihtouch, ihlive.trans hlive, fun n => (ihsent n).trans ?_⟩
    have hcopy : (s.departLane f none a).copyOf f n = s.copyOf f n := by
      have htwin := htouch.frame .twin (by decide)
      unfold State.copyOf
      rw [State.crossed_congr htwin (htouch.frame .objs (by decide)), htwin]
    rw [hcopy, hsent, Table.look_put]
    rcases eq_or_ne n a with rfl | hna
    · simp [State.copyOf]
    · simp [hna]

/-- A departing frame without grants and outside a reset's gap: it leaves the list, and its lanes carry it. -/
theorem State.departFrame_facts (hr : f.request = none) (hgrants : f.regrants = []) (hgap : s.twin.resetGap = false) :
    Touches [.plans, .ports] [] s (s.departFrame f none) ∧ (s.departFrame f none).plans.live = s.plans.live.filter (fun g => decide (g ≠ f)) ∧
    ∀ n ∈ f.lanes, (s.departFrame f none).plans.sent.look noneOf n = some (f.due, none, s.copyOf f n) := by
  have hstart : ((s.dropLive f).takeRegrants f).firstReply f = s.dropLive f := by
    have hkeep : (s.dropLive f).takeRegrants f = s.dropLive f := by rw [State.takeRegrants, hgrants, List.foldl_nil]
    have hsame : (s.dropLive f).twin.resetGap = false := hgap
    rw [hkeep, State.firstReply, hsame]
    simp
  obtain ⟨htouch, hlive, hsent⟩ := State.departLanes_facts (s := s.dropLive f) hr f.lanes
  rw [State.departFrame_eq, hstart]
  exact ⟨((touches_plans s _).mono (by decide) (List.Subset.refl _)).trans htouch, hlive, fun n hn => (hsent n).trans (if_pos hn)⟩

theorem exec_depart {pos : Nat} {x : PlanStep} (hs : InService s) (h : s.stepNow 4 pos 0x30 = some x) (hr : s.domainReady 5 pos = true)
    (hp : s.isPrp pos = false) (hf : s.plans.live.find? (fun f => decide (f.pos = pos ∧ f.handed = true ∧ f.due < s.now + 64)) = some f)
    (hu : (s.departFrame f none).isPrp pos = false) : exec (.depart pos) s = .next (s.departFrame f none) := by
  refine exec_serving hs rfl ?_
  rw [h]
  dsimp only
  rw [hp, hf]
  dsimp only
  rw [if_pos hr, if_neg Bool.false_ne_true, State.prpAdvance, hu]
  rfl

/-! ### Expiry -/

/-- A request unbound for the life of a request (R42). -/
def State.overage (s : State) (r : Request) : Bool := decide (r.bound = none ∧ r.delivered + requestLife ≤ s.now)

/-- The queues without the requests that are over age. -/
def State.kept (s : State) : State := { s with fabric := { s.fabric with
  nts := s.fabric.nts.filter fun r => !s.overage r, ptp := s.fabric.ptp.filter fun r => !s.overage r } }

theorem exec_requestExpire (hs : InService s) : exec .requestExpire s = .next
    ((s.kept.bumpBy 0x2900 8 (s.fabric.nts.filter s.overage).length).bumpBy 0x2900 9 (s.fabric.ptp.filter s.overage).length) :=
  exec_serving hs rfl rfl

theorem touches_bumpBy (s : State) (i j n : Nat) : Touches [.objs] [okey 0 0 i j] s (s.bumpBy i j n) := touches_setKey ..

end Sys2Proof.Machine

namespace Sys2Proof.Proofs
open Sys2Proof Sys2Proof.Machine

/-- Settles O42: the copies offered one by one, the lanes of a departure one by one, and the queues filtered. -/
theorem framesAreHandedOffAndDepart : Obligations.FramesAreHandedOffAndDepart := by
  intro s pos f hs
  refine ⟨fun hf hw hst hg hj => ⟨fun hl hfree => ?_, fun hp hr => ?_⟩, fun hg => exec_serving hs rfl (if_pos hg),
    fun x h hr hgap hp hreq hgrants hf => ?_, ?_⟩
  · have hnext : exec (.handoffDeadline pos true) s = .next (s.handOff f true) := exec_serving hs rfl (by rw [hg, if_neg Bool.false_ne_true, hf])
    rw [State.handOff_whole hw hst hj hl hfree] at hnext
    have hdigest := touches_comparedDigest s 1 f.pos f.digest
    have hframe (g : Scheduled) := (hdigest.mono (parts' := [.plans, .twin]) (by decide) (List.Subset.refl _)).trans
      ((touches_putLive _ f g).mono (by decide) (List.Subset.refl _))
    refine completes_intro hnext ⟨?_, (hframe _).objects, (hframe _).frame⟩
    exact congrArg (fun l : List Scheduled => l.map _) (congrArg Plans.live (hdigest.frame .plans (by decide)))
  · have hnext : exec (.handoffDeadline pos false) s = .next (s.handOff f false) := exec_serving hs rfl (by rw [hg, if_neg Bool.false_ne_true, hf])
    rw [State.handOff_diverged hw hst hj hp hr] at hnext
    obtain ⟨hplans, hdiverged, hcount⟩ := State.diverge_facts (((s.comparedDigest 1 f.pos f.digest).dropLive f).countWithheld (s.copyLanes f.pos)) 1 f.pos
    have hdigest := touches_comparedDigest s 1 f.pos f.digest
    have hwithheld := touches_countWithheld ((s.comparedDigest 1 f.pos f.digest).dropLive f) (s.copyLanes f.pos)
    refine completes_intro hnext ⟨?_, hdiverged, ?_⟩
    · rw [hplans, hwithheld.frame .plans (by decide)]
      exact congrArg (fun l : List Scheduled => l.filter _) (congrArg Plans.live (hdigest.frame .plans (by decide)))
    · rw [hcount, hwithheld.obj (by decide)]
      exact congrArg (fun k => (k + 1) % 2 ^ 32) (hdigest.obj List.not_mem_nil)
  · obtain ⟨htouch, hlive, hsent⟩ := State.departFrame_facts hreq hgrants hgap
    have hstill : (s.departFrame f none).isPrp pos = false := by rw [State.isPrp, htouch.obj List.not_mem_nil]; exact hp
    exact completes_intro (exec_depart hs h hr hp hf hstill) ⟨hlive, hsent, htouch.objects, htouch.frame⟩
  · have hframe := ((touches_fabric s _).andThen (touches_bumpBy s.kept 0x2900 8 (s.fabric.nts.filter s.overage).length)).andThen
      (touches_bumpBy _ 0x2900 9 (s.fabric.ptp.filter s.overage).length)
    refine completes_intro (exec_requestExpire hs) ⟨rfl, rfl, ?_, ?_, hframe.objects, keeps_weaken hframe.frame (by decide)⟩
    · rw [obj_bumpBy, if_neg (by decide), obj_bumpBy, if_pos rfl]
      rfl
    · rw [obj_bumpBy, if_pos rfl, obj_bumpBy, if_neg (by decide)]
      rfl

end Sys2Proof.Proofs
end

section
/-! PROOF. Best-effort frames offered to their queues (R273, R278, R281, R282): what an offer can change, and an offer that is taken. -/

namespace Sys2Proof.Machine

variable {I : Nat → Prop} {s t u : State} {parts : List Part} {keys : List Nat}

/-! ### What an offer can change -/

def offerParts : List Part := [.objs, .mgmt, .fabric, .ports]

/-- The objects of the switch's own counters, and of the lost messages. -/
def switchIndex (i : Nat) : Prop := i = 0x2004 ∨ i = 0x2800 ∨ i = 0x2801

/-- From `s` to `t` the switch, the ports and the messages may differ, and of the objects those with an index in `I`. -/
structure Offered (I : Nat → Prop) (s t : State) : Prop where
  frame : KeepsAllBut offerParts s t
  counters : ∀ k, ¬ I (okeyIndex k) → t.objKey k = s.objKey k

theorem Offered.refl (s : State) : Offered I s s := ⟨keeps_refl _ s, fun _ _ => rfl⟩

theorem Offered.trans (h : Offered I s t) (g : Offered I t u) : Offered I s u :=
  ⟨keeps_trans h.frame g.frame, fun k hk => (g.counters k hk).trans (h.counters k hk)⟩

theorem Touches.offered (h : Touches parts keys s t) (hp : parts ⊆ offerParts) (hk : ∀ k ∈ keys, I (okeyIndex k)) : Offered I s t :=
  ⟨keeps_weaken h.frame fun _ => @hp _, fun k hi => h.objects k fun hm => hi (hk k hm)⟩

theorem offered_fst_ite {α : Type} {c : Prop} [Decidable c] {a b : State × α} (ha : Offered I s a.1) (hb : Offered I s b.1) :
    Offered I s (if c then a else b).1 := by
  split
  · exact ha
  · exact hb

theorem offered_foldl {α : Type} {f : State → α → State} (h : ∀ s a, Offered I s (f s a)) (l : List α) (s : State) : Offered I s (l.foldl f s) := by
  induction l generalizing s with
  | nil => exact .refl s
  | cons a r ih => exact (h s a).trans (ih _)

theorem touches_setQueue (s : State) (p q : Nat) (l : List QFrame) : Touches [.fabric] [] s (s.setQueue p q l) := touches_fabric s _

theorem switchIndex_queueKey (p q : Nat) {j : Nat} (hj : j < 256) : switchIndex (okeyIndex (queueKey p q j)) := by
  refine Or.inr (Or.inr ?_)
  unfold okeyIndex queueKey okey
  omega

theorem switchIndex_lostKey : switchIndex (okeyIndex lostKey) := Or.inl (by decide)

theorem offered_fabric (s : State) (y : Fabric) : Offered I s { s with fabric := y } :=
  (touches_fabric s y).offered (by decide) fun _ h => absurd h List.not_mem_nil

theorem offered_meter (s : State) (p q k : Nat) : Offered I s (s.meter p q k).1 :=
  offered_fst_ite (.refl s) (offered_fst_ite (offered_fabric s _) (.refl s))

section
variable (hI : ∀ i, switchIndex i → I i)
include hI

theorem offered_bumpQueue (s : State) (p q : Nat) {j : Nat} (hj : j < 256) : Offered I s (s.bumpKey (queueKey p q j) 1) :=
  (touches_bumpKey ..).offered (by decide) fun k hk => by
    rw [List.mem_singleton.1 hk]
    exact hI _ (switchIndex_queueKey p q hj)

theorem offered_emcy (s : State) (c p d : Nat) : Offered I s (s.emcy c p d) :=
  (touches_emcy ..).offered (by decide) fun k hk => by
    rw [List.mem_singleton.1 hk]
    exact hI _ switchIndex_lostKey

theorem offered_countDrop (s : State) (p q c : Nat) (e : Bool) (hc : c < 200) : Offered I s (s.countDrop p q c e) := by
  have hbump := offered_bumpQueue hI s p q (j := 0x0C + c) (by omega)
  unfold State.countDrop
  dsimp only
  split
  · split
    · split
      · exact hbump
      · exact (hbump.trans (offered_fabric _ _)).trans (offered_emcy hI ..)
    · exact (hbump.trans (offered_fabric _ _)).trans (offered_emcy hI ..)
  · exact hbump

/-- The colour of a frame, with the meter's tokens taken (R275). -/
def State.coloured (s : State) (p q k c0 : Nat) (metered : Bool) : State × Bool := if c0 = 2 ∨ !metered then (s, false) else s.meter p q k

/-- The decision for a frame of a colour (R273). -/
def State.decideColour (s1 : State) (plate q k : Nat) (c : Colour) (down : Bool) : State × Admission × Colour :=
  if down then (s1.bumpKey (queueKey plate q 0x0F) 1, .linkDown, c)
  else if c ≠ 2 ∧ s1.cellsIn plate q false + k ≤ s1.reservation q then
    (s1.bumpKey (queueKey plate q 0x0B) 1, .admitted, c)
  else
    let h := s1.sharedUse plate q
    let cap := s1.objW q 0x2801 3
    let side := decide (q < 96)
    let free := s1.poolSize side - s1.poolUse plate side
    if cap < h + k ∨ free < k then (s1.countDrop plate q c (decide (free < k)), .dropped, c)
    else
      let key := lfsrKey plate side
      let v := Config.lfsrNext (s1.fabric.lfsr.look (fun _ => 0) key) % 2 ^ 32
      let s2 : State := { s1 with fabric := { s1.fabric with lfsr := s1.fabric.lfsr.put (fun _ => 0) key v } }
      if redFails (s2.objW q 0x2801 (6 + c)) h k cap v then (s2.countDrop plate q c false, .dropped, c)
      else (s2.bumpKey (queueKey plate q 0x0B) 1, .admitted, c)

omit hI in
theorem State.decideEntry_eq (s : State) (p q k : Nat) (c0 : Colour) (m : Bool) : s.decideEntry p q k c0 m =
    (s.coloured p q k c0 m).1.decideColour p q k (if c0 = 2 then 2 else if (s.coloured p q k c0 m).2 then 1 else 0)
      (decide (q < 96) && !s.laneUp (laneOf p (q / 8))) := rfl

theorem offered_decideColour (s : State) (p q k : Nat) (c : Colour) (down : Bool) (hc : c < 200) : Offered I s (s.decideColour p q k c down).1 := by
  unfold State.decideColour
  split
  · exact offered_bumpQueue hI s p q (by decide)
  · split
    · exact offered_bumpQueue hI s p q (by decide)
    · dsimp only
      split
      · exact offered_countDrop hI s p q c _ hc
      · split
        · exact (offered_fabric s _).trans (offered_countDrop hI _ p q c _ hc)
        · exact (offered_fabric s _).trans (offered_bumpQueue hI _ p q (by decide))

theorem offered_decideEntry (s : State) (p q k : Nat) (c0 : Colour) (m : Bool) : Offered I s (s.decideEntry p q k c0 m).1 := by
  have hcolour : (if c0 = 2 then 2 else if (s.coloured p q k c0 m).2 = true then 1 else 0) < 200 := by
    split
    · decide
    · split <;> decide
  have hmeter : Offered I s (s.coloured p q k c0 m).1 := by
    unfold State.coloured
    split
    · exact .refl s
    · exact offered_meter s p q k
  rw [State.decideEntry_eq]
  exact hmeter.trans (offered_decideColour hI _ p q k _ _ hcolour)

/-- Each plate's decision for its own queue. -/
def State.decideAll (s : State) (plates : List Nat) (q : Nat) (f : QFrame) (c0 : Colour) (metered : Bool) : State × List (Nat × Admission × Colour) :=
  plates.foldl (fun (acc : State × List (Nat × Admission × Colour)) p =>
    let (u, a, c) := acc.1.decideEntry p q f.cells c0 metered
    (u, acc.2 ++ [(p, a, c)])) (s, [])

theorem offered_decideAll (s : State) (plates : List Nat) (q : Nat) (f : QFrame) (c0 : Colour) (m : Bool) : Offered I s (s.decideAll plates q f c0 m).1 := by
  have hfold (l : List Nat) (a : State × List (Nat × Admission × Colour)) (ha : Offered I s a.1) :
      Offered I s (l.foldl (fun (acc : State × List (Nat × Admission × Colour)) p =>
        let (u, a, c) := acc.1.decideEntry p q f.cells c0 m
        (u, acc.2 ++ [(p, a, c)])) a).1 := by
    induction l generalizing a with
    | nil => exact ha
    | cons p r ih => exact ih _ (ha.trans (offered_decideEntry hI a.1 p q f.cells c0 m))
  exact hfold plates (s, []) (.refl s)

theorem offered_stage (s : State) (k : Nat) : Offered I s (s.stage k).1 := by
  refine offered_fst_ite ((offered_fabric s _).trans (offered_fabric (s.useSlot _) _)) (Offered.trans (t := s.bump 0x2800 9) ?_ (offered_fabric _ _))
  refine (touches_bump s 0x2800 9).offered (by decide) fun k hk => ?_
  rw [List.mem_singleton.1 hk]
  exact hI _ (Or.inr (Or.inl (by decide)))

/-- The cells of a frame that some plate admitted are staged. -/
def State.stageAny (s : State) (any : Bool) (k : Nat) : State × Bool := if any then s.stage k else (s, true)

theorem offered_stageAny (s : State) (any : Bool) (k : Nat) : Offered I s (s.stageAny any k).1 := by
  unfold State.stageAny
  split
  · exact offered_stage hI s k
  · exact .refl s

theorem offered_notePeak (s : State) (p q : Nat) : Offered I s (s.notePeak p q) := by
  unfold State.notePeak
  dsimp only
  split
  · refine (touches_setKey ..).offered (by decide) fun k hk => ?_
    rw [List.mem_singleton.1 hk]
    exact hI _ (switchIndex_queueKey p q (by decide))
  · exact .refl s

theorem offered_enqueue (s : State) (p q : Nat) (f : QFrame) (c : Colour) : Offered I s (s.enqueue p q f c) :=
  ((touches_setQueue ..).offered (by decide) fun _ h => absurd h List.not_mem_nil).trans (offered_notePeak hI ..)

omit hI in
/-- A copy lost completes its entry, if a timestamp was asked for. -/
theorem offered_copyLost (s : State) (p q : Nat) {f : QFrame} (hf : f.request = none ∨ ∀ i, I i) : Offered I s (s.copyLost p q f) := by
  unfold State.copyLost
  split
  · exact .refl s
  case h_2 hreq =>
    rcases hf with hf | hf
    · rw [hf] at hreq
      cases hreq
    · exact (touches_txComplete ..).offered (by decide) fun _ _ => hf _

/-- Each plate's copy enters its queue or is lost. -/
def State.place (s : State) (ds : List (Nat × Admission × Colour)) (room : Bool) (q : Nat) (f : QFrame) : State :=
  ds.foldl (fun (s : State) (d : Nat × Admission × Colour) =>
    if d.2.1 = .admitted ∧ room then s.enqueue d.1 q f d.2.2 else s.copyLost d.1 q f) s

theorem offered_place (s : State) (ds : List (Nat × Admission × Colour)) (room : Bool) (q : Nat) {f : QFrame} (hf : f.request = none ∨ ∀ i, I i) :
    Offered I s (s.place ds room q f) := by
  refine offered_foldl (fun u d => ?_) ds s
  split
  · exact offered_enqueue hI u _ q f _
  · exact offered_copyLost u _ q hf

theorem offered_stagingReport (s : State) : Offered I s s.stagingReport := by
  unfold State.stagingReport
  split
  · exact .refl s
  · exact (offered_fabric s _).trans (offered_emcy hI ..)

omit hI in
/-- An offer in its steps. -/
theorem State.offer_eq (s : State) (plates : List Nat) (q : Nat) (f : QFrame) (c0 : Colour) (m : Bool) : s.offer plates q f c0 m =
    let d := (s.noteOffer plates q f c0).decideAll plates q f c0 m
    let r := d.1.stageAny (d.2.any fun d => decide (d.2.1 = .admitted)) f.cells
    if r.2 then r.1.place d.2 r.2 q f else (r.1.place d.2 r.2 q f).stagingReport := rfl

theorem offered_offer (s : State) (plates : List Nat) (q : Nat) {f : QFrame} (c0 : Colour) (m : Bool) (hf : f.request = none ∨ ∀ i, I i) :
    Offered I s (s.offer plates q f c0 m) := by
  have hdecided := (offered_fabric s _).trans (offered_decideAll hI (s.noteOffer plates q f c0) plates q f c0 m)
  have hplaced (any room : Bool) := (hdecided.trans (offered_stageAny hI _ any f.cells)).trans
    (offered_place hI _ ((s.noteOffer plates q f c0).decideAll plates q f c0 m).2 room q hf)
  rw [State.offer_eq]
  dsimp only
  split
  · exact hplaced _ _
  · exact (hplaced _ _).trans (offered_stagingReport hI _)

end

theorem touches_prpAdvance (s : State) (pos : Nat) : Touches [.objs] [okey 0 0 (0x2C40 + pos) 8] s (s.prpAdvance pos) := by
  unfold State.prpAdvance
  split
  · exact touches_setObj ..
  · exact .refl s

theorem within_offer (s : State) (plates : List Nat) (q : Nat) (f : QFrame) (c0 : Colour) (m : Bool) : Within offerParts s (s.offer plates q f c0 m) :=
  ⟨(offered_offer (I := fun _ => True) (fun _ _ => trivial) s plates q c0 m (Or.inr fun _ => trivial)).frame⟩

theorem within_offerPosition (s : State) (pos : Nat) (k : QKind) (n : Nat) (r : Option Nat) : Within offerParts s (s.offerPosition pos k n r) :=
  ((touches_prpAdvance s pos).within (by decide)).trans (within_offer ..)

theorem within_offerEngine (s : State) (lane : Nat) (k : QKind) (n : Nat) (r : Option Nat) : Within offerParts s (s.offerEngine lane k n r) :=
  ((touches_prpAdvance s (lane % 12)).within (by decide)).trans (within_offer ..)

/-! ### An offer within its reservation -/

section
variable {p q k : Nat} {f : QFrame}

theorem State.queue_setKey (s : State) (j : Nat) (v : Int) (p q : Nat) : (s.setKey j v).queue p q = s.queue p q := rfl
theorem State.now_setKey (s : State) (j : Nat) (v : Int) : (s.setKey j v).now = s.now := rfl

/-- The digest of the exposure's offers is written. -/
def State.withOffered (s : State) (v : Nat) : State := { s with fabric := { s.fabric with offered := v } }

theorem State.noteOffer_eq (s : State) (l : List Nat) (q : Nat) (f : QFrame) (c : Colour) : ∃ v, s.noteOffer l q f c = s.withOffered v := ⟨_, rfl⟩

/-- A frame within its queue's reservation is admitted green (R273). -/
theorem State.decideEntry_reserved (hm : s.objW q 0x2801 4 = 0) (hup : s.laneUp (laneOf p (q / 8)) = true)
    (hroom : s.cellsIn p q false + k ≤ s.reservation q) : s.decideEntry p q k 0 true = (s.bumpKey (queueKey p q 0x0B) 1, .admitted, 0) := by
  have hcolour : s.coloured p q k 0 true = (s, false) := (if_neg (by simp)).trans (if_pos hm)
  have hdown : (decide (q < 96) && !s.laneUp (laneOf p (q / 8))) = false := by simp [hup]
  rw [State.decideEntry_eq, hcolour, hdown]
  exact (if_neg (by simp)).trans (if_pos ⟨by simp, hroom⟩)

/-- The cells that a frame leaves waiting, after what this slot can write (R278). -/
def State.waiting (s : State) (k : Nat) : Nat := s.fabric.staging + (k - if s.fabric.staging = 0 then Nat.min k s.slotAllowance else 0)

theorem State.waiting_setKey (s : State) (j : Nat) (v : Int) (k : Nat) : (s.setKey j v).waiting k = s.waiting k := rfl
theorem State.waiting_withOffered (s : State) (v k : Nat) : (s.withOffered v).waiting k = s.waiting k := rfl
theorem State.queue_withOffered (s : State) (v p q : Nat) : (s.withOffered v).queue p q = s.queue p q := rfl
theorem State.now_withOffered (s : State) (v : Nat) : (s.withOffered v).now = s.now := rfl

/-- What the staging area says of a frame, and that queues and clock stand. -/
theorem State.stage_facts (s : State) (k : Nat) : (s.stage k).2 = decide (s.waiting k ≤ 1024) ∧ (∀ p q, (s.stage k).1.queue p q = s.queue p q) ∧
    (s.stage k).1.now = s.now := by
  have hcases : s.stage k = if s.waiting k ≤ 1024 then
      ({ s.useSlot (if s.fabric.staging = 0 then Nat.min k s.slotAllowance else 0) with fabric :=
        { (s.useSlot (if s.fabric.staging = 0 then Nat.min k s.slotAllowance else 0)).fabric with staging := s.waiting k } }, true)
      else ({ s.bump 0x2800 9 with fabric := { (s.bump 0x2800 9).fabric with reelDrops := (s.bump 0x2800 9).fabric.reelDrops + 1 } }, false) := rfl
  rw [hcases]
  split
  case isTrue h => exact ⟨(decide_eq_true h).symm, fun _ _ => rfl, rfl⟩
  case isFalse h => exact ⟨(decide_eq_false h).symm, fun _ _ => rfl, rfl⟩

theorem State.queue_notePeak (s : State) (p q a b : Nat) : (s.notePeak p q).queue a b = s.queue a b := by
  unfold State.notePeak
  dsimp only
  split
  · exact State.queue_setKey ..
  · rfl

theorem State.queue_enqueue (s : State) (p q : Nat) (f : QFrame) (c : Colour) : (s.enqueue p q f c).queue p q = s.queue p q ++
    [{ f with red := decide (c = 2), headAt := if (s.queue p q).isEmpty then some s.now else none }] :=
  (State.queue_notePeak ..).trans (Table.look_put_self ..)

theorem State.queue_congr (h : t.fabric = s.fabric) (p q : Nat) : t.queue p q = s.queue p q := by rw [State.queue, h, State.queue]

theorem State.queue_stagingReport (s : State) (p q : Nat) : s.stagingReport.queue p q = s.queue p q := by
  unfold State.stagingReport
  split
  · rfl
  · rw [State.queue_congr ((touches_emcy ..).frame .fabric (by decide))]
    rfl

/-- The queue after an offer that its reservation holds: the frame waits at its end if the staging area takes it. -/
theorem State.queue_offer_reserved (hm : s.objW q 0x2801 4 = 0) (hup : s.laneUp (laneOf p (q / 8)) = true)
    (hroom : s.cellsIn p q false + f.cells ≤ s.reservation q) (hreq : f.request = none) (hred : f.red = false) :
    (s.offer [p] q f 0 true).queue p q = s.queue p q ++
      if s.waiting f.cells ≤ 1024 then [{ f with headAt := if (s.queue p q).isEmpty then some s.now else none }] else [] := by
  obtain ⟨v, hv⟩ := s.noteOffer_eq [p] q f 0
  have hdecide : (s.withOffered v).decideAll [p] q f 0 true = ((s.withOffered v).bumpKey (queueKey p q 0x0B) 1, [(p, .admitted, 0)]) := by
    have hone := State.decideEntry_reserved (s := s.withOffered v) (p := p) (k := f.cells) hm hup hroom
    rw [State.decideAll, List.foldl_cons, List.foldl_nil, hone]
    rfl
  obtain ⟨hroomy, hqueue, hnow⟩ := ((s.withOffered v).bumpKey (queueKey p q 0x0B) 1).stage_facts f.cells
  rw [State.bumpKey, State.waiting_setKey, State.waiting_withOffered] at hroomy
  have hkeep (a b : Nat) : (((s.withOffered v).bumpKey (queueKey p q 0x0B) 1).stage f.cells).1.queue a b = s.queue a b := by
    rw [hqueue, State.bumpKey, State.queue_setKey, State.queue_withOffered]
  have hclock : (((s.withOffered v).bumpKey (queueKey p q 0x0B) 1).stage f.cells).1.now = s.now := by
    rw [hnow, State.bumpKey, State.now_setKey, State.now_withOffered]
  rw [State.offer_eq, hv, hdecide]
  dsimp only
  rw [List.any_cons, decide_eq_true rfl, Bool.true_or, State.stageAny, if_pos rfl, State.bumpKey, hroomy, ← State.bumpKey]
  by_cases h : s.waiting f.cells ≤ 1024
  · rw [decide_eq_true h, if_pos rfl, if_pos h, State.place, List.foldl_cons, List.foldl_nil, if_pos ⟨rfl, rfl⟩, State.queue_enqueue, hkeep, hclock,
      decide_eq_false (by simp), ← hred]
  · rw [decide_eq_false h, if_neg Bool.false_ne_true, if_neg h, List.append_nil, State.queue_stagingReport, State.place, List.foldl_cons,
      List.foldl_nil, if_neg (by simp), State.copyLost, hreq]
    exact hkeep p q

end

end Sys2Proof.Machine
end

section
/-! PROOF. Instances, positions, grants and client records (R288, R289, R301, R304, R310, R311). -/

namespace Sys2Proof.Machine

variable {s t u : State} {i n k pos : Nat}

theorem touches_setClient (s : State) (n : Nat) (r : ClientRecord) : Touches [.serve] [] s (s.setClient n r) := touches_part rfl (keeps_serve s _)

theorem State.position_congr (h : t.serve = s.serve) (i pos : Nat) : t.position i pos = s.position i pos := by rw [State.position, h, State.position]

@[simp] theorem State.client_respond (s : State) (tr : Transport) (r : UsdoResponse) (n : Nat) : (s.respond tr r).client n = s.client n :=
  State.client_congr ((touches_respond ..).frame .serve (by decide)) n

/-! ### Enables -/

theorem instanceCode_ptp (h : i < 8) : instanceCode (0x2910 + i) = some i := by
  rw [instanceCode, if_pos ⟨by omega, by omega⟩, Nat.add_sub_cancel_left]

theorem instanceCode_ntp (h : i < 8) : instanceCode (0x2920 + i) = some (16 + i) := by
  rw [instanceCode, if_neg (by omega), if_pos ⟨by omega, by omega⟩, Nat.add_sub_cancel_left]

/-- An enable of a service waits for its boundary. -/
def State.enableWaits (s : State) (code : Nat) (on : Bool) : State :=
  { s with serve := { s.serve with pendEnable := s.serve.pendEnable.put noneOf code (some on) } }

theorem touches_enableWaits (s : State) (code : Nat) (on : Bool) : Touches [.serve] [] s (s.enableWaits code on) := touches_serve s _

theorem instanceEnableOp_ok {idx v code : Nat} (hc : instanceCode idx = some code) (hv : v ≤ 1)
    (h : v = 1 → s.overlaps code = false ∧ (16 ≤ code → s.currentEntry ≠ none)) : instanceEnableOp idx v s = .ok (s.enableWaits code (decide (v = 1))) := by
  unfold instanceEnableOp
  rw [hc]
  refine (if_neg (by omega)).trans ((if_neg fun hover => ?_).trans (if_neg fun hentry => ?_))
  · exact absurd ((h hover.1).1.symm.trans hover.2) Bool.false_ne_true
  · exact (h hentry.1).2 hentry.2.1 hentry.2.2

theorem confirms_enable {tr : Transport} {idx v code : Nat} (hs : InService s) (hidx : 0x2910 ≤ idx ∧ idx < 0x2928)
    (ho : instanceEnableOp idx v s = .ok (s.enableWaits code (decide (v = 1)))) : Confirms (.instanceEnable tr idx v) s [.serve] [] fun t =>
      t.serve.pendEnable.look noneOf code = some (decide (v = 1)) :=
  confirms_part rfl hs (gate_at hs _ _ (by omega) (by omega) (by omega)) ho (touches_enableWaits ..) fun r => by
    rw [State.respond_serve, State.enableWaits, Table.look_put_self]

/-! ### Client records -/

theorem ClientRecord.grant_withGrant (r : ClientRecord) (hk : k < 3) (g : Grant) : (r.withGrant k g).grant k = g := by
  match k, hk with
  | 0, _ => rfl
  | 1, _ => rfl
  | 2, _ => rfl

/-- The record of a quarantine: its grants are void. -/
def ClientRecord.voided (r : ClientRecord) : ClientRecord := { r with quarantined := true, sync := {}, announce := {}, resp := {} }

/-- A grant cancelled, with its message owed (R289). -/
def State.cancelGrant (s : State) (n : Nat) (r : ClientRecord) (k : Nat) : State := (s.endGrant n k).owe r.pos (.cancel r.inst n k)

theorem touches_cancelGrant (s : State) (n : Nat) (r : ClientRecord) (k : Nat) : Touches [.serve] [] s (s.cancelGrant n r k) :=
  (touches_setClient ..).trans (touches_serve _ _)

theorem State.client_cancelGrants (s : State) (n : Nat) (r : ClientRecord) (l : List Nat) :
    (l.foldl (fun u k => u.cancelGrant n r k) s).client n = l.foldl (fun x k => x.withGrant k {}) (s.client n) := by
  induction l generalizing s with
  | nil => rfl
  | cons k l ih =>
    have hone : (s.cancelGrant n r k).client n = (s.client n).withGrant k {} := State.client_setClient_self s n _
    rw [List.foldl_cons, List.foldl_cons, ih, hone]

/-- A record whose live grants have ended has none, and is still valid. -/
theorem ClientRecord.cancelled (r : ClientRecord) :
    ((([0, 1, 2].filter fun k => (r.grant k).live).foldl (fun x k => x.withGrant k {}) r).anyLive = false) ∧
    (([0, 1, 2].filter fun k => (r.grant k).live).foldl (fun x k => x.withGrant k {}) r).valid = r.valid := by
  have hempty : Grant.live {} = false := rfl
  cases h0 : r.sync.live <;> cases h1 : r.announce.live <;> cases h2 : r.resp.live <;>
    simp [ClientRecord.grant, ClientRecord.withGrant, ClientRecord.anyLive, h0, h1, h2, hempty]

theorem cancelGrants_ok (h : s.obj 0x2940 1 = n) (hv : (s.client n).valid = true) : cancelGrantsOp s =
    .ok (([0, 1, 2].filter fun k => ((s.client n).grant k).live).foldl (fun u k => u.cancelGrant n (s.client n) k) s) := by
  unfold cancelGrantsOp
  dsimp only
  rw [h, hv]
  rfl

theorem clearQuarantine_ok (h : s.obj 0x2940 1 = n) (hq : (s.client n).quarantined = true) : clearQuarantineOp s = .ok (s.setClient n {}) := by
  unfold clearQuarantineOp
  dsimp only
  rw [h, hq]
  rfl

/-! ### Peer delay -/

/-- A position after it has begun a peer-delay exchange (R310). -/
def State.exchanging (s : State) (i pos : Nat) : Position :=
  { s.position i pos with failed := if (s.position i pos).pending then (s.position i pos).failed + 1 else (s.position i pos).failed, pending := true,
                          pdelayAt := some s.now, pdelaySent := [], pdelayResp := none, pdelayOrigin := none,
                          pdelaySeq := ((s.position i pos).pdelaySeq + 1) % 65536 }

theorem exec_pdelayReqTransmit (hs : InService s) (hon : s.ptpOn i = true) (hprofile : s.profile i = 6) (hstate : (s.position i pos).state = 2)
    (hdelay : s.obj 0x2900 1 ≠ 0) (hdue : ∀ t, (s.position i pos).pdelayAt = some t → t + 1000000000 ≤ s.now) :
    exec (.pdelayReqTransmit i pos) s = .next ((s.setPosition i pos (s.exchanging i pos)).offerPosition pos (.pdelay i) (Config.frameOctets 4)
      (some (pdelayId i pos))) := by
  have hnow : (match (s.position i pos).pdelayAt with | none => true | some t => decide (t + 1000000000 ≤ s.now)) = true := by
    cases h : (s.position i pos).pdelayAt with
    | none => rfl
    | some t => exact decide_eq_true (hdue t h)
  exact exec_serving hs rfl (if_pos ⟨hon, hprofile, hstate, hdelay, hnow⟩)

end Sys2Proof.Machine

namespace Sys2Proof.Proofs
open Sys2Proof Sys2Proof.Machine

/-- Settles O43: each command's record, with what a response, a fault or an offer leaves of it. -/
theorem instancesGrantsAndRecordsChange : Obligations.InstancesGrantsAndRecordsChange := by
  intro s tr i pos n k hs
  refine ⟨fun v hi hv hover => ?_, fun v hi hv hover => ?_, fun hst => ⟨fun u hu hw => ?_, fun hu => ?_⟩, fun hlive hk hexp => ?_, ?_, fun h hv => ?_,
    fun h hq => ?_, fun hon hprofile hstate hdelay hdue => ?_⟩
  · exact confirms_enable hs ⟨by omega, by omega⟩ (instanceEnableOp_ok (instanceCode_ptp hi) hv fun h1 => ⟨hover h1, fun h16 => by omega⟩)
  · exact confirms_enable hs ⟨by omega, by omega⟩ (instanceEnableOp_ok (instanceCode_ntp hi) hv fun h1 => ⟨(hover h1).1, fun _ => (hover h1).2⟩)
  · refine exec_serving hs rfl ?_
    dsimp only
    rw [hu]
    exact if_pos ⟨hst, hw⟩
  · refine exec_serving hs rfl ?_
    dsimp only
    rw [hu]
  · have hframe := touches_setClient s n ((s.client n).withGrant k {})
    have hclient : (s.endGrant n k).client n = (s.client n).withGrant k {} := State.client_setClient_self ..
    refine completes_intro (exec_serving hs rfl (if_pos ⟨hlive, hexp⟩)) ⟨hclient, ?_, hframe.objects, hframe.frame⟩
    rw [hclient, ClientRecord.grant_withGrant _ hk]
    rfl
  · have hfault := (touches_setClient s n (s.client n).voided).frame
    have hcontained := (faultOnly_containedOn (s.setClient n (s.client n).voided) s.twin.active 140 n).frame
    have hemcy := (touches_emcy ((s.setClient n (s.client n).voided).containedOn s.twin.active 140 n) 0xFF73 0xFF (n % 2 ^ 24 * 256)).frame
    have hclient : ((((s.setClient n (s.client n).voided).containedOn s.twin.active 140 n).emcy 0xFF73 0xFF (n % 2 ^ 24 * 256)).client n) =
        (s.client n).voided := by
      rw [State.client_congr (hemcy .serve (by decide)), State.client_congr (hcontained .serve (by decide)), State.client_setClient_self]
    have hnext : exec (.recordQuarantine n) s = .next (((s.setClient n (s.client n).voided).containedOn s.twin.active 140 n).emcy 0xFF73 0xFF
        (n % 2 ^ 24 * 256)) := exec_serving hs rfl rfl
    refine completes_intro hnext ⟨congrArg ClientRecord.quarantined hclient, congrArg ClientRecord.anyLive hclient, (congrArg ClientRecord.address hclient).trans rfl, ?_⟩
    exact (hemcy .clock (by decide)).trans (hcontained .clock (by decide))
  · obtain ⟨hnone, hvalid⟩ := (s.client n).cancelled
    obtain ⟨t, he, ⟨ha, hb⟩, ho, hp⟩ := confirms_part (c := .cancelGrants tr) (P := fun t : State => (t.client n).anyLive = false ∧ (t.client n).valid = true)
      rfl hs (gate_at hs 0x2940 3 (by decide) (by decide) (by decide)) (cancelGrants_ok h hv) (touches_foldl (fun _ _ => touches_cancelGrant ..) _ s)
      fun r => by
        rw [State.client_respond, State.client_cancelGrants]
        exact ⟨hnone, hvalid.trans hv⟩
    exact ⟨t, he, ha, hb, ho, hp⟩
  · exact confirms_part rfl hs (gate_at hs 0x2940 3 (by decide) (by decide) (by decide)) (clearQuarantine_ok h hq) (touches_setClient ..) fun r => by simp
  · refine completes_intro (exec_pdelayReqTransmit hs hon hprofile hstate hdelay hdue) ?_
    rw [State.position_congr ((within_offerPosition ..).frame .serve (by decide)), State.position_setPosition_self]
    rfl

end Sys2Proof.Proofs
end

section
/-! PROOF. Frames of the engine's own (R131, R146 to R148, R260, R367): LLDP, ESMC, upstream polls, cookies and supervision frames. -/

namespace Sys2Proof.Machine

variable {s t u : State} {n i r : Nat}

/-! ### LLDP and ESMC -/

theorem State.positionFrame_plain {pos : Nat} (h : s.isPrp pos = false) (k : QKind) (o : Nat) (r : Option Nat) :
    s.positionFrame pos k o r = engineFrame k o r := by
  rw [State.positionFrame, State.prpOctets, State.prpNumber, h, if_neg Bool.false_ne_true, if_neg Bool.false_ne_true]
  rfl

theorem State.prpAdvance_plain {pos : Nat} (h : s.isPrp pos = false) : s.prpAdvance pos = s := by rw [State.prpAdvance, h, if_neg Bool.false_ne_true]

/-- The lane's LLDPDU has been sent now. -/
def State.lldpSent (s : State) (n : Nat) : State := s.setPort n { s.port n with lldpAt := some s.now }

theorem State.laneUp_lldpSent (s : State) (n k : Nat) : (s.lldpSent n).laneUp k = s.laneUp k := by
  have hlink : ((s.lldpSent n).port (s.portNumber k)).link = (s.port (s.portNumber k)).link := by
    rw [State.lldpSent, State.port_setPort]
    split
    case isTrue h => rw [h]
    case isFalse => rfl
  exact congrArg (fun x : Nat => decide (x = 4) || decide (x = 5)) hlink

theorem exec_lldpTransmit (hs : InService s) (hon : s.laneOn n = true)
    (hdue : ∀ t0, (s.port n).lldpAt = some t0 → t0 + s.obj 0x2700 5 * 1000000000 ≤ s.now) : exec (.lldpTransmit n) s =
      .next ((s.lldpSent n).offerEngine n (.lldp (s.lldpNow n)) ((s.lldpNow n).length + 4) none) := by
  have hnow : (match (s.port n).lldpAt with | none => true | some t => decide (t + s.obj 0x2700 5 * 1000000000 ≤ s.now)) = true := by
    cases h : (s.port n).lldpAt with
    | none => rfl
    | some t => exact decide_eq_true (hdue t h)
  exact exec_serving hs rfl (if_pos (Bool.and_eq_true_iff.2 ⟨hon, hnow⟩))

/-- What a lane's ESMC PDU leaves of the references: the QL that it carries. -/
theorem State.sendEsmc_facts (s : State) (n : Nat) : (s.sendEsmc n).clock = s.clock ∧ (s.sendEsmc n).refs = { s.refs with
    qlSent := s.refs.qlSent.put (fun _ => 0) n (s.qlOf n), qlChanged := putBit s.refs.qlChanged n false } := by
  have hoffer (v : State) := (within_offerEngine v n (.esmc (s.qlOf n)) (Config.frameOctets 0) none).frame
  exact ⟨hoffer _ .clock (by decide), hoffer _ .refs (by decide)⟩

/-! ### The ESMC time-out -/

/-- A SyncE reference of a lane whose ESMC is overdue (R131). -/
def State.esmcOverdue (s : State) (lane r : Nat) : Bool :=
  decide (16 ≤ r ∧ s.refSource r = 4 ∧ s.refInstance r = lane ∧ s.refs.esmcAt.look (fun _ => 0) lane + 5000000000 ≤ s.now)

/-- A loupe whose measurements are of bad quality. -/
def Loupe.marked (l : Loupe) : Loupe := { l with badQuality := true }

/-- A loupe disqualified for its bad quality. -/
def Loupe.dropped (l : Loupe) (now : Nat) : Loupe := { l with since := now, disq := 5, state := 5 }

/-- The reference of an overdue lane is disqualified. -/
def State.esmcLate (s : State) (lane r : Nat) : State :=
  if 16 ≤ r ∧ s.refSource r = 4 ∧ s.refInstance r = lane ∧ s.refs.esmcAt.look (fun _ => 0) lane + 5000000000 ≤ s.now then
    (s.setLoupe r (s.loupe r).marked).disqualify r 5
  else s

/-- A state of a reference in use. -/
def Loupe.inUse (l : Loupe) : Prop := l.state = 2 ∨ l.state = 3 ∨ l.state = 4

/-- The loupe of a reference after its lane's time-out. -/
def Loupe.esmcLost (l : Loupe) (now : Nat) : Loupe :=
  if l.state = 2 ∨ l.state = 3 ∨ l.state = 4 then l.marked.dropped now else l.marked

/-- What the time-out of one reference leaves for the next: the clock, the sources and the lanes' last ESMC. -/
structure EsmcSame (s t : State) : Prop where
  frame : KeepsAllBut [.refs, .mgmt, .objs, .faults, .synth] s t
  source : ∀ k, t.obj (0x3100 + k) 2 = s.obj (0x3100 + k) 2
  received : t.refs.esmcAt = s.refs.esmcAt

theorem EsmcSame.refl (s : State) : EsmcSame s s := ⟨keeps_refl _ s, fun _ => rfl, rfl⟩

theorem EsmcSame.trans (h : EsmcSame s t) (g : EsmcSame t u) : EsmcSame s u :=
  ⟨keeps_trans h.frame g.frame, fun k => (g.source k).trans (h.source k), g.received.trans h.received⟩

theorem EsmcSame.overdue (h : EsmcSame s t) (lane r : Nat) : t.esmcOverdue lane r = s.esmcOverdue lane r := by
  unfold State.esmcOverdue State.refSource State.refInstance
  rw [h.source, h.received, State.now_congr (h.frame .clock (by decide))]

theorem refSource_not_state (r k : Nat) : okey 0 0 (0x3100 + k) 2 ∉ stateKeys r := by
  simp only [stateKeys, lostKey, okey, List.mem_cons, List.not_mem_nil, or_false, not_or]
  omega

theorem esmcAt_setLoupe (s : State) (r : Nat) (l : Loupe) : (s.setLoupe r l).refs.esmcAt = s.refs.esmcAt := rfl

theorem State.setRef_five_refs (h : (s.loupe r).inUse) : (s.setRef r 5 5).refs = (s.setLoupe r (s.entered r 5 5)).refs := by
  rw [State.setRef_eq, if_neg (by simp), State.enter_refs]
  rcases h with h | h | h <;> rw [h] <;> decide

/-- A disqualification of a reference in use. -/
theorem State.disqualify_facts (h : (s.loupe r).inUse) : EsmcSame s (s.disqualify r 5) ∧ (s.disqualify r 5).loupe r =
    (s.loupe r).dropped s.now ∧ ∀ k, k ≠ r → (s.disqualify r 5).loupe k = s.loupe k := by
  have hhold := touches_holdTrackers s r
  have hset := touches_setRef (s.holdTrackers r) r 5 5
  have hloupe (k : Nat) : (s.holdTrackers r).loupe k = s.loupe k := State.loupe_congr (hhold.frame .refs (by decide)) k
  have huse : ((s.holdTrackers r).loupe r).inUse := (hloupe r).symm ▸ h
  have hrefs := State.setRef_five_refs huse
  have hentered : (s.holdTrackers r).entered r 5 5 = (s.loupe r).dropped s.now := by
    have hnow : (s.holdTrackers r).now = s.now := State.now_congr (hhold.frame .clock (by decide))
    have hshape (v : State) : v.entered r 5 5 = (v.loupe r).dropped v.now := rfl
    rw [hshape, hloupe, hnow]
  have heq : s.disqualify r 5 = (s.holdTrackers r).setRef r 5 5 := if_pos h
  rw [heq]
  refine ⟨⟨keeps_trans (keeps_weaken hhold.frame (by decide)) (keeps_weaken hset.frame (by decide)), fun k => ?_, ?_⟩, ?_, fun k hk => ?_⟩
  · exact (hset.obj (refSource_not_state r k)).trans (hhold.obj (refSource_not_holdover k))
  · have hsame : (s.holdTrackers r).refs = s.refs := hhold.frame .refs (by decide)
    rw [hrefs, esmcAt_setLoupe, hsame]
  · rw [State.loupe_congr hrefs, State.loupe_setLoupe_self, hentered]
  · rw [State.loupe_congr hrefs, State.loupe_setLoupe, if_neg hk, hloupe]

/-- The time-out of one reference. -/
theorem State.esmcLate_facts (s : State) (lane r : Nat) : EsmcSame s (s.esmcLate lane r) ∧ ∀ k, (s.esmcLate lane r).loupe k =
    if k = r then (if s.esmcOverdue lane r then (s.loupe r).esmcLost s.now else s.loupe r) else s.loupe k := by
  by_cases h : 16 ≤ r ∧ s.refSource r = 4 ∧ s.refInstance r = lane ∧ s.refs.esmcAt.look (fun _ => 0) lane + 5000000000 ≤ s.now
  · have hover : s.esmcOverdue lane r = true := decide_eq_true h
    have heq : s.esmcLate lane r = (s.setLoupe r (s.loupe r).marked).disqualify r 5 := if_pos h
    have hmark : EsmcSame s (s.setLoupe r (s.loupe r).marked) :=
      ⟨keeps_weaken (touches_setLoupe ..).frame (by decide), fun _ => rfl, rfl⟩
    rw [heq]
    simp only [hover, if_true]
    by_cases huse : (s.loupe r).inUse
    · have huse' : ((s.setLoupe r (s.loupe r).marked).loupe r).inUse := by
        rw [State.loupe_setLoupe_self]
        exact huse
      obtain ⟨hsame, hself, hother⟩ := State.disqualify_facts huse'
      refine ⟨hmark.trans hsame, fun k => ?_⟩
      split
      case isTrue hk =>
        rw [hk, hself, State.loupe_setLoupe_self]
        exact (if_pos huse).symm
      case isFalse hk => rw [hother k hk, State.loupe_setLoupe, if_neg hk]
    · have hkeep : (s.setLoupe r (s.loupe r).marked).disqualify r 5 = s.setLoupe r (s.loupe r).marked := by
        refine if_neg ?_
        rw [State.loupe_setLoupe_self]
        exact huse
      rw [hkeep]
      refine ⟨hmark, fun k => ?_⟩
      rw [State.loupe_setLoupe]
      exact if_congr Iff.rfl (if_neg huse).symm rfl
  · have hover : s.esmcOverdue lane r = false := decide_eq_false h
    have heq : s.esmcLate lane r = s := if_neg h
    rw [heq]
    refine ⟨.refl s, fun k => ?_⟩
    simp only [hover, Bool.false_eq_true, if_false]
    split
    case isTrue hk => rw [hk]
    case isFalse => rfl

/-- The time-out of a lane: the clock stands, and each reference's loupe is as its own time-out leaves it. -/
theorem State.esmcLateAll_facts (s : State) (lane : Nat) : EsmcSame s (refNumbers.foldl (fun u r => u.esmcLate lane r) s) ∧
    ∀ r ∈ refNumbers, (refNumbers.foldl (fun u r => u.esmcLate lane r) s).loupe r =
      if s.esmcOverdue lane r then (s.loupe r).esmcLost s.now else s.loupe r := by
  have hstep (u : State) (k : Nat) (hu : EsmcSame s u) : EsmcSame s (u.esmcLate lane k) := hu.trans (u.esmcLate_facts lane k).1
  refine ⟨?_, fun r hr => ?_⟩
  · have hfold (l : List Nat) (u : State) (hu : EsmcSame s u) : EsmcSame s (l.foldl (fun u r => u.esmcLate lane r) u) := by
      induction l generalizing u with
      | nil => exact hu
      | cons k l ih => exact ih _ (hstep u k hu)
    exact hfold refNumbers s (.refl s)
  · refine (bank_foldl (look := State.loupe) (P := EsmcSame s) (G := fun k l => if s.esmcOverdue lane k then l.esmcLost s.now else l) hstep
      (fun u k j hu => ?_) List.nodup_range (.refl s) r).trans (if_pos hr)
    rw [(u.esmcLate_facts lane k).2 j, hu.overdue, State.now_congr (hu.frame .clock (by decide))]

/-! ### Upstream requests -/

/-- The record of an upstream client whose request has been sent (R147, R148); an NTP client uses a cookie. -/
def State.requested (s : State) (i : Nat) (ntp : Bool) : Upstream :=
  { s.upstreamInst i with outstanding := true, sequence := (s.upstreamInst i).sequence + 1, sent := none, reply := none,
                          cookies := if ntp then (s.upstreamInst i).cookies.drop 1 else (s.upstreamInst i).cookies }

theorem State.upstreamInst_congr (h : t.refs = s.refs) (i : Nat) : t.upstreamInst i = s.upstreamInst i := by
  rw [State.upstreamInst, h, State.upstreamInst]

theorem touches_setUpstream (s : State) (i : Nat) (x : Upstream) : Touches [.refs] [] s (s.setUpstream i x) := touches_part rfl (keeps_refs s _)

theorem touches_fetchKey (s : State) (n unit : Nat) : Touches [.keys, .objs] [okey 0 0 0x2A00 8] s (s.fetchKey n unit).1 := by
  unfold State.fetchKey
  dsimp only
  split
  · exact (touches_setSlot ..).mono (by decide) (by simp)
  · exact ((touches_setSlot ..).andThen (touches_bump ..)).mono (by decide) (by simp)

/-- The record of an upstream client written, and a frame offered after it. -/
theorem State.offered_upstream {v : State} (hc : v.clock = s.clock) (i pos : Nat) (x : Upstream) (k : QKind) (o : Nat) (r : Option Nat) :
    ((v.setUpstream i x).offerPosition pos k o r).clock = s.clock ∧ ((v.setUpstream i x).offerPosition pos k o r).upstreamInst i = x := by
  have hoffer := (within_offerPosition (v.setUpstream i x) pos k o r).frame
  exact ⟨(hoffer .clock (by decide)).trans hc, (State.upstreamInst_congr (hoffer .refs (by decide)) i).trans (State.upstreamInst_setUpstream_self ..)⟩

/-- What an upstream request leaves: the clock, and the client's record with the request noted. -/
theorem State.upstreamRequest_facts (s : State) (i : Nat) : (s.upstreamRequest i).clock = s.clock ∧
    ∃ uid, (s.upstreamRequest i).upstreamInst i = { s.requested i (decide (s.obj (0x2320 + i) 1 = 2)) with uniqueId := uid } ∧
      (s.obj (0x2320 + i) 1 ≠ 2 → uid = (s.upstreamInst i).uniqueId) := by
  have hfetch (unit : Nat) : (s.fetchKey (s.obj (0x2320 + i) 6) unit).1.clock = s.clock := (touches_fetchKey ..).frame .clock (by decide)
  unfold State.upstreamRequest
  dsimp only
  by_cases h : s.obj (0x2320 + i) 1 = 2
  · rw [decide_eq_true h]
    specialize hfetch (if true then unitAes else unitHmac)
    generalize s.fetchKey (s.obj (0x2320 + i) 6) (if true then unitAes else unitHmac) = f at hfetch
    obtain ⟨v, k⟩ := f
    cases k with
    | none => exact ⟨hfetch, (s.upstreamInst i).uniqueId, State.upstreamInst_setUpstream_self .., fun h2 => absurd h h2⟩
    | some k =>
      dsimp only
      rw [if_pos rfl]
      have hoffer := State.offered_upstream (v := v.drawMask.2) hfetch i
      exact ⟨(hoffer ..).1, v.drawMask.1.take 32, (hoffer ..).2, fun h2 => absurd h h2⟩
  · rw [decide_eq_false h]
    specialize hfetch (if false then unitAes else unitHmac)
    generalize s.fetchKey (s.obj (0x2320 + i) 6) (if false then unitAes else unitHmac) = f at hfetch
    obtain ⟨v, k⟩ := f
    cases k with
    | none => exact ⟨hfetch, (s.upstreamInst i).uniqueId, State.upstreamInst_setUpstream_self .., fun _ => rfl⟩
    | some k =>
      cases s.entryOfSlot (s.obj (0x2320 + i) 6) with
      | none => exact ⟨hfetch, (s.upstreamInst i).uniqueId, State.upstreamInst_setUpstream_self .., fun _ => rfl⟩
      | some e =>
        dsimp only
        rw [if_neg Bool.false_ne_true]
        have hoffer := State.offered_upstream (v := v) hfetch i
        exact ⟨(hoffer ..).1, (s.upstreamInst i).uniqueId, (hoffer ..).2, fun _ => rfl⟩

/-- A poll that is due notes the instant, and counts a request that stands. -/
def State.polled (s : State) (i : Nat) : State := s.setUpstream i { s.upstreamInst i with
  polledAt := some s.now, missed := if (s.upstreamInst i).outstanding then (s.upstreamInst i).missed + 1 else (s.upstreamInst i).missed }

/-- The record of an upstream client after its poll (R147). -/
def State.polledRecord (s : State) (i : Nat) : Upstream := { s.upstreamInst i with
  polledAt := some s.now, missed := (s.upstreamInst i).missed + bitNat (s.upstreamInst i).outstanding, outstanding := true,
  sequence := (s.upstreamInst i).sequence + 1, sent := none, reply := none }

theorem State.requested_polled (s : State) (i : Nat) (ntp : Bool) : (s.polled i).requested i ntp =
    { s.polledRecord i with cookies := if ntp then (s.upstreamInst i).cookies.drop 1 else (s.upstreamInst i).cookies } := by
  have hmissed : (if (s.upstreamInst i).outstanding then (s.upstreamInst i).missed + 1 else (s.upstreamInst i).missed) =
      (s.upstreamInst i).missed + bitNat (s.upstreamInst i).outstanding := by
    cases (s.upstreamInst i).outstanding with
    | true => rfl
    | false => rfl
  rw [State.requested, State.polled, State.upstreamInst_setUpstream_self, hmissed]
  rfl

/-- What a due poll leaves of its client. -/
theorem State.poll_facts (s : State) (i : Nat) : ((s.polled i).upstreamRequest i).clock = s.clock ∧
    ∃ uid, ((s.polled i).upstreamRequest i).upstreamInst i = { s.polledRecord i with
        uniqueId := uid,
        cookies := if decide (s.obj (0x2320 + i) 1 = 2) then (s.upstreamInst i).cookies.drop 1 else (s.upstreamInst i).cookies } ∧
      (s.obj (0x2320 + i) 1 ≠ 2 → uid = (s.upstreamInst i).uniqueId) := by
  obtain ⟨hclock, uid, hrecord, huid⟩ := (s.polled i).upstreamRequest_facts i
  have hobj : (s.polled i).obj (0x2320 + i) 1 = s.obj (0x2320 + i) 1 := (touches_setUpstream ..).obj List.not_mem_nil
  rw [hobj, State.requested_polled] at hrecord
  refine ⟨hclock, uid, hrecord, fun h => (huid (hobj.symm ▸ h)).trans ?_⟩
  rw [State.polled, State.upstreamInst_setUpstream_self]

theorem exec_upstreamPoll_due (hs : InService s) (hr : s.upstreamRefs i ≠ []) (h0 : s.obj (0x2320 + i) 1 ≠ 0)
    (hp : passed (if s.obj (0x2320 + i) 1 = 2 then 1000000000 * 2 ^ (s.objI (0x2320 + i) 5).toNat else 0) (s.upstreamInst i).polledAt s.now = true)
    (hc : s.obj (0x2320 + i) 1 = 2 → (s.upstreamInst i).cookies ≠ []) : exec (.upstreamPoll i) s = .next ((s.polled i).upstreamRequest i) :=
  exec_serving hs rfl ((if_neg (by simp [h0, hr, hp])).trans (if_neg fun h => hc h.1 h.2))

theorem exec_upstreamPoll_early (hs : InService s)
    (hp : passed (if s.obj (0x2320 + i) 1 = 2 then 1000000000 * 2 ^ (s.objI (0x2320 + i) 5).toNat else 0) (s.upstreamInst i).polledAt s.now = false) :
    exec (.upstreamPoll i) s = .next s :=
  exec_serving hs rfl (if_pos (Or.inr (Or.inr hp)))

theorem cookieLoad_ok {d : Octets} {l : List Octets} (h2 : s.obj (0x2320 + i) 1 = 2) (hp : parseCookies 8 d = some l) (hl : l ≠ []) :
    cookieLoadOp i d s = .ok (s.setUpstream i { s.upstreamInst i with cookies := l }) := by
  unfold cookieLoadOp
  rw [if_neg (fun h => h h2), hp]
  cases l with
  | nil => exact absurd rfl hl
  | cons a r => rfl

@[simp] theorem State.upstreamInst_respond (s : State) (tr : Transport) (r : UsdoResponse) (i : Nat) :
    (s.respond tr r).upstreamInst i = s.upstreamInst i := State.upstreamInst_congr ((touches_respond ..).frame .refs (by decide)) i

/-! ### Supervision frames -/

/-- The supervision frame of a pair has been sent now (R367). -/
def State.supervisedNow (s : State) (pos : Nat) : State :=
  { s with fabric := { s.fabric with supervised := s.fabric.supervised.put noneOf pos (some s.now) } }

theorem exec_supervisionTransmit (hs : InService s) (hp : s.isPrp n = true) (hw : s.obj (0x2C40 + n) 2 ≠ 0)
    (hd : passed (s.obj (0x2C40 + n) 2 * 1000000000) (s.fabric.supervised.look noneOf n) s.now = true) : exec (.supervisionTransmit n) s =
      .next ((s.supervisedNow n).offerPosition n .supervision (Config.frameOctets 3) none) :=
  exec_serving hs rfl (if_pos (by simp [hp, hw, hd]))

/-- A frame without a timestamp advances its pair's sequence, and nothing else of the pair (R365). -/
theorem State.prpSequence_offerPosition {pos : Nat} (hn : pos < 12) (hp : s.isPrp pos = true) (k : QKind) (o : Nat) :
    (s.offerPosition pos k o none).obj (0x2C40 + pos) 8 = (s.obj (0x2C40 + pos) 8 + 1) % 65536 := by
  have hoffer := (offered_offer (I := switchIndex) (fun _ h => h) (s.prpAdvance pos) s.running (8 * pos + s.obj 0x2800 7)
    (f := s.positionFrame pos k o none) 0 true (Or.inl rfl)).counters (okey 0 0 (0x2C40 + pos) 8) (by
      unfold switchIndex okeyIndex okey
      omega)
  refine (State.obj_congr hoffer).trans ?_
  rw [State.prpAdvance, hp, if_pos rfl, State.obj_setObj_self, Int.toNat_natCast]

end Sys2Proof.Machine

namespace Sys2Proof.Proofs
open Sys2Proof Sys2Proof.Machine

/-- Settles O38: a reserved offer enters its queue; the other frames by what an offer leaves of the part that each records. -/
theorem theEnginesOwnFramesAreOffered : Obligations.TheEnginesOwnFramesAreOffered := by
  intro s tr n i d hs
  refine ⟨fun hn hon hup hp hprio hdue pl q g hpl hq hg hm hroom => ?_, fun hoff => ⟨?_, ?_, ?_⟩, fun hon hd => ?_, fun hd => ?_, fun hon hql => ?_,
    fun hql => ?_, fun hlate r hr hr' hsrc hinst _ => ?_, fun hearly => ?_, fun hrefs => ⟨fun h1 hp => ?_, fun h2 => ⟨fun hp hc => ?_, fun hp => ?_⟩⟩,
    fun hi h2 => ?_, fun hi h2 l hp hl => ?_, fun hn hp hw hd => ?_, fun hp => ?_⟩
  · subst hpl hq hg
    refine completes_intro (exec_lldpTransmit hs hon hdue) ⟨(within_offerEngine ..).frame .clock (by decide), ?_⟩
    have hlane : laneOf (n / 12) ((8 * (n % 12) + (s.lldpSent n).obj 0x2800 7) / 8) = n := by
      have hsame : (s.lldpSent n).obj 0x2800 7 = s.obj 0x2800 7 := rfl
      unfold laneOf
      omega
    rw [State.offerEngine, State.prpAdvance_plain (s := s.lldpSent n) hp, State.positionFrame_plain (s := s.lldpSent n) hp]
    exact State.queue_offer_reserved (s := s.lldpSent n) hm (by rw [hlane, State.laneUp_lldpSent, hup]) hroom rfl rfl
  · exact exec_serving hs rfl (if_neg (by simp [hoff]))
  · exact exec_serving hs rfl (if_neg (by simp [hoff]))
  · exact exec_serving hs rfl (if_neg (by simp [hoff]))
  · have hnext : exec (.esmcInformationPdu n) s =
        .next (({ s with refs := { s.refs with esmcSent := s.refs.esmcSent.put noneOf n (some s.now) } } : State).sendEsmc n) :=
      exec_serving hs rfl (if_pos (by simp [hon, hd]))
    exact completes_intro hnext (State.sendEsmc_facts ..)
  · exact exec_serving hs rfl (if_neg (by simp [hd]))
  · have hnext : exec (.esmcEventPdu n) s = .next (s.sendEsmc n) := exec_serving hs rfl (if_pos ⟨hon, hql⟩)
    exact completes_intro hnext (State.sendEsmc_facts ..)
  · exact exec_serving hs rfl (if_neg fun h => h.2 hql)
  · have hnext : exec (.esmcTimeout n) s = .next (refNumbers.foldl (fun u r => u.esmcLate n r) s) := exec_serving hs rfl rfl
    obtain ⟨hsame, hloupe⟩ := s.esmcLateAll_facts n
    have hover : s.esmcOverdue n r = true := decide_eq_true ⟨hr, hsrc, hinst, hlate⟩
    have hr := (hloupe r (List.mem_range.2 hr')).trans (if_pos hover)
    refine completes_intro hnext ⟨hsame.frame .clock (by decide), ?_, fun huse => ?_⟩
    · rw [hr, Loupe.esmcLost]
      split
      · rfl
      · rfl
    · rw [hr, Loupe.esmcLost, if_pos huse]
      exact ⟨rfl, rfl⟩
  · refine exec_serving hs rfl (List.foldl_fixed' (fun r => if_neg fun h => ?_) _)
    exact absurd h.2.2.2 (Nat.not_le.2 hearly)
  · have hnext := exec_upstreamPoll_due hs hrefs (by rw [h1]; decide) (by rw [h1]; exact hp) fun h => absurd (h1.symm.trans h) (by decide)
    obtain ⟨hclock, uid, hrecord, huid⟩ := s.poll_facts i
    have hne : s.obj (0x2320 + i) 1 ≠ 2 := by rw [h1]; decide
    rw [huid hne, decide_eq_false hne] at hrecord
    exact completes_intro hnext ⟨hclock, hrecord⟩
  · have hnext := exec_upstreamPoll_due hs hrefs (by rw [h2]; decide) (by rw [h2, if_pos rfl]; exact hp) fun _ => hc
    obtain ⟨hclock, uid, hrecord, -⟩ := s.poll_facts i
    rw [decide_eq_true h2] at hrecord
    exact completes_intro hnext ⟨hclock, congrArg Upstream.cookies hrecord, congrArg Upstream.outstanding hrecord, congrArg Upstream.sequence hrecord,
      congrArg Upstream.polledAt hrecord⟩
  · exact exec_upstreamPoll_early hs (by rw [h2, if_pos rfl]; exact hp)
  · exact refuses_of rfl hs (gate_at hs _ _ (by omega) (by omega) (by omega)) (if_pos h2)
  · exact confirms_part rfl hs (gate_at hs _ _ (by omega) (by omega) (by omega)) (cookieLoad_ok h2 hp hl) (touches_setUpstream ..) fun r => by simp
  · exact completes_intro (exec_supervisionTransmit hs hp hw hd) ⟨(within_offerPosition ..).frame .clock (by decide),
      State.prpSequence_offerPosition (s := s.supervisedNow n) hn hp _ _⟩
  · exact exec_serving hs rfl (if_neg (by simp [hp]))

end Sys2Proof.Proofs
end

section
/-! PROOF. Best-effort egress and the host path (R52, R173, R256, R278, R280, R283 to R286). -/

namespace Sys2Proof.Machine

variable {s t u : State} {n p q : Nat} {f : QFrame} {r : List QFrame} {d : Octets}

/-! ### The head of a queue -/

/-- The queue behind its head; the next frame reaches the head now. -/
def behind (r : List QFrame) (now : Nat) : List QFrame := r.modifyHead fun g => { g with headAt := some now }

theorem State.popQueue_cons (h : s.queue p q = f :: r) : s.popQueue p q = s.setQueue p q (behind r s.now) := by
  unfold State.popQueue
  rw [h]
  cases r with
  | nil => rfl
  | cons g r => rfl

theorem State.copyLost_silent (h : f.request = none) : s.copyLost p q f = s := by rw [State.copyLost, h]

/-- A head no longer than the egress MTU is not dropped. -/
theorem State.dropLong_fits {lane k : Nat} (h : s.queue (lane / 12) q = f :: r) (hl : f.length ≤ s.obj (0x3400 + lane) 4) : s.dropLong lane q (k + 1) = s := by
  rw [State.dropLong, h]
  exact if_neg (Nat.not_lt.2 hl)

/-- The record of a port whose lane has begun to send a frame. -/
def State.sending (s : State) (n : Nat) (f : QFrame) : Port := { s.port n with
  started := if f.request.isSome then (s.port n).started ++ [f] else (s.port n).started, sending := some f, lastSent := f.wire n,
  busyUntil := s.now + (f.octets + 20) * 8 * bitTime (s.laneMode n) / 100 }

/-- A head that is not sent on the other lane too leaves its queue for the wire. -/
theorem State.startFrame_eq (h : s.queue (n / 12) q = f :: r) (hc : s.crossed (n % 12) = false ∨ n / 12 ≠ s.twin.active) :
    s.startFrame n q f = (s.setQueue (n / 12) q (behind r s.now)).setPort n (s.sending n f) := by
  have hpop := touches_setQueue s (n / 12) q (behind r s.now)
  have hcrossed := State.crossed_congr (hpop.frame .twin (by decide)) (hpop.frame .objs (by decide)) (n % 12)
  have hstay : (s.setQueue (n / 12) q (behind r s.now)).crossFrame n q f = s.setQueue (n / 12) q (behind r s.now) := by
    refine if_pos ?_
    rw [hcrossed]
    rcases hc with hc | hc
    · simp [hc]
    · exact Bool.or_eq_true_iff.2 (Or.inr (decide_eq_true hc))
  unfold State.startFrame
  rw [State.popQueue_cons h, hstay]
  rfl

/-- The head of the highest queue starts if it fits (R52, R280). -/
theorem State.startBest_highest (h : s.queue (n / 12) (8 * (n % 12) + 7) = f :: r) (hl : f.length ≤ s.obj (0x3400 + n) 4)
    (hp : s.isPaused n 7 = false) (hfit : s.fitsGap n f = true) (l : List Nat) : s.startBest n (7 :: l) = s.startFrame n (8 * (n % 12) + 7) f := by
  have hlen : (s.queue (n / 12) (8 * (n % 12) + 7)).length = r.length + 1 := by rw [h, List.length_cons]
  unfold State.startBest
  dsimp only
  rw [hlen, State.dropLong_fits h hl, if_neg (by simp [hp]), h]
  exact if_pos hfit

theorem exec_headAgeDrop (hs : InService s) (hq : s.queue p q = f :: r) {t0 : Nat} (hh : f.headAt = some t0) : exec (.headAgeDrop p q) s = .next
    (if q < 96 ∧ t0 + 100000000 ≤ s.now then ((s.popQueue p q).bumpKey (queueKey p q 0x11) 1).copyLost p q f else s) := by
  refine exec_serving hs rfl ?_
  rw [hq]
  dsimp only
  rw [hh]

/-- Waiting cells written in this slot (R278). -/
def State.staged (s : State) (k : Nat) : State := { s.useSlot k with fabric := { (s.useSlot k).fabric with staging := s.fabric.staging - k } }

theorem touches_staged (s : State) (k : Nat) : Touches [.fabric] [] s (s.staged k) := (touches_fabric s _).trans (touches_fabric (s.useSlot k) _)

theorem State.fabric_staged (s : State) (k : Nat) : (s.staged k).fabric = { s.fabric with
    staging := s.fabric.staging - k, written := (s.absSlot, (if s.fabric.written.1 = s.absSlot then s.fabric.written.2 else 0) + k) } := rfl

/-! ### The host path -/

/-- A host frame's copy for a position (R256, R283). -/
def State.hostCopy (s : State) (p : Nat) (g : Octets) (many : Bool) (id : Option Nat) : QFrame :=
  { kind := .host (padTo 60 g), cells := cellsOf (Nat.max g.length 60 + 4 + s.prpOctets p), octets := Nat.max g.length 60 + 4 + s.prpOctets p,
    length := s.hostLength p g, request := id, copy := many, prp := s.prpNumber p }

/-- A frame of 14 octets for position 0 without a timestamp is offered there. -/
theorem hostTransmitOp_single (hlen : d.length = 8 + 14) (hmask : beNat (slice d 0 2) = 1) (hflags : beNat (slice d 2 1) < 8)
    (hzero : beNat (slice d 3 1) = 0) (hid : beNat (slice d 4 2) < 0xF000) (hsize : beNat (slice d 6 2) = 14) (hon : s.laneOn 0 = true)
    (hmtu : s.hostLength 0 (d.drop 8) ≤ s.positionMtu 0) : hostTransmitOp d s =
      .ok (((s.bump 0x2810 2).prpAdvance 0).offer (s.bump 0x2810 2).running (8 * 0 + beNat (slice d 2 1) % 8)
        ((s.bump 0x2810 2).hostCopy 0 (d.drop 8) false none) 0 false) := by
  have hports : bitsSet (1 % 4096) 12 = [0] := by decide
  have hfield : field (beNat (slice d 2 1)) 6 3 = 0 := by
    rw [field, Nat.shiftRight_eq_div_pow, Nat.div_eq_of_lt hflags]
    rfl
  have hbit : bit (beNat (slice d 2 1)) 7 = false := Nat.testBit_lt_two_pow (by omega)
  have hbody : (d.drop 8).length = 14 := by simp [hlen]
  refine (if_neg ?_).trans ((if_neg (Nat.not_le.2 hid)).trans ((if_neg ?_).trans ?_))
  · simp [hmask, hports, hfield, hzero, hsize, hbody, hlen, hon]
  · simp [hmask, hports, hmtu]
  · simp only [hmask, hports, hbit]
    rfl

theorem obj_hostTransmitted (hid : f.request = none) : ((((s.bump 0x2810 2).prpAdvance 0).offer (s.bump 0x2810 2).running q f 0 false).obj 0x2810 2) =
    (s.obj 0x2810 2 + 1) % 2 ^ 32 := by
  have hoffer := (offered_offer (I := switchIndex) (fun _ h => h) ((s.bump 0x2810 2).prpAdvance 0) (s.bump 0x2810 2).running q 0 false
    (Or.inl hid)).counters (okey 0 0 0x2810 2) (by unfold switchIndex; decide)
  rw [State.obj_congr hoffer, (touches_prpAdvance ..).obj (by decide), obj_bump, if_pos rfl]

theorem touches_setPeaks (s : State) (q : Nat) : Touches [.objs] [queueKey 0 q 0x0A, queueKey 1 q 0x0A] s
    ((s.setKey (queueKey 0 q 0x0A) 0).setKey (queueKey 1 q 0x0A) 0) :=
  ((touches_setKey s _ 0).andThen (touches_setKey _ (queueKey 1 q 0x0A) 0)).mono (by decide) (List.Subset.refl _)

theorem State.willKey_later (s : State) (k : Nat) (v : Int) : (s.later k v).willKey k = v := by
  have hnone : (s.mgmt.pendWrites.filter fun p => decide (p.key ≠ k)).find? (fun p => decide (p.key = k)) = none := by
    refine List.find?_eq_none.2 fun p hp => ?_
    simpa using (List.mem_filter.1 hp).2
  unfold State.willKey State.later State.pendWrite
  dsimp only
  rw [List.find?_append, hnone]
  simp

theorem State.willKey_congr (h : t.mgmt.pendWrites = s.mgmt.pendWrites) {k : Nat} (hk : t.objKey k = s.objKey k) : t.willKey k = s.willKey k := by
  rw [State.willKey, h, hk, State.willKey]

end Sys2Proof.Machine

namespace Sys2Proof.Proofs
open Sys2Proof Sys2Proof.Machine

/-- Settles O37: the head of a queue taken off it, the staging area's figures, and each host command's own check. -/
theorem queuesDrainAndTheHostPathIsChecked : Obligations.QueuesDrainAndTheHostPathIsChecked := by
  intro s tr n p q f r d hs
  have hgate (i j : Nat) (h : i = 0x2810 ∨ i = 0x2811 ∨ i = 0x2802 ∨ i = 0x2E01) : s.gate i j = none :=
    gate_at hs _ _ (by omega) (by omega) (by omega)
  refine ⟨fun hg hup hport hbusy hlpi hall h7 hrun hcross hq hl hfit => ?_, fun h => ?_, fun hq96 hq hreq t0 hh => ⟨fun hage => ?_, fun hage => ?_⟩,
    fun hg k hk => ?_, fun hg => ?_, fun hd => ?_, fun hlen hmask hflags hzero hid hsize hon hmtu => ?_, fun l hl => ?_, fun hl => ?_, fun hd => ?_,
    fun hd he => ?_, fun hd he => ?_, fun hchosen => ?_, ?_⟩
  · have hframe := (touches_setQueue s (n / 12) (8 * (n % 12) + 7) (behind r s.now)).andThen (touches_setPort _ n (s.sending n f))
    refine turns_of (exec_serving hs rfl ((if_neg (by simp [hg, hup, hport, hbusy, hlpi, hall, hrun])).trans
      ((State.startBest_highest hq hl h7 hfit _).trans (State.startFrame_eq hq hcross)))) ⟨State.port_setPort_self .., ?_⟩ hframe.objects
      (keeps_weaken hframe.frame (by decide))
    rw [State.queue_congr ((touches_setPort ..).frame .fabric (by decide)), State.queue_setQueue_self]
    rfl
  · refine exec_serving hs rfl (if_pos ?_)
    rcases h with h | h
    · exact Or.inr (Or.inr (Or.inr (Or.inl h)))
    · exact Or.inl h
  · have hframe := (touches_setQueue s p q (behind r s.now)).andThen (touches_bumpKey _ (queueKey p q 0x11) 1)
    refine turns_of ((exec_headAgeDrop hs hq hh).trans (by rw [if_pos ⟨hq96, hage⟩, State.copyLost_silent hreq, State.popQueue_cons hq])) ⟨?_, ?_⟩
      hframe.objects hframe.frame
    · rw [State.bumpKey, State.objKey_setKey_self]
      rfl
    · rw [State.bumpKey, State.queue_setKey, State.queue_setQueue_self]
      rfl
  · rw [exec_headAgeDrop hs hq hh, if_neg fun h => absurd h.2 (Nat.not_le.2 hage)]
  · subst hk
    have hframe := touches_staged s (Nat.min s.fabric.staging s.slotAllowance)
    have hnext : exec .stagingWrite s = .next (s.staged (Nat.min s.fabric.staging s.slotAllowance)) := exec_serving hs rfl (if_neg (by simp [hg]))
    exact turns_of hnext (State.fabric_staged ..) hframe.objects hframe.frame
  · exact exec_serving hs rfl (if_pos hg)
  · exact refuses_of rfl hs (hgate _ _ (by decide)) (if_pos (Or.inl hd))
  · refine completes_of rfl hs (hgate _ _ (by decide)) (hostTransmitOp_single hlen hmask hflags hzero hid hsize hon hmtu) fun a => ⟨?_, ?_⟩
    · rw [(touches_respond ..).obj (by decide), obj_hostTransmitted rfl]
    · rw [State.respond_clock, (within_offer ..).frame .clock (by decide), (touches_prpAdvance ..).frame .clock (by decide),
        (touches_bump s 0x2810 2).frame .clock (by decide)]
  · exact confirms_part rfl hs (hgate _ _ (by decide)) (by rw [hostReleaseOp, hl]) (touches_fabric ..) fun a => by simp
  · exact refuses_of rfl hs (hgate _ _ (by decide)) (by rw [hostReleaseOp, hl])
  · exact refuses_of rfl hs (hgate _ _ (by decide)) (if_pos hd)
  · exact refuses_of rfl hs (hgate _ _ (by decide)) ((if_neg (by simp [hd])).trans (if_pos (by simp [he])))
  · refine confirms_touches rfl hs (hgate _ _ (by decide)) ((if_neg (by simp [hd])).trans (if_neg (by simp [he])))
      ((touches_mgmt s _).mono (by decide) (List.nil_subset _)) fun a => ?_
    have hkey : okey 0 (s.obj 0x2802 1) 0x2802 2 ∉ [servedKey, lostKey] := by
      simp only [servedKey, lostKey, okey, List.mem_cons, List.not_mem_nil, or_false, not_or]
      omega
    rw [State.willKey_congr (State.respond_mgmt_pendWrites ..) ((touches_respond ..).objects _ hkey), State.willKey_later]
  · refine confirms_touches rfl hs (gate_none_running hs.1 hchosen 0x2801 0x10) rfl
      ((touches_setPeaks s (s.obj 0x2801 1)).mono (by decide) (List.subset_append_right [servedKey, lostKey] _)) fun a => ?_
    have hkeep (p : Nat) : queueKey p (s.obj 0x2801 1) 0x0A ∉ [servedKey, lostKey] := by
      simp only [servedKey, lostKey, queueKey, okey, List.mem_cons, List.not_mem_nil, or_false, not_or]
      omega
    rw [(touches_respond ..).objects _ (hkeep 0), (touches_respond ..).objects _ (hkeep 1)]
    refine ⟨?_, State.objKey_setKey_self ..⟩
    rw [State.objKey_setKey]
    split
    · rfl
    · exact State.objKey_setKey_self ..
  · exact confirms_part rfl hs (hgate _ _ (by decide)) rfl (touches_faults ..) fun a => by simp

end Sys2Proof.Proofs
end

section
/-! PROOF. The intake (R13 to R17, R173, R253 to R255, R258, R362, R366): received frames, delivery, rail errors and faults. -/

namespace Sys2Proof.Machine

variable {s t u : State} {n src : Nat} {f : RxFrame} {i : Item}

/-! ### Received frames -/

/-- A lane without an enabled pattern matches none. -/
theorem State.wakePatterns_none (h : s.obj (0x3400 + n) 0x24 = 0) (head : Octets) : s.wakePatterns n head = s := by
  refine List.foldl_fixed' (fun k => if_neg ?_) _
  simp [State.patternMatches, h, bit]

theorem State.duplicate_plain (h : s.isPrp (n % 12) = false) : s.duplicate n f = (s, true) := by
  unfold State.duplicate
  dsimp only
  rw [h]
  rfl

/-- A frame that passes its checks on a plain lane is counted and tagged. -/
theorem exec_frameReceived (hs : InService s) (hfault : bit s.intake.faults n = false) (hr : s.laneReceives n = true) (hc : s.rxCheck n f = none)
    (hp : s.isPrp (n % 12) = false) (hw : s.obj (0x3400 + n) 0x24 = 0) (hu : udpFails f = false) :
    exec (.frameReceiveComplete n f) s = .next ((s.bump (0x3400 + n) 0x15).tagItem n 0 (.frame f)) := by
  have hwake : (s.bump (0x3400 + n) 0x15).wakePatterns n f.head = s.bump (0x3400 + n) 0x15 := by
    refine State.wakePatterns_none ?_ _
    rw [(touches_bump ..).obj (by rw [List.mem_singleton, okey_sub]; decide), hw]
  have hplain : (s.bump (0x3400 + n) 0x15).isPrp (n % 12) = false := by
    refine (congrArg (fun k : Nat => decide (k = 1)) ((touches_bump s (0x3400 + n) 0x15).obj ?_)).trans hp
    simp only [List.mem_singleton, okey]
    omega
  refine exec_serving hs rfl ((if_neg (by simp [hfault, hr])).trans ?_)
  rw [hc]
  dsimp only
  rw [hwake, State.duplicate_plain hplain]
  dsimp only
  rw [Bool.not_true, if_neg Bool.false_ne_true, hu, Bool.false_and, if_neg Bool.false_ne_true]

/-- The intake once counted and then replaced. -/
def State.countedInto (s : State) (i j : Nat) (x : Intake) : State := { s.bump i j with intake := x }

theorem touches_countedInto (s : State) (i j : Nat) (x : Intake) : Touches [.objs, .intake] [okey 0 0 i j] s (s.countedInto i j x) :=
  (touches_bump s i j).andThen (touches_intake _ x)

theorem State.obj_countedInto (s : State) (i j : Nat) (x : Intake) : (s.countedInto i j x).obj i j = (s.obj i j + 1) % 2 ^ 32 :=
  (obj_bump s i j i j).trans (if_pos rfl)

theorem tagItem_bump_open {i j d : Nat} {b : ItemBody} (h : s.time.gate = false) : (s.bump i j).tagItem src d b =
    s.countedInto i j { s.intake with items := s.intake.items ++ [⟨src, s.now + d, s.tai, b⟩] } := by
  have hnow : (s.bump i j).now = s.now := State.now_congr ((touches_bump s i j).frame .clock (by decide))
  have htai : (s.bump i j).tai = s.tai := by rw [State.tai, State.base, State.bump_time, State.tai, State.base]
  rw [tagItem_of_open (by rw [State.bump_time, h]), State.bump_intake, hnow, htai, State.countedInto]

/-! ### Delivery -/

/-- The oldest item has left the intake. -/
def State.takenItem (s : State) (left : List Item) : State := { s with intake := { s.intake with items := left } }

theorem touches_takenItem (s : State) (left : List Item) : Touches [.intake] [] s (s.takenItem left) := touches_intake s _

/-- An item whose time has come is delivered, dropped by a rail error, or lost with its unit. -/
theorem exec_itemDelivery (hs : InService s) (hi : (sortItems s.intake.items).head? = some i) (ht : i.tag + 256 ≤ s.now) (hg : s.time.gate = false)
    (b : Bool) : exec (.itemDelivery b) s = .next (if b then (s.takenItem (s.intake.items.erase i)).railDrop i.source
      else if bit s.intake.faults i.source then s.takenItem (s.intake.items.erase i) else (s.takenItem (s.intake.items.erase i)).deliver i) := by
  refine exec_serving hs rfl ?_
  rw [hi]
  exact if_neg (by simp [hg, Nat.not_lt.2 ht])

theorem exec_itemDelivery_held (hs : InService s) (hi : (sortItems s.intake.items).head? = some i) (h : s.now < i.tag + 256 ∨ s.time.gate = true)
    (b : Bool) : exec (.itemDelivery b) s = .next s := by
  refine exec_serving hs rfl ?_
  rw [hi]
  exact if_pos h

/-- A PAUSE frame on a port without flow control is counted (R258). -/
theorem State.deliver_pause {q : Nat} (hb : i.body = .frame f) (hf : f.payload = .pause q) (h : s.obj (0x3400 + s.portNumber i.source) 0x0C ≠ 1) :
    s.deliver i = s.bump (0x3400 + i.source) 0x1E := by
  unfold State.deliver
  rw [hb]
  dsimp only
  unfold State.classifyFrame
  rw [hf]
  exact if_pos h

/-- The input whose event enters its FIFO (R116). -/
def State.fifoEntered (s : State) (e : Nat) (rising : Bool) (time : Int) : EventInput := { s.input e with
  phase := 0, gap := false, seq := ((s.input e).seq + 1) % 8192,
  fifo := (s.input e).fifo ++ [⟨toTime112 (time.toNat * 2 ^ 28), 32768 * bitNat (s.input e).gap + 16384 * bitNat rising +
    8192 * bitNat (decide ((s.input e).calibration = 2)), (s.input e).seq⟩] }

theorem State.deliver_event {rising : Bool} {time time0 : Int} (hb : i.body = .event rising time time0 true)
    (hd : s.obj (0x3020 + (i.source - 40)) 0x0F ≤ (s.input (i.source - 40)).phase + 1) (hroom : (s.input (i.source - 40)).fifo.length < 256) :
    s.deliver i = s.setInput (i.source - 40) (s.fifoEntered (i.source - 40) rising time) := by
  unfold State.deliver
  rw [hb]
  exact (if_neg (Nat.not_lt.2 hd)).trans (if_neg (Nat.not_le.2 hroom))

/-! ### Faults of a unit -/

theorem within_refLost (s : State) (r reason : Nat) : Within [.refs, .mgmt, .objs, .faults, .synth] s (s.refLost r reason) := by
  unfold State.refLost
  dsimp only
  split
  · exact .refl s
  · split
    · exact (touches_setLoupe ..).within (by decide)
    · exact ((touches_holdTrackers s r).within (by decide)).trans ((touches_setRef ..).within (by decide))

/-- The references that a stopped unit serves are lost (R17, R131). -/
def State.unitRefs (s : State) (src : Nat) : State := refNumbers.foldl (fun (s : State) r =>
  let hit := decide (r < 16 ∧ src = 24 + r) || (decide (16 ≤ r) && ((decide (s.refSource r = 4) && decide (s.refInstance r = src))
    || (decide (s.refSource r = 1) && decide (88 + s.refInstance r = src))))
  if hit then s.refLost r 0x0A else s) s

theorem State.unitFault_eq (s : State) (src : Nat) : s.unitFault src = (s.intakeFault src).unitRefs src := rfl

theorem within_unitRefs (s : State) (src : Nat) : Within [.refs, .mgmt, .objs, .faults, .synth] s (s.unitRefs src) :=
  within_foldl (fun _ _ => within_ite (within_refLost ..) (.refl _)) refNumbers s

theorem State.intakeFault_new (h : bit s.intake.faults src = false) : (s.intakeFault src).clock = s.clock ∧ (s.intakeFault src).intake =
    { s.intake with faults := putBit s.intake.faults src true, items := s.intake.items.filter fun i => decide (i.source ≠ src) } := by
  have hreport (v : State) := (touches_report v 0xFF 0x04 src 0xFFA3 0xFF (src * 2 ^ 24)).frame
  unfold State.intakeFault
  rw [if_neg (by simp [h])]
  exact ⟨hreport _ .clock (by decide), hreport _ .intake (by decide)⟩

theorem State.unitRefs_off (h : ∀ r, r < 32 → (s.loupe r).state = 0) (src : Nat) : s.unitRefs src = s := by
  have hfixed (l : List Nat) (hl : ∀ r ∈ l, (s.loupe r).state = 0) : l.foldl (fun (s : State) r =>
      let hit := decide (r < 16 ∧ src = 24 + r) || (decide (16 ≤ r) && ((decide (s.refSource r = 4) && decide (s.refInstance r = src))
        || (decide (s.refSource r = 1) && decide (88 + s.refInstance r = src))))
      if hit then s.refLost r 0x0A else s) s = s := by
    induction l with
    | nil => rfl
    | cons r l ih =>
      have hone : s.refLost r 0x0A = s := if_pos (hl r List.mem_cons_self)
      rw [List.foldl_cons]
      dsimp only
      rw [hone, ite_self]
      exact ih fun k hk => hl k (List.mem_cons_of_mem _ hk)
  exact hfixed refNumbers fun r hr => h r (List.mem_range.1 hr)

/-- A first rail error of a unit drops its item with a count (R362). -/
theorem State.railDrop_first (h : s.intake.railErrors.look (fun _ => []) src = []) : s.railDrop src =
    s.countedInto 0x2C20 3 { s.intake with railErrors := s.intake.railErrors.put (fun _ => []) src [s.now] } := by
  have hlook : (s.bump 0x2C20 3).intake.railErrors.look (fun _ => []) src = [] := by rw [State.bump_intake, h]
  unfold State.railDrop
  dsimp only
  rw [hlook, List.filter_nil, if_neg (by simp), State.bump_intake, State.countedInto]

end Sys2Proof.Machine

namespace Sys2Proof.Proofs
open Sys2Proof Sys2Proof.Machine

/-- Settles O36: the checks of a frame, the fates of the oldest item, and what a unit's fault leaves of the intake. -/
theorem receivedFramesAreCheckedAndDelivered : Obligations.ReceivedFramesAreCheckedAndDelivered := by
  intro s n src f i hs
  refine ⟨fun hfault hr => ⟨fun sub hc => ?_, fun hc hp hw hu => ⟨fun hg => ?_, fun hg => ?_⟩⟩, fun hfault => ?_, ?_, fun h b => ?_,
    fun hi left hleft => ⟨fun h b => exec_itemDelivery_held hs hi h b, fun ht hg => ⟨fun hfault => ?_, fun hfault => ⟨fun u hu => ?_,
      fun q hb hf hflow => ?_, fun rising time time0 e hb he hd hroom => ?_⟩, fun hrail => ?_⟩⟩, fun hfault => ?_, fun hfault hoff => ?_⟩
  · have hframe := touches_bump s (0x3400 + n) sub
    refine turns_of (exec_serving hs rfl ((if_neg (by simp [hfault, hr])).trans (by rw [hc]))) ?_ hframe.objects hframe.frame
    rw [obj_bump, if_pos rfl]
  · have hnext := exec_frameReceived hs hfault hr hc hp hw hu
    rw [tagItem_bump_open hg, Nat.add_zero] at hnext
    have hframe := touches_countedInto s (0x3400 + n) 0x15 { s.intake with items := s.intake.items ++ [⟨n, s.now, s.tai, .frame f⟩] }
    exact turns_of hnext ⟨State.obj_countedInto .., rfl⟩ hframe.objects hframe.frame
  · have hnext := exec_frameReceived hs hfault hr hc hp hw hu
    rw [tagItem_of_gate (by exact hg)] at hnext
    have hframe := (touches_bump s (0x3400 + n) 0x15).andThen (touches_bump _ 0x2C20 3)
    have hne : okey 0 0 (0x3400 + n) 0x15 ≠ okey 0 0 0x2C20 3 := by unfold okey; omega
    refine turns_of hnext ⟨?_, ?_⟩ hframe.objects (keeps_weaken hframe.frame (by decide))
    · rw [obj_bump, if_neg hne, obj_bump, if_pos rfl]
    · rw [obj_bump, if_pos rfl, obj_bump, if_neg hne.symm]
  · exact exec_serving hs rfl (if_pos (by simp [hfault]))
  · have hframe := touches_intake s { s.intake with discard := s.intake.discard.filter fun e => decide (s.now - e.arrival ≤ s.obj 0x2C30 1 * 1000000) }
    exact turns_of (exec_serving hs rfl rfl) rfl hframe.objects hframe.frame
  · refine exec_serving hs rfl ?_
    rw [h]
    rfl
  · have hnext := exec_itemDelivery hs hi ht hg false
    rw [if_neg Bool.false_ne_true, hfault, if_pos rfl, ← hleft] at hnext
    have hframe := touches_takenItem s left
    exact turns_of hnext rfl hframe.objects hframe.frame
  · have hnext := exec_itemDelivery hs hi ht hg false
    rw [if_neg Bool.false_ne_true, hfault, if_neg Bool.false_ne_true, ← hleft] at hnext
    subst hu
    exact ⟨hnext, tick_clock (State.deliver_tick _ _)⟩
  · have hnext := exec_itemDelivery hs hi ht hg false
    rw [if_neg Bool.false_ne_true, hfault, if_neg Bool.false_ne_true, ← hleft, State.deliver_pause hb hf (by exact hflow)] at hnext
    have hframe := (touches_takenItem s left).andThen (touches_bump _ (0x3400 + i.source) 0x1E)
    exact turns_of hnext ⟨rfl, (obj_bump ..).trans (if_pos rfl)⟩ hframe.objects hframe.frame
  · have hnext := exec_itemDelivery hs hi ht hg false
    subst he
    rw [if_neg Bool.false_ne_true, hfault, if_neg Bool.false_ne_true, ← hleft, State.deliver_event hb (by exact hd) (by exact hroom)] at hnext
    have hframe := (touches_takenItem s left).andThen (touches_setInput _ (i.source - 40) ((s.takenItem left).fifoEntered (i.source - 40) rising time))
    refine turns_of hnext ⟨rfl, ?_, ?_⟩ hframe.objects hframe.frame
    · rw [State.input_setInput_self]
      rfl
    · rw [State.input_setInput_self]
      exact ⟨_, rfl, rfl⟩
  · have hnext := exec_itemDelivery hs hi ht hg true
    rw [if_pos rfl, ← hleft, State.railDrop_first (by exact hrail)] at hnext
    have hframe := (touches_takenItem s left).andThen (touches_countedInto _ 0x2C20 3 { (s.takenItem left).intake with
      railErrors := (s.takenItem left).intake.railErrors.put (fun _ => []) i.source [(s.takenItem left).now] })
    exact turns_of hnext ⟨State.obj_countedInto .., rfl, Table.look_put_self (fun _ => []) i.source [s.now] s.intake.railErrors⟩ hframe.objects (keeps_weaken hframe.frame (by decide))
  · obtain ⟨hclock, hintake⟩ := State.intakeFault_new hfault
    have hrefs := (within_unitRefs (s.intakeFault src) src).frame
    exact completes_intro (exec_serving hs rfl (State.unitFault_eq s src)) ⟨(hrefs .clock (by decide)).trans hclock,
      (hrefs .intake (by decide)).trans hintake⟩
  · have hkeep : s.intakeFault src = s := if_pos hfault
    exact exec_serving hs rfl ((State.unitFault_eq s src).trans (by rw [hkeep, State.unitRefs_off hoff]))

end Sys2Proof.Proofs
end

section
/-! PROOF. The key store (R320 to R327): imports, the root, the signing policy, invalidation and erasure. -/

namespace Sys2Proof.Machine

variable {s t u : State} {d key : Octets} {n v : Nat} {tr : Transport}

/-! ### Slots -/

@[simp] theorem State.slot_respond (s : State) (tr : Transport) (r : UsdoResponse) (k : Nat) : (s.respond tr r).slot k = s.slot k :=
  State.slot_congr (State.respond_keys ..) k

theorem Table.mem_keys {α : Type} {d : Nat → α} {k : Nat} {t : Table α} (h : Table.look d k t ≠ d k) : k ∈ t.keys := by
  induction t with
  | nil => exact absurd rfl h
  | cons e t ih =>
    by_cases hk : e.1 = k
    · exact List.mem_cons.2 (.inl hk.symm)
    · exact List.mem_cons_of_mem _ (ih (by rwa [Table.look, if_neg hk] at h))

/-- A slot that has held a key is listed. -/
theorem State.slot_listed {k : Nat} (h : (s.slot k).state ≠ 0) : k ∈ s.keys.slots.keys :=
  Table.mem_keys fun hd => h (congrArg Slot.state hd)

/-- Each slot of a list is changed by its own value, however often it is named. -/
theorem State.slot_foldl {g : Slot → Slot} (hg : ∀ x, g (g x) = g x) (l : List Nat) (s : State) (k : Nat) :
    (l.foldl (fun (t : State) n => t.setSlot n (g (t.slot n))) s).slot k = if k ∈ l then g (s.slot k) else s.slot k := by
  induction l generalizing s with
  | nil => rfl
  | cons n l ih =>
    rw [List.foldl_cons, ih, State.slot_setSlot]
    by_cases hk : k = n
    · subst hk
      simp [hg]
    · simp [hk]

/-- A fetch that the slot allows is counted on it. -/
theorem State.fetchKey_allowed {unit : Nat} (h : s.fetchStatus n unit = 0) :
    s.fetchKey n unit = (s.setSlot n { s.slot n with uses := Nat.min ((s.slot n).uses + 1) 0xFFFFFFFF }, some (s.slot n).key) := if_pos h

theorem State.fetchStatus_valid {unit : Nat} (h : s.slotState n = 1) (hm : bit (s.slot n).mask unit = true) : s.fetchStatus n unit = 0 := by
  simp [State.fetchStatus, h, hm]

/-! ### Import -/

/-- The slot that receives a key (R325). -/
def State.importedSlot (s : State) (r : ImportRecord) (key : Octets) : Slot :=
  { state := 1, mask := r.mask, parent := r.parent, depth := (s.slot r.parent).depth + 1, generation := nextGeneration (s.slot r.target).generation,
    expiry := r.expiry, key := key, maskA := Config.drbg s.keys.drawn, maskB := Config.drbg (s.keys.drawn + 1), maskedA := s.now, maskedB := s.now }

/-- Two masks are drawn. -/
def State.drawnTwice (s : State) : State := { s with keys := { s.keys with drawn := s.keys.drawn + 2 } }

theorem touches_drawnTwice (s : State) : Touches [.keys] [] s s.drawnTwice := touches_keys s _

theorem State.placeKey_eq (s : State) (r : ImportRecord) (key : Octets) :
    s.placeKey r key = (s.drawnTwice.setSlot r.target (s.importedSlot r key)).bump 0x2A00 6 := rfl

theorem touches_placeKey (s : State) (r : ImportRecord) (key : Octets) : Touches [.keys, .objs] [okey 0 0 0x2A00 6] s (s.placeKey r key) :=
  ((touches_drawnTwice s).trans (touches_setSlot ..)).andThen (touches_bump _ 0x2A00 6)

theorem State.slot_placeKey (s : State) (r : ImportRecord) (key : Octets) (k : Nat) :
    (s.placeKey r key).slot k = if k = r.target then s.importedSlot r key else s.slot k := by
  rw [State.placeKey_eq, State.slot_congr (State.bump_keys ..), State.slot_setSlot]
  rfl

theorem State.obj_placeKey (s : State) (r : ImportRecord) (key : Octets) : (s.placeKey r key).obj 0x2A00 6 = (s.obj 0x2A00 6 + 1) % 2 ^ 32 := by
  rw [State.placeKey_eq, obj_bump, if_pos rfl, State.obj_setSlot]
  rfl

/-- An unsigned record passes the checks of Table 12.4. -/
structure ImportChecked (s : State) (r : ImportRecord) : Prop where
  form : r.formOk = true
  target : r.target ≠ 0 ∧ (s.slotState r.target = 0 ∨ s.slotState r.target = 4)
  parent : s.slotState r.parent = 1 ∧ bit (s.slot r.parent).mask unitWrap = true ∧ (s.slot r.parent).depth ≤ 6
  policy : bit r.flags 1 = false ∧ s.obj 0x2A00 5 = 0
  unitOk : s.wrapUnitOk = true

/-- The parent's key is fetched to unwrap the record's. -/
def State.parentFetched (s : State) (n : Nat) : State := s.setSlot n { s.slot n with uses := Nat.min ((s.slot n).uses + 1) 0xFFFFFFFF }

theorem ImportChecked.parent_ne_target {r : ImportRecord} (h : ImportChecked s r) : r.parent ≠ r.target := fun he => by
  have hparent := h.parent.1
  have htarget := h.target.2
  rw [he] at hparent
  omega

theorem ImportChecked.plain (h : ImportChecked s (parseImport d)) (hf : bit (parseImport d).flags 0 = true) :
    keyImportOp d s = (s.placeKey (parseImport d) ((parseImport d).body.take 32), none) := by
  simp [keyImportOp, h.form, h.target, h.parent, h.policy, h.unitOk, hf]

theorem ImportChecked.fetched {r : ImportRecord} (h : ImportChecked s r) :
    s.fetchKey r.parent unitWrap = (s.parentFetched r.parent, some (s.slot r.parent).key) :=
  State.fetchKey_allowed (State.fetchStatus_valid h.parent.1 h.parent.2.1)

theorem ImportChecked.wrapped (h : ImportChecked s (parseImport d)) (hf : bit (parseImport d).flags 0 = false)
    (hk : Config.aesKwUnwrap (s.slot (parseImport d).parent).key (parseImport d).body = some key) :
    keyImportOp d s = ((s.parentFetched (parseImport d).parent).placeKey (parseImport d) key, none) := by
  simp [keyImportOp, h.form, h.target, h.parent, h.policy, h.unitOk, hf, h.fetched, hk]

theorem ImportChecked.wrapped_bad (h : ImportChecked s (parseImport d)) (hf : bit (parseImport d).flags 0 = false)
    (hk : Config.aesKwUnwrap (s.slot (parseImport d).parent).key (parseImport d).body = none) :
    keyImportOp d s = (s.parentFetched (parseImport d).parent).importRefused 0x0A1E0093 := by
  simp [keyImportOp, h.form, h.target, h.parent, h.policy, h.unitOk, hf, h.fetched, hk]

theorem keyImportOp_malformed (h : (parseImport d).formOk = false) : keyImportOp d s = s.importRefused 0x0A1E0090 := if_pos (by simp [h])

/-! ### The root and the policy -/

/-- The slot of the root (R324). -/
def State.rootSlot (s : State) (d : Octets) : Slot :=
  { state := 1, mask := 8, generation := nextGeneration (s.slot 0).generation, key := d, maskA := Config.drbg s.keys.drawn,
    maskB := Config.drbg (s.keys.drawn + 1), maskedA := s.now, maskedB := s.now }

/-- A persistent value is due to be copied to the darkroom (R84). -/
def State.copyDue (s : State) (k : Nat) : State := { s with mgmt := { s.mgmt with copies := s.mgmt.copies.filter (· ≠ k) ++ [k] } }

theorem touches_copyDue (s : State) (k : Nat) : Touches [.mgmt] [] s (s.copyDue k) := touches_mgmt s _

theorem rootLoadOp_accepted (h : s.slotState 0 = 0) (hd : d.length = 32) :
    rootLoadOp d s = .ok ((s.drawnTwice.setSlot 0 (s.rootSlot d)).copyDue (okey 0 0 0x2A04 0)) := if_neg (by simp [h, hd])

/-- A release that verifies ends the signing policy and is a fetch of the key that verifies it. -/
theorem policyReleaseOp_accepted (hd : d.length = 128 ∧ d.take 64 = releaseMessage)
    (hfind : s.verifiers.find? (fun n => Config.ed25519Verify (s.slot n).key (d.take 64) (d.drop 64)) = some v) : policyReleaseOp d s =
      .ok ((s.setSlot v { s.slot v with uses := Nat.min ((s.slot v).uses + 1) 0xFFFFFFFF }).takeEffect (okey 0 0 0x2A00 5) 0) := by
  have hvalid : s.slotState v = 1 ∧ bit (s.slot v).mask unitVerifier = true := by
    have hmem := List.mem_of_find?_eq_some hfind
    simpa using (List.mem_filter.1 hmem).2
  rw [policyReleaseOp, if_pos hd, hfind]
  dsimp only
  rw [State.fetchKey_allowed (State.fetchStatus_valid hvalid.1 hvalid.2)]

theorem policyReleaseOp_refused (h : (if d.length = 128 ∧ d.take 64 = releaseMessage then
    s.verifiers.find? (fun n => Config.ed25519Verify (s.slot n).key (d.take 64) (d.drop 64)) else none) = none) :
    policyReleaseOp d s = .error 0x0A1E0094 := by
  unfold policyReleaseOp
  by_cases hd : d.length = 128 ∧ d.take 64 = releaseMessage
  · rw [if_pos hd] at h ⊢
    rw [h]
  · exact if_neg hd

/-! ### Invalidation -/

theorem touches_checkCurrent (s : State) : Touches [.keys, .mgmt, .objs] [lostKey] s s.checkCurrent := by
  unfold State.checkCurrent
  split
  · exact .refl s
  · dsimp only
    split
    · exact (touches_keys s _).mono (by decide) (by simp)
    · split
      · exact .refl s
      · exact (touches_keys s _).andThen (touches_emcy ..)

theorem State.slot_checkCurrent (s : State) (k : Nat) : s.checkCurrent.slot k = s.slot k := by
  have hemcy (u : State) (c p e : Nat) : (u.emcy c p e).slot k = u.slot k := State.slot_congr (State.emcy_keys ..) k
  unfold State.checkCurrent
  split
  · rfl
  · dsimp only
    split
    · rfl
    · split
      · rfl
      · exact hemcy ..

theorem touches_orphan (s : State) (n : Nat) : Touches [.keys] [] s (s.orphan n) := touches_foldl (fun _ _ => touches_setSlot ..) _ _

theorem State.slot_orphan (s : State) (n k : Nat) : (s.orphan n).slot k =
    if s.descends n 8 k = true ∧ (s.slot k).state ≠ 0 ∧ (s.slot k).state ≠ 4 then { s.slot k with state := 3 } else s.slot k := by
  have hslot := State.slot_foldl (g := fun x => { x with state := 3 }) (fun _ => rfl)
    (s.keys.slots.keys.filter fun k => s.descends n 8 k && decide ((s.slot k).state ≠ 0 ∧ (s.slot k).state ≠ 4)) s k
  refine hslot.trans (if_congr ?_ rfl rfl)
  rw [List.mem_filter, Bool.and_eq_true, decide_eq_true_eq]
  exact ⟨fun h => h.2, fun h => ⟨State.slot_listed h.2.1, h⟩⟩

theorem invalidateOp_accepted (h0 : 0 < n) (hn : n < 4096) (h : s.slotState n = 1 ∨ s.slotState n = 2) :
    invalidateOp n s = .ok (s.orphan n).checkCurrent := by
  unfold invalidateOp
  dsimp only
  rw [Nat.mod_eq_of_lt hn, if_neg (by omega), if_neg (by omega), if_neg (by omega), if_neg (by omega)]

theorem invalidateOp_refused (hn : n < 4096) (h : n = 0 ∨ s.slotState n = 0 ∨ s.slotState n = 3 ∨ s.slotState n = 4) :
    invalidateOp n s = .error 0x0A1E0095 := by
  unfold invalidateOp
  dsimp only
  rw [Nat.mod_eq_of_lt hn, if_neg (by omega)]
  by_cases h0 : n = 0
  · exact if_pos h0
  · rw [if_neg h0, if_neg (by omega), if_pos (by omega)]

theorem State.slot_eraseOrphans (s : State) (k : Nat) : s.eraseOrphans.slot k =
    if (s.slot k).state = 3 then { s.slot k with state := 4, key := [], maskA := [], maskB := [] } else s.slot k := by
  have hslot := State.slot_foldl (g := fun x => { x with state := 4, key := [], maskA := [], maskB := [] }) (fun _ => rfl)
    (s.keys.slots.keys.filter fun k => decide ((s.slot k).state = 3)) s k
  refine hslot.trans (if_congr ?_ rfl rfl)
  rw [List.mem_filter, decide_eq_true_eq]
  exact ⟨fun h => h.2, fun h => ⟨State.slot_listed (by omega), h⟩⟩

end Sys2Proof.Machine

namespace Sys2Proof.Proofs
open Sys2Proof Sys2Proof.Machine

/-- Settles O44: each command's checks lead to the one slot, policy or tree that it changes. -/
theorem keysAreImportedInvalidatedAndErased : Obligations.KeysAreImportedInvalidatedAndErased := by
  intro s tr d n hs
  have hl := listens_at hs
  have hgate (i j : Nat) (hi : i / 256 = 0x2A) : s.gate i j = none := gate_at hs _ _ (by omega) (by omega) (by omega)
  refine ⟨fun hform => ?_, fun hform h0 htarget hparent hwrap hdepth hsigned hpolicy hunit => ?_, fun hroot hd => ?_, fun hroot => ?_, ?_,
    fun h0 hn h => ?_, fun hn h => ?_, ?_⟩
  · exact exec_next_of rfl (State.commandA_refused hl (hgate _ 0 rfl) (keyImportOp_malformed hform))
  · have hc : ImportChecked s (parseImport d) := ⟨hform, ⟨h0, htarget⟩, ⟨hparent, hwrap, hdepth⟩, ⟨hsigned, hpolicy⟩, hunit⟩
    refine ⟨fun hplain => ?_, fun hplain => ?_⟩
    · have ht := (touches_placeKey s (parseImport d) ((parseImport d).body.take 32)).andThen (touches_respond _ tr (.downloaded 0x2A02 0))
      refine turns_of (exec_next_of rfl (State.commandA_accepted hl (hgate _ 0 rfl) (hc.plain hplain))) ⟨?_, ?_, fun k hk => ?_⟩
        (objects_weaken ht.objects (by decide)) (keeps_weaken ht.frame (by decide))
      · rw [obj_respond _ _ _ _ _ (by decide) (by decide), State.obj_placeKey]
      · rw [State.slot_respond, State.slot_placeKey, if_pos rfl]
        rfl
      · rw [State.slot_respond, State.slot_placeKey, if_neg hk]
    · cases hkey : Config.aesKwUnwrap (s.slot (parseImport d).parent).key (parseImport d).body with
      | none =>
        have ht (v : State) := ((touches_bump v 0x2A00 7).andThen (touches_abort _ tr 0x2A02 0 0x0A1E0093)).frame
        have hslot (v : State) (k : Nat) := State.slot_congr (ht v .keys (by decide)) k
        refine completes_intro (exec_next_of rfl (State.commandA_refused hl (hgate _ 0 rfl) (hc.wrapped_bad hplain hkey)))
          ⟨ht _ .clock (by decide), ?_, ?_⟩
        · rw [hslot, State.parentFetched, State.slot_setSlot_self]
        · rw [hslot, State.parentFetched, State.slot_setSlot, if_neg hc.parent_ne_target.symm]
      | some key =>
        have hslot (k : Nat) := State.slot_placeKey (s.parentFetched (parseImport d).parent) (parseImport d) key k
        refine completes_intro (exec_next_of rfl (State.commandA_accepted hl (hgate _ 0 rfl) (hc.wrapped hplain hkey))) ⟨?_, ?_, ?_, ?_⟩
        · exact (State.respond_clock ..).trans ((touches_placeKey ..).frame .clock (by decide))
        · rw [State.slot_respond, hslot, if_neg hc.parent_ne_target, State.parentFetched, State.slot_setSlot_self]
        · rw [State.slot_respond, hslot, if_pos rfl]
          rfl
        · rw [State.slot_respond, hslot, if_pos rfl]
          rfl
  · have ht := ((touches_drawnTwice s).trans (touches_setSlot _ 0 (s.rootSlot d))).andThen (touches_copyDue _ (okey 0 0 0x2A04 0))
    refine confirms_touches rfl hs (hgate _ 0 rfl) (rootLoadOp_accepted hroot hd) (ht.mono (by decide) (by simp)) fun r => ⟨?_, ?_⟩
    · rw [State.slot_respond]
      exact State.slot_setSlot_self ..
    · rw [State.respond_mgmt_copies]
      exact List.mem_append_right _ (List.mem_singleton_self _)
  · exact refuses_of rfl hs (hgate _ 0 rfl) (if_pos hroot)
  · split
    next v hv =>
      obtain ⟨hd, hfind⟩ := Option.ite_none_right_eq_some.1 hv
      have ht := (touches_setSlot s v { s.slot v with uses := Nat.min ((s.slot v).uses + 1) 0xFFFFFFFF }).andThen
        (touches_takeEffect _ (okey 0 0 0x2A00 5) 0)
      refine confirms_touches rfl hs (hgate _ 0 rfl) (policyReleaseOp_accepted hd hfind) (ht.mono (by decide) (by decide)) fun r => ⟨?_, fun k => ?_⟩
      · rw [obj_respond _ _ _ _ _ (by decide) (by decide)]
        exact obj_takeEffect_self _ 0x2A00 5 0
      · rw [State.slot_respond, State.slot_congr (State.takeEffect_keys ..), State.slot_setSlot]
    next hv => exact refuses_of rfl hs (hgate _ 0 rfl) (policyReleaseOp_refused hv)
  · refine completes_intro (exec_confirmed rfl hl (hgate _ 0 rfl) (invalidateOp_accepted h0 hn h)) ⟨?_, fun k => ?_⟩
    · exact (State.respond_clock ..).trans (((touches_orphan s n).andThen (touches_checkCurrent _)).frame .clock (by decide))
    · rw [State.slot_respond, State.slot_checkCurrent, State.slot_orphan]
  · exact refuses_of rfl hs (hgate _ 0 rfl) (invalidateOp_refused hn h)
  · have ht : Touches [.keys] [] s s.eraseOrphans := touches_foldl (fun _ _ => touches_setSlot ..) _ _
    exact turns_of (exec_serving hs rfl rfl) (State.slot_eraseOrphans s) ht.objects ht.frame

end Sys2Proof.Proofs
end

section
/-! PROOF. The generation and association tables, tamper events and the root's mask (R330, R331, R334, R336, R447). -/

namespace Sys2Proof.Machine

variable {s t u : State} {d : Octets} {k v c : Nat} {tr : Transport} {a : Association}

/-! ### The generation table -/

theorem okey_generation_ne {i j b : Nat} (h : i ≠ 0x2A10) (hb : b < 256) (hj : j < 256) : okey 0 0 0x2A10 j ≠ okey 0 0 i b := by
  unfold okey
  omega

theorem State.generationEntry_setObj (s : State) (k i : Nat) (v : Int) :
    (s.setObj 0x2A10 k v).generationEntry i = if i = k then v.toNat else s.generationEntry i :=
  (obj_setObj ..).trans (if_congr (okey_sub ..) rfl rfl)

/-- Each entry of a list is changed by its own value. -/
theorem State.generationEntry_foldl {f : State → Nat → State} {g : Nat → Nat} (hg : ∀ w, g (g w) = g w)
    (hf : ∀ s i k, (f s i).generationEntry k = if k = i + 1 then g (s.generationEntry k) else s.generationEntry k) (l : List Nat) (s : State) (k : Nat) :
    (l.foldl f s).generationEntry (k + 1) = if k ∈ l then g (s.generationEntry (k + 1)) else s.generationEntry (k + 1) := by
  induction l generalizing s with
  | nil => rfl
  | cons i l ih =>
    rw [List.foldl_cons, ih, hf]
    by_cases hk : k = i
    · subst hk
      simp [hg]
    · simp [hk]

/-- A current entry gives up its mark (R334). -/
def unmarked (w : Nat) : Nat := if entryCurrent w then putBit w 30 false else w

theorem unmarked_unmarked (w : Nat) : unmarked (unmarked w) = unmarked w := by
  by_cases h : entryCurrent w = true
  · have hbit : entryCurrent (putBit w 30 false) = false := by rw [entryCurrent, bit_putBit, Bool.and_false]
    rw [unmarked.eq_1 w, if_pos h, unmarked, hbit, if_neg Bool.false_ne_true]
  · rw [unmarked.eq_1 w, if_neg h, unmarked, if_neg h]

/-- One entry of the others, unmarked. -/
def State.unmark (s : State) (i : Nat) : State :=
  if entryCurrent (s.generationEntry (i + 1)) then s.setObj 0x2A10 (i + 1) (putBit (s.generationEntry (i + 1)) 30 false : Nat) else s

theorem State.generationEntry_unmark (s : State) (i k : Nat) :
    (s.unmark i).generationEntry k = if k = i + 1 then unmarked (s.generationEntry k) else s.generationEntry k := by
  unfold State.unmark unmarked
  by_cases hk : k = i + 1
  · subst hk
    rw [if_pos rfl]
    split
    · rw [State.generationEntry_setObj, if_pos rfl, Int.toNat_natCast]
    · rfl
  · rw [if_neg hk]
    split
    · rw [State.generationEntry_setObj, if_neg hk]
    · rfl

/-- The entries of the table. -/
def entryKeys : List Nat := (List.range 17).map (okey 0 0 0x2A10)

theorem mem_entryKeys {j : Nat} (h : j ≤ 16) : okey 0 0 0x2A10 j ∈ entryKeys := List.mem_map_of_mem (List.mem_range.2 (by omega))

theorem not_mem_entryKeys {i b : Nat} (h : i ≠ 0x2A10) (hb : b < 256) : okey 0 0 i b ∉ entryKeys := fun hm => by
  obtain ⟨j, hj, he⟩ := List.mem_map.1 hm
  exact okey_generation_ne h hb (by have := List.mem_range.1 hj; omega) he

theorem touches_entry (s : State) {j : Nat} (h : j ≤ 16) (w : Int) : Touches [.objs] entryKeys s (s.setObj 0x2A10 j w) :=
  (touches_setObj s 0x2A10 j w).mono (List.Subset.refl _) (List.cons_subset.2 ⟨mem_entryKeys h, List.nil_subset _⟩)

theorem touches_unmark (s : State) {i : Nat} (h : i < 16) : Touches [.objs] entryKeys s (s.unmark i) := by
  unfold State.unmark
  split
  · exact touches_entry s h _
  · exact .refl s

/-- The others of entry `k`. -/
def otherEntries (k : Nat) : List Nat := (List.range 16).filter fun i => decide (i + 1 ≠ k)

theorem mem_otherEntries {i : Nat} : i ∈ otherEntries k ↔ i < 16 ∧ i + 1 ≠ k := by simp [otherEntries]

/-- Entry `k` is written, and takes the mark from the others if it is current (R334). -/
def State.entryWritten (s : State) (k v : Nat) : State :=
  (if entryCurrent v then (otherEntries k).foldl State.unmark s else s).setObj 0x2A10 k v

theorem touches_entryWritten (s : State) (hk : k ≤ 16) (v : Nat) : Touches [.objs] entryKeys s (s.entryWritten k v) := by
  unfold State.entryWritten
  refine Touches.trans ?_ (touches_entry _ hk _)
  split
  · exact touches_foldl_mem (fun u i hi => touches_unmark u (mem_otherEntries.1 hi).1) s
  · exact .refl s

theorem State.generationEntry_entryWritten (s : State) (k v i : Nat) (hi : i < 16) : (s.entryWritten k v).generationEntry (i + 1) =
    if i + 1 = k then v else if entryCurrent v then unmarked (s.generationEntry (i + 1)) else s.generationEntry (i + 1) := by
  unfold State.entryWritten
  rw [State.generationEntry_setObj, Int.toNat_natCast]
  split
  · rfl
  · next hk =>
    split
    · rw [State.generationEntry_foldl unmarked_unmarked State.generationEntry_unmark, if_pos (mem_otherEntries.2 ⟨hi, hk⟩)]
    · rfl

theorem State.ntpEnabled_congr (hserve : t.serve = s.serve) (hobj : ∀ j < 8, t.obj (0x2920 + j) 1 = s.obj (0x2920 + j) 1) :
    t.ntpEnabled = s.ntpEnabled := by
  unfold State.ntpEnabled
  rw [hserve]
  rw [Bool.eq_iff_iff, List.any_eq_true, List.any_eq_true]
  refine exists_congr fun j => and_congr_right fun hj => ?_
  rw [hobj j (List.mem_range.1 hj)]

theorem cookieGenerationOp_eq (hk : 1 ≤ k ∧ k ≤ 16) (hv : v < 2 ^ 32) (hf : field v 29 28 = 0) : cookieGenerationOp k v s =
    if entryValid v && (decide (s.slotState (entrySlot v) ≠ 1) || !bit (s.slot (entrySlot v)).mask unitAes
        || decide ((s.slot (entrySlot v)).generation ≠ v % 65536)) then .error 0x0A1E0097
    else if entryValid v && ((otherEntries k).any fun i => entryValid (s.generationEntry (i + 1)) &&
        decide (entrySlot (s.generationEntry (i + 1)) = entrySlot v)) then .error 0x0A1E0098
    else if (s.entryWritten k v).ntpEnabled && (s.entryWritten k v).currentEntry.isNone then .error 0x0A1E0098
    else .ok (s.entryWritten k v).checkCurrent :=
  (if_neg (by omega)).trans (if_neg (by omega))

/-! ### Associations -/

theorem associationOp_written (hd : d.length = 10) (hv : beNat (slice d 0 1) = 128 * bitNat a.valid) (hspp : beNat (slice d 1 1) = a.spp)
    (hid : beNat (slice d 2 4) = a.keyId) (hslot : beNat (slice d 6 2) = a.slot) (hgen : beNat (slice d 8 2) = a.generation) (hlt : a.slot < 4096)
    (hkey : a.valid = true → s.slotState a.slot = 1 ∧ bit (s.slot a.slot).mask unitHmac = true ∧ (s.slot a.slot).generation = a.generation)
    (hfree : a.valid = true → ∀ i, i < 64 → i ≠ s.obj 0x2A20 1 → (s.association i).valid = true → (s.association i).spp = a.spp →
      (s.association i).keyId ≠ a.keyId) :
    associationOp d s = .ok { s with keys := { s.keys with associations := s.keys.associations.put (fun _ => {}) (s.obj 0x2A20 1) a } } := by
  obtain ⟨valid, spp, keyId, slot, generation⟩ := a
  dsimp only at hv hspp hid hslot hgen hlt hkey hfree ⊢
  subst hspp hid hslot hgen
  have hvalid : bit (beNat (slice d 0 1)) 7 = valid := by
    rw [hv]
    cases valid <;> decide
  unfold associationOp
  dsimp only
  rw [hvalid]
  refine (if_neg (by omega)).trans ((if_neg (by rw [hv]; omega)).trans ((if_neg fun h => ?_).trans (if_neg fun h => ?_)))
  · simp only [Bool.and_eq_true, Bool.or_eq_true, decide_eq_true_eq, Bool.not_eq_true'] at h
    obtain ⟨hstate, hmask, hgen⟩ := hkey h.1
    simp [hstate, hmask, hgen] at h
  · simp only [Bool.and_eq_true, List.any_eq_true, List.mem_range, decide_eq_true_eq] at h
    obtain ⟨hv, i, hi, ⟨hne, hvi⟩, hspp, hid⟩ := h
    exact hfree hv i hi hne hvi hspp hid

/-! ### Zeroisation -/

/-- Every key is erased and its slot keeps its generation. -/
def erasedSlots (l : Table Slot) : Table Slot := l.foldl (fun t (e : Nat × Slot) => t.put (fun _ => {}) e.1 { generation := e.2.generation }) []

theorem look_erasedSlots (l : Table Slot) (n : Nat) : ∃ g, Table.look (fun _ => {}) n (erasedSlots l) = ({ generation := g } : Slot) := by
  suffices h : ∀ t : Table Slot, (∃ g, Table.look (fun _ => {}) n t = ({ generation := g } : Slot)) →
      ∃ g, Table.look (fun _ => {}) n (l.foldl (fun t (e : Nat × Slot) => t.put (fun _ => {}) e.1 { generation := e.2.generation }) t) =
        ({ generation := g } : Slot) from h [] ⟨0, rfl⟩
  induction l with
  | nil => exact fun t ht => ht
  | cons e l ih =>
    refine fun t ht => ih _ ?_
    rw [Table.look_put]
    split
    · exact ⟨_, rfl⟩
    · exact ht

/-- The root and every key and association are erased (R331). -/
def State.erased (s : State) : State :=
  { s with keys := { s.keys with slots := erasedSlots s.keys.slots, associations := [], erasedIn := if s.serving then some s.slowPeriod else s.keys.erasedIn },
           darkroom := { s.darkroom with root := none, rootMask := [] } }

/-- The generation table is empty. -/
def State.emptied (s : State) : State := (List.range 16).foldl (fun (s : State) k => s.setObj 0x2A10 (k + 1) 0) s

/-- The event is counted and stamped. -/
def State.tamperNoted (s : State) : State :=
  (s.takeEffect (okey 0 0 0x2A30 3) ((s.obj 0x2A30 3 + 1) % 2 ^ 32 : Nat)).takeEffect (okey 0 0 0x2A30 4) (toTime112 s.tai)

theorem State.zeroise_eq (s : State) (c : Nat) : s.zeroise c = if s.serving = true ∧ s.keys.erasedIn = some s.slowPeriod then s.erased
    else s.erased.emptied.tamperNoted.report 0xFF 0x06 0xFFFF 0xFF80 0xFF (c * 2 ^ 24) := rfl

theorem touches_erased (s : State) : Touches [.keys, .darkroom] [] s s.erased := (touches_keys s s.erased.keys).andThen (touches_darkroom _ s.erased.darkroom)

theorem touches_emptied (s : State) : Touches [.objs] entryKeys s s.emptied :=
  touches_foldl_mem (fun u _ hk => touches_entry u (List.mem_range.1 hk) 0) s

theorem State.generationEntry_emptied (s : State) {i : Nat} (hi : i < 16) : s.emptied.generationEntry (i + 1) = 0 := by
  have hfold := State.generationEntry_foldl (f := fun s k => s.setObj 0x2A10 (k + 1) 0) (g := fun _ => 0) (fun _ => rfl)
    (fun s i k => State.generationEntry_setObj s (i + 1) k 0) (List.range 16) s i
  exact hfold.trans (if_pos (List.mem_range.2 hi))

theorem touches_tamperNoted (s : State) : Touches [.mgmt, .objs] [okey 0 0 0x2A30 3, okey 0 0 0x2A30 4] s s.tamperNoted :=
  ((touches_takeEffect s (okey 0 0 0x2A30 3) _).andThen (touches_takeEffect _ (okey 0 0 0x2A30 4) _)).mono (by decide) (List.Subset.refl _)

theorem State.obj_tamperNoted (s : State) : s.tamperNoted.obj 0x2A30 3 = (s.obj 0x2A30 3 + 1) % 2 ^ 32 :=
  ((touches_takeEffect _ (okey 0 0 0x2A30 4) _).obj (by decide)).trans (obj_takeEffect_self ..)

/-- What erasure leaves of the slots, the associations and the root. -/
theorem State.zeroise_erases (s : State) (c : Nat) : (s.zeroise c).clock = s.clock ∧ (s.zeroise c).keys = s.erased.keys ∧
    (s.zeroise c).darkroom = s.erased.darkroom := by
  have ht (v : State) := (((touches_emptied v).andThen (touches_tamperNoted _)).andThen (touches_report _ 0xFF 0x06 0xFFFF 0xFF80 0xFF (c * 2 ^ 24))).frame
  rw [State.zeroise_eq]
  split
  · exact ⟨rfl, rfl, rfl⟩
  · exact ⟨ht _ .clock (by decide), ht _ .keys (by decide), ht _ .darkroom (by decide)⟩

/-- A new event is counted and empties the generation table (R331, R447). -/
theorem State.zeroise_counts (h : ¬(s.serving = true ∧ s.keys.erasedIn = some s.slowPeriod)) (c : Nat) :
    (s.zeroise c).obj 0x2A30 3 = (s.obj 0x2A30 3 + 1) % 2 ^ 32 ∧ ∀ i, 1 ≤ i → i ≤ 16 → (s.zeroise c).generationEntry i = 0 := by
  have hreport (v : State) := touches_report v 0xFF 0x06 0xFFFF 0xFF80 0xFF (c * 2 ^ 24)
  rw [State.zeroise_eq, if_neg h]
  refine ⟨?_, fun i h1 h16 => ?_⟩
  · rw [(hreport _).obj (by decide), State.obj_tamperNoted, (touches_emptied _).obj (not_mem_entryKeys (by decide) (by decide)),
      (touches_erased s).obj (List.not_mem_nil)]
  · obtain ⟨i, rfl⟩ : ∃ j, i = j + 1 := ⟨i - 1, by omega⟩
    have hne (i j : Nat) (hi : i ≠ 0x2A10) (hj : j < 256) (k : Nat) (hk : k < 16) : okey 0 0 0x2A10 (k + 1) ≠ okey 0 0 i j :=
      okey_generation_ne hi hj (by omega)
    refine ((hreport _).obj ?_).trans (((touches_tamperNoted _).obj ?_).trans (State.generationEntry_emptied _ (by omega)))
    · exact fun hm => hne 0x2004 5 (by decide) (by decide) i (by omega) (List.mem_singleton.1 hm)
    · simp only [List.mem_cons, List.not_mem_nil, or_false, not_or]
      exact ⟨hne _ _ (by decide) (by decide) i (by omega), hne _ _ (by decide) (by decide) i (by omega)⟩

/-- The trigger of a tamper input is noted. -/
def State.triggered (s : State) (c : Nat) : State := { s with keys := { s.keys with tamper := putBit s.keys.tamper (c - 1) true } }

theorem touches_triggered (s : State) (c : Nat) : Touches [.keys] [] s (s.triggered c) := touches_keys s _

theorem State.triggered_sameEvent (s : State) (c : Nat) : ((s.triggered c).serving = true ∧ (s.triggered c).keys.erasedIn = some (s.triggered c).slowPeriod) ↔
    (s.serving = true ∧ s.keys.erasedIn = some s.slowPeriod) := Iff.rfl

theorem exec_zeroisation_input (h : c = 1 ∨ c = 2) : exec (.zeroisation c) s =
    .next (if bit (s.obj 0x2A30 1) (c - 1) then (s.triggered c).zeroise c else s.triggered c) := congrArg Host.Outcome.next (if_pos h)

/-- A loss of VBAT leaves the store invalid and empty (R440). -/
def State.vbatLost (s : State) : State := { s with darkroom := { valid := 0, vbat := false } }

theorem touches_vbatLost (s : State) : Touches [.darkroom] [] s s.vbatLost := touches_darkroom s _

theorem exec_zeroisation_vbat (s : State) : exec (.zeroisation 3) s = .next (s.zeroise 3).vbatLost :=
  congrArg Host.Outcome.next ((if_neg (by decide)).trans (if_pos rfl))

/-- A mask drawn for the root (R330). -/
def State.rootRemasked (s : State) : State :=
  { s with keys := { s.keys with drawn := s.keys.drawn + 1 },
           darkroom := { s.darkroom with rootMask := xorOctets s.darkroom.rootMask (Config.drbg s.keys.drawn) } }

theorem touches_rootRemasked (s : State) : Touches [.darkroom, .keys] [] s s.rootRemasked :=
  ((touches_keys s s.rootRemasked.keys).andThen (touches_darkroom _ s.rootRemasked.darkroom)).mono (by decide) (List.Subset.refl _)

theorem exec_rootRemask (h : s.darkroom.root ≠ none) : exec .rootRemask s = .next s.rootRemasked := by
  obtain ⟨root, hroot⟩ := Option.ne_none_iff_exists'.1 h
  refine congrArg Host.Outcome.next ?_
  rw [hroot]
  rfl

end Sys2Proof.Machine

namespace Sys2Proof.Proofs
open Sys2Proof Sys2Proof.Machine

/-- Settles O45: the checks of each table, the erasure in its parts, and the masks drawn for the root. -/
theorem tablesAreCheckedAndTamperErasesKeys : Obligations.TablesAreCheckedAndTamperErasesKeys := by
  intro s tr d k v c a
  have hgate (hs : InService s) (i j : Nat) (hi : i / 256 = 0x2A) : s.gate i j = none := gate_at hs _ _ (by omega) (by omega) (by omega)
  refine ⟨fun hs h1 h16 hlt hfield => ⟨fun hvalid hstate => ?_, fun hvalid hstate hmask hgen hfree hntp => ?_⟩, fun hs hd => ?_,
    fun hs hd hv hspp hid hslot hgen hlt hkey hfree => ?_, fun hc hbit => ?_, fun hc hbit => ?_, ?_, fun hroot => ?_⟩
  · refine refuses_of rfl hs (hgate hs _ k rfl) ((cookieGenerationOp_eq ⟨h1, h16⟩ hlt hfield).trans (if_pos ?_))
    simp [hvalid, hstate]
  · have ht := touches_entryWritten s h16 v
    have hntp' : (s.entryWritten k v).ntpEnabled = false := by
      rw [State.ntpEnabled_congr (ht.frame .serve (by decide)) fun j hj => ht.obj (not_mem_entryKeys (by omega) (by omega)), hntp]
    have hop : cookieGenerationOp k v s = .ok (s.entryWritten k v).checkCurrent := by
      refine (cookieGenerationOp_eq ⟨h1, h16⟩ hlt hfield).trans ((if_neg ?_).trans ((if_neg fun h => ?_).trans (if_neg ?_)))
      · simp [hstate, hmask, hgen]
      · rw [Bool.and_eq_true, List.any_eq_true] at h
        obtain ⟨-, i, hi, he⟩ := h
        rw [Bool.and_eq_true, decide_eq_true_eq] at he
        obtain ⟨hi, hne⟩ := mem_otherEntries.1 hi
        exact hfree (i + 1) (by omega) (by omega) hne he.1 he.2
      · simp [hntp']
    have hentry (r : UsdoResponse) (i : Nat) (hi : i < 16) : ((s.entryWritten k v).checkCurrent.respond tr r).generationEntry (i + 1) =
        (s.entryWritten k v).generationEntry (i + 1) := by
      have hne (j : Nat) (hj : j < 256) := okey_generation_ne (i := 0x2004) (j := i + 1) (by decide) hj (by omega)
      refine (obj_respond _ _ _ _ _ (hne 1 (by decide)) (hne 5 (by decide))).trans ((touches_checkCurrent _).obj fun hm => ?_)
      exact hne 5 (by decide) (List.mem_singleton.1 hm)
    refine completes_intro (exec_confirmed rfl (listens_at hs) (hgate hs _ k rfl) hop) ⟨?_, ?_, fun i hi1 hi16 hne => ?_⟩
    · exact (State.respond_clock ..).trans ((ht.andThen (touches_checkCurrent _)).frame .clock (by decide))
    · obtain ⟨k, rfl⟩ : ∃ j, k = j + 1 := ⟨k - 1, by omega⟩
      rw [hentry _ _ (by omega), State.generationEntry_entryWritten _ _ _ _ (by omega), if_pos rfl]
    · obtain ⟨i, rfl⟩ : ∃ j, i = j + 1 := ⟨i - 1, by omega⟩
      rw [hentry _ _ (by omega), State.generationEntry_entryWritten _ _ _ _ (by omega), if_neg hne, unmarked]
      by_cases hcur : entryCurrent v = true <;> simp [hcur]
  · exact refuses_of rfl hs (hgate hs _ 2 rfl) (if_pos hd)
  · refine confirms_part rfl hs (hgate hs _ 2 rfl) (associationOp_written hd hv hspp hid hslot hgen hlt hkey hfree) (touches_keys ..) fun r => ?_
    rw [State.association, State.respond_keys]
    exact Table.look_put_self ..
  · have hexec : exec (.zeroisation c) s = .next ((s.triggered c).zeroise c) := by rw [exec_zeroisation_input hc, if_pos hbit]
    obtain ⟨hclock, hkeys, hroom⟩ := (s.triggered c).zeroise_erases c
    refine completes_intro hexec ⟨hclock, fun n => ?_, fun i => ?_, ?_, ?_, fun hsame => ?_, fun hnew => ?_⟩
    · rw [State.slot, hkeys]
      exact look_erasedSlots _ n
    · rw [State.association, hkeys]
      rfl
    · rw [hroom]
      rfl
    · rw [hroom]
      rfl
    · rw [State.zeroise_eq, if_pos ((s.triggered_sameEvent c).2 hsame)]
      exact objects_of_objs rfl
    · obtain ⟨hcount, hentries⟩ := State.zeroise_counts (mt (s.triggered_sameEvent c).1 hnew) c
      rw [(touches_triggered s c).obj List.not_mem_nil] at hcount
      exact ⟨hcount, hentries⟩
  · have hexec : exec (.zeroisation c) s = .next (s.triggered c) := by rw [exec_zeroisation_input hc, if_neg (by simp [hbit])]
    exact turns_of hexec rfl (touches_triggered s c).objects (touches_triggered s c).frame
  · obtain ⟨hclock, hkeys, -⟩ := s.zeroise_erases 3
    have ht := touches_vbatLost (s.zeroise 3)
    refine completes_intro (exec_zeroisation_vbat s) ⟨(ht.frame .clock (by decide)).trans hclock, rfl, fun n => ?_⟩
    rw [State.slot_congr (ht.frame .keys (by decide)), State.slot, hkeys]
    exact look_erasedSlots _ n
  · have ht := touches_rootRemasked s
    exact turns_of (exec_rootRemask hroot) ⟨rfl, rfl⟩ ht.objects ht.frame

end Sys2Proof.Proofs
end

section
/-! PROOF. Media channels: enables, the zero-crossing gate and loopback (R351, R408). -/

namespace Sys2Proof.Machine

variable {s t u : State} {k m c v : Nat} {b : Bool}

@[simp] theorem State.mchannel_respond (s : State) (tr : Transport) (r : UsdoResponse) (k : Nat) : (s.respond tr r).mchannel k = s.mchannel k :=
  State.mchannel_congr (State.respond_media ..) k

/-! ### The enable -/

theorem decide_bitNat (b : Bool) : decide (bitNat b = 1) = b := by cases b <;> rfl

theorem channelEnableOp_eq (b : Bool) (s : State) : channelEnableOp (bitNat b) s = .ok (match (s.mchannel s.selectedChannel).pend with
    | some p => if p = b then s else s.setMchannel s.selectedChannel { s.mchannel s.selectedChannel with pend := none }
    | none => if decide (s.objW s.selectedChannel 0x2B01 4 = 1) = b then s
      else s.setMchannel s.selectedChannel { s.mchannel s.selectedChannel with pend := some b }) := by
  cases b <;> rfl

theorem channelEnableOp_new (hp : (s.mchannel s.selectedChannel).pend = none) (h : s.objW s.selectedChannel 0x2B01 4 = bitNat (!b)) :
    channelEnableOp (bitNat b) s = .ok (s.setMchannel s.selectedChannel { s.mchannel s.selectedChannel with pend := some b }) := by
  rw [channelEnableOp_eq, hp, h]
  dsimp only
  rw [decide_bitNat, if_neg (by simp)]

theorem channelEnableOp_reversed (hp : (s.mchannel s.selectedChannel).pend = some (!b)) :
    channelEnableOp (bitNat b) s = .ok (s.setMchannel s.selectedChannel { s.mchannel s.selectedChannel with pend := none }) := by
  rw [channelEnableOp_eq, hp]
  dsimp only
  rw [if_neg (by simp)]

theorem channelEnableOp_repeated (hp : (s.mchannel s.selectedChannel).pend = some b) : channelEnableOp (bitNat b) s = .ok s := by
  rw [channelEnableOp_eq, hp]
  dsimp only
  rw [if_pos rfl]

/-! ### The gate -/

/-- A gate in transition switches: one that opens to live, one that closes to silent. -/
theorem State.switchGate_of (h : (s.mchannel k).state = 1 ∨ (s.mchannel k).state = 3) :
    s.switchGate k = s.setMchannel k { s.mchannel k with state := if (s.mchannel k).state = 1 then 2 else 0 } := by
  unfold State.switchGate
  obtain h | h := h <;> simp [h]

theorem State.switchGate_idle (h : ¬((s.mchannel k).state = 1 ∨ (s.mchannel k).state = 3)) : s.switchGate k = s := by
  rw [not_or] at h
  exact (if_neg h.1).trans (if_neg h.2)

/-- A gate whose timeout has run switches with a ramp of 64 samples. -/
theorem exec_gateTimeout (hs : InService s) (h : (s.mchannel (32 * m + c)).state = 1 ∨ (s.mchannel (32 * m + c)).state = 3)
    (hd : (s.mchannel (32 * m + c)).since + s.objW (32 * m + c) 0x2B01 7 * 1000000 ≤ s.now) : ∃ e, exec (.gateTimeout m c) s =
      .next (((s.switchGate (32 * m + c)).setMchannel (32 * m + c) { (s.switchGate (32 * m + c)).mchannel (32 * m + c) with ramp := 64 }).emcy 0xFF92 0xFF e) :=
  ⟨_, exec_serving hs rfl (if_pos ⟨h, hd⟩)⟩

end Sys2Proof.Machine

namespace Sys2Proof.Proofs
open Sys2Proof Sys2Proof.Machine

/-- Settles O47: an enable by what is pending and in force, a gate by its state and its time. -/
theorem channelsPassTheirGates : Obligations.ChannelsPassTheirGates := by
  intro s tr m c v b hs hm
  have hgate (i j : Nat) (hi : i = 0x2B01 ∨ i = 0x2E10) : s.gate i j = none := gate_at hs _ _ (by omega) (by omega) (by omega)
  have hset (x : MediaChannel) := touches_setMchannel s s.selectedChannel x
  refine ⟨fun hp hobj => ?_, fun hp => ?_, fun hp => ?_, fun hv => ?_, fun hstate => ⟨fun n hn => ⟨fun hc => ?_, fun hc => ?_⟩, ?_⟩,
    fun hstate => ⟨?_, ?_⟩, fun hv hrole => ?_, fun hrole => ?_⟩
  · refine confirms_part rfl hs (hgate _ 4 (.inl rfl)) (channelEnableOp_new hp hobj) (hset _) fun r => ⟨by simp, fun k hk => ?_⟩
    rw [State.mchannel_respond, State.mchannel_setMchannel, if_neg hk]
  · refine confirms_part rfl hs (hgate _ 4 (.inl rfl)) (channelEnableOp_reversed hp) (hset _) fun r => ⟨by simp, fun k hk => ?_⟩
    rw [State.mchannel_respond, State.mchannel_setMchannel, if_neg hk]
  · exact confirms_part rfl hs (hgate _ 4 (.inl rfl)) (channelEnableOp_repeated hp) (.refl s) fun r => State.respond_media ..
  · exact refuses_of rfl hs (hgate _ 4 (.inl rfl)) (if_pos hv)
  · subst hn
    have ht := touches_setMchannel s (32 * m + c) { s.mchannel (32 * m + c) with state := if (s.mchannel (32 * m + c)).state = 1 then 2 else 0 }
    refine turns_of (exec_serving hs rfl ((if_pos hc).trans (State.switchGate_of hstate))) ⟨State.mchannel_setMchannel_self .., fun k hk => ?_⟩
      ht.objects ht.frame
    rw [State.mchannel_setMchannel, if_neg hk]
  · subst hn
    exact exec_serving hs rfl (if_neg fun hcross => Bool.false_ne_true (hc.symm.trans hcross))
  · split
    next hd =>
      obtain ⟨e, hnext⟩ := exec_gateTimeout hs hstate hd
      rw [State.switchGate_of hstate, State.mchannel_setMchannel_self] at hnext
      have hset := (touches_setMchannel s (32 * m + c) { s.mchannel (32 * m + c) with state := if (s.mchannel (32 * m + c)).state = 1 then 2 else 0 }).trans
        (touches_setMchannel _ (32 * m + c) { s.mchannel (32 * m + c) with state := if (s.mchannel (32 * m + c)).state = 1 then 2 else 0, ramp := 64 })
      have ht := hset.andThen (touches_emcy _ 0xFF92 0xFF e)
      refine turns_of hnext ⟨?_, fun k hk => ?_⟩ ht.objects ht.frame
      · rw [State.mchannel_congr (State.emcy_media ..), State.mchannel_setMchannel_self]
      · rw [State.mchannel_congr (State.emcy_media ..), State.mchannel_setMchannel, if_neg hk, State.mchannel_setMchannel, if_neg hk]
    next hd => exact exec_serving hs rfl (if_neg fun h => hd h.2)
  · refine exec_serving hs rfl ?_
    dsimp only
    rw [State.switchGate_idle hstate, ite_self]
  · exact exec_serving hs rfl (if_neg fun h => hstate h.1)
  · have hop : mediaLoopbackOp m v s = .ok (s.later (okey 0 0 0x2E10 (m + 1)) v) := by
      refine (if_neg (by omega)).trans ((if_neg (by omega)).trans (if_neg fun h => ?_))
      obtain h0 | ⟨hslave, hon⟩ := hrole
      · omega
      · simp [hslave, hon] at h
    have ht : Touches [.mgmt] [] s (s.later (okey 0 0 0x2E10 (m + 1)) v) := touches_mgmt s _
    refine confirms_touches rfl hs (hgate _ _ (.inr rfl)) hop (ht.mono (by decide) (by simp)) fun r => ?_
    rw [State.respond_mgmt_pendWrites]
    exact List.mem_append_right _ (List.mem_singleton_self _)
  · refine refuses_of rfl hs (hgate _ _ (.inr rfl)) ((if_neg (by omega)).trans ((if_neg (by omega)).trans (if_pos ⟨rfl, ?_⟩)))
    obtain h | h := hrole <;> simp [h]

end Sys2Proof.Proofs
end

section
/-! PROOF. Media ports: frames sent and received, the external clock, slot sets and the grid (R345 to R350, R353, R354, R356, R357). -/

namespace Sys2Proof.Machine

variable {s t u : State} {m k n v : Nat} {f : List Int} {rest : List (List Int)} {x : MediaPort}

/-! ### What the frames of a port change -/

/-- From `s` to `t` frames of port `m` have been made: beside its FIFOs, the channels and its overruns nothing differs. -/
structure Framed (m : Nat) (s t : State) : Prop where
  touches : Touches [.media, .objs] [okey 0 0 (mediaIdx m) 0x10] s t
  others : ∀ k, k ≠ m → t.mport k = s.mport k
  refill : (t.mport m).refill = (s.mport m).refill
  restart : (t.mport m).restartAt = (s.mport m).restartAt
  framing : (t.mport m).framing = (s.mport m).framing
  loop : (t.mport m).loop = (s.mport m).loop

theorem Framed.refl (m : Nat) (s : State) : Framed m s s := ⟨.refl s, fun _ _ => rfl, rfl, rfl, rfl, rfl⟩

theorem Framed.trans (h : Framed m s t) (g : Framed m t u) : Framed m s u :=
  ⟨h.touches.trans g.touches, fun k hk => (g.others k hk).trans (h.others k hk), g.refill.trans h.refill, g.restart.trans h.restart,
    g.framing.trans h.framing, g.loop.trans h.loop⟩

theorem framed_foldl {α : Type} {f : State → α → State} (P : State → Prop) (hP : ∀ u a, P u → Framed m u (f u a) ∧ P (f u a)) (l : List α)
    (hs : P s) : Framed m s (l.foldl f s) := by
  induction l generalizing s with
  | nil => exact .refl m s
  | cons a l ih => exact (hP s a hs).1.trans (ih (hP s a hs).2)

theorem framed_setMport (hrefill : x.refill = (s.mport m).refill) (hrestart : x.restartAt = (s.mport m).restartAt)
    (hframing : x.framing = (s.mport m).framing) (hloop : x.loop = (s.mport m).loop) : Framed m s (s.setMport m x) := by
  refine ⟨(touches_setMport s m x).mono (by decide) (List.nil_subset _), fun k hk => ?_, ?_, ?_, ?_, ?_⟩
  · rw [State.mport_setMport, if_neg hk]
  all_goals rw [State.mport_setMport_self]; assumption

theorem framed_of_ports (ht : Touches [.media, .objs] [okey 0 0 (mediaIdx m) 0x10] s t) (h : ∀ k, t.mport k = s.mport k) : Framed m s t :=
  ⟨ht, fun k _ => h k, by rw [h], by rw [h], by rw [h], by rw [h]⟩

theorem framed_setMchannel (s : State) (m k : Nat) (y : MediaChannel) : Framed m s (s.setMchannel k y) :=
  framed_of_ports ((touches_setMchannel s k y).mono (by decide) (List.nil_subset _)) fun _ => rfl

@[simp] theorem State.mport_bump (s : State) (i j k : Nat) : (s.bump i j).mport k = s.mport k := State.mport_congr (State.bump_media ..) k

theorem framed_overrun (s : State) (m : Nat) : Framed m s (s.mediaSlip m false) :=
  (framed_of_ports ((touches_bump s (mediaIdx m) 0x10).mono (by decide) (List.Subset.refl _)) fun k => State.mport_bump ..).trans
    (framed_setMport rfl rfl rfl rfl)

theorem framed_ite {c : Prop} [Decidable c] (ht : Framed m s t) (hu : Framed m s u) : Framed m s (if c then t else u) := by
  split <;> assumption

theorem framed_offer (s : State) (m : Nat) (f : List Int) : Framed m s (s.mediaOffer m f) :=
  framed_ite (framed_setMport rfl rfl rfl rfl) (framed_ite (framed_overrun s m) (framed_setMport rfl rfl rfl rfl))

theorem framed_switchGate (s : State) (m k : Nat) : Framed m s (s.switchGate k) :=
  framed_ite (framed_setMchannel ..) (framed_ite (framed_setMchannel ..) (.refl m s))

theorem framed_channelSample (s : State) (m ch n : Nat) : Framed m s (s.channelSample ch n).1 := by
  unfold State.channelSample
  dsimp only
  generalize ht : (if ((s.mchannel ch).state = 1 ∨ (s.mchannel ch).state = 3) ∧ s.crosses ch n = true then s.switchGate ch else s) = t
  have hswitch : Framed m s t := by
    rw [← ht]
    exact framed_ite (framed_switchGate ..) (.refl m s)
  have hramp : Framed m t (if (t.mchannel ch).ramp = 0 then t else t.setMchannel ch { t.mchannel ch with ramp := (t.mchannel ch).ramp - 1 }) :=
    framed_ite (.refl m t) (framed_setMchannel ..)
  split <;> exact hswitch.trans hramp

/-- The state after a channel's sample, and the samples so far. -/
def sampled (m n : Nat) (acc : State × List Int) (c : Nat) : State × List Int :=
  ((acc.1.channelSample (32 * m + c) n).1, acc.2 ++ [(acc.1.channelSample (32 * m + c) n).2])

theorem framed_samples (m n : Nat) (l : List Nat) (acc : State × List Int) : Framed m acc.1 (l.foldl (sampled m n) acc).1 := by
  induction l generalizing acc with
  | nil => exact .refl m _
  | cons c l ih => exact (framed_channelSample ..).trans (ih (sampled m n acc c))

theorem framed_channelFrame (s : State) (m n : Nat) : Framed m s (s.channelFrame m n).1 := by
  unfold State.channelFrame
  split
  · exact .refl m s
  · exact framed_samples m n (List.range 32) (s, [])

/-- A port in master role, by its objects. -/
theorem Framed.master (h : Framed m s t) (hs : s.mediaSlave m = false) : t.mediaSlave m = false := by
  have hobj : t.obj (mediaIdx m) 2 = s.obj (mediaIdx m) 2 := h.touches.obj (by
    rw [List.mem_singleton, okey_sub]
    decide)
  rw [State.mediaSlave, hobj]
  exact hs

theorem framed_take (h : s.mediaSlave m = false) (n : Nat) : Framed m s (s.mediaTake m n) := by
  unfold State.mediaTake
  dsimp only
  rw [h, Bool.not_false, if_pos rfl]
  exact framed_setMport rfl rfl rfl rfl

theorem framed_produce (h : s.mediaSlave m = false) (n : Nat) : Framed m s (s.mediaProduce m n) := by
  have hframe := (framed_take h n).trans (framed_channelFrame (s.mediaTake m n) m n)
  unfold State.mediaProduce
  dsimp only
  generalize (s.mediaTake m n).channelFrame m n = p at hframe
  have hgrid := hframe.trans (framed_setMport (x := { p.1.mport m with grid := some n }) rfl rfl rfl rfl)
  rw [hgrid.master h, Bool.not_false, if_pos rfl]
  exact hgrid.trans (framed_offer ..)

theorem framed_catchUp (h : s.mediaSlave m = false) : Framed m s (s.mediaCatchUp m) :=
  framed_foldl (fun u => u.mediaSlave m = false) (fun _ _ hu => ⟨framed_produce hu _, (framed_produce hu _).master hu⟩) _ h

/-! ### The frame start -/

theorem State.sdo_congr (h : Touches [.media, .objs] [okey 0 0 (mediaIdx m) 0x10] s t) (f : List Int) : t.sdo m f = s.sdo m f := by
  have hobj (j : Nat) (hj : j ≠ 0x10) : t.obj (mediaIdx m) j = s.obj (mediaIdx m) j := h.obj (by
    rw [List.mem_singleton, okey_sub]
    exact hj)
  unfold State.sdo
  rw [hobj 7 (by decide), hobj 6 (by decide), hobj 5 (by decide), hobj 3 (by decide)]

/-- A loop that is off and stays off. -/
theorem State.mediaLoopNow_off (hl : (s.mport m).loop = false) (h : s.obj 0x2E10 (m + 1) ≠ 1) : s.mediaLoopNow m = s :=
  if_pos (hl.trans (decide_eq_false h).symm)

/-- The next whole frame of the FIFO leaves (R347). -/
theorem State.serialize_frame (hr : (s.mport m).restartAt = none) (hrefill : (s.mport m).refill = false) (hf : (s.mport m).framing = 0)
    (hl : (s.mport m).loop = false) (htx : (s.mport m).tx = f :: rest) :
    s.serialize m = s.setMport m { s.mport m with tx := rest, pins := s.sdo m f } := by
  unfold State.serialize
  dsimp only
  rw [hr, Option.isSome_none, if_neg Bool.false_ne_true, hrefill, if_neg (by simp), htx]
  dsimp only
  rw [hl, hf, if_neg Bool.false_ne_true, if_neg Bool.false_ne_true, if_neg (Nat.lt_irrefl 0), ← hrefill]

/-- An underrun sends zeros and is counted. -/
theorem State.serialize_empty (hr : (s.mport m).restartAt = none) (hrefill : (s.mport m).refill = false) (htx : (s.mport m).tx = []) :
    s.serialize m = (s.setMport m { s.mport m with pins := s.sdo m (List.replicate 32 0), late := (s.mport m).late + 1, refill := false }).mediaSlip m true := by
  unfold State.serialize
  dsimp only
  rw [hr, Option.isSome_none, if_neg Bool.false_ne_true, hrefill, if_neg (by simp), htx]

/-- The frame that starts is noted as sent. -/
def State.frameStarted (s : State) (m : Nat) : State := s.setMport m { s.mport m with sentFrame := some (s.gridFrame m) }

theorem framed_frameStarted (s : State) (m : Nat) : Framed m s (s.frameStarted m) := framed_setMport rfl rfl rfl rfl

/-- The plates' frames are compared (R357). -/
def State.frameCompared (s : State) (m : Nat) : State :=
  s.compared 5 m ((s.mport m).pins.flatMap fun v => beOctets 1 (bitNat v.isSome) ++ beOctets 4 (unsigned 32 (v.getD 0)))

theorem touches_frameCompared (s : State) (m : Nat) : Touches [.twin] [] s (s.frameCompared m) := touches_compared ..

/-- A frame start that is due on a running master whose domain is ready (R345, R347). -/
theorem exec_mediaFrameStart (hs : InService s) (hg : s.time.gate = false) (hst : (s.mport m).state = 1) (hc : (s.mport m).combinerFault = false)
    (hd : s.frameDue m = true) (hready : s.domainReady 6 m = true) (hloop : (s.mport m).loop = false) (hobj : s.obj 0x2E10 (m + 1) ≠ 1) :
    exec (.mediaFrameStart m) s = .next ((((s.frameStarted m).mediaCatchUp m).serialize m).frameCompared m) := by
  have hready' : (s.frameStarted m).domainReady 6 m = true := hready
  have hoff : (s.frameStarted m).mediaLoopNow m = s.frameStarted m := by
    refine State.mediaLoopNow_off ?_ hobj
    rw [State.frameStarted, State.mport_setMport_self]
    exact hloop
  have hframe : (s.frameStarted m).mediaFrame m = ((s.frameStarted m).mediaCatchUp m).serialize m := by rw [State.mediaFrame, hoff]
  refine exec_serving hs rfl ((if_neg (by simp [hg])).trans ((if_neg (by simp [hst, hc])).trans ((if_neg (by simp [hd])).trans
    ((if_neg fun h => ?_).trans (congrArg (fun u : State => u.frameCompared m) hframe)))))
  have h1 : (!(s.frameStarted m).domainReady 6 m) = true := h.1
  rw [hready'] at h1
  exact Bool.false_ne_true h1

/-- A domain that is not ready skips the frame (R31). -/
theorem exec_mediaFrameStart_asleep (hs : InService s) (hg : s.time.gate = false) (hst : (s.mport m).state = 1) (hc : (s.mport m).combinerFault = false)
    (hd : s.frameDue m = true) (hready : s.domainReady 6 m = false) (hr : (s.mport m).restartAt = none) : exec (.mediaFrameStart m) s =
      .next (((s.frameStarted m).setMport m { (s.frameStarted m).mport m with pins := [] }).skip (domainLine 6 m)) := by
  have hready' : (s.frameStarted m).domainReady 6 m = false := hready
  refine exec_serving hs rfl ((if_neg (by simp [hg])).trans ((if_neg (by simp [hst, hc])).trans ((if_neg (by simp [hd])).trans (if_pos ⟨?_, hr⟩))))
  exact (congrArg (fun b : Bool => (!b) = true) hready').mpr rfl

/-! ### Frames received -/

/-- An item more in the intake. -/
def State.withItem (s : State) (i : Item) : State := { s with intake := { s.intake with items := s.intake.items ++ [i] } }

theorem touches_withItem (s : State) (i : Item) : Touches [.intake] [] s (s.withItem i) := touches_intake s _

/-- A received frame with the timestamp of its edge (R346). -/
def State.mediaItem (s : State) (m age : Nat) (fine : Int) (bclks : Nat) (f : List Int) : Item :=
  ⟨90 + m, s.now, s.tai, .media (s.now - age) (roundDivI (((s.tai : Int) - (age * s.increment 0 : Nat)) * 2000 +
    (fine - 2 * (s.input (mediaTdc m)).skew) * s.increment 0) (2000 * 2 ^ 28)) bclks f⟩

theorem exec_mediaFrameReceive (hs : InService s) (hf : bit s.intake.faults (90 + m) = false) (h0 : (s.mport m).state ≠ 0) (h4 : (s.mport m).state ≠ 4)
    (hg : s.time.gate = false) (age : Nat) (fine : Int) (bclks : Nat) :
    exec (.mediaFrameReceive m age fine bclks f) s = .next (s.withItem (s.mediaItem m age fine bclks f)) := by
  refine exec_serving hs rfl ((if_neg (by simp [hf, h0, h4])).trans ((tagItem_of_open hg).trans ?_))
  rw [Nat.add_zero, State.withItem, State.mediaItem]


theorem State.deliverMedia_master {cycle bclks : Nat} {stamp : Int} (h0 : (s.mport m).state ≠ 0) (h4 : (s.mport m).state ≠ 4)
    (hm : s.mediaSlave m = false) (hl : (s.mport m).loop = false) :
    s.deliverMedia m cycle stamp bclks f = s.mediaReceive m (f.map (slotSample (s.obj (mediaIdx m) 6))) := by
  unfold State.deliverMedia
  dsimp only
  rw [if_neg (by simp [h0, h4]), hm, Bool.not_false, if_pos rfl, hl, if_neg Bool.false_ne_true]

theorem State.deliver_media (s : State) (m tag base cycle bclks : Nat) (stamp : Int) (f : List Int) :
    s.deliver ⟨90 + m, tag, base, .media cycle stamp bclks f⟩ = s.deliverMedia m cycle stamp bclks f := by
  refine (show s.deliver ⟨90 + m, tag, base, .media cycle stamp bclks f⟩ = s.deliverMedia (90 + m - 90) cycle stamp bclks f from rfl).trans ?_
  rw [Nat.add_sub_cancel_left]

theorem State.mediaReceive_room (h : (s.mport m).rx.length < 16) (f : List Int) :
    s.mediaReceive m f = s.setMport m { s.mport m with rx := (s.mport m).rx ++ [f] } := if_neg (Nat.not_le.2 h)

theorem State.mediaReceive_full (h : 16 ≤ (s.mport m).rx.length) (f : List Int) : s.mediaReceive m f = s.mediaSlip m false := if_pos h

/-- The oldest item is a frame of a port that runs. -/
theorem exec_itemDelivery_media {tag base cycle bclks : Nat} {stamp : Int} (hs : InService s)
    (hi : (sortItems s.intake.items).head? = some ⟨90 + m, tag, base, .media cycle stamp bclks f⟩) (hd : tag + 256 ≤ s.now) (hg : s.time.gate = false)
    (hf : bit s.intake.faults (90 + m) = false) :
    ∃ left, exec (.itemDelivery false) s = .next ((s.takenItem left).deliverMedia m cycle stamp bclks f) := by
  have hnext := exec_itemDelivery hs hi hd hg false
  rw [if_neg Bool.false_ne_true, hf, if_neg Bool.false_ne_true, State.deliver_media] at hnext
  exact ⟨_, hnext⟩

/-- An edge enters the history of the ASRC, and its ratio follows. -/
theorem State.asrcEdge_eq (s : State) (m cycle : Nat) (stamp : Int) : ∃ y : MediaPort, ∃ r, s.asrcEdge m cycle stamp =
    (s.setMport m y).setObj (mediaIdx m) 0x0D r ∧ y.state = (s.mport m).state ∧ y.rx = (s.mport m).rx ∧ ∃ r l, y.edges = (cycle, stamp, r) :: l :=
  ⟨_, _, rfl, rfl, rfl, _, _, rfl⟩

/-- A slave that has lost its clock takes its edges again (R354). -/
theorem State.deliverMedia_regained {cycle bclks : Nat} {stamp : Int} (hst : (s.mport m).state = 2) (hm : s.mediaSlave m = true)
    (hb : bclks = s.obj (mediaIdx m) 5 * s.obj (mediaIdx m) 6) (hroom : (s.mport m).rx.length < 16) : ∃ t : State,
    s.deliverMedia m cycle stamp bclks f = t ∧ Touches [.media, .objs] [okey 0 0 (mediaIdx m) 0x0D] s t ∧ (t.mport m).state = 3 ∧ (t.mport m).framing = 0 ∧
    (t.mport m).rx = (s.mport m).rx ++ [f.map (slotSample (s.obj (mediaIdx m) 6))] ∧ ∃ r l, (t.mport m).edges = (cycle, stamp, r) :: l := by
  obtain ⟨y, r, hedge, hstate, hrx, hedges⟩ := (s.setMport m { s.mport m with state := 3, asrc := 1 }).asrcEdge_eq m cycle stamp
  rw [State.mport_setMport_self] at hstate hrx
  have hport : (((s.setMport m { s.mport m with state := 3, asrc := 1 }).setMport m y).setObj (mediaIdx m) 0x0D r).mport m = y :=
    (State.mport_congr (State.setObj_media ..) m).trans (State.mport_setMport_self ..)
  have hmedia : s.deliverMedia m cycle stamp bclks f = ((((s.setMport m { s.mport m with state := 3, asrc := 1 }).setMport m y).setObj (mediaIdx m) 0x0D r).setMport
      m { y with framing := 0 }).setMport m { y with framing := 0, rx := y.rx ++ [f.map (slotSample (s.obj (mediaIdx m) 6))] } := by
    unfold State.deliverMedia
    dsimp only
    rw [if_neg (by simp [hst]), hm, Bool.not_true, if_neg Bool.false_ne_true, if_pos hst, hedge, if_pos hb, hport, State.mediaReceive]
    dsimp only
    rw [State.mport_setMport_self, if_neg (by dsimp only; rw [hrx]; exact Nat.not_le.2 hroom)]
  refine ⟨_, hmedia, ?_, ?_⟩
  · have h2 := (touches_setMport s m { s.mport m with state := 3, asrc := 1 }).trans (touches_setMport _ m y)
    have h4 (v : State) (x z : MediaPort) : Touches [.media] [] v ((v.setMport m x).setMport m z) := (touches_setMport v m x).trans (touches_setMport _ m z)
    exact ((h2.andThen (touches_setObj _ (mediaIdx m) 0x0D r)).andThen (h4 _ _ _)).mono (by decide) (by simp)
  · rw [State.mport_setMport_self, hrx]
    exact ⟨hstate, rfl, rfl, hedges⟩

/-! ### The external clock -/

/-- The record of a slave that has lost its clock (R353). -/
def MediaPort.lost (x : MediaPort) : MediaPort := { x.clear.noEdges with state := 2, asrc := 1, pins := [] }

/-- The port stops and the loss is counted. -/
def State.clockStopped (s : State) (m : Nat) : State := (s.setMport m (s.mport m).lost).bump (mediaIdx m) 0x11

/-- The channels that take a slot of the port are muted. -/
def State.channelsMuted (s : State) (m : Nat) : State := mediaChannels.foldl (fun (s : State) k =>
  if sourcePort (s.channelSource k) = some m ∧ (s.mchannel k).state ≠ 0 then s.setMchannel k { s.mchannel k with state := 4, ramp := 0 } else s) s

/-- The channels that wait for the port open again (R354). -/
def State.channelsReturned (s : State) (m : Nat) : State := mediaChannels.foldl (fun (s : State) k =>
  if sourcePort (s.channelSource k) = some m ∧ (s.mchannel k).state = 4 ∧ s.objW k 0x2B01 4 = 1 then
    s.setMchannel k { s.mchannel k with state := 1, since := s.now } else s) s

theorem State.clockLoss_eq (s : State) (m c : Nat) :
    s.clockLoss m c = ((s.clockStopped m).channelsMuted m).emcy 0xFF90 0xFF (m * 2 ^ 24 + 2 * 2 ^ 16 + c * 2 ^ 8) := rfl

/-- A step that changes one channel's record by what the objects and the clock say of it. -/
theorem State.mchannel_foldl {f : State → Nat → State} {G : Nat → MediaChannel → MediaChannel}
    (hf : ∀ u k, u.objs = s.objs → u.clock = s.clock → f u k = u ∧ G k (u.mchannel k) = u.mchannel k ∨ f u k = u.setMchannel k (G k (u.mchannel k)))
    {k : Nat} (hk : k < 256) : (mediaChannels.foldl f s).mchannel k = G k (s.mchannel k) := by
  refine (bank_foldl (look := State.mchannel) (f := f) (G := G) (P := fun u => u.objs = s.objs ∧ u.clock = s.clock) (fun u k hu => ?_)
    (fun u k j hu => ?_) List.nodup_range ⟨rfl, rfl⟩ k).trans (if_pos (List.mem_range.2 hk))
  · obtain ⟨h, -⟩ | h := hf u k hu.1 hu.2 <;> rw [h] <;> exact hu
  · obtain ⟨h, hsame⟩ | h := hf u k hu.1 hu.2
    · rw [h, hsame]
      split
      · next hj => rw [hj]
      · rfl
    · rw [h, State.mchannel_setMchannel]

theorem touches_channelsMuted (s : State) (m : Nat) : Touches [.media] [] s (s.channelsMuted m) := by
  refine touches_foldl (fun u k => ?_) _ s
  split
  · exact touches_setMchannel ..
  · exact .refl u

theorem touches_channelsReturned (s : State) (m : Nat) : Touches [.media] [] s (s.channelsReturned m) := by
  refine touches_foldl (fun u k => ?_) _ s
  split
  · exact touches_setMchannel ..
  · exact .refl u

theorem State.channelSource_congr (h : t.objs = s.objs) (k : Nat) : t.channelSource k = s.channelSource k := by
  rw [State.channelSource, State.objW, State.objKey, h, State.channelSource, State.objW, State.objKey]

theorem State.mchannel_channelsMuted (s : State) (m : Nat) (hk : k < 256) : (s.channelsMuted m).mchannel k =
    if sourcePort (s.channelSource k) = some m ∧ (s.mchannel k).state ≠ 0 then { s.mchannel k with state := 4, ramp := 0 } else s.mchannel k := by
  refine State.mchannel_foldl (G := fun k x => if sourcePort (s.channelSource k) = some m ∧ x.state ≠ 0 then { x with state := 4, ramp := 0 } else x)
    (fun u k hobjs _ => ?_) hk
  rw [State.channelSource_congr hobjs]
  split
  · exact .inr rfl
  · exact .inl ⟨rfl, rfl⟩

theorem State.mchannel_channelsReturned (s : State) (m : Nat) (hk : k < 256) : (s.channelsReturned m).mchannel k =
    if sourcePort (s.channelSource k) = some m ∧ (s.mchannel k).state = 4 ∧ s.objW k 0x2B01 4 = 1 then { s.mchannel k with state := 1, since := s.now }
    else s.mchannel k := by
  refine State.mchannel_foldl (G := fun k x => if sourcePort (s.channelSource k) = some m ∧ x.state = 4 ∧ s.objW k 0x2B01 4 = 1 then
    { x with state := 1, since := s.now } else x) (fun u k hobjs hclock => ?_) hk
  have hw : u.objW k 0x2B01 4 = s.objW k 0x2B01 4 := by rw [State.objW, State.objKey, hobjs, State.objW, State.objKey]
  rw [State.channelSource_congr hobjs, hw, State.now_congr hclock]
  split
  · exact .inr rfl
  · exact .inl ⟨rfl, rfl⟩

theorem State.mport_channelsMuted (s : State) (m k : Nat) : (s.channelsMuted m).mport k = s.mport k :=
  foldl_keep (·.mport k) _ _ s fun u j => by split <;> rfl

theorem State.mport_channelsReturned (s : State) (m k : Nat) : (s.channelsReturned m).mport k = s.mport k :=
  foldl_keep (·.mport k) _ _ s fun u j => by split <;> rfl

theorem touches_clockStopped (s : State) (m : Nat) : Touches [.media, .objs] [okey 0 0 (mediaIdx m) 0x11] s (s.clockStopped m) :=
  (touches_setMport ..).andThen (touches_bump _ (mediaIdx m) 0x11)

theorem State.channelSource_clockStopped (s : State) (m k : Nat) : (s.clockStopped m).channelSource k = s.channelSource k := by
  refine congrArg Int.toNat ((touches_clockStopped s m).objects _ ?_)
  rw [List.mem_singleton]
  unfold okey mediaIdx
  omega

/-- What the loss of a slave's clock leaves. -/
theorem State.clockLoss_facts (s : State) (m c : Nat) : Touches [.media, .objs, .mgmt] [okey 0 0 (mediaIdx m) 0x11, lostKey] s (s.clockLoss m c) ∧
    (s.clockLoss m c).mport m = (s.mport m).lost ∧ (s.clockLoss m c).obj (mediaIdx m) 0x11 = (s.obj (mediaIdx m) 0x11 + 1) % 2 ^ 32 ∧
    ∀ k, k < 256 → (s.clockLoss m c).mchannel k =
      if sourcePort (s.channelSource k) = some m ∧ (s.mchannel k).state ≠ 0 then { s.mchannel k with state := 4, ramp := 0 } else s.mchannel k := by
  have hemcy (v : State) := touches_emcy v 0xFF90 0xFF (m * 2 ^ 24 + 2 * 2 ^ 16 + c * 2 ^ 8)
  rw [State.clockLoss_eq]
  refine ⟨(((touches_clockStopped s m).andThen (touches_channelsMuted _ m)).andThen (hemcy _)).mono (by decide) (by simp), ?_, ?_, fun k hk => ?_⟩
  · rw [State.mport_congr ((hemcy _).frame .media (by decide)), State.mport_channelsMuted, State.clockStopped, State.mport_bump, State.mport_setMport_self]
  · rw [(hemcy _).obj ?_, (touches_channelsMuted _ m).obj List.not_mem_nil, State.clockStopped, obj_bump, if_pos rfl, State.obj_setMport]
    rw [List.mem_singleton]
    unfold lostKey okey mediaIdx
    omega
  · rw [State.mchannel_congr ((hemcy _).frame .media (by decide)), State.mchannel_channelsMuted _ _ hk, State.channelSource_clockStopped]
    rfl

theorem exec_clockLoss (hs : InService s) (hslave : s.mediaSlave m = true) (hst : (s.mport m).state = 1 ∨ (s.mport m).state = 3)
    (h : s.edgesLost m = true ∨ s.rateLost m = true) : ∃ c, exec (.clockLoss m) s = .next (s.clockLoss m c) := by
  cases he : s.edgesLost m with
  | true => exact ⟨1, exec_serving hs rfl ((if_pos ⟨hslave, hst⟩).trans (if_pos he))⟩
  | false =>
    have hr : s.rateLost m = true := h.resolve_left (by simp [he])
    exact ⟨3, exec_serving hs rfl ((if_pos ⟨hslave, hst⟩).trans ((if_neg (by simp [he])).trans (if_pos hr)))⟩

/-- The port streams again once its FIFO has refilled (R354). -/
def State.streaming (s : State) (m : Nat) : State := s.setMport m { s.mport m with state := 1, refill := true }

theorem touches_streaming (s : State) (m : Nat) : Touches [.media] [] s (s.streaming m) := touches_setMport ..

/-! ### Slot sets -/

/-- A waiting value of a set takes effect. -/
def State.memberApplied (s : State) (k : Nat) : State := match s.groups.waiting.look noneOf k with
  | none => s
  | some v => ({ s with groups := { s.groups with waiting := s.groups.waiting.put noneOf k none } }).takeEffect k v

theorem touches_memberApplied (s : State) (k : Nat) : Touches [.groups, .mgmt, .objs] [k] s (s.memberApplied k) := by
  unfold State.memberApplied
  split
  · exact .refl s
  · exact (touches_groups s _).andThen (touches_takeEffect _ k _)

theorem State.objKey_memberApplied (s : State) (k j : Nat) :
    (s.memberApplied k).objKey j = if j = k then (s.groups.waiting.look noneOf k).getD (s.objKey j) else s.objKey j := by
  by_cases hj : j = k
  · subst hj
    rw [if_pos rfl]
    unfold State.memberApplied
    split
    next h => rw [h, Option.getD_none]
    next v h => rw [h, Option.getD_some, (takeEffect_frame _ j v).1]
  · rw [if_neg hj, (touches_memberApplied s k).objects j (by simpa using hj)]

theorem State.waiting_memberApplied (s : State) (k j : Nat) :
    (s.memberApplied k).groups.waiting.look noneOf j = if j = k then none else s.groups.waiting.look noneOf j := by
  unfold State.memberApplied
  split
  next h =>
    split
    next hj => rw [hj, h]
    next => rfl
  next v h => rw [State.takeEffect_groups, Table.look_put]

theorem State.objKey_membersApplied (l : List Nat) (s : State) (j : Nat) : (l.foldl State.memberApplied s).objKey j =
    if j ∈ l then (s.groups.waiting.look noneOf j).getD (s.objKey j) else s.objKey j := by
  induction l generalizing s with
  | nil => rfl
  | cons k l ih =>
    rw [List.foldl_cons, ih, State.waiting_memberApplied, State.objKey_memberApplied]
    by_cases hj : j = k
    · subst hj
      simp
    · simp [hj]

theorem touches_membersApplied (l : List Nat) (s : State) : Touches [.groups, .mgmt, .objs] l s (l.foldl State.memberApplied s) :=
  touches_foldl_mem (fun u _ hk => (touches_memberApplied u _).mono (List.Subset.refl _) (by simpa using hk)) s

theorem State.applyGroup_eq (s : State) (g n : Nat) : s.applyGroup g n = ((members g n).foldl State.memberApplied s).setWaiting g
    (putBit (((members g n).foldl State.memberApplied s).waitingMask g) n false) := rfl

theorem touches_applyGroup (s : State) (g n : Nat) : Touches [.groups, .mgmt, .objs] (members g n) s (s.applyGroup g n) := by
  rw [State.applyGroup_eq]
  exact (touches_membersApplied _ s).trans ((touches_groups _ _).mono (by decide) (List.nil_subset _))

theorem State.objKey_applyGroup (s : State) (hk : k ∈ members v n) : (s.applyGroup v n).objKey k = (s.groups.waiting.look noneOf k).getD (s.objKey k) := by
  rw [State.applyGroup_eq]
  exact (State.objKey_membersApplied ..).trans (if_pos hk)

theorem State.isWaiting_applyGroup (s : State) (g n : Nat) : (s.applyGroup g n).isWaiting g n = false := by
  rw [State.applyGroup_eq, State.isWaiting, State.waitingMask, State.setWaiting]
  dsimp only
  rw [Table.look_put_self, bit_putBit]

/-- The members of a set of slots are no counter of the responses. -/
theorem lostKey_not_member (m : Nat) : lostKey ∉ members 7 m := by
  intro h
  obtain ⟨k, hk, he⟩ := List.mem_map.1 h
  obtain ⟨j, hj, rfl⟩ := List.mem_map.1 hk
  have := List.mem_range.1 hj
  unfold lostKey okey at he
  omega

end Sys2Proof.Machine

namespace Sys2Proof.Proofs
open Sys2Proof Sys2Proof.Machine

/-- Settles O46: the frame start by its cases, the delivery by the role, the clock's loss and return, and the slot set at its frame. -/
theorem mediaPortsRunLoseAndRegainTheirClocks : Obligations.MediaPortsRunLoseAndRegainTheirClocks := by
  intro s m age bclks fine f rest hs hm
  have hidx (a b : Nat) (h : a ≠ b) : okey 0 0 (mediaIdx m) a ∉ [okey 0 0 (mediaIdx m) b] := by rwa [List.mem_singleton, okey_sub]
  refine ⟨fun hg => ?_, fun hg hoff => ?_, fun hg hst hc => ⟨fun hd => ?_, fun hd hready hr => ?_, fun hd hready hr hmaster hloop hobj hrefill hframing => ?_⟩,
    fun hfault h0 h4 hg => ?_, fun tag base cycle stamp hi hd hg hfault h0 h4 => ⟨fun hmaster hloop hroom => ?_, fun hmaster hloop hfull => ?_,
      fun hslave hst hroom hb => ?_⟩, fun hslave hst => ⟨fun hlost => ?_, fun hedges hrate => ?_⟩, fun hslave hst hasrc hheld hedges hrate => ?_,
    fun hsafe hst hd => ?_, fun n hr => ⟨fun hdue => ?_, fun hearly => ?_⟩, ?_⟩
  · exact exec_serving hs rfl (if_pos hg)
  · have ht := touches_setMport s m { s.mport m with pins := [] }
    refine turns_of (exec_serving hs rfl ((if_neg (by simp [hg])).trans (if_pos hoff))) ⟨State.mport_setMport_self .., fun k hk => ?_⟩ ht.objects ht.frame
    rw [State.mport_setMport, if_neg hk]
  · exact exec_serving hs rfl ((if_neg (by simp [hg])).trans ((if_neg (by simp [hst, hc])).trans (if_pos (by simp [hd]))))
  · have hskip (v : State) := State.mport_congr ((faultOnly_skip v (domainLine 6 m)).frame .media (by decide)) m
    refine completes_intro (exec_mediaFrameStart_asleep hs hg hst hc hd hready hr) ⟨?_, ?_⟩
    · rw [hskip, State.mport_setMport_self]
    · rw [hskip, State.mport_setMport_self, State.frameStarted, State.mport_setMport_self]
  · intro u
    have hmaster' : (s.frameStarted m).mediaSlave m = false := (framed_frameStarted s m).master hmaster
    have hu : Framed m s u := (framed_frameStarted s m).trans (framed_catchUp hmaster')
    have hnext : exec (.mediaFrameStart m) s = .next ((u.serialize m).frameCompared m) := exec_mediaFrameStart hs hg hst hc hd hready hloop hobj
    have hcompared (v : State) (k : Nat) := State.mport_congr ((touches_frameCompared v m).frame .media (by decide)) k
    refine ⟨fun htx => ?_, fun htx => ?_⟩
    · rw [State.serialize_frame (hu.restart.trans hr) (hu.refill.trans hrefill) (hu.framing.trans hframing) (hu.loop.trans hloop) htx] at hnext
      have ht := (hu.touches.trans ((touches_setMport u m { u.mport m with tx := rest, pins := u.sdo m f }).mono (by decide) (List.nil_subset _))).andThen
        (touches_frameCompared _ m)
      refine turns_of hnext ⟨?_, fun k hk => ?_⟩ ht.objects ht.frame
      · rw [hcompared, State.mport_setMport_self, State.sdo_congr hu.touches]
      · rw [hcompared, State.mport_setMport, if_neg hk, hu.others k hk]
    · rw [State.serialize_empty (hu.restart.trans hr) (hu.refill.trans hrefill) htx] at hnext
      refine completes_intro hnext ⟨?_, ?_, ?_⟩
      · rw [hcompared, State.mediaSlip, State.mport_setMport_self, State.mport_bump, State.mport_setMport_self, State.sdo_congr hu.touches]
      · rw [hcompared, State.mediaSlip, State.mport_setMport_self, State.mport_bump, State.mport_setMport_self]
      · rw [(touches_frameCompared _ m).obj List.not_mem_nil, State.mediaSlip, State.obj_setMport, if_pos rfl, obj_bump, if_pos rfl, State.obj_setMport,
          hu.touches.obj (hidx _ _ (by decide))]
  · have ht := touches_withItem s (s.mediaItem m age fine bclks f)
    exact turns_of (exec_mediaFrameReceive hs hfault h0 h4 hg age fine bclks) (by rw [State.withItem, State.mediaItem]) ht.objects ht.frame
  · obtain ⟨left, hnext⟩ := exec_itemDelivery_media hs hi hd hg hfault
    rw [State.deliverMedia_master (by exact h0) (by exact h4) (by exact hmaster) (by exact hloop), State.mediaReceive_room (by exact hroom)] at hnext
    have ht (z : MediaPort) := (touches_takenItem s left).andThen (touches_setMport _ m z)
    refine turns_of hnext ⟨State.mport_setMport_self .., fun k hk => ?_⟩ (ht _).objects (keeps_weaken (ht _).frame (by decide))
    rw [State.mport_setMport, if_neg hk]
    rfl
  · obtain ⟨left, hnext⟩ := exec_itemDelivery_media hs hi hd hg hfault
    rw [State.deliverMedia_master (by exact h0) (by exact h4) (by exact hmaster) (by exact hloop), State.mediaReceive_full (by exact hfull)] at hnext
    have ht := touches_takenItem s left
    refine completes_intro hnext ⟨?_, ?_, ?_⟩
    · rw [State.mediaSlip, State.mport_setMport_self, State.mport_bump]
      rfl
    · rw [State.mediaSlip, State.obj_setMport, if_neg Bool.false_ne_true, obj_bump, if_pos rfl, ht.obj List.not_mem_nil]
    · exact ((framed_overrun _ m).touches.frame .clock (by decide)).trans (ht.frame .clock (by decide))
  · obtain ⟨left, hnext⟩ := exec_itemDelivery_media hs hi hd hg hfault
    obtain ⟨t, heq, ht, hfacts⟩ := State.deliverMedia_regained (s := s.takenItem left) (f := f) (stamp := stamp) (cycle := cycle) hst hslave hb hroom
    rw [heq] at hnext
    have hframe := (touches_takenItem s left).andThen ht
    exact turns_of hnext hfacts hframe.objects (keeps_weaken hframe.frame (by decide))
  · obtain ⟨c, hnext⟩ := exec_clockLoss hs hslave hst hlost
    obtain ⟨ht, hfacts⟩ := s.clockLoss_facts m c
    exact turns_of hnext hfacts ht.objects ht.frame
  · exact exec_serving hs rfl ((if_pos ⟨hslave, hst⟩).trans ((if_neg (by simp [hedges])).trans (if_neg (by simp [hrate]))))
  · have hnext : exec (.clockStable m) s = .next (((s.streaming m).channelsReturned m).emcy 0xFF90 0xFF (m * 2 ^ 24 + 2 ^ 16)) :=
      exec_serving hs rfl (if_pos ⟨hslave, hst, hasrc, hheld, hedges, hrate⟩)
    have hemcy (v : State) := touches_emcy v 0xFF90 0xFF (m * 2 ^ 24 + 2 ^ 16)
    have ht := (((touches_streaming s m).trans (touches_channelsReturned _ m)).andThen (hemcy _)).mono (parts' := [.media, .objs, .mgmt]) (by decide)
      (List.Subset.refl _)
    refine turns_of hnext ⟨?_, fun k hk => ?_⟩ ht.objects ht.frame
    · rw [State.mport_congr ((hemcy _).frame .media (by decide)), State.mport_channelsReturned, State.streaming, State.mport_setMport_self]
    · rw [State.mchannel_congr ((hemcy _).frame .media (by decide)), State.mchannel_channelsReturned _ _ hk]
      rfl
  · have hnext : exec (.mediaSafePoint m) s = .next ((s.applyGroup 7 m).tookEffect 7 m) := exec_serving hs rfl (if_pos (by simp [hsafe, hst, hd]))
    have hemcy (v : State) : Touches [.mgmt, .objs] [lostKey] v (v.tookEffect 7 m) := touches_emcy ..
    have ht := (touches_applyGroup s 7 m).andThen (hemcy _)
    refine completes_intro hnext ⟨?_, objects_weaken ht.objects (by simp [or_comm]), keeps_weaken ht.frame (by decide), fun k hk => ?_⟩
    · rw [State.isWaiting, State.waitingMask, (hemcy _).frame .groups (by decide)]
      exact s.isWaiting_applyGroup 7 m
    · refine ((hemcy _).objects k fun hl => ?_).trans (State.objKey_applyGroup s hk)
      exact lostKey_not_member m (List.mem_singleton.1 hl ▸ hk)
  · have ht (z : MediaPort) := touches_setMport s m z
    refine turns_of (exec_serving hs rfl ?_) ⟨State.mport_setMport_self s m { s.mport m with restartAt := none, grid := none, sentFrame := none, late := 0 },
      fun k hk => ?_⟩ (ht _).objects (ht _).frame
    · rw [hr]
      exact if_neg (Int.not_lt.2 hdue)
    · rw [State.mport_setMport, if_neg hk]
  · refine exec_serving hs rfl ?_
    rw [hr]
    exact if_pos hearly
  · have hemcy (v : State) := touches_emcy v 0xFF93 0xFF (m * 2 ^ 24)
    have ht := (touches_setMport s m { s.mport m with combinerFault := true, pins := [] }).andThen (hemcy _)
    refine turns_of (exec_serving hs rfl rfl) ⟨?_, fun k hk => ?_⟩ ht.objects (keeps_weaken ht.frame (by decide))
    · rw [State.mport_congr ((hemcy _).frame .media (by decide)), State.mport_setMport_self]
    · rw [State.mport_congr ((hemcy _).frame .media (by decide)), State.mport_setMport, if_neg hk]

end Sys2Proof.Proofs
end

section
/-! PROOF. What clears the record and the classifier (R388, R396, R398, R401). -/

namespace Sys2Proof.Machine

variable {s t u : State} {p q k n v w mask : Nat} {tr : Transport} {x : Source}

/-! ### The contact sheet -/

/-- The last entries of the frozen sheet are in section F (R401). -/
def State.sheetSaved (s : State) : State :=
  { s with faults := { s.faults with saveDue := false },
           darkroom := { s.darkroom with secF := s.faults.frozenTail, secFValid := true, valid := putBit s.darkroom.valid 6 true } }

theorem touches_sheetSaved (s : State) : Touches [.faults, .darkroom] [] s s.sheetSaved :=
  (touches_faults s s.sheetSaved.faults).andThen (touches_darkroom _ s.sheetSaved.darkroom)

theorem exec_contactSheetSave (hd : s.faults.saveDue = true) (hr : s.boot.inReset = false) : exec .contactSheetSave s = .next s.sheetSaved.storeWrite :=
  congrArg Host.Outcome.next (if_neg (by simp [hd, hr]))

/-! ### Status bits -/

theorem State.line_setLine (s : State) (y : Line) (hn : n < 256) (hk : k < 256) :
    (s.setLine q n y).line p k = if p = q ∧ k = n then y else s.line p k :=
  (Table.look_put ..).trans (if_congr (by omega) rfl rfl)

/-- The line as a clear leaves it at an instant: a line that latched then keeps its bit (R388). -/
def Line.cleared (l : Line) (now : Nat) : Line := { l with status := l.status && decide (l.lastTime = now) }

/-- The lines of a status word that a mask names. -/
def wordLines (w mask : Nat) : List Nat := (bitsSet mask 32).map (32 * (w - 1) + ·)

theorem mem_wordLines : k ∈ wordLines w mask ↔ k / 32 = w - 1 ∧ bit mask (k % 32) = true := by
  simp only [wordLines, bitsSet, List.mem_map, List.mem_filter, List.mem_range]
  constructor
  · rintro ⟨n, ⟨hn, hb⟩, rfl⟩
    have hmod : (32 * (w - 1) + n) % 32 = n := by omega
    exact ⟨by omega, by rwa [hmod]⟩
  · exact fun ⟨hw, hb⟩ => ⟨k % 32, ⟨Nat.mod_lt _ (by decide), hb⟩, by omega⟩

theorem wordLines_nodup (w mask : Nat) : (wordLines w mask).Nodup :=
  (List.nodup_range.filter _).map fun _ _ h => Nat.add_left_cancel h

/-- A line's status bit is cleared. -/
def State.lineCleared (s : State) (p k : Nat) : State := s.setLine p k ((s.line p k).cleared (toTime112 s.tai))

/-- One plate's word is cleared by its mask. -/
def State.wordCleared (w mask : Nat) (s : State) (p : Nat) : State := (wordLines w mask).foldl (fun (s : State) k => s.lineCleared p k) s

theorem touches_wordCleared (w mask : Nat) (s : State) (p : Nat) : Touches [.faults] [] s (s.wordCleared w mask p) :=
  touches_foldl (fun _ _ => touches_setLine ..) _ s

theorem State.line_wordCleared_same (s : State) (p k : Nat) : (s.wordCleared w mask p).line p k =
    if k ∈ wordLines w mask then (s.line p k).cleared (toTime112 s.tai) else s.line p k := by
  refine bank_foldl (look := fun u k => u.line p k) (f := fun u k => u.lineCleared p k) (G := fun _ l => l.cleared (toTime112 s.tai)) (P := fun u => u.tai = s.tai) (fun _ _ h => h)
    (fun u n j hu => ?_) (wordLines_nodup w mask) rfl k
  rw [← hu]
  exact (Table.look_put ..).trans (if_congr (Nat.add_left_cancel_iff) rfl rfl)

theorem State.line_wordCleared_other (hw : w ≤ 8) (hk : k < 256) (hpq : p ≠ q) (s : State) : (s.wordCleared w mask q).line p k = s.line p k := by
  refine List.foldlRecOn (motive := fun u : State => u.line p k = s.line p k) _ _ rfl fun u hu n hn => ?_
  have hn := (mem_wordLines.1 hn).1
  rw [State.lineCleared, State.line_setLine u _ (by omega) hk, if_neg fun h => hpq h.1, hu]

/-- A clear acts on the word of both plates (R7). -/
def State.statusCleared (s : State) (w mask : Nat) : State := (s.wordCleared w mask 0).wordCleared w mask 1

theorem touches_statusCleared (s : State) (w mask : Nat) : Touches [.faults] [] s (s.statusCleared w mask) :=
  (touches_wordCleared ..).trans (touches_wordCleared ..)

theorem statusClearOp_accepted (h1 : 1 ≤ w) (h8 : w ≤ 8) : statusClearOp w mask s = .ok (s.statusCleared w mask) := by
  refine (if_neg (by omega)).trans (congrArg Except.ok ?_)
  unfold State.statusCleared State.wordCleared wordLines
  rw [List.foldl_map, List.foldl_map]
  rfl

theorem State.line_statusCleared (h8 : w ≤ 8) (hp : p < 2) (hk : k < 256) (s : State) : (s.statusCleared w mask).line p k =
    if k / 32 = w - 1 ∧ bit mask (k % 32) = true then (s.line p k).cleared (toTime112 s.tai) else s.line p k := by
  have htai (q : Nat) : (s.wordCleared w mask q).tai = s.tai := by
    rw [State.tai, State.base_congr ((touches_wordCleared w mask s q).frame .time (by decide)), State.tai]
  unfold State.statusCleared
  obtain rfl | rfl : p = 0 ∨ p = 1 := by omega
  · rw [State.line_wordCleared_other h8 hk (by decide), State.line_wordCleared_same]
    exact if_congr mem_wordLines rfl rfl
  · rw [State.line_wordCleared_same, State.line_wordCleared_other h8 hk (by decide), htai]
    exact if_congr mem_wordLines rfl rfl

/-! ### Sources -/

@[simp] theorem State.laneSource_respond (s : State) (tr : Transport) (r : UsdoResponse) (k : Nat) : (s.respond tr r).laneSource k = s.laneSource k := by
  rw [State.laneSource, State.respond_faults, State.laneSource]

@[simp] theorem State.addressSource_respond (s : State) (tr : Transport) (r : UsdoResponse) (k : Nat) :
    (s.respond tr r).addressSource k = s.addressSource k := by
  rw [State.addressSource, State.respond_faults, State.addressSource]

theorem touches_released (s : State) (lane : Bool) (id : Nat) : Touches [.faults] [] s (s.released lane id) := touches_record ..

theorem touches_endHoldOf (s : State) (lane : Bool) (id : Nat) (x : Source) : Touches [.faults] [] s (s.endHoldOf lane id x) := by
  unfold State.endHoldOf
  split
  · exact touches_released ..
  · exact .refl s

theorem State.laneSource_endHoldOf (s : State) (lane : Bool) (id : Nat) (x : Source) (k : Nat) : (s.endHoldOf lane id x).laneSource k = s.laneSource k := by
  unfold State.endHoldOf
  split <;> rfl

theorem State.addressSource_endHoldOf (s : State) (lane : Bool) (id : Nat) (x : Source) (k : Nat) :
    (s.endHoldOf lane id x).addressSource k = s.addressSource k := by
  unfold State.endHoldOf
  split <;> rfl

theorem touches_setLaneSource (s : State) (n : Nat) (x : Source) : Touches [.faults] [] s (s.setLaneSource n x) := touches_faults s _
theorem touches_setAddressSource (s : State) (n : Nat) (x : Source) : Touches [.faults] [] s (s.setAddressSource n x) := touches_faults s _

/-- A lane that the host clears (R398). -/
def State.laneCleared (s : State) (n : Nat) : State :=
  (s.setLaneSource n { s.laneSource n with severeUntil := none, count := 0 }).endHoldOf true n (s.laneSource n)

theorem touches_laneCleared (s : State) (n : Nat) : Touches [.faults] [] s (s.laneCleared n) := (touches_setLaneSource ..).trans (touches_endHoldOf ..)

theorem State.laneSource_laneCleared (s : State) (n k : Nat) :
    (s.laneCleared n).laneSource k = if k = n then { s.laneSource n with severeUntil := none, count := 0 } else s.laneSource k := by
  rw [State.laneCleared, State.laneSource_endHoldOf, State.laneSource_setLaneSource]

/-- The lanes of a mask, cleared. -/
def State.lanesCleared (s : State) (mask : Nat) : State := (bitsSet mask 24).foldl State.laneCleared s

theorem clearLanesOp_accepted (h : mask < 2 ^ 24) : clearLanesOp mask s = .ok (s.lanesCleared mask) := if_neg (Nat.not_le.2 h)

theorem touches_lanesCleared (s : State) (mask : Nat) : Touches [.faults] [] s (s.lanesCleared mask) := touches_foldl touches_laneCleared _ s

theorem State.laneSource_lanesCleared (s : State) (mask : Nat) (hk : k < 24) : (s.lanesCleared mask).laneSource k =
    if bit mask k = true then { s.laneSource k with severeUntil := none, count := 0 } else s.laneSource k := by
  refine (bank_foldl (look := State.laneSource) (G := fun _ y => { y with severeUntil := none, count := 0 }) (P := fun _ => True) (fun _ _ h => h)
    (fun u n j _ => u.laneSource_laneCleared n j) (List.nodup_range.filter _) trivial k).trans (if_congr ?_ rfl rfl)
  simp [hk]

/-- An address that the host clears. -/
def State.addressCleared (s : State) (a : Nat) : State :=
  (s.setAddressSource (s.addressEntry a) { s.addressSource (s.addressEntry a) with severeUntil := none, count := 0 }).endHoldOf false (s.addressHash a)
    (s.addressSource (s.addressEntry a))

theorem clearAddressOp_accepted {a : Nat} (h : (s.addressSource (s.addressEntry a)).tracked = true) (ha : (s.addressSource (s.addressEntry a)).address = a) :
    clearAddressOp a s = .ok (s.addressCleared a) := if_pos ⟨h, ha⟩

theorem touches_addressCleared (s : State) (a : Nat) : Touches [.faults] [] s (s.addressCleared a) :=
  (touches_setAddressSource ..).trans (touches_endHoldOf ..)

theorem State.addressSource_addressCleared (s : State) (a k : Nat) : (s.addressCleared a).addressSource k =
    if k = s.addressEntry a then { s.addressSource (s.addressEntry a) with severeUntil := none, count := 0 } else s.addressSource k := by
  rw [State.addressCleared, State.addressSource_endHoldOf, State.addressSource_setAddressSource]

/-! ### A hold that has run -/

theorem exec_severeHoldEnd_lane {t0 : Nat} (hs : InService s) (hx : (s.laneSource n).severeUntil = some t0) : exec (.severeHoldEnd (65536 + n)) s =
    .next (if s.now < t0 then s else (s.setLaneSource n { s.laneSource n with severeUntil := none }).released true n) := by
  refine exec_serving hs rfl ?_
  dsimp only
  rw [Nat.add_sub_cancel_left, decide_eq_true (Nat.le_add_right 65536 n), if_pos rfl, hx]
  dsimp only
  rw [if_pos rfl]

theorem exec_severeHoldEnd_address {t0 : Nat} (hs : InService s) (hn : n < 65536) (hx : (s.addressSource n).severeUntil = some t0) :
    exec (.severeHoldEnd n) s = .next (if s.now < t0 then s
      else (s.setAddressSource n { s.addressSource n with severeUntil := none }).released false (s.addressHash (s.addressSource n).address)) := by
  refine exec_serving hs rfl ?_
  dsimp only
  rw [decide_eq_false (Nat.not_le.2 hn), if_neg Bool.false_ne_true, hx]
  dsimp only
  rw [if_neg Bool.false_ne_true]

end Sys2Proof.Machine

namespace Sys2Proof.Proofs
open Sys2Proof Sys2Proof.Machine

/-- Settles O51: the saved sheet, the cleared words of both plates, and the sources that a hold's end or the host releases. -/
theorem theContactSheetAndTheClassifierAreCleared : Obligations.TheContactSheetAndTheClassifierAreCleared := by
  intro s tr w mask n t0 a v
  refine ⟨fun hd hr => ?_, fun hd => ?_, fun hs => ?_⟩
  · have hstore := touches_storeWrite s.sheetSaved
    have ht := (touches_sheetSaved s).andThen hstore
    refine turns_of (exec_contactSheetSave hd hr) ⟨hstore.frame .darkroom (by decide), hstore.frame .faults (by decide), ?_⟩ ht.objects ht.frame
    rw [State.storeWrite_writes, (touches_sheetSaved s).obj List.not_mem_nil]
  · exact congrArg Host.Outcome.next (if_pos (by simp [hd]))
  have hgate (i j : Nat) (hi : i = 0x2D30 ∨ i = 0x2D20) : s.gate i j = none := gate_at hs _ _ (by omega) (by omega) (by omega)
  refine ⟨?_, fun hv => ?_, fun hchosen h1 h8 => ?_, fun hx => ⟨fun ht => ?_, fun ht => ?_⟩, fun hn hx => ⟨fun ht => ?_, fun ht => ?_⟩,
    fun htracked haddr => ?_, fun hno => ?_, fun hmask => ?_, fun hmask => ?_⟩
  · exact confirms_part rfl hs (hgate _ 5 (.inl rfl)) rfl (touches_faults s _) fun r => State.respond_faults ..
  · exact refuses_of rfl hs (hgate _ 5 (.inl rfl)) (if_pos hv)
  · have ht := touches_confirmed (touches_statusCleared s w mask) tr 0x2D12 w
    have hnext : exec (.statusClear tr w mask) s = .next (settleRegister s ((s.statusCleared w mask).respond tr (.downloaded 0x2D12 w))) :=
      exec_next_of rfl (congrArg (settleRegister s) (command_ok (listens_at hs) (gate_none_running hs.1 hchosen 0x2D12 w) (statusClearOp_accepted h1 h8)))
    refine turns_of hnext (fun p k hp hk => ?_) ht.objects (keeps_weaken ht.frame (by decide))
    have hfaults := (settleRegister_faults s ((s.statusCleared w mask).respond tr (.downloaded 0x2D12 w))).trans (State.respond_faults ..)
    rw [State.line, hfaults]
    exact State.line_statusCleared h8 hp hk s
  · have ht2 := (touches_setLaneSource s n { s.laneSource n with severeUntil := none }).trans (touches_released _ true n)
    refine turns_of ((exec_severeHoldEnd_lane hs hx).trans (congrArg Host.Outcome.next (if_neg (Nat.not_lt.2 ht)))) ⟨?_, fun k hk => ?_⟩ ht2.objects ht2.frame
    · exact State.laneSource_setLaneSource_self ..
    · exact (State.laneSource_setLaneSource ..).trans (if_neg hk)
  · exact (exec_severeHoldEnd_lane hs hx).trans (congrArg Host.Outcome.next (if_pos ht))
  · have ht2 := (touches_setAddressSource s n { s.addressSource n with severeUntil := none }).trans
      (touches_released _ false (s.addressHash (s.addressSource n).address))
    refine turns_of ((exec_severeHoldEnd_address hs hn hx).trans (congrArg Host.Outcome.next (if_neg (Nat.not_lt.2 ht)))) ⟨?_, fun k hk => ?_⟩
      ht2.objects ht2.frame
    · exact State.addressSource_setAddressSource_self ..
    · exact (State.addressSource_setAddressSource ..).trans (if_neg hk)
  · exact (exec_severeHoldEnd_address hs hn hx).trans (congrArg Host.Outcome.next (if_pos ht))
  · refine confirms_part rfl hs (hgate _ 0x0C (.inr rfl)) (clearAddressOp_accepted htracked haddr) (touches_addressCleared s a) fun r => ⟨?_, fun k hk => ?_⟩
    · rw [State.addressSource_respond, State.addressSource_addressCleared, if_pos rfl]
    · rw [State.addressSource_respond, State.addressSource_addressCleared, if_neg hk]
  · refine refuses_of rfl hs (hgate _ 0x0C (.inr rfl)) (if_neg fun h => ?_)
    obtain h1 | h1 := hno
    · rw [h1] at h
      exact Bool.false_ne_true h.1
    · exact h1 h.2
  · refine confirms_part rfl hs (hgate _ 0x0E (.inr rfl)) (clearLanesOp_accepted hmask) (touches_lanesCleared s mask) fun r k hk => ?_
    rw [State.laneSource_respond, State.laneSource_lanesCleared _ _ hk]
  · exact refuses_of rfl hs (hgate _ 0x0E (.inr rfl)) (if_pos hmask)

end Sys2Proof.Proofs
end

section
/-! PROOF. The collector's lines (R33, R387, R388, R390, R393, R409): what one event latches, and the fault's action on its plate. -/

namespace Sys2Proof.Machine

variable {s t u : State} {p n d k cls : Nat} {b : Bool} {tr : Transport}

/-! ### What a response leaves of the plates -/

/-- From `s` to `t` of the twin only digests and the counts of comparisons differ. -/
structure ComparedOnly (s t : State) : Prop where
  twin : ∃ g l, t.twin = { s.twin with digests := g, plates := l }
  plates : ∀ k, ∃ c, t.plate k = { s.plate k with comparesReel := c }

theorem comparedOnly_of_twin (h : t.twin = s.twin) : ComparedOnly s t := ⟨⟨_, _, h⟩, fun k => ⟨_, State.plate_congr h k⟩⟩

theorem ComparedOnly.trans (h : ComparedOnly s t) (g : ComparedOnly t u) : ComparedOnly s u := by
  obtain ⟨g1, l1, h1⟩ := h.twin
  obtain ⟨g2, l2, h2⟩ := g.twin
  refine ⟨⟨g2, l2, by rw [h2, h1]⟩, fun k => ?_⟩
  obtain ⟨c1, e1⟩ := h.plates k
  obtain ⟨c2, e2⟩ := g.plates k
  exact ⟨c2, by rw [e2, e1]⟩

theorem comparedOnly_count (s : State) (p c : Nat) : ComparedOnly s (s.setPlate p { s.plate p with comparesReel := c }) := by
  refine ⟨⟨_, _, rfl⟩, fun k => ?_⟩
  rw [State.plate_setPlate]
  split
  · next h => exact ⟨c, by rw [h]⟩
  · exact ⟨_, rfl⟩

theorem comparedOnly_comparedDigest (s : State) (p d v : Nat) : ComparedOnly s (s.comparedDigest p d v) := by
  unfold State.comparedDigest
  split
  · exact comparedOnly_of_twin rfl
  · have hdigest (g : Table Nat) : ComparedOnly s { s with twin := { s.twin with digests := g } } := ⟨⟨_, _, rfl⟩, fun k => ⟨_, rfl⟩⟩
    exact (hdigest _).trans ((comparedOnly_count _ 0 _).trans (comparedOnly_count _ 1 _))

theorem comparedOnly_respond (s : State) (tr : Transport) (r : UsdoResponse) : ComparedOnly s (s.respond tr r) := by
  have hcompared : ComparedOnly s (if r.perPlate then s.bump 0x2004 1 else (s.bump 0x2004 1).compared 6 0 (OutFrame.usdo s.node r).body) := by
    split
    · exact comparedOnly_of_twin (State.bump_twin ..)
    · exact (comparedOnly_of_twin (State.bump_twin ..)).trans (comparedOnly_comparedDigest ..)
  unfold State.respond
  cases tr with
  | can => exact hcompared.trans (comparedOnly_of_twin rfl)
  | spi => exact hcompared.trans (comparedOnly_of_twin (State.pushSpi_twin ..))

@[simp] theorem State.line_respond (s : State) (tr : Transport) (r : UsdoResponse) (p n : Nat) : (s.respond tr r).line p n = s.line p n := by
  rw [State.line, State.respond_faults, State.line]

/-! ### One event -/

/-- One event alone that does not become fatal. -/
theorem State.latchAll_one {c : Nat} (h : s.latch p n cls d b = (u, c)) (hc : c ≠ 3) : s.latchAll [⟨p, n, cls, d⟩] b = u := by
  have hone : latchOne b (s, [], []) ⟨p, n, cls, d⟩ = (u, [], []) := by
    unfold latchOne
    dsimp only
    rw [h]
    exact (if_neg fun h3 => hc h3.1).trans (if_neg hc)
  rw [State.latchAll_eq, List.foldl_cons, List.foldl_nil, hone]
  rfl

/-- One fatal event alone, but not the darkroom's own. -/
theorem State.latchAll_fatal (hp : p < 2) (h : s.latch p n cls d b = (u, 3)) (hline : n ≠ darkroomLine ∨ b = true) :
    s.latchAll [⟨p, n, cls, d⟩] b = u.fatalOn p := by
  have hone : latchOne b (s, [], []) ⟨p, n, cls, d⟩ = if p = 0 then (u, [n], []) else (u, [], [n]) := by
    unfold latchOne
    dsimp only
    rw [h]
    refine (if_neg fun hc => ?_).trans (if_pos rfl)
    obtain h1 | h1 := hline
    · exact h1 hc.2.1
    · exact Bool.false_ne_true (hc.2.2.symm.trans h1)
  rw [State.latchAll_eq, List.foldl_cons, List.foldl_nil, hone]
  obtain rfl | rfl : p = 0 ∨ p = 1 := by omega
  · rfl
  · rfl

/-- The darkroom's line is never a plate's fault (R33). -/
theorem State.latchAll_darkroom (h : s.latch p darkroomLine cls d false = (u, 3)) : s.latchAll [⟨p, darkroomLine, cls, d⟩] false = u.darkroomFault := by
  have hone : latchOne false (s, [], []) ⟨p, darkroomLine, cls, d⟩ = (u.darkroomFault, [], []) := by
    unfold latchOne
    dsimp only
    rw [h]
    exact if_pos ⟨rfl, rfl, rfl⟩
  rw [State.latchAll_eq, List.foldl_cons, List.foldl_nil, hone]
  rfl

/-- The line after a corrected event within the limits of 0x2D01 (R390). -/
def Line.correctedAt (l : Line) (now : Nat) : Line :=
  { l with status := true, last := 1, lastTime := now, corrected := (l.corrected + 1) % 2 ^ 32, reelCorrected := l.reelCorrected + 1 }

theorem State.latch_corrected (h1 : (s.line p n).reelCorrected + 1 ≤ s.obj 0x2D01 1) (h2 : (s.line p n).reelCorrected + 1 ≠ s.obj 0x2D01 2) :
    s.latch p n 1 d b = (if b then (s.setLine p n ((s.line p n).correctedAt (toTime112 s.tai))).record p 0x09 n 0 (1 * 2 ^ 24)
      else s.setLine p n ((s.line p n).correctedAt (toTime112 s.tai)), 1) := by
  have hfirst : decide (s.obj 0x2D01 1 < (s.line p n).reelCorrected + 1) = false := decide_eq_false (Nat.not_lt.2 h1)
  unfold State.latch
  dsimp only
  rw [if_pos rfl, hfirst, if_neg h2, Bool.false_and, Bool.or_false]
  rfl

/-- The line after a contained event (R393). -/
def Line.containedAt (l : Line) (now112 now : Nat) : Line :=
  { l with status := true, last := 2, lastTime := now112, contained := (l.contained + 1) % 2 ^ 32, recent := now :: l.recent }

theorem State.latch_contained (h : s.escalated p n = 2) : s.latch p n 2 d b = (s.latchHard p n 2 d (2 * bitNat b), 2) := by
  unfold State.latch
  dsimp only
  rw [if_neg (by decide), if_pos rfl, h]

theorem State.latch_fatal (s : State) (p n d : Nat) (b : Bool) : s.latch p n 3 d b = (s.latchHard p n 3 d (3 * bitNat b), 3) := rfl

theorem State.line_latchHard (s : State) (p n d i : Nat) : (s.latchHard p n 2 d i).line p n = (s.line p n).containedAt (toTime112 s.tai) s.now := by
  unfold State.latchHard
  dsimp only
  rw [State.line, State.emcy_faults]
  exact State.line_setLine_self s p n ((s.line p n).containedAt (toTime112 s.tai) s.now)

/-- The plate after an event that is contained or fatal. -/
def Plate.struck (x : Plate) (cls n i : Nat) : Plate :=
  if cls = 3 then { x with fatalNow := x.fatalNow || decide (i ≠ 0 ∨ n ≠ darkroomLine) } else { x with containedNow := true }

theorem State.twin_latchHard (s : State) (p n cls d i : Nat) : (s.latchHard p n cls d i).twin = (s.setPlate p ((s.plate p).struck cls n i)).twin :=
  State.emcy_twin ..

theorem State.plate_latchHard (s : State) (p n cls d i k : Nat) :
    (s.latchHard p n cls d i).plate k = if k = p then (s.plate p).struck cls n i else s.plate k := by
  rw [State.plate_congr (s.twin_latchHard p n cls d i), State.plate_setPlate]

theorem State.state_latchHard (s : State) (p n cls d i k : Nat) : ((s.latchHard p n cls d i).plate k).state = (s.plate k).state := by
  rw [State.plate_latchHard]
  split
  · next h =>
    rw [h]
    unfold Plate.struck
    split <;> rfl
  · rfl

/-! ### The fault's action -/

theorem touches_realign (s t : State) : Touches [.ports] [] t (State.realign s t) := by
  refine touches_foldl (fun u pos => ?_) _ t
  dsimp only
  split
  · exact .refl u
  · exact touches_setPort ..

theorem within_withholdCopies (s : State) (p : Nat) : Within [.ports, .mgmt, .objs] s (s.withholdCopies p) := by
  refine within_foldl (fun u f => ?_) _ s
  cases f.request with
  | none => exact .refl u
  | some id => exact within_ite (.refl u) ((touches_txComplete ..).within (by decide))

theorem touches_dropSide (s : State) (p : Nat) : Touches [.fabric] [] s (s.dropSide p) := touches_fabric s _

/-- Of the twin a demotion changes what it sets aside and hands over. -/
theorem State.twin_demote (s : State) (p c : Nat) : (s.demote p c).twin = ((s.setAside p c).handOver p c).twin := by
  rw [State.demote_eq]
  exact ((within_withholdCopies ..).frame .twin (by decide)).trans (((touches_realign ..).frame .twin (by decide)).trans
    ((touches_dropSide ..).frame .twin (by decide)))

theorem State.twin_plateState {new c : Nat} (h : (s.plate p).state ≠ new) (h1 : new ≠ 1) :
    (s.plateState p new c).twin = (s.setPlate p { s.plate p with state := new }).twin := by
  unfold State.plateState
  dsimp only
  rw [if_neg h, if_neg h1, State.report_twin]

/-- A plate that is not the active one is demoted: its state changes, and no other plate. -/
theorem State.demote_idle (ha : s.twin.active ≠ p) (hst : (s.plate p).state ≠ 2) (c : Nat) : (s.demote p c).twin.active = s.twin.active ∧
    ∀ k, (s.demote p c).plate k = if k = p then { s.plate p with state := 2 } else s.plate k := by
  have hbump : ((s.plateState p 2 c).bump 0x2C00 5).twin = (s.setPlate p { s.plate p with state := 2 }).twin := by
    rw [State.bump_twin, State.twin_plateState hst (by decide)]
  have haside : (s.setAside p c).twin.active = s.twin.active ∧ ∀ k, (s.setAside p c).plate k = (s.setPlate p { s.plate p with state := 2 }).plate k := by
    have hactive := congrArg Twin.active hbump
    exact ⟨hactive, fun k => State.plate_congr hbump k⟩
  have hkept : (s.setAside p c).handOver p c = s.setAside p c := if_neg fun h => ha (haside.1.symm.trans h.1)
  have htwin := s.twin_demote p c
  rw [hkept] at htwin
  refine ⟨(congrArg Twin.active htwin).trans haside.1, fun k => ?_⟩
  rw [State.plate_congr htwin, haside.2, State.plate_setPlate]

/-- A fatal fault of a plate in standby demotes it (R372). -/
theorem State.fatalOn_standby (h : (s.plate p).state = 1) : s.fatalOn p = s.demote p 1 := by
  unfold State.fatalOn
  rw [h]
  rfl

/-- The standby struck by a fatal fault. -/
theorem State.latchAll_standby (hp : p < 2) (ha : s.twin.active ≠ p) (hst : (s.plate p).state = 1) (hline : n ≠ darkroomLine ∨ b = true) (d : Nat) :
    (s.latchAll [⟨p, n, 3, d⟩] b).clock = s.clock ∧ (s.latchAll [⟨p, n, 3, d⟩] b).twin.active = s.twin.active ∧
    ∀ k, (s.latchAll [⟨p, n, 3, d⟩] b).plate k = if k = p then { s.plate p with state := 2, fatalNow := true } else s.plate k := by
  have hclock := (faultOnly_latchAll s [⟨p, n, 3, d⟩] b).frame .clock (by decide)
  have hlatch (k : Nat) := s.plate_latchHard p n 3 d (3 * bitNat b) k
  have htwin := s.twin_latchHard p n 3 d (3 * bitNat b)
  have hstruck : (s.plate p).struck 3 n (3 * bitNat b) = { s.plate p with fatalNow := true } := by
    refine (if_pos rfl).trans ?_
    rw [decide_eq_true, Bool.or_true]
    cases b with
    | true => exact .inl (by decide)
    | false => exact .inr (hline.resolve_right Bool.false_ne_true)
  rw [State.latchAll_fatal hp (s.latch_fatal p n d b) hline] at hclock ⊢
  have hstate : ((s.latchHard p n 3 d (3 * bitNat b)).plate p).state = 1 := by
    rw [hlatch, if_pos rfl, hstruck]
    exact hst
  have hactive : (s.latchHard p n 3 d (3 * bitNat b)).twin.active = s.twin.active := by rw [htwin]; rfl
  rw [State.fatalOn_standby hstate] at hclock ⊢
  obtain ⟨hact, hplates⟩ := State.demote_idle (s := s.latchHard p n 3 d (3 * bitNat b)) (by rw [hactive]; exact ha) (by rw [hstate]; decide) 1
  refine ⟨hclock, hact.trans hactive, fun k => ?_⟩
  rw [hplates]
  split
  · rw [hlatch, if_pos rfl, hstruck]
  · next hk => rw [hlatch, if_neg hk]

/-- A darkroom fault marks the store invalid and leaves the plates (R389). -/
theorem State.darkroomFault_new (h : s.darkroom.fault = false) : s.darkroomFault.darkroom.valid = 0 ∧ s.darkroomFault.darkroom.fault = true ∧
    s.darkroomFault.twin = s.twin ∧ s.darkroomFault.clock = s.clock := by
  have hreport (v : State) := touches_report v 0xFF 0x05 0xFFFF 0xFFB4 0xFF 0
  unfold State.darkroomFault
  dsimp only
  rw [h, if_neg Bool.false_ne_true, (hreport _).frame .darkroom (by decide)]
  exact ⟨rfl, rfl, (hreport _).frame .twin (by decide), (hreport _).frame .clock (by decide)⟩

/-! ### Commands -/

/-- The actions of contained events that follow at the boundary are noted. -/
def State.actionsNoted (s : State) (l : List Nat) : State := { s with faults := { s.faults with actions := s.faults.actions ++ l } }

theorem touches_actionsNoted (s : State) (l : List Nat) : Touches [.faults] [] s (s.actionsNoted l) := touches_faults s _

theorem State.plate_actionsNoted (s : State) (l : List Nat) (k : Nat) : (s.actionsNoted l).plate k = s.plate k := rfl

/-- One event in service. -/
theorem exec_errorLineEvent (hr : s.boot.inReset = false) (hp : p < 2) (hn : n ≤ 240) (hc : 1 ≤ cls ∧ cls ≤ 3) :
    ∃ l, exec (.errorLineEvent [⟨p, n, cls, d⟩]) s = .next ((s.latchAll [⟨p, n, cls, d⟩] false).actionsNoted l) := by
  have hfilter : [(⟨p, n, cls, d⟩ : LineEvent)].filter lineEventOk = [⟨p, n, cls, d⟩] := by
    simp [lineEventOk, hp, hn, hc]
  refine ⟨([(⟨p, n, cls, d⟩ : LineEvent)].filter fun e => decide (e.cls = 2) && hasAction e.line).map LineEvent.line, ?_⟩
  refine exec_next_of rfl ((if_neg (by simp [hr])).trans ?_)
  dsimp only
  rw [hfilter]
  rfl

theorem injectOp_accepted (hp : s.obj 0x2E20 1 = p) (hn : s.obj 0x2E20 2 = n) (hle : n ≤ 240) (hst : cls = 3 → (s.plate p).state = 1) :
    injectOp cls s = .ok (s.latchAll [⟨p, n, cls, 0⟩] true) := by
  unfold injectOp
  dsimp only
  rw [hp, hn, if_neg fun h => ?_]
  obtain h | h := h
  · omega
  · exact h.2 (hst h.1)

theorem injectOp_refused (hn : 240 < s.obj 0x2E20 2 ∨ cls = 3 ∧ (s.plate (s.obj 0x2E20 1)).state ≠ 1) : injectOp cls s = .error 0x0A1E00C0 := if_pos hn

end Sys2Proof.Machine

namespace Sys2Proof.Proofs
open Sys2Proof Sys2Proof.Machine

/-- Settles O50: what one event latches by its class, and the demotion of a standby that it strikes. -/
theorem errorLinesLatchAndAct : Obligations.ErrorLinesLatchAndAct := by
  intro s tr p n d
  have hgate (hs : InService s) : s.gate 0x2E20 3 = none := gate_at hs _ _ (by decide) (by decide) (by decide)
  refine ⟨fun hr => congrArg Host.Outcome.next (if_pos hr), fun hr hp hn => ⟨fun h1 h2 => ?_, fun hesc => ?_, fun hline hpair hact => ?_, fun hroom => ?_⟩,
    fun hs hobj1 hobj2 hp => ⟨fun hn h1 h2 => ?_, fun hn hesc => ?_, fun hn hst ha => ?_, fun hst => ?_, fun hn => ⟨?_, ?_, ?_⟩⟩⟩
  · obtain ⟨l, hnext⟩ := exec_errorLineEvent (d := d) hr hp hn (cls := 1) (by decide)
    have hlatch := State.latch_corrected (d := d) (b := false) h1 h2
    rw [State.latchAll_one hlatch (by decide), if_neg Bool.false_ne_true] at hnext
    have ht := (touches_setLine s p n ((s.line p n).correctedAt (toTime112 s.tai))).trans (touches_actionsNoted _ l)
    exact turns_of hnext (State.line_setLine_self s p n ((s.line p n).correctedAt (toTime112 s.tai))) ht.objects ht.frame
  · obtain ⟨l, hnext⟩ := exec_errorLineEvent (d := d) hr hp hn (cls := 2) (by decide)
    have hlatch := State.latch_contained (d := d) (b := false) hesc
    rw [State.latchAll_one hlatch (by decide)] at hnext
    have ht := (touches_latchHard s p n 2 d (2 * bitNat false)).andThen (touches_actionsNoted _ l)
    refine turns_of hnext ⟨s.line_latchHard p n d _, ?_⟩ ht.objects (keeps_weaken ht.frame (by decide))
    exact (s.plate_latchHard p n 2 d _ p).trans (if_pos rfl)
  · obtain ⟨l, hnext⟩ := exec_errorLineEvent (d := d) hr hp hn (cls := 3) (by decide)
    have hst : (s.plate p).state = 1 := by
      have h := (Bool.and_eq_true_iff.1 hpair).2
      rw [hact, show 1 - (1 - p) = p by omega] at h
      exact of_decide_eq_true h
    obtain ⟨hclock, hactive, hplates⟩ := State.latchAll_standby (b := false) hp (by omega) hst (.inl hline) d
    refine completes_intro hnext ⟨hclock, ?_, ?_, hactive⟩
    · rw [State.plate_actionsNoted, hplates, if_pos rfl]
    · rw [State.plate_actionsNoted, hplates, if_neg (by omega)]
  · obtain ⟨l, hnext⟩ := exec_errorLineEvent (n := darkroomLine) (d := d) hr hp (by decide) (cls := 3) (by decide)
    have ht := touches_latchHard s p darkroomLine 3 d (3 * bitNat false)
    rw [State.latchAll_darkroom (s.latch_fatal p darkroomLine d false)] at hnext
    obtain ⟨hvalid, hfault, htwin, hclock⟩ := State.darkroomFault_new (s := s.latchHard p darkroomLine 3 d (3 * bitNat false))
      (by rw [ht.frame .darkroom (by decide), hroom])
    refine completes_intro hnext ⟨hclock.trans (ht.frame .clock (by decide)), hvalid, hfault, fun k => ?_⟩
    rw [State.plate_actionsNoted, State.plate_congr htwin, State.state_latchHard]
  · have hop := injectOp_accepted (cls := 1) hobj1 hobj2 hn fun h => absurd h (by decide)
    have hlatch := State.latch_corrected (d := 0) (b := true) h1 h2
    rw [State.latchAll_one hlatch (by decide), if_pos rfl] at hop
    have ht := (touches_setLine s p n ((s.line p n).correctedAt (toTime112 s.tai))).trans (touches_record _ p 0x09 n 0 (1 * 2 ^ 24))
    refine confirms_part rfl hs (hgate hs) hop ht fun r => ?_
    rw [State.line_respond]
    exact State.line_setLine_self s p n ((s.line p n).correctedAt (toTime112 s.tai))
  · have hop := injectOp_accepted (cls := 2) hobj1 hobj2 hn fun h => absurd h (by decide)
    have hlatch := State.latch_contained (d := 0) (b := true) hesc
    rw [State.latchAll_one hlatch (by decide)] at hop
    refine completes_intro (exec_confirmed rfl (listens_at hs) (hgate hs) hop) ⟨?_, ?_, ?_⟩
    · exact (State.respond_clock ..).trans ((touches_latchHard ..).frame .clock (by decide))
    · rw [State.line_respond]
      exact s.line_latchHard p n 0 _
    · obtain ⟨c, hplate⟩ := (comparedOnly_respond (s.latchHard p n 2 0 (2 * bitNat true)) tr (.downloaded 0x2E20 3)).plates p
      rw [hplate, State.plate_latchHard, if_pos rfl]
      rfl
  · have hop := injectOp_accepted (cls := 3) hobj1 hobj2 hn fun _ => hst
    obtain ⟨hclock, -, hplates⟩ := State.latchAll_standby (n := n) (b := true) hp ha hst (.inr rfl) 0
    refine completes_intro (exec_confirmed rfl (listens_at hs) (hgate hs) hop) ⟨(State.respond_clock ..).trans hclock, ?_⟩
    rw [State.state_respond, hplates, if_pos rfl]
  · refine refuses_of rfl hs (hgate hs) (injectOp_refused (.inr ⟨rfl, ?_⟩))
    rw [hobj1]
    exact hst
  all_goals exact refuses_of rfl hs (hgate hs) (injectOp_refused (.inl (by rw [hobj2]; exact hn)))

end Sys2Proof.Proofs
end

section
/-! PROOF. Roles, divergences and proofs of the plates (R369, R370, R372, R375, R377, R383, R420). -/

namespace Sys2Proof.Machine

variable {s t u : State} {p k n test ms cls idx c : Nat} {b : Bool}

/-! ### Divergence -/

theorem State.plate_divergenceNoted (s : State) (pt dt : Nat) (hk : k < 2) :
    (s.divergenceNoted pt dt).plate k = { s.plate k with divergences := (s.plate k).divergences + 1 } := by
  have hcount (v : State) : (([0, 1].foldl (fun (u : State) p => u.setPlate p { u.plate p with divergences := (u.plate p).divergences + 1 }) v).plate k) =
      { v.plate k with divergences := (v.plate k).divergences + 1 } :=
    (bank_foldl (look := State.plate) (G := fun _ x => { x with divergences := x.divergences + 1 }) (P := fun _ => True) (fun _ _ h => h)
      (fun u p j _ => u.plate_setPlate p j _) (by decide) trivial k).trans (if_pos (by simp only [List.mem_cons, List.not_mem_nil, or_false]; omega))
  have hnoted (v : State) : State.plate { v with twin := { v.twin with diverged := true, divergenceSent := true } } k = v.plate k := rfl
  unfold State.divergenceNoted
  dsimp only
  rw [hnoted, hcount, State.plate_congr (State.setObj_twin ..), State.plate_congr (State.bump_twin ..)]

theorem State.at_divergenceNoted (s : State) (pt dt : Nat) :
    (s.divergenceNoted pt dt).obj 0x2C00 0x0C = pt % 256 * 2 ^ 24 + dt % 256 * 2 ^ 16 + s.clock.exposure % 65536 := by
  refine (((touches_foldl (parts := [.twin]) (keys := []) (fun _ _ => touches_setPlate ..) _ _).trans (touches_twin ..)).obj List.not_mem_nil).trans ?_
  rw [State.obj_setObj_self, Int.toNat_natCast]

theorem divergence_noted (s : State) (pt dt : Nat) : Touches [.twin, .objs, .faults, .mgmt] [okey 0 0 0x2C00 6, okey 0 0 0x2C00 0x0C, lostKey] s (s.diverge pt dt) ∧
    (s.diverge pt dt).obj 0x2C00 0x0C = pt % 256 * 2 ^ 24 + dt % 256 * 2 ^ 16 + s.clock.exposure % 65536 ∧
    (s.diverge pt dt).twin = (s.divergenceNoted pt dt).twin := by
  have ht := touches_divergenceNoted s pt dt
  rw [State.diverge_eq]
  split
  · exact ⟨ht.mono (by decide) (by decide), s.at_divergenceNoted pt dt, rfl⟩
  · have hreport := touches_report (s.divergenceNoted pt dt) 0xFF 0x06 0xFFFF 0xFFA1 0xFF (pt % 256 * 2 ^ 24 + dt % 256 * 2 ^ 16 + s.clock.exposure % 65536)
    exact ⟨(ht.andThen hreport).mono (by decide) (by decide), (hreport.obj (by decide)).trans (s.at_divergenceNoted pt dt), hreport.frame .twin (by decide)⟩

/-! ### Full proof -/

/-- A plate at the end of its proof. -/
def Plate.proofEnd (x : Plate) (pass : Bool) (second test : Nat) : Plate :=
  { x with proofPassed := pass, waiting := pass, proofEnded := second, firstFailing := if pass then 0 else test }

/-- The result of a proof and its time are noted. -/
def State.proofNoted (s : State) (p : Nat) (pass : Bool) (test ms : Nat) : State :=
  (s.setPlate p ((s.plate p).proofEnd pass s.taiSecond test)).setObj 0x2C00 0x0E (ms : Nat)

/-- The host's test of a plate is over. -/
def State.testEnded (s : State) (p : Nat) : State :=
  if s.twin.testPlate = some p then ({ s with twin := { s.twin with testPlate := none } } : State).testEvent 0 false 0x2C00 else s

theorem State.endProof_eq (s : State) (p : Nat) (pass : Bool) (test ms : Nat) : s.endProof p pass test ms =
    if pass then (s.proofNoted p pass test ms).testEnded p
    else (((s.proofNoted p pass test ms).testEnded p).record p 0x06 0xFFFF 0 test).plateState p 6 4 := rfl

theorem touches_proofNoted (s : State) (p : Nat) (pass : Bool) (test ms : Nat) :
    Touches [.twin, .objs] [okey 0 0 0x2C00 0x0E] s (s.proofNoted p pass test ms) :=
  (touches_setPlate ..).andThen (touches_setObj _ 0x2C00 0x0E _)

theorem State.plate_proofNoted (s : State) (p : Nat) (pass : Bool) (test ms k : Nat) :
    (s.proofNoted p pass test ms).plate k = if k = p then (s.plate p).proofEnd pass s.taiSecond test else s.plate k := by
  rw [State.proofNoted, State.plate_congr (State.setObj_twin ..), State.plate_setPlate]

theorem State.obj_proofNoted (s : State) (p : Nat) (pass : Bool) (test ms : Nat) : (s.proofNoted p pass test ms).obj 0x2C00 0x0E = ms := by
  rw [State.proofNoted, State.obj_setObj_self, Int.toNat_natCast]

theorem touches_testEnded (s : State) (p : Nat) : Touches [.twin, .mgmt, .objs, .faults] [lostKey] s (s.testEnded p) := by
  unfold State.testEnded
  split
  · exact ((touches_twin s _).andThen (touches_report ..)).mono (by decide) (List.Subset.refl _)
  · exact .refl s

theorem State.plate_testEnded (s : State) (p k : Nat) : (s.testEnded p).plate k = s.plate k := by
  unfold State.testEnded
  split
  · exact State.plate_congr (State.report_twin ..) k
  · rfl

theorem touches_plateState {new : Nat} (s : State) (p c : Nat) : Touches [.twin, .mgmt, .objs, .faults] [lostKey] s (s.plateState p new c) := by
  unfold State.plateState
  dsimp only
  split
  · exact .refl s
  · refine Touches.trans (t := if new = 1 then _ else _) ?_ ((touches_report ..).mono (by decide) (List.Subset.refl _))
    split
    · exact ((touches_setPlate s p _).trans (touches_twin ..)).mono (by decide) (List.nil_subset _)
    · exact (touches_setPlate ..).mono (by decide) (List.nil_subset _)

theorem State.plate_plateState {new : Nat} (s : State) (p c k : Nat) :
    (s.plateState p new c).plate k = if k = p then { s.plate p with state := new } else s.plate k := by
  unfold State.plateState
  dsimp only
  split
  · next h =>
    split
    · next hk =>
      subst hk
      rw [← h]
    · rfl
  · rw [State.plate_congr (State.report_twin ..)]
    have hset : ∀ l : Bool, State.plate (if l then { s.setPlate p { s.plate p with state := new } with
        twin := { (s.setPlate p { s.plate p with state := new }).twin with lastStandby := p } } else s.setPlate p { s.plate p with state := new }) k =
        (s.setPlate p { s.plate p with state := new }).plate k := fun l => by cases l <;> rfl
    have h1 := hset (decide (new = 1))
    simp only [decide_eq_true_eq] at h1
    rw [h1, State.plate_setPlate]

/-- The end of a proof, plate by plate (R377). -/
theorem State.endProof_facts (s : State) (p : Nat) (pass : Bool) (test ms : Nat) :
    Touches [.twin, .objs, .faults, .mgmt] [okey 0 0 0x2C00 0x0E, lostKey] s (s.endProof p pass test ms) ∧ (s.endProof p pass test ms).obj 0x2C00 0x0E = ms ∧
    ∀ k, (s.endProof p pass test ms).plate k = if k = p then
      (if pass then (s.plate p).proofEnd true s.taiSecond test else { (s.plate p).proofEnd false s.taiSecond test with state := 6 }) else s.plate k := by
  have hended := touches_testEnded (s.proofNoted p pass test ms) p
  have ht := (touches_proofNoted s p pass test ms).andThen hended
  have hobj : ((s.proofNoted p pass test ms).testEnded p).obj 0x2C00 0x0E = ms := (hended.obj (by decide)).trans (s.obj_proofNoted p pass test ms)
  have hplate (k : Nat) := ((s.proofNoted p pass test ms).plate_testEnded p k).trans (s.plate_proofNoted p pass test ms k)
  rw [State.endProof_eq]
  cases pass with
  | true => exact ⟨ht.mono (by decide) (by decide), hobj, hplate⟩
  | false =>
    rw [if_neg Bool.false_ne_true]
    have hrecord := touches_record ((s.proofNoted p false test ms).testEnded p) p 0x06 0xFFFF 0 test
    have hstate := touches_plateState (new := 6) (((s.proofNoted p false test ms).testEnded p).record p 0x06 0xFFFF 0 test) p 4
    refine ⟨((ht.andThen hrecord).andThen hstate).mono (by decide) (by decide), ((hrecord.andThen hstate).obj (by decide)).trans hobj, fun k => ?_⟩
    have hkept (j : Nat) := (State.plate_congr (hrecord.frame .twin (by decide)) j).trans (hplate j)
    rw [State.plate_plateState, hkept, hkept]
    split <;> simp

theorem exec_proofComplete (hp : p < 2) (h3 : (s.plate p).state = 3) (hw : (s.plate p).waiting = false) (hb : s.boot.phase = 2 ∨ s.serving = true)
    (b : Bool) (test ms : Nat) : exec (.proofComplete p b test ms) s = .next (s.endProof p b test ms).proofsDone :=
  congrArg Host.Outcome.next (if_pos ⟨hp, h3, hw, hb⟩)

theorem State.proofsDone_later (h : s.boot.phase ≠ 2) : s.proofsDone = s := if_pos (.inl h)

/-- Both plates have a result in phase 2 (R420). -/
theorem State.proofsDone_both (h2 : s.boot.phase = 2) (hdone : ∀ k, k < 2 → (s.plate k).waiting = true ∨ (s.plate k).state = 6) :
    s.proofsDone.clock = s.clock ∧ s.proofsDone.boot.phase = if (s.plate 0).state = 6 ∧ (s.plate 1).state = 6 then 6 else 3 := by
  have hboth (k : Nat) (hk : k < 2) : ((s.plate k).waiting || decide ((s.plate k).state = 6)) = true := by simpa using hdone k hk
  unfold State.proofsDone
  dsimp only
  rw [if_neg (by simp only [h2, hboth 0 (by decide), hboth 1 (by decide)]; decide)]
  split <;> exact ⟨rfl, rfl⟩

/-- The second result of phase 2 ends it: in boot-hold where both plates have failed. -/
theorem State.lastProof_phase (h2 : s.boot.phase = 2) (hp : p < 2) (h3 : (s.plate p).state = 3)
    (hother : (s.plate (1 - p)).waiting = true ∨ (s.plate (1 - p)).state = 6) (b : Bool) (test ms : Nat) :
    (s.endProof p b test ms).proofsDone.clock = s.clock ∧
    (s.endProof p b test ms).proofsDone.boot.phase = if b = false ∧ (s.plate (1 - p)).state = 6 then 6 else 3 := by
  obtain ⟨ht, -, hplate⟩ := s.endProof_facts p b test ms
  have hstill : (s.endProof p b test ms).plate (1 - p) = s.plate (1 - p) := (hplate (1 - p)).trans (if_neg (by omega))
  have hself : ((s.endProof p b test ms).plate p).waiting = b ∧ (((s.endProof p b test ms).plate p).state = 6 ↔ b = false) := by
    rw [hplate p, if_pos rfl]
    cases b with
    | true => exact ⟨rfl, by simp [Plate.proofEnd, h3]⟩
    | false => exact ⟨rfl, by simp⟩
  have hdone : ∀ k, k < 2 → ((s.endProof p b test ms).plate k).waiting = true ∨ ((s.endProof p b test ms).plate k).state = 6 := by
    intro k hk
    obtain rfl | rfl : k = p ∨ k = 1 - p := by omega
    · rw [hself.1, hself.2]
      cases b <;> simp
    · rw [hstill]
      exact hother
  obtain ⟨hclock, hphase⟩ := State.proofsDone_both ((congrArg Boot.phase (ht.frame .boot (by decide))).trans h2) hdone
  refine ⟨hclock.trans (ht.frame .clock (by decide)), hphase.trans (if_congr ?_ rfl rfl)⟩
  obtain rfl | rfl : p = 0 ∨ p = 1 := by omega
  · rw [hself.2, hstill]
  · rw [hself.2, hstill, and_comm]

/-! ### The reset of one plate, and proofs in sleep -/

theorem State.enterProof_facts (s : State) (p c : Nat) : Touches [.twin, .objs, .faults, .mgmt] [lostKey] s (s.enterProof p c) ∧
    (s.enterProof p c).plate p = { s.plate p with state := 3, waiting := false, resetAt := none } := by
  have hset := touches_setPlate s p { s.plate p with waiting := false, resetAt := none }
  have ht := hset.andThen (touches_plateState (new := 3) _ p c)
  have hplate : ((s.setPlate p { s.plate p with waiting := false, resetAt := none }).plateState p 3 c).plate p =
      { s.plate p with state := 3, waiting := false, resetAt := none } := by
    rw [State.plate_plateState, if_pos rfl, State.plate_setPlate_self]
  unfold State.enterProof
  dsimp only
  split
  · exact ⟨(ht.andThen (touches_report ..)).mono (by decide) (by decide), (State.plate_congr (State.report_twin ..) p).trans hplate⟩
  · exact ⟨ht.mono (by decide) (by decide), hplate⟩

/-- The standby after the self-test of a domain in sleep (R375). -/
def Plate.asleepProof (x : Plate) (pass : Bool) : Plate :=
  { x with asleepReel := x.asleepReel + 1, asleepRan := true, asleepFail := if pass then x.asleepFail else x.asleepFail + 1 }

theorem State.standby_of (h : s.paired = true) : s.standby = some (1 - s.twin.active) := if_pos h

theorem exec_asleepDomainProof (hs : InService s) (hp : s.paired = true) (hf : s.proofFits cls idx = true) (b : Bool) :
    exec (.asleepDomainProof cls idx b) s = .next (if b then s.setPlate (1 - s.twin.active) ((s.plate (1 - s.twin.active)).asleepProof b)
      else (s.setPlate (1 - s.twin.active) ((s.plate (1 - s.twin.active)).asleepProof b)).fatal (1 - s.twin.active) (domainLine cls idx) 0) := by
  refine exec_serving hs rfl ?_
  rw [State.standby_of hp]
  exact if_neg (by simp [hf])

theorem domainLine_ne_darkroom (h1 : 1 ≤ cls) (h4 : cls ≤ 4) (hidx : idx < 16) : domainLine cls idx ≠ darkroomLine := by
  unfold darkroomLine
  obtain rfl | rfl | rfl | rfl : cls = 1 ∨ cls = 2 ∨ cls = 3 ∨ cls = 4 := by omega
  all_goals
    simp only [domainLine]
    omega

theorem State.classes_of_fits (h : s.proofFits cls idx = true) : 1 ≤ cls ∧ cls ≤ 4 := by
  unfold State.proofFits at h
  simp only [Bool.and_eq_true, decide_eq_true_eq] at h
  exact h.1.1.1.1

end Sys2Proof.Machine

namespace Sys2Proof.Proofs
open Sys2Proof Sys2Proof.Machine

/-- Settles O48: the role commands in the pair, the divergence noted, the proof by its result and phase, and the test in sleep. -/
theorem rolesChangeAndPlatesAreProved : Obligations.RolesChangeAndPlatesAreProved := by
  intro s tr p pt dt test ms cls idx t0 b
  have hgate (hs : InService s) : s.gate 0x2C00 4 = none := gate_at hs _ _ (by decide) (by decide) (by decide)
  refine ⟨fun hs hpair => ⟨?_, ?_⟩, fun hs hpair => ⟨?_, ?_, ?_⟩, fun hs hpair hjoin => ?_, fun hs hpair hjoin hpt => ?_, fun hs hp h3 hw htest => ⟨?_, ?_⟩,
    fun h2 hp h3 hw => ⟨fun hother hst => ?_, fun hother => ?_⟩, fun hs h5 hreset => ⟨fun hdue => ?_, fun hearly => ?_⟩, fun hs hfit => ?_,
    fun hs hpair hidx hfit => ⟨?_, fun hact => ?_⟩⟩
  · refine confirms_touches rfl hs (hgate hs) (if_pos hpair) ((touches_twin s _).mono (by decide) (List.nil_subset _)) fun r => ?_
    obtain ⟨g, l, htwin⟩ := (comparedOnly_respond { s with twin := { s.twin with swapPending := true } } tr r).twin
    rw [htwin]
  · refine confirms_touches rfl hs (hgate hs) (if_pos hpair) ((touches_twin s _).mono (by decide) (List.nil_subset _)) fun r => ?_
    obtain ⟨g, l, htwin⟩ := (comparedOnly_respond { s with twin := { s.twin with proofPending := true } } tr r).twin
    rw [htwin]
  · exact refuses_of rfl hs (hgate hs) (if_neg (by simp [hpair]))
  · exact refuses_of rfl hs (hgate hs) (if_neg (by simp [hpair]))
  · exact exec_serving hs rfl (if_pos (by simp [hpair]))
  · have hnext : exec (.divergence pt dt) s = .next (s.diverge pt dt) := by
      refine exec_serving hs rfl (if_neg ?_)
      obtain h | ⟨h2, h7⟩ := hjoin
      · simp [hpair, h]
      · simp [hpair, h2, h7]
    obtain ⟨ht, hat, htwin⟩ := divergence_noted s pt dt
    obtain ⟨-, -, hcount⟩ := State.diverge_facts s pt dt
    refine turns_of hnext ⟨hcount, hat, ?_, ?_, fun k hk => ?_⟩ ht.objects ht.frame
    · rw [htwin]; rfl
    · rw [htwin]; rfl
    · rw [State.plate_congr htwin, State.plate_divergenceNoted s pt dt hk]
  · obtain ⟨j, hj⟩ := Option.ne_none_iff_exists'.1 hjoin
    exact exec_serving hs rfl (if_pos (by simp [hj, hpt]))
  · have hnext := exec_proofComplete hp h3 hw (.inr (serving_at hs)) true test ms
    have hkept : (s.proofNoted p true test ms).testEnded p = s.proofNoted p true test ms := if_neg htest
    have ht := touches_proofNoted s p true test ms
    rw [State.endProof_eq, if_pos rfl, hkept, State.proofsDone_later (by rw [ht.frame .boot (by decide), hs.1]; decide)] at hnext
    exact turns_of hnext ⟨s.obj_proofNoted p true test ms, (s.plate_proofNoted p true test ms p).trans (if_pos rfl)⟩ ht.objects ht.frame
  · have hnext := exec_proofComplete hp h3 hw (.inr (serving_at hs)) false test ms
    obtain ⟨ht, hobj, hplate⟩ := s.endProof_facts p false test ms
    rw [State.proofsDone_later (by rw [ht.frame .boot (by decide), hs.1]; decide)] at hnext
    exact turns_of hnext ⟨hobj, (hplate p).trans (if_pos rfl)⟩ ht.objects ht.frame
  · obtain ⟨hclock, hphase⟩ := State.lastProof_phase h2 hp h3 (.inl hother) b test ms
    refine completes_intro (exec_proofComplete hp h3 hw (.inl h2) b test ms) ⟨hphase.trans (if_neg fun h => hst h.2), hclock⟩
  · obtain ⟨hclock, hphase⟩ := State.lastProof_phase h2 hp h3 (.inr hother) b test ms
    refine completes_intro (exec_proofComplete hp h3 hw (.inl h2) b test ms) ⟨hphase.trans ?_, hclock⟩
    cases b <;> simp [hother]
  · obtain ⟨ht, hplate⟩ := s.enterProof_facts p 5
    refine turns_of (exec_serving hs rfl ?_) hplate ht.objects ht.frame
    rw [hreset]
    exact if_pos ⟨h5, hdue⟩
  · refine exec_serving hs rfl ?_
    rw [hreset]
    exact if_neg fun h => by omega
  · refine exec_serving hs rfl ?_
    cases s.standby with
    | none => rfl
    | some q => exact if_pos (by simp [hfit])
  · have ht := touches_setPlate s (1 - s.twin.active) ((s.plate (1 - s.twin.active)).asleepProof true)
    exact turns_of ((exec_asleepDomainProof hs hpair hfit true).trans (congrArg Host.Outcome.next (if_pos rfl))) (State.plate_setPlate_self ..) ht.objects ht.frame
  · have hst : (s.plate (1 - s.twin.active)).state = 1 := of_decide_eq_true (Bool.and_eq_true_iff.1 hpair).2
    have hcls := State.classes_of_fits hfit
    have hplate := s.plate_setPlate_self (1 - s.twin.active) ((s.plate (1 - s.twin.active)).asleepProof false)
    obtain ⟨hclock, -, hplates⟩ := State.latchAll_standby (s := s.setPlate (1 - s.twin.active) ((s.plate (1 - s.twin.active)).asleepProof false))
      (p := 1 - s.twin.active) (n := domainLine cls idx) (b := false) (by omega) (by show s.twin.active ≠ _; omega) (by rw [hplate]; exact hst)
      (.inl (domainLine_ne_darkroom hcls.1 hcls.2 hidx)) 0
    have hself := (hplates (1 - s.twin.active)).trans (if_pos rfl)
    rw [hplate] at hself
    refine completes_intro ((exec_asleepDomainProof hs hpair hfit false).trans (congrArg Host.Outcome.next (if_neg Bool.false_ne_true))) ⟨?_, ?_, hclock⟩
    · rw [State.fatal, hself]
    · rw [State.fatal, hself]
      rfl

end Sys2Proof.Proofs
end

section
/-! PROOF. A plate rejoins (R377, R380, R382): re-synchronisation in its steps and the join. -/

namespace Sys2Proof.Machine

variable {s t u : State} {p r j k : Nat} {a b : Bool}

/-! ### The start -/

theorem State.atCycle0Of_start (hc : s.clock.cycle = 0) (hd : s.clock.exposureDue = false) {e : Nat} (he : s.clock.exposures = e) : s.atCycle0Of e = true := by
  simp [State.atCycle0Of, hc, hd, he]

theorem State.atCycle0Of_not {e : Nat} (h : s.clock.exposures ≠ e ∨ s.clock.cycle ≠ 0 ∨ s.clock.exposureDue = true) : s.atCycle0Of e = false := by
  unfold State.atCycle0Of
  obtain h | h | h := h <;> simp [h]

theorem touches_remaskPlate (s : State) (p : Nat) : Touches [.keys] [] s (s.remaskPlate p) := by
  refine touches_foldl (fun u n => ?_) _ s
  dsimp only
  split
  · exact .refl u
  · exact (touches_keys u _).trans (touches_setSlot ..)

/-- The mirror starts, and every key slot of the plate has new masks (R332, R380). -/
def State.resyncBegun (s : State) (p : Nat) (again : Bool) : State :=
  ({ s with twin := { s.twin with mirror := true, resync := some (p, s.clock.exposures, again), snapshot := false, digestsEqual := false } } : State).remaskPlate p

theorem State.twin_resyncBegun (s : State) (p : Nat) (again : Bool) : (s.resyncBegun p again).twin =
    { s.twin with mirror := true, resync := some (p, s.clock.exposures, again), snapshot := false, digestsEqual := false } :=
  (touches_remaskPlate ..).frame .twin (by decide)

theorem State.clock_resyncBegun (s : State) (p : Nat) (again : Bool) : (s.resyncBegun p again).clock = s.clock :=
  (touches_remaskPlate ..).frame .clock (by decide)

/-- A plate that waited begins to re-synchronise. -/
def State.resyncing (s : State) (p : Nat) : State := (s.setPlate p { s.plate p with waiting := false }).plateState p 4 4

theorem exec_resyncStart_idle (hs : InService s)
    (h : (s.plate (1 - p)).state ≠ 0 ∨ (s.plate (1 - p)).fatalLast = true ∨ s.clock.cycle ≠ 0 ∨ s.clock.exposureDue = true) :
    exec (.resyncStart p) s = .next s := by
  refine exec_serving hs rfl (if_pos (Or.inr ?_))
  obtain h | h | h := h
  · exact .inr (.inl h)
  · exact .inr (.inr h)
  · exact .inl (State.atCycle0Of_not (.inr h))

section start
variable (hs : InService s) (hp : p < 2) (hc : s.clock.cycle = 0) (hd : s.clock.exposureDue = false) (ho : (s.plate (1 - p)).state = 0)
  (hf : (s.plate (1 - p)).fatalLast = false)
include hs hp hc hd ho hf

theorem exec_resyncStart_waiting (h3 : (s.plate p).state = 3) (hw : (s.plate p).waiting = true) :
    exec (.resyncStart p) s = .next ((s.resyncing p).resyncBegun p false) := by
  refine exec_serving hs rfl ((if_neg ?_).trans (if_pos ⟨h3, hw⟩))
  simp only [State.atCycle0Of_start hc hd rfl, ho, hf]
  simp
  omega

theorem exec_resyncStart_again (h4 : (s.plate p).state = 4) (hr : s.twin.resync = some (p, r, true)) (hm : s.twin.mirror = false) :
    exec (.resyncStart p) s = .next (s.resyncBegun p true) := by
  refine exec_serving hs rfl ((if_neg ?_).trans ((if_neg ?_).trans ?_))
  · simp only [State.atCycle0Of_start hc hd rfl, ho, hf]
    simp
    omega
  · simp [h4]
  · dsimp only
    rw [hr]
    exact if_pos ⟨rfl, h4, hm⟩

end start

/-! ### The comparison of the digests -/

/-- A second mismatch fails the plate (R382). -/
def State.digestFailed (s : State) (p : Nat) : State := (s.stopResync.bump 0x2C00 8).plateState p 6 7

theorem exec_digestCompare (hs : InService s) (hr : s.twin.resync = some (p, r, a)) (hsnap : s.twin.snapshot = true) (heq : s.twin.digestsEqual = false)
    (he : s.clock.exposures = r + 10) (hc : s.clock.cycle = 999999) (b : Bool) : exec (.digestCompare b) s =
      .next (if b then { s with twin := { s.twin with digestsEqual := true } } else if a then s.digestFailed p
        else { s with twin := { s.twin with mirror := false, snapshot := false, resync := some (p, r, true) } }) := by
  refine exec_serving hs rfl ?_
  rw [hr]
  dsimp only
  rw [if_neg (by simp [hsnap, heq, he, hc])]
  rfl

theorem State.digestFailed_facts (s : State) (p : Nat) (h : (s.plate p).state ≠ 6) :
    Touches [.twin, .objs, .faults, .mgmt] [okey 0 0 0x2C00 8, lostKey] s (s.digestFailed p) ∧
    (s.digestFailed p).twin = (s.stopResync.setPlate p { s.plate p with state := 6 }).twin ∧
    (s.digestFailed p).obj 0x2C00 8 = (s.obj 0x2C00 8 + 1) % 2 ^ 32 := by
  have hbump := touches_bump s.stopResync 0x2C00 8
  have hplate : (s.stopResync.bump 0x2C00 8).plate p = s.plate p := State.plate_congr (hbump.frame .twin (by decide)) p
  have hstate := touches_plateState (new := 6) (s.stopResync.bump 0x2C00 8) p 7
  refine ⟨(((touches_stopResync s).andThen hbump).andThen hstate).mono (by decide) (by decide), ?_, ?_⟩
  · rw [State.digestFailed, State.twin_plateState (by rw [hplate]; exact h) (by decide), hplate]
    exact congrArg (fun y : Twin => { y with plates := y.plates.put (fun _ => {}) p { s.plate p with state := 6 } }) (hbump.frame .twin (by decide))
  · rw [State.digestFailed, hstate.obj (by decide), obj_bump, if_pos rfl, (touches_stopResync s).obj List.not_mem_nil]

/-! ### What the end of cross-drive flushes -/

/-- The objects of the lanes' own counters, and of the lost messages. -/
def laneIndex (i : Nat) : Prop := i = 0x2004 ∨ 0x3400 ≤ i ∧ i < 0x3418

theorem laneIndex_counter {n b : Nat} (hn : n < 24) (hb : b < 256) : laneIndex (okeyIndex (okey 0 0 (0x3400 + n) b)) := by
  refine .inr ?_
  unfold okeyIndex okey
  omega

theorem State.portNumber_le (s : State) (n : Nat) : s.portNumber n ≤ n := by
  unfold State.portNumber
  split <;> omega

theorem offered_txComplete {n : Nat} (s : State) (hn : n < 24) (id st : Nat) (copy : Bool) (time : Nat) : Offered laneIndex s (s.txComplete n id st copy time) := by
  refine (touches_txComplete ..).offered (by decide) fun k hk => ?_
  simp only [List.mem_cons, List.not_mem_nil, or_false] at hk
  obtain rfl | rfl := hk
  · exact laneIndex_counter (Nat.lt_of_le_of_lt (s.portNumber_le n) hn) (by decide)
  · exact .inl (by decide)

theorem offered_setPort (s : State) (n : Nat) (x : Port) : Offered laneIndex s (s.setPort n x) :=
  (touches_setPort s n x).offered (by decide) fun _ h => absurd h List.not_mem_nil

theorem offered_laneCount {n b : Nat} (s : State) (hn : n < 24) (hb : b < 256) (c : Nat) : Offered laneIndex s (s.bumpBy (0x3400 + n) b c) :=
  (touches_bumpBy s (0x3400 + n) b c).offered (by decide) fun k hk => by
    rw [List.mem_singleton] at hk
    rw [hk]
    exact laneIndex_counter hn hb

theorem offered_flushSending {n : Nat} (s : State) (hn : n < 24) : Offered laneIndex s (s.flushSending n) := by
  unfold State.flushSending
  dsimp only
  split
  · exact .refl s
  · have hsent := offered_setPort s n { s.port n with sending := none }
    split
    · exact hsent
    · have hcount := hsent.trans (offered_laneCount _ hn (by decide : 0x1D < 256) 1)
      split
      · exact hcount
      · exact (hcount.trans (offered_setPort ..)).trans (offered_txComplete _ hn ..)

theorem offered_flushLane {n : Nat} (s : State) (hn : n < 24) : Offered laneIndex s (s.flushLane n) := by
  refine (offered_flushSending s hn).trans (offered_foldl (fun u c => ?_) _ _)
  have hqueue : Offered laneIndex u (u.setQueue (n / 12) (8 * (n % 12) + c) []) := (touches_setQueue ..).offered (by decide) fun _ h => absurd h List.not_mem_nil
  refine (hqueue.trans (offered_laneCount _ hn (by decide : 0x1D < 256) _)).trans (offered_foldl (fun v f => ?_) _ _)
  cases f.request with
  | none => exact .refl v
  | some id => exact offered_txComplete v hn ..

theorem offered_endCross (s t : State) : Offered laneIndex t (State.endCross s t) := by
  have hlanes (l : List Nat) (hl : ∀ pos ∈ l, pos < 12) (v : State) : Offered laneIndex v (l.foldl (fun (u : State) pos =>
      if s.crossed pos && !t.crossed pos then u.flushLane (pos + 12 * (1 - s.twin.active)) else u) v) := by
    induction l generalizing v with
    | nil => exact .refl v
    | cons pos l ih =>
      refine Offered.trans ?_ (ih (fun q hq => hl q (List.mem_cons_of_mem _ hq)) _)
      dsimp only
      split
      · have := hl pos List.mem_cons_self
        exact offered_flushLane v (by omega)
      · exact .refl v
  exact hlanes _ (fun pos hpos => List.mem_range.1 hpos) t

/-! ### The join -/

/-- The figures of a plate that joins (Table 14.4). -/
def State.joinPlate (s : State) (p : Nat) : Plate :=
  { s.plate p with inStepSince := s.taiSecond, divergences := 0, katFail := 0, asleepFail := 0, scrubAt := s.now }

/-- The plate is standby. -/
def State.joinStandby (s : State) (p : Nat) : State := (s.setPlate p (s.joinPlate p)).plateState p 1 5

/-- The join is noted, and a gap of the last plate is over. -/
def State.joinNoted (s : State) (p : Nat) : State :=
  { s.joinStandby p with twin := { (s.joinStandby p).twin with joinedAt := some s.clock.exposures, lastPlateGap := false } }

/-- Cross-drive ends, and the plate's own queues start empty. -/
def State.joinRouted (s : State) (p : Nat) : State := (State.endCross s (State.realign s (s.joinNoted p))).dropSide p

/-- The join is counted and stamped. -/
def State.joinCounted (s : State) (p : Nat) : State := ((s.joinRouted p).bump 0x2C00 7).setObj 0x2C00 0x0D s.taiSecond

theorem State.plate_joinNoted (s : State) (p k : Nat) :
    (s.joinNoted p).plate k = if k = p then { s.joinPlate p with state := 1 } else s.plate k := by
  have hstandby : (s.joinStandby p).plate k = if k = p then { s.joinPlate p with state := 1 } else (s.setPlate p (s.joinPlate p)).plate k := by
    rw [State.joinStandby, State.plate_plateState, State.plate_setPlate_self]
  refine Eq.trans rfl (hstandby.trans ?_)
  split
  · rfl
  · next hk => rw [State.plate_setPlate, if_neg hk]

theorem touches_joinNoted (s : State) (p : Nat) : Touches [.twin, .mgmt, .objs, .faults] [lostKey] s (s.joinNoted p) :=
  ((touches_setPlate s p (s.joinPlate p)).andThen (touches_plateState ..)).trans ((touches_twin ..).mono (by decide) (List.nil_subset _)) |>.mono
    (by decide) (by decide)

theorem offered_joinRouted (s : State) (p : Nat) : Offered laneIndex (s.joinNoted p) (s.joinRouted p) :=
  (((touches_realign ..).offered (by decide) fun _ h => absurd h List.not_mem_nil).trans (offered_endCross s _)).trans
    ((touches_dropSide ..).offered (by decide) fun _ h => absurd h List.not_mem_nil)

theorem touches_joinCounted (s : State) (p : Nat) :
    Touches [.objs] [okey 0 0 0x2C00 7, okey 0 0 0x2C00 0x0D] (s.joinRouted p) (s.joinCounted p) :=
  ((touches_bump _ 0x2C00 7).andThen (touches_setObj _ 0x2C00 0x0D _)).mono (by decide) (List.Subset.refl _)

theorem State.obj_joinCounted (s : State) (p : Nat) :
    (s.joinCounted p).obj 0x2C00 7 = (s.obj 0x2C00 7 + 1) % 2 ^ 32 ∧ (s.joinCounted p).obj 0x2C00 0x0D = s.taiSecond := by
  have hkey : (s.joinRouted p).objKey (okey 0 0 0x2C00 7) = s.objKey (okey 0 0 0x2C00 7) := by
    rw [(offered_joinRouted s p).counters _ (by unfold laneIndex; decide), (touches_joinNoted s p).objects _ (by decide)]
  rw [State.joinCounted, State.obj_setObj_self, Int.toNat_natCast, obj_setObj, if_neg (by decide), obj_bump, if_pos rfl, State.obj_congr hkey]
  exact ⟨rfl, rfl⟩

theorem touches_closeGap (s : State) : Touches [.twin, .mgmt, .objs] [okey 0 0 0x2C00 0x0A] s s.closeGap := by
  unfold State.closeGap
  split
  · exact .refl s
  · split
    · exact .refl s
    · exact ((touches_twin s _).andThen (touches_takeEffect ..)).mono (by decide) (List.Subset.refl _)

theorem State.twin_closeGap (s : State) : ∃ g n, s.closeGap.twin = { s.twin with gapSince := g, gateNs := n } := by
  unfold State.closeGap
  split
  · exact ⟨_, _, rfl⟩
  · split
    · exact ⟨_, _, rfl⟩
    · exact ⟨_, _, State.takeEffect_twin ..⟩

/-- The plate that joins, its gap closed and the join reported. -/
def State.joined (s : State) (p e : Nat) : State := (s.joinCounted p).closeGap.report 0xFF 0x06 0xFFFF 0xFFA2 0xFF e

theorem State.joined_facts (s : State) (p e : Nat) : (∀ k, (s.joined p e).plate k = if k = p then { s.joinPlate p with state := 1 } else s.plate k) ∧
    (s.joined p e).twin.joinedAt = some s.clock.exposures ∧ (s.joined p e).twin.lastPlateGap = false ∧
    (s.joined p e).obj 0x2C00 7 = (s.obj 0x2C00 7 + 1) % 2 ^ 32 ∧ (s.joined p e).obj 0x2C00 0x0D = s.taiSecond ∧ (s.joined p e).clock = s.clock := by
  have hreport := touches_report (s.joinCounted p).closeGap 0xFF 0x06 0xFFFF 0xFFA2 0xFF e
  have hclose := touches_closeGap (s.joinCounted p)
  have htail := hclose.andThen hreport
  obtain ⟨g, n, htwin⟩ := (s.joinCounted p).twin_closeGap
  have hcounted : (s.joinCounted p).twin = (s.joinNoted p).twin :=
    ((touches_joinCounted s p).frame .twin (by decide)).trans ((offered_joinRouted s p).frame .twin (by decide))
  have hall : (s.joined p e).twin = { (s.joinNoted p).twin with gapSince := g, gateNs := n } := by
    rw [State.joined, hreport.frame .twin (by decide), htwin, hcounted]
  obtain ⟨h7, h0d⟩ := s.obj_joinCounted p
  refine ⟨fun k => ?_, ?_, ?_, (htail.obj (by decide)).trans h7, (htail.obj (by decide)).trans h0d, ?_⟩
  · rw [State.plate, hall]
    exact s.plate_joinNoted p k
  · rw [hall]; rfl
  · rw [hall]; rfl
  · exact (htail.frame .clock (by decide)).trans (((touches_joinCounted s p).frame .clock (by decide)).trans
      (((offered_joinRouted s p).frame .clock (by decide)).trans ((touches_joinNoted s p).frame .clock (by decide))))

theorem exec_join (hs : InService s) (hr : s.twin.resync = some (p, r, a)) (hd : s.twin.digestsEqual = true)
    (hnow : (s.atCycle0Of (r + 11) && !s.ensembleRuns || s.atCycle0Of (r + 12)) = true) (hj : s.twin.joinedAt = none) :
    exec .join s = .next (s.joined p (p * 2 ^ 24 + (s.clock.exposures - r) % 256 * 2 ^ 16)) := by
  refine exec_serving hs rfl ?_
  rw [hr]
  dsimp only
  rw [if_neg (by simp [hd, hnow, hj])]
  rfl

end Sys2Proof.Machine

namespace Sys2Proof.Proofs
open Sys2Proof Sys2Proof.Machine

/-- Settles O49: the plate's steps by the exposure since its start. -/
theorem aPlateRejoins : Obligations.APlateRejoins := by
  intro s p r j a hs hp
  refine ⟨fun hc hd ho hf => ⟨fun h3 hw => ?_, fun h4 hr hm => ?_⟩, exec_resyncStart_idle hs, fun hr => ⟨fun hm he hc hd => ?_, fun he => ?_,
    fun hsnap heq he hc => ⟨?_, fun ha => ?_, fun ha h4 => ?_⟩, fun heq he hc hd hj h4 => ?_, fun he => ?_⟩, fun hj he hc hd => ?_, fun hj => ?_⟩
  · have htwin := (s.resyncing p).twin_resyncBegun p false
    have hplate : (s.resyncing p).plate p = { s.plate p with state := 4, waiting := false } := by
      rw [State.resyncing, State.plate_plateState, if_pos rfl, State.plate_setPlate_self]
    have hclock : (s.resyncing p).clock = s.clock := ((touches_setPlate s p _).andThen (touches_plateState ..)).frame .clock (by decide)
    refine completes_intro (exec_resyncStart_waiting hs hp hc hd ho hf h3 hw) ⟨?_, ?_, ?_, ?_, ?_, ((s.resyncing p).clock_resyncBegun p false).trans hclock⟩
    · rw [State.plate, htwin]
      exact hplate
    · rw [htwin]
    · rw [htwin, hclock]
    · rw [htwin]
    · rw [htwin]
  · exact completes_intro (exec_resyncStart_again hs hp hc hd ho hf h4 hr hm) ⟨s.twin_resyncBegun p true, s.clock_resyncBegun p true⟩
  · have ht := touches_twin s { s.twin with snapshot := true }
    refine turns_of (exec_serving hs rfl ?_) rfl ht.objects ht.frame
    rw [hr]
    exact if_pos (by simp [hm, State.atCycle0Of_start hc hd he])
  · refine exec_serving hs rfl ?_
    rw [hr]
    refine if_neg ?_
    rw [State.atCycle0Of_not (he.imp_right .inl)]
    simp
  · have ht := touches_twin s { s.twin with digestsEqual := true }
    exact turns_of ((exec_digestCompare hs hr hsnap heq he hc true).trans (congrArg Host.Outcome.next (if_pos rfl))) rfl ht.objects ht.frame
  · have ht := touches_twin s { s.twin with mirror := false, snapshot := false, resync := some (p, r, true) }
    refine turns_of ((exec_digestCompare hs hr hsnap heq he hc false).trans (congrArg Host.Outcome.next ((if_neg Bool.false_ne_true).trans ?_)))
      rfl ht.objects ht.frame
    rw [ha]
    exact if_neg Bool.false_ne_true
  · obtain ⟨ht, htwin, hcount⟩ := s.digestFailed_facts p (by rw [h4]; decide)
    have hnext : exec (.digestCompare false) s = .next (s.digestFailed p) := by
      rw [exec_digestCompare hs hr hsnap heq he hc, if_neg Bool.false_ne_true, ha, if_pos rfl]
    refine turns_of hnext ⟨?_, ?_, ?_, hcount⟩ ht.objects ht.frame
    · rw [State.plate_congr htwin, State.plate_setPlate_self]
    · rw [htwin]; rfl
    · rw [htwin]; rfl
  · have hnow : (s.atCycle0Of (r + 11) && !s.ensembleRuns || s.atCycle0Of (r + 12)) = true := by
      obtain ⟨h11, hens⟩ | h12 := he
      · simp [State.atCycle0Of_start hc hd h11, hens]
      · simp [State.atCycle0Of_start hc hd h12]
    obtain ⟨hplates, hat, hgap, h7, h0d, hclock⟩ := s.joined_facts p (p * 2 ^ 24 + (s.clock.exposures - r) % 256 * 2 ^ 16)
    exact completes_intro (exec_join hs hr heq hnow hj) ⟨(hplates p).trans (if_pos rfl), (hplates (1 - p)).trans (if_neg (by omega)), hat, hgap, h7, h0d, hclock⟩
  · refine exec_serving hs rfl ?_
    rw [hr]
    dsimp only
    rw [he.2, State.atCycle0Of_not (e := r + 12) (.inl (by omega))]
    exact if_pos (by simp)
  · have ht := touches_stopResync s
    refine turns_of (exec_serving hs rfl ?_) rfl ht.objects ht.frame
    rw [hj]
    exact if_pos (State.atCycle0Of_start hc hd he)
  · refine exec_serving hs rfl ?_
    rw [hj]

end Sys2Proof.Proofs
end

section
/-! PROOF. The flash (R414, R416): the download of an image and the end of its write. -/

namespace Sys2Proof.Machine

variable {s : State} {d : Octets} {n c : Nat} {ok : Bool}

/-- The count of the aborts after one more of them (R95). -/
theorem State.obj_abort_count (s : State) (t : Transport) (i j c : Nat) :
    (s.abort t i j c).obj 0x2004 2 = (s.obj 0x2004 2 + 1) % 2 ^ 32 :=
  (obj_respond _ t _ 0x2004 2 (by decide) (by decide)).trans (State.obj_bump_self ..)

theorem flashOp_busy (h : s.flashBusy = true) : flashOp d s = (s, some 0x0A1E00D3) := if_pos h

/-- The result of a download: status 3 with the code of a refused image, else the write begins (R416). -/
theorem flashOp_free (h : s.flashBusy = false) : flashOp d s = match s.flashRefusal (s.obj 0x2F30 1) d with
    | some c => ({ s with boot := { s.boot with flashStatus := 3 } }, some c)
    | none => ({ s with boot := { s.boot with flashStatus := 1, flashTarget := some (s.obj 0x2F30 1), flashData := d } }, none) :=
  if_neg (by simp [h])

/-- The start-up data once the write of a region has ended with status 2, or with status 4 where its read-back failed (R416). -/
def Boot.written (b : Boot) (n : Nat) (ok : Bool) : Boot :=
  let d := if ok then b.flashData else []
  let c : Boot := if n < 2 then { b with slots := setAt b.slots n d } else { b with planImages := setAt b.planImages (n - 2) d }
  { c with flashStatus := if ok then 2 else 4, flashTarget := none, flashData := [] }

theorem Boot.written_slots (b : Boot) (n : Nat) (ok : Bool) :
    (b.written n ok).slots = if n < 2 then setAt b.slots n (if ok then b.flashData else []) else b.slots := by
  by_cases hn : n < 2 <;> simp only [Boot.written, hn, if_true, if_false]

theorem Boot.written_planImages (b : Boot) (n : Nat) (ok : Bool) :
    (b.written n ok).planImages = if n < 2 then b.planImages else setAt b.planImages (n - 2) (if ok then b.flashData else []) := by
  by_cases hn : n < 2 <;> simp only [Boot.written, hn, if_true, if_false]

theorem exec_flashWriteComplete (hr : s.boot.inReset = false) (h : s.boot.flashStatus = 1) (ht : s.boot.flashTarget = some n) :
    exec (.flashWriteComplete ok) s = .next
      (({ s with boot := s.boot.written n ok } : State).emcy 0xFFC7 0xFF (n * 2 ^ 24 + (if ok then 2 else 4) * 2 ^ 16)) := by
  refine exec_next_of rfl ((if_neg (by simp [hr, h])).trans ?_)
  rw [ht]
  rfl

end Sys2Proof.Machine

namespace Sys2Proof.Proofs
open Sys2Proof Sys2Proof.Machine

/-- Settles O56: the download by its checks, and the write's end by its read-back. -/
theorem flashIsWrittenAndReadBack : Obligations.FlashIsWrittenAndReadBack := by
  intro s tr d n ok
  refine ⟨fun hs => ⟨fun hbusy => ?_, fun hfree => ?_⟩, fun hr h htarget => ?_, fun hr h => exec_next_of rfl (if_pos (by simp [h]))⟩
  · have hgate : s.gate 0x2F30 2 = none := gate_at hs _ _ (by decide) (by decide) (by decide)
    exact exec_next_of rfl (State.commandA_refused (listens_at hs) hgate (flashOp_busy hbusy))
  · have hgate : s.gate 0x2F30 2 = none := gate_at hs _ _ (by decide) (by decide) (by decide)
    have hop := flashOp_free (d := d) hfree
    generalize s.flashRefusal (s.obj 0x2F30 1) d = refusal at hop ⊢
    cases refusal with
    | some c =>
      refine completes_intro (exec_next_of rfl (State.commandA_refused (listens_at hs) hgate hop)) ⟨State.abort_clock .., State.abort_boot .., ?_⟩
      exact State.obj_abort_count ..
    | none =>
      exact completes_intro (exec_next_of rfl (State.commandA_accepted (listens_at hs) hgate hop)) ⟨State.respond_clock .., State.respond_boot ..⟩
  · have ht := (touches_boot s (s.boot.written n ok)).andThen (touches_emcy _ 0xFFC7 0xFF (n * 2 ^ 24 + (if ok then 2 else 4) * 2 ^ 16))
    refine turns_of (exec_flashWriteComplete hr h htarget) ?_ ht.objects (keeps_weaken ht.frame (by decide))
    rw [State.emcy_boot]
    exact ⟨rfl, rfl, Boot.written_slots .., Boot.written_planImages ..⟩

end Sys2Proof.Proofs
end

section
/-! PROOF. Re-initialisations (R363, R383, R426): the commands that accept them, and their end. -/

namespace Sys2Proof.Machine

variable {s : State} {tr : Transport} {fn i : Nat} {ok : Bool}

/-! ### The commands -/

/-- The commands that re-initialise a function, each with the function it names (Table 16.7). -/
def reinitCommands (tr : Transport) (i : Nat) : List (Instr × Nat) :=
  [(.reinitialisePort tr i, 0x100 + i), (.reinitialiseLoupe tr i, 0x200 + i), (.reinitialiseDpll tr i, 0x300 + i),
    (.reinitialiseOutputPll tr i, 0x400 + i), (.reinitialiseGnss tr, 0x500), (.reinitialiseMediaPort tr i, 0x600 + i),
    (.reinitialiseServingGroup tr i, 0x700 + i), (.reinitialisePlate tr i, 0x800 + i), (.reinitialiseDeveloper tr, 0x900)]

/-- All of them are the one operation on 0x2F20.01. -/
theorem exec_reinitCommand (s : State) (tr : Transport) (i : Nat) :
    ∀ p ∈ reinitCommands tr i, exec p.1 s = .next (s.command tr 0x2F20 1 (reinitOp p.2)) := by
  simp only [reinitCommands, List.forall_mem_cons]
  exact ⟨rfl, rfl, rfl, rfl, rfl, rfl, rfl, rfl, rfl, fun _ h => absurd h List.not_mem_nil⟩

theorem reinitOp_unknown (h : s.functionOk fn = false) : reinitOp fn s = .error 0x0A1E00D0 := if_pos (by simp [h])

theorem reinitOp_busy (h : s.functionOk fn = true) (hb : fn ∈ s.boot.reinit ∨ fn ∈ s.boot.reinitPending) : reinitOp fn s = .error 0x0A1E00D1 :=
  (if_neg (by simp [h])).trans (if_pos (by simpa using hb))

section free
variable (h : s.functionOk fn = true) (h1 : fn ∉ s.boot.reinit) (h2 : fn ∉ s.boot.reinitPending)
include h h1 h2

theorem reinitOp_taken (h8 : fn / 256 = 8) (ht : (s.twin.active = fn % 256 ∧ s.paired = false) ∨ s.twin.resetAfterSwap.isSome = true) :
    reinitOp fn s = .error 0x0A1E00B2 :=
  (if_neg (by simp [h])).trans ((if_neg (by simp [h1, h2])).trans (if_pos ⟨h8, ht⟩))

theorem reinitOp_plate (h8 : fn / 256 = 8) (ht : s.twin.active ≠ fn % 256 ∨ s.paired = true) (hn : s.twin.resetAfterSwap = none) :
    reinitOp fn s = .ok { s with boot := { s.boot with reinitPending := s.boot.reinitPending ++ [fn] },
                                 twin := { s.twin with resetAfterSwap := some (fn % 256) } } := by
  have hfree : ¬ (fn / 256 = 8 ∧ ((s.twin.active = fn % 256 ∧ s.paired = false) ∨ s.twin.resetAfterSwap.isSome = true)) := by
    rintro ⟨-, ⟨ha, hp⟩ | hr⟩
    · obtain ht | ht := ht
      · exact ht ha
      · simp [ht] at hp
    · simp [hn] at hr
  exact (if_neg (by simp [h])).trans ((if_neg (by simp [h1, h2])).trans ((if_neg hfree).trans (congrArg Except.ok (if_pos h8))))

theorem reinitOp_function (h8 : fn / 256 ≠ 8) :
    reinitOp fn s = .ok { s with boot := { s.boot with reinitPending := s.boot.reinitPending ++ [fn] } } :=
  (if_neg (by simp [h])).trans ((if_neg (by simp [h1, h2])).trans ((if_neg fun hp => h8 hp.1).trans (congrArg Except.ok (if_neg h8))))

end free

/-! ### The end -/

/-- The start-up data once a re-initialisation has ended with a status. -/
def Boot.reinitEnded (b : Boot) (fn st : Nat) : Boot := { b with reinit := b.reinit.filter (· ≠ fn), lastFunction := fn, reinitStatus := st }

/-- The intake units and error lines of a function are in service again. -/
def State.unitsReturned (s : State) (fn : Nat) : State :=
  { s with boot := s.boot.reinitEnded fn 2,
           intake := { s.intake with faults := (functionUnits s fn).1.foldl (fun m n => putBit m n false) s.intake.faults },
           faults := { s.faults with notReadyLines := s.faults.notReadyLines.filter fun n => !(functionUnits s fn).2.contains n } }

theorem functionUnits_congr {t : State} (h : t.objs = s.objs) (fn : Nat) : functionUnits t fn = functionUnits s fn := by
  have hlanes : t.portLanes (fn % 256) = s.portLanes (fn % 256) := State.portLanes_congr (State.laneMode_congr h _)
  rw [functionUnits, hlanes, functionUnits]

theorem exec_reinitialisationEnd_idle (hs : InService s)
    (h : fn ∉ s.boot.reinit ∨ s.clock.exposures < s.boot.reinitSince.look (fun _ => 0) fn + reinitLength fn) :
    exec (.reinitialisationEnd fn ok) s = .next s := exec_serving hs rfl (if_pos (by simpa using h))

section ended
variable (hs : InService s) (h : fn ∈ s.boot.reinit) (hl : s.boot.reinitSince.look (fun _ => 0) fn + reinitLength fn ≤ s.clock.exposures)
include hs h hl

theorem exec_reinitialisationEnd_failed : exec (.reinitialisationEnd fn false) s = .next
    (settleRegister s (({ s with boot := s.boot.reinitEnded fn 3 } : State).emcy 0xFFC6 0xFF (fn * 2 ^ 16 + 3 * 2 ^ 8))) :=
  exec_serving hs rfl (if_neg (by simp [h, hl]))

theorem exec_reinitialisationEnd_done (h7 : fn / 256 ≠ 7) : exec (.reinitialisationEnd fn true) s = .next
    (settleRegister s ((s.unitsReturned fn).emcy 0xFFC6 0xFF (fn * 2 ^ 16 + 2 * 2 ^ 8))) := by
  refine exec_serving hs rfl ((if_neg (by simp [h, hl])).trans ?_)
  have hunits := functionUnits_congr (s := s) (t := { s with boot := s.boot.reinitEnded fn 2 }) rfl fn
  dsimp only
  rw [if_pos rfl, if_neg fun h => h7 h.2]
  unfold State.unitsReturned
  rw [← hunits]
  rfl

end ended

end Sys2Proof.Machine

namespace Sys2Proof.Proofs
open Sys2Proof Sys2Proof.Machine

/-- Settles O55: the refusals and the acceptance of every command, then the end by its status. -/
theorem reinitialisationsAreAcceptedAndEnd : Obligations.ReinitialisationsAreAcceptedAndEnd := by
  intro s tr i hs
  have hgate : s.gate 0x2F20 1 = none := gate_at hs _ _ (by decide) (by decide) (by decide)
  refine ⟨fun p hp => ?_, fun hmem hearly ok => exec_reinitialisationEnd_idle hs (.inr hearly), fun hmem hlate => ⟨?_, fun h7 => ?_⟩,
    fun hmem ok => exec_reinitialisationEnd_idle hs (.inl hmem)⟩
  · have he := exec_reinitCommand s tr i p hp
    refine ⟨fun h => refuses_of he hs hgate (reinitOp_unknown h), fun h hbusy => refuses_of he hs hgate (reinitOp_busy h hbusy),
      fun h h1 h2 => ⟨fun h8 htaken => refuses_of he hs hgate (reinitOp_taken h h1 h2 h8 htaken), fun h8 hpair hnone => ?_, fun h8 => ?_⟩⟩
    · have hop := reinitOp_plate h h1 h2 h8 hpair hnone
      have ht := (touches_boot s { s.boot with reinitPending := s.boot.reinitPending ++ [p.2] }).andThen (touches_twin _ { s.twin with resetAfterSwap := some (p.2 % 256) })
      refine confirms_touches he hs hgate hop (ht.mono (by decide) (List.nil_subset _)) fun r => ⟨State.respond_boot .., ?_⟩
      obtain ⟨g, l, htwin⟩ := (comparedOnly_respond _ tr r).twin
      exact ⟨by rw [htwin], by rw [htwin]⟩
    · exact confirms_part he hs hgate (reinitOp_function h h1 h2 h8) (touches_boot s _) fun r => State.respond_boot ..
  · have ht := ((touches_boot s (s.boot.reinitEnded i 3)).andThen (touches_emcy _ 0xFFC6 0xFF (i * 2 ^ 16 + 3 * 2 ^ 8))).andThen (touches_settle s _)
    refine turns_of (exec_reinitialisationEnd_failed hs hmem hlate) ?_ (objects_weaken ht.objects (by simp)) (keeps_weaken ht.frame (by decide))
    rw [settleRegister_boot, State.emcy_boot]
    rfl
  · have ht := (((touches_boot s (s.unitsReturned i).boot).andThen (touches_intake _ (s.unitsReturned i).intake)).andThen
      (touches_faults _ (s.unitsReturned i).faults)).andThen ((touches_emcy (s.unitsReturned i) 0xFFC6 0xFF (i * 2 ^ 16 + 2 * 2 ^ 8)).andThen (touches_settle s _))
    refine turns_of (exec_reinitialisationEnd_done hs hmem hlate h7) ⟨?_, ?_, ?_⟩ (objects_weaken ht.objects (by simp)) (keeps_weaken ht.frame (by decide))
    · rw [settleRegister_boot, State.emcy_boot]
      rfl
    · rw [settleRegister_intake, State.emcy_intake]
      rfl
    · rw [settleRegister_faults, State.emcy_faults]
      rfl

end Sys2Proof.Proofs
end

section
/-! PROOF. Resets (R18, R385, R416, R421, R424, R441, R457): what they clear, the store read again, and the resets that wait. -/

namespace Sys2Proof.Machine

variable {s : State} {c : Nat}

/-! ### What a reset clears -/

/-- A reset while no flash write is in progress leaves the flash. -/
theorem Boot.interrupted_idle {b : Boot} (h : b.flashStatus ≠ 1) : b.interrupted = b := if_pos h

/-- A write to region 2 that a reset interrupts leaves the normal plan image empty (R416). -/
theorem Boot.interrupted_plan {b : Boot} (h : b.flashStatus = 1) (ht : b.flashTarget = some 2) :
    b.interrupted.planImages = setAt b.planImages 0 [] ∧ b.interrupted.slots = b.slots := by
  unfold Boot.interrupted
  rw [if_neg (not_not_intro h), ht]
  exact ⟨rfl, rfl⟩

/-- What a reset leaves of the start-up data: the flash, OTP and the self-test's results (Table 16.5). -/
theorem State.wipe_boot (s : State) (c : Nat) : (s.wipe c).boot =
    { slots := s.boot.interrupted.slots, planImages := s.boot.interrupted.planImages, revoked := s.boot.interrupted.revoked, floor := s.boot.interrupted.floor,
      selfTest := s.boot.interrupted.selfTest, testEnable := s.boot.interrupted.testEnable, cause := c } := rfl

/-- A loss of supply takes the self-test's results as well (R457). -/
def State.unpowered (s : State) : State := { s.wipe 1 with boot := { (s.wipe 1).boot with selfTest := 0, testEnable := false } }

theorem exec_supplyLoss (s : State) : exec .supplyLoss s = .next s.unpowered := rfl

/-! ### The store at a release -/

theorem within_objs (s : State) (y : Table Int) : Within [.objs] s { s with objs := y } := ⟨fun p hp => by
  cases p
  case objs => exact absurd (List.mem_singleton_self _) hp
  all_goals rfl⟩

/-- The parts that a restore changes beside the sections' own record. -/
def restoreParts : List Part := [.objs, .mgmt, .synth, .faults, .serve, .fabric, .twin]

theorem within_loadClass (s : State) (cls : Nat) : Within restoreParts s (s.loadClass cls) :=
  within_foldl (fun u _ => (touches_takeEffect u ..).within (by decide)) _ s

theorem within_readSeeds (s : State) : Within restoreParts s s.readSeeds :=
  (((((touches_mgmt s s.readSeeds.mgmt).andThen (touches_synth _ s.readSeeds.synth)).andThen (touches_faults _ s.readSeeds.faults)).andThen
    (touches_serve _ s.readSeeds.serve)).andThen (touches_fabric _ s.readSeeds.fabric)).within (by decide)

/-- Without section D the ageing history is empty (R421). -/
def State.historyLost (s : State) : State := { s with darkroom := { s.darkroom with history := [] } }

theorem State.readHistory_eq (s : State) (v : Nat) : s.readHistory v = if bit v 4 then s else s.historyLost.loadClass (s.obj 0x2401 1) := rfl

/-- The sections are read, and the history and the saved position where they are valid. -/
def State.sectionsRead (s : State) (v : Nat) (bad : List Nat) : State := ((s.readSections v bad).readHistory v).readSaved v

/-- What a restore records of the sections: those found valid and, in the darkroom, what is to be written again. -/
structure SectionsRead (s t : State) (v : Nat) (bad : List Nat) : Prop where
  frame : KeepsAllBut (.boot :: .darkroom :: restoreParts) s t
  boot : t.boot = { s.boot with sectionsValid := v, badRecords := bad }
  sectionA : t.darkroom.secA = s.darkroom.secA
  battery : t.darkroom.vbat = s.darkroom.vbat

theorem SectionsRead.within {t u : State} {v : Nat} {bad : List Nat} (h : SectionsRead s t v bad) (g : Within restoreParts t u) :
    SectionsRead s u v bad :=
  ⟨keeps_trans h.frame (keeps_weaken g.frame fun _ hp => List.mem_cons_of_mem _ (List.mem_cons_of_mem _ hp)), (g.frame .boot (by decide)).trans h.boot,
    (congrArg Darkroom.secA (g.frame .darkroom (by decide))).trans h.sectionA, (congrArg Darkroom.vbat (g.frame .darkroom (by decide))).trans h.battery⟩

/-- A change of the darkroom that leaves section A and the battery's record. -/
theorem SectionsRead.darkroom {t : State} {v : Nat} {bad : List Nat} (h : SectionsRead s t v bad) {d : Darkroom} (ha : d.secA = t.darkroom.secA)
    (hb : d.vbat = t.darkroom.vbat) : SectionsRead s { t with darkroom := d } v bad :=
  ⟨keeps_trans h.frame (keeps_weaken (keeps_darkroom t d) (by decide)), h.boot, ha.trans h.sectionA, hb.trans h.battery⟩

theorem sectionsRead_readSections (s : State) (v : Nat) (bad : List Nat) : SectionsRead s (s.readSections v bad) v bad := by
  have hboot := (touches_boot s (s.readSections v bad).boot).andThen (touches_darkroom _ (s.readSections v bad).darkroom)
  exact ⟨keeps_trans (keeps_weaken hboot.frame (by decide)) (keeps_weaken (within_objs _ (s.readSections v bad).objs).frame (by decide)), rfl, rfl, rfl⟩

theorem sectionsRead_sectionsRead (s : State) (v : Nat) (bad : List Nat) : SectionsRead s (s.sectionsRead v bad) v bad := by
  have hhistory : SectionsRead s ((s.readSections v bad).readHistory v) v bad := by
    have hlost : SectionsRead s (s.readSections v bad).historyLost v bad := (sectionsRead_readSections s v bad).darkroom rfl rfl
    rw [State.readHistory_eq]
    split
    · exact sectionsRead_readSections ..
    · exact hlost.within (within_loadClass ..)
  unfold State.sectionsRead State.readSaved
  split
  · exact hhistory
  · exact hhistory.darkroom rfl rfl

theorem sectionsRead_readStore (s : State) (checks : Nat) (bad : List Nat) : SectionsRead s (s.readStore checks bad) (s.sectionsFound checks bad) bad := by
  have hseeds := (sectionsRead_sectionsRead s (s.sectionsFound checks bad) bad).within (within_readSeeds _)
  unfold State.readStore
  dsimp only
  split
  · exact hseeds.within ((touches_openGap _).within (by decide))
  · exact hseeds

/-! ### Resets that wait -/

theorem resetOp_free (h : s.boot.resetPending = none) :
    resetOp c s = .ok { s with boot := { s.boot with resetPending := some c, resetAt := s.now + 10000000 } } :=
  congrArg Except.ok (if_neg (by simp [h]))

theorem resetOp_waiting {q : Nat} (h : s.boot.resetPending = some q) : resetOp c s = .ok s := congrArg Except.ok (if_pos (by simp [h]))

/-- The block as a device reset leaves it: with defaults, section A is empty (R424). -/
def State.deviceReset (s : State) (c : Nat) : State :=
  if c = 5 then { s.wipe c with darkroom := { (s.wipe c).darkroom with secA := [] } } else s.wipe c

/-- The release that follows a device reset at once. -/
def State.restarted (s : State) : State := { s with boot := { s.boot with inReset := false } }

theorem exec_deviceResetApply (h : s.boot.resetPending = some c) (ht : s.serving = false ∨ s.boot.resetAt ≤ s.now) :
    exec .deviceResetApply s = .next ((s.deviceReset c).restarted.readStore 0x7F []) := by
  refine exec_next_of rfl ?_
  rw [h]
  refine if_neg ?_
  rintro ⟨hserving, hearly⟩
  obtain ht | ht := ht
  · simp [ht] at hserving
  · omega

theorem exec_deviceResetApply_early (h : s.boot.resetPending = some c) (hs : s.serving = true) (ht : s.now < s.boot.resetAt) :
    exec .deviceResetApply s = .next s := by
  refine exec_next_of rfl ?_
  rw [h]
  exact if_pos ⟨hs, ht⟩

theorem exec_deviceResetApply_idle (h : s.boot.resetPending = none) : exec .deviceResetApply s = .next s := by
  refine exec_next_of rfl ?_
  rw [h]

/-- Everything but section A is as the reset leaves it. -/
theorem State.deviceReset_frame (s : State) (c : Nat) : KeepsAllBut [.darkroom] (s.wipe c) (s.deviceReset c) := by
  unfold State.deviceReset
  split
  · exact keeps_darkroom _ _
  · exact keeps_refl _ _

theorem State.deviceReset_secA (h : c = 5) : (s.deviceReset c).darkroom.secA = [] := by rw [State.deviceReset, if_pos h]

/-! ### The failure of the common clock -/

/-- Event frames stop and a device reset is asked for (R18). -/
def State.clockLost (s : State) : State :=
  { s.openGap with intake := { s.openGap.intake with eventFramesStopped := true },
                   boot := { s.openGap.boot with resetPending := some 6, resetAt := s.openGap.now }, twin := { s.openGap.twin with resetGap := true } }

theorem exec_commonClockFailure (hs : InService s) : exec .commonClockFailure s = .next s.clockLost := exec_serving hs rfl rfl

theorem State.openGap_opened (h : s.twin.gapSince = none) :
    s.openGap.twin.gapSince = some s.now ∧ s.openGap.obj 0x2C00 0x0B = (s.obj 0x2C00 0x0B + 1) % 2 ^ 32 := by
  unfold State.openGap
  rw [h]
  dsimp only
  refine ⟨by rw [State.takeEffect_twin], ?_⟩
  rw [obj_takeEffect_self]
  exact Int.toNat_natCast _

end Sys2Proof.Machine

namespace Sys2Proof.Proofs
open Sys2Proof Sys2Proof.Machine

/-- Settles O54: each reset by what it clears, those that wait, and the failure of the common clock. -/
theorem resetsLeaveTheDarkroomAndTheFlash : Obligations.ResetsLeaveTheDarkroomAndTheFlash := by
  intro s tr c
  have hgate (hs : InService s) : s.gate 0x2F21 1 = none := gate_at hs _ _ (by decide) (by decide) (by decide)
  refine ⟨fun hr hflash => ?_, fun hr => exec_next_of rfl (if_pos hr), fun hflash htarget => ?_, fun hflash => ?_, fun hs hnone => ?_, fun hs q hq => ?_,
    exec_deviceResetApply_idle, exec_deviceResetApply_early, fun hc ht => ?_, fun hs => ?_⟩
  · refine completes_intro (exec_next_of rfl (if_neg (by simp [hr]))) ?_
    rw [State.wipe_boot, Boot.interrupted_idle hflash]
    exact ⟨rfl, rfl, rfl, rfl, rfl, rfl, rfl, rfl, rfl, rfl, rfl, rfl, rfl, rfl, rfl⟩
  · refine completes_intro (exec_supplyLoss s) ?_
    rw [State.unpowered, State.wipe_boot]
    exact Boot.interrupted_plan hflash htarget
  · refine completes_intro (exec_supplyLoss s) ?_
    rw [State.unpowered, State.wipe_boot, Boot.interrupted_idle hflash]
    exact ⟨rfl, rfl, rfl, rfl, rfl, rfl, rfl, rfl, rfl, rfl, rfl, rfl⟩
  · exact ⟨confirms_part rfl hs (hgate hs) (resetOp_free hnone) (touches_boot s _) fun r => State.respond_boot ..,
      confirms_part rfl hs (hgate hs) (resetOp_free hnone) (touches_boot s _) fun r => State.respond_boot ..⟩
  · exact confirms_part rfl hs (hgate hs) (resetOp_waiting hq) (.refl s) fun r => State.respond_boot ..
  · have hread := sectionsRead_readStore (s.deviceReset c).restarted 0x7F []
    have hboot : (s.deviceReset c).boot = (s.wipe c).boot := s.deviceReset_frame c .boot (by decide)
    refine completes_intro (exec_deviceResetApply hc ht) ?_
    rw [hread.boot, hread.sectionA]
    refine ⟨rfl, ?_, ?_, ?_, ?_, ?_, ?_, State.deviceReset_secA⟩
    · exact congrArg Boot.phase hboot
    · exact congrArg Boot.cause hboot
    · exact congrArg Boot.resetPending hboot
    · exact (hread.frame .clock (by decide)).trans (s.deviceReset_frame c .clock (by decide))
    · exact (hread.frame .pending (by decide)).trans (s.deviceReset_frame c .pending (by decide))
    · exact congrArg Keys.slots ((hread.frame .keys (by decide)).trans (s.deviceReset_frame c .keys (by decide)))
  · have ht := (touches_openGap s).frame
    refine completes_intro (exec_commonClockFailure hs) ⟨rfl, ?_, rfl, ht .clock (by decide), State.openGap_opened⟩
    have hboot : s.openGap.boot = s.boot := ht .boot (by decide)
    have hnow : s.openGap.now = s.now := State.now_congr (ht .clock (by decide))
    rw [State.clockLost, hboot, hnow]

end Sys2Proof.Proofs
end

section
/-! PROOF. The start of service (R104, R417, R420, R422): the time bases at a whole second, the plates' states, and the functions. -/

namespace Sys2Proof.Machine

variable {s t u : State} {n k : Nat}

/-! ### The time bases -/

/-- The time bases stand, whatever else of the time, the record and the objects changes. -/
structure BasesStand (s t : State) : Prop where
  frame : KeepsAllBut [.time, .mgmt, .objs, .faults] s t
  bases : t.time.bases = s.time.bases

theorem BasesStand.refl (s : State) : BasesStand s s := ⟨keeps_refl _ s, rfl⟩

theorem BasesStand.trans (h : BasesStand s t) (g : BasesStand t u) : BasesStand s u := ⟨keeps_trans h.frame g.frame, g.bases.trans h.bases⟩

theorem Touches.basesStand {parts : List Part} {keys : List Nat} (h : Touches parts keys s t) (hp : parts ⊆ [.mgmt, .objs, .faults]) : BasesStand s t :=
  ⟨keeps_weaken h.frame fun p hm => List.mem_cons_of_mem _ (hp hm),
    congrArg Time.bases (h.frame .time fun hm => absurd (hp hm) (by decide))⟩

theorem basesStand_time (s : State) {y : Time} (h : y.bases = s.time.bases) : BasesStand s { s with time := y } :=
  ⟨keeps_weaken (keeps_time s y) (by decide), h⟩

theorem basesStand_foldl {α : Type} {f : State → α → State} (h : ∀ s a, BasesStand s (f s a)) (l : List α) (s : State) : BasesStand s (l.foldl f s) := by
  induction l generalizing s with
  | nil => exact .refl s
  | cons a r ih => exact (h s a).trans (ih _)

theorem basesStand_setComp (s : State) (c : Nat) (x : Compare) : BasesStand s (s.setComp c x) := basesStand_time s rfl

theorem basesStand_settleUnit (s : State) (c : Nat) : BasesStand s (s.settleUnit c false) := by
  unfold State.settleUnit
  split
  · exact basesStand_setComp ..
  · split
    · exact basesStand_setComp ..
    · exact basesStand_setComp ..

theorem basesStand_reconvert (s : State) : BasesStand s s.reconvert :=
  basesStand_foldl (fun u c => by
    dsimp only
    split
    · exact .refl u
    · split
      · exact .refl u
      · exact (basesStand_setComp ..).trans (basesStand_settleUnit ..)) _ s

theorem touches_markCopy (s : State) (k : Nat) : Touches [.mgmt] [] s (s.markCopy k) := by
  unfold State.markCopy
  split
  · exact touches_mgmt ..
  · exact .refl s

/-- The offset before a leap is held while its day runs (R107). -/
def State.leapHeld (s : State) (v : Option Int) : State := { s with time := { s.time with offsetBefore := v } }

theorem basesStand_leapHeld (s : State) (v : Option Int) : BasesStand s (s.leapHeld v) := basesStand_time s rfl

theorem basesStand_ite {c : Prop} [Decidable c] (h : BasesStand s t) (g : BasesStand s u) : BasesStand s (if c then t else u) := by
  split
  · exact h
  · exact g

/-- A leap whose instant has come changes the offset. -/
def State.leapTaken (s : State) (l : Leap) : State :=
  if s.time.offsetBefore.isSome then s else (s.leapHeld (some l.before)).setObj 0x2201 1 l.after

/-- A day later its entry leaves the table (R107). -/
def State.leapOver (s : State) (l : Leap) : State :=
  (([1, 2, 3, 4].zip ((s.leapWordsWith 0 0).drop 1 ++ [0])).foldl (fun (s : State) (p : Nat × Nat) => s.takeEffect (okey 0 0 0x2202 p.1) (p.2 : Nat))
    ((s.leapHeld none).markCopy (okey 0 0 0x2201 1))).record 0xFF 0x06 0xFFFF 0 (l.second % 2 ^ 32)

theorem basesStand_leapTaken (s : State) (l : Leap) : BasesStand s (s.leapTaken l) :=
  basesStand_ite (.refl s) ((basesStand_leapHeld ..).trans ((touches_setObj ..).basesStand (by decide)))

theorem basesStand_leapOver (s : State) (l : Leap) : BasesStand s (s.leapOver l) :=
  (((basesStand_leapHeld s none).trans ((touches_markCopy ..).basesStand (by decide))).trans
    (basesStand_foldl (fun x p => (touches_takeEffect x ..).basesStand (by decide)) _ _)).trans ((touches_record ..).basesStand (by decide))

theorem basesStand_leapOnce (s : State) : BasesStand s s.leapOnce := by
  unfold State.leapOnce
  split
  · exact .refl s
  · next l _ _ =>
    exact basesStand_ite (.refl s) (basesStand_ite (basesStand_leapTaken s l) ((basesStand_leapTaken s l).trans (basesStand_leapOver _ l)))

/-- A waiting offset is taken at the reel (R107). -/
def State.offsetDue (s : State) : State := { s with time := { s.time with pendOffset := none } }

def State.offsetTaken (s : State) (v : Int) : State := (s.offsetDue.takeEffect (okey 0 0 0x2201 1) v).reconvert

theorem basesStand_offsetTaken (s : State) (v : Int) : BasesStand s (s.offsetTaken v) := by
  have hdue : BasesStand s s.offsetDue := basesStand_time s rfl
  exact (hdue.trans ((touches_takeEffect ..).basesStand (by decide))).trans (basesStand_reconvert _)

theorem basesStand_leapReel (s : State) : BasesStand s s.leapReel := by
  have hfour (v : State) (h : BasesStand s v) : BasesStand s v.leapOnce.leapOnce.leapOnce.leapOnce :=
    (((h.trans (basesStand_leapOnce _)).trans (basesStand_leapOnce _)).trans (basesStand_leapOnce _)).trans (basesStand_leapOnce _)
  unfold State.leapReel
  split
  · exact hfour _ (.refl s)
  · exact hfour _ (basesStand_offsetTaken s _)

/-! ### The state at *T*₀ -/

/-- Every time base takes the second (R104). -/
def State.basesAt (s : State) (v : Nat) : State := (List.range 32).foldl (fun (s : State) n => s.setBase n { s.base n with value := v, prev := v }) s

theorem touches_basesAt (s : State) (v : Nat) : Touches [.time] [] s (s.basesAt v) := touches_foldl (fun u n => touches_setBase u n _) _ s

theorem State.base_basesAt (s : State) (v : Nat) (hn : n < 32) : (s.basesAt v).base n = { s.base n with value := v, prev := v } := by
  have h := bank_foldl (look := State.base) (f := fun u k => u.setBase k { u.base k with value := v, prev := v }) (P := fun _ => True)
    (G := fun _ x => { x with value := v, prev := v }) (fun _ _ h => h) (fun u k j _ => State.base_setBase u k j _) (List.nodup_range (n := 32)) trivial (s := s) n
  exact h.trans (if_pos (List.mem_range.2 hn))

/-- The second of *T*₀ taken, with the leaps that it passes. -/
def State.secondTaken (s : State) (v : Nat) : State := (s.basesAt v).leapReel

theorem BasesStand.base (h : BasesStand s t) (n : Nat) : t.base n = s.base n := by rw [State.base, h.bases, State.base]

theorem State.base_secondTaken (s : State) (v : Nat) (hn : n < 32) : (s.secondTaken v).base n = { s.base n with value := v, prev := v } :=
  ((basesStand_leapReel (s.basesAt v)).base n).trans (s.base_basesAt v hn)

theorem secondTaken_frame (s : State) (v : Nat) : KeepsAllBut [.time, .mgmt, .objs, .faults] s (s.secondTaken v) :=
  keeps_trans (keeps_weaken (touches_basesAt s v).frame (by decide)) (basesStand_leapReel (s.basesAt v)).frame

/-- The count of cycles restarts, and the gap's time joins the total (R385). -/
def State.countRestarted (s : State) (ms w : Nat) : State :=
  { s with clock := {}, boot := { s.boot with phase := 5, releaseMs := ms },
           twin := { s.twin with gateNs := gapAtStart s.twin.gateNs ms w, gapSince := s.twin.gapSince.map fun _ => 0 } }

theorem countRestarted_frame (s : State) (ms w : Nat) : KeepsAllBut [.clock, .boot, .twin] s (s.countRestarted ms w) :=
  ((touches_clock s (s.countRestarted ms w).clock).andThen ((touches_boot _ (s.countRestarted ms w).boot).andThen
    (touches_twin _ (s.countRestarted ms w).twin))).frame

theorem State.atStart_eq (s : State) (ms w : Nat) : s.atStart ms w = (s.secondTaken (wholeSecondAfter (s.base 0).value)).countRestarted ms w := by
  unfold State.atStart State.countRestarted State.secondTaken State.basesAt
  with_reducible rfl

theorem State.clock_atStart (s : State) (ms w : Nat) : (s.atStart ms w).clock = {} := by rw [s.atStart_eq, State.countRestarted]

theorem State.boot_atStart (s : State) (ms w : Nat) : (s.atStart ms w).boot = { s.boot with phase := 5, releaseMs := ms } := by
  have h := secondTaken_frame s (wholeSecondAfter (s.base 0).value) .boot (by decide)
  rw [s.atStart_eq, State.countRestarted]
  dsimp only
  rw [h]

theorem State.pending_atStart (s : State) (ms w : Nat) : (s.atStart ms w).pending = s.pending := by
  rw [s.atStart_eq]
  exact (countRestarted_frame _ ms w .pending (by decide)).trans (secondTaken_frame s _ .pending (by decide))

theorem State.plate_countRestarted (s : State) (ms w k : Nat) : (s.countRestarted ms w).plate k = s.plate k := rfl

theorem State.plate_atStart (s : State) (ms w k : Nat) : (s.atStart ms w).plate k = s.plate k := by
  rw [s.atStart_eq, State.plate_countRestarted]
  exact State.plate_congr (secondTaken_frame s _ .twin (by decide)) k

theorem State.base_atStart (s : State) (ms w : Nat) (hn : n < 32) : (s.atStart ms w).base n =
    { s.base n with value := wholeSecondAfter (s.base 0).value, prev := wholeSecondAfter (s.base 0).value } := by
  rw [s.atStart_eq, State.base_congr (countRestarted_frame _ ms w .time (by decide))]
  exact s.base_secondTaken _ hn

/-! ### Domains and plates -/

theorem touches_startDomains (s : State) : Touches [.plans] [] s s.startDomains := touches_foldl (fun u _ => touches_setDomain u ..) _ s

/-- A plate that waited takes its state in service (R417, R420). -/
def State.plateStarts (s : State) (p new : Nat) : State :=
  (s.setPlate p { s.plate p with waiting := false, inStepSince := s.taiSecond }).plateState p new 5

theorem touches_plateStarts (s : State) (p new : Nat) : Touches [.twin, .mgmt, .objs, .faults] [lostKey] s (s.plateStarts p new) :=
  ((touches_setPlate ..).mono (by decide) (List.nil_subset _)).trans (touches_plateState ..)

@[simp] theorem State.plate_plateStarts (s : State) (p new k : Nat) : (s.plateStarts p new).plate k =
    if k = p then { s.plate p with state := new, waiting := false, inStepSince := s.taiSecond } else s.plate k := by
  unfold State.plateStarts
  rw [State.plate_plateState, State.plate_setPlate_self, State.plate_setPlate]
  split
  · rfl
  · rfl

theorem State.active_plateState (s : State) (p new c : Nat) : (s.plateState p new c).twin.active = s.twin.active := by
  unfold State.plateState
  dsimp only
  split
  · rfl
  · rw [State.report_twin]
    split
    · rfl
    · rfl

@[simp] theorem State.active_plateStarts (s : State) (p new : Nat) : (s.plateStarts p new).twin.active = s.twin.active := State.active_plateState ..

/-- The plate that is to be active. -/
def State.activeAt (s : State) (p : Nat) : State := { s with twin := { s.twin with active := p } }

@[simp] theorem State.active_activeAt (s : State) (p : Nat) : (s.activeAt p).twin.active = p := rfl
@[simp] theorem State.plate_activeAt (s : State) (p k : Nat) : (s.activeAt p).plate k = s.plate k := rfl

theorem State.startPlates_both (h0 : (s.plate 0).waiting = true) (h1 : (s.plate 1).waiting = true) :
    s.startPlates = ((s.activeAt 0).plateStarts 0 0).plateStarts 1 1 := by
  unfold State.startPlates
  simp only [h0, h1, if_true, and_self]
  rfl

theorem State.startPlates_first (h0 : (s.plate 0).waiting = true) (h1 : (s.plate 1).waiting = false) :
    s.startPlates = (s.activeAt 0).plateStarts 0 0 := by
  unfold State.startPlates
  simp only [h0, h1, if_true, and_false, if_false, Bool.false_eq_true]
  rfl

theorem State.startPlates_second (h0 : (s.plate 0).waiting = false) (h1 : (s.plate 1).waiting = true) :
    s.startPlates = (s.activeAt 1).plateStarts 1 0 := by
  unfold State.startPlates
  simp only [h0, h1, if_true, if_false, Bool.false_eq_true, Nat.one_ne_zero, false_and]
  rfl

theorem touches_activeAt (s : State) (p : Nat) : Touches [.twin] [] s (s.activeAt p) := touches_twin s _

/-- Whatever plates wait, only their states, the plates' record and the messages change. -/
theorem touches_startPlates (s : State) : Touches [.twin, .mgmt, .objs, .faults] [lostKey] s s.startPlates := by
  have hactive (p : Nat) : Touches [.twin, .mgmt, .objs, .faults] [lostKey] s (s.activeAt p) :=
    (touches_activeAt s p).mono (by decide) (List.nil_subset _)
  unfold State.startPlates
  dsimp only
  generalize (if (s.plate 0).waiting = true then 0 else 1) = act
  have hfirst : Touches [.twin, .mgmt, .objs, .faults] [lostKey] s
      (if (s.plate act).waiting = true then (s.activeAt act).plateStarts act 0 else s.activeAt act) := by
    split
    · exact (hactive act).trans (touches_plateStarts ..)
    · exact hactive act
  split
  · exact hfirst.trans (touches_plateStarts _ 1 1)
  · exact hfirst

/-! ### The functions -/

/-- The parts that the start of the functions may change (R422). -/
def functionParts : List Part := [.refs, .mgmt, .objs, .faults, .synth, .ports, .serve, .media]

theorem touches_setPosition (s : State) (i pos : Nat) (x : Position) : Touches [.serve] [] s (s.setPosition i pos x) := touches_serve s _

theorem touches_setStream (s : State) (i pos : Nat) (x : Stream) : Touches [.serve] [] s (s.setStream i pos x) := touches_serve s _

theorem touches_startStreams (s : State) (i : Nat) : Touches [.serve] [] s (s.startStreams i) := by
  unfold State.startStreams
  split
  · exact touches_foldl (fun u p => touches_setStream u ..) _ s
  · exact .refl s

theorem touches_seekLink (s : State) (n : Nat) : Touches [.ports, .mgmt, .objs, .serve] [lostKey] s (s.seekLink n) :=
  ((touches_setPort ..).mono (by decide) (List.nil_subset _)).trans (touches_setLink ..)

theorem touches_dpllApplied (s : State) (d : Nat) : Touches [.synth] [] s (s.dpllApplied d false) := by
  unfold State.dpllApplied
  dsimp only
  split
  · exact (touches_setDpll s d _).trans (touches_setDpll ..)
  · split
    · exact touches_setDpll ..
    · rw [Bool.and_false]
      exact .refl s

theorem within_relock (s : State) (o : Nat) (full : Bool) : Within functionParts s (s.relock o full) := by
  have hdco : Within functionParts s (s.followDco o) := ((touches_setObj ..).andThen (touches_setDpll ..)).within (by decide)
  have hgated := hdco.trans ((touches_gateAll _ (s.fed o)).within (by decide))
  exact ((hgated.trans ((touches_lockPins ..).within (by decide))).trans ((touches_setOpll ..).within (by decide))).trans ((touches_bump ..).within (by decide))

theorem within_startFunctions (s : State) : Within functionParts s s.startFunctions := by
  have hrefs (u : State) (r : Nat) : Within functionParts u (if u.obj (0x3100 + r) 1 = 1 then
      (if u.obj (0x3100 + r) 0x18 = 1 then u.setRef r 6 8 else u.setRef r 1 0) else u) :=
    within_ite (within_ite ((touches_setRef ..).within (by decide)) ((touches_setRef ..).within (by decide))) (.refl u)
  have hselect (u : State) : Within functionParts u { u with refs := { u.refs with armed := decide (u.obj 0x2300 1 ≠ 0xFF) } } :=
    (touches_refs u _).within (by decide)
  have hlinks (u : State) (n : Nat) : Within functionParts u (u.seekLink n) := (touches_seekLink u n).within (by decide)
  have hdplls (u : State) (d : Nat) : Within functionParts u (u.dpllApplied d false) := (touches_dpllApplied u d).within (by decide)
  have hchannels (u : State) (c : Nat) (x : Channel) : Within functionParts u
      (if u.obj (0x3220 + c) 1 = 1 then (if u.obj (0x3220 + c) 2 ≤ 3 then (u.setChannel c x).gateChannel c else u.setChannel c x) else u) := by
    have hset : Within functionParts u (u.setChannel c x) := (touches_setChannel u c x).within (by decide)
    exact within_ite (within_ite (hset.trans ((touches_gateChannel ..).within (by decide))) hset) (.refl u)
  have hplls (u : State) (o : Nat) : Within functionParts u (if u.obj (0x3210 + o) 1 = 1 ∧ u.opllUsed o = true then u.relock o true else u) :=
    within_ite (within_relock u o true) (.refl u)
  have hservice (u : State) (i : Nat) : Within functionParts u (if u.ptpOn i then
      (bitsSet (u.obj (ptpIdx i) 3) 12).foldl (fun (s : State) p => s.listen i p) (u.startStreams i) else u) :=
    within_ite (((touches_startStreams u i).trans (touches_foldl (fun v p => touches_setPosition v ..) _ _)).within (by decide)) (.refl u)
  have hmedia (u : State) (m : Nat) : Within functionParts u (u.mediaRefresh m) := (touches_mediaRefresh u m).within (by decide)
  unfold State.startFunctions
  exact (((((((within_foldl hrefs _ s).trans (hselect _)).trans (within_foldl hlinks _ _)).trans (within_foldl hdplls _ _)).trans
    (within_foldl (fun u c => hchannels u c _) _ _)).trans (within_foldl hplls _ _)).trans (within_foldl hservice _ _)).trans (within_foldl hmedia _ _)

/-! ### The start -/

/-- The two free values that a start draws: the time from release, and the gap before it (log 5). -/
def State.drawnPair (s : State) : State := s.drawNat.2.drawNat.2

theorem touches_drawnPair (s : State) : Touches [.free] [] s s.drawnPair := (touches_drawNat s).trans (touches_drawNat _)

/-- The state once the plates have their states at *T*₀. -/
def State.platesStarted (s : State) : State :=
  (s.drawnPair.atStart (releaseTime s.boot.second s.drawNat.1) s.drawNat.2.drawNat.1).startDomains.startPlates

/-- EMCY 0xFFC0 with the cause, the plan's source, the firmware slot and the plates in service (R417). -/
def State.startReported (s : State) : State :=
  s.emcy 0xFFC0 0xFF (s.boot.cause * 2 ^ 24 + s.boot.planSource * 2 ^ 16 + s.boot.slotInUse * 2 ^ 8 + (s.running.map fun p => 2 ^ p).sum)

theorem exec_serviceStart (hr : s.boot.inReset = false) (hl : s.boot.loaded = true) (hp : s.boot.phase = 4) :
    exec .serviceStart s = .next s.platesStarted.startReported.startFunctions := by
  refine exec_next_of rfl ((if_neg (by simp [hr, hl, hp])).trans ?_)
  unfold State.platesStarted State.drawnPair State.startReported
  with_reducible rfl

/-- What the start leaves beside the plates: the message and the functions. -/
theorem started_frame (s : State) : KeepsAllBut functionParts s.platesStarted s.platesStarted.startReported.startFunctions :=
  keeps_trans (keeps_weaken (touches_emcy ..).frame (by decide)) (within_startFunctions _).frame

/-- The state at *T*₀ with its entry set awake. -/
def State.secondStarted (s : State) : State :=
  (s.drawnPair.atStart (releaseTime s.boot.second s.drawNat.1) s.drawNat.2.drawNat.1).startDomains

theorem State.platesStarted_eq (s : State) : s.platesStarted = s.secondStarted.startPlates := by
  unfold State.platesStarted State.secondStarted
  with_reducible rfl

theorem State.clock_secondStarted (s : State) : s.secondStarted.clock = {} :=
  ((touches_startDomains _).frame .clock (by decide)).trans (State.clock_atStart ..)

theorem State.pending_secondStarted (s : State) : s.secondStarted.pending = s.pending :=
  ((touches_startDomains _).frame .pending (by decide)).trans ((State.pending_atStart ..).trans ((touches_drawnPair s).frame .pending (by decide)))

theorem State.boot_secondStarted (s : State) :
    s.secondStarted.boot = { s.boot with phase := 5, releaseMs := releaseTime s.boot.second s.drawNat.1 } := by
  have hdrawn : s.drawnPair.boot = s.boot := (touches_drawnPair s).frame .boot (by decide)
  have hstart := State.boot_atStart s.drawnPair (releaseTime s.boot.second s.drawNat.1) s.drawNat.2.drawNat.1
  rw [hdrawn] at hstart
  exact ((touches_startDomains _).frame .boot (by decide)).trans hstart

theorem State.base_secondStarted (s : State) (hn : n < 32) : s.secondStarted.base n =
    { s.base n with value := wholeSecondAfter (s.base 0).value, prev := wholeSecondAfter (s.base 0).value } := by
  have hdrawn (k : Nat) : s.drawnPair.base k = s.base k := State.base_congr ((touches_drawnPair s).frame .time (by decide)) k
  have hstart := State.base_atStart s.drawnPair (releaseTime s.boot.second s.drawNat.1) s.drawNat.2.drawNat.1 hn
  rw [hdrawn, hdrawn] at hstart
  exact (State.base_congr ((touches_startDomains _).frame .time (by decide)) n).trans hstart

theorem State.plate_secondStarted (s : State) (k : Nat) : s.secondStarted.plate k = s.plate k :=
  (State.plate_congr ((touches_startDomains _).frame .twin (by decide)) k).trans
    ((State.plate_atStart ..).trans (State.plate_congr ((touches_drawnPair s).frame .twin (by decide)) k))

/-- Plate A waits: it is active, and plate B follows if it waits as well. -/
theorem State.startPlates_activeA (h0 : (s.plate 0).waiting = true) : s.startPlates.twin.active = 0 ∧ (s.startPlates.plate 0).state = 0 ∧
    (s.startPlates.plate 0).waiting = false ∧
    ((s.plate 1).waiting = true → (s.startPlates.plate 1).state = 1 ∧ (s.startPlates.plate 1).waiting = false) ∧
    ((s.plate 1).waiting = false → s.startPlates.plate 1 = s.plate 1) := by
  cases h1 : (s.plate 1).waiting with
  | true =>
    rw [State.startPlates_both h0 h1]
    simp
  | false =>
    rw [State.startPlates_first h0 h1]
    simp

/-- Plate B alone waits: it is active. -/
theorem State.startPlates_activeB (h0 : (s.plate 0).waiting = false) (h1 : (s.plate 1).waiting = true) :
    s.startPlates.twin.active = 1 ∧ (s.startPlates.plate 1).state = 0 ∧ s.startPlates.plate 0 = s.plate 0 := by
  rw [State.startPlates_second h0 h1]
  simp

end Sys2Proof.Machine

namespace Sys2Proof.Proofs
open Sys2Proof Sys2Proof.Machine

/-- Settles O53: the second of *T*₀ by the time bases, then the plates that waited; the functions leave both. -/
theorem serviceStartsAtAWholeSecond : Obligations.ServiceStartsAtAWholeSecond := by
  intro s hr hp
  refine ⟨fun hl => ?_, fun hl => exec_next_of rfl (if_pos (by simp [hl]))⟩
  have hplates := (touches_startPlates s.secondStarted).frame
  have hafter := started_frame s
  rw [s.platesStarted_eq] at hafter
  have hexec := exec_serviceStart hr hl hp
  rw [s.platesStarted_eq] at hexec
  generalize s.secondStarted.startPlates.startReported.startFunctions = t at hafter hexec
  have hboot := ((hafter .boot (by decide)).trans (hplates .boot (by decide))).trans s.boot_secondStarted
  have htwin := hafter .twin (by decide)
  have hactive := congrArg Twin.active htwin
  have hplate (k : Nat) := State.plate_congr htwin k
  refine completes_intro hexec ⟨?_, ?_, fun n hn => ?_, ?_, ?_, fun h0 => ?_, fun h0 h1 => ?_⟩
  · exact ((hafter .clock (by decide)).trans (hplates .clock (by decide))).trans s.clock_secondStarted
  · exact ((hafter .pending (by decide)).trans (hplates .pending (by decide))).trans s.pending_secondStarted
  · exact (State.base_congr ((hafter .time (by decide)).trans (hplates .time (by decide))) n).trans (s.base_secondStarted hn)
  · rw [hboot]
  · rw [hboot]
    exact Nat.mod_lt _ (by split <;> decide)
  · rw [← s.plate_secondStarted 0] at h0
    rw [hactive, hplate, hplate, ← s.plate_secondStarted 1]
    exact State.startPlates_activeA h0
  · rw [← s.plate_secondStarted 0] at h0
    rw [← s.plate_secondStarted 1] at h1
    rw [hactive, hplate, hplate, ← s.plate_secondStarted 0]
    exact State.startPlates_activeB h0 h1

end Sys2Proof.Proofs
end

section
/-! PROOF. The power-up sequence (R412, R414, R417, R419, R420, R421): release, the management unit, the firmware, the boot plan, and what is loaded. -/

namespace Sys2Proof.Machine

variable {s : State} {res straps n v c : Nat}

/-! ### Release -/

/-- RESET_N goes high: the cause, and the copies of sections D and E that are taken (R417, R421). -/
def State.outOfReset (s : State) (pins : BootPins) : State :=
  { s with boot := { s.boot with inReset := false, testEnable := pins.testEnable,
                                 cause := if s.boot.cause = 1 ∧ s.darkroom.vbat = false then 2 else s.boot.cause },
           darkroom := { s.darkroom.takeOlder pins.older with vbat := true } }

theorem exec_resetRelease {pins : BootPins} (h : s.boot.inReset = true) :
    exec (.resetRelease pins) s = .next ((s.outOfReset pins).readStore pins.sectionChecks pins.badRecords) :=
  exec_next_of rfl (if_neg (by simp [h]))

theorem Darkroom.takeOlder_valid (d : Darkroom) (older : Nat) : (d.takeOlder older).valid = d.valid := by
  unfold Darkroom.takeOlder
  dsimp only
  split
  · split <;> rfl
  · split <;> rfl

theorem State.sectionsFound_outOfReset (s : State) (pins : BootPins) (checks : Nat) (bad : List Nat) :
    (s.outOfReset pins).sectionsFound checks bad = s.sectionsFound checks bad := by
  have h : (s.outOfReset pins).darkroom.valid = s.darkroom.valid := Darkroom.takeOlder_valid ..
  rw [State.sectionsFound, h, State.sectionsFound]

/-! ### The self-test -/

/-- The management unit's part of the start-up data as its phase begins; a device reset leaves the self-test's results (R443). -/
def State.phaseManaged (s : State) (res : Nat) : State :=
  { s with boot := { s.boot with phase := 1, repeats := 0, selfTest := if s.boot.cause ≤ 2 then res % 32 else s.boot.selfTest } }

/-- The count of starts rises by one with the boot-up message (log 31, the model's choice). -/
def State.startCounted (s : State) : State := s.takeEffect (okey 0 0 0x2F01 3) ((s.obj 0x2F01 3 + 1) % 2 ^ 32 : Nat)

theorem State.obj_startCounted (s : State) : s.startCounted.obj 0x2F01 3 = (s.obj 0x2F01 3 + 1) % 2 ^ 32 := by
  unfold State.startCounted
  rw [obj_takeEffect_self]

/-- The management unit runs: node ID and bit rate are read and the boot-up message is sent (R417). -/
def State.managementUp (s : State) (res straps : Nat) : State := ((s.phaseManaged res).readNode straps).bootUp.startCounted

/-- EMCY 0xFFC3 where the store did not hold every section (R421). -/
def State.sectionsTold (s : State) : State :=
  if s.boot.sectionsValid = 0x7F then s else s.emcy 0xFFC3 0xFF (s.boot.sectionsValid * 2 ^ 24)

theorem touches_sectionsTold (s : State) : Touches [.mgmt, .objs] [lostKey] s s.sectionsTold := by
  unfold State.sectionsTold
  split
  · exact .refl s
  · exact touches_emcy ..

theorem State.mgmt_sectionsTold (s : State) : s.sectionsTold.mgmt.nmt = s.mgmt.nmt ∧ s.sectionsTold.mgmt.straps = s.mgmt.straps := by
  unfold State.sectionsTold
  split
  · exact ⟨rfl, rfl⟩
  · exact ⟨by simp, by simp⟩

theorem State.mgmt_managementUp (s : State) (res straps : Nat) :
    (s.managementUp res straps).mgmt.nmt = 0x7F ∧ (s.managementUp res straps).mgmt.straps = straps % 128 := by
  obtain ⟨hnmt, _, _, _, _, hstraps, _, _⟩ := State.bootUp_mgmt ((s.phaseManaged res).readNode straps)
  unfold State.managementUp State.startCounted
  refine ⟨by rw [State.takeEffect_mgmt_nmt, hnmt], ?_⟩
  rw [State.takeEffect_mgmt_straps, hstraps, State.readNode_mgmt]

theorem touches_messageSent (s : State) (res straps : Nat) :
    Touches [.boot, .mgmt, .objs] [okey 0 0 0x2002 2, okey 0 0 0x2002 3, okey 0 0 0x1014 0, lostKey] s ((s.phaseManaged res).readNode straps).bootUp :=
  (((touches_boot s (s.phaseManaged res).boot).andThen (touches_readNode _ straps)).andThen (touches_bootUp _)).mono (by decide) (by simp)

theorem State.boot_managementUp (s : State) (res straps : Nat) : (s.managementUp res straps).boot = (s.phaseManaged res).boot :=
  (State.takeEffect_boot ..).trans (((touches_readNode (s.phaseManaged res) straps).andThen (touches_bootUp _)).frame .boot (by decide))

theorem State.clock_managementUp (s : State) (res straps : Nat) : (s.managementUp res straps).clock = s.clock :=
  (State.takeEffect_clock ..).trans ((touches_messageSent s res straps).frame .clock (by decide))

theorem State.obj_managementUp (s : State) (res straps : Nat) : (s.managementUp res straps).obj 0x2F01 3 = (s.obj 0x2F01 3 + 1) % 2 ^ 32 := by
  unfold State.managementUp
  rw [State.obj_startCounted, (touches_messageSent s res straps).obj (by decide)]

section selfTest
variable (hr : s.boot.inReset = false) (hst : s.boot.stopped = false) (hp : s.boot.phase = 0) (ht : s.boot.testEnable = false)
include hr hst hp ht

theorem exec_selfTestComplete_repeat (h : bit res 2 = false) (hn : s.boot.repeats < 3) :
    exec (.selfTestComplete res straps) s = .next { s with boot := { s.boot with repeats := s.boot.repeats + 1 } } :=
  exec_next_of rfl ((if_neg (by simp [hr, hst, hp, ht])).trans ((if_pos (by simp [h])).trans (if_pos hn)))

theorem exec_selfTestComplete_stop (h : bit res 2 = false) (hn : 3 ≤ s.boot.repeats) :
    exec (.selfTestComplete res straps) s = .next { s with boot := { s.boot with stopped := true } } :=
  exec_next_of rfl ((if_neg (by simp [hr, hst, hp, ht])).trans ((if_pos (by simp [h])).trans (if_neg (by omega))))

theorem exec_selfTestComplete_pass (h : bit res 2 = true) :
    exec (.selfTestComplete res straps) s = .next (s.managementUp res straps).sectionsTold := by
  refine exec_next_of rfl ((if_neg (by simp [hr, hst, hp, ht])).trans ((if_neg (by simp [h])).trans ?_))
  dsimp only
  simp only [decide_eq_true_eq]
  unfold State.managementUp State.phaseManaged State.startCounted State.sectionsTold
  with_reducible rfl

end selfTest

/-! ### The firmware -/

/-- The image of a slot runs, and the phase of the proof begins (R414). -/
def State.imageRuns (s : State) (n v : Nat) : State :=
  { s with boot := { s.boot with phase := 2, slotInUse := n, version := v, patches := s.boot.slots.getD n [] } }

/-- EMCY 0xFFC1 where the other slot holds no usable image (R414). -/
def State.otherSlotTold (s u : State) (n : Nat) : State :=
  if (s.slotVersion (1 - n)).isNone then u.emcy 0xFFC1 0xFF ((1 - n) * 2 ^ 24) else u

def State.firmwareRuns (s : State) (n v : Nat) : State := ((s.otherSlotTold (s.imageRuns n v) n).plateState 0 3 5).plateState 1 3 5

theorem touches_otherSlotTold (s u : State) (n : Nat) : Touches [.mgmt, .objs] [lostKey] u (s.otherSlotTold u n) := by
  unfold State.otherSlotTold
  split
  · exact touches_emcy ..
  · exact .refl u

theorem State.firmwareRuns_facts (s : State) (n v : Nat) : (s.firmwareRuns n v).clock = s.clock ∧ ((s.firmwareRuns n v).plate 0).state = 3 ∧
    ((s.firmwareRuns n v).plate 1).state = 3 ∧ (s.firmwareRuns n v).boot = (s.imageRuns n v).boot := by
  have ht : Touches [.twin, .mgmt, .objs, .faults] [lostKey] (s.imageRuns n v) (s.firmwareRuns n v) :=
    (((touches_otherSlotTold s _ n).mono (by decide) (List.Subset.refl _)).trans (touches_plateState _ 0 5)).trans (touches_plateState _ 1 5)
  refine ⟨ht.frame .clock (by decide), ?_, ?_, ht.frame .boot (by decide)⟩
  · unfold State.firmwareRuns
    simp [State.plate_plateState]
  · unfold State.firmwareRuns
    simp [State.plate_plateState]

/-- The slot that runs for the versions of the usable images: the higher version, slot 0 on a tie; without one, boot-hold (R414). -/
def State.firmwareChosen (s : State) : Option Nat → Option Nat → State
  | some a, some b => if b ≤ a then s.firmwareRuns 0 a else s.firmwareRuns 1 b
  | some a, none => s.firmwareRuns 0 a
  | none, some b => s.firmwareRuns 1 b
  | none, none => { s with boot := { s.boot with phase := 6 } }

theorem exec_firmwareApplied (hr : s.boot.inReset = false) (hp : s.boot.phase = 1) :
    exec .firmwareApplied s = .next (s.firmwareChosen (s.slotVersion 0) (s.slotVersion 1)) := by
  refine exec_next_of rfl ((if_neg (by simp [hr, hp])).trans ?_)
  unfold State.firmwareChosen State.firmwareRuns State.otherSlotTold State.imageRuns
  rfl


/-! ### The boot plan -/

theorem touches_bootPlan (s : State) (p : Plan) (source phase : Nat) : Touches [.boot, .plans] [] s (s.bootPlan p source phase) :=
  (((touches_boot s { s.boot with planSource := source, phase := phase }).andThen (touches_plans _ _)).andThen
    ((touches_setBank _ 0 _).andThen (touches_setBank _ 1 none))).mono (by decide) (List.Subset.refl _)

theorem State.bootPlan_boot (s : State) (p : Plan) (source phase : Nat) :
    (s.bootPlan p source phase).boot = { s.boot with planSource := source, phase := phase } := rfl

theorem State.bootPlan_plans (s : State) (p : Plan) (source phase : Nat) :
    (s.bootPlan p source phase).plans.active = 0 ∧ (s.bootPlan p source phase).plans.activeId = p.identifier := ⟨rfl, rfl⟩

/-- The normal image is refused: whether a second image is tried, and the code (R419). -/
def State.imageRefused (s : State) (d : Octets) (code : Nat) : State :=
  { s with boot := { s.boot with second := present d, lastRefusal := code } }

/-- Both images are refused: the code of the second, or of the first where the second is absent (R419). -/
def State.romChosen (s : State) (c1 c2 : Nat) : State :=
  ({ s with boot := { s.boot with lastRefusal := if c2 = 0 then c1 else c2 } } : State).bootPlan romPlan 2 4

section bootPlan
variable (hr : s.boot.inReset = false) (hp : s.boot.phase = 3) (hcool : s.junctionHot = false)
include hr hp hcool

theorem exec_bootPlanChecked_normal (h : s.tryImage (s.boot.planImages.getD 0 []) = none) :
    exec .bootPlanChecked s = .next (s.bootPlan (parsePlan (s.boot.planImages.getD 0 [])) 0 4) := by
  refine exec_next_of rfl ((if_neg (by simp [hr, hp])).trans ?_)
  rw [hcool]
  dsimp only
  rw [if_neg (by decide), h]

theorem exec_bootPlanChecked_hot {c1 : Nat} (h1 : s.tryImage (s.boot.planImages.getD 0 []) = some c1)
    (h2 : s.tryImage (s.boot.planImages.getD 1 []) = none) : exec .bootPlanChecked s =
      .next ((s.imageRefused (s.boot.planImages.getD 0 []) c1).bootPlan (parsePlan (s.boot.planImages.getD 1 [])) 1 4) := by
  refine exec_next_of rfl ((if_neg (by simp [hr, hp])).trans ?_)
  rw [hcool]
  dsimp only
  rw [if_neg (by decide), h1]
  dsimp only
  rw [h2]
  rfl

theorem exec_bootPlanChecked_rom {c1 c2 : Nat} (h1 : s.tryImage (s.boot.planImages.getD 0 []) = some c1)
    (h2 : s.tryImage (s.boot.planImages.getD 1 []) = some c2) : exec .bootPlanChecked s =
      .next (((s.imageRefused (s.boot.planImages.getD 0 []) c1).romChosen c1 c2).emcy 0xFFC2 0xFF (if c2 = 0 then c1 else c2)) := by
  refine exec_next_of rfl ((if_neg (by simp [hr, hp])).trans ?_)
  rw [hcool]
  dsimp only
  rw [if_neg (by decide), h1]
  dsimp only
  rw [h2]
  rfl

end bootPlan

/-! ### The root and the time base -/

/-- The root of the store in slot 0, under new masks (R324, R421). -/
def State.rootReturned (s : State) (k : Octets) : State :=
  s.drawnTwice.setSlot 0 { state := 1, mask := 8, generation := nextGeneration (s.slot 0).generation, key := k, maskA := s.drawMask.1,
                           maskB := s.drawMask.2.drawMask.1 }

theorem State.restoreRoot_absent (h : bit s.boot.sectionsValid 2 = false) : s.restoreRoot = s := by
  unfold State.restoreRoot
  rw [h]
  rfl

theorem State.restoreRoot_present {k : Octets} (h : bit s.boot.sectionsValid 2 = true) (hk : s.darkroom.root = some k) :
    s.restoreRoot = s.rootReturned k := by
  unfold State.restoreRoot
  rw [h, hk]
  rfl

theorem touches_restoreRoot (s : State) : Touches [.keys] [] s s.restoreRoot := by
  unfold State.restoreRoot
  split
  · exact .refl s
  · exact (touches_drawnTwice s).trans (touches_setSlot ..)

theorem State.restoreTime_absent (h : bit s.boot.sectionsValid 5 = false) : s.restoreTime = s := by
  unfold State.restoreTime
  rw [h]
  rfl

/-- The four free values of the mapping: the darkroom's count at this instant and the uncertainties of terms 1 to 3 (log 5). -/
def State.drawnFour (s : State) : State := s.drawnPair.drawnPair

/-- The loop of time base 0 as the mapping gives it (R176). -/
def State.steerRestored (s : State) (e : SectionE) : Steer :=
  { xhat := 0, known := true, b := (e.terms.take 3).map Int.toNat,
    u := [s.drawNat.2.drawNat.1, s.drawnPair.drawNat.1, s.drawnPair.drawNat.2.drawNat.1],
    carried := restoredHold (e.terms.getD 3 0).toNat (s.drawnFour.obj 0x2407 1) s.drawNat.1, holdSince := s.drawnFour.now }

/-- Time base 0 loaded from the mapping. -/
def State.timeRestored (s : State) (e : SectionE) : State :=
  (({ s.drawnFour with boot := { s.drawnFour.boot with outage := s.drawNat.1 / 32768 } } : State).setBase 0
    { s.drawnFour.base 0 with value := restoredValue e.value s.drawNat.1 (s.drawnFour.objI 0x2407 2) }).setSteer 0 (s.steerRestored e)

theorem State.restoreTime_present {e : SectionE} (h : bit s.boot.sectionsValid 5 = true) (he : s.darkroom.secE = some e) :
    s.restoreTime = s.timeRestored e := by
  unfold State.restoreTime
  rw [h, he]
  rfl

theorem touches_drawnFour (s : State) : Touches [.free] [] s s.drawnFour := (touches_drawnPair s).trans (touches_drawnPair _)

theorem touches_timeRestored (s : State) (e : SectionE) : Touches [.free, .boot, .time, .dev] [] s (s.timeRestored e) :=
  (touches_drawnFour s).andThen ((touches_boot _ { s.drawnFour.boot with outage := s.drawNat.1 / 32768 }).andThen
    ((touches_setBase _ 0 _).andThen (touches_setSteer _ 0 _)))

theorem touches_restoreTime (s : State) : Touches [.free, .boot, .time, .dev] [] s s.restoreTime := by
  unfold State.restoreTime
  split
  · exact .refl s
  · next e _ => exact touches_timeRestored s e

/-- The time base counts as loaded (R421). -/
def State.timeLoaded (s : State) : State := { s with boot := { s.boot with loaded := true } }

theorem touches_timeLoaded (s : State) : Touches [.boot] [] s s.timeLoaded := touches_boot s _

theorem exec_timeBaseRestore (hr : s.boot.inReset = false) (hp : s.boot.phase = 4) (hl : s.boot.loaded = false) :
    exec .timeBaseRestore s = .next s.restoreRoot.restoreTime.timeLoaded := exec_next_of rfl (if_neg (by simp [hr, hp, hl]))

theorem State.clock_restored (s : State) : s.restoreRoot.restoreTime.timeLoaded.clock = s.clock :=
  ((touches_restoreTime s.restoreRoot).frame .clock (by decide)).trans ((touches_restoreRoot s).frame .clock (by decide))

/-- What the time base's mapping restores leaves the key slots. -/
theorem State.slot_restored (s : State) (k : Nat) : s.restoreTime.timeLoaded.slot k = s.slot k :=
  State.slot_congr (((touches_restoreTime s).andThen (touches_timeLoaded _)).frame .keys (by decide)) k

theorem State.steer_timeLoaded (s : State) (k : Nat) : s.timeLoaded.steer k = s.steer k := rfl

end Sys2Proof.Machine

namespace Sys2Proof.Proofs
open Sys2Proof Sys2Proof.Machine

/-- Settles O52: the phases in order, each by the branch that its conditions choose. -/
theorem thePowerUpSequenceRunsInItsPhases : Obligations.ThePowerUpSequenceRunsInItsPhases := by
  intro s pins res straps
  refine ⟨fun hr => ?_, fun hr => exec_next_of rfl (if_pos (by simp [hr])), fun hr hst hp ht => ⟨fun h hn => ?_, fun h hn => ?_, fun h => ?_⟩, fun hr hp => ?_,
    fun hr hp hcool => ?_, fun hr hp hl => ⟨fun h2 h5 => ?_, fun k h2 hk => ?_, fun e h5 he => ?_⟩⟩
  · have hread := sectionsRead_readStore (s.outOfReset pins) pins.sectionChecks pins.badRecords
    refine completes_intro (exec_resetRelease hr) ?_
    rw [hread.boot, hread.battery, s.sectionsFound_outOfReset]
    exact ⟨rfl, rfl, rfl, rfl, rfl, rfl, hread.frame .clock (by decide)⟩
  · exact turns_of (exec_selfTestComplete_repeat hr hst hp ht h hn) rfl (touches_boot s _).objects (touches_boot s _).frame
  · exact turns_of (exec_selfTestComplete_stop hr hst hp ht h hn) rfl (touches_boot s _).objects (touches_boot s _).frame
  · have htold := touches_sectionsTold (s.managementUp res straps)
    obtain ⟨hnmt, hstraps⟩ := (s.managementUp res straps).mgmt_sectionsTold
    obtain ⟨hup, hnode⟩ := s.mgmt_managementUp res straps
    refine completes_intro (exec_selfTestComplete_pass hr hst hp ht h) ⟨?_, hnmt.trans hup, hstraps.trans hnode, ?_, ?_⟩
    · exact (htold.frame .clock (by decide)).trans (s.clock_managementUp res straps)
    · exact (htold.frame .boot (by decide)).trans (s.boot_managementUp res straps)
    · exact (htold.obj (by decide)).trans (s.obj_managementUp res straps)
  · have hexec := exec_firmwareApplied hr hp
    cases h0 : s.slotVersion 0 with
    | none =>
      cases h1 : s.slotVersion 1 with
      | none =>
        rw [h0, h1] at hexec
        exact turns_of hexec rfl (touches_boot s _).objects (touches_boot s _).frame
      | some b =>
        rw [h0, h1] at hexec
        obtain ⟨hclock, hA, hB, hboot⟩ := s.firmwareRuns_facts 1 b
        refine completes_intro hexec ⟨hclock, hA, hB, hboot.trans ?_⟩
        simp [State.imageRuns]
    | some a =>
      cases h1 : s.slotVersion 1 with
      | none =>
        rw [h0, h1] at hexec
        obtain ⟨hclock, hA, hB, hboot⟩ := s.firmwareRuns_facts 0 a
        refine completes_intro hexec ⟨hclock, hA, hB, hboot.trans ?_⟩
        simp [State.imageRuns]
      | some b =>
        rw [h0, h1] at hexec
        rcases le_or_gt b a with hba | hab
        · obtain ⟨hclock, hA, hB, hboot⟩ := s.firmwareRuns_facts 0 a
          refine completes_intro (hexec.trans (congrArg Host.Outcome.next (if_pos hba))) ⟨hclock, hA, hB, hboot.trans ?_⟩
          simp [State.imageRuns, hba]
        · obtain ⟨hclock, hA, hB, hboot⟩ := s.firmwareRuns_facts 1 b
          refine completes_intro (hexec.trans (congrArg Host.Outcome.next (if_neg (not_le.2 hab)))) ⟨hclock, hA, hB, hboot.trans ?_⟩
          have hmax : Nat.max a b = b := Nat.max_eq_right hab.le
          simp [State.imageRuns, not_le.2 hab, hmax]
  · cases h1 : s.tryImage (s.boot.planImages.getD 0 []) with
    | none =>
      have ht := touches_bootPlan s (parsePlan (s.boot.planImages.getD 0 [])) 0 4
      exact turns_of (exec_bootPlanChecked_normal hr hp hcool h1) ⟨s.bootPlan_boot _ 0 4, s.bootPlan_plans _ 0 4⟩ ht.objects ht.frame
    | some c1 =>
      cases h2 : s.tryImage (s.boot.planImages.getD 1 []) with
      | none => exact completes_intro (exec_bootPlanChecked_hot hr hp hcool h1 h2) ⟨rfl, rfl, rfl, rfl, (State.bootPlan_plans ..).2⟩
      | some c2 =>
        refine completes_intro (exec_bootPlanChecked_rom hr hp hcool h1 h2) ⟨State.emcy_clock .., ?_⟩
        rw [State.emcy_boot, State.emcy_plans]
        exact ⟨rfl, rfl, rfl, rfl⟩
  · refine turns_of (exec_timeBaseRestore hr hp hl) ?_ ?_ ?_
    all_goals rw [State.restoreRoot_absent h2, State.restoreTime_absent h5]
    · rfl
    · exact (touches_timeLoaded s).objects
    · exact (touches_timeLoaded s).frame
  · refine completes_intro (exec_timeBaseRestore hr hp hl) ⟨s.clock_restored, rfl, ?_⟩
    rw [State.slot_restored, State.restoreRoot_present h2 hk, State.rootReturned, State.slot_setSlot_self]
    exact ⟨rfl, rfl, rfl⟩
  · have hroot := (touches_restoreRoot s).frame
    have hvalid : bit s.restoreRoot.boot.sectionsValid 5 = true := by
      rw [hroot .boot (by decide)]
      exact h5
    have hmap : s.restoreRoot.darkroom.secE = some e := by
      rw [hroot .darkroom (by decide)]
      exact he
    refine completes_intro (exec_timeBaseRestore hr hp hl) ⟨s.clock_restored, rfl, ?_⟩
    rw [State.steer_timeLoaded, State.restoreTime_present hvalid hmap, State.timeRestored, State.steer_setSteer_self]
    exact ⟨rfl, rfl, rfl⟩

end Sys2Proof.Proofs
end

section
/-! PROOF. GNSS sample ports, acquisition and navigation data (R212, R214, R216, R217, R219, R232). -/

namespace Sys2Proof.Machine

variable {s t : State} {p c age : Nat} {fine : Int} {samples : List GnssSample} {data : Octets}

theorem touches_setGnssPort (s : State) (p : Nat) (x : GnssPort) : Touches [.gnss] [] s (s.setGnssPort p x) := touches_gnss s _

theorem touches_setGnssChannel (s : State) (c : Nat) (x : GnssChannel) : Touches [.gnss] [] s (s.setGnssChannel c x) := touches_gnss s _

/-! ### Sample blocks -/

/-- A port whose block has arrived, in step or out of step (R212). -/
def State.portFed (s : State) (p age : Nat) (fine : Int) (out : Bool) : GnssPort :=
  { s.gnssPort p with status := putBit (s.gnssPort p).status 0 true, framing := (s.gnssPort p).framing || out,
                      first := some ((s.gnssPort p).first.getD (s.blockStart p age fine)), latest := s.blockStart p age fine,
                      blocks := if (s.gnssPort p).first.isSome then (s.gnssPort p).blocks + 1 else 0 }

/-- A block of samples is tagged with its first sample's timestamp. -/
def State.blockTagged (s : State) (p age : Nat) (fine : Int) (body : List GnssSample) : State :=
  { s with intake := { s.intake with items := s.intake.items ++ [⟨88 + p, s.now, s.tai, .gnssBlock (s.blockStart p age fine) body⟩] } }

theorem touches_blockTagged (s : State) (p age : Nat) (fine : Int) (body : List GnssSample) :
    Touches [.intake] [] s (s.blockTagged p age fine body) := touches_intake s (s.blockTagged p age fine body).intake

/-- The block waits for its delivery, and its port is fed. -/
def State.blockTaken (s : State) (p age : Nat) (fine : Int) (body : List GnssSample) (out : Bool) : State :=
  (s.blockTagged p age fine body).setGnssPort p (s.portFed p age fine out)

theorem touches_blockTaken (s : State) (p age : Nat) (fine : Int) (body : List GnssSample) (out : Bool) :
    Touches [.gnss, .intake] [] s (s.blockTaken p age fine body out) :=
  ((touches_blockTagged s p age fine body).andThen (touches_setGnssPort ..)).mono (by decide) (List.Subset.refl _)

theorem State.gnssPort_blockTaken (s : State) (p age : Nat) (fine : Int) (body : List GnssSample) (out : Bool) (k : Nat) :
    (s.blockTaken p age fine body out).gnssPort k = if k = p then s.portFed p age fine out else s.gnssPort k :=
  State.gnssPort_setGnssPort ..

section block
variable (hs : InService s) (hf : bit s.intake.faults (88 + p) = false) (h1 : s.obj 0x2010 1 = 1) (hm : s.obj (0x2601 + p) 1 ≠ 0) (hg : s.time.gate = false)
include hs hf h1 hm hg

theorem exec_gnssSampleBlock_framed : exec (.gnssSampleBlock p true age fine samples) s = .next (s.blockTaken p age fine samples false) := by
  refine exec_serving hs rfl ((if_neg (by simp [hf, h1, hm])).trans ?_)
  dsimp only
  rw [tagItem_of_open hg, if_pos rfl, if_pos rfl, Nat.add_zero, Bool.not_true]
  unfold State.blockTaken State.blockTagged State.portFed
  with_reducible rfl

theorem exec_gnssSampleBlock_unframed : exec (.gnssSampleBlock p false age fine samples) s = .next
    ((s.blockTaken p age fine (samples.map fun _ => zeroSample (s.obj (0x2601 + p) 6)) true).bump (0x2601 + p) 0x0E) := by
  refine exec_serving hs rfl ((if_neg (by simp [hf, h1, hm])).trans ?_)
  dsimp only
  rw [tagItem_of_open hg, if_neg (by decide), if_neg (by decide), Nat.add_zero, Bool.not_false]
  unfold State.blockTaken State.blockTagged State.portFed
  with_reducible rfl

end block

/-! ### Port faults -/

/-- The status of a port with a fault: DCLK present, rate in error (R212). -/
def State.faultStatus (s : State) (p : Nat) (noDclk : Bool) : Nat := putBit (putBit (s.gnssPort p).status 0 (!noDclk)) 1 (s.rateError p)

/-- A port with a fault. -/
def State.portFaulted (s : State) (p : Nat) (noDclk : Bool) : GnssPort :=
  { s.gnssPort p with status := s.faultStatus p noDclk, first := if noDclk then none else (s.gnssPort p).first,
                      blocks := if noDclk then 0 else (s.gnssPort p).blocks }

/-- A channel that is lost. -/
def GnssChannel.lost (x : GnssChannel) (now : Nat) : GnssChannel :=
  { x with state := 6, since := now, test := 0, goodSince := none, weakSince := none, looseSince := none }

theorem State.channelTo_lost (h : (s.gnssChannel c).state ≠ 6) : s.channelTo c 6 = s.setGnssChannel c ((s.gnssChannel c).lost s.now) := by
  unfold State.channelTo
  dsimp only
  rw [if_neg h, if_neg (by decide), if_neg (by decide)]
  rfl

theorem State.portChannelsTo_one (h : s.gnssUsed = [c]) (hp : (s.gnssChannel c).port = p) (st : Nat) : s.portChannelsTo p st = s.channelTo c st := by
  unfold State.portChannelsTo
  rw [h]
  exact if_pos hp

/-- The port reports its fault, and its one channel is lost. -/
def State.faultTaken (s : State) (p c : Nat) (noDclk : Bool) : State :=
  (s.setGnssPort p (s.portFaulted p noDclk)).setGnssChannel c ((s.gnssChannel c).lost s.now)

theorem touches_faultTaken (s : State) (p c : Nat) (noDclk : Bool) : Touches [.gnss] [] s (s.faultTaken p c noDclk) :=
  (touches_setGnssPort ..).trans (touches_setGnssChannel ..)

theorem exec_samplePortFault {noDclk : Bool} (hs : InService s) (hm : s.gnssMode p 0 = false) (h1 : s.obj 0x2010 1 ≠ 0) (hu : s.gnssUsed = [c])
    (hp : (s.gnssChannel c).port = p) (h6 : (s.gnssChannel c).state ≠ 6) (hfault : noDclk = true ∨ s.rateError p = true) :
    exec (.samplePortFault p noDclk) s = .next
      ((s.faultTaken p c noDclk).emcy 0xFF50 s.twin.active (p * 2 ^ 24 + s.faultStatus p noDclk * 2 ^ 16)) := by
  have hbad : ¬ ((!s.rateError p && !noDclk) || s.gnssMode p 0 || decide (s.obj 0x2010 1 = 0)) = true := by
    obtain rfl | hr := hfault
    · simp [hm, h1]
    · simp [hm, h1, hr]
  have hchannel : (s.setGnssPort p (s.portFaulted p noDclk)).portChannelsTo p 6 = s.faultTaken p c noDclk :=
    (State.portChannelsTo_one (s := s.setGnssPort p _) hu hp 6).trans (State.channelTo_lost (s := s.setGnssPort p _) h6)
  exact exec_serving hs rfl ((if_neg hbad).trans (congrArg (fun u : State => u.emcy 0xFF50 s.twin.active _) hchannel))

theorem exec_samplePortFault_idle (hs : InService s) (h : s.rateError p = false) : exec (.samplePortFault p false) s = .next s :=
  exec_serving hs rfl (if_pos (by simp [h]))

/-! ### Acquisition -/

/-- The film is free of a capture, and the FFT engine has its passes to run (R217). -/
def State.captureEnded (s : State) : Gnss :=
  { s.gnss with acq := 2, fftLeft := ((s.searchList s.gnss.acqPort).map fun e => (searchRow e.1).2.2.2 * fftPass).sum, armPend := none }

theorem exec_acquisitionCaptureEnd_early (hs : InService s) (h : s.now < s.gnss.acqFrom + 10000000) : exec .acquisitionCaptureEnd s = .next s :=
  exec_serving hs rfl (if_neg fun hc => absurd hc.2 (by omega))

theorem exec_acquisitionCaptureEnd_free (hs : InService s) (ha : s.gnss.acq = 1) (h : s.gnss.acqFrom + 10000000 ≤ s.now) (hp : s.gnss.armPend = none) :
    exec .acquisitionCaptureEnd s = .next { s with gnss := s.captureEnded } := by
  refine exec_serving hs rfl ((if_pos ⟨ha, h⟩).trans ?_)
  rw [hp]
  rfl

theorem exec_acquisitionCaptureEnd_armed {q ms a : Nat} (hs : InService s) (ha : s.gnss.acq = 1) (h : s.gnss.acqFrom + 10000000 ≤ s.now)
    (hp : s.gnss.armPend = some (q, ms, a)) : exec .acquisitionCaptureEnd s =
      .next { s with gnss := { s.captureEnded with film := 1, filmPort := q, filmMs := ms, armAt := some a } } := by
  refine exec_serving hs rfl ((if_pos ⟨ha, h⟩).trans ?_)
  rw [hp]
  rfl

/-- The film's samples of an acquisition have been searched. -/
def State.acquired (s : State) : State := { s with gnss := { s.gnss with acq := 0, acqData := [], fftLeft := 0 } }

theorem touches_acquired (s : State) : Touches [.gnss] [] s s.acquired := touches_gnss s _

theorem State.gnssChannel_acquired (s : State) (k : Nat) : s.acquired.gnssChannel k = s.gnssChannel k := rfl

theorem exec_acquisitionComplete {e : Nat × Nat} (hs : InService s) (ha : s.gnss.acq = 2) (hl : s.gnss.fftLeft ≤ s.clock.cycle) (hb : s.bankAwake = true)
    (he : s.searchList s.gnss.acqPort = [e]) : exec .acquisitionComplete s = .next (s.searchOne s.gnss.acqPort e).acquired := by
  refine exec_serving hs rfl ((if_pos ⟨ha, hl, hb⟩).trans ?_)
  rw [he]
  rfl

theorem exec_acquisitionComplete_idle (hs : InService s) (h : s.gnss.acq ≠ 2 ∨ s.clock.cycle < s.gnss.fftLeft ∨ s.bankAwake = false) :
    exec .acquisitionComplete s = .next s := by
  refine exec_serving hs rfl (if_neg ?_)
  rintro ⟨ha, hl, hb⟩
  obtain h | h | h := h
  · exact h ha
  · omega
  · simp [h] at hb

/-- What the search of one code detects (R216). -/
def State.detection (s : State) (sig sat : Nat) : Option CodeFound :=
  Config.acquire s.gnss.acqData sig sat (s.searchWindow sig sat).1 (s.searchWindow sig sat).2
    ((searchRow sig).1, (searchRow sig).2.1 * 1000, (searchRow sig).2.2.1)

/-- A channel that a detection puts into Pull-in. -/
def State.pulledIn (s : State) (p sig sat : Nat) (d : CodeFound) : GnssChannel :=
  { state := 2, signal := sig, satellite := sat, port := p, cn0 := d.cn0, codePhase := d.codePhase, doppler := d.doppler, since := s.now }

theorem State.searchOne_none {sig sat : Nat} (h : s.detection sig sat = none) : s.searchOne s.gnss.acqPort (sig, sat) = s := by
  unfold State.detection at h
  unfold State.searchOne
  dsimp only
  rw [h]

section detection
variable {sig sat : Nat} {d : CodeFound} (h : s.detection sig sat = some d)
include h

theorem State.searchOne_weak (hw : d.ratioTenths < 25 ∨ d.cn0 < 3200) : s.searchOne s.gnss.acqPort (sig, sat) = s := by
  unfold State.detection at h
  unfold State.searchOne
  dsimp only
  rw [h]
  exact if_pos hw

theorem State.searchOne_found (hr : 25 ≤ d.ratioTenths) (hc : 3200 ≤ d.cn0)
    (hplace : (s.channelOf s.gnss.acqPort sig sat = some c ∧ (s.gnssChannel c).state = 1) ∨
      (s.channelOf s.gnss.acqPort sig sat = none ∧ s.freeChannel = some c)) :
    s.searchOne s.gnss.acqPort (sig, sat) = s.setGnssChannel c (s.pulledIn s.gnss.acqPort sig sat d) := by
  unfold State.detection at h
  unfold State.searchOne
  dsimp only
  rw [h]
  refine (if_neg (by omega)).trans ?_
  obtain ⟨hchannel, hsearch⟩ | ⟨hnone, hfree⟩ := hplace
  · rw [hchannel]
    exact if_pos hsearch
  · rw [hnone, hfree]
    rfl

end detection

theorem touches_searchOne (s : State) (p : Nat) (e : Nat × Nat) : Touches [.gnss] [] s (s.searchOne p e) := by
  unfold State.searchOne
  dsimp only
  split
  · exact .refl s
  · split
    · exact .refl s
    · split
      · split
        · exact touches_setGnssChannel ..
        · exact .refl s
      · split
        · exact .refl s
        · exact touches_setGnssChannel ..

/-! ### Navigation data -/

/-- The records held once one more is kept (R219). -/
def keptRecords (n : List NavRecord) (x : NavRecord) : List NavRecord := (n.filter fun k => !sameRecord k x) ++ [x]

/-- The values that a record kept may change. -/
def navigationKeys : List Nat := [okey 0 0 0x2600 8, lostKey]

theorem touches_setNavigation (s : State) (n : List NavRecord) : Touches [.gnss, .objs] [okey 0 0 0x2600 8] s (s.setNavigation n) :=
  (touches_gnss s _).andThen (touches_setObj ..)

/-- A leap announcement is told once (R227). -/
def State.leapTold (s : State) (p : Nat) (r : NavRecord) : State :=
  ({ s with gnss := { s.gnss with announced := s.gnss.announced ++ [r] } } : State).emcy 0xFF54 s.twin.active (p * 2 ^ 24 + r.signal * 2 ^ 16)

theorem touches_leapTold (s : State) (p : Nat) (r : NavRecord) : Touches [.gnss, .mgmt, .objs] [lostKey] s (s.leapTold p r) :=
  (touches_gnss s { s.gnss with announced := s.gnss.announced ++ [r] }).andThen (touches_emcy ..)

theorem State.navigation_leapTold (s : State) (p : Nat) (r : NavRecord) : (s.leapTold p r).gnss.navigation = s.gnss.navigation := by
  unfold State.leapTold
  rw [State.emcy_gnss]

theorem State.keepNav_cases (s : State) (p : Nat) (r : NavRecord) : s.keepNav p r = s.setNavigation (keptRecords s.gnss.navigation r) ∨
    s.keepNav p r = (s.setNavigation (keptRecords s.gnss.navigation r)).leapTold p r := by
  unfold State.keepNav
  dsimp only
  split
  · exact .inr rfl
  · exact .inl rfl

theorem touches_keepNav (s : State) (p : Nat) (r : NavRecord) : Touches [.gnss, .mgmt, .objs] navigationKeys s (s.keepNav p r) := by
  have hset := touches_setNavigation s (keptRecords s.gnss.navigation r)
  obtain h | h := s.keepNav_cases p r
  · rw [h]
    exact hset.mono (by decide) (by simp [navigationKeys])
  · rw [h]
    exact (hset.andThen (touches_leapTold ..)).mono (by decide) (List.Subset.refl _)

theorem State.navigation_keepNav (s : State) (p : Nat) (r : NavRecord) : (s.keepNav p r).gnss.navigation = keptRecords s.gnss.navigation r := by
  obtain h | h := s.keepNav_cases p r
  · rw [h]
    rfl
  · rw [h, State.navigation_leapTold]
    rfl

theorem State.obj_setNavigation (s : State) (n : List NavRecord) : (s.setNavigation n).obj 0x2600 8 = Nat.min n.length 0xFFFF := by
  unfold State.setNavigation
  rw [State.obj_setObj_self, Int.toNat_natCast]

theorem State.obj_keepNav (s : State) (p : Nat) (r : NavRecord) :
    (s.keepNav p r).obj 0x2600 8 = Nat.min (s.keepNav p r).gnss.navigation.length 0xFFFF := by
  rw [State.navigation_keepNav]
  obtain h | h := s.keepNav_cases p r
  · rw [h, State.obj_setNavigation]
  · rw [h, (touches_leapTold ..).obj (by decide), State.obj_setNavigation]

/-- Every record of an upload is kept. -/
def State.uploadKept (s : State) (l : List NavRecord) : State := l.foldl (fun (s : State) x => s.keepNav 0 x) s

theorem touches_uploadKept (s : State) (l : List NavRecord) : Touches [.gnss, .mgmt, .objs] navigationKeys s (s.uploadKept l) :=
  touches_foldl (fun u x => touches_keepNav u 0 x) l s

theorem State.navigation_uploadKept (s : State) (l : List NavRecord) : (s.uploadKept l).gnss.navigation = l.foldl keptRecords s.gnss.navigation := by
  induction l generalizing s with
  | nil => rfl
  | cons x r ih =>
    have h := ih (s.keepNav 0 x)
    rw [State.navigation_keepNav] at h
    exact h

theorem State.obj_uploadKept (s : State) {l : List NavRecord} (hl : l ≠ []) :
    (s.uploadKept l).obj 0x2600 8 = Nat.min (s.uploadKept l).gnss.navigation.length 0xFFFF := by
  obtain ⟨r, x, rfl⟩ := List.eq_nil_or_concat l |>.resolve_left hl
  have h : s.uploadKept (r ++ [x]) = (s.uploadKept r).keepNav 0 x := List.foldl_concat ..
  rw [List.concat_eq_append, h]
  exact State.obj_keepNav ..

theorem navigationUploadOp_long (h : 65536 < data.length) : navigationUploadOp data s = .error 0x05040005 := if_pos h

theorem navigationUploadOp_bad (h : data.length ≤ 65536) (hr : Config.navRecords data = none) : navigationUploadOp data s = .error 0x0A1E0064 := by
  refine (if_neg (by omega)).trans ?_
  rw [hr]

theorem navigationUploadOp_good {l : List NavRecord} (h : data.length ≤ 65536) (hr : Config.navRecords data = some l) :
    navigationUploadOp data s = .ok (s.uploadKept l) := by
  refine (if_neg (by omega)).trans ?_
  rw [hr]
  rfl

end Sys2Proof.Machine

namespace Sys2Proof.Proofs
open Sys2Proof Sys2Proof.Machine

/-- Settles O30: the ports, the capture and the search of its one code, and the upload. -/
theorem gnssPortsAcquireAndTakeUploads : Obligations.GnssPortsAcquireAndTakeUploads := by
  intro s tr p c age fine samples data hs
  have hgate : s.gate 0x2600 9 = none := gate_at hs _ _ (by decide) (by decide) (by decide)
  refine ⟨fun hf h1 hm hg x hx => ⟨?_, ?_⟩, fun hm h1 => ⟨fun hu hp h6 noDclk hfault => ?_, exec_samplePortFault_idle hs⟩,
    fun ha g hg => ⟨exec_acquisitionCaptureEnd_early hs, fun hlate hnone => ?_, fun hlate q ms a hp => ?_⟩,
    fun ha hl hb sig sat he => ?_, exec_acquisitionComplete_idle hs,
    fun h => refuses_of rfl hs hgate (navigationUploadOp_long h), fun h => ?_⟩
  · have ht := touches_blockTaken s p age fine samples false
    refine turns_of (exec_gnssSampleBlock_framed hs hf h1 hm hg) ⟨rfl, ?_, fun k hk => ?_⟩ ht.objects ht.frame
    · rw [State.gnssPort_blockTaken, if_pos rfl, hx]
      rfl
    · rw [State.gnssPort_blockTaken, if_neg hk]
  · have ht := (touches_blockTaken s p age fine (samples.map fun _ => zeroSample (s.obj (0x2601 + p) 6)) true).andThen (touches_bump _ (0x2601 + p) 0x0E)
    refine turns_of (exec_gnssSampleBlock_unframed hs hf h1 hm hg) ⟨?_, ?_, ?_⟩ ht.objects (keeps_weaken ht.frame (by decide))
    · rw [State.bump_intake]
      rfl
    · rw [State.gnssPort_congr (State.bump_gnss ..), State.gnssPort_blockTaken, if_pos rfl, hx]
      rfl
    · rw [State.obj_bump_self, (touches_blockTaken ..).obj List.not_mem_nil]
  · have ht := (touches_faultTaken s p c noDclk).andThen (touches_emcy _ 0xFF50 s.twin.active (p * 2 ^ 24 + s.faultStatus p noDclk * 2 ^ 16))
    refine turns_of (exec_samplePortFault hs hm h1 hu hp h6 hfault) ?_ ht.objects ht.frame
    have hgnss (d : Nat) := State.emcy_gnss (s.faultTaken p c noDclk) 0xFF50 s.twin.active d
    rw [State.gnssPort_congr (hgnss _), State.gnssChannel_congr (hgnss _)]
    have hport : (s.faultTaken p c noDclk).gnssPort p = s.portFaulted p noDclk := State.gnssPort_setGnssPort_self ..
    have hchannel : (s.faultTaken p c noDclk).gnssChannel c = (s.gnssChannel c).lost s.now := State.gnssChannel_setGnssChannel_self ..
    rw [hport, hchannel]
    exact ⟨rfl, rfl, rfl, rfl, rfl⟩
  · rw [hg]
    exact turns_of (exec_acquisitionCaptureEnd_free hs ha hlate hnone) rfl (touches_gnss s _).objects (touches_gnss s _).frame
  · rw [hg]
    exact turns_of (exec_acquisitionCaptureEnd_armed hs ha hlate hp) rfl (touches_gnss s _).objects (touches_gnss s _).frame
  · have ht := (touches_searchOne s s.gnss.acqPort (sig, sat)).trans (touches_acquired _)
    refine turns_of (exec_acquisitionComplete hs ha hl hb he) ⟨rfl, rfl, rfl, ?_⟩ ht.objects ht.frame
    change match s.detection sig sat with | none => _ | some d => _
    cases hd : s.detection sig sat with
    | none => exact fun k => by rw [State.gnssChannel_acquired, State.searchOne_none hd]
    | some d =>
      refine ⟨fun hweak k => by rw [State.gnssChannel_acquired, State.searchOne_weak hd hweak], fun hr hc hplace => ?_⟩
      rw [State.searchOne_found hd hr hc hplace, State.gnssChannel_acquired, State.gnssChannel_setGnssChannel_self]
      exact ⟨rfl, fun k hk => by rw [State.gnssChannel_acquired, State.gnssChannel_setGnssChannel, if_neg hk]⟩
  · cases hr : Config.navRecords data with
    | none => exact refuses_of rfl hs hgate (navigationUploadOp_bad h hr)
    | some l =>
      refine confirms_touches rfl hs hgate (navigationUploadOp_good h hr) ((touches_uploadKept s l).mono (by decide) (by simp [navigationKeys])) fun r => ?_
      rw [State.respond_gnss, obj_respond _ _ _ _ _ (by decide) (by decide)]
      exact ⟨s.navigation_uploadKept l, s.obj_uploadKept⟩

end Sys2Proof.Proofs
end

section
/-! PROOF. Snapshots (R221, R231 to R234): the commands in their film states, the capture, and the solution that is reported. -/

namespace Sys2Proof.Machine

variable {s t u : State} {tr : Transport} {p : Nat}

/-! ### Commands -/

theorem snapshotOp_disabled {fits : State → Bool} {f : State → State} (h : s.obj 0x2010 1 = 0) : snapshotOp fits f s = .error 0x0A1E0060 := if_pos h

theorem snapshotOp_fits {fits : State → Bool} {f : State → State} (h : s.obj 0x2010 1 = 1) (hf : fits s = true) : snapshotOp fits f s = .ok (f s) :=
  (if_neg (by omega)).trans (if_pos hf)

theorem snapshotOp_unfit {fits : State → Bool} {f : State → State} (h : s.obj 0x2010 1 = 1) (hf : fits s = false) :
    snapshotOp fits f s = .error 0x0A1E0062 := (if_neg (by omega)).trans (if_neg (by simp [hf]))

theorem State.armFilm_free (h : s.gnss.acq ≠ 1) (p ms a : Nat) :
    s.armFilm p ms a = { s with gnss := { s.gnss with film := 1, filmPort := p, filmMs := ms, armAt := some a } } := if_neg h

theorem State.armFilm_waits (h : s.gnss.acq = 1) (p ms a : Nat) : s.armFilm p ms a = { s with gnss := { s.gnss with armPend := some (p, ms, a) } } :=
  if_pos h

/-- With the unit disabled every snapshot command is refused (R233). -/
theorem refuses_snapshot (hs : InService s) (h : s.obj 0x2010 1 = 0) :
    ∀ c ∈ [Instr.snapshotArm tr, .snapshotCancel tr, .snapshotProcess tr, .snapshotRelease tr], Refuses c s tr 0x260A 4 0x0A1E0060 := by
  have hgate : s.gate 0x260A 4 = none := gate_at hs _ _ (by decide) (by decide) (by decide)
  simp only [List.forall_mem_cons]
  exact ⟨refuses_of rfl hs hgate (snapshotOp_disabled h), refuses_of rfl hs hgate (snapshotOp_disabled h), refuses_of rfl hs hgate (snapshotOp_disabled h),
    refuses_of rfl hs hgate (snapshotOp_disabled h), fun _ h => absurd h List.not_mem_nil⟩

/-! ### The capture -/

/-- The film in a state of Table 8.8. -/
def State.filmAt (s : State) (k : Nat) : State := { s with gnss := { s.gnss with film := k } }

theorem touches_filmAt (s : State) (k : Nat) : Touches [.gnss] [] s (s.filmAt k) := touches_gnss s _

theorem exec_snapshotCaptured (hs : InService s) (h2 : s.gnss.film = 2) (ht : s.gnss.filmFrom + s.gnss.filmMs * 1000000 ≤ s.now) :
    exec .snapshotCaptured s = .next ((s.filmAt 3).emcy 0xFF55 s.twin.active (s.gnss.filmPort * 2 ^ 24 + 3 * 2 ^ 16)) :=
  exec_serving hs rfl (if_pos ⟨h2, ht⟩)

theorem exec_snapshotCaptured_early (hs : InService s) (ht : s.now < s.gnss.filmFrom + s.gnss.filmMs * 1000000) :
    exec .snapshotCaptured s = .next s := exec_serving hs rfl (if_neg fun h => absurd h.2 (by omega))

/-! ### The report of a solution -/

/-- A solution reported in 0x2606 up to its whole seconds (R222). -/
def State.solutionTold (s : State) (p : Nat) (x : Int) (b v : Nat) (f : Fit) (l : List SatObs) : State :=
  (((((s.setObjW p 0x2606 3 (satPs x)).setObjW p 0x2606 4 b).setObjW p 0x2606 5 v).setObjW p 0x2606 6 (usedWord l)).setObjW p 0x2606 7
    (Nat.min f.tdop 0xFFFF)).setObjW p 0x2606 0x0D (wholeSeconds x)

/-- The offset of one system in use, reported. -/
def State.offsetTold (s : State) (o : State) (p : Nat) (f : Fit) (k : Nat) : State :=
  s.setObjW p 0x2606 (7 + k) (clampI (-(2 ^ 31)) (2 ^ 31 - 1) (o.offsetInUse p f k))

theorem State.reportSolution_eq (s : State) (p : Nat) (x : Int) (b v : Nat) (f : Fit) (l : List SatObs) : s.reportSolution p x b v f l =
    ([1, 2, 3].foldl (fun (t : State) k => t.offsetTold s p f k) (s.solutionTold p x b v f l)).bumpW p 0x2606 0x0C := by
  unfold State.reportSolution State.solutionTold State.offsetTold
  rfl

theorem within_setObjW (s : State) (n i j : Nat) (v : Int) : Within [.objs] s (s.setObjW n i j v) := (touches_setKey ..).within (List.Subset.refl _)

theorem within_solutionTold (s : State) (p : Nat) (x : Int) (b v : Nat) (f : Fit) (l : List SatObs) : Within [.objs] s (s.solutionTold p x b v f l) :=
  (((((within_setObjW ..).trans (within_setObjW ..)).trans (within_setObjW ..)).trans (within_setObjW ..)).trans (within_setObjW ..)).trans
    (within_setObjW ..)

theorem within_reportSolution (s : State) (p : Nat) (x : Int) (b v : Nat) (f : Fit) (l : List SatObs) : Within [.objs] s (s.reportSolution p x b v f l) := by
  rw [State.reportSolution_eq]
  exact ((within_solutionTold ..).trans (within_foldl (fun w k => within_setObjW ..) _ _)).trans ((touches_bumpKey ..).within (List.Subset.refl _))

/-- The keys of one item of an object differ by sub-index. -/
theorem okey_sub_ne {i j k : Nat} (h : j ≠ k) : okey 0 p i j ≠ okey 0 p i k := by
  unfold okey
  omega

theorem wholeKey_notMem_lost (p : Nat) : okey 0 p 0x2606 0x0D ∉ [lostKey] := by
  simp only [List.mem_singleton, lostKey, okey]
  omega

/-- The whole seconds of the solution stand beside what is reported after them. -/
theorem State.objKey_reportSolution (s : State) (p : Nat) (x : Int) (b v : Nat) (f : Fit) (l : List SatObs) :
    (s.reportSolution p x b v f l).objKey (okey 0 p 0x2606 0x0D) = wholeSeconds x := by
  have hoffset (w : State) (k : Nat) (h : 0x0D ≠ 7 + k) : (w.offsetTold s p f k).objKey (okey 0 p 0x2606 0x0D) = w.objKey (okey 0 p 0x2606 0x0D) :=
    State.objKey_setKey_ne w (okey_sub_ne h) _
  have htold : (s.solutionTold p x b v f l).objKey (okey 0 p 0x2606 0x0D) = wholeSeconds x := State.objKey_setKey_self ..
  rw [State.reportSolution_eq, State.bumpW, State.bumpKey, State.objKey_setKey_ne _ (okey_sub_ne (by decide))]
  simp only [List.foldl_cons, List.foldl_nil]
  rw [hoffset _ 3 (by decide), hoffset _ 2 (by decide), hoffset _ 1 (by decide), htold]

/-- A port with another solution state. -/
def State.solutionSet (s : State) (p st : Nat) : State := s.setGnssPort p { s.gnssPort p with solution := st }

theorem State.solutionState_cases (s : State) (p st used : Nat) : ((s.gnssPort p).solution = st ∧ s.solutionState p st used = s) ∨
    s.solutionState p st used = (s.solutionSet p st).emcy 0xFF51 s.twin.active (p * 2 ^ 24 + st * 2 ^ 16 + Nat.min used 255 * 2 ^ 8) := by
  unfold State.solutionState
  dsimp only
  split
  · next h => exact .inl ⟨h, rfl⟩
  · exact .inr rfl

theorem touches_solutionState (s : State) (p st used : Nat) : Touches [.gnss, .mgmt, .objs] [lostKey] s (s.solutionState p st used) := by
  obtain ⟨_, h⟩ | h := s.solutionState_cases p st used
  · rw [h]
    exact .refl s
  · rw [h]
    exact (touches_setGnssPort s p _).andThen (touches_emcy ..)

/-- The state is set, and every other port and field stands. -/
theorem State.gnssPort_solutionState (s : State) (p st used k : Nat) :
    (s.solutionState p st used).gnssPort k = if k = p then { s.gnssPort p with solution := st } else s.gnssPort k := by
  obtain ⟨hst, h⟩ | h := s.solutionState_cases p st used
  · rw [h]
    split
    · next hk => rw [hk, ← hst]
    · rfl
  · rw [h, State.gnssPort_congr (State.emcy_gnss ..)]
    exact State.gnssPort_setGnssPort ..

/-- The film's state stands. -/
theorem State.film_solutionState (s : State) (p st used : Nat) : (s.solutionState p st used).gnss.film = s.gnss.film := by
  obtain ⟨_, h⟩ | h := s.solutionState_cases p st used
  · rw [h]
  · rw [h, State.emcy_gnss]
    rfl

/-- A film's solution is reported with state 4 (R233). -/
def State.filmReported (s : State) (p : Nat) (f : Fit) (k : List SatObs) : State :=
  (s.reportSolution p (s.solutionOffset f) (s.solutionBound p f k).1 (s.solutionBound p f k).2 f k).solutionState p 4 k.length

theorem within_filmReported (s : State) (p : Nat) (f : Fit) (k : List SatObs) : Within [.gnss, .mgmt, .objs] s (s.filmReported p f k) :=
  ((within_reportSolution ..).mono (by decide)).trans ((touches_solutionState ..).within (by decide))

theorem State.filmReported_facts (s : State) (p : Nat) (f : Fit) (k : List SatObs) : (s.filmReported p f k).gnss.film = s.gnss.film ∧
    ((s.filmReported p f k).gnssPort p).solution = 4 ∧ (s.filmReported p f k).objKey (okey 0 p 0x2606 0x0D) = wholeSeconds (s.solutionOffset f) := by
  have hreport := within_reportSolution s p (s.solutionOffset f) (s.solutionBound p f k).1 (s.solutionBound p f k).2 f k
  have hgnss : _ = s.gnss := hreport.frame .gnss (by decide)
  refine ⟨(State.film_solutionState ..).trans (congrArg Gnss.film hgnss), ?_, ?_⟩
  · unfold State.filmReported
    rw [State.gnssPort_solutionState, if_pos rfl]
  · exact ((touches_solutionState ..).objects _ (wholeKey_notMem_lost p)).trans (State.objKey_reportSolution ..)

/-- The film with its solution where it has one. -/
def State.filmSolved (s : State) (p : Nat) (l : List SatObs) : State :=
  if l.length < s.unknowns p l + 3 then s
  else match (State.solveWith (fun s _ => s) p (l.length + 1) s l).2 with
    | none => s
    | some (f, k) => s.filmReported p f k

theorem State.filmSolved_few {l : List SatObs} (h : l.length < s.unknowns p l + 3) : s.filmSolved p l = s := if_pos h

theorem State.filmSolved_enough {l : List SatObs} (h : s.unknowns p l + 3 ≤ l.length) : s.filmSolved p l =
    match (State.solveWith (fun s _ => s) p (l.length + 1) s l).2 with
    | none => s
    | some (f, k) => s.filmReported p f k := if_neg (by omega)

theorem State.filmSolved_kept (s : State) (p : Nat) (l : List SatObs) : Within [.gnss, .mgmt, .objs] s (s.filmSolved p l) ∧
    (s.filmSolved p l).gnss.film = s.gnss.film := by
  unfold State.filmSolved
  split
  · exact ⟨.refl s, rfl⟩
  · split
    · exact ⟨.refl s, rfl⟩
    · next f k _ => exact ⟨within_filmReported s p f k, (s.filmReported_facts p f k).1⟩

/-- The film is processed: EMCY 0xFF55 with state 5. -/
def State.filmTold (s : State) (p : Nat) : State := s.emcy 0xFF55 s.twin.active (p * 2 ^ 24 + 5 * 2 ^ 16)

theorem touches_filmTold (s : State) (p : Nat) : Touches [.mgmt, .objs] [lostKey] s (s.filmTold p) := touches_emcy ..

theorem exec_snapshotProcessed (hs : InService s) (h : s.gnss.film = 4) : exec .snapshotProcessed s =
    .next (((s.filmAt 5).filmSolved s.gnss.filmPort ((s.filmAt 5).filmObservations s.gnss.filmPort)).filmTold s.gnss.filmPort) := by
  refine exec_serving hs rfl ((if_pos h).trans ?_)
  unfold State.filmSolved State.filmTold State.filmReported State.filmAt
  rfl

end Sys2Proof.Machine

namespace Sys2Proof.Proofs
open Sys2Proof Sys2Proof.Machine

/-- Settles O31: the commands by the film's state, the capture by its length, and the film's solution. -/
theorem snapshotsFollowTheFilm : Obligations.SnapshotsFollowTheFilm := by
  intro s tr hs
  have hgate : s.gate 0x260A 4 = none := gate_at hs _ _ (by decide) (by decide) (by decide)
  have hgnss (y : Gnss) := touches_gnss s y
  refine ⟨refuses_snapshot hs, fun h1 => ⟨fun h0 hp => ⟨fun ha => ?_, fun ha => ?_⟩, fun h => ?_, fun h => ?_, fun h1' hp => ?_, fun h3 => ?_, fun h3 => ?_,
    fun h => ?_, fun h3 h5 => ?_⟩, fun h2 ht => ?_, fun _ ht => exec_snapshotCaptured_early hs ht, fun h4 u hu p hp l hl => ⟨fun hfew => ?_, ?_⟩⟩
  · exact confirms_part rfl hs hgate ((snapshotOp_fits h1 (by simp [h0, hp])).trans (congrArg Except.ok (State.armFilm_free ha ..))) (hgnss _) fun r => State.respond_gnss ..
  · exact confirms_part rfl hs hgate ((snapshotOp_fits h1 (by simp [h0, hp])).trans (congrArg Except.ok (State.armFilm_waits ha ..))) (hgnss _) fun r => State.respond_gnss ..
  · refine refuses_of rfl hs hgate (snapshotOp_unfit h1 ?_)
    obtain h | h := h
    · simp [h]
    · simp [Option.isSome_iff_ne_none, h]
  · refine confirms_part rfl hs hgate (snapshotOp_fits h1 ?_) (hgnss _) fun r => State.respond_gnss ..
    obtain h | h := h
    · simp [h]
    · simp [Option.isSome_iff_ne_none, h]
  · exact refuses_of rfl hs hgate (snapshotOp_unfit h1 (by simp [h1', hp]))
  · exact confirms_part rfl hs hgate (snapshotOp_fits h1 (by simp [h3])) (hgnss _) fun r => State.respond_gnss ..
  · exact refuses_of rfl hs hgate (snapshotOp_unfit h1 (by simp [h3]))
  · exact confirms_part rfl hs hgate (snapshotOp_fits h1 (by simpa using h)) (hgnss _) fun r => State.respond_gnss ..
  · exact refuses_of rfl hs hgate (snapshotOp_unfit h1 (by simp [h3, h5]))
  · have ht' := (touches_filmAt s 3).andThen (touches_emcy _ 0xFF55 s.twin.active (s.gnss.filmPort * 2 ^ 24 + 3 * 2 ^ 16))
    exact turns_of (exec_snapshotCaptured hs h2 ht) (State.emcy_gnss ..) ht'.objects ht'.frame
  · have hexec := exec_snapshotProcessed hs h4
    rw [← hp] at hexec
    have hu' : s.filmAt 5 = u := hu.symm
    rw [hu', ← hl, State.filmSolved_few hfew, ← hu'] at hexec
    have ht := (touches_filmAt s 5).andThen (touches_filmTold _ p)
    exact turns_of hexec (State.emcy_gnss ..) ht.objects ht.frame
  · have hexec := exec_snapshotProcessed hs h4
    rw [← hp] at hexec
    have hu' : s.filmAt 5 = u := hu.symm
    rw [hu', ← hl] at hexec
    obtain ⟨hkept, hfilm⟩ := u.filmSolved_kept p l
    have htold := touches_filmTold (u.filmSolved p l) p
    have hgnss : ((u.filmSolved p l).filmTold p).gnss = (u.filmSolved p l).gnss := State.emcy_gnss ..
    refine completes_intro hexec ⟨?_, ?_, fun henough => ?_⟩
    · rw [hgnss, hfilm, hu]
    · exact (htold.frame .clock (by decide)).trans ((hkept.frame .clock (by decide)).trans (by rw [hu]))
    · rw [State.gnssPort_congr hgnss, hgnss]
      have hsolved := State.filmSolved_enough henough
      generalize (State.solveWith (fun s _ => s) p (l.length + 1) u l).2 = found at hsolved ⊢
      have hwhole := htold.objects _ (wholeKey_notMem_lost p)
      match found, hsolved with
      | none, hsolved =>
        rw [hsolved]
        exact congrArg State.gnss hu
      | some (f, k), hsolved =>
        rw [hwhole, hsolved]
        exact (u.filmReported_facts p f k).2

end Sys2Proof.Proofs
end

section
/-! PROOF. Common-view tracks (R236, R237): the end of a track and the FIFO of its records. -/

namespace Sys2Proof.Machine

variable {s : State} {t0 q : Nat}

/-- The records of a track in the FIFO, each with its sequence, and the sequence of the next (R237). -/
def State.tracksAdded (s : State) (kept : List (Nat × Octets)) : State :=
  { s with gnss := { s.gnss with
      tracks := s.gnss.tracks ++ kept.zipIdx.map fun e => ((s.gnss.trackSeq + e.2) % 65536, e.1.2 ++ beOctets 2 ((s.gnss.trackSeq + e.2) % 65536)),
      trackSeq := if kept = [] then s.gnss.trackSeq else (s.gnss.trackSeq + kept.length) % 65536 } }

theorem State.tracksAdded_nil (s : State) : s.tracksAdded [] = s := by
  unfold State.tracksAdded
  rw [List.zipIdx_nil, List.map_nil, List.append_nil]
  rfl

/-- One record with its port, after `acc.2.1` records of this track were dropped, the first of them from port `acc.2.2`. -/
def enterOne (acc : State × Nat × Nat) (r : Nat × Octets) : State × Nat × Nat :=
  ((acc.1.enterTrack r.2).1, acc.2.1 + bitNat (acc.1.enterTrack r.2).2,
    if (acc.1.enterTrack r.2).2 && decide (acc.2.1 = 0) then r.1 else acc.2.2)

theorem State.enterTrack_room {r : Octets} (h : s.gnss.tracks.length < 1024) : s.enterTrack r =
    ({ s with gnss := { s.gnss with tracks := s.gnss.tracks ++ [(s.gnss.trackSeq % 65536, r ++ beOctets 2 (s.gnss.trackSeq % 65536))],
                                    trackSeq := (s.gnss.trackSeq % 65536 + 1) % 65536 } }, false) := if_neg (by omega)

theorem State.enterTrack_full {r : Octets} (h : 1024 ≤ s.gnss.tracks.length) : s.enterTrack r = (s.bump 0x260B 6, true) := if_pos h

/-- The sequence that the next record takes, and the one after it. -/
theorem State.nextSeq_tracksAdded (s : State) (kept : List (Nat × Octets)) :
    (s.tracksAdded kept).gnss.trackSeq % 65536 = (s.gnss.trackSeq + kept.length) % 65536 := by
  change (if kept = [] then s.gnss.trackSeq else (s.gnss.trackSeq + kept.length) % 65536) % 65536 = _
  split
  · next h => rw [h, List.length_nil, Nat.add_zero]
  · exact Nat.mod_mod ..

theorem State.length_tracksAdded (s : State) (kept : List (Nat × Octets)) :
    (s.tracksAdded kept).gnss.tracks.length = s.gnss.tracks.length + kept.length := by
  unfold State.tracksAdded
  rw [List.length_append, List.length_map, List.length_zipIdx]

theorem State.tracksAdded_concat (s : State) (kept : List (Nat × Octets)) (r : Nat × Octets)
    (h : s.gnss.tracks.length + kept.length < 1024) : (s.tracksAdded kept).enterTrack r.2 = (s.tracksAdded (kept ++ [r]), false) := by
  rw [State.enterTrack_room (by rw [State.length_tracksAdded]; exact h), State.nextSeq_tracksAdded]
  unfold State.tracksAdded
  simp [List.zipIdx_append, Nat.add_assoc]

/-- Records for which the FIFO has room all enter it. -/
theorem foldl_enterOne_room {kept : List (Nat × Octets)} (h : s.gnss.tracks.length + kept.length ≤ 1024) :
    kept.foldl enterOne (s, 0, 0) = (s.tracksAdded kept, 0, 0) := by
  induction kept using List.reverseRecOn with
  | nil => rw [List.foldl_nil, State.tracksAdded_nil]
  | append_singleton kept r ih =>
    rw [List.length_append, List.length_singleton] at h
    rw [List.foldl_append, ih (by omega), List.foldl_cons, List.foldl_nil, enterOne, State.tracksAdded_concat s kept r (by omega)]
    rfl

/-- Records dropped are counted, and change nothing else. -/
structure Dropped (s t : State) (n : Nat) : Prop where
  touches : Touches [.objs] [okey 0 0 0x260B 6] s t
  count : s.obj 0x260B 6 < 2 ^ 32 → t.obj 0x260B 6 = (s.obj 0x260B 6 + n) % 2 ^ 32

theorem Dropped.refl (s : State) : Dropped s s 0 := ⟨.refl s, fun h => (Nat.mod_eq_of_lt h).symm⟩

theorem Dropped.gnss {t : State} {n : Nat} (h : Dropped s t n) : t.gnss = s.gnss := h.touches.frame .gnss (by decide)

theorem Dropped.bump {t : State} {n : Nat} (h : Dropped s t n) : Dropped s (t.bump 0x260B 6) (n + 1) := by
  refine ⟨h.touches.trans (touches_bump ..), fun hlt => ?_⟩
  rw [State.obj_bump_self, h.count hlt, Nat.mod_add_mod, Nat.add_assoc]

/-- With the FIFO full every record is dropped. -/
theorem foldl_enterOne_full {l : List (Nat × Octets)} (h : 1024 ≤ s.gnss.tracks.length) :
    ∃ t p, l.foldl enterOne (s, 0, 0) = (t, l.length, p) ∧ Dropped s t l.length := by
  induction l using List.reverseRecOn with
  | nil => exact ⟨s, 0, rfl, .refl s⟩
  | append_singleton l r ih =>
    obtain ⟨t, p, hfold, hdrop⟩ := ih
    have hfull : 1024 ≤ t.gnss.tracks.length := by rw [hdrop.gnss]; exact h
    rw [List.foldl_append, hfold, List.foldl_cons, List.foldl_nil, enterOne, State.enterTrack_full hfull, List.length_append, List.length_singleton]
    exact ⟨_, _, rfl, hdrop.bump⟩

/-- The records that the FIFO has room for. -/
def State.roomFor (s : State) (l : List (Nat × Octets)) : List (Nat × Octets) := l.take (1024 - s.gnss.tracks.length)

theorem foldl_enterOne_roomFor (s : State) (l : List (Nat × Octets)) : (s.roomFor l).foldl enterOne (s, 0, 0) = (s.tracksAdded (s.roomFor l), 0, 0) := by
  have hlen : (s.roomFor l).length ≤ 1024 - s.gnss.tracks.length := List.length_take_le ..
  rcases Nat.lt_or_ge 1024 s.gnss.tracks.length with hover | hroom
  · have hnil : s.roomFor l = [] := List.eq_nil_of_length_eq_zero (by omega)
    rw [hnil, State.tracksAdded_nil, List.foldl_nil]
  · exact foldl_enterOne_room (by omega)

/-- A track's records: those for which there is room enter the FIFO, the others are counted (R237). -/
theorem foldl_enterOne (s : State) (l : List (Nat × Octets)) :
    ∃ t p, l.foldl enterOne (s, 0, 0) = (t, l.length - (s.roomFor l).length, p) ∧
      Dropped (s.tracksAdded (s.roomFor l)) t (l.length - (s.roomFor l).length) := by
  have hlen : (s.roomFor l).length = min (1024 - s.gnss.tracks.length) l.length := List.length_take
  have hsplit : s.roomFor l ++ l.drop (1024 - s.gnss.tracks.length) = l := List.take_append_drop ..
  have hrest : (l.drop (1024 - s.gnss.tracks.length)).length = l.length - (s.roomFor l).length := by
    rw [List.length_drop]
    omega
  have hfold : l.foldl enterOne (s, 0, 0) = (l.drop (1024 - s.gnss.tracks.length)).foldl enterOne (s.tracksAdded (s.roomFor l), 0, 0) := by
    rw [← foldl_enterOne_roomFor, ← List.foldl_append, hsplit]
  rw [hfold, ← hrest]
  rcases le_or_gt l.length (1024 - s.gnss.tracks.length) with hall | hmore
  · rw [List.drop_eq_nil_of_le hall]
    exact ⟨_, 0, rfl, .refl _⟩
  · exact foldl_enterOne_full (by rw [State.length_tracksAdded]; omega)

/-! ### The end of a track -/

/-- No track is in progress. -/
def State.trackOver (s : State) : State :=
  { s with gnss := { s.gnss with track := none, trackData := [], trackBroken := false, trackRefBad := false } }

theorem touches_trackOver (s : State) : Touches [.gnss] [] s s.trackOver := touches_gnss s _

/-- EMCY 0xFF56 where records were dropped (R237). -/
def State.dropsTold (s : State) (n p : Nat) : State :=
  if n = 0 then s else s.emcy 0xFF56 s.twin.active (p * 2 ^ 24 + Nat.min n 255 * 2 ^ 16)

theorem touches_dropsTold (s : State) (n p : Nat) : Touches [.mgmt, .objs] [lostKey] s (s.dropsTold n p) := by
  unfold State.dropsTold
  split
  · exact .refl s
  · exact touches_emcy ..

/-- The state once a track's records have been through the FIFO. -/
def trackEnded (r : State × Nat × Nat) : State := r.1.trackOver.dropsTold r.2.1 r.2.2

theorem exec_trackEnd (hs : InService s) (ht : s.gnss.track = some t0) (h : t0 + 780 ≤ s.taiSecond ∨ s.gnss.trackBroken = true)
    {l : List (Nat × Octets)} (hl : (if s.gnss.trackBroken then [] else s.trackRecords t0) = l) {u : State} {n p : Nat}
    (hfold : l.foldl enterOne (s, 0, 0) = (u, n, p)) : exec .trackEnd s = .next (u.trackOver.dropsTold n p) := by
  refine exec_serving hs rfl ?_
  rw [ht]
  refine (if_neg ?_).trans ?_
  · rintro ⟨hearly, hbroken⟩
    obtain h | h := h
    · exact absurd hearly (Nat.not_lt.2 h)
    · simp [hbroken] at h
  · rw [hl]
    exact congrArg trackEnded hfold

theorem exec_trackEnd_early (hs : InService s) (ht : s.gnss.track = some t0) (hb : s.gnss.trackBroken = false) (h : s.taiSecond < t0 + 780) :
    exec .trackEnd s = .next s := by
  refine exec_serving hs rfl ?_
  rw [ht]
  exact if_pos ⟨h, hb⟩

theorem trackReleaseOp_some {l : List (Nat × Octets)} (h : releaseTo Prod.fst q s.gnss.tracks = some l) :
    trackReleaseOp q s = .ok { s with gnss := { s.gnss with tracks := l } } := by rw [trackReleaseOp, h]

theorem trackReleaseOp_none (h : releaseTo Prod.fst q s.gnss.tracks = none) : trackReleaseOp q s = .error 0x0A1E0065 := by rw [trackReleaseOp, h]

/-! ### What the end leaves -/

/-- A track that a registration gate broke ends without records. -/
theorem turns_trackEnd_broken (hs : InService s) (ht : s.gnss.track = some t0) (hb : s.gnss.trackBroken = true) :
    Turns .trackEnd s [.gnss] [] fun t => t.gnss = { s.gnss with track := none, trackData := [], trackBroken := false, trackRefBad := false } :=
  turns_of (exec_trackEnd hs ht (.inr hb) (if_pos hb) rfl) rfl (touches_trackOver s).objects (touches_trackOver s).frame

/-- A complete track leaves its records in the FIFO, and a count of those that did not fit. -/
theorem turns_trackEnd_complete (hs : InService s) (ht : s.gnss.track = some t0) (hb : s.gnss.trackBroken = false) (hlate : t0 + 780 ≤ s.taiSecond)
    {kept : List (Nat × Octets)} (hk : kept = (s.trackRecords t0).take (1024 - s.gnss.tracks.length)) :
    Turns .trackEnd s [.gnss, .mgmt, .objs] [okey 0 0 0x260B 6, lostKey] fun t =>
      t.gnss = { s.gnss with
        track := none, trackData := [], trackRefBad := false,
        tracks := s.gnss.tracks ++ kept.zipIdx.map fun e =>
          ((s.gnss.trackSeq + e.2) % 65536, e.1.2 ++ beOctets 2 ((s.gnss.trackSeq + e.2) % 65536)),
        trackSeq := if kept = [] then s.gnss.trackSeq else (s.gnss.trackSeq + kept.length) % 65536 } ∧
      (s.obj 0x260B 6 < 2 ^ 32 → t.obj 0x260B 6 = (s.obj 0x260B 6 + ((s.trackRecords t0).length - kept.length)) % 2 ^ 32) := by
  have hroom : s.roomFor (s.trackRecords t0) = kept := hk.symm
  obtain ⟨u, p, hfold, hdrop⟩ := foldl_enterOne s (s.trackRecords t0)
  rw [hroom] at hfold hdrop
  have hadded : Touches [.gnss] [] s (s.tracksAdded kept) := touches_gnss s _
  have hover := (touches_trackOver u).andThen (touches_dropsTold u.trackOver ((s.trackRecords t0).length - kept.length) p)
  have htouch := (hadded.andThen hdrop.touches).andThen hover
  refine turns_of (exec_trackEnd hs ht (.inl hlate) (if_neg (by simp [hb])) hfold) ⟨?_, fun hlt => ?_⟩ htouch.objects (keeps_weaken htouch.frame (by decide))
  · have hgnss : (u.trackOver.dropsTold ((s.trackRecords t0).length - kept.length) p).gnss = u.trackOver.gnss :=
      (touches_dropsTold ..).frame .gnss (by decide)
    rw [hgnss, State.trackOver, hdrop.gnss, State.tracksAdded, ← hb]
  · rw [hover.obj (by decide), hdrop.count hlt]
    rfl

end Sys2Proof.Machine
end

section
/-! PROOF. The time solution and surveys (R221, R225, R227 to R230): delivery, exclusions and their end, the mean position. -/

namespace Sys2Proof.Machine

variable {s t u : State} {p r k mask : Nat}

/-! ### What a reference's change leaves -/

/-- The parts that a change of a reference's state may change. -/
def refParts : List Part := [.refs, .mgmt, .objs, .faults, .synth]

theorem within_setLoupe (s : State) (r : Nat) (x : Loupe) : Within refParts s (s.setLoupe r x) := (touches_setLoupe ..).within (by decide)

theorem within_setRef (s : State) (r new reason : Nat) : Within refParts s (s.setRef r new reason) := (touches_setRef ..).within (by decide)

theorem within_heldRef (s : State) (r new reason : Nat) : Within refParts s ((s.holdTrackers r).setRef r new reason) :=
  ((touches_holdTrackers s r).within (by decide)).trans (within_setRef ..)

theorem within_disqualify (s : State) (r reason : Nat) : Within refParts s (s.disqualify r reason) := within_ite (within_heldRef ..) (.refl s)

theorem within_exclude (s : State) (r reason : Nat) : Within refParts s (s.exclude r reason) := within_ite (.refl s) (within_heldRef ..)

theorem within_endExclusion (s : State) (r : Nat) : Within refParts s (s.endExclusion r) :=
  within_ite (.refl s) (within_ite (within_setLoupe ..) (within_ite (within_setLoupe ..) (within_setRef ..)))

theorem within_restartDwell (s : State) (r : Nat) : Within refParts s (s.restartDwell r) :=
  within_foldl (fun _ _ => within_ite ((touches_setDpll ..).within (by decide)) (.refl _)) _ s

theorem within_phaseHit (s : State) (r : Nat) : Within refParts s (s.phaseHit r) := by
  unfold State.phaseHit
  extract_lets l hits s1
  have h1 : Within refParts s s1 := ((within_setLoupe ..).trans ((touches_bump ..).within (by decide))).trans (within_restartDwell ..)
  exact within_ite (within_ite (h1.trans (within_disqualify ..)) (within_ite (h1.trans (within_heldRef ..)) (within_ite (h1.trans (within_setLoupe ..))
    (h1.trans (within_setLoupe ..))))) h1

theorem within_measuredAt (s : State) (r n : Nat) (at32 x : Int) : Within refParts s (s.measuredAt r n at32 x) := by
  unfold State.measuredAt
  extract_lets pred l m s1 off
  have h1 : Within refParts s s1 := within_setLoupe ..
  clear_value pred
  refine within_ite (within_ite (h1.trans (within_disqualify ..)) h1) ?_
  split
  · exact h1
  · exact within_ite (h1.trans (within_phaseHit ..)) h1

theorem within_deliverSolution (s : State) (p : Nat) (x : Int) (b v : Nat) : Within refParts s (s.deliverSolution p x b v) :=
  within_foldl (fun _ _ => (within_setLoupe ..).trans (within_measuredAt ..)) _ s

/-! ### The last solution of a port stands -/

/-- The last solution of every port stands, and its reel. -/
structure FixesStand (s t : State) : Prop where
  last : ∀ k, (t.gnssPort k).last = (s.gnssPort k).last
  reel : ∀ k, (t.gnssPort k).lastReel = (s.gnssPort k).lastReel

theorem FixesStand.refl (s : State) : FixesStand s s := ⟨fun _ => rfl, fun _ => rfl⟩

theorem FixesStand.trans (h : FixesStand s t) (g : FixesStand t u) : FixesStand s u :=
  ⟨fun k => (g.last k).trans (h.last k), fun k => (g.reel k).trans (h.reel k)⟩

theorem fixesStand_ite {c : Prop} [Decidable c] (h : FixesStand s t) (g : FixesStand s u) : FixesStand s (if c then t else u) := by
  split
  · exact h
  · exact g

theorem fixesStand_of_gnss (h : t.gnss = s.gnss) : FixesStand s t :=
  ⟨fun k => by rw [State.gnssPort_congr h], fun k => by rw [State.gnssPort_congr h]⟩

theorem Within.fixesStand {parts : List Part} (h : Within parts s t) (hp : .gnss ∉ parts) : FixesStand s t := fixesStand_of_gnss (h.frame .gnss hp)

theorem fixesStand_setGnssPort {x : GnssPort} (hl : x.last = (s.gnssPort p).last) (hr : x.lastReel = (s.gnssPort p).lastReel) :
    FixesStand s (s.setGnssPort p x) := by
  refine ⟨fun k => ?_, fun k => ?_⟩
  all_goals
    rw [State.gnssPort_setGnssPort]
    split
  · next h => rw [h, hl]
  · rfl
  · next h => rw [h, hr]
  · rfl

theorem fixesStand_solutionState (s : State) (p st used : Nat) : FixesStand s (s.solutionState p st used) := by
  refine ⟨fun k => ?_, fun k => ?_⟩
  all_goals
    rw [State.gnssPort_solutionState]
    split
  · next h => rw [h]
  · rfl
  · next h => rw [h]
  · rfl

theorem fixesStand_armFilm (s : State) (p ms a : Nat) : FixesStand s (s.armFilm p ms a) := by
  unfold State.armFilm
  split
  · exact ⟨fun _ => rfl, fun _ => rfl⟩
  · exact ⟨fun _ => rfl, fun _ => rfl⟩

theorem fixesStand_setObj (s : State) (i j : Nat) (v : Int) : FixesStand s (s.setObj i j v) := fixesStand_of_gnss (State.setObj_gnss ..)

theorem fixesStand_excludePort (s : State) (p : Nat) (tests : List (Nat × Nat)) : FixesStand s (s.excludePort p tests) := by
  unfold State.excludePort
  split
  · exact .refl s
  · extract_lets x mask inForce s1 held s2 s3 s4 s5
    have h1 : FixesStand s s1 := fixesStand_setGnssPort rfl rfl
    have h2 : FixesStand s1 s2 := fixesStand_ite (fixesStand_of_gnss rfl) (.refl s1)
    have h3 : FixesStand s2 s3 := (within_foldl (fun _ _ => within_exclude ..) _ s2).fixesStand (by decide)
    have h4 : FixesStand s3 s4 := (fixesStand_solutionState ..).trans (fixesStand_of_gnss (State.emcy_gnss ..))
    have h5 : FixesStand s4 s5 := fixesStand_setObj ..
    have hall := (((h1.trans h2).trans h3).trans h4).trans h5
    exact fixesStand_ite (hall.trans (fixesStand_armFilm ..)) hall

/-! ### The end of an exclusion -/

/-- A port without exclusion (R229). -/
def GnssPort.readmitted (x : GnssPort) : GnssPort := { x with excluded := 0, passes := 0 }

/-- The exclusions in force are shown in 0x2605.07. -/
def State.exclusionsShown (s : State) : State := s.setObj 0x2605 7 ((s.gnssPort 0).excluded % 256 + 256 * ((s.gnssPort 1).excluded % 256) : Nat)

theorem State.clearPort_eq (s : State) (p : Nat) : s.clearPort p =
    (((s.setGnssPort p (s.gnssPort p).readmitted).exclusionsShown).gnssRefs p).foldl (fun s r => if (s.loupe r).disq = 9 then s.endExclusion r else s)
      (s.setGnssPort p (s.gnssPort p).readmitted).exclusionsShown := rfl

theorem within_exclusionsShown (s : State) : Within refParts s s.exclusionsShown := (touches_setObj ..).within (by decide)

/-- The clearing of a port changes that port of the GNSS, and the states of its references. -/
theorem within_clearPort (s : State) (p : Nat) : Within refParts (s.setGnssPort p (s.gnssPort p).readmitted) (s.clearPort p) := by
  rw [State.clearPort_eq]
  exact (within_exclusionsShown _).trans (within_foldl (fun _ _ => within_ite (within_endExclusion ..) (.refl _)) _ _)

theorem State.gnssPort_clearPort (s : State) (p k : Nat) :
    (s.clearPort p).gnssPort k = if k = p then (s.gnssPort p).readmitted else s.gnssPort k :=
  (State.gnssPort_congr ((within_clearPort s p).frame .gnss (by decide)) k).trans (State.gnssPort_setGnssPort ..)

theorem fixesStand_clearPort (s : State) (p : Nat) : FixesStand s (s.clearPort p) := by
  have hset : FixesStand s (s.setGnssPort p (s.gnssPort p).readmitted) := fixesStand_setGnssPort rfl rfl
  exact hset.trans ((within_clearPort s p).fixesStand (by decide))

theorem frame_clearPort (s : State) (p : Nat) : Within (.gnss :: refParts) s (s.clearPort p) :=
  ((touches_setGnssPort s p _).within (by decide)).trans ((within_clearPort s p).mono (by decide))

/-- The ports named, one after the other. -/
theorem State.gnssPort_clearPorts (s : State) (mask k : Nat) :
    ((bitsSet mask 2).foldl State.clearPort s).gnssPort k = if k ∈ bitsSet mask 2 then (s.gnssPort k).readmitted else s.gnssPort k :=
  bank_foldl (look := State.gnssPort) (G := fun _ x => x.readmitted) (P := fun _ => True) (fun _ _ h => h)
    (fun u k j _ => u.gnssPort_clearPort k j) (List.nodup_range.filter _) trivial k

theorem clearExclusionOp_none (h : k < 8) (hb : bit mask k = true) (hk : 1 < k ∨ (s.gnssPort k).excluded = 0) :
    clearExclusionOp mask s = .error 0x0A1E0066 :=
  if_pos (List.any_eq_true.2 ⟨k, mem_bitsSet h hb, by simpa using hk⟩)

theorem clearExclusionOp_all (h : ∀ k, k < 8 → bit mask k = true → k ≤ 1 ∧ (s.gnssPort k).excluded ≠ 0) :
    clearExclusionOp mask s = .ok ((bitsSet mask 2).foldl State.clearPort s) := by
  refine if_neg fun hany => ?_
  obtain ⟨k, hk, hbad⟩ := List.any_eq_true.1 hany
  obtain ⟨hlt, hb⟩ := List.mem_filter.1 hk
  obtain ⟨hport, hex⟩ := h k (List.mem_range.1 hlt) hb
  simp [hex] at hbad
  omega

/-! ### A solution that was formed -/

/-- A port with the solution of this reel (R221). -/
def State.portFixed (s : State) (p : Nat) (x : Int) : GnssPort :=
  { s.gnssPort p with last := some x, lastReel := s.clock.reel, history := ((s.clock.reel, x) :: (s.gnssPort p).history).take 86401 }

/-- The solution is kept by its port, and reported. -/
def State.solutionKept (s : State) (p : Nat) (f : Fit) (l : List SatObs) : State :=
  (s.setGnssPort p (s.portFixed p (s.solutionOffset f))).reportSolution p (s.solutionOffset f) (s.solutionBound p f l).1 (s.solutionBound p f l).2 f l

theorem State.gnssPort_solutionKept (s : State) (p : Nat) (f : Fit) (l : List SatObs) :
    (s.solutionKept p f l).gnssPort p = s.portFixed p (s.solutionOffset f) :=
  (State.gnssPort_congr ((within_reportSolution ..).frame .gnss (by decide)) p).trans (State.gnssPort_setGnssPort_self ..)

theorem fixesStand_surveyPoint (s : State) (p : Nat) (f : Fit) : FixesStand s (s.surveyPoint p f) := by
  unfold State.surveyPoint
  exact fixesStand_ite (.refl s) (fixesStand_setGnssPort rfl rfl)

/-- The last solution of a port is the one just formed. -/
theorem State.last_checkSolution (s : State) (p : Nat) (f : Fit) (l : List SatObs) (failed inView : Nat) :
    ((s.checkSolution p f l failed inView).gnssPort p).last = some (s.solutionOffset f) ∧
    ((s.checkSolution p f l failed inView).gnssPort p).lastReel = s.clock.reel := by
  have hport := s.gnssPort_solutionKept p f l
  suffices h : FixesStand (s.solutionKept p f l) (s.checkSolution p f l failed inView) by
    rw [h.last, h.reel, hport]
    exact ⟨rfl, rfl⟩
  unfold State.checkSolution
  extract_lets x tests bound q q1 s2 s3 n other s4
  have h2 : s2 = s.solutionKept p f l := rfl
  rw [← h2]
  have h3 : FixesStand s2 s3 := fixesStand_excludePort ..
  have h4 : FixesStand s2 s4 := fixesStand_setGnssPort rfl rfl
  have hdelivered (v w : Nat) : FixesStand s2 (((s2.surveyPoint p f).solutionState p v w).deliverSolution p x bound.1 bound.2) :=
    ((fixesStand_surveyPoint ..).trans (fixesStand_solutionState ..)).trans ((within_deliverSolution ..).fixesStand (by decide))
  exact fixesStand_ite (fixesStand_ite (h3.trans (fixesStand_excludePort ..)) h3)
    (fixesStand_ite (fixesStand_ite (h4.trans (fixesStand_clearPort ..)) h4) (hdelivered _ _))

/-- The values reported of a solution leave the position mode of its port. -/
theorem positionMode_ne (p j : Nat) : okey 0 0 (0x2603 + p) 0x0D ≠ okey 0 p 0x2606 j := by
  unfold okey
  omega

theorem State.mode_reportSolution (s : State) (p : Nat) (x : Int) (b v : Nat) (f : Fit) (l : List SatObs) :
    (s.reportSolution p x b v f l).obj (0x2603 + p) 0x0D = s.obj (0x2603 + p) 0x0D := by
  have hset (w : State) (j : Nat) (y : Int) : (w.setObjW p 0x2606 j y).objKey (okey 0 0 (0x2603 + p) 0x0D) = w.objKey (okey 0 0 (0x2603 + p) 0x0D) :=
    State.objKey_setKey_ne w (positionMode_ne p j) _
  refine State.obj_congr ?_
  rw [State.reportSolution_eq, State.bumpW, State.bumpKey, State.objKey_setKey_ne _ (positionMode_ne p _)]
  simp only [List.foldl_cons, List.foldl_nil, State.offsetTold, State.solutionTold, hset]

/-- A solution that passes every test, of a port in position mode 1 that is not excluded, is a fix (R229). -/
theorem State.checkSolution_fix (s : State) (p : Nat) (f : Fit) (l : List SatObs) (failed inView : Nat)
    (htests : s.referenceTests p (s.solutionOffset f) failed inView = []) (hex : (s.gnssPort p).excluded = 0) (hmode : s.obj (0x2603 + p) 0x0D = 1) :
    ((s.checkSolution p f l failed inView).gnssPort p).solution = 2 := by
  have hport := s.gnssPort_solutionKept p f l
  have hsurvey : (s.solutionKept p f l).surveying p = false := by
    have h : (s.solutionKept p f l).obj (0x2603 + p) 0x0D = 1 := (State.mode_reportSolution ..).trans hmode
    rw [State.surveying, h]
    rfl
  have hpoint : (s.solutionKept p f l).surveyPoint p f = s.solutionKept p f l := if_pos (by simp [hsurvey])
  unfold State.checkSolution
  extract_lets x tests bound q q1 s2 s3 n other s4
  have h2 : s2 = s.solutionKept p f l := rfl
  have htests' : tests = [] := htests
  rw [if_neg (by simp [htests']), h2, if_neg (by rw [hport]; simp [State.portFixed, hex]), hpoint, hsurvey,
    State.gnssPort_congr ((within_deliverSolution ..).frame .gnss (by decide)), State.gnssPort_solutionState, if_pos rfl]
  rfl

/-! ### A latch without a solution -/

/-- A reference of the port misses a solution; two in a row lose it (R131). -/
def State.missOne (s : State) (r : Nat) : State :=
  if 2 ≤ (s.loupe r).misses + 1 then (s.setLoupe r { s.loupe r with misses := (s.loupe r).misses + 1 }).refLost r 1
  else s.setLoupe r { s.loupe r with misses := (s.loupe r).misses + 1 }

theorem State.noSolution_eq (s : State) (p : Nat) : s.noSolution p = (s.gnssRefs p).foldl State.missOne (s.solutionState p 0 0) := rfl

theorem within_missOne (s : State) (r : Nat) : Within refParts s (s.missOne r) :=
  within_ite ((within_setLoupe ..).trans (within_refLost ..)) (within_setLoupe ..)

theorem State.solution_noSolution (s : State) (p : Nat) : ((s.noSolution p).gnssPort p).solution = 0 := by
  rw [State.noSolution_eq, State.gnssPort_congr ((within_foldl within_missOne _ _).frame .gnss (by decide)), State.gnssPort_solutionState, if_pos rfl]

/-- A reference that has missed no solution yet misses its first. -/
def State.missFirst (s : State) (r : Nat) : State := s.setLoupe r { s.loupe r with misses := 1 }

theorem State.missOne_first (h : (s.loupe r).misses = 0) : s.missOne r = s.missFirst r := by
  unfold State.missOne State.missFirst
  rw [h]
  exact if_neg (by decide)

theorem missOne_foldl {l : List Nat} (hl : l.Nodup) (h : ∀ r ∈ l, (s.loupe r).misses = 0) : l.foldl State.missOne s = l.foldl State.missFirst s := by
  induction l generalizing s with
  | nil => rfl
  | cons a l ih =>
    obtain ⟨ha, hl⟩ := List.nodup_cons.1 hl
    rw [List.foldl_cons, List.foldl_cons, State.missOne_first (h a List.mem_cons_self)]
    refine ih hl fun r hr => ?_
    have hne : r ≠ a := fun hra => ha (hra ▸ hr)
    rw [State.missFirst, State.loupe_setLoupe, if_neg hne]
    exact h r (List.mem_cons_of_mem _ hr)

theorem State.gnssRefs_nodup (s : State) (p : Nat) : (s.gnssRefs p).Nodup := List.Nodup.filter _ (by decide)

theorem touches_missFirst (s : State) (r : Nat) : Touches [.refs] [] s (s.missFirst r) := touches_setLoupe ..

theorem State.loupe_missed (s : State) {l : List Nat} (hl : l.Nodup) (r : Nat) :
    (l.foldl State.missFirst s).loupe r = if r ∈ l then { s.loupe r with misses := 1 } else s.loupe r :=
  bank_foldl (look := State.loupe) (G := fun _ x => { x with misses := 1 }) (P := fun _ => True) (fun _ _ h => h)
    (fun u k j _ => State.loupe_setLoupe u k j _) hl trivial r

/-! ### The delivery -/

/-- The latch of this reel has its solution, or none. -/
def State.latchTaken (s : State) (p : Nat) : State := s.setGnssPort p { s.gnssPort p with solveDue := false }

theorem exec_solutionDelivery (hs : InService s) (hm : s.gnssMode p 1 = true) (hd : (s.gnssPort p).solveDue = true) (he : s.clock.exposure = 100)
    (hc : s.clock.cycle = 0) (hn : s.clock.exposureDue = false) : exec (.solutionDelivery p) s = .next ((s.latchTaken p).portSolution p) :=
  exec_serving hs rfl (if_pos (by simp [hm, hd, he, hc, hn]))

theorem exec_solutionDelivery_idle (hs : InService s) (hd : (s.gnssPort p).solveDue = false) : exec (.solutionDelivery p) s = .next s :=
  exec_serving hs rfl (if_neg (by simp [hd]))

/-- The latch solved, tested by the satellite checks, and solved again without what they exclude (R221, R227). -/
def State.solvedAgain (s : State) (p : Nat) : State × Option (Fit × List SatObs) :=
  if ((s.solve p).1.satelliteTests p).2 = 0 then (((s.solve p).1.satelliteTests p).1, (s.solve p).2) else ((s.solve p).1.satelliteTests p).1.solve p

/-- What becomes of a latch: no solution, or one that is checked and delivered. -/
def State.latchResult (s : State) (p : Nat) : State × Option (Fit × List SatObs) → State
  | (w, none) => w.noSolution p
  | (w, some (f, l)) => w.checkSolution p f l (s.goneSince w p) (s.inView p)

theorem State.portSolution_eq (s : State) (p : Nat) : s.portSolution p = s.latchResult p (s.solvedAgain p) := by
  unfold State.portSolution State.solvedAgain
  dsimp only
  generalize (if ((s.solve p).1.satelliteTests p).2 = 0 then (((s.solve p).1.satelliteTests p).1, (s.solve p).2)
    else ((s.solve p).1.satelliteTests p).1.solve p) = w
  match w with
  | (_, none) => rfl
  | (_, some (_, _)) => rfl

theorem State.solve_unmeasured (h : s.measOf p = []) : s.solve p = (s, none) := by
  have hobs : s.observations p = [] := by rw [State.observations, h]; rfl
  exact if_pos (by rw [hobs]; exact Nat.succ_pos _)

theorem State.satelliteTests_unmeasured (h : s.measOf p = []) : s.satelliteTests p = (s, 0) := by
  unfold State.satelliteTests
  simp [h]

/-- Without a measurement the latch has no solution. -/
theorem State.portSolution_unmeasured (h : s.measOf p = []) : s.portSolution p = s.noSolution p := by
  have hagain : s.solvedAgain p = (s, none) := by
    rw [State.solvedAgain, State.solve_unmeasured h, State.satelliteTests_unmeasured h, if_pos rfl]
  rw [State.portSolution_eq, hagain, State.latchResult]

/-! ### The mean position -/

/-- The mean position and its radius come into force, with position mode 1 (R225). -/
def State.positionTaken (s : State) (p : Nat) (x y z r : Int) : State :=
  ((((s.takeEffect (okey 0 0 (0x2603 + p) 9) x).takeEffect (okey 0 0 (0x2603 + p) 0x0A) y).takeEffect (okey 0 0 (0x2603 + p) 0x0B) z).takeEffect
    (okey 0 0 (0x2603 + p) 0x0C) r).takeEffect (okey 0 0 (0x2603 + p) 0x0D) 1

theorem within_positionTaken (s : State) (p : Nat) (x y z r : Int) : Within [.mgmt, .objs] s (s.positionTaken p x y z r) :=
  ((((touches_takeEffect ..).within (List.Subset.refl _)).trans ((touches_takeEffect ..).within (List.Subset.refl _))).trans
    (((touches_takeEffect ..).within (List.Subset.refl _)).trans ((touches_takeEffect ..).within (List.Subset.refl _)))).trans
    ((touches_takeEffect ..).within (List.Subset.refl _))

theorem State.objI_positionTaken (s : State) (p : Nat) (x y z r : Int) :
    (s.positionTaken p x y z r).objI (0x2603 + p) 9 = x ∧ (s.positionTaken p x y z r).objI (0x2603 + p) 0x0A = y ∧
    (s.positionTaken p x y z r).objI (0x2603 + p) 0x0B = z ∧ (s.positionTaken p x y z r).objI (0x2603 + p) 0x0D = 1 := by
  have hself (w : State) (j : Nat) (v : Int) : (w.takeEffect (okey 0 0 (0x2603 + p) j) v).objI (0x2603 + p) j = v :=
    (takeEffect_frame w _ v).1
  have hother (w : State) (i j : Nat) (v : Int) (hij : i ≠ j) :
      (w.takeEffect (okey 0 0 (0x2603 + p) j) v).objI (0x2603 + p) i = w.objI (0x2603 + p) i :=
    (State.objKey_takeEffect ..).trans (if_neg (okey_sub_ne hij))
  unfold State.positionTaken
  refine ⟨?_, ?_, ?_, hself ..⟩
  · rw [hother _ 9 _ _ (by decide), hother _ 9 _ _ (by decide), hother _ 9 _ _ (by decide), hother _ 9 _ _ (by decide), hself]
  · rw [hother _ 0x0A _ _ (by decide), hother _ 0x0A _ _ (by decide), hother _ 0x0A _ _ (by decide), hself]
  · rw [hother _ 0x0B _ _ (by decide), hother _ 0x0B _ _ (by decide), hself]

/-- A survey that has begun anew. -/
def GnssPort.unsurveyed (x : GnssPort) : GnssPort := { x with surveyN := 0, surveySum := (0, 0, 0), surveySq := 0 }

/-- The 3σ radius of a survey, mm (R225). -/
def GnssPort.radius (x : GnssPort) : Nat :=
  Nat.min (sqrtUp (9 * (((x.surveyN * x.surveySq : Nat) - (x.surveySum.1 * x.surveySum.1 + x.surveySum.2.1 * x.surveySum.2.1 +
    x.surveySum.2.2 * x.surveySum.2.2) : Int).toNat / (x.surveyN * x.surveyN)))) 0xFFFFFFFF

/-- The mean position of a port's survey in force. -/
def State.surveyTaken (s : State) (p : Nat) : State :=
  s.positionTaken p (roundDivI (s.gnssPort p).surveySum.1 (s.gnssPort p).surveyN) (roundDivI (s.gnssPort p).surveySum.2.1 (s.gnssPort p).surveyN)
    (roundDivI (s.gnssPort p).surveySum.2.2 (s.gnssPort p).surveyN) (s.gnssPort p).radius

/-- The end of a survey: its position, a new survey's start, and EMCY 0xFF57. -/
def State.surveyEnded (s : State) (p : Nat) : State :=
  ((s.surveyTaken p).setGnssPort p (s.gnssPort p).unsurveyed).emcy 0xFF57 (s.surveyTaken p).twin.active
    (p * 2 ^ 24 + Nat.min ((s.gnssPort p).radius / 1000) 255 * 2 ^ 16)

theorem exec_surveyComplete (hs : InService s) (hm : s.obj (0x2603 + p) 0x0D = 0) (hn : (s.gnssPort p).surveyN ≠ 0)
    (hd : s.obj (0x2603 + p) 0x0E ≤ s.obj (0x2603 + p) 0x0F) : exec (.surveyComplete p) s = .next (s.surveyEnded p) := by
  refine exec_serving hs rfl ?_
  unfold State.surveyComplete State.surveyEnded State.surveyTaken State.positionTaken GnssPort.radius GnssPort.unsurveyed
  exact if_neg (by simp [hm, hn, hd])

/-- The references of a port without a measurement miss their first solution. -/
theorem State.noSolution_first (h0 : (s.gnssPort p).solution = 0) (hm : ∀ r ∈ s.gnssRefs p, (s.loupe r).misses = 0) :
    s.noSolution p = (s.gnssRefs p).foldl State.missFirst s := by
  have hstate : s.solutionState p 0 0 = s := if_pos h0
  rw [State.noSolution_eq, hstate, missOne_foldl (s.gnssRefs_nodup p) hm]

theorem State.gnssPort_latchTaken (s : State) (p : Nat) : (s.latchTaken p).gnssPort p = { s.gnssPort p with solveDue := false } :=
  State.gnssPort_setGnssPort_self ..

theorem State.measOf_latchTaken (s : State) (p : Nat) : (s.latchTaken p).measOf p = s.measOf p := rfl

theorem State.gnssRefs_latchTaken (s : State) (p : Nat) : (s.latchTaken p).gnssRefs p = s.gnssRefs p := rfl

theorem State.loupe_latchTaken (s : State) (p r : Nat) : (s.latchTaken p).loupe r = s.loupe r := rfl

theorem touches_latchTaken (s : State) (p : Nat) : Touches [.gnss] [] s (s.latchTaken p) := touches_setGnssPort ..

/-- A latch without measurements: the references of its port miss a solution, and nothing else changes (R131, R221). -/
theorem turns_solutionDelivery_unmeasured (hexec : exec (.solutionDelivery p) s = .next ((s.latchTaken p).portSolution p)) (h : s.measOf p = [])
    (h0 : (s.gnssPort p).solution = 0) (hm : ∀ r ∈ s.gnssRefs p, (s.loupe r).misses = 0) :
    Turns (.solutionDelivery p) s [.gnss, .refs] [] fun t => t.gnssPort p = { s.gnssPort p with solveDue := false } ∧
      ∀ r, t.loupe r = if r ∈ s.gnssRefs p then { s.loupe r with misses := 1 } else s.loupe r := by
  have hmissed : (s.latchTaken p).portSolution p = (s.gnssRefs p).foldl State.missFirst (s.latchTaken p) := by
    rw [State.portSolution_unmeasured (s := s.latchTaken p) ((s.measOf_latchTaken p).trans h),
      State.noSolution_first (by rw [State.gnssPort_latchTaken]; exact h0) (by
        intro r hr
        rw [State.gnssRefs_latchTaken] at hr
        rw [State.loupe_latchTaken]
        exact hm r hr), State.gnssRefs_latchTaken]
  rw [hmissed] at hexec
  have hfold : Touches [.refs] [] (s.latchTaken p) ((s.gnssRefs p).foldl State.missFirst (s.latchTaken p)) := touches_foldl touches_missFirst _ _
  have ht := (touches_latchTaken s p).andThen hfold
  refine turns_of hexec ⟨?_, fun r => ?_⟩ ht.objects ht.frame
  · rw [State.gnssPort_congr (hfold.frame .gnss (by decide)), State.gnssPort_latchTaken]
  · rw [State.loupe_missed _ (s.gnssRefs_nodup p), State.loupe_latchTaken]

/-- A latch with or without a solution (R221, R229). -/
theorem completes_solutionDelivery {u : State} {w : State × Option (Fit × List SatObs)}
    (hexec : exec (.solutionDelivery p) s = .next (u.portSolution p)) (hclock : u.clock = s.clock) {v : State} (hv : v = ((u.solve p).1.satelliteTests p).1)
    (hw : w = (if ((u.solve p).1.satelliteTests p).2 = 0 then (v, (u.solve p).2) else v.solve p)) :
    CompletesWith (.solutionDelivery p) s fun t => t.clock = s.clock ∧ match w.2 with
      | none => (t.gnssPort p).solution = 0
      | some (f, _) => (t.gnssPort p).last = some (w.1.solutionOffset f) ∧ (t.gnssPort p).lastReel = w.1.clock.reel ∧
          (w.1.referenceTests p (w.1.solutionOffset f) (u.goneSince w.1 p) (u.inView p) = [] → (w.1.gnssPort p).excluded = 0 →
            w.1.obj (0x2603 + p) 0x0D = 1 → (t.gnssPort p).solution = 2) := by
  refine completes_intro hexec ⟨(tick_clock (State.portSolution_tick u p)).trans hclock, ?_⟩
  have hagain : u.solvedAgain p = w := by rw [hw, hv, State.solvedAgain]
  rw [State.portSolution_eq, hagain]
  clear hw
  match w with
  | (w, none) => exact w.solution_noSolution p
  | (w, some (f, _)) =>
    obtain ⟨hlast, hreel⟩ := w.last_checkSolution p f _ (u.goneSince w p) (u.inView p)
    exact ⟨hlast, hreel, w.checkSolution_fix p f _ (u.goneSince w p) (u.inView p)⟩

/-- What the end of a survey leaves. -/
theorem State.surveyEnded_facts (s : State) (p : Nat) :
    (s.surveyEnded p).gnssPort p = (s.gnssPort p).unsurveyed ∧ (s.surveyEnded p).clock = s.clock ∧
    (∀ j, j ≠ 5 → (s.surveyEnded p).objI (0x2603 + p) j = (s.surveyTaken p).objI (0x2603 + p) j) := by
  have ht := (touches_setGnssPort (s.surveyTaken p) p (s.gnssPort p).unsurveyed).andThen
    (touches_emcy _ 0xFF57 (s.surveyTaken p).twin.active (p * 2 ^ 24 + Nat.min ((s.gnssPort p).radius / 1000) 255 * 2 ^ 16))
  refine ⟨?_, ?_, fun j hj => ht.objects _ ?_⟩
  · exact (State.gnssPort_congr (State.emcy_gnss ..) p).trans (State.gnssPort_setGnssPort_self ..)
  · exact (ht.frame .clock (by decide)).trans ((within_positionTaken ..).frame .clock (by decide))
  · simp only [List.nil_append, List.mem_singleton, lostKey, okey]
    omega

end Sys2Proof.Machine

namespace Sys2Proof.Proofs
open Sys2Proof Sys2Proof.Machine

/-- Settles O32: the delivery, the end of exclusions and of a survey, then the tracks. -/
theorem solutionsSurveysAndTracks : Obligations.SolutionsSurveysAndTracks := by
  intro s tr p mask q hs
  have hgate : s.gate 0x2605 6 = none := gate_at hs _ _ (by decide) (by decide) (by decide)
  have htracks : s.gate 0x260B 4 = none := gate_at hs _ _ (by decide) (by decide) (by decide)
  refine ⟨fun hm hd he hc hn u hu v hv w hw => ⟨?_, fun h h0 hmiss => ?_⟩, exec_solutionDelivery_idle hs, ?_, fun h => ?_, fun hm hn hd => ?_,
    fun t0 ht => ⟨fun hb hearly => exec_trackEnd_early hs ht hb hearly, turns_trackEnd_broken hs ht, fun hb hlate kept hk => turns_trackEnd_complete hs ht hb hlate hk⟩,
    fun l hl => ?_, fun hnone => refuses_of rfl hs htracks (trackReleaseOp_none hnone)⟩
  · have hexec : exec (.solutionDelivery p) s = .next (u.portSolution p) := by
      rw [hu]
      exact exec_solutionDelivery hs hm hd he hc hn
    have hclock : u.clock = s.clock := by rw [hu, State.setGnssPort_clock]
    exact completes_solutionDelivery hexec hclock hv hw
  · exact turns_solutionDelivery_unmeasured (exec_solutionDelivery hs hm hd he hc hn) h h0 hmiss
  · rintro ⟨k, hk, hb, hbad⟩
    exact refuses_of rfl hs hgate (clearExclusionOp_none hk hb hbad)
  · have hclear : Within (.gnss :: refParts) s ((bitsSet mask 2).foldl State.clearPort s) := within_foldl frame_clearPort _ s
    refine completes_intro (exec_confirmed rfl (listens_at hs) hgate (clearExclusionOp_all h)) ⟨?_, fun k => ?_⟩
    · exact (State.respond_clock ..).trans (hclear.frame .clock (by decide))
    · rw [State.gnssPort_congr (State.respond_gnss ..), State.gnssPort_clearPorts]
      exact if_congr (by simp [bitsSet]) rfl rfl
  · obtain ⟨hport, hclock, hobj⟩ := s.surveyEnded_facts p
    obtain ⟨hx, hy, hz, hmode⟩ := s.objI_positionTaken p (roundDivI (s.gnssPort p).surveySum.1 (s.gnssPort p).surveyN)
      (roundDivI (s.gnssPort p).surveySum.2.1 (s.gnssPort p).surveyN) (roundDivI (s.gnssPort p).surveySum.2.2 (s.gnssPort p).surveyN) (s.gnssPort p).radius
    refine completes_intro (exec_surveyComplete hs hm hn hd) ⟨hport, ?_, (hobj 9 (by decide)).trans hx, (hobj 0x0A (by decide)).trans hy,
      (hobj 0x0B (by decide)).trans hz, hclock⟩
    exact congrArg Int.toNat ((hobj 0x0D (by decide)).trans hmode)
  · exact confirms_part rfl hs htracks (trackReleaseOp_some hl) (touches_gnss s _) fun r => State.respond_gnss ..

end Sys2Proof.Proofs
end

section
/-! PROOF. Serving steps (R43, R297, R308, R309, R314): the frame that a step schedules, and what the step leaves. -/

namespace Sys2Proof.Machine

variable {s t u : State} {eng op i k : Nat} {x : PlanStep} {d : Departure}

/-! ### A step at work -/

theorem serve1_works {r : Option Request} (h : StepWorks s eng op x r t) (work : PlanStep → Option Request → State → State) :
    s.serve1 eng op work = work x r t := by
  obtain ⟨hstep, hbound, hshed, hready, hserving⟩ := h
  unfold State.serve1
  rw [hstep]
  dsimp only
  rw [hbound]
  exact (if_neg hshed).trans ((if_neg (by simp [hready])).trans (if_neg fun h => hserving h.1))

/-! ### The frame scheduled -/

/-- The frame of a step as it enters the scheduled region (R269, R297). -/
def State.framed (s : State) (d : Departure) (frames : List Served) (request : Option Nat) (whole : Bool) : Scheduled :=
  { eng := d.eng, pos := d.pos, due := s.dueCycle d, frames := frames.map s.addressed, request := request, whole := whole, built := s.now,
    stamps := [0, 1].map fun p => s.txTime 0 (d.pos + 12 * p) (d.at p),
    digest := crc64 (match frames with | f :: _ => s.pairOctets d f | [] => []) }

theorem State.schedule_eq (s : State) (d : Departure) (frames : List Served) (request : Option Nat) (whole : Bool) :
    s.schedule d frames request whole = { s with plans := { s.plans with live := s.plans.live ++ [s.framed d frames request whole] } } := by
  unfold State.schedule State.framed
  rfl

theorem touches_schedule (s : State) (d : Departure) (frames : List Served) (request : Option Nat) (whole : Bool) :
    Touches [.plans] [] s (s.schedule d frames request whole) := by
  rw [State.schedule_eq]
  exact touches_plans ..

theorem State.live_schedule (s : State) (d : Departure) (frames : List Served) (request : Option Nat) (whole : Bool) :
    (s.schedule d frames request whole).plans.live = s.plans.live ++ [s.framed d frames request whole] := by
  rw [State.schedule_eq]

theorem State.dueCycle_congr (hc : t.clock = s.clock) (ht : t.twin = s.twin) (d : Departure) : t.dueCycle d = s.dueCycle d := by
  rw [State.dueCycle, State.now_congr hc, hc, ht, State.dueCycle]

/-- A frame with its addresses keeps what it says; an NTP frame keeps its ports (R252). -/
theorem State.addressed_says (s : State) (f : Served) : ∃ ports corr header,
    s.addressed f = { f with udpPorts := ports, corrField := corr, ipHeader := header } ∧ (f.isNtp = true → ports = f.udpPorts) := by
  unfold State.addressed
  dsimp only
  split
  · exact ⟨f.udpPorts, f.corrField, f.ipHeader, rfl, fun _ => rfl⟩
  · exact ⟨_, _, _, rfl, fun h => if_pos h⟩

/-- Both copies of a PTP frame say the same message of the same service. -/
theorem State.framed_ptp (s : State) (d : Departure) (frames : List Served) (request : Option Nat) (whole : Bool) :
    (s.framed d frames request whole).frames.map (fun g => (g.message, g.inst, g.sequence, g.echo)) =
      frames.map fun g => (g.message, g.inst, g.sequence, g.echo) := by
  refine (List.map_map ..).trans (List.map_congr_left fun f _ => ?_)
  obtain ⟨ports, corr, header, h, _⟩ := s.addressed_says f
  rw [Function.comp_apply, h]

/-- The PTP frames of a service without authentication are scheduled as they are, under its port's identity (R302). -/
theorem State.scheduleSigned_off (h : s.authOn i = false) (d : Departure) (spp key : Nat) (frames : List Served) (request : Option Nat) :
    s.scheduleSigned d i spp key frames request = s.schedule d (frames.map fun f => { f with source := s.portIdentity i d.pos }) request true :=
  if_pos (by simp [h])

/-- What a step without authentication schedules: its frame, and nothing else changes. -/
structure Sends (s t : State) (d : Departure) (said : Nat × Nat × Nat × Nat) : Prop where
  frame : ∃ f, t.plans.live = s.plans.live ++ [f] ∧ f.eng = d.eng ∧ f.pos = d.pos ∧ f.due = s.dueCycle d ∧
    f.frames.map (fun g => (g.message, g.inst, g.sequence, g.echo)) = List.replicate 2 said
  touches : Touches [.plans] [] s t

theorem sends_scheduleSigned {said : Nat × Nat × Nat × Nat} (h : s.authOn i = false) (d : Departure) (spp key : Nat) (make : Nat → Nat → Nat → Served)
    (request : Option Nat) (hsaid : ∀ p n a, ((make p n a).message, (make p n a).inst, (make p n a).sequence, (make p n a).echo) = said) :
    Sends s (s.scheduleSigned d i spp key (s.copies d make) request) d said := by
  rw [State.scheduleSigned_off h]
  refine ⟨⟨_, State.live_schedule .., rfl, rfl, rfl, ?_⟩, touches_schedule ..⟩
  rw [State.framed_ptp, List.map_map]
  change [_, _] = [said, said]
  rw [← hsaid 0 (d.pos + 12 * 0) (d.at 0)]
  refine congrArg₂ _ rfl (congrArg₂ _ ?_ rfl)
  exact (hsaid 1 _ _).trans (hsaid 0 _ _).symm

/-! ### Calendar streams -/

/-- The grant of a stream for its calendar: its Syncs, or its Announces (R308). -/
def Stream.due (x : Stream) (kind : Nat) : Grant := if kind = 0 then x.sync else x.announce

def Stream.withDue (x : Stream) (kind : Nat) (g : Grant) : Stream := if kind = 0 then { x with sync := g } else { x with announce := g }

/-- A stream of the position is bound: it takes its next due time and sequence (R308). -/
def State.streamBound (s : State) (i pos kind : Nat) : State :=
  s.setStream i pos ((s.stream i pos).withDue kind (s.afterBinding ((s.stream i pos).due kind)).1)

theorem touches_owe (s : State) (pos : Nat) (o : Owed) : Touches [.serve] [] s (s.owe pos o) := touches_serve s _

theorem touches_streamBound (s : State) (i pos kind : Nat) : Touches [.serve] [] s (s.streamBound i pos kind) := touches_serve s _

theorem touches_oweL1 (s : State) (i pos kind client : Nat) : Touches [.serve] [] s (s.oweL1 i pos kind client) := by
  unfold State.oweL1
  split
  · exact touches_owe ..
  · exact .refl s

theorem State.authOn_congr (h : t.objs = s.objs) (i : Nat) : t.authOn i = s.authOn i := by
  rw [State.authOn, obj_of_objs h, State.authOn]

theorem Touches.objs {parts : List Part} {keys : List Nat} (h : Touches parts keys s t) (hp : .objs ∉ parts) : t.objs = s.objs := h.frame .objs hp

/-- A stream whose calendar has missed no period, bound and sent. -/
theorem State.sendCalendar_stream {kind : Nat} (hp : (s.afterBinding ((s.stream i d.pos).due kind)).2 = 0) :
    s.sendCalendar d kind (.stream i) = ((s.streamBound i d.pos kind).oweL1 i d.pos kind 0).scheduleSigned d i (s.obj (ptpIdx i) 0x12) (s.obj (ptpIdx i) 0x13)
      (s.copies d fun _ n a => s.ptpFrame i kind 0 ((s.stream i d.pos).due kind).sequence ((s.stream i d.pos).due kind).interval n a)
      (if decide (kind = 0) && bit (s.obj (ptpIdx i) 0x1F) 0 then some (0xEFF0 + i) else none) := by
  unfold State.streamBound Stream.withDue
  unfold Stream.due at hp ⊢
  unfold State.sendCalendar
  dsimp only
  generalize s.afterBinding (if kind = 0 then (s.stream i d.pos).sync else (s.stream i d.pos).announce) = b at hp ⊢
  obtain ⟨g, passed⟩ := b
  dsimp only at hp ⊢
  rw [hp, if_pos rfl]

/-- The position's stream is bound, and what L1Sync owes with an Announce is owed (R308, R309). -/
def State.calendarBound (s : State) (i pos kind : Nat) : State := (s.streamBound i pos kind).oweL1 i pos kind 0

theorem touches_calendarBound (s : State) (i pos kind : Nat) : Touches [.serve] [] s (s.calendarBound i pos kind) :=
  (touches_streamBound ..).trans (touches_oweL1 ..)

theorem sends_sendCalendar {kind : Nat} (ha : s.authOn i = false) (hp : (s.afterBinding ((s.stream i d.pos).due kind)).2 = 0) :
    Sends (s.calendarBound i d.pos kind) (s.sendCalendar d kind (.stream i)) d (kind, i, ((s.stream i d.pos).due kind).sequence, 0) := by
  rw [State.sendCalendar_stream hp]
  have hauth : (s.calendarBound i d.pos kind).authOn i = false := by
    rw [State.authOn_congr ((touches_calendarBound s i d.pos kind).objs (by decide)), ha]
  exact sends_scheduleSigned hauth d _ _ _ _ fun _ _ _ => rfl

theorem State.stream_oweL1 (s : State) (j q pos kind client : Nat) : (s.oweL1 j pos kind client).stream i q = s.stream i q := by
  unfold State.oweL1
  split
  · rfl
  · rfl

theorem State.stream_calendarBound (s : State) (i pos kind : Nat) :
    (s.calendarBound i pos kind).stream i pos = (s.stream i pos).withDue kind (s.afterBinding ((s.stream i pos).due kind)).1 :=
  (State.stream_oweL1 ..).trans (State.stream_setStream_self ..)

/-- What a position owes. -/
def State.owedAt (s : State) (pos : Nat) : List Owed := s.serve.owed.look (fun _ => []) pos

theorem State.owedAt_owe (s : State) (pos : Nat) (o : Owed) : (s.owe pos o).owedAt pos = s.owedAt pos ++ [o] := Table.look_put_self ..

theorem State.l1Runs_congr (h : t.objs = s.objs) (i pos : Nat) : t.l1Runs i pos = s.l1Runs i pos := by
  have hobj : t.obj = s.obj := funext₂ fun a b => obj_of_objs h a b
  rw [State.l1Runs, State.profile, hobj, State.l1Runs, State.profile]

/-- With an Announce the L1_SYNC message is owed where the position runs L1Sync (R309). -/
theorem State.owedAt_announced (h : s.owedAt k = []) :
    (s.calendarBound i k 1).owedAt k = if s.l1Runs i k = true then [.l1sync i 0] else [] := by
  have hruns : (s.streamBound i k 1).l1Runs i k = s.l1Runs i k := State.l1Runs_congr rfl i k
  have howed : (s.streamBound i k 1).owedAt k = [] := h
  unfold State.calendarBound State.oweL1
  rw [hruns]
  by_cases hl : s.l1Runs i k = true
  · rw [if_pos ⟨rfl, hl⟩, if_pos hl, State.owedAt_owe, howed]
    rfl
  · rw [if_neg fun hc => hl hc.2, if_neg hl]
    exact howed

/-- What a step sends for a stream of its calendar (R308): the frame, the stream's next due time, and what is owed. -/
structure StreamSent (s t : State) (d : Departure) (i kind : Nat) : Prop where
  frame : ∃ f, t.plans.live = s.plans.live ++ [f] ∧ f.eng = d.eng ∧ f.pos = d.pos ∧ f.due = s.dueCycle d ∧
    f.frames.map (fun g => (g.message, g.inst, g.sequence)) = List.replicate 2 (kind, i, ((s.stream i d.pos).due kind).sequence)
  stream : t.stream i d.pos = (s.stream i d.pos).withDue kind (s.afterBinding ((s.stream i d.pos).due kind)).1
  owed : t.owedAt d.pos = (s.calendarBound i d.pos kind).owedAt d.pos
  touches : Touches [.serve, .plans] [] s t

theorem streamSent {kind : Nat} (ha : s.authOn i = false) (hp : (s.afterBinding ((s.stream i d.pos).due kind)).2 = 0) :
    StreamSent s (s.sendCalendar d kind (.stream i)) d i kind := by
  have hb := touches_calendarBound s i d.pos kind
  have hstream := s.stream_calendarBound i d.pos kind
  obtain ⟨⟨f, hlive, heng, hpos, hdue, hsaid⟩, ht⟩ := sends_sendCalendar ha hp
  have hserve := ht.frame .serve (by decide)
  refine ⟨⟨f, ?_, heng, hpos, ?_, ?_⟩, ?_, ?_, hb.andThen ht⟩
  · rw [hlive, hb.frame .plans (by decide)]
  · rw [hdue, State.dueCycle_congr (hb.frame .clock (by decide)) (hb.frame .twin (by decide))]
  · have hmapped := congrArg (List.map fun q : Nat × Nat × Nat × Nat => (q.1, q.2.1, q.2.2.1)) hsaid
    rw [List.map_map] at hmapped
    exact hmapped
  · rw [← hstream, State.stream, hserve, State.stream]
  · rw [State.owedAt, hserve, State.owedAt]

/-! ### Follow-ups -/

/-- The first message that a position owes is taken. -/
def State.owedTaken (s : State) (pos : Nat) (rest : List Owed) : State :=
  { s with serve := { s.serve with owed := s.serve.owed.put (fun _ => []) pos rest } }

theorem touches_owedTaken (s : State) (pos : Nat) (rest : List Owed) : Touches [.serve] [] s (s.owedTaken pos rest) := touches_serve s _

theorem State.owedAt_owedTaken (s : State) (pos : Nat) (rest : List Owed) : (s.owedTaken pos rest).owedAt pos = rest := Table.look_put_self ..

theorem sends_followUp {echo seq : Nat} {tx : List Int} (ha : s.authOn i = false) : Sends s (s.sendOwed d (.followUp i echo seq tx)) d (4, i, seq, echo) :=
  sends_scheduleSigned ha d _ _ _ _ fun _ _ _ => rfl

/-! ### The steps -/

theorem exec_ptpEvent {r : Option Request} (hs : InService s) (h : StepWorks s eng 0x11 x r t) : exec (.ptpEvent eng) s = .next
    (match t.earliestDue x.pos 0 with | none => t | some e => t.sendCalendar (t.departureOf eng x) 0 e) :=
  exec_serving hs rfl (serve1_works h _)

theorem exec_ptpGeneral (hs : InService s) (h : StepWorks s eng 0x12 x none t) : exec (.ptpGeneral eng) s = .next (t.generalIdle eng x) :=
  exec_serving hs rfl (serve1_works h _)

theorem State.generalIdle_announce {e : CalendarEntry} (ho : t.owedAt x.pos = []) (he : t.earliestDue x.pos 1 = some e) :
    t.generalIdle eng x = t.sendCalendar (t.departureOf eng x) 1 e := by
  unfold State.owedAt at ho
  unfold State.generalIdle
  rw [ho, he]

theorem State.generalIdle_owed {o : Owed} {rest : List Owed} (ho : t.owedAt x.pos = o :: rest) :
    t.generalIdle eng x = (t.owedTaken x.pos rest).sendOwed ((t.owedTaken x.pos rest).departureOf eng x) o := by
  unfold State.owedAt at ho
  unfold State.generalIdle
  rw [ho]
  rfl

/-! ### The NAK -/

theorem touches_becomesSevere (s : State) (lane : Bool) (id : Nat) :
    Touches [.mgmt, .objs, .faults] [okey 0 0 0x2D20 8, lostKey] s (s.becomesSevere lane id) :=
  ((touches_bump s 0x2D20 8).andThen (touches_report ..)).mono (by decide) (by simp)

/-- The counters of the classifier. -/
def classifierKeys : List Nat := [okey 0 0 0x2D20 8, okey 0 0 0x2D20 9, okey 0 0 0x2D20 0x0A, lostKey]

theorem touches_addressEvent (s : State) (addr : Nat) : Touches [.mgmt, .objs, .faults] classifierKeys s (s.addressEvent addr) := by
  have hentered (e v : Nat) (y : Source) (c : Prop) [Decidable c] : Touches [.mgmt, .objs, .faults] classifierKeys s
      (if c then (s.setAddressSource e y).becomesSevere false v else s.setAddressSource e y) := by
    split
    · exact ((touches_setAddressSource s e y).andThen (touches_becomesSevere ..)).mono (by decide) (by simp [classifierKeys])
    · exact (touches_setAddressSource ..).mono (by decide) (List.nil_subset _)
  unfold State.addressEvent
  dsimp only
  split
  · exact (touches_bump ..).mono (by decide) (by simp [classifierKeys])
  · exact hentered ..

theorem touches_laneEvent (s : State) (n : Nat) : Touches [.mgmt, .objs, .faults] classifierKeys s (s.laneEvent n) := by
  unfold State.laneEvent
  dsimp only
  split
  · exact ((touches_setLaneSource s _ _).andThen (touches_becomesSevere ..)).mono (by decide) (by simp [classifierKeys])
  · exact (touches_setLaneSource ..).mono (by decide) (List.nil_subset _)

theorem touches_classify (s : State) (addr lane : Nat) : Touches [.mgmt, .objs, .faults] classifierKeys s (s.classify addr lane) :=
  (((touches_bump ..).mono (by decide) (by simp [classifierKeys])).trans (touches_addressEvent ..)).trans (touches_laneEvent ..)

section nak
variable {r : Request} {m : NtpMessage} {j ph : Nat} {uid cookie : Octets}

/-- A NAK for a plate's lane (R314). -/
def nakFrame (j : Nat) (r : Request) (m : NtpMessage) (uid : Octets) : Served :=
  { message := 7, inst := j, client := r.frame.address, udpPorts := r.ntpPorts, echo := m.transmit, quality := [0, 0, 0, m.poll, 0, 0x4E54534E], uniqueId := uid }

/-- A request whose cookie no generation issued is answered with a NAK (Table 11.11, step 4). -/
theorem State.ntsRequest_nak (h48 : 48 ≤ m.payload) (h1280 : m.payload ≤ 1280) (h4 : m.payload % 4 = 0) (hv : m.version = 4) (hm : m.mode = 3)
    (hf : ntsFields m.fields = some (uid, cookie, ph)) (hc : t.checkCurrent.cookieEntry (beNat (cookie.take 4)) = none) :
    t.ntsRequest d j r m = (t.checkCurrent.sendNak d j r m uid).classify r.frame.address r.lane := by
  have hopen : t.checkCurrent.openCookie cookie = (t.checkCurrent, none) := by
    unfold State.openCookie
    rw [hc]
  unfold State.ntsRequest
  dsimp only
  rw [if_neg (by omega), hf]
  dsimp only
  rw [hopen]

theorem exec_ntsReply_idle (hs : InService s) (h : StepWorks s eng 0x10 x none t) : exec (.ntsReply eng) s = .next t :=
  exec_serving hs rfl (serve1_works h _)

theorem exec_ntsReply (hs : InService s) (h : StepWorks s eng 0x10 x (some r) t) : exec (.ntsReply eng) s = .next (t.ntsStep eng x r) :=
  exec_serving hs rfl (serve1_works h _)

theorem State.ntsStep_request (hp : r.frame.payload = .ntp none m) (hj : t.ntpInstance x.pos r.frame = some j) :
    t.ntsStep eng x r = t.ntsRequest (t.departureOf eng x) j r m := by
  unfold State.ntsStep
  rw [hp]
  dsimp only
  rw [hj]

/-- Both copies of a NAK say the same, to the port that the request came from. -/
theorem State.framed_nak (s : State) (d : Departure) (j : Nat) (r : Request) (m : NtpMessage) (uid : Octets) (request : Option Nat) (whole : Bool) :
    (s.framed d (s.copies d fun _ _ _ => nakFrame j r m uid) request whole).frames.map
        (fun g => (g.message, g.inst, g.client, g.udpPorts, g.echo, g.quality, g.uniqueId)) =
      List.replicate 2 (7, j, r.frame.address, r.ntpPorts, m.transmit, [0, 0, 0, m.poll, 0, 0x4E54534E], uid) := by
  obtain ⟨ports, corr, header, h, hports⟩ := s.addressed_says (nakFrame j r m uid)
  have hkept : ports = r.ntpPorts := hports rfl
  change [_, _] = [_, _]
  rw [h, hkept]
  rfl

/-- The counter of the NAK (0x0B), then its frame. -/
theorem State.sendNak_eq (s : State) (d : Departure) (j : Nat) (r : Request) (m : NtpMessage) (uid : Octets) : s.sendNak d j r m uid =
    (s.bump (ntpIdx j) 0x0B).schedule d ((s.bump (ntpIdx j) 0x0B).copies d fun _ _ _ => nakFrame j r m uid) none true := rfl

end nak

end Sys2Proof.Machine

namespace Sys2Proof.Proofs
open Sys2Proof Sys2Proof.Machine

/-- Settles O39: each step by what it finds bound, due or owed. -/
theorem servingStepsBuildTheirFrames : Obligations.ServingStepsBuildTheirFrames := by
  intro s t eng x d hs hd
  refine ⟨fun r m j ph uid cookie h hp hj h48 h1280 h4 hv hm hf hc => ?_, fun h => exec_ntsReply_idle hs h, fun i h he ha hpassed => ?_, fun h he => ?_,
    fun i h ho he ha hpassed => ?_, fun i echo seq tx rest h ho ha => ?_⟩
  · have hexec := exec_ntsReply hs h
    rw [State.ntsStep_request hp hj, ← hd, State.ntsRequest_nak h48 h1280 h4 hv hm hf hc, State.sendNak_eq] at hexec
    have hcounted := ((touches_checkCurrent t).andThen (touches_bump _ (ntpIdx j) 0x0B)).frame
    refine completes_intro hexec ?_
    generalize (t.checkCurrent.bump (ntpIdx j) 0x0B) = v at hcounted ⊢
    refine ⟨v.framed d (v.copies d fun _ _ _ => nakFrame j r m uid) none true, ?_, ?_, ?_, ?_, rfl, v.framed_nak d j r m uid none true⟩
    · rw [(touches_classify ..).frame .plans (by decide), State.live_schedule, hcounted .plans (by decide)]
    · rw [hd]
      rfl
    · rw [hd]
      rfl
    · exact State.dueCycle_congr (hcounted .clock (by decide)) (hcounted .twin (by decide)) d
  · have hexec := exec_ptpEvent hs h
    rw [he, ← hd] at hexec
    have hpos : d.pos = x.pos := congrArg Departure.pos hd
    rw [← hpos] at hpassed ⊢
    obtain ⟨⟨f, hlive, heng, hplace, hdue, hsaid⟩, hstream, _, ht⟩ := streamSent (kind := 0) ha hpassed
    exact completes_intro hexec ⟨f, hlive, heng.trans (congrArg Departure.eng hd), hplace, hdue, hsaid, hstream, ht.objects, ht.frame⟩
  · have hexec := exec_ptpEvent hs h
    rw [he] at hexec
    exact hexec
  · have hexec := exec_ptpGeneral hs h
    rw [State.generalIdle_announce ho he, ← hd] at hexec
    have hpos : d.pos = x.pos := congrArg Departure.pos hd
    rw [← hpos] at hpassed ho ⊢
    obtain ⟨⟨f, hlive, heng, hplace, hdue, hsaid⟩, hstream, howed, ht⟩ := streamSent (kind := 1) ha hpassed
    exact completes_intro hexec ⟨f, hlive, heng.trans (congrArg Departure.eng hd), hplace, hdue, hsaid, hstream, howed.trans (State.owedAt_announced ho),
      ht.objects, ht.frame⟩
  · have hexec := exec_ptpGeneral hs h
    rw [State.generalIdle_owed ho] at hexec
    have hb := touches_owedTaken t x.pos rest
    have hauth : (t.owedTaken x.pos rest).authOn i = false := by rw [State.authOn_congr (hb.objs (by decide)), ha]
    obtain ⟨⟨f, hlive, heng, hplace, _, hsaid⟩, ht⟩ := sends_followUp hauth
    have hserve := ht.frame .serve (by decide)
    refine completes_intro hexec ⟨f, ?_, heng, hplace, hsaid, ?_, (hb.andThen ht).objects, (hb.andThen ht).frame⟩
    · rw [hlive, hb.frame .plans (by decide)]
    · rw [hserve]
      exact State.owedAt_owedTaken ..

end Sys2Proof.Proofs
end
